-- ==== Sys2Proof/Word.lean ====
section
/-! DEFINITION. The word types of the block and their plainest arithmetic: octets, 64-bit register words, and the
sparse map every addressed store of the block is held in. -/

namespace Sys2Proof

/-- One octet. -/
abbrev Byte := BitVec 8

/-- One 64-bit register or message word (R4). -/
abbrev Word := BitVec 64

/-- A sparse store: (key, value) pairs in strictly rising key order; what an unlisted key reads as is fixed by the
operation that reads it (`SMap.getD`, Machine/Ops.lean). -/
abbrev SMap (α : Type) := List (Nat × α)

end Sys2Proof
end

