-- ==== Sys2Proof/Syntax.lean ====
section
/-! DEFINITION. The commands of the block: one constructor of `Instr` per row of opcode_table.json, with the operands
that the outside world supplies (who writes what, what arrives on a pin or a link, how the fabric answers, how much
time has passed). -/

namespace Sys2Proof

/-- The agents of R11 and R360; `host f unpriv` is host function f, with an unprivileged request when `unpriv` (R475). -/
inductive Agent where
  | curator
  | docent
  | host (f : Fin 4) (unpriv : Bool)
  | twin
  | sequencer
  deriving DecidableEq, Repr

/-- One register write as R508 carries it: who, which octets, what. -/
structure RegWr where
  agent : Agent
  mask : BitVec 8
  data : Word
  deriving DecidableEq, Repr

/-- A word on a port's receive lanes (R191): UPn_RXV, UPn_RXD, UPn_RXC, and the UP_CLK[n] edge that brings it, after the last TICK in
2^-16 ns. -/
structure PortWord where
  valid : Bool
  data : Nat
  codes : Nat
  edge : Nat
  deriving DecidableEq, Repr

/-- The answer of the fabric to a request of the block (R502). -/
inductive Rsp where
  | done
  | fault
  | deny
  deriving DecidableEq, Repr

/-- A control or upstream message: 64-bit words, first transmitted first (R5). -/
abbrev Msg := List Word

/-- What an outstanding fabric request was issued for; it names the request for its answer and for ACF_TIMEOUT. -/
inductive FabKind where
  | eventRecord (q idx : Nat)
  | traceRecord (seq : Nat)
  | spillWrite (c n : Nat)
  | spillRead (c : Nat)
  | wqFetch (q : Nat)
  | sendData (q idx : Nat)
  | completion (q idx : Nat)
  | ringHeader (q : Nat)
  | hostIdx (q : Nat)
  | rxData (q idx : Nat)
  | slcRead (c burst : Nat)
  | slcWrite (c burst : Nat)
  | image
  deriving DecidableEq, Repr

/-- A memory upset that one cycle of the sequencer meets (R333): none; single-bit errors in n halves of the patch word fetched, or an
uncorrectable one; a single-bit error in the scratch word loaded, or an uncorrectable one. -/
inductive SeqUpset where
  | none
  | patchFlip (n : Nat)
  | patchLost
  | scratchFlip
  | scratchLost
  deriving DecidableEq, Repr

/-- A stretch of the per-frame routine. Either microwords of the control store, one core cycle for each upset of the list; or what R320 says
of the ROM's duties, whose microwords the spec does not list: n cycles of a duty in ROM, the last word issued at `last`, with `next`
to follow; n cycles of the header wait; the COMMIT of grant filing; an upset of a scratch word; the END_FRAME of the
epilogue. -/
inductive SeqSeg where
  | words (l : List SeqUpset)
  | duty (k n last next : Nat)
  | wait (n : Nat)
  | file
  | upset (addr : Nat) (lost : Bool)
  | finish
  deriving DecidableEq, Repr


/-- What Docent reads before it takes an admin command (R273, R274): the work entry, and word 1 of the header of the admin
completion queue. -/
structure AdminIn where
  words : List Word
  hostIdx : Word
  deriving DecidableEq, Repr


/-- A memory upset met inside a step (R490, R374, R376): a corrected single-bit error; an uncorrectable packet buffer cell,
table slot (location as CLS_UPD_CMD [32:4]), reassembly, key slot, configuration entry or counter (register offset),
AON save word (offset of the register restored from it), overflow store entry in one copy or in both (completion queue),
cached work entry, sequencer patch or scratch word, Docent or Curator RAM word, or Vitrine counter in both copies (`frm`: the
frame counter of the pair, else its octet counter); and a frame observation that fails
parity. `loc` is the word index within the array (RST_ECC_LOG). -/
inductive Upset where
  | corrected
  | bufferCell (loc : Nat)
  | tableSlot (loc : Nat)
  | reassembly (entry loc : Nat)
  | keySlot (n loc : Nat)
  | configEntry (off loc : Nat)
  | counterEntry (off loc : Nat)
  | saveWord (off loc : Nat)
  | storeEntry (cq loc : Nat) (both : Bool)
  | entryCache (wq loc : Nat)
  | patchWord (addr loc : Nat)
  | scratchWord (addr : Nat)
  | docentWord (loc : Nat)
  | curatorWord (loc : Nat)
  | vitAccount (a : Nat) (up frm : Bool)
  | vitTotal (t : Nat) (frm : Bool)
  | obsParity
  deriving DecidableEq, Repr


/-- The commands: one constructor per row of opcode_table.json. -/
inductive Instr where
  /-- R41: TICK is raised from a sync reference or at the end of a holdover period, and the duties tied to it are carried out in cycle 0. -/
  | tick (cyc dt lag : Nat) (sens : List (Option Int))
  /-- R44: Curator sets CKX_CORE_CTL.PLL_EN, and the core PLL starts to lock. -/
  | pllEnable (w : RegWr)
  /-- R44: The core PLL reaches lock within 40 µs, and LOCK reads 1. -/
  | pllLock
  /-- R45: A write of SRC = 1 moves the core glitch-free from FIO to the PLL and starts the holdover timer, or is refused while LOCK is 0. -/
  | coreClockSwitch (w : RegWr)
  /-- R47: A clock monitor declares a clock stopped after its interval without an edge, and the crossings and units that use that clock react. -/
  | clkStop (c xid words : Nat)
  /-- R47: A clock monitor declares a clock present again after 64 intervals with edges. -/
  | clkReturn (c xid words : Nat)
  /-- R48: REFCLK is declared absent, so AON_CLK and the holdover timer switch to CLK32K. -/
  | refclkAbsent
  /-- R48: After REFCLK has been present for 64 CLK32K cycles, AON_CLK returns to REFCLK / 8. -/
  | refclkRestored
  /-- R53: The live side of a crossing sees the peer's reset indication, discards the words in flight and enters PEER_RESET. -/
  | peerReset (x words : Nat)
  /-- R53: The live side sees ALIVE from the peer that has left reset and drives ACK. -/
  | crossingAlive (x words : Nat)
  /-- R53: The side that left reset sees ACK, and the crossing is up. -/
  | crossingAck (x : Nat)
  /-- R60: The sync block at the expected position, or any position in HUNT, is matched against the pattern and moves the sync state machine. -/
  | syncBlockCheck (pos at' : Nat) (block : BitVec 256) (invalid : List Nat) (los : Bool)
  /-- R62: A write of TDS_CTL.RX_EN = 0 holds the sync state machine in HUNT without raising SYNC_LOST. -/
  | rxEnWrite (w : RegWr)
  /-- R67: A codeword enters the decoder input buffer, or is skipped when the buffer is full. -/
  | codewordArrival (k : Nat) (raw : BitVec 18432) (invalid : List Nat)
  /-- R65: A decoder slice ends a codeword with its iteration count, or marks it uncorrectable after the cap. -/
  | codewordDecoded (slice iters : Nat) (word : BitVec 18432)
  /-- R75: The decoded header area of a frame is checked for validity and handed to the sequencer. -/
  | headerDecode
  /-- R78: A control message with ADDR 11b or an unlisted TYPE is discarded and counted. -/
  | unknownMessage
  /-- R140: In SERIAL, Docent writes the ASSIGN command with TID_NEW. -/
  | assignId
  /-- R140: The sequencer writes EQD_PRE and queues at most one RANGE_RESP. -/
  | rangingReq
  /-- R145: The sequencer writes an absolute or relative EQD, moves RANGING to OPERATE, and queues an ACK. -/
  | rangingTime
  /-- R143: Docent collects a profile message by PSEQ and stages a complete set. -/
  | profile
  /-- R146: Docent asks Curator for a fresh unicast key and sends KEY_REPORT, or queues ACK 2h or 5h. -/
  | keyReq
  /-- R147: The sequencer checks the switch and stages KSEL in set 3 for frame SW_SFC. -/
  | keySwitch
  /-- R156: The message sets or clears TST_SLEEP.ALLOWED and K. -/
  | sleepAllow
  /-- R158: The WAKE message clears REQ, and in Watch Docent withdraws its sleep vote. -/
  | wake
  /-- R150: The sequencer computes the offset of the time counter and schedules a step or a slew. -/
  | timeOfDay
  /-- R140: Docent writes the DEACTIVATE command, which returns the terminal to INIT and clears HALT_LATCH. -/
  | deactivate
  /-- R129: The sequencer enters HALT at once, sets TX_INHIBIT and HALT_LATCH, and closes the gate. -/
  | halt
  /-- R140: Docent retires the named upstream message from retransmission. -/
  | ack
  /-- R83: An encapsulation header and its fragment are delineated, BCH-corrected and passed to the flow-tag filter, decryption and reassembly. -/
  | encapHeader (up : List Upset)
  /-- R93: A reassembly that receives no fragment for RSM_TMO ticks is discarded and counted. -/
  | reassemblyTimeout (n : Nat)
  /-- R85: A direct write of a flow-tag filter entry takes effect, or is refused when it breaks the uniqueness or range rules. -/
  | tdsFltWrite (n : Nat) (w : RegWr)
  /-- R319: The sequencer starts its per-frame routine at ROM address 0000h in cycle 1 after TICK. -/
  | seqFrameRoutine (l : List SeqSeg)
  /-- R324: When the budget or the work window runs out before END_FRAME, the routine is abandoned and the unprocessed messages are lost. -/
  | seqOverrun
  /-- R325: When grant filing has not committed within 20 µs of TICK, the page stays empty. -/
  | seqPageLate
  /-- R331: Curator's write of SEQ_CTL.RESTART interrupts the running routine. -/
  | seqRestartRequest (w : RegWr)
  /-- R329: A Curator write of SEQ_PATCH_DATA[2] writes a patch RAM word with its SECDED codes, or is refused inside an enabled range. -/
  | seqPatchWrite (w : RegWr)
  /-- R329: A Curator write of a match register enables or redirects a ROM address, and a re-enable clears QUARANTINE. -/
  | seqMatchWrite (m : Nat) (w : RegWr)
  /-- R119: 6 µs before the first slot, the engine fixes the frames, fragments, reports and message of a burst. -/
  | burstAssembly (up : List Upset)
  /-- R121: TX_EN rises LEAD bit times before the preamble, and the burst is transmitted. -/
  | burstStart
  /-- R114: A burst ends normally, TX_EN falls, and its messages leave their queues. -/
  | burstEnd
  /-- R122: TX_FAULT drops TX_EN, aborts the burst in progress and blocks further bursts. -/
  | txFaultAssert
  /-- R122: Deassertion of TX_FAULT resumes transmission if FAULT_AUTO is 1, and otherwise holds FAULT_HOLD. -/
  | txFaultDeassert
  /-- R123: A write of TX_INHIBIT = 1 drops TX_EN and aborts bursts. -/
  | txInhibitWrite (w : RegWr)
  /-- R124: A write of TUS_CTL.GATE sets the state gate, and a value of 00b purges pending bursts. -/
  | gateWrite (w : RegWr)
  /-- R122: A write of FAULT_CLR clears FAULT_HOLD and any PHY_SLEEP held by a rogue condition. -/
  | faultClr (w : RegWr)
  /-- R125: TX_SD low while TX_EN is high raises TX_DARK. -/
  | txDark (bt : Nat)
  /-- R125: TX_SD high while TX_EN is low raises TX_ROGUE and may assert PHY_SLEEP. -/
  | txRogue (bt : Nat)
  /-- R126: PHY_SLEEP is released PHY_WAKE before a due burst, or at O(N) − PHY_WAKE when the page is late. -/
  | phySleepRelease (t : Nat)
  /-- R126: Under AUTO_SLEEP, PHY_SLEEP is asserted once no burst is due within PHY_WAKE. -/
  | phySleepAssert (t : Nat)
  /-- R126: A write of PHY_WAKE above 16 µs is refused. -/
  | phyWakeWrite (w : RegWr)
  /-- R97: A direct write of an allocation entry takes effect, or is refused when it breaks the range or uniqueness rules. -/
  | tusAllocWrite (n : Nat) (w : RegWr)
  /-- R129: A write of TST_CTL.ACTIVATE lets INIT proceed, or returns the terminal to INIT at the next TICK. -/
  | activateWrite (w : RegWr)
  /-- R134: Docent's ASSIGN command is recorded and judged at the next TICK. -/
  | tstCmdAssign (w : RegWr)
  /-- R134: Docent's PROFILE_DONE command is recorded and judged at the next TICK. -/
  | tstCmdProfileDone (w : RegWr)
  /-- R134: The DEACTIVATE command is recorded and judged at the next TICK. -/
  | tstCmdDeactivate (w : RegWr)
  /-- R130: When the ranging timer reaches zero, RANGING returns to SERIAL. -/
  | rangingTimeout
  /-- R130: When the intermit timer reaches zero, INTERMIT moves to INIT. -/
  | intermitTimeout
  /-- R146: An unacknowledged KEY_REPORT is sent again 8 ticks later, up to three times. -/
  | keyReportRepeat
  /-- R143: When no staging set becomes IDLE within 8 ticks, Docent queues ACK 2h. -/
  | profileArmTimeout
  /-- R151: A write of TST_TIME_ADJ schedules a step at the next TICK, or is refused while TOD_EN is 1. -/
  | timeAdjWrite (w : RegWr)
  /-- R151: A write of TST_TOD_RATE is accepted only while DISC_EN is 0. -/
  | todRateWrite (w : RegWr)
  /-- R152: A read of TST_TIME_LO latches the whole counter for TST_TIME_HI. -/
  | timeLoRead (a : Agent) (at' : Nat)
  /-- R153: PPS_OUT rises when the counter plus OUT_OFS reaches a whole second. -/
  | ppsOutRise (at' : Nat)
  /-- R153: PPS_OUT falls after WIDTH ms. -/
  | ppsOutFall (at' : Nat)
  /-- R154: A rising edge of PPS_IN is stamped, or ignored when it comes too soon after the last stamped edge. -/
  | ppsInEdge (at' : Nat)
  /-- R159: The first beat of a frame enters the parser, is stamped, keyed and probed against the tables. -/
  | classifyFrame (p at' : Nat) (up : List Upset)
  /-- R159: 48 cycles after parser entry, the frame's action is resolved and DRAIN falls. -/
  | actionResolve (p : Nat)
  /-- R175: Once the last beat is buffered and the checksums are known, the action is applied: policer, copies and account. -/
  | applyAction (p : Nat) (up : List Upset)
  /-- R189: The update engine copies a slot or an IPv6 pair into CLS_UPD_DATA. -/
  | clsUpdRead (w : RegWr)
  /-- R189: The update engine writes CLS_UPD_DATA into a free slot, unless R190 refuses it. -/
  | clsUpdWrite (w : RegWr)
  /-- R189: The update engine copies a live entry to a free location and zeroes the source. -/
  | clsUpdMove (w : RegWr)
  /-- R189: The update engine sets the pending-parity V bit of a live entry. -/
  | clsUpdSetvis (w : RegWr)
  /-- R189: The update engine hashes the key and returns B0 and B1. -/
  | clsUpdHash (w : RegWr)
  /-- R187: When DRAIN reaches zero, SWEEPING begins in the next cycle. -/
  | accDrained
  /-- R187: The sweep ends, the state returns to OPEN and ACC_RETIRED is raised. -/
  | accRetired
  /-- R183: The classifier INIT ends 8,192 cycles after the bank power-up, in OPEN. -/
  | clsInitDone
  /-- R178: A write of a policer's RATE or BURST sets TOKENS to BURST. -/
  | clsPolWrite (n : Nat) (w : RegWr)
  /-- R492: Every 64 cycles, the scrubber reads one bucket per bank and eight stash slots. -/
  | tableScrub (up : List Upset)
  /-- R197: A frame received at a port is checked once its last octet has arrived, and then linked into the pipeline order or discarded. -/
  | upmRxFrame (n : Nat) (words : List PortWord)
  /-- R212: A received PAUSE sets the pause timer of every class. -/
  | pauseRx (n : Nat) (words : List PortWord)
  /-- R212: A received priority PAUSE sets the timers of the enabled classes. -/
  | pfcRx (n : Nat) (words : List PortWord)
  /-- R212: When a class's pause timer runs out, the class is released. -/
  | pauseTimerExpiry (n cls : Nat)
  /-- R210: A received preemptable mPacket starts, continues or ends a reassembly, or counts an ASM_ERR. -/
  | preemptFragmentRx (n : Nat) (words : List PortWord)
  /-- R211: A received verify mPacket is answered with a respond mPacket. -/
  | verifyMpacketRx (n : Nat) (words : List PortWord) (rdy : List Bool)
  /-- R211: A respond mPacket received during VERIFYING sets VSTATUS to SUCCEEDED. -/
  | respondMpacketRx (n : Nat) (words : List PortWord)
  /-- R211: VSTATUS leaves INITIAL for VERIFYING, and a verify mPacket is sent. -/
  | verifyStart (n : Nat) (rdy : List Bool)
  /-- R211: When VERIFY_TIME expires, another verify mPacket is sent, or VSTATUS becomes FAILED after three. -/
  | verifyTimeout (n : Nat) (rdy : List Bool)
  /-- R202: A frame is selected from the egress classes, edited, given an FCS and placed at a START lane. -/
  | upmTxFrame (n edge gap cut : Nat) (rdy : List Bool) (up : List Upset)
  /-- R213: When O reaches XOFF_THR, the port sends XOFF. -/
  | xoffSend (n : Nat) (rdy : List Bool)
  /-- R213: Each half TX_QUANTA while O stays above XON_THR, the XOFF is sent again. -/
  | xoffRepeat (n : Nat) (rdy : List Bool)
  /-- R213: When O falls to XON_THR, a frame with quanta 0 is sent. -/
  | xonSend (n : Nat) (rdy : List Bool)
  /-- R216: After the idle hold-off, the transmitter drives LPI. -/
  | lpiEntry (n us : Nat)
  /-- R217: Receive lanes carrying LPI put the receiver in LPI. -/
  | rxLpiEntry (n : Nat)
  /-- R217: The first word without LPI ends receive LPI. -/
  | rxLpiExit (n : Nat)
  /-- R219: UPn_LINK changes level; a rise may set LINK_SEEN and wake the block. -/
  | upmLinkChange (n : Nat) (level : Bool)
  /-- R195: A write of UPM_CFG takes effect or is refused with REFUSE_WHY. -/
  | upmCfgWrite (n : Nat) (w : RegWr)
  /-- R215: A threshold write that breaks XON_THR < XOFF_THR is refused. -/
  | upmFcThrWrite (n : Nat) (w : RegWr)
  /-- R211: A write to PRE_EN returns VSTATUS to INITIAL or DISABLED. -/
  | preEnWrite (n : Nat) (w : RegWr)
  /-- R226: A flush discards every unplaced frame and remainder of the context. -/
  | qscFlush (w : RegWr)
  /-- R232: A spill record write is answered, and a FAULT or DENY sets the pool's FAULT. -/
  | spillWriteDone (c num : Nat) (r : Rsp)
  /-- R231: When CELLS falls to QLIM / 2 or below, fetching of spilled records begins. -/
  | spillFetchStart (c : Nat)
  /-- R232: A fetched record is appended to the queue, or a failed read discards every spilled frame of the context. -/
  | spillFetchDone (c : Nat) (r : Rsp)
  /-- R230: A pool configuration write takes effect or is refused. -/
  | qscPoolCfgWrite (k : Nat) (w : RegWr)
  /-- R236: A write of BUDGET, LWM or HWM takes effect at the next TICK, or is refused. -/
  | pwrPondCfgWrite (w : RegWr)
  /-- R252: A work-queue doorbell advances the tail or invalidates cached entries, or is malformed. -/
  | hrgDbWq (f : Nat) (w : RegWr)
  /-- R265: A completion-queue doorbell arms notification and prompts a re-read of HOST_IDX. -/
  | hrgDbCq (f : Nat) (w : RegWr)
  /-- R532: An admin work-queue doorbell advances the admin tail. -/
  | hrgDbAwq (f : Nat) (w : RegWr)
  /-- R532: An admin completion-queue doorbell arms its notification. -/
  | hrgDbAcq (f : Nat) (w : RegWr)
  /-- R272: A write of GO starts a function reset. -/
  | hrgFuncRst (f : Nat) (w : RegWr)
  /-- R272: Assertion of FUNCRST_n[f] resets function f. -/
  | funcrstN (f : Nat)
  /-- R272: The function reset completes, and all of the function's queues are FREE. -/
  | funcResetDone (f : Nat)
  /-- R254: Fetched work entries enter the entry cache, or a fault moves the queue to ERROR. -/
  | wqeFetchDone (q : Nat) (words : List Word) (c : Rsp)
  /-- R254: Once a completion place is reserved, a work entry is taken and checked, and DEV_IDX passes it. -/
  | wqeTake (q : Nat) (up : List Upset)
  /-- R259: The frame data of a SEND arrives, is checksummed and is offered for admission. -/
  | sendDataReadDone (q idx : Nat) (data : List Byte) (c : Rsp)
  /-- R248: A completion write is answered, or a fault moves the completion queue to ERROR. -/
  | completionWriteDone (q idx : Nat) (c : Rsp)
  /-- R248: DEV_IDX is written to the ring header after 8 advances, after 1 µs, or when idle. -/
  | ringHeaderWrite (n : Nat)
  /-- R269: Every 1 µs, HOST_IDX of a full or overflowed completion queue is re-read. -/
  | hostIdxReread (q : Nat)
  /-- R269: A re-read HOST_IDX is accepted or ignored, and a NOTIFY may be set. -/
  | hostIdxReadDone (q : Nat) (v : Word) (c : Rsp)
  /-- R264: The head frame of a wait queue is written through posted RX entries. -/
  | rxDeliver (q : Nat) (up : List Upset)
  /-- R264: The RX data writes are answered, and the frame's completion is produced, or 0Bh after a fault. -/
  | rxDataWriteDone (q idx : Nat) (c : Rsp)
  /-- R267: When room appears, an overflow store entry is written to its completion queue. -/
  | storeEntryWrite (q : Nat) (up : List Upset)
  /-- R271: HRG_QCTX_CMD creates a work queue. -/
  | qctxCreateWq (w : RegWr)
  /-- R271: HRG_QCTX_CMD creates a completion queue. -/
  | qctxCreateCq (w : RegWr)
  /-- R271: HRG_QCTX_CMD destroys a drained work queue. -/
  | qctxDestroyWq (w : RegWr)
  /-- R271: HRG_QCTX_CMD destroys a drained completion queue. -/
  | qctxDestroyCq (w : RegWr)
  /-- R275: The admin NOP completes. -/
  | adminNop (f : Nat) (e : AdminIn)
  /-- R275: The admin command returns the Docent release, the function and the free queue counts. -/
  | getInfo (f : Nat) (e : AdminIn)
  /-- R275: The admin command creates a completion queue. -/
  | createCq (f : Nat) (e : AdminIn)
  /-- R275: The admin command destroys a completion queue. -/
  | destroyCq (f : Nat) (e : AdminIn)
  /-- R275: The admin command creates a work queue. -/
  | createWq (f : Nat) (e : AdminIn)
  /-- R275: The admin command destroys a work queue. -/
  | destroyWq (f : Nat) (e : AdminIn)
  /-- R275: The admin command returns a queue's status register. -/
  | queryQ (f : Nat) (e : AdminIn)
  /-- R275: The admin command adds or replaces an entry in the pending accession. -/
  | tableWrite (f : Nat) (e : AdminIn) (record : List Word) (r : Rsp)
  /-- R275: The admin command removes an entry from the pending accession. -/
  | tableDelete (f : Nat) (e : AdminIn) (record : List Word) (r : Rsp)
  /-- R275: The admin command stages the accession commit. -/
  | accCommit (f : Nat) (e : AdminIn)
  /-- R275: The admin command writes TW_SYS_TX of a port. -/
  | eeeWake (f : Nat) (e : AdminIn)
  /-- R275: The admin command writes TST_SLEEP.REQ. -/
  | sleepReq (f : Nat) (e : AdminIn)
  /-- R275: The admin command takes a snapshot in bank 1 and writes it to host memory. -/
  | statsSnap (f : Nat) (e : AdminIn) (r : Rsp)
  /-- R276: An unknown admin command completes with 40h. -/
  | adminUnknown (f : Nat) (e : AdminIn)
  /-- R279: GO starts a channel at BASE or at descriptor 0. -/
  | slcGo (c : Nat) (w : RegWr)
  /-- R285: STOP lets begun instructions retire, and the channel then enters STOPPED. -/
  | slcStop (c : Nat) (w : RegWr)
  /-- R279: RESUME continues a stopped channel. -/
  | slcResume (c : Nat) (w : RegWr)
  /-- R299: KICK re-reads the polled descriptor at once. -/
  | slcKick (c : Nat) (w : RegWr)
  /-- R279: CLEAR returns a channel in ERROR to IDLE. -/
  | slcClear (c : Nat) (w : RegWr)
  /-- R279: A write of SLC_CH_CFG or SLC_CH_PROG takes effect, or is refused in the wrong state. -/
  | slcCfgWrite (c : Nat) (prog : Bool) (w : RegWr)
  /-- R287: A MOVE copies LEN octets in bursts. -/
  | slcMove (c : Nat)
  /-- R288: A GATHER copies blocks through an index table. -/
  | slcGather (c : Nat)
  /-- R292: A LOOP repeats the body with strides, or falls through. -/
  | slcLoop (c : Nat)
  /-- R293: A WAIT begins waiting on an event source or a flag. -/
  | slcWait (c : Nat)
  /-- R294: A SIGNAL writes the report beat, sets a flag or raises the channel's event. -/
  | slcSignal (c at' : Nat)
  /-- R295: An END retires, and the channel enters IDLE. -/
  | slcEnd (c : Nat)
  /-- R296: A reserved OP, or running past the last instruction, stops the channel with ERR 2h. -/
  | slcBadInstruction (c : Nat)
  /-- R284: An instruction retires and raises its HALF or FULL marks. -/
  | slcInstructionRetire (c : Nat)
  /-- R290: A channel read is answered, and a FAULT or DENY fails the instruction. -/
  | slcReadResponse (c burst : Nat) (data : List Byte) (codes : List Rsp)
  /-- R290: A channel write is answered, and a FAULT or DENY fails the instruction. -/
  | slcWriteResponse (c burst : Nat) (r : Rsp) (fbeat : Nat)
  /-- R293: The awaited source state or flag appears. -/
  | slcWaitSatisfied (c : Nat)
  /-- R293: A WAIT times out, giving an error or setting TMO. -/
  | slcWaitTimeout (c : Nat)
  /-- R299: A forerunner descriptor is read, moved and written back. -/
  | slcDescriptor (c : Nat)
  /-- R299: After POLL_US, an unowned descriptor is read again. -/
  | slcPollReread (c : Nat)
  /-- R302: The host sets channel flags. -/
  | slcFlagSet (w : RegWr)
  /-- R302: The host clears channel flags. -/
  | slcFlagClr (w : RegWr)
  /-- R308: The oldest pending record for a queue with room is issued. -/
  | eventRecordWrite
  /-- R311: A record write is answered, and PI advances or FAULT is set. -/
  | eventRecordDone (q idx : Nat) (c : Rsp)
  /-- R312: A consumer index write is accepted, or ignored with CI_BAD. -/
  | evqCiWrite (q : Nat) (w : RegWr)
  /-- R306: REARM sets ARMED of a level source, or is ignored while a record is pending. -/
  | evqRearm (n : Nat) (w : RegWr)
  /-- R310: A queue configuration write enables the queue, resetting PI and CI, or is refused. -/
  | evqQCfgWrite (q : Nat) (w : RegWr)
  /-- R316: Clearing FAULT resumes writing with the bound record. -/
  | evqFaultClear (q : Nat) (w : RegWr)
  /-- R304: A write of EVQ_SWSRC sets the states of the software sources. -/
  | evqSwsrcWrite (w : RegWr)
  /-- R314: A source configuration write changes sense, enable or target. -/
  | evqSrcWrite (n : Nat) (w : RegWr)
  /-- R345: An MB0 or MB2 doorbell hands the area to the firmware, or is refused. -/
  | mbDoorbell (n : Nat) (w : RegWr)
  /-- R347: The host acknowledges an MB1 notice, and OWNER returns to 0. -/
  | mb1Ack (w : RegWr)
  /-- R347: Docent posts a queued notice while OWNER is 0. -/
  | mb1NoticePost (text : Option (List Byte))
  /-- R349: A mailbox message of unknown TYPE is answered 01h. -/
  | mbUnknownType (n ty seq : Nat) (body : List Word)
  /-- R350: Curator returns its release, the patch version, the stage and the serial number. -/
  | curInfo
  /-- R343: Curator fetches, checks and applies a Curator patch in stage 4. -/
  | curPatch
  /-- R350: Curator stops any running Docent and fetches and checks a new image. -/
  | docentLoad
  /-- R350: Curator asks Docent to stop. -/
  | docentStop
  /-- R340: Curator loads a sequencer patch and stages its match set in set 2. -/
  | seqPatch
  /-- R350: Curator raises a rollback floor. -/
  | svnRaise
  /-- R346: Curator changes MBX_ACL. -/
  | aclSet
  /-- R350: Curator resets a host function on request. -/
  | funcReset
  /-- R339: An image fetch ends, and the checks accept or refuse it. -/
  | imageFetchDone (image : List Byte) (r : Rsp)
  /-- R341: On release of reset, Curator runs the boot stages. -/
  | boot (romOk : Bool)
  /-- R341: Docent is started and posts DOCENT_READY. -/
  | docentReady
  /-- R351: Docent returns its version. -/
  | getVersion
  /-- R351: Docent sets up a function's admin pair. -/
  | adminSetup
  /-- R351: Docent removes an idle admin pair. -/
  | adminTeardown (v : Word) (r : Rsp)
  /-- R351: Docent sets which notice types are enabled. -/
  | noticeMask
  /-- R351: Docent echoes the value. -/
  | mb0Ping
  /-- R445: Docent writes the twin ATTACH command. -/
  | twinCtlAttach
  /-- R445: Docent writes the twin DETACH command. -/
  | twinCtlDetach
  /-- R460: Docent starts a planned switchover with SWITCH_PROPOSE. -/
  | twinCtlSwitchover
  /-- R351: Docent returns the terminal state, the ID and the profile summary. -/
  | termInfo
  /-- R353: Curator draws and loads a unicast key and returns it wrapped. -/
  | keyNew (slot : Nat)
  /-- R353: Curator unwraps and loads the broadcast key into slot 3. -/
  | keyBcast (gen wrapped : Nat)
  /-- R353: Curator unwraps a new KEK and advances the generation. -/
  | kekRotate (gen wrapped : Nat)
  /-- R353: Curator writes a TST_CMD command on Docent's behalf. -/
  | tstWrite (cmd tid : Nat)
  /-- R353: Curator records Docent's power vote. -/
  | vote (dom : Nat) (vote : Bool)
  /-- R337: A forbidden Docent access is suppressed, and Docent is declared down. -/
  | mpuViolation
  /-- R354: Docent's kick restarts the watchdog period. -/
  | wdogKick (w : RegWr)
  /-- R354: WD_MS passes without a kick, and Docent is declared down. -/
  | watchdogExpiry
  /-- R356: 10 ms after a declaration, Curator fetches Docent again. -/
  | autoRestart
  /-- R348: Docent sends an MB3 message over the twin link, or it completes 0Ch. -/
  | mb3Send (ty : Nat) (body : List Word)
  /-- R348: When the peer does not answer within 20 ms, the request completes 0Eh. -/
  | mb3Timeout
  /-- R449: The Docents exchange PAIR_HELLO and resolve roles. -/
  | pairHello (resp : Bool) (seq status : Nat) (w1 w2 : Word)
  /-- R446: The allocation entry index is matched on both fibres. -/
  | allocMap (resp : Bool) (seq status : Nat) (w1 : Word)
  /-- R460: The peer accepts the switchover, and SWITCH_PHASE becomes 01b. -/
  | switchPropose (resp : Bool) (seq status : Nat) (w1 : Word)
  /-- R527: The switchover ends, SWITCH_PHASE becomes 00b, and the sink arms failover. -/
  | switchDone (resp : Bool) (seq status : Nat)
  /-- R445: The peer's DETACH returns the pair to ALIGNED. -/
  | mb3Detach (resp : Bool) (seq status : Nat)
  /-- R446: The peer echoes the value. -/
  | mb3Ping (resp : Bool) (seq status : Nat) (w1 : Word)
  /-- R361: An agent selects its staging set and enables staging. -/
  | stgSelWrite (w : RegWr)
  /-- R362: A write of ST fields is recorded in the agent's set, or refused. -/
  | stagedWrite (off : Nat) (w : RegWr)
  /-- R363: OPEN makes the writer owner of an IDLE set. -/
  | stgOpen (n : Nat) (w : RegWr)
  /-- R364: CHECK evaluates the consistency rules and reports REASON. -/
  | stgCheck (n : Nat) (w : RegWr)
  /-- R364: CHECK_ARM checks the set and arms it if it passes. -/
  | stgCheckArm (n : Nat) (w : RegWr)
  /-- R363: CANCEL discards a set. -/
  | stgCancel (n : Nat) (w : RegWr)
  /-- R363: The owner sets the apply frame or NEXT. -/
  | stgApplyWrite (n : Nat) (w : RegWr)
  /-- R367: The last entry of a set is drained, and the set returns to IDLE. -/
  | stagingDrainDone (n : Nat)
  /-- R390: The interval or gap record is signed and placed in the buffer. -/
  | intervalRecordSigned
  /-- R383: A sealed command sets a downstream binding. -/
  | bindDs
  /-- R383: A sealed command sets an upstream binding. -/
  | bindUs
  /-- R388: A sealed command sets the interval length. -/
  | setInterval
  /-- R400: A sealed command sets the VIT_PULSE source and octets. -/
  | setPulse
  /-- R399: The log is archived and emptied when the chain matches. -/
  | archiveClear
  /-- R386: The Vitrine reports the difference between the reference time and its own. -/
  | clockCheck (aonNs : Nat)
  /-- R395: A new device key pair is generated, and KGEN advances. -/
  | keyRotate
  /-- R393: A signed account readout is returned. -/
  | readAccount
  /-- R392: A signed totals readout is returned. -/
  | readTotals
  /-- R386: Interval and gap records are returned. -/
  | readIntervals
  /-- R390: Buffer slots up to SEQ are freed. -/
  | ackIntervals
  /-- R389: Snapshot entries of the latched interval are returned. -/
  | readSnapshot
  /-- R386: Log entries are returned. -/
  | readLog
  /-- R393: A signed identity record is returned. -/
  | readIdent
  /-- R387: An unknown VCMD is refused with VREASON 01h. -/
  | vcmdUnknown
  /-- R384: PRESENCE_n, counted low, opens the seal for 600 s. -/
  | sealOpen
  /-- R384: PRESENCE_n, counted high, closes the seal. -/
  | sealClose
  /-- R384: The 600 s window ends and closes the seal. -/
  | sealWindowEnd
  /-- R400: An owed pulse begins on VIT_PULSE. -/
  | vitPulseStart
  /-- R400: A pulse ends after 1 ms. -/
  | vitPulseEnd
  /-- R401: At PD32 power-up, the Vitrine restores from its checkpoints and logs POWER_RETURN. -/
  | vitRestore
  /-- R401: On the request for Off, the Vitrine writes its checkpoint and withdraws its PD32 vote. -/
  | vitOffCheckpoint
  /-- R414: The host's domain votes change, so domains power up or down. -/
  | pwrHvoteWrite (w : RegWr)
  /-- R414: Curator's domain votes change. -/
  | pwrCvoteWrite (w : RegWr)
  /-- R417: The domain's switch has opened. -/
  | domainPowerDownDone (k : Nat)
  /-- R417: A domain is powered, reset, restored and usable. -/
  | domainPowerUpDone (k : Nat) (up : List Upset)
  /-- R409: The frequency point is stepped in the guard. -/
  | dvfsStep
  /-- R510: AVS_ACK returns high, and the requested level is in force. -/
  | avsAck
  /-- R411: AVS_ACK has not returned in time. -/
  | avsTimeout
  /-- R410: Every 1 ms, the trim is adjusted from the path monitors. -/
  | avsLoop (margins : List Nat)
  /-- R409: A manual point write takes effect or is refused. -/
  | pwrDvfsCtlWrite (w : RegWr)
  /-- R406: A write that would exceed the Still load budget is refused. -/
  | pwrRegWrite (w : RegWr)
  /-- R425: HOST_OK or DOCENT_REQ permits Watch, or a 0 ends it. -/
  | pwrWatchCtlWrite (w : RegWr)
  /-- R422: The front domains are down after the last burst, and the state becomes WATCH. -/
  | watchEnter
  /-- R423: WLEAD before a sampled frame, the front domains are voted. -/
  | watchSampleLead
  /-- R429: A request for Still clears the votes and begins the entry. -/
  | stillReq (w : RegWr)
  /-- R432: A request for Off clears the votes and begins the entry. -/
  | offReq (w : RegWr)
  /-- R428: When the holds have not ended within 10 ms, the entry is abandoned. -/
  | entryHoldTimeout
  /-- R430: In Still, the holdover timer advances the pond, the sensors, the count and the Vitrine. -/
  | aonTick (sens : List (Option Int))
  /-- R431: A wake in Still or Off starts the exit and the start-up. -/
  | lowPowerWake
  /-- R426: The wake timer expires and acts as wake source 7h. -/
  | wakeTimer
  /-- R407: VDD_AON below 0.710 V in LOW switches the regulator to NORMAL. -/
  | vddAonLow (lowest : Nat)
  /-- R486: VDD_AON below 0.680 V causes a power-on reset that includes PD32. -/
  | aonBrownoutReset (saveHeld : Bool)
  /-- R407: A VDD_CORE sag causes a block reset. -/
  | vddCoreBrownout (lowest : Nat)
  /-- R445: Writing EN starts training or detaches the link. -/
  | twnEnWrite (w : RegWr)
  /-- R445: ATTACH moves ALIGNED to PAIRING. -/
  | twnCmdAttach (w : RegWr)
  /-- R445: DETACH moves the pair to DETACHING. -/
  | twnCmdDetach (w : RegWr)
  /-- R455: RESYNC starts a bulk copy. -/
  | twnCmdResync (w : RegWr)
  /-- R441: The next link block is sent: a heartbeat, mirror, MB3, train or idle block. -/
  | tlBlockTx
  /-- R442: A received block header is validated for alignment, and the block is checked by BCRC. -/
  | tlBlockRx (commas : BitVec 8) (codeOk : Bool) (octets : List Byte)
  /-- R450: A valid heartbeat updates the peer status and may detect a failure or cause a yield. -/
  | heartbeatRx
  /-- R457: Eight periods without a heartbeat detect a failure of the peer. -/
  | heartbeatTimeout
  /-- R445: DETACHING returns to ALIGNED after 20 ms. -/
  | detachTimeout
  /-- R453: A mirrored register value is staged on the sink. -/
  | mirrorReg
  /-- R453: A table operation is executed on the sink's update engine. -/
  | mirrorTableOp
  /-- R453: An accession commit is staged on the sink. -/
  | mirrorCommit
  /-- R455: A bucket's slots are written over the sink's. -/
  | mirrorBucket
  /-- R455: Eight stash slots are written over the sink's. -/
  | mirrorStash
  /-- R453: The staged REG records are armed with NEXT. -/
  | mirrorChangeEnd
  /-- R455: The bulk copy ends, and the pair becomes PAIRED. -/
  | mirrorBulkEnd
  /-- R460: The peer becomes the source after applying SWAP. -/
  | mirrorSwap
  /-- R455: The sink loads CUR directly. -/
  | mirrorAccession
  /-- R467: A group is copied atomically into the snapshot buffer, with optional clearing. -/
  | obsSnapGo (w : RegWr)
  /-- R471: The named counters start or stop in one cycle. -/
  | pmcRunWrite (w : RegWr)
  /-- R474: A counter's event and filters change from the next cycle. -/
  | pmcCfgWrite (n : Nat) (w : RegWr)
  /-- R474: A counter is set to the written value. -/
  | pmcCntWrite (n : Nat) (w : RegWr)
  /-- R474: A counter passes its top, wraps and raises PMC_OVF. -/
  | pmcOvf (n past : Nat)
  /-- R477: A trace still open after 2^30 cycles closes with fate Ah. -/
  | traceTimeout (n : Nat)
  /-- R479: A closed trace record is issued to the trace ring. -/
  | traceRecordWrite
  /-- R479: A trace record write is answered; PI advances, or FAULT is set. -/
  | traceRecordDone (seq : Nat) (c : Rsp)
  /-- R476: Tracing is configured or enabled. -/
  | trcCfgWrite (w : RegWr)
  /-- R476: The tracer's generator is seeded. -/
  | trcSeedWrite (w : RegWr)
  /-- R479: The trace consumer index is accepted or ignored. -/
  | trcCiWrite (w : RegWr)
  /-- R480: A new window configuration takes effect at the next TICK. -/
  | bwCfgWrite (w : RegWr)
  /-- R484: A power-on reset from PORST_n clears AON and PD01 to PD31. -/
  | porst
  /-- R484: A block reset clears PD01 to PD31 and keeps AON. -/
  | blkrst
  /-- R490: An uncorrectable Curator RAM word causes a block reset. -/
  | curatorEccReset (up : List Upset)
  /-- R505: A fabric request with no response after 1 ms is treated as FAULT. -/
  | acfTimeout (kind : FabKind)
  /-- R508: A register write with no behaviour of its own takes effect under its access code. -/
  | registerWrite (off : Nat) (w : RegWr)
  /-- R350: After a stop request, Docent finishes the admin command it has taken, for at most 10 ms, and halts with DOWN_CAUSE 3h. -/
  | docentHalt
  /-- R354: Docent reports an internal error, or meets an uncorrectable Docent RAM word, and Curator declares it down with cause 4h. -/
  | docentErrorReport (up : List Upset)
  /-- R432: In Off, the thermal sensors are sampled once per second, and a reading of 130 °C asserts THERM_TRIP. -/
  | offSensorSample (sens : List (Option Int))
  /-- R270: A ring header write is answered; DONE completes it, and FAULT or DENY moves the queue to ERROR and raises HRG_Q_ERROR. -/
  | ringHeaderWriteDone (n : Nat) (c : Rsp)
  /-- R226: A context flush finishes discarding its frames in the packet buffer and host memory, and FLUSH_BUSY clears so that a new GO is accepted. -/
  | flushDone
  /-- R10: A register read with an effect of its own, such as clearing an RC field or latching the companion fields of VIT_TOT_LO. -/
  | registerRead (a : Agent) (off at' : Nat)
  /-- R125: TX_SD falls while TX_EN is low, which ends a rogue condition and, once FAULT_CLR has been written, releases the rogue-held PHY_SLEEP. -/
  | rogueConditionClear
  deriving DecidableEq, Repr

end Sys2Proof
end

