-- ==== Sys2Proof/Decode.lean ====
section
/-! DEFINITION. The command a word spells. The rows of opcode_table.json have no bits: a command of this block is an event at its
boundary, with its operands, and no word spells one. -/

namespace Sys2Proof

/-- The command that `nbits` bits spell: none, for every word. -/
def decodeTableWord (_nbits _w : Nat) : Option Instr := none

end Sys2Proof
end

