-- ==== Sys2Proof/Config.lean ====
section
/-! DEFINITION. What one implementation fixes and the spec does not give: opaque constants, so that no proof can see a
value (log entry 3). -/

namespace Sys2Proof

/-- The free values of the model, one after another: each stands for a value the spec leaves open. -/
opaque Config.freeValue : Nat → Nat

/-- The Vitrine's device keys: private key number n, and the secret number of the signature of a digest under key n (R394, R395). -/
opaque Config.vitPriv : Nat → Nat
opaque Config.vitNonce : Nat → Nat → Nat

/-- Key material drawn by Curator, draw after draw (R146), and the factory key-encryption key. -/
opaque Config.freshKey : Nat → Nat
opaque Config.factoryKek : Nat

/-- The serial number of the device, in the identity store (R336, R341). -/
opaque Config.serial : Nat

/-- Acirsyn's public key for images, and the digest of the owner's where the identity store holds one (R336, R339). -/
opaque Config.acirsynKey : Nat
opaque Config.ownerDigest : Option Nat

/-- The calibration record in the identity store (R238, R341): coefficients, static terms, T_SOFT and T_HARD. -/
opaque Config.calCoef : Nat → Nat
opaque Config.calStatic : Nat → Nat
opaque Config.calSoft : Nat
opaque Config.calHard : Nat

/-- What is fixed per block revision: the release of the sequencer's ROM and the first 32 bits of its digest (R327), the
Vitrine's program version, the digest of its program ROM in four words (R393), REV_MAJOR and REV_MINOR of ID_BLOCK. -/
opaque Config.romVer : Nat
opaque Config.romDigest : Nat
opaque Config.vitVer : Nat
opaque Config.vitDigest : Nat → Nat
opaque Config.blockRev : Nat

/-- The sequencer's control store and data path, where the spec gives a field but not its codes or contents (R327, R330): the word at a
ROM address; what an ALU operation makes of its two sources and the carry ([17:0] result, [18] carry, [19] DST is written); the 36-bit
product of a multiply; whether a scratch operation stores; which condition a code of COND names, in the order of R330; which of
the four assist commands a code of ASSIST names; the SECDED code of a 72-bit half. -/
opaque Config.seqRom : Nat → Nat
opaque Config.seqAlu : Nat → Nat → Nat → Bool → Nat
opaque Config.seqMul : Nat → Nat → Nat → Nat
opaque Config.seqStores : Nat → Bool
opaque Config.seqCond : Nat → Nat
opaque Config.seqAssist : Nat → Nat
opaque Config.seqSecded : Nat → Nat

end Sys2Proof
end

