-- ==== Sys2Proof/Machine/Regs.lean ====
section
/-! DEFINITION. The register fields of the block, one constant per row of the spec's field tables (all chapters, R7, R8, R521),
with offset, index strides, bits, reset value, access code and what keeps the field through a power-down. -/

namespace Sys2Proof.Machine

/-- Access codes of R8; `rwst` is RW ST. -/
inductive Acc where
  | ro | rw | w1c | wo | rc | rwst | st | se
  deriving DecidableEq, Repr

/-- What keeps a field (R521): nothing; AON; the save list; a retained array; the Vitrine's store. -/
inductive Keep where
  | lost | aon | saved | array | nv
  deriving DecidableEq, Repr

/-- One register field: offset of index 0, two strides with their counts, lowest bit, width, reset value,
whether its count wraps (else it saturates), access code and keeping. -/
structure Fld where
  base : Nat
  s1 : Nat
  n1 : Nat
  s2 : Nat
  n2 : Nat
  lo : Nat
  w : Nat
  rst : Nat
  wrap : Bool
  acc : Acc
  keep : Keep
  deriving DecidableEq, Repr


/-! Fields of 01_architecture.md. -/

def F.ID_INTEG_PORT_WIRED : Fld := ⟨0x20, 0x0, 1, 0x0, 1, 0, 4, 0, false, .ro, .lost⟩
def F.ID_INTEG_PORT0_MAXRATE : Fld := ⟨0x20, 0x0, 1, 0x0, 1, 4, 2, 0, false, .ro, .lost⟩
def F.ID_INTEG_PORT1_MAXRATE : Fld := ⟨0x20, 0x0, 1, 0x0, 1, 6, 2, 0, false, .ro, .lost⟩
def F.ID_INTEG_PORT2_MAXRATE : Fld := ⟨0x20, 0x0, 1, 0x0, 1, 8, 2, 0, false, .ro, .lost⟩
def F.ID_INTEG_PORT3_MAXRATE : Fld := ⟨0x20, 0x0, 1, 0x0, 1, 10, 2, 0, false, .ro, .lost⟩
def F.ID_INTEG_TWIN_WIRED : Fld := ⟨0x20, 0x0, 1, 0x0, 1, 12, 1, 0, false, .ro, .lost⟩
def F.ID_INTEG_PRESENCE_WIRED : Fld := ⟨0x20, 0x0, 1, 0x0, 1, 13, 1, 0, false, .ro, .lost⟩
def F.ID_INTEG_VITPULSE_WIRED : Fld := ⟨0x20, 0x0, 1, 0x0, 1, 14, 1, 0, false, .ro, .lost⟩
def F.ID_INTEG_PPSIN_WIRED : Fld := ⟨0x20, 0x0, 1, 0x0, 1, 15, 1, 0, false, .ro, .lost⟩
def F.ID_INTEG_PPSOUT_WIRED : Fld := ⟨0x20, 0x0, 1, 0x0, 1, 16, 1, 0, false, .ro, .lost⟩
def F.ID_INTEG_FAB_WIRED : Fld := ⟨0x20, 0x0, 1, 0x0, 1, 17, 1, 0, false, .ro, .lost⟩
def F.ID_INTEG_DELIVERY : Fld := ⟨0x20, 0x0, 1, 0x0, 1, 18, 2, 0, false, .ro, .lost⟩
def F.ID_INTEG_INTEG_ID : Fld := ⟨0x20, 0x0, 1, 0x0, 1, 32, 16, 0, false, .ro, .lost⟩
def F.ID_INTEG_VALID : Fld := ⟨0x20, 0x0, 1, 0x0, 1, 63, 1, 0, false, .ro, .lost⟩

/-! Fields of 02_tick_and_clocks.md. -/

def F.CKX_TICK_STAT_SRC : Fld := ⟨0x10000, 0x0, 1, 0x0, 1, 0, 2, 0, false, .ro, .lost⟩
def F.CKX_TICK_STAT_STEPPED : Fld := ⟨0x10000, 0x0, 1, 0x0, 1, 2, 1, 0, false, .ro, .lost⟩
def F.CKX_TICK_STAT_SYNC_POS : Fld := ⟨0x10000, 0x0, 1, 0x0, 1, 4, 10, 0, false, .ro, .lost⟩
def F.CKX_TICK_STAT_LAG : Fld := ⟨0x10000, 0x0, 1, 0x0, 1, 16, 16, 0, false, .ro, .lost⟩
def F.CKX_TICK_STAT_SFC_LOW : Fld := ⟨0x10000, 0x0, 1, 0x0, 1, 32, 32, 0, false, .ro, .lost⟩
def F.CKX_TICK_TIME_LO_FRAC : Fld := ⟨0x10008, 0x0, 1, 0x0, 1, 0, 16, 0, false, .ro, .lost⟩
def F.CKX_TICK_TIME_LO_NS : Fld := ⟨0x10008, 0x0, 1, 0x0, 1, 16, 32, 0, false, .ro, .lost⟩
def F.CKX_TICK_TIME_LO_SEQ : Fld := ⟨0x10008, 0x0, 1, 0x0, 1, 48, 16, 0, false, .ro, .lost⟩
def F.CKX_TICK_TIME_HI_SEC : Fld := ⟨0x10010, 0x0, 1, 0x0, 1, 0, 48, 0, false, .ro, .lost⟩
def F.CKX_TICK_TIME_HI_SEQ : Fld := ⟨0x10010, 0x0, 1, 0x0, 1, 48, 16, 0, false, .ro, .lost⟩
def F.CKX_TICK_CNT_FLYWHEEL_CNT : Fld := ⟨0x10018, 0x0, 1, 0x0, 1, 0, 16, 0, false, .rc, .lost⟩
def F.CKX_TICK_CNT_STEP_CNT : Fld := ⟨0x10018, 0x0, 1, 0x0, 1, 16, 16, 0, false, .rc, .lost⟩
def F.CKX_TICK_CNT_HOLDOVER_CNT : Fld := ⟨0x10018, 0x0, 1, 0x0, 1, 32, 32, 0, false, .rc, .lost⟩
def F.CKX_CORE_CTL_PLL_EN : Fld := ⟨0x10020, 0x0, 1, 0x0, 1, 0, 1, 0, false, .rw, .lost⟩
def F.CKX_CORE_CTL_SRC : Fld := ⟨0x10020, 0x0, 1, 0x0, 1, 1, 1, 0, false, .rw, .lost⟩
def F.CKX_CORE_CTL_LOCK : Fld := ⟨0x10020, 0x0, 1, 0x0, 1, 2, 1, 0, false, .ro, .lost⟩
def F.CKX_CORE_CTL_REFUSED : Fld := ⟨0x10020, 0x0, 1, 0x0, 1, 3, 1, 0, false, .w1c, .lost⟩
def F.CKX_CLKMON_PRESENT : Fld := ⟨0x10028, 0x0, 1, 0x0, 1, 0, 11, 0, false, .ro, .lost⟩
def F.CKX_CLKMON_AON_SRC : Fld := ⟨0x10028, 0x0, 1, 0x0, 1, 11, 1, 0, false, .ro, .lost⟩
def F.CKX_CLKMON_STOPPED : Fld := ⟨0x10028, 0x0, 1, 0x0, 1, 16, 10, 0, false, .w1c, .lost⟩
def F.CKX_XSTAT_PEER_RESET : Fld := ⟨0x10030, 0x0, 1, 0x0, 1, 0, 11, 0, false, .ro, .lost⟩
def F.CKX_XSTAT_HANDSHAKE : Fld := ⟨0x10030, 0x0, 1, 0x0, 1, 16, 11, 0, false, .ro, .lost⟩
def F.CKX_XDROP_DROPS : Fld := ⟨0x10038, 0x0, 1, 0x0, 1, 0, 32, 0, false, .rc, .lost⟩
def F.CKX_XDROP_LAST_XID : Fld := ⟨0x10038, 0x0, 1, 0x0, 1, 32, 4, 0, false, .ro, .lost⟩

/-! Fields of 03_tasor_downstream.md. -/

def F.TDS_CTL_RX_EN : Fld := ⟨0x40000, 0x0, 1, 0x0, 1, 0, 1, 0, false, .rw, .lost⟩
def F.TDS_CTL_HUNT_THR : Fld := ⟨0x40000, 0x0, 1, 0x0, 1, 1, 6, 8, false, .rw, .lost⟩
def F.TDS_CTL_SYNC_THR : Fld := ⟨0x40000, 0x0, 1, 0x0, 1, 7, 6, 0x10, false, .rw, .lost⟩
def F.TDS_CTL_RSM_TMO : Fld := ⟨0x40000, 0x0, 1, 0x0, 1, 13, 8, 8, false, .rw, .lost⟩
def F.TDS_SYNC_STAT_STATE : Fld := ⟨0x40008, 0x0, 1, 0x0, 1, 0, 2, 0, false, .ro, .lost⟩
def F.TDS_SYNC_STAT_GOOD : Fld := ⟨0x40008, 0x0, 1, 0x0, 1, 2, 2, 0, false, .ro, .lost⟩
def F.TDS_SYNC_STAT_BAD : Fld := ⟨0x40008, 0x0, 1, 0x0, 1, 4, 3, 0, false, .ro, .lost⟩
def F.TDS_SYNC_STAT_HDR_VALID : Fld := ⟨0x40008, 0x0, 1, 0x0, 1, 7, 1, 0, false, .ro, .lost⟩
def F.TDS_SYNC_STAT_HCW : Fld := ⟨0x40008, 0x0, 1, 0x0, 1, 8, 4, 0, false, .ro, .lost⟩
def F.TDS_SYNC_STAT_PCW_USED : Fld := ⟨0x40008, 0x0, 1, 0x0, 1, 12, 11, 0, false, .ro, .lost⟩
def F.TDS_SYNC_STAT_DIST : Fld := ⟨0x40008, 0x0, 1, 0x0, 1, 23, 8, 0, false, .ro, .lost⟩
def F.TDS_SYNC_STAT_SFC_LOW : Fld := ⟨0x40008, 0x0, 1, 0x0, 1, 32, 32, 0, false, .ro, .lost⟩
def F.TDS_EFFORT_CAP : Fld := ⟨0x40010, 0x0, 1, 0x0, 1, 0, 5, 0x10, false, .ro, .lost⟩
def F.TDS_EFFORT_P9999 : Fld := ⟨0x40010, 0x0, 1, 0x0, 1, 5, 5, 0, false, .ro, .lost⟩
def F.TDS_EFFORT_HOLD : Fld := ⟨0x40010, 0x0, 1, 0x0, 1, 10, 11, 0, false, .ro, .lost⟩
def F.TDS_EFFORT_SLICES : Fld := ⟨0x40010, 0x0, 1, 0x0, 1, 21, 3, 1, false, .ro, .lost⟩
def F.TDS_EFFORT_POWERED : Fld := ⟨0x40010, 0x0, 1, 0x0, 1, 24, 4, 0, false, .ro, .lost⟩
def F.TDS_EFFORT_POND_CLAMP : Fld := ⟨0x40010, 0x0, 1, 0x0, 1, 28, 1, 0, false, .ro, .lost⟩
def F.TDS_EFFORT_CTL_FIX_EN : Fld := ⟨0x40018, 0x0, 1, 0x0, 1, 0, 1, 0, false, .rw, .lost⟩
def F.TDS_EFFORT_CTL_FIX_CAP : Fld := ⟨0x40018, 0x0, 1, 0x0, 1, 1, 3, 4, false, .rw, .lost⟩
def F.TDS_HDR_PSEQ : Fld := ⟨0x40020, 0x0, 1, 0x0, 1, 0, 8, 0, false, .ro, .lost⟩
def F.TDS_HDR_KSEQ : Fld := ⟨0x40020, 0x0, 1, 0x0, 1, 8, 8, 0, false, .ro, .lost⟩
def F.TDS_HDR_NGRANT : Fld := ⟨0x40020, 0x0, 1, 0x0, 1, 16, 12, 0, false, .ro, .lost⟩
def F.TDS_HDR_NMSG : Fld := ⟨0x40020, 0x0, 1, 0x0, 1, 28, 5, 0, false, .ro, .lost⟩
def F.TDS_HDR_WAKE_PRESENT : Fld := ⟨0x40020, 0x0, 1, 0x0, 1, 33, 1, 0, false, .ro, .lost⟩
def F.TDS_HDR_WAKE_SELF : Fld := ⟨0x40020, 0x0, 1, 0x0, 1, 34, 1, 0, false, .ro, .lost⟩
def F.TDS_KEYSTAT_SLOT1_VALID : Fld := ⟨0x40028, 0x0, 1, 0x0, 1, 0, 1, 0, false, .ro, .array⟩
def F.TDS_KEYSTAT_SLOT2_VALID : Fld := ⟨0x40028, 0x0, 1, 0x0, 1, 1, 1, 0, false, .ro, .array⟩
def F.TDS_KEYSTAT_SLOT3_VALID : Fld := ⟨0x40028, 0x0, 1, 0x0, 1, 2, 1, 0, false, .ro, .array⟩
def F.TDS_FLT_STAT_REFUSED : Fld := ⟨0x40030, 0x0, 1, 0x0, 1, 0, 1, 0, false, .w1c, .lost⟩
def F.TDS_FLT_STAT_LAST_IDX : Fld := ⟨0x40030, 0x0, 1, 0x0, 1, 16, 12, 0, false, .ro, .lost⟩
def F.TDS_FLT_FTAG : Fld := ⟨0x48000, 0x8, 4096, 0x0, 1, 0, 16, 0, false, .rwst, .array⟩
def F.TDS_FLT_VALID : Fld := ⟨0x48000, 0x8, 4096, 0x0, 1, 16, 1, 0, false, .rwst, .array⟩
def F.TDS_FLT_ENC_REQ : Fld := ⟨0x48000, 0x8, 4096, 0x0, 1, 17, 1, 0, false, .rwst, .array⟩
def F.TDS_FLT_BCAST : Fld := ⟨0x48000, 0x8, 4096, 0x0, 1, 18, 1, 0, false, .rwst, .array⟩
def F.TDS_CNT_SYNC_INVALID_WORDS : Fld := ⟨0x40100, 0x0, 1, 0x0, 1, 0, 32, 0, false, .rc, .lost⟩
def F.TDS_CNT_SYNC_LOSSES : Fld := ⟨0x40100, 0x0, 1, 0x0, 1, 32, 32, 0, false, .rc, .lost⟩
def F.TDS_CNT_CW_DECODED : Fld := ⟨0x40108, 0x0, 1, 0x0, 1, 0, 48, 0, true, .ro, .lost⟩
def F.TDS_CNT_FEC_CORR_CW : Fld := ⟨0x40110, 0x0, 1, 0x0, 1, 0, 32, 0, false, .rc, .lost⟩
def F.TDS_CNT_FEC_UNCORR : Fld := ⟨0x40110, 0x0, 1, 0x0, 1, 32, 32, 0, false, .rc, .lost⟩
def F.TDS_CNT_DEC_SKIPPED : Fld := ⟨0x40118, 0x0, 1, 0x0, 1, 0, 32, 0, false, .rc, .lost⟩
def F.TDS_CNT_DEC_HDR_BAD : Fld := ⟨0x40118, 0x0, 1, 0x0, 1, 32, 16, 0, false, .rc, .lost⟩
def F.TDS_CNT_DEC_PAYLOAD_LOST : Fld := ⟨0x40118, 0x0, 1, 0x0, 1, 48, 16, 0, false, .rc, .lost⟩
def F.TDS_CNT_MSG_TO_SEQ : Fld := ⟨0x40120, 0x0, 1, 0x0, 1, 0, 16, 0, false, .rc, .lost⟩
def F.TDS_CNT_MSG_UNKNOWN : Fld := ⟨0x40120, 0x0, 1, 0x0, 1, 16, 16, 0, false, .rc, .lost⟩
def F.TDS_CNT_MSG_DOCENT_DROP : Fld := ⟨0x40120, 0x0, 1, 0x0, 1, 32, 16, 0, false, .rc, .lost⟩
def F.TDS_CNT_MSG_MGMT_DROP : Fld := ⟨0x40120, 0x0, 1, 0x0, 1, 48, 16, 0, false, .rc, .lost⟩
def F.TDS_CNT_ENC_BCH_CORR : Fld := ⟨0x40128, 0x0, 1, 0x0, 1, 0, 32, 0, false, .rc, .lost⟩
def F.TDS_CNT_ENC_BCH_UNCORR : Fld := ⟨0x40128, 0x0, 1, 0x0, 1, 32, 32, 0, false, .rc, .lost⟩
def F.TDS_CNT_DLN_HUNTS : Fld := ⟨0x40130, 0x0, 1, 0x0, 1, 0, 32, 0, false, .rc, .lost⟩
def F.TDS_CNT_DLN_TAG_MISS : Fld := ⟨0x40130, 0x0, 1, 0x0, 1, 32, 32, 0, false, .rc, .lost⟩
def F.TDS_CNT_SEC_AUTH_FAIL : Fld := ⟨0x40138, 0x0, 1, 0x0, 1, 0, 32, 0, false, .rc, .lost⟩
def F.TDS_CNT_SEC_KIDX_BAD : Fld := ⟨0x40138, 0x0, 1, 0x0, 1, 32, 32, 0, false, .rc, .lost⟩
def F.TDS_CNT_RSM_TIMEOUT : Fld := ⟨0x40140, 0x0, 1, 0x0, 1, 0, 16, 0, false, .rc, .lost⟩
def F.TDS_CNT_RSM_SIZE : Fld := ⟨0x40140, 0x0, 1, 0x0, 1, 16, 16, 0, false, .rc, .lost⟩
def F.TDS_CNT_RSM_POISONED : Fld := ⟨0x40140, 0x0, 1, 0x0, 1, 32, 16, 0, false, .rc, .lost⟩
def F.TDS_CNT_RSM_NO_ROOM : Fld := ⟨0x40140, 0x0, 1, 0x0, 1, 48, 16, 0, false, .rc, .lost⟩
def F.TDS_CNT_OVR_OVERRUN : Fld := ⟨0x40148, 0x0, 1, 0x0, 1, 0, 32, 0, false, .rc, .lost⟩
def F.TDS_CNT_FRM_FRAMES : Fld := ⟨0x40150, 0x0, 1, 0x0, 1, 0, 48, 0, true, .ro, .lost⟩

/-! Fields of 04_tasor_upstream.md. -/

def F.TUS_CTL_GATE : Fld := ⟨0x50000, 0x0, 1, 0x0, 1, 0, 2, 0, false, .rw, .saved⟩
def F.TUS_CTL_TX_INHIBIT : Fld := ⟨0x50000, 0x0, 1, 0x0, 1, 2, 1, 0, false, .rw, .saved⟩
def F.TUS_CTL_FAULT_AUTO : Fld := ⟨0x50000, 0x0, 1, 0x0, 1, 3, 1, 0, false, .rw, .saved⟩
def F.TUS_CTL_FAULT_CLR : Fld := ⟨0x50000, 0x0, 1, 0x0, 1, 4, 1, 0, false, .wo, .saved⟩
def F.TUS_CTL_AUTO_SLEEP : Fld := ⟨0x50000, 0x0, 1, 0x0, 1, 5, 1, 0, false, .rw, .saved⟩
def F.TUS_CTL_ROGUE_SLEEP : Fld := ⟨0x50000, 0x0, 1, 0x0, 1, 6, 1, 0, false, .rw, .saved⟩
def F.TUS_TIMING_EQD : Fld := ⟨0x50008, 0x0, 1, 0x0, 1, 0, 26, 0, false, .rwst, .saved⟩
def F.TUS_TIMING_RT_TRIM : Fld := ⟨0x50008, 0x0, 1, 0x0, 1, 32, 20, 0, false, .rw, .saved⟩
def F.TUS_TXEN_LEAD : Fld := ⟨0x50010, 0x0, 1, 0x0, 1, 0, 12, 0x400, false, .rw, .saved⟩
def F.TUS_TXEN_LAG : Fld := ⟨0x50010, 0x0, 1, 0x0, 1, 12, 8, 0, false, .rw, .saved⟩
def F.TUS_TXEN_SD_DLY : Fld := ⟨0x50010, 0x0, 1, 0x0, 1, 20, 12, 0x800, false, .rw, .saved⟩
def F.TUS_TXEN_SD_OFF : Fld := ⟨0x50010, 0x0, 1, 0x0, 1, 32, 12, 0x400, false, .rw, .saved⟩
def F.TUS_TXEN_PHY_WAKE : Fld := ⟨0x50010, 0x0, 1, 0x0, 1, 44, 5, 8, false, .rw, .saved⟩
def F.TUS_SEQSEL_PSEQ : Fld := ⟨0x50018, 0x0, 1, 0x0, 1, 0, 8, 0, false, .rwst, .saved⟩
def F.TUS_SEQSEL_KSEL : Fld := ⟨0x50018, 0x0, 1, 0x0, 1, 8, 2, 0, false, .rwst, .saved⟩
def F.TUS_STAT_BURST : Fld := ⟨0x50020, 0x0, 1, 0x0, 1, 0, 1, 0, false, .ro, .lost⟩
def F.TUS_STAT_TX_EN : Fld := ⟨0x50020, 0x0, 1, 0x0, 1, 1, 1, 0, false, .ro, .lost⟩
def F.TUS_STAT_TX_SD : Fld := ⟨0x50020, 0x0, 1, 0x0, 1, 2, 1, 0, false, .ro, .lost⟩
def F.TUS_STAT_TX_FAULT : Fld := ⟨0x50020, 0x0, 1, 0x0, 1, 3, 1, 0, false, .ro, .lost⟩
def F.TUS_STAT_PHY_SLEEP : Fld := ⟨0x50020, 0x0, 1, 0x0, 1, 4, 1, 0, false, .ro, .lost⟩
def F.TUS_STAT_FAULT_HOLD : Fld := ⟨0x50020, 0x0, 1, 0x0, 1, 5, 1, 0, false, .ro, .lost⟩
def F.TUS_STAT_REFUSED : Fld := ⟨0x50020, 0x0, 1, 0x0, 1, 6, 1, 0, false, .w1c, .lost⟩
def F.TUS_STAT_BSEQ : Fld := ⟨0x50020, 0x0, 1, 0x0, 1, 16, 16, 0, false, .ro, .lost⟩
def F.TUS_PAGE_STAT_PAGE : Fld := ⟨0x50028, 0x0, 1, 0x0, 1, 0, 3, 0, false, .ro, .lost⟩
def F.TUS_PAGE_STAT_OWN : Fld := ⟨0x50028, 0x0, 1, 0x0, 1, 3, 8, 0, false, .ro, .lost⟩
def F.TUS_PAGE_STAT_FULL : Fld := ⟨0x50028, 0x0, 1, 0x0, 1, 11, 1, 0, false, .ro, .lost⟩
def F.TUS_PAGE_STAT_ORIGIN_POS : Fld := ⟨0x50028, 0x0, 1, 0x0, 1, 12, 9, 0, false, .ro, .lost⟩
def F.TUS_PAGE_STAT_READY : Fld := ⟨0x50028, 0x0, 1, 0x0, 1, 21, 11, 0, false, .ro, .lost⟩
def F.TUS_PAGE_STAT_SFC_LOW : Fld := ⟨0x50028, 0x0, 1, 0x0, 1, 32, 32, 0, false, .ro, .lost⟩
def F.TUS_ALLOC_STAT_REFUSED : Fld := ⟨0x50030, 0x0, 1, 0x0, 1, 0, 1, 0, false, .w1c, .lost⟩
def F.TUS_ALLOC_STAT_LAST_IDX : Fld := ⟨0x50030, 0x0, 1, 0x0, 1, 16, 9, 0, false, .ro, .lost⟩
def F.TUS_DISC_DLY : Fld := ⟨0x50038, 0x0, 1, 0x0, 1, 0, 19, 0, false, .rw, .saved⟩
def F.TUS_PROF_CFG_GUARD : Fld := ⟨0x50100, 0x20, 4, 0x0, 1, 0, 9, 0x80, false, .rwst, .saved⟩
def F.TUS_PROF_CFG_PRE_LEN : Fld := ⟨0x50100, 0x20, 4, 0x0, 1, 9, 10, 0x100, false, .rwst, .saved⟩
def F.TUS_PROF_CFG_PRE_PAT : Fld := ⟨0x50100, 0x20, 4, 0x0, 1, 32, 32, 0x55555555, false, .rwst, .saved⟩
def F.TUS_PROF_DLM_HI_DLM_HI : Fld := ⟨0x50108, 0x20, 4, 0x0, 1, 0, 64, 0x9E2AD51C47F06B83, false, .rwst, .saved⟩
def F.TUS_PROF_DLM_LO_DLM_LO : Fld := ⟨0x50110, 0x20, 4, 0x0, 1, 0, 64, 0x61D52AE3B80F947C, false, .rwst, .saved⟩
def F.TUS_ALLOC_ALLOC_ID : Fld := ⟨0x51000, 0x8, 512, 0x0, 1, 0, 14, 0, false, .rwst, .array⟩
def F.TUS_ALLOC_VALID : Fld := ⟨0x51000, 0x8, 512, 0x0, 1, 14, 1, 0, false, .rwst, .array⟩
def F.TUS_ALLOC_ENC : Fld := ⟨0x51000, 0x8, 512, 0x0, 1, 15, 1, 0, false, .rwst, .array⟩
def F.TUS_ALLOC_DEFER : Fld := ⟨0x51000, 0x8, 512, 0x0, 1, 16, 1, 0, false, .rwst, .array⟩
def F.TUS_GT_START : Fld := ⟨0x54000, 0x400, 8, 0x8, 128, 0, 19, 0, false, .ro, .lost⟩
def F.TUS_GT_LEN : Fld := ⟨0x54000, 0x400, 8, 0x8, 128, 19, 19, 0, false, .ro, .lost⟩
def F.TUS_GT_ENTRY : Fld := ⟨0x54000, 0x400, 8, 0x8, 128, 38, 10, 0, false, .ro, .lost⟩
def F.TUS_GT_RPT : Fld := ⟨0x54000, 0x400, 8, 0x8, 128, 48, 1, 0, false, .ro, .lost⟩
def F.TUS_GT_PROF : Fld := ⟨0x54000, 0x400, 8, 0x8, 128, 49, 2, 0, false, .ro, .lost⟩
def F.TUS_GT_FEC : Fld := ⟨0x54000, 0x400, 8, 0x8, 128, 51, 1, 0, false, .ro, .lost⟩
def F.TUS_GT_MSG : Fld := ⟨0x54000, 0x400, 8, 0x8, 128, 52, 1, 0, false, .ro, .lost⟩
def F.TUS_GT_STATUS : Fld := ⟨0x54000, 0x400, 8, 0x8, 128, 53, 4, 0, false, .ro, .lost⟩
def F.TUS_CNT_BURST_BURSTS : Fld := ⟨0x50200, 0x0, 1, 0x0, 1, 0, 32, 0, false, .rc, .lost⟩
def F.TUS_CNT_BURST_GRANTS : Fld := ⟨0x50200, 0x0, 1, 0x0, 1, 32, 32, 0, false, .rc, .lost⟩
def F.TUS_CNT_DISC_RANGE : Fld := ⟨0x50208, 0x0, 1, 0x0, 1, 0, 16, 0, false, .rc, .lost⟩
def F.TUS_CNT_DISC_PSEQ : Fld := ⟨0x50208, 0x0, 1, 0x0, 1, 16, 16, 0, false, .rc, .lost⟩
def F.TUS_CNT_DISC_OVERLAP : Fld := ⟨0x50208, 0x0, 1, 0x0, 1, 32, 16, 0, false, .rc, .lost⟩
def F.TUS_CNT_DISC_SHORT : Fld := ⟨0x50208, 0x0, 1, 0x0, 1, 48, 16, 0, false, .rc, .lost⟩
def F.TUS_CNT_DISC2_LATE : Fld := ⟨0x50210, 0x0, 1, 0x0, 1, 0, 16, 0, false, .rc, .lost⟩
def F.TUS_CNT_DISC2_TABLE_FULL : Fld := ⟨0x50210, 0x0, 1, 0x0, 1, 16, 16, 0, false, .rc, .lost⟩
def F.TUS_CNT_DISC2_PURGED : Fld := ⟨0x50210, 0x0, 1, 0x0, 1, 32, 16, 0, false, .rc, .lost⟩
def F.TUS_CNT_DISC2_ABORTED : Fld := ⟨0x50210, 0x0, 1, 0x0, 1, 48, 16, 0, false, .rc, .lost⟩
def F.TUS_CNT_FILL_SHORT_SHARE : Fld := ⟨0x50218, 0x0, 1, 0x0, 1, 0, 16, 0, false, .rc, .lost⟩
def F.TUS_CNT_FILL_KEY_MISSING : Fld := ⟨0x50218, 0x0, 1, 0x0, 1, 16, 16, 0, false, .rc, .lost⟩
def F.TUS_CNT_FILL_ABORT_FRAMES : Fld := ⟨0x50218, 0x0, 1, 0x0, 1, 32, 16, 0, false, .rc, .lost⟩
def F.TUS_CNT_FILL_GATED : Fld := ⟨0x50218, 0x0, 1, 0x0, 1, 48, 16, 0, false, .rc, .lost⟩
def F.TUS_CNT_PHY_TX_FAULT : Fld := ⟨0x50220, 0x0, 1, 0x0, 1, 0, 16, 0, false, .rc, .lost⟩
def F.TUS_CNT_PHY_ROGUE : Fld := ⟨0x50220, 0x0, 1, 0x0, 1, 16, 16, 0, false, .rc, .lost⟩
def F.TUS_CNT_PHY_DARK : Fld := ⟨0x50220, 0x0, 1, 0x0, 1, 32, 16, 0, false, .rc, .lost⟩
def F.TUS_CNT_FRM_FRAMES : Fld := ⟨0x50228, 0x0, 1, 0x0, 1, 0, 48, 0, true, .ro, .lost⟩
def F.TUS_CNT_OCT_OCTETS : Fld := ⟨0x50230, 0x0, 1, 0x0, 1, 0, 64, 0, false, .ro, .lost⟩

/-! Fields of 05_terminal_states.md. -/

def F.TST_STATE_STATE : Fld := ⟨0x60000, 0x0, 1, 0x0, 1, 0, 3, 0, false, .ro, .lost⟩
def F.TST_STATE_PREV : Fld := ⟨0x60000, 0x0, 1, 0x0, 1, 3, 3, 0, false, .ro, .lost⟩
def F.TST_STATE_HALT_LATCH : Fld := ⟨0x60000, 0x0, 1, 0x0, 1, 6, 1, 0, false, .ro, .aon⟩
def F.TST_STATE_CMD_REFUSED : Fld := ⟨0x60000, 0x0, 1, 0x0, 1, 7, 1, 0, false, .w1c, .lost⟩
def F.TST_STATE_TIMER : Fld := ⟨0x60000, 0x0, 1, 0x0, 1, 8, 16, 0, false, .ro, .lost⟩
def F.TST_STATE_ENTRY_SFC : Fld := ⟨0x60000, 0x0, 1, 0x0, 1, 32, 32, 0, false, .ro, .lost⟩
def F.TST_CTL_ACTIVATE : Fld := ⟨0x60008, 0x0, 1, 0x0, 1, 0, 1, 0, false, .rw, .lost⟩
def F.TST_CTL_TO_RANGE : Fld := ⟨0x60008, 0x0, 1, 0x0, 1, 1, 16, 0x50, false, .rw, .lost⟩
def F.TST_CMD_CMD : Fld := ⟨0x60010, 0x0, 1, 0x0, 1, 0, 4, 0, false, .wo, .lost⟩
def F.TST_CMD_TID : Fld := ⟨0x60010, 0x0, 1, 0x0, 1, 4, 10, 0, false, .wo, .lost⟩
def F.TST_ID_TID : Fld := ⟨0x60018, 0x0, 1, 0x0, 1, 0, 10, 0, false, .ro, .lost⟩
def F.TST_ID_VALID : Fld := ⟨0x60018, 0x0, 1, 0x0, 1, 10, 1, 0, false, .ro, .lost⟩
def F.TST_SERIAL_SN : Fld := ⟨0x60020, 0x0, 1, 0x0, 1, 0, 64, 0, false, .ro, .lost⟩
def F.TST_KEYSW_KSEQ : Fld := ⟨0x60028, 0x0, 1, 0x0, 1, 0, 8, 0, false, .ro, .lost⟩
def F.TST_KEYSW_PEND_KSEQ : Fld := ⟨0x60028, 0x0, 1, 0x0, 1, 8, 8, 0, false, .ro, .lost⟩
def F.TST_KEYSW_PEND_SLOT : Fld := ⟨0x60028, 0x0, 1, 0x0, 1, 16, 2, 0, false, .ro, .lost⟩
def F.TST_KEYSW_PENDING : Fld := ⟨0x60028, 0x0, 1, 0x0, 1, 18, 1, 0, false, .ro, .lost⟩
def F.TST_KEYSW_PEND_SFC : Fld := ⟨0x60028, 0x0, 1, 0x0, 1, 32, 32, 0, false, .ro, .lost⟩
def F.TST_SLEEP_ALLOWED : Fld := ⟨0x60030, 0x0, 1, 0x0, 1, 0, 1, 0, false, .ro, .lost⟩
def F.TST_SLEEP_K : Fld := ⟨0x60030, 0x0, 1, 0x0, 1, 1, 5, 0, false, .ro, .lost⟩
def F.TST_SLEEP_REQ : Fld := ⟨0x60030, 0x0, 1, 0x0, 1, 6, 1, 0, false, .rw, .lost⟩
def F.TST_TOD_CTL_STEP_THR : Fld := ⟨0x60040, 0x0, 1, 0x0, 1, 0, 16, 0x3E8, false, .rw, .lost⟩
def F.TST_TOD_CTL_TOD_EN : Fld := ⟨0x60040, 0x0, 1, 0x0, 1, 16, 1, 1, false, .rw, .lost⟩
def F.TST_TOD_CTL_DISC_EN : Fld := ⟨0x60040, 0x0, 1, 0x0, 1, 17, 1, 1, false, .rw, .lost⟩
def F.TST_TOD_CTL_DS_LAT : Fld := ⟨0x60040, 0x0, 1, 0x0, 1, 32, 32, 0, false, .rw, .lost⟩
def F.TST_TOD_STAT_VALID : Fld := ⟨0x60048, 0x0, 1, 0x0, 1, 0, 1, 0, false, .ro, .aon⟩
def F.TST_TOD_STAT_SLEWING : Fld := ⟨0x60048, 0x0, 1, 0x0, 1, 1, 1, 0, false, .ro, .lost⟩
def F.TST_TOD_STAT_STEPPED : Fld := ⟨0x60048, 0x0, 1, 0x0, 1, 2, 1, 0, false, .w1c, .lost⟩
def F.TST_TOD_STAT_REFUSED : Fld := ⟨0x60048, 0x0, 1, 0x0, 1, 3, 1, 0, false, .w1c, .lost⟩
def F.TST_TOD_STAT_RATE_HELD : Fld := ⟨0x60048, 0x0, 1, 0x0, 1, 4, 1, 0, false, .ro, .lost⟩
def F.TST_TOD_STAT_LAST_OFS : Fld := ⟨0x60048, 0x0, 1, 0x0, 1, 16, 32, 0, false, .ro, .lost⟩
def F.TST_TOD_RATE_RATE_ADJ : Fld := ⟨0x60050, 0x0, 1, 0x0, 1, 0, 40, 0, false, .rw, .lost⟩
def F.TST_TIME_LO_FRAC : Fld := ⟨0x60058, 0x0, 1, 0x0, 1, 0, 16, 0, false, .ro, .lost⟩
def F.TST_TIME_LO_NS : Fld := ⟨0x60058, 0x0, 1, 0x0, 1, 16, 32, 0, false, .ro, .lost⟩
def F.TST_TIME_HI_SEC : Fld := ⟨0x60060, 0x0, 1, 0x0, 1, 0, 48, 0, false, .ro, .lost⟩
def F.TST_TIME_ADJ_ADJ : Fld := ⟨0x60068, 0x0, 1, 0x0, 1, 0, 64, 0, false, .wo, .lost⟩
def F.TST_PPS_CTL_OUT_EN : Fld := ⟨0x60070, 0x0, 1, 0x0, 1, 0, 1, 0, false, .rw, .lost⟩
def F.TST_PPS_CTL_IN_EN : Fld := ⟨0x60070, 0x0, 1, 0x0, 1, 1, 1, 0, false, .rw, .lost⟩
def F.TST_PPS_CTL_WIDTH : Fld := ⟨0x60070, 0x0, 1, 0x0, 1, 2, 10, 0x64, false, .rw, .lost⟩
def F.TST_PPS_CTL_OUT_OFS : Fld := ⟨0x60070, 0x0, 1, 0x0, 1, 32, 32, 0, false, .rw, .lost⟩
def F.TST_PPSIN_LO_FRAC : Fld := ⟨0x60078, 0x0, 1, 0x0, 1, 0, 16, 0, false, .ro, .lost⟩
def F.TST_PPSIN_LO_NS : Fld := ⟨0x60078, 0x0, 1, 0x0, 1, 16, 32, 0, false, .ro, .lost⟩
def F.TST_PPSIN_LO_SEQ : Fld := ⟨0x60078, 0x0, 1, 0x0, 1, 48, 16, 0, true, .ro, .lost⟩
def F.TST_PPSIN_HI_SEC : Fld := ⟨0x60080, 0x0, 1, 0x0, 1, 0, 48, 0, false, .ro, .lost⟩
def F.TST_PPSIN_HI_SEQ : Fld := ⟨0x60080, 0x0, 1, 0x0, 1, 48, 16, 0, false, .ro, .lost⟩
def F.TST_CNT_INTERMITS : Fld := ⟨0x60100, 0x0, 1, 0x0, 1, 0, 16, 0, false, .rc, .lost⟩
def F.TST_CNT_RANGE_TMO : Fld := ⟨0x60100, 0x0, 1, 0x0, 1, 16, 16, 0, false, .rc, .lost⟩
def F.TST_CNT_BAD_STATE : Fld := ⟨0x60100, 0x0, 1, 0x0, 1, 32, 16, 0, false, .rc, .lost⟩
def F.TST_CNT_DUPLICATE : Fld := ⟨0x60100, 0x0, 1, 0x0, 1, 48, 16, 0, false, .rc, .lost⟩
def F.TST_CNT2_DISC_EXTRA : Fld := ⟨0x60108, 0x0, 1, 0x0, 1, 0, 16, 0, false, .rc, .lost⟩
def F.TST_CNT2_PPSIN_IGNORED : Fld := ⟨0x60108, 0x0, 1, 0x0, 1, 16, 16, 0, false, .rc, .lost⟩
def F.TST_CNT2_TOD_APPLIED : Fld := ⟨0x60108, 0x0, 1, 0x0, 1, 32, 16, 0, false, .rc, .lost⟩
def F.TST_CNT2_TOD_BAD : Fld := ⟨0x60108, 0x0, 1, 0x0, 1, 48, 16, 0, false, .rc, .lost⟩

/-! Fields of 06_classifier.md. -/

def F.CLS_CTL_CSUM_DROP : Fld := ⟨0x80000, 0x0, 1, 0x0, 1, 0, 3, 0, false, .rw, .saved⟩
def F.CLS_CTL_STASH_THR : Fld := ⟨0x80000, 0x0, 1, 0x0, 1, 3, 11, 0x100, false, .rw, .saved⟩
def F.CLS_DEF_LO_ACT_LO : Fld := ⟨0x80010, 0x10, 3, 0x0, 1, 0, 64, 0, false, .rwst, .saved⟩
def F.CLS_DEF_HI_ACT_HI : Fld := ⟨0x80018, 0x10, 3, 0x0, 1, 0, 64, 0, false, .rwst, .saved⟩
def F.CLS_ACC_CUR_CUR : Fld := ⟨0x80040, 0x0, 1, 0x0, 1, 0, 12, 0, false, .st, .saved⟩
def F.CLS_ACC_STAT_CUR : Fld := ⟨0x80048, 0x0, 1, 0x0, 1, 0, 12, 0, false, .ro, .saved⟩
def F.CLS_ACC_STAT_OLD : Fld := ⟨0x80048, 0x0, 1, 0x0, 1, 12, 12, 0, false, .ro, .saved⟩
def F.CLS_ACC_STAT_STATE : Fld := ⟨0x80048, 0x0, 1, 0x0, 1, 24, 3, 0, false, .ro, .saved⟩
def F.CLS_ACC_STAT_DRAIN : Fld := ⟨0x80048, 0x0, 1, 0x0, 1, 28, 8, 0, false, .ro, .saved⟩
def F.CLS_ACC_STAT_STASH_USED : Fld := ⟨0x80048, 0x0, 1, 0x0, 1, 36, 11, 0, false, .ro, .saved⟩
def F.CLS_UPD_CMD_OP : Fld := ⟨0x80060, 0x0, 1, 0x0, 1, 0, 4, 0, false, .wo, .lost⟩
def F.CLS_UPD_CMD_TABLE : Fld := ⟨0x80060, 0x0, 1, 0x0, 1, 4, 1, 0, false, .wo, .lost⟩
def F.CLS_UPD_CMD_STASH : Fld := ⟨0x80060, 0x0, 1, 0x0, 1, 5, 1, 0, false, .wo, .lost⟩
def F.CLS_UPD_CMD_CHOICE : Fld := ⟨0x80060, 0x0, 1, 0x0, 1, 6, 1, 0, false, .wo, .lost⟩
def F.CLS_UPD_CMD_BUCKET : Fld := ⟨0x80060, 0x0, 1, 0x0, 1, 7, 13, 0, false, .wo, .lost⟩
def F.CLS_UPD_CMD_POS : Fld := ⟨0x80060, 0x0, 1, 0x0, 1, 20, 3, 0, false, .wo, .lost⟩
def F.CLS_UPD_CMD_SIDX : Fld := ⟨0x80060, 0x0, 1, 0x0, 1, 23, 10, 0, false, .wo, .lost⟩
def F.CLS_UPD_CMD_VAL : Fld := ⟨0x80060, 0x0, 1, 0x0, 1, 33, 1, 0, false, .wo, .lost⟩
def F.CLS_UPD_DST_STASH : Fld := ⟨0x80068, 0x0, 1, 0x0, 1, 5, 1, 0, false, .rw, .saved⟩
def F.CLS_UPD_DST_CHOICE : Fld := ⟨0x80068, 0x0, 1, 0x0, 1, 6, 1, 0, false, .rw, .saved⟩
def F.CLS_UPD_DST_BUCKET : Fld := ⟨0x80068, 0x0, 1, 0x0, 1, 7, 13, 0, false, .rw, .saved⟩
def F.CLS_UPD_DST_POS : Fld := ⟨0x80068, 0x0, 1, 0x0, 1, 20, 3, 0, false, .rw, .saved⟩
def F.CLS_UPD_DST_SIDX : Fld := ⟨0x80068, 0x0, 1, 0x0, 1, 23, 10, 0, false, .rw, .saved⟩
def F.CLS_UPD_STAT_BUSY : Fld := ⟨0x80070, 0x0, 1, 0x0, 1, 0, 1, 0, false, .ro, .lost⟩
def F.CLS_UPD_STAT_ERR : Fld := ⟨0x80070, 0x0, 1, 0x0, 1, 1, 4, 0, false, .ro, .lost⟩
def F.CLS_UPD_STAT_ERR_SEEN : Fld := ⟨0x80070, 0x0, 1, 0x0, 1, 5, 1, 0, false, .w1c, .lost⟩
def F.CLS_UPD_STAT_B0 : Fld := ⟨0x80070, 0x0, 1, 0x0, 1, 6, 13, 0, false, .ro, .lost⟩
def F.CLS_UPD_STAT_B1 : Fld := ⟨0x80070, 0x0, 1, 0x0, 1, 19, 13, 0, false, .ro, .lost⟩
def F.CLS_UPD_DATA_DATA : Fld := ⟨0x80080, 0x8, 8, 0x0, 1, 0, 64, 0, false, .rw, .lost⟩
def F.CLS_CNT_HIT_HIT_B : Fld := ⟨0x80100, 0x40, 3, 0x0, 1, 0, 32, 0, false, .rc, .lost⟩
def F.CLS_CNT_HIT_HIT_A : Fld := ⟨0x80100, 0x40, 3, 0x0, 1, 32, 32, 0, false, .rc, .lost⟩
def F.CLS_CNT_MISS_MISS : Fld := ⟨0x80108, 0x40, 3, 0x0, 1, 0, 32, 0, false, .rc, .lost⟩
def F.CLS_CNT_MISS_STASH_HIT : Fld := ⟨0x80108, 0x40, 3, 0x0, 1, 32, 32, 0, false, .rc, .lost⟩
def F.CLS_CNT_PARSE_TAGS3 : Fld := ⟨0x80110, 0x40, 3, 0x0, 1, 0, 16, 0, false, .rc, .lost⟩
def F.CLS_CNT_PARSE_TRUNC : Fld := ⟨0x80110, 0x40, 3, 0x0, 1, 16, 16, 0, false, .rc, .lost⟩
def F.CLS_CNT_PARSE_EXT : Fld := ⟨0x80110, 0x40, 3, 0x0, 1, 32, 16, 0, false, .rc, .lost⟩
def F.CLS_CNT_PARSE_IP_BAD : Fld := ⟨0x80110, 0x40, 3, 0x0, 1, 48, 16, 0, false, .rc, .lost⟩
def F.CLS_CNT_ACT_FORBIDDEN : Fld := ⟨0x80118, 0x40, 3, 0x0, 1, 0, 16, 0, false, .rc, .lost⟩
def F.CLS_CNT_ACT_BAD_ACTION : Fld := ⟨0x80118, 0x40, 3, 0x0, 1, 16, 16, 0, false, .rc, .lost⟩
def F.CLS_CNT_ACT_TAG_SKIP : Fld := ⟨0x80118, 0x40, 3, 0x0, 1, 32, 16, 0, false, .rc, .lost⟩
def F.CLS_CNT_DROP_POL_DROP : Fld := ⟨0x80120, 0x40, 3, 0x0, 1, 0, 32, 0, false, .rc, .lost⟩
def F.CLS_CNT_DROP_ACT_DROP : Fld := ⟨0x80120, 0x40, 3, 0x0, 1, 32, 32, 0, false, .rc, .lost⟩
def F.CLS_CNT_CSUM_L3_BAD : Fld := ⟨0x80128, 0x40, 3, 0x0, 1, 0, 32, 0, false, .rc, .lost⟩
def F.CLS_CNT_CSUM_L4_BAD : Fld := ⟨0x80128, 0x40, 3, 0x0, 1, 32, 32, 0, false, .rc, .lost⟩
def F.CLS_CNT_FRM_FRAMES : Fld := ⟨0x80130, 0x40, 3, 0x0, 1, 0, 48, 0, true, .ro, .lost⟩
def F.CLS_STAT_OCT_OCTETS : Fld := ⟨0x88000, 0x10, 1024, 0x0, 1, 0, 64, 0, false, .ro, .array⟩
def F.CLS_STAT_FRM_FRAMES : Fld := ⟨0x88008, 0x10, 1024, 0x0, 1, 0, 48, 0, true, .ro, .array⟩
def F.CLS_POL_RATE : Fld := ⟨0x90000, 0x8, 8192, 0x0, 1, 0, 24, 0, false, .rwst, .array⟩
def F.CLS_POL_BURST : Fld := ⟨0x90000, 0x8, 8192, 0x0, 1, 24, 24, 0, false, .rwst, .array⟩
def F.CLS_POL_DROPS : Fld := ⟨0x90000, 0x8, 8192, 0x0, 1, 48, 16, 0, false, .rc, .array⟩

/-! Fields of 07_user_ports.md. -/

def F.UPM_CFG_EN : Fld := ⟨0xA0000, 0x4000, 4, 0x0, 1, 0, 1, 0, false, .rw, .saved⟩
def F.UPM_CFG_RATE : Fld := ⟨0xA0000, 0x4000, 4, 0x0, 1, 1, 2, 0, false, .rw, .saved⟩
def F.UPM_CFG_MAX_LEN : Fld := ⟨0xA0000, 0x4000, 4, 0x0, 1, 4, 14, 0x5EE, false, .rw, .saved⟩
def F.UPM_CFG_RX_TAG_MODE : Fld := ⟨0xA0000, 0x4000, 4, 0x0, 1, 18, 2, 0, false, .rwst, .saved⟩
def F.UPM_CFG_TX_TAG_MODE : Fld := ⟨0xA0000, 0x4000, 4, 0x0, 1, 20, 2, 0, false, .rwst, .saved⟩
def F.UPM_CFG_PVID : Fld := ⟨0xA0000, 0x4000, 4, 0x0, 1, 22, 12, 0, false, .rwst, .saved⟩
def F.UPM_CFG_PVID_PCP : Fld := ⟨0xA0000, 0x4000, 4, 0x0, 1, 34, 3, 0, false, .rwst, .saved⟩
def F.UPM_CFG_PVID_STAG : Fld := ⟨0xA0000, 0x4000, 4, 0x0, 1, 37, 1, 0, false, .rwst, .saved⟩
def F.UPM_CFG_IPG_EXTRA : Fld := ⟨0xA0000, 0x4000, 4, 0x0, 1, 38, 4, 0, false, .rw, .saved⟩
def F.UPM_STAT_LINK : Fld := ⟨0xA0008, 0x4000, 4, 0x0, 1, 0, 1, 0, false, .ro, .saved⟩
def F.UPM_STAT_RX_LPI : Fld := ⟨0xA0008, 0x4000, 4, 0x0, 1, 1, 1, 0, false, .ro, .saved⟩
def F.UPM_STAT_TX_LPI : Fld := ⟨0xA0008, 0x4000, 4, 0x0, 1, 2, 1, 0, false, .ro, .saved⟩
def F.UPM_STAT_REFUSED : Fld := ⟨0xA0008, 0x4000, 4, 0x0, 1, 3, 1, 0, false, .w1c, .saved⟩
def F.UPM_STAT_REFUSE_WHY : Fld := ⟨0xA0008, 0x4000, 4, 0x0, 1, 4, 3, 0, false, .ro, .saved⟩
def F.UPM_STAT_PAUSED : Fld := ⟨0xA0008, 0x4000, 4, 0x0, 1, 7, 8, 0, false, .ro, .saved⟩
def F.UPM_STAT_XOFF : Fld := ⟨0xA0008, 0x4000, 4, 0x0, 1, 15, 1, 0, false, .ro, .saved⟩
def F.UPM_MACADDR_ADDR : Fld := ⟨0xA0010, 0x4000, 4, 0x0, 1, 0, 48, 0, false, .rw, .saved⟩
def F.UPM_FC_CFG_RX_PAUSE_EN : Fld := ⟨0xA0018, 0x4000, 4, 0x0, 1, 0, 1, 1, false, .rw, .saved⟩
def F.UPM_FC_CFG_RX_PFC_EN : Fld := ⟨0xA0018, 0x4000, 4, 0x0, 1, 1, 1, 0, false, .rw, .saved⟩
def F.UPM_FC_CFG_TX_MODE : Fld := ⟨0xA0018, 0x4000, 4, 0x0, 1, 2, 2, 0, false, .rw, .saved⟩
def F.UPM_FC_CFG_PFC_MASK : Fld := ⟨0xA0018, 0x4000, 4, 0x0, 1, 4, 8, 0, false, .rw, .saved⟩
def F.UPM_FC_CFG_TX_QUANTA : Fld := ⟨0xA0018, 0x4000, 4, 0x0, 1, 12, 16, 0xFFFF, false, .rw, .saved⟩
def F.UPM_FC_THR_XOFF_THR : Fld := ⟨0xA0020, 0x4000, 4, 0x0, 1, 0, 11, 0x160, false, .rw, .saved⟩
def F.UPM_FC_THR_XON_THR : Fld := ⟨0xA0020, 0x4000, 4, 0x0, 1, 11, 11, 0xC0, false, .rw, .saved⟩
def F.UPM_FC_THR_LOSSY_THR : Fld := ⟨0xA0020, 0x4000, 4, 0x0, 1, 22, 11, 0x400, false, .rw, .saved⟩
def F.UPM_PRE_CFG_PRE_EN : Fld := ⟨0xA0030, 0x4000, 4, 0x0, 1, 0, 1, 0, false, .rw, .saved⟩
def F.UPM_PRE_CFG_VERIFY_DIS : Fld := ⟨0xA0030, 0x4000, 4, 0x0, 1, 1, 1, 0, false, .rw, .saved⟩
def F.UPM_PRE_CFG_VERIFY_TIME : Fld := ⟨0xA0030, 0x4000, 4, 0x0, 1, 2, 8, 0xA, false, .rw, .saved⟩
def F.UPM_PRE_CFG_ADD_FRAG : Fld := ⟨0xA0030, 0x4000, 4, 0x0, 1, 10, 2, 0, false, .rw, .saved⟩
def F.UPM_PRE_CFG_EXPRESS : Fld := ⟨0xA0030, 0x4000, 4, 0x0, 1, 12, 8, 0, false, .rwst, .saved⟩
def F.UPM_PRE_STAT_VSTATUS : Fld := ⟨0xA0038, 0x4000, 4, 0x0, 1, 0, 3, 0, false, .ro, .lost⟩
def F.UPM_PRE_STAT_ATTEMPTS : Fld := ⟨0xA0038, 0x4000, 4, 0x0, 1, 3, 2, 0, false, .ro, .saved⟩
def F.UPM_PRE_STAT_ACTIVE : Fld := ⟨0xA0038, 0x4000, 4, 0x0, 1, 5, 1, 0, false, .ro, .saved⟩
def F.UPM_PRE_STAT_ASM_BUSY : Fld := ⟨0xA0038, 0x4000, 4, 0x0, 1, 6, 1, 0, false, .ro, .saved⟩
def F.UPM_EEE_CFG_EEE_EN : Fld := ⟨0xA0040, 0x4000, 4, 0x0, 1, 0, 1, 0, false, .rw, .saved⟩
def F.UPM_EEE_CFG_IDLE_HOLD : Fld := ⟨0xA0040, 0x4000, 4, 0x0, 1, 1, 12, 0x64, false, .rw, .saved⟩
def F.UPM_EEE_CFG_IDLE_HOLD_POND : Fld := ⟨0xA0040, 0x4000, 4, 0x0, 1, 13, 12, 0xA, false, .rw, .saved⟩
def F.UPM_EEE_CFG_TW_SYS_TX : Fld := ⟨0xA0040, 0x4000, 4, 0x0, 1, 25, 16, 0x10, false, .rw, .saved⟩
def F.UPM_TS_CFG_RX_LAT : Fld := ⟨0xA0050, 0x4000, 4, 0x0, 1, 0, 32, 0, false, .rw, .saved⟩
def F.UPM_TS_CFG_TX_LAT : Fld := ⟨0xA0050, 0x4000, 4, 0x0, 1, 32, 32, 0, false, .rw, .saved⟩
def F.UPM_WAKE_CFG_WAKE_LINK : Fld := ⟨0xA0058, 0x4000, 4, 0x0, 1, 0, 1, 0, false, .rw, .saved⟩
def F.UPM_WAKE_CFG_PAT_EN : Fld := ⟨0xA0058, 0x4000, 4, 0x0, 1, 16, 16, 0, false, .rw, .saved⟩
def F.UPM_WAKE_STAT_LINK_SEEN : Fld := ⟨0xA0060, 0x4000, 4, 0x0, 1, 0, 1, 0, false, .w1c, .saved⟩
def F.UPM_WAKE_STAT_PAT_HIT : Fld := ⟨0xA0060, 0x4000, 4, 0x0, 1, 16, 16, 0, false, .w1c, .saved⟩
def F.UPM_WPAT_MLO_MASK : Fld := ⟨0xA0100, 0x4000, 4, 0x20, 16, 0, 64, 0, false, .rw, .saved⟩
def F.UPM_WPAT_MHI_MASK : Fld := ⟨0xA0108, 0x4000, 4, 0x20, 16, 0, 64, 0, false, .rw, .saved⟩
def F.UPM_WPAT_CRC_CRC : Fld := ⟨0xA0110, 0x4000, 4, 0x20, 16, 0, 32, 0, false, .rw, .saved⟩
def F.UPM_CNT_RXF_FRAMES : Fld := ⟨0xA0400, 0x4000, 4, 0x0, 1, 0, 48, 0, true, .ro, .array⟩
def F.UPM_CNT_RXO_OCTETS : Fld := ⟨0xA0408, 0x4000, 4, 0x0, 1, 0, 64, 0, false, .ro, .array⟩
def F.UPM_CNT_RXE_FCS_ERR : Fld := ⟨0xA0410, 0x4000, 4, 0x0, 1, 0, 16, 0, false, .rc, .array⟩
def F.UPM_CNT_RXE_RUNT : Fld := ⟨0xA0410, 0x4000, 4, 0x0, 1, 16, 16, 0, false, .rc, .array⟩
def F.UPM_CNT_RXE_FRAGMENT : Fld := ⟨0xA0410, 0x4000, 4, 0x0, 1, 32, 16, 0, false, .rc, .array⟩
def F.UPM_CNT_RXE_OVERSIZE : Fld := ⟨0xA0410, 0x4000, 4, 0x0, 1, 48, 16, 0, false, .rc, .array⟩
def F.UPM_CNT_RXE2_JABBER : Fld := ⟨0xA0418, 0x4000, 4, 0x0, 1, 0, 16, 0, false, .rc, .array⟩
def F.UPM_CNT_RXE2_CODE_ERR : Fld := ⟨0xA0418, 0x4000, 4, 0x0, 1, 16, 16, 0, false, .rc, .array⟩
def F.UPM_CNT_RXE2_BAD_SFD : Fld := ⟨0xA0418, 0x4000, 4, 0x0, 1, 32, 16, 0, false, .rc, .array⟩
def F.UPM_CNT_RXE2_CTRL_DROP : Fld := ⟨0xA0418, 0x4000, 4, 0x0, 1, 48, 16, 0, false, .rc, .array⟩
def F.UPM_CNT_RXP_ASM_ERR : Fld := ⟨0xA0420, 0x4000, 4, 0x0, 1, 0, 16, 0, false, .rc, .array⟩
def F.UPM_CNT_RXP_FRAGS_RX : Fld := ⟨0xA0420, 0x4000, 4, 0x0, 1, 16, 16, 0, false, .rc, .array⟩
def F.UPM_CNT_RXP_OVERRUN : Fld := ⟨0xA0420, 0x4000, 4, 0x0, 1, 32, 16, 0, false, .rc, .array⟩
def F.UPM_CNT_RXP_LOSSY_DROP : Fld := ⟨0xA0420, 0x4000, 4, 0x0, 1, 48, 16, 0, false, .rc, .array⟩
def F.UPM_CNT_FC_PAUSE_RX : Fld := ⟨0xA0428, 0x4000, 4, 0x0, 1, 0, 16, 0, false, .rc, .array⟩
def F.UPM_CNT_FC_PFC_RX : Fld := ⟨0xA0428, 0x4000, 4, 0x0, 1, 16, 16, 0, false, .rc, .array⟩
def F.UPM_CNT_FC_PAUSE_TX : Fld := ⟨0xA0428, 0x4000, 4, 0x0, 1, 32, 16, 0, false, .rc, .array⟩
def F.UPM_CNT_FC_PFC_TX : Fld := ⟨0xA0428, 0x4000, 4, 0x0, 1, 48, 16, 0, false, .rc, .array⟩
def F.UPM_CNT_TXF_FRAMES : Fld := ⟨0xA0430, 0x4000, 4, 0x0, 1, 0, 48, 0, true, .ro, .array⟩
def F.UPM_CNT_TXO_OCTETS : Fld := ⟨0xA0438, 0x4000, 4, 0x0, 1, 0, 64, 0, false, .ro, .array⟩
def F.UPM_CNT_TXE_PREEMPT : Fld := ⟨0xA0440, 0x4000, 4, 0x0, 1, 0, 16, 0, false, .rc, .array⟩
def F.UPM_CNT_TXE_LINK_DROP : Fld := ⟨0xA0440, 0x4000, 4, 0x0, 1, 16, 16, 0, false, .rc, .array⟩
def F.UPM_CNT_TXE_SIZE_DROP : Fld := ⟨0xA0440, 0x4000, 4, 0x0, 1, 32, 16, 0, false, .rc, .array⟩
def F.UPM_CNT_TXE_WAKE_DISCARD : Fld := ⟨0xA0440, 0x4000, 4, 0x0, 1, 48, 16, 0, false, .rc, .array⟩
def F.UPM_CNT_LPI_TX_LPI_ENTRIES : Fld := ⟨0xA0448, 0x4000, 4, 0x0, 1, 0, 32, 0, false, .rc, .array⟩
def F.UPM_CNT_LPI_RX_LPI_ENTRIES : Fld := ⟨0xA0448, 0x4000, 4, 0x0, 1, 32, 32, 0, false, .rc, .array⟩

/-! Fields of 08_queues_scheduling.md. -/

def F.QSC_STAT_FREE_CELLS : Fld := ⟨0xC0008, 0x0, 1, 0x0, 1, 0, 17, 0x18000, false, .ro, .lost⟩
def F.QSC_STAT_REFUSED : Fld := ⟨0xC0008, 0x0, 1, 0x0, 1, 17, 1, 0, false, .w1c, .lost⟩
def F.QSC_STAT_REFUSE_WHY : Fld := ⟨0xC0008, 0x0, 1, 0x0, 1, 18, 3, 0, false, .ro, .lost⟩
def F.QSC_STAT_FLUSH_BUSY : Fld := ⟨0xC0008, 0x0, 1, 0x0, 1, 21, 1, 0, false, .ro, .lost⟩
def F.QSC_FLUSH_CTX : Fld := ⟨0xC0010, 0x0, 1, 0x0, 1, 0, 12, 0, false, .wo, .lost⟩
def F.QSC_FLUSH_GO : Fld := ⟨0xC0010, 0x0, 1, 0x0, 1, 12, 1, 0, false, .wo, .lost⟩
def F.QSC_RPT_CFG_FACTOR : Fld := ⟨0xC0020, 0x0, 1, 0x0, 1, 0, 5, 0xC, false, .rwst, .saved⟩
def F.QSC_RPT_CFG_COAL_THR : Fld := ⟨0xC0020, 0x0, 1, 0x0, 1, 5, 24, 0x100, false, .rwst, .saved⟩
def F.QSC_RPT_CFG_DEFER_MAX : Fld := ⟨0xC0020, 0x0, 1, 0x0, 1, 29, 16, 0x50, false, .rwst, .saved⟩
def F.QSC_POOL_CFG_EN : Fld := ⟨0xC0200, 0x10, 16, 0x0, 1, 0, 1, 0, false, .rw, .saved⟩
def F.QSC_POOL_CFG_BASE : Fld := ⟨0xC0200, 0x10, 16, 0x0, 1, 16, 32, 0, false, .rw, .saved⟩
def F.QSC_POOL_SIZE_NSEG : Fld := ⟨0xC0208, 0x10, 16, 0x0, 1, 0, 27, 0, false, .rw, .saved⟩
def F.QSC_POOL_SIZE_FAULT : Fld := ⟨0xC0208, 0x10, 16, 0x0, 1, 27, 1, 0, false, .w1c, .saved⟩
def F.QSC_POOL_SIZE_USED : Fld := ⟨0xC0208, 0x10, 16, 0x0, 1, 32, 27, 0, false, .ro, .saved⟩
def F.QSC_EGR_CFG_SP : Fld := ⟨0xC1000, 0x40, 4, 0x8, 8, 0, 1, 0, false, .rwst, .array⟩
def F.QSC_EGR_CFG_WEIGHT : Fld := ⟨0xC1000, 0x40, 4, 0x8, 8, 1, 8, 1, false, .rwst, .array⟩
def F.QSC_EGR_CFG_QLIM : Fld := ⟨0xC1000, 0x40, 4, 0x8, 8, 9, 17, 0x100, false, .rw, .array⟩
def F.QSC_EGR_STAT_CELLS : Fld := ⟨0xC1100, 0x40, 4, 0x8, 8, 0, 17, 0, false, .ro, .array⟩
def F.QSC_EGR_STAT_DROPS : Fld := ⟨0xC1100, 0x40, 4, 0x8, 8, 32, 16, 0, false, .rc, .array⟩
def F.QSC_FC_CFG_EN : Fld := ⟨0xC8000, 0x8, 4096, 0x0, 1, 0, 1, 0, false, .rw, .array⟩
def F.QSC_FC_CFG_ENTRY : Fld := ⟨0xC8000, 0x8, 4096, 0x0, 1, 1, 9, 0, false, .rwst, .array⟩
def F.QSC_FC_CFG_PRIO : Fld := ⟨0xC8000, 0x8, 4096, 0x0, 1, 10, 3, 0, false, .rwst, .array⟩
def F.QSC_FC_CFG_WEIGHT : Fld := ⟨0xC8000, 0x8, 4096, 0x0, 1, 13, 8, 1, false, .rwst, .array⟩
def F.QSC_FC_CFG_FTAG : Fld := ⟨0xC8000, 0x8, 4096, 0x0, 1, 21, 16, 0, false, .rwst, .array⟩
def F.QSC_FC_CFG_SPILL_EN : Fld := ⟨0xC8000, 0x8, 4096, 0x0, 1, 37, 1, 0, false, .rw, .array⟩
def F.QSC_FC_CFG_POOL : Fld := ⟨0xC8000, 0x8, 4096, 0x0, 1, 38, 4, 0, false, .rw, .array⟩
def F.QSC_FC_CFG_QLIM : Fld := ⟨0xC8000, 0x8, 4096, 0x0, 1, 42, 17, 0x100, false, .rw, .array⟩
def F.QSC_FC_SHP_RATE : Fld := ⟨0xD0000, 0x8, 4096, 0x0, 1, 0, 24, 0, false, .rwst, .array⟩
def F.QSC_FC_SHP_BURST : Fld := ⟨0xD0000, 0x8, 4096, 0x0, 1, 24, 24, 0, false, .rwst, .array⟩
def F.QSC_FC_SHP_OVH : Fld := ⟨0xD0000, 0x8, 4096, 0x0, 1, 48, 7, 0, false, .rwst, .array⟩
def F.QSC_FC_SHP_SHP_EN : Fld := ⟨0xD0000, 0x8, 4096, 0x0, 1, 55, 1, 0, false, .rwst, .array⟩
def F.QSC_FC_STAT_CELLS : Fld := ⟨0xD8000, 0x8, 4096, 0x0, 1, 0, 17, 0, false, .ro, .array⟩
def F.QSC_FC_STAT_CHAIN : Fld := ⟨0xD8000, 0x8, 4096, 0x0, 1, 17, 1, 0, false, .ro, .array⟩
def F.QSC_FC_STAT_SPILL_ERR : Fld := ⟨0xD8000, 0x8, 4096, 0x0, 1, 18, 1, 0, false, .w1c, .array⟩
def F.QSC_FC_STAT_REM : Fld := ⟨0xD8000, 0x8, 4096, 0x0, 1, 19, 1, 0, false, .ro, .array⟩
def F.QSC_FC_STAT_SPILL_FRAMES : Fld := ⟨0xD8000, 0x8, 4096, 0x0, 1, 24, 24, 0, false, .ro, .array⟩
def F.QSC_FC_STAT_DROPS : Fld := ⟨0xD8000, 0x8, 4096, 0x0, 1, 48, 16, 0, false, .rc, .array⟩
def F.QSC_CNT_ADM_TAIL_DROP : Fld := ⟨0xC0100, 0x0, 1, 0x0, 1, 0, 32, 0, false, .rc, .array⟩
def F.QSC_CNT_ADM_EGR_DROP : Fld := ⟨0xC0100, 0x0, 1, 0x0, 1, 32, 32, 0, false, .rc, .array⟩
def F.QSC_CNT_SPILL_SPILL_FULL : Fld := ⟨0xC0108, 0x0, 1, 0x0, 1, 0, 16, 0, false, .rc, .array⟩
def F.QSC_CNT_SPILL_SPILL_WERR : Fld := ⟨0xC0108, 0x0, 1, 0x0, 1, 16, 16, 0, false, .rc, .array⟩
def F.QSC_CNT_SPILL_SPILL_RERR : Fld := ⟨0xC0108, 0x0, 1, 0x0, 1, 32, 16, 0, false, .rc, .array⟩
def F.QSC_CNT_SPILL_DIS_DROP : Fld := ⟨0xC0108, 0x0, 1, 0x0, 1, 48, 16, 0, false, .rc, .array⟩
def F.QSC_CNT_SPILL2_SPILLED : Fld := ⟨0xC0110, 0x0, 1, 0x0, 1, 0, 48, 0, true, .ro, .array⟩
def F.QSC_CNT_FLUSH_FLUSHED : Fld := ⟨0xC0118, 0x0, 1, 0x0, 1, 0, 32, 0, false, .rc, .array⟩
def F.PWR_POND_CFG_BUDGET : Fld := ⟨0x20800, 0x0, 1, 0x0, 1, 0, 11, 0x400, false, .rw, .aon⟩
def F.PWR_POND_CFG_LWM : Fld := ⟨0x20800, 0x0, 1, 0x0, 1, 11, 8, 0x20, false, .rw, .aon⟩
def F.PWR_POND_CFG_HWM : Fld := ⟨0x20800, 0x0, 1, 0x0, 1, 19, 8, 0x40, false, .rw, .aon⟩
def F.PWR_POND_CFG_REFUSED : Fld := ⟨0x20800, 0x0, 1, 0x0, 1, 27, 1, 0, false, .w1c, .aon⟩
def F.PWR_POND_LVL_LEVEL : Fld := ⟨0x20808, 0x0, 1, 0x0, 1, 0, 36, 0, false, .ro, .aon⟩
def F.PWR_POND_LVL_STATE : Fld := ⟨0x20808, 0x0, 1, 0x0, 1, 36, 2, 0, false, .ro, .aon⟩
def F.PWR_POND_THERM_T_SOFT : Fld := ⟨0x20810, 0x0, 1, 0x0, 1, 0, 18, 0x1B800, false, .rw, .aon⟩
def F.PWR_POND_THERM_T_HARD : Fld := ⟨0x20810, 0x0, 1, 0x0, 1, 18, 18, 0x1E000, false, .rw, .aon⟩
def F.PWR_POND_TICK_REFILL : Fld := ⟨0x20818, 0x0, 1, 0x0, 1, 0, 32, 0, false, .ro, .aon⟩
def F.PWR_POND_TICK_CHARGE : Fld := ⟨0x20818, 0x0, 1, 0x0, 1, 32, 32, 0, false, .ro, .aon⟩
def F.PWR_POND_CNT_LOW_TICKS : Fld := ⟨0x20820, 0x0, 1, 0x0, 1, 0, 32, 0, false, .rc, .aon⟩
def F.PWR_POND_CNT_LOW_ENTRIES : Fld := ⟨0x20820, 0x0, 1, 0x0, 1, 32, 32, 0, false, .rc, .aon⟩
def F.PWR_POND_COEF_PJ : Fld := ⟨0x20840, 0x8, 16, 0x0, 1, 0, 16, 0, false, .rw, .aon⟩
def F.PWR_POND_STATIC_NJ : Fld := ⟨0x20900, 0x8, 33, 0x0, 1, 0, 16, 0, false, .rw, .aon⟩

/-! Fields of 09_host_rings.md. -/

def F.HRG_DB_WQ_QNUM : Fld := ⟨0x110000, 0x1000, 4, 0x0, 1, 0, 10, 0, false, .wo, .lost⟩
def F.HRG_DB_WQ_IDX : Fld := ⟨0x110000, 0x1000, 4, 0x0, 1, 10, 18, 0, false, .wo, .lost⟩
def F.HRG_DB_WQ_INV : Fld := ⟨0x110000, 0x1000, 4, 0x0, 1, 28, 1, 0, false, .wo, .lost⟩
def F.HRG_DB_CQ_QNUM : Fld := ⟨0x110008, 0x1000, 4, 0x0, 1, 0, 10, 0, false, .wo, .lost⟩
def F.HRG_DB_CQ_ARM : Fld := ⟨0x110008, 0x1000, 4, 0x0, 1, 29, 1, 0, false, .wo, .lost⟩
def F.HRG_DB_AWQ_QNUM : Fld := ⟨0x110010, 0x1000, 4, 0x0, 1, 0, 10, 0, false, .wo, .lost⟩
def F.HRG_DB_AWQ_IDX : Fld := ⟨0x110010, 0x1000, 4, 0x0, 1, 10, 18, 0, false, .wo, .lost⟩
def F.HRG_DB_AWQ_INV : Fld := ⟨0x110010, 0x1000, 4, 0x0, 1, 28, 1, 0, false, .wo, .lost⟩
def F.HRG_DB_ACQ_ARM : Fld := ⟨0x110018, 0x1000, 4, 0x0, 1, 29, 1, 0, false, .wo, .lost⟩
def F.HRG_FUNC_RST_GO : Fld := ⟨0x1100F0, 0x1000, 4, 0x0, 1, 0, 1, 0, false, .wo, .lost⟩
def F.HRG_FUNC_STAT_ADMIN_READY : Fld := ⟨0x100000, 0x8, 4, 0x0, 1, 0, 1, 0, false, .ro, .array⟩
def F.HRG_FUNC_STAT_RESETTING : Fld := ⟨0x100000, 0x8, 4, 0x0, 1, 1, 1, 0, false, .ro, .array⟩
def F.HRG_FUNC_STAT_WQS : Fld := ⟨0x100000, 0x8, 4, 0x0, 1, 2, 11, 0, false, .ro, .array⟩
def F.HRG_FUNC_STAT_CQS : Fld := ⟨0x100000, 0x8, 4, 0x0, 1, 13, 11, 0, false, .ro, .array⟩
def F.HRG_DB_ERR_QNUM : Fld := ⟨0x100020, 0x8, 4, 0x0, 1, 0, 10, 0, false, .ro, .lost⟩
def F.HRG_DB_ERR_REASON : Fld := ⟨0x100020, 0x8, 4, 0x0, 1, 10, 3, 0, false, .ro, .lost⟩
def F.HRG_DB_ERR_ADMIN : Fld := ⟨0x100020, 0x8, 4, 0x0, 1, 13, 1, 0, false, .ro, .lost⟩
def F.HRG_DB_ERR_COUNT : Fld := ⟨0x100020, 0x8, 4, 0x0, 1, 16, 16, 0, false, .rc, .lost⟩
def F.HRG_OVF_STAT_USED : Fld := ⟨0x100040, 0x0, 1, 0x0, 1, 0, 12, 0, false, .ro, .lost⟩
def F.HRG_OVF_STAT_PEAK : Fld := ⟨0x100040, 0x0, 1, 0x0, 1, 12, 12, 0, false, .rc, .lost⟩
def F.HRG_OVF_STAT_CQS : Fld := ⟨0x100040, 0x0, 1, 0x0, 1, 24, 11, 0, false, .ro, .lost⟩
def F.HRG_OVF_STAT_FULL : Fld := ⟨0x100040, 0x0, 1, 0x0, 1, 35, 1, 0, false, .ro, .lost⟩
def F.HRG_QCTX_CMD_OP : Fld := ⟨0x100080, 0x0, 1, 0x0, 1, 0, 3, 0, false, .wo, .lost⟩
def F.HRG_QCTX_CMD_QNUM : Fld := ⟨0x100080, 0x0, 1, 0x0, 1, 3, 10, 0, false, .wo, .lost⟩
def F.HRG_QCTX_CMD_FUNC : Fld := ⟨0x100080, 0x0, 1, 0x0, 1, 13, 2, 0, false, .wo, .lost⟩
def F.HRG_QCTX_CMD_KIND : Fld := ⟨0x100080, 0x0, 1, 0x0, 1, 15, 1, 0, false, .wo, .lost⟩
def F.HRG_QCTX_CMD_LOG2SIZE : Fld := ⟨0x100080, 0x0, 1, 0x0, 1, 16, 5, 0, false, .wo, .lost⟩
def F.HRG_QCTX_CMD_CQ : Fld := ⟨0x100080, 0x0, 1, 0x0, 1, 21, 10, 0, false, .wo, .lost⟩
def F.HRG_QCTX_CMD_QLIM : Fld := ⟨0x100080, 0x0, 1, 0x0, 1, 31, 17, 0, false, .wo, .lost⟩
def F.HRG_QCTX_CMD_BUSY : Fld := ⟨0x100080, 0x0, 1, 0x0, 1, 48, 1, 0, false, .ro, .lost⟩
def F.HRG_QCTX_CMD_ERR : Fld := ⟨0x100080, 0x0, 1, 0x0, 1, 49, 4, 0, false, .ro, .lost⟩
def F.HRG_QCTX_BASE_BASE : Fld := ⟨0x100088, 0x0, 1, 0x0, 1, 0, 48, 0, false, .rw, .saved⟩
def F.HRG_QCTX_HDR_HDR : Fld := ⟨0x100090, 0x0, 1, 0x0, 1, 0, 48, 0, false, .rw, .saved⟩
def F.HRG_WQ_STAT_STATE : Fld := ⟨0x102000, 0x8, 1024, 0x0, 1, 0, 3, 0, false, .ro, .array⟩
def F.HRG_WQ_STAT_FUNC : Fld := ⟨0x102000, 0x8, 1024, 0x0, 1, 3, 2, 0, false, .ro, .array⟩
def F.HRG_WQ_STAT_KIND : Fld := ⟨0x102000, 0x8, 1024, 0x0, 1, 5, 1, 0, false, .ro, .array⟩
def F.HRG_WQ_STAT_HEAD : Fld := ⟨0x102000, 0x8, 1024, 0x0, 1, 6, 18, 0, false, .ro, .array⟩
def F.HRG_WQ_STAT_TAIL : Fld := ⟨0x102000, 0x8, 1024, 0x0, 1, 24, 18, 0, false, .ro, .array⟩
def F.HRG_WQ_STAT_CACHED : Fld := ⟨0x102000, 0x8, 1024, 0x0, 1, 42, 4, 0, false, .ro, .array⟩
def F.HRG_WQ_STAT_CQ : Fld := ⟨0x102000, 0x8, 1024, 0x0, 1, 46, 10, 0, false, .ro, .array⟩
def F.HRG_WQ_STAT_LOG2SIZE : Fld := ⟨0x102000, 0x8, 1024, 0x0, 1, 56, 5, 0, false, .ro, .array⟩
def F.HRG_CQ_STAT_STATE : Fld := ⟨0x104000, 0x8, 1024, 0x0, 1, 0, 3, 0, false, .ro, .array⟩
def F.HRG_CQ_STAT_FUNC : Fld := ⟨0x104000, 0x8, 1024, 0x0, 1, 3, 2, 0, false, .ro, .array⟩
def F.HRG_CQ_STAT_PI : Fld := ⟨0x104000, 0x8, 1024, 0x0, 1, 5, 18, 0, false, .ro, .array⟩
def F.HRG_CQ_STAT_HOST_IDX : Fld := ⟨0x104000, 0x8, 1024, 0x0, 1, 23, 18, 0, false, .ro, .array⟩
def F.HRG_CQ_STAT_STORED : Fld := ⟨0x104000, 0x8, 1024, 0x0, 1, 41, 12, 0, false, .ro, .array⟩
def F.HRG_CQ_STAT_ARMED : Fld := ⟨0x104000, 0x8, 1024, 0x0, 1, 53, 1, 0, false, .ro, .array⟩
def F.HRG_CQ_STAT_NOTIFY : Fld := ⟨0x104000, 0x8, 1024, 0x0, 1, 54, 1, 0, false, .ro, .array⟩
def F.HRG_CQ_STAT_LOG2SIZE : Fld := ⟨0x104000, 0x8, 1024, 0x0, 1, 55, 5, 0, false, .ro, .array⟩
def F.HRG_CNT_TX_FRAMES : Fld := ⟨0x100100, 0x0, 1, 0x0, 1, 0, 48, 0, true, .ro, .lost⟩
def F.HRG_CNT_RX_FRAMES : Fld := ⟨0x100108, 0x0, 1, 0x0, 1, 0, 48, 0, true, .ro, .lost⟩
def F.HRG_CNT_ERR_MALFORMED : Fld := ⟨0x100110, 0x0, 1, 0x0, 1, 0, 16, 0, false, .rc, .lost⟩
def F.HRG_CNT_ERR_RX_DROP : Fld := ⟨0x100110, 0x0, 1, 0x0, 1, 16, 16, 0, false, .rc, .lost⟩
def F.HRG_CNT_ERR_FAB_ERR : Fld := ⟨0x100110, 0x0, 1, 0x0, 1, 32, 16, 0, false, .rc, .lost⟩
def F.HRG_CNT_ERR_RST_DISCARD : Fld := ⟨0x100110, 0x0, 1, 0x0, 1, 48, 16, 0, false, .rc, .lost⟩

/-! Fields of 10_sluice_dma.md. -/

def F.SLC_CH_CFG_FUNC : Fld := ⟨0x140000, 0x40, 16, 0x0, 1, 0, 2, 0, false, .rw, .saved⟩
def F.SLC_CH_CFG_MODE : Fld := ⟨0x140000, 0x40, 16, 0x0, 1, 2, 1, 0, false, .rw, .saved⟩
def F.SLC_CH_CFG_DEFER : Fld := ⟨0x140000, 0x40, 16, 0x0, 1, 3, 1, 0, false, .rw, .saved⟩
def F.SLC_CH_CFG_SHARE : Fld := ⟨0x140000, 0x40, 16, 0x0, 1, 4, 7, 0x40, false, .rw, .saved⟩
def F.SLC_CH_CFG_RING_LOG2 : Fld := ⟨0x140000, 0x40, 16, 0x0, 1, 16, 5, 4, false, .rw, .saved⟩
def F.SLC_CH_CFG_POLL_US : Fld := ⟨0x140000, 0x40, 16, 0x0, 1, 21, 16, 0, false, .rw, .saved⟩
def F.SLC_CH_PROG_BASE : Fld := ⟨0x140008, 0x40, 16, 0x0, 1, 0, 48, 0, false, .rw, .saved⟩
def F.SLC_CH_CMD_GO : Fld := ⟨0x140010, 0x40, 16, 0x0, 1, 0, 1, 0, false, .wo, .lost⟩
def F.SLC_CH_CMD_STOP : Fld := ⟨0x140010, 0x40, 16, 0x0, 1, 1, 1, 0, false, .wo, .lost⟩
def F.SLC_CH_CMD_RESUME : Fld := ⟨0x140010, 0x40, 16, 0x0, 1, 2, 1, 0, false, .wo, .lost⟩
def F.SLC_CH_CMD_KICK : Fld := ⟨0x140010, 0x40, 16, 0x0, 1, 3, 1, 0, false, .wo, .lost⟩
def F.SLC_CH_CMD_CLEAR : Fld := ⟨0x140010, 0x40, 16, 0x0, 1, 4, 1, 0, false, .wo, .lost⟩
def F.SLC_CH_STAT_STATUS : Fld := ⟨0x140018, 0x40, 16, 0x0, 1, 0, 64, 0, false, .ro, .lost⟩
def F.SLC_CH_PC_PC : Fld := ⟨0x140020, 0x40, 16, 0x0, 1, 0, 48, 0, false, .ro, .lost⟩
def F.SLC_CH_LOOP_REMAINING : Fld := ⟨0x140028, 0x40, 16, 0x0, 1, 0, 24, 0, false, .ro, .lost⟩
def F.SLC_CH_LOOP_ACTIVE : Fld := ⟨0x140028, 0x40, 16, 0x0, 1, 24, 1, 0, false, .ro, .lost⟩
def F.SLC_CH_LOOP_ENDLESS : Fld := ⟨0x140028, 0x40, 16, 0x0, 1, 25, 1, 0, false, .ro, .lost⟩
def F.SLC_CH_LOOP_HOME : Fld := ⟨0x140028, 0x40, 16, 0x0, 1, 32, 16, 0, false, .ro, .lost⟩
def F.SLC_CH_MARKS_HALF_CNT : Fld := ⟨0x140030, 0x40, 16, 0x0, 1, 0, 32, 0, true, .ro, .saved⟩
def F.SLC_CH_MARKS_FULL_CNT : Fld := ⟨0x140030, 0x40, 16, 0x0, 1, 32, 32, 0, true, .ro, .saved⟩
def F.SLC_CH_OCT_OCTETS : Fld := ⟨0x140038, 0x40, 16, 0x0, 1, 0, 64, 0, true, .ro, .saved⟩
def F.SLC_FLAGS_FLAGS : Fld := ⟨0x140400, 0x8, 16, 0x0, 1, 0, 16, 0, false, .ro, .saved⟩
def F.SLC_FLAG_SET_CH : Fld := ⟨0x140480, 0x0, 1, 0x0, 1, 0, 4, 0, false, .wo, .lost⟩
def F.SLC_FLAG_SET_MASK : Fld := ⟨0x140480, 0x0, 1, 0x0, 1, 4, 16, 0, false, .wo, .lost⟩
def F.SLC_FLAG_CLR_CH : Fld := ⟨0x140488, 0x0, 1, 0x0, 1, 0, 4, 0, false, .wo, .lost⟩
def F.SLC_FLAG_CLR_MASK : Fld := ⟨0x140488, 0x0, 1, 0x0, 1, 4, 16, 0, false, .wo, .lost⟩
def F.SLC_REFUSE_REFUSED : Fld := ⟨0x140490, 0x0, 1, 0x0, 1, 0, 1, 0, false, .w1c, .lost⟩
def F.SLC_REFUSE_CH : Fld := ⟨0x140490, 0x0, 1, 0x0, 1, 1, 4, 0, false, .ro, .lost⟩
def F.SLC_REFUSE_WHY : Fld := ⟨0x140490, 0x0, 1, 0x0, 1, 5, 3, 0, false, .ro, .lost⟩

/-! Fields of 11_event_queues.md. -/

def F.EVQ_Q_CFG_EN : Fld := ⟨0x150000, 0x40, 8, 0x0, 1, 0, 1, 0, false, .rw, .saved⟩
def F.EVQ_Q_CFG_ASLEEP : Fld := ⟨0x150000, 0x40, 8, 0x0, 1, 1, 1, 0, false, .rw, .saved⟩
def F.EVQ_Q_CFG_FUNC : Fld := ⟨0x150000, 0x40, 8, 0x0, 1, 2, 2, 0, false, .rw, .saved⟩
def F.EVQ_Q_CFG_LOG2SIZE : Fld := ⟨0x150000, 0x40, 8, 0x0, 1, 4, 5, 6, false, .rw, .saved⟩
def F.EVQ_Q_BASE_BASE : Fld := ⟨0x150008, 0x40, 8, 0x0, 1, 0, 48, 0, false, .rw, .saved⟩
def F.EVQ_Q_PI_PI : Fld := ⟨0x150010, 0x40, 8, 0x0, 1, 0, 18, 0, false, .ro, .saved⟩
def F.EVQ_Q_CI_CI : Fld := ⟨0x150018, 0x40, 8, 0x0, 1, 0, 18, 0, false, .rw, .saved⟩
def F.EVQ_Q_STAT_FULL : Fld := ⟨0x150020, 0x40, 8, 0x0, 1, 0, 1, 0, false, .ro, .saved⟩
def F.EVQ_Q_STAT_FAULT : Fld := ⟨0x150020, 0x40, 8, 0x0, 1, 1, 1, 0, false, .w1c, .saved⟩
def F.EVQ_Q_STAT_CI_BAD : Fld := ⟨0x150020, 0x40, 8, 0x0, 1, 2, 1, 0, false, .w1c, .saved⟩
def F.EVQ_Q_STAT_IRQ : Fld := ⟨0x150020, 0x40, 8, 0x0, 1, 3, 1, 0, false, .ro, .saved⟩
def F.EVQ_Q_STAT_MERGED : Fld := ⟨0x150020, 0x40, 8, 0x0, 1, 16, 16, 0, false, .rc, .saved⟩
def F.EVQ_Q_STAT_SEQ : Fld := ⟨0x150020, 0x40, 8, 0x0, 1, 32, 32, 0, false, .ro, .saved⟩
def F.EVQ_STAT_REFUSED : Fld := ⟨0x150200, 0x0, 1, 0x0, 1, 0, 1, 0, false, .w1c, .lost⟩
def F.EVQ_STAT_WHY : Fld := ⟨0x150200, 0x0, 1, 0x0, 1, 1, 3, 0, false, .ro, .lost⟩
def F.EVQ_STAT_QUEUE : Fld := ⟨0x150200, 0x0, 1, 0x0, 1, 4, 3, 0, false, .ro, .lost⟩
def F.EVQ_STAT_REARM_EARLY : Fld := ⟨0x150200, 0x0, 1, 0x0, 1, 7, 1, 0, false, .w1c, .lost⟩
def F.EVQ_STAT_LAST_SRC : Fld := ⟨0x150200, 0x0, 1, 0x0, 1, 8, 11, 0, false, .ro, .lost⟩
def F.EVQ_STAT_PENDING : Fld := ⟨0x150200, 0x0, 1, 0x0, 1, 20, 12, 0, false, .ro, .lost⟩
def F.EVQ_SWSRC_STATE : Fld := ⟨0x150208, 0x0, 1, 0x0, 1, 0, 8, 0, false, .rw, .saved⟩
def F.EVQ_SRC_SENSE : Fld := ⟨0x158000, 0x8, 2048, 0x0, 1, 0, 2, 0, false, .rw, .array⟩
def F.EVQ_SRC_EN : Fld := ⟨0x158000, 0x8, 2048, 0x0, 1, 2, 1, 0, false, .rw, .array⟩
def F.EVQ_SRC_TARGET : Fld := ⟨0x158000, 0x8, 2048, 0x0, 1, 3, 3, 0, false, .rw, .array⟩
def F.EVQ_SRC_WAKE : Fld := ⟨0x158000, 0x8, 2048, 0x0, 1, 6, 1, 0, false, .rw, .array⟩
def F.EVQ_SRC_REARM : Fld := ⟨0x158000, 0x8, 2048, 0x0, 1, 7, 1, 0, false, .wo, .array⟩
def F.EVQ_SRC_STATE : Fld := ⟨0x158000, 0x8, 2048, 0x0, 1, 8, 1, 0, false, .ro, .array⟩
def F.EVQ_SRC_ARMED : Fld := ⟨0x158000, 0x8, 2048, 0x0, 1, 9, 1, 1, false, .ro, .array⟩
def F.EVQ_SRC_PENDING : Fld := ⟨0x158000, 0x8, 2048, 0x0, 1, 10, 1, 0, false, .ro, .array⟩
def F.EVQ_SRC_KIND : Fld := ⟨0x158000, 0x8, 2048, 0x0, 1, 11, 1, 0, false, .ro, .array⟩

/-! Fields of 12_frame_sequencer.md. -/

def F.SEQ_ID_ROM_VER : Fld := ⟨0x160000, 0x0, 1, 0x0, 1, 0, 16, 0, false, .ro, .lost⟩
def F.SEQ_ID_ROM_DIGEST : Fld := ⟨0x160000, 0x0, 1, 0x0, 1, 16, 32, 0, false, .ro, .lost⟩
def F.SEQ_CTL_BUDGET : Fld := ⟨0x160008, 0x0, 1, 0x0, 1, 0, 15, 0x7530, false, .rw, .saved⟩
def F.SEQ_CTL_QUAR_N : Fld := ⟨0x160008, 0x0, 1, 0x0, 1, 15, 4, 4, false, .rw, .saved⟩
def F.SEQ_CTL_RESTART : Fld := ⟨0x160008, 0x0, 1, 0x0, 1, 19, 1, 0, false, .wo, .saved⟩
def F.SEQ_STAT_STATE : Fld := ⟨0x160010, 0x0, 1, 0x0, 1, 0, 3, 0, false, .ro, .lost⟩
def F.SEQ_STAT_PC : Fld := ⟨0x160010, 0x0, 1, 0x0, 1, 3, 13, 0, false, .ro, .lost⟩
def F.SEQ_STAT_DUTY : Fld := ⟨0x160010, 0x0, 1, 0x0, 1, 16, 6, 0, false, .ro, .lost⟩
def F.SEQ_STAT_LAST_MATCH : Fld := ⟨0x160010, 0x0, 1, 0x0, 1, 22, 5, 0, false, .ro, .lost⟩
def F.SEQ_STAT_QUARANTINE : Fld := ⟨0x160010, 0x0, 1, 0x0, 1, 27, 1, 0, false, .ro, .lost⟩
def F.SEQ_STAT_REFUSED : Fld := ⟨0x160010, 0x0, 1, 0x0, 1, 28, 1, 0, false, .w1c, .lost⟩
def F.SEQ_STAT_LAST_CYCLES : Fld := ⟨0x160010, 0x0, 1, 0x0, 1, 32, 15, 0, false, .ro, .lost⟩
def F.SEQ_STAT_PEAK_CYCLES : Fld := ⟨0x160010, 0x0, 1, 0x0, 1, 47, 15, 0, false, .rc, .lost⟩
def F.SEQ_DUTY_LAST : Fld := ⟨0x160020, 0x8, 5, 0x0, 1, 0, 15, 0, false, .ro, .lost⟩
def F.SEQ_DUTY_PEAK : Fld := ⟨0x160020, 0x8, 5, 0x0, 1, 16, 15, 0, false, .rc, .lost⟩
def F.SEQ_PATCH_ID_VER : Fld := ⟨0x160050, 0x0, 1, 0x0, 1, 0, 16, 0, false, .rw, .saved⟩
def F.SEQ_PATCH_ID_DIGEST : Fld := ⟨0x160050, 0x0, 1, 0x0, 1, 16, 32, 0, false, .rw, .saved⟩
def F.SEQ_PATCH_ADDR_WORD : Fld := ⟨0x160058, 0x0, 1, 0x0, 1, 0, 9, 0, false, .rw, .lost⟩
def F.SEQ_PATCH_DATA_DATA : Fld := ⟨0x160060, 0x8, 3, 0x0, 1, 0, 64, 0, false, .wo, .lost⟩
def F.SEQ_MATCH_ADDR : Fld := ⟨0x160100, 0x8, 32, 0x0, 1, 0, 12, 0, false, .rwst, .saved⟩
def F.SEQ_MATCH_PADDR : Fld := ⟨0x160100, 0x8, 32, 0x0, 1, 12, 9, 0, false, .rwst, .saved⟩
def F.SEQ_MATCH_LEN : Fld := ⟨0x160100, 0x8, 32, 0x0, 1, 21, 9, 0, false, .rwst, .saved⟩
def F.SEQ_MATCH_EN : Fld := ⟨0x160100, 0x8, 32, 0x0, 1, 30, 1, 0, false, .rwst, .saved⟩
def F.SEQ_MATCH_FAULTED : Fld := ⟨0x160100, 0x8, 32, 0x0, 1, 31, 1, 0, false, .w1c, .saved⟩
def F.SEQ_CNT_OVERRUNS : Fld := ⟨0x160200, 0x0, 1, 0x0, 1, 0, 16, 0, false, .rc, .lost⟩
def F.SEQ_CNT_PAGE_LATE : Fld := ⟨0x160200, 0x0, 1, 0x0, 1, 16, 16, 0, false, .rc, .lost⟩
def F.SEQ_CNT_SKIPS : Fld := ⟨0x160200, 0x0, 1, 0x0, 1, 32, 16, 0, false, .rc, .lost⟩
def F.SEQ_CNT_ECC_CORR : Fld := ⟨0x160200, 0x0, 1, 0x0, 1, 48, 16, 0, false, .rc, .lost⟩
def F.SEQ_CNT2_RESTARTS : Fld := ⟨0x160208, 0x0, 1, 0x0, 1, 0, 16, 0, false, .rc, .lost⟩
def F.SEQ_CNT2_MSG_LOST : Fld := ⟨0x160208, 0x0, 1, 0x0, 1, 16, 16, 0, false, .rc, .lost⟩
def F.SEQ_CNT2_UQ_DROP : Fld := ⟨0x160208, 0x0, 1, 0x0, 1, 32, 16, 0, false, .rc, .lost⟩

/-! Fields of 13_firmware_mailboxes.md. -/

def F.MBX_AREA_DATA : Fld := ⟨0x170000, 0x1000, 3, 0x8, 512, 0, 64, 0, false, .rw, .lost⟩
def F.MBX_DB_SEQ : Fld := ⟨0x178000, 0x8, 3, 0x0, 1, 0, 16, 0, false, .wo, .lost⟩
def F.MBX_DB_ACK : Fld := ⟨0x178000, 0x8, 3, 0x0, 1, 16, 1, 0, false, .wo, .lost⟩
def F.MBX_STAT_LAST_SEQ : Fld := ⟨0x178040, 0x8, 3, 0x0, 1, 0, 16, 0, false, .ro, .lost⟩
def F.MBX_STAT_RESP_SEQ : Fld := ⟨0x178040, 0x8, 3, 0x0, 1, 16, 16, 0, false, .ro, .lost⟩
def F.MBX_STAT_OWNER : Fld := ⟨0x178040, 0x8, 3, 0x0, 1, 32, 1, 0, false, .ro, .lost⟩
def F.MBX_STAT_REFUSED : Fld := ⟨0x178040, 0x8, 3, 0x0, 1, 33, 1, 0, false, .w1c, .lost⟩
def F.MBX_STAT_WHY : Fld := ⟨0x178040, 0x8, 3, 0x0, 1, 34, 2, 0, false, .ro, .lost⟩
def F.MBX_ACL_MB0_FN : Fld := ⟨0x178080, 0x0, 1, 0x0, 1, 0, 4, 1, false, .ro, .lost⟩
def F.MBX_ACL_CTRL_FN : Fld := ⟨0x178080, 0x0, 1, 0x0, 1, 4, 2, 0, false, .ro, .lost⟩
def F.MBX_BOOT_STAGE : Fld := ⟨0x178088, 0x0, 1, 0x0, 1, 0, 4, 0, false, .ro, .lost⟩
def F.MBX_BOOT_LAST_ERR : Fld := ⟨0x178088, 0x0, 1, 0x0, 1, 4, 8, 0, false, .ro, .lost⟩
def F.MBX_BOOT_CUR_PATCH_VER : Fld := ⟨0x178088, 0x0, 1, 0x0, 1, 12, 16, 0, false, .ro, .lost⟩
def F.MBX_BOOT_KEK_GEN : Fld := ⟨0x178088, 0x0, 1, 0x0, 1, 28, 8, 0, false, .ro, .aon⟩
def F.MBX_DOCENT_VERSION : Fld := ⟨0x178090, 0x0, 1, 0x0, 1, 0, 16, 0, false, .ro, .lost⟩
def F.MBX_DOCENT_SVN : Fld := ⟨0x178090, 0x0, 1, 0x0, 1, 16, 16, 0, false, .ro, .lost⟩
def F.MBX_DOCENT_DIGEST : Fld := ⟨0x178090, 0x0, 1, 0x0, 1, 32, 32, 0, false, .ro, .lost⟩
def F.MBX_WDOG_KICK : Fld := ⟨0x178098, 0x0, 1, 0x0, 1, 0, 1, 0, false, .wo, .lost⟩
def F.MBX_WDOG_WD_MS : Fld := ⟨0x178098, 0x0, 1, 0x0, 1, 1, 10, 0x64, false, .ro, .lost⟩
def F.MBX_FW_STAT_DSTATE : Fld := ⟨0x1780A0, 0x0, 1, 0x0, 1, 0, 3, 0, false, .ro, .lost⟩
def F.MBX_FW_STAT_DOWN_CAUSE : Fld := ⟨0x1780A0, 0x0, 1, 0x0, 1, 3, 4, 0, false, .ro, .lost⟩
def F.MBX_FW_STAT_AUTO_LEFT : Fld := ⟨0x1780A0, 0x0, 1, 0x0, 1, 7, 2, 0, false, .ro, .lost⟩
def F.MBX_FW_STAT_DOWN_COUNT : Fld := ⟨0x1780A0, 0x0, 1, 0x0, 1, 16, 16, 0, false, .rc, .lost⟩
def F.MBX_FW_STAT_MSG_DISCARD : Fld := ⟨0x1780A0, 0x0, 1, 0x0, 1, 32, 16, 0, false, .rc, .lost⟩
def F.MBX_FW_STAT_UQ_DROP : Fld := ⟨0x1780A0, 0x0, 1, 0x0, 1, 48, 16, 0, false, .rc, .lost⟩

/-! Fields of 14_staged_commit.md. -/

def F.STG_SEL_SET : Fld := ⟨0x180000, 0x0, 1, 0x0, 1, 0, 2, 0, false, .rw, .lost⟩
def F.STG_SEL_EN : Fld := ⟨0x180000, 0x0, 1, 0x0, 1, 2, 1, 0, false, .rw, .lost⟩
def F.STG_CMD_OP : Fld := ⟨0x180100, 0x40, 4, 0x0, 1, 0, 3, 0, false, .wo, .lost⟩
def F.STG_APPLY_FRAME : Fld := ⟨0x180108, 0x40, 4, 0x0, 1, 0, 51, 0, false, .rw, .lost⟩
def F.STG_APPLY_NEXT : Fld := ⟨0x180108, 0x40, 4, 0x0, 1, 51, 1, 0, false, .rw, .lost⟩
def F.STG_STAT_STATE : Fld := ⟨0x180110, 0x40, 4, 0x0, 1, 0, 2, 0, false, .ro, .lost⟩
def F.STG_STAT_OWNER : Fld := ⟨0x180110, 0x40, 4, 0x0, 1, 2, 3, 0, false, .ro, .lost⟩
def F.STG_STAT_ENTRIES : Fld := ⟨0x180110, 0x40, 4, 0x0, 1, 5, 14, 0, false, .ro, .lost⟩
def F.STG_STAT_FULL : Fld := ⟨0x180110, 0x40, 4, 0x0, 1, 19, 1, 0, false, .ro, .lost⟩
def F.STG_STAT_LATE : Fld := ⟨0x180110, 0x40, 4, 0x0, 1, 20, 1, 0, false, .ro, .lost⟩
def F.STG_STAT_REASON : Fld := ⟨0x180110, 0x40, 4, 0x0, 1, 24, 8, 0, false, .ro, .lost⟩
def F.STG_RESULT_FAIL_OFS : Fld := ⟨0x180118, 0x40, 4, 0x0, 1, 0, 22, 0, false, .ro, .lost⟩
def F.STG_REFUSE_REFUSED : Fld := ⟨0x180200, 0x0, 1, 0x0, 1, 0, 1, 0, false, .w1c, .lost⟩
def F.STG_REFUSE_WHY : Fld := ⟨0x180200, 0x0, 1, 0x0, 1, 1, 3, 0, false, .ro, .lost⟩
def F.STG_REFUSE_AGENT : Fld := ⟨0x180200, 0x0, 1, 0x0, 1, 4, 3, 0, false, .ro, .lost⟩
def F.STG_REFUSE_SET : Fld := ⟨0x180200, 0x0, 1, 0x0, 1, 7, 2, 0, false, .ro, .lost⟩
def F.STG_GSTAT_LAST_FRAME : Fld := ⟨0x180208, 0x0, 1, 0x0, 1, 0, 51, 0, false, .ro, .lost⟩
def F.STG_GSTAT_LAST_SET : Fld := ⟨0x180208, 0x0, 1, 0x0, 1, 51, 2, 0, false, .ro, .lost⟩
def F.STG_CNT_APPLIED : Fld := ⟨0x180210, 0x0, 1, 0x0, 1, 0, 16, 0, false, .rc, .lost⟩
def F.STG_CNT_LATE : Fld := ⟨0x180210, 0x0, 1, 0x0, 1, 16, 16, 0, false, .rc, .lost⟩
def F.STG_CNT_CHECK_FAIL : Fld := ⟨0x180210, 0x0, 1, 0x0, 1, 32, 16, 0, false, .rc, .lost⟩
def F.STG_CNT_CANCELLED : Fld := ⟨0x180210, 0x0, 1, 0x0, 1, 48, 16, 0, false, .rc, .lost⟩

/-! Fields of 15_vitrine.md. -/

def F.VIT_ID_VER : Fld := ⟨0x1C0000, 0x0, 1, 0x0, 1, 0, 16, 0, false, .ro, .nv⟩
def F.VIT_ID_KGEN : Fld := ⟨0x1C0000, 0x0, 1, 0x0, 1, 16, 8, 0, false, .ro, .nv⟩
def F.VIT_ID_TEST_LOCK : Fld := ⟨0x1C0000, 0x0, 1, 0x0, 1, 24, 1, 0, false, .ro, .nv⟩
def F.VIT_ID_DIGEST_DIGEST : Fld := ⟨0x1C0008, 0x8, 4, 0x0, 1, 0, 64, 0, false, .ro, .nv⟩
def F.VIT_SEAL_OPEN : Fld := ⟨0x1C0040, 0x0, 1, 0x0, 1, 0, 1, 0, false, .ro, .nv⟩
def F.VIT_SEAL_PRESENT : Fld := ⟨0x1C0040, 0x0, 1, 0x0, 1, 1, 1, 0, false, .ro, .nv⟩
def F.VIT_SEAL_REMAIN : Fld := ⟨0x1C0040, 0x0, 1, 0x0, 1, 2, 10, 0, false, .ro, .nv⟩
def F.VIT_SEAL_LAST_CAUSE : Fld := ⟨0x1C0040, 0x0, 1, 0x0, 1, 12, 2, 0, false, .ro, .nv⟩
def F.VIT_LOG_STAT_USED : Fld := ⟨0x1C0048, 0x0, 1, 0x0, 1, 0, 12, 0, false, .ro, .nv⟩
def F.VIT_LOG_STAT_FULL : Fld := ⟨0x1C0048, 0x0, 1, 0x0, 1, 12, 1, 0, false, .ro, .nv⟩
def F.VIT_LOG_STAT_OVF : Fld := ⟨0x1C0048, 0x0, 1, 0x0, 1, 16, 16, 0, false, .ro, .nv⟩
def F.VIT_LOG_STAT_NEXT_LSEQ : Fld := ⟨0x1C0048, 0x0, 1, 0x0, 1, 32, 32, 0, false, .ro, .nv⟩
def F.VIT_BUF_STAT_USED : Fld := ⟨0x1C0050, 0x0, 1, 0x0, 1, 0, 13, 0, false, .ro, .nv⟩
def F.VIT_BUF_STAT_GAP_OPEN : Fld := ⟨0x1C0050, 0x0, 1, 0x0, 1, 13, 1, 0, false, .ro, .nv⟩
def F.VIT_BUF_STAT_NEXT_SEQ : Fld := ⟨0x1C0050, 0x0, 1, 0x0, 1, 32, 32, 0, false, .ro, .nv⟩
def F.VIT_IVL_START : Fld := ⟨0x1C0058, 0x0, 1, 0x0, 1, 0, 51, 0, false, .ro, .nv⟩
def F.VIT_CFG_LEN : Fld := ⟨0x1C0060, 0x0, 1, 0x0, 1, 0, 6, 5, false, .se, .nv⟩
def F.VIT_PULSE_CFG_PULSE_OCT : Fld := ⟨0x1C0068, 0x0, 1, 0x0, 1, 0, 40, 0x3B9ACA00, false, .se, .nv⟩
def F.VIT_PULSE_CFG_SRC : Fld := ⟨0x1C0068, 0x0, 1, 0x0, 1, 40, 4, 0, false, .se, .nv⟩
def F.VIT_PULSE_CFG_ACCT : Fld := ⟨0x1C0068, 0x0, 1, 0x0, 1, 44, 12, 0, false, .se, .nv⟩
def F.VIT_PWR_LAST_CAUSE : Fld := ⟨0x1C0070, 0x0, 1, 0x0, 1, 0, 2, 0, false, .ro, .nv⟩
def F.VIT_PWR_NV_COPY : Fld := ⟨0x1C0070, 0x0, 1, 0x0, 1, 2, 1, 0, false, .ro, .nv⟩
def F.VIT_CNT_OBS_ERR : Fld := ⟨0x1C0078, 0x0, 1, 0x0, 1, 0, 32, 0, false, .ro, .nv⟩
def F.VIT_CNT_CTR_FAULT : Fld := ⟨0x1C0078, 0x0, 1, 0x0, 1, 32, 16, 0, false, .ro, .nv⟩
def F.VIT_TOT_LO_OCT_LO : Fld := ⟨0x1C0100, 0x20, 8, 0x0, 1, 0, 64, 0, false, .ro, .nv⟩
def F.VIT_TOT_HI_OCT_HI : Fld := ⟨0x1C0108, 0x20, 8, 0x0, 1, 0, 16, 0, false, .ro, .nv⟩
def F.VIT_TOT_FRM_FRM : Fld := ⟨0x1C0110, 0x20, 8, 0x0, 1, 0, 64, 0, false, .ro, .nv⟩
def F.VIT_BIND_DS_FTAG : Fld := ⟨0x1C1000, 0x8, 4096, 0x0, 1, 0, 16, 0, false, .se, .nv⟩
def F.VIT_BIND_DS_ACCT : Fld := ⟨0x1C1000, 0x8, 4096, 0x0, 1, 16, 12, 0, false, .se, .nv⟩
def F.VIT_BIND_DS_VALID : Fld := ⟨0x1C1000, 0x8, 4096, 0x0, 1, 28, 1, 0, false, .se, .nv⟩
def F.VIT_BIND_US_ACCT : Fld := ⟨0x1C9000, 0x8, 4096, 0x0, 1, 0, 12, 0, false, .se, .nv⟩
def F.VIT_BIND_US_VALID : Fld := ⟨0x1C9000, 0x8, 4096, 0x0, 1, 12, 1, 0, false, .se, .nv⟩

/-! Fields of 16_power.md. -/

def F.PWR_STATE_STATE : Fld := ⟨0x20000, 0x0, 1, 0x0, 1, 0, 3, 1, false, .ro, .aon⟩
def F.PWR_STATE_ENTERING : Fld := ⟨0x20000, 0x0, 1, 0x0, 1, 3, 1, 0, false, .ro, .aon⟩
def F.PWR_STATE_PREV : Fld := ⟨0x20000, 0x0, 1, 0x0, 1, 4, 3, 1, false, .ro, .aon⟩
def F.PWR_STATE_LAST_WAKE : Fld := ⟨0x20000, 0x0, 1, 0x0, 1, 8, 4, 0, false, .ro, .aon⟩
def F.PWR_STATE_CTL_REQ : Fld := ⟨0x20008, 0x0, 1, 0x0, 1, 0, 3, 0, false, .wo, .aon⟩
def F.PWR_STATE_CTL_REFUSED : Fld := ⟨0x20008, 0x0, 1, 0x0, 1, 3, 1, 0, false, .w1c, .aon⟩
def F.PWR_STATE_CTL_WHY : Fld := ⟨0x20008, 0x0, 1, 0x0, 1, 4, 3, 0, false, .ro, .aon⟩
def F.PWR_DVFS_CTL_MANUAL : Fld := ⟨0x20010, 0x0, 1, 0x0, 1, 0, 1, 0, false, .rw, .aon⟩
def F.PWR_DVFS_CTL_FPOINT : Fld := ⟨0x20010, 0x0, 1, 0x0, 1, 1, 3, 4, false, .rw, .aon⟩
def F.PWR_DVFS_CTL_VPOINT : Fld := ⟨0x20010, 0x0, 1, 0x0, 1, 4, 3, 4, false, .rw, .aon⟩
def F.PWR_DVFS_CTL_PT_HIGH : Fld := ⟨0x20010, 0x0, 1, 0x0, 1, 7, 3, 2, false, .rw, .aon⟩
def F.PWR_DVFS_CTL_PT_FLOOR : Fld := ⟨0x20010, 0x0, 1, 0x0, 1, 10, 3, 4, false, .rw, .aon⟩
def F.PWR_DVFS_CTL_GOV_WIN : Fld := ⟨0x20010, 0x0, 1, 0x0, 1, 13, 7, 0x40, false, .rw, .aon⟩
def F.PWR_DVFS_CTL_REFUSED : Fld := ⟨0x20010, 0x0, 1, 0x0, 1, 20, 1, 0, false, .w1c, .aon⟩
def F.PWR_DVFS_STAT_FPOINT : Fld := ⟨0x20018, 0x0, 1, 0x0, 1, 0, 3, 4, false, .ro, .aon⟩
def F.PWR_DVFS_STAT_VPOINT : Fld := ⟨0x20018, 0x0, 1, 0x0, 1, 3, 3, 4, false, .ro, .aon⟩
def F.PWR_DVFS_STAT_AVS_REQ : Fld := ⟨0x20018, 0x0, 1, 0x0, 1, 6, 8, 9, false, .ro, .aon⟩
def F.PWR_DVFS_STAT_AVS_ACK : Fld := ⟨0x20018, 0x0, 1, 0x0, 1, 14, 1, 0, false, .ro, .aon⟩
def F.PWR_DVFS_STAT_PENDING : Fld := ⟨0x20018, 0x0, 1, 0x0, 1, 15, 1, 0, false, .ro, .aon⟩
def F.PWR_DVFS_STAT_TRIM : Fld := ⟨0x20018, 0x0, 1, 0x0, 1, 16, 5, 0, false, .ro, .aon⟩
def F.PWR_DVFS_STAT_STEPS : Fld := ⟨0x20018, 0x0, 1, 0x0, 1, 32, 32, 0, true, .ro, .aon⟩
def F.PWR_AVS_CTL_EN : Fld := ⟨0x20020, 0x0, 1, 0x0, 1, 0, 1, 1, false, .rw, .aon⟩
def F.PWR_AVS_CTL_MARGIN_LO : Fld := ⟨0x20020, 0x0, 1, 0x0, 1, 1, 6, 8, false, .rw, .aon⟩
def F.PWR_AVS_CTL_MARGIN_HI : Fld := ⟨0x20020, 0x0, 1, 0x0, 1, 7, 6, 0x10, false, .rw, .aon⟩
def F.PWR_AVS_CTL_REFUSED : Fld := ⟨0x20020, 0x0, 1, 0x0, 1, 13, 1, 0, false, .w1c, .aon⟩
def F.PWR_AVS_STAT_MIN_MARGIN : Fld := ⟨0x20028, 0x0, 1, 0x0, 1, 0, 6, 0, false, .ro, .aon⟩
def F.PWR_AVS_STAT_MIN_MON : Fld := ⟨0x20028, 0x0, 1, 0x0, 1, 6, 5, 0, false, .ro, .aon⟩
def F.PWR_AVS_STAT_AT_LIMIT : Fld := ⟨0x20028, 0x0, 1, 0x0, 1, 11, 1, 0, false, .ro, .aon⟩
def F.PWR_AVS_STAT_TIMEOUTS : Fld := ⟨0x20028, 0x0, 1, 0x0, 1, 12, 16, 0, false, .rc, .aon⟩
def F.PWR_GOV_STAT_NEED : Fld := ⟨0x20030, 0x0, 1, 0x0, 1, 0, 3, 0, false, .ro, .aon⟩
def F.PWR_GOV_STAT_TARGET : Fld := ⟨0x20030, 0x0, 1, 0x0, 1, 3, 3, 4, false, .ro, .aon⟩
def F.PWR_GOV_STAT_PATH : Fld := ⟨0x20030, 0x0, 1, 0x0, 1, 6, 3, 0, false, .ro, .aon⟩
def F.PWR_GOV_STAT_PEAK : Fld := ⟨0x20030, 0x0, 1, 0x0, 1, 9, 16, 0, false, .ro, .aon⟩
def F.PWR_REG_MODE : Fld := ⟨0x20038, 0x0, 1, 0x0, 1, 0, 1, 0, false, .ro, .aon⟩
def F.PWR_REG_STILL_REFCLK : Fld := ⟨0x20038, 0x0, 1, 0x0, 1, 1, 1, 0, false, .rw, .aon⟩
def F.PWR_REG_LOAD : Fld := ⟨0x20038, 0x0, 1, 0x0, 1, 2, 9, 0, false, .ro, .aon⟩
def F.PWR_REG_BO_AON : Fld := ⟨0x20038, 0x0, 1, 0x0, 1, 11, 1, 0, false, .w1c, .aon⟩
def F.PWR_REG_BO_CORE : Fld := ⟨0x20038, 0x0, 1, 0x0, 1, 12, 1, 0, false, .w1c, .aon⟩
def F.PWR_REG_LOAD_REFUSED : Fld := ⟨0x20038, 0x0, 1, 0x0, 1, 13, 1, 0, false, .w1c, .aon⟩
def F.PWR_WATCH_CTL_HOST_OK : Fld := ⟨0x20040, 0x0, 1, 0x0, 1, 0, 1, 0, false, .rw, .aon⟩
def F.PWR_WATCH_CTL_DOCENT_REQ : Fld := ⟨0x20040, 0x0, 1, 0x0, 1, 1, 1, 0, false, .rw, .aon⟩
def F.PWR_WATCH_CTL_WLEAD : Fld := ⟨0x20040, 0x0, 1, 0x0, 1, 2, 5, 0x14, false, .rw, .aon⟩
def F.PWR_WATCH_STAT_PHASE : Fld := ⟨0x20048, 0x0, 1, 0x0, 1, 0, 4, 0, false, .ro, .aon⟩
def F.PWR_WATCH_STAT_CATCHUP : Fld := ⟨0x20048, 0x0, 1, 0x0, 1, 4, 1, 0, false, .ro, .aon⟩
def F.PWR_WATCH_STAT_SAMPLES : Fld := ⟨0x20048, 0x0, 1, 0x0, 1, 16, 32, 0, true, .ro, .aon⟩
def F.PWR_WATCH_STAT_MISSES : Fld := ⟨0x20048, 0x0, 1, 0x0, 1, 48, 16, 0, false, .rc, .aon⟩
def F.PWR_WAKE_CFG_EN : Fld := ⟨0x20050, 0x0, 1, 0x0, 1, 0, 8, 0x20, false, .rw, .aon⟩
def F.PWR_WAKE_CFG_LINK_PORTS : Fld := ⟨0x20050, 0x0, 1, 0x0, 1, 8, 4, 0, false, .rw, .aon⟩
def F.PWR_WAKE_CFG_TIMER : Fld := ⟨0x20050, 0x0, 1, 0x0, 1, 32, 32, 0, false, .rw, .aon⟩
def F.PWR_WAKE_STAT_CAUSES : Fld := ⟨0x20058, 0x0, 1, 0x0, 1, 0, 10, 0, false, .w1c, .aon⟩
def F.PWR_WAKE_STAT_LAST : Fld := ⟨0x20058, 0x0, 1, 0x0, 1, 16, 4, 0, false, .ro, .aon⟩
def F.PWR_THERM_STAT_HOTTEST : Fld := ⟨0x20060, 0x0, 1, 0x0, 1, 0, 18, 0, false, .ro, .aon⟩
def F.PWR_THERM_STAT_SENSOR : Fld := ⟨0x20060, 0x0, 1, 0x0, 1, 18, 3, 0, false, .ro, .aon⟩
def F.PWR_THERM_STAT_SOFT : Fld := ⟨0x20060, 0x0, 1, 0x0, 1, 21, 1, 0, false, .ro, .aon⟩
def F.PWR_THERM_STAT_SHED : Fld := ⟨0x20060, 0x0, 1, 0x0, 1, 22, 1, 0, false, .ro, .aon⟩
def F.PWR_THERM_STAT_TRIP : Fld := ⟨0x20060, 0x0, 1, 0x0, 1, 23, 1, 0, false, .ro, .aon⟩
def F.PWR_THERM_STAT_FAULTED : Fld := ⟨0x20060, 0x0, 1, 0x0, 1, 24, 6, 0, false, .ro, .aon⟩
def F.PWR_HVOTE_VOTE : Fld := ⟨0x20068, 0x0, 1, 0x0, 1, 1, 32, 0, false, .rw, .aon⟩
def F.PWR_CVOTE_VOTE : Fld := ⟨0x20070, 0x0, 1, 0x0, 1, 1, 32, 0, false, .rw, .aon⟩
def F.PWR_GOV_PATH_LAST : Fld := ⟨0x20080, 0x8, 7, 0x0, 1, 0, 16, 0, false, .ro, .aon⟩
def F.PWR_GOV_PATH_PEAK : Fld := ⟨0x20080, 0x8, 7, 0x0, 1, 16, 16, 0, false, .ro, .aon⟩
def F.PWR_THERM_SAMPLE : Fld := ⟨0x200C0, 0x8, 6, 0x0, 1, 0, 18, 0, false, .ro, .aon⟩
def F.PWR_THERM_PEAK : Fld := ⟨0x200C0, 0x8, 6, 0x0, 1, 18, 18, 0, false, .rc, .aon⟩
def F.PWR_THERM_FAULT : Fld := ⟨0x200C0, 0x8, 6, 0x0, 1, 36, 1, 0, false, .ro, .aon⟩
def F.PWR_THERM_SAT : Fld := ⟨0x200C0, 0x8, 6, 0x0, 1, 37, 1, 0, false, .ro, .aon⟩
def F.PWR_DOM_PSTATE : Fld := ⟨0x20100, 0x10, 33, 0x0, 1, 0, 2, 0, false, .ro, .aon⟩
def F.PWR_DOM_RET : Fld := ⟨0x20100, 0x10, 33, 0x0, 1, 2, 1, 1, false, .rw, .aon⟩
def F.PWR_DOM_VOTES : Fld := ⟨0x20100, 0x10, 33, 0x0, 1, 4, 7, 0, false, .ro, .aon⟩
def F.PWR_DOM_CNT_REFUSALS : Fld := ⟨0x20108, 0x10, 33, 0x0, 1, 0, 32, 0, false, .rc, .aon⟩
def F.PWR_DOM_CNT_REFUSER : Fld := ⟨0x20108, 0x10, 33, 0x0, 1, 32, 3, 0, false, .ro, .aon⟩
def F.PWR_DOM_CNT_ABORTS : Fld := ⟨0x20108, 0x10, 33, 0x0, 1, 36, 16, 0, false, .rc, .aon⟩
def F.PWR_DOM_CNT_ABORT_SRC : Fld := ⟨0x20108, 0x10, 33, 0x0, 1, 52, 4, 0, false, .ro, .aon⟩

/-! Fields of 17_twin.md. -/

def F.TWN_CTL_EN : Fld := ⟨0x1E0000, 0x0, 1, 0x0, 1, 0, 1, 0, false, .rw, .aon⟩
def F.TWN_CTL_PREFER : Fld := ⟨0x1E0000, 0x0, 1, 0x0, 1, 1, 1, 0, false, .rw, .aon⟩
def F.TWN_CTL_HB_TAKEOVER : Fld := ⟨0x1E0000, 0x0, 1, 0x0, 1, 2, 1, 1, false, .rw, .lost⟩
def F.TWN_CTL_SYNC_TAKEOVER : Fld := ⟨0x1E0000, 0x0, 1, 0x0, 1, 3, 1, 1, false, .rw, .lost⟩
def F.TWN_CTL_HOLD : Fld := ⟨0x1E0000, 0x0, 1, 0x0, 1, 16, 16, 0x320, false, .rw, .lost⟩
def F.TWN_CMD_OP : Fld := ⟨0x1E0008, 0x0, 1, 0x0, 1, 0, 2, 0, false, .wo, .lost⟩
def F.TWN_ROLE_ROLE : Fld := ⟨0x1E0010, 0x0, 1, 0x0, 1, 0, 1, 0, false, .rwst, .saved⟩
def F.TWN_STAT_STATE : Fld := ⟨0x1E0018, 0x0, 1, 0x0, 1, 0, 3, 0, false, .ro, .lost⟩
def F.TWN_STAT_EFF_ROLE : Fld := ⟨0x1E0018, 0x0, 1, 0x0, 1, 3, 1, 1, false, .ro, .lost⟩
def F.TWN_STAT_SOURCE : Fld := ⟨0x1E0018, 0x0, 1, 0x0, 1, 4, 1, 0, false, .ro, .lost⟩
def F.TWN_STAT_PEER_VALID : Fld := ⟨0x1E0018, 0x0, 1, 0x0, 1, 5, 1, 0, false, .ro, .lost⟩
def F.TWN_STAT_PEER_ROLE : Fld := ⟨0x1E0018, 0x0, 1, 0x0, 1, 6, 1, 0, false, .ro, .lost⟩
def F.TWN_STAT_PEER_SYNC : Fld := ⟨0x1E0018, 0x0, 1, 0x0, 1, 7, 2, 0, false, .ro, .lost⟩
def F.TWN_STAT_PEER_TST : Fld := ⟨0x1E0018, 0x0, 1, 0x0, 1, 9, 3, 0, false, .ro, .lost⟩
def F.TWN_STAT_PEER_DOCENT : Fld := ⟨0x1E0018, 0x0, 1, 0x0, 1, 12, 1, 0, false, .ro, .lost⟩
def F.TWN_STAT_FO_ARMED : Fld := ⟨0x1E0018, 0x0, 1, 0x0, 1, 13, 1, 0, false, .ro, .lost⟩
def F.TWN_STAT_SWITCH_PHASE : Fld := ⟨0x1E0018, 0x0, 1, 0x0, 1, 14, 2, 0, false, .ro, .lost⟩
def F.TWN_STAT_LOCAL_REFUSED : Fld := ⟨0x1E0018, 0x0, 1, 0x0, 1, 16, 1, 0, false, .w1c, .lost⟩
def F.TWN_STAT_LAST_FO : Fld := ⟨0x1E0018, 0x0, 1, 0x0, 1, 17, 2, 0, false, .ro, .lost⟩
def F.TWN_PEER_PEER_SFC : Fld := ⟨0x1E0020, 0x0, 1, 0x0, 1, 0, 51, 0, false, .ro, .lost⟩
def F.TWN_PEER_SN_SN : Fld := ⟨0x1E0028, 0x0, 1, 0x0, 1, 0, 64, 0, false, .ro, .lost⟩
def F.TWN_MIRROR_NEXT_MSEQ : Fld := ⟨0x1E0030, 0x0, 1, 0x0, 1, 0, 32, 0, false, .ro, .lost⟩
def F.TWN_MIRROR_PENDING : Fld := ⟨0x1E0030, 0x0, 1, 0x0, 1, 32, 16, 0, false, .ro, .lost⟩
def F.TWN_LINK_CFG_LANE_INV : Fld := ⟨0x1E0038, 0x0, 1, 0x0, 1, 0, 8, 0, false, .rw, .saved⟩
def F.TWN_LINK_CFG_CK_INV : Fld := ⟨0x1E0038, 0x0, 1, 0x0, 1, 8, 1, 0, false, .rw, .saved⟩
def F.TWN_LINK_STAT_SYMLOCK : Fld := ⟨0x1E0040, 0x0, 1, 0x0, 1, 0, 8, 0, false, .ro, .lost⟩
def F.TWN_LINK_STAT_ALIGNED : Fld := ⟨0x1E0040, 0x0, 1, 0x0, 1, 8, 1, 0, false, .ro, .lost⟩
def F.TWN_LINK_STAT_GOOD : Fld := ⟨0x1E0040, 0x0, 1, 0x0, 1, 9, 6, 0, false, .ro, .lost⟩
def F.TWN_LINK_STAT_BAD : Fld := ⟨0x1E0040, 0x0, 1, 0x0, 1, 15, 3, 0, false, .ro, .lost⟩
def F.TWN_CNT_BAD_HDR : Fld := ⟨0x1E0100, 0x0, 1, 0x0, 1, 0, 16, 0, false, .rc, .lost⟩
def F.TWN_CNT_ALIGN_LOSS : Fld := ⟨0x1E0100, 0x0, 1, 0x0, 1, 16, 16, 0, false, .rc, .lost⟩
def F.TWN_CNT_HB_MISS : Fld := ⟨0x1E0100, 0x0, 1, 0x0, 1, 32, 16, 0, false, .rc, .lost⟩
def F.TWN_CNT_FAILOVERS : Fld := ⟨0x1E0100, 0x0, 1, 0x0, 1, 48, 16, 0, false, .rc, .lost⟩
def F.TWN_CNT2_STBY_DROP : Fld := ⟨0x1E0108, 0x0, 1, 0x0, 1, 0, 32, 0, false, .rc, .lost⟩
def F.TWN_CNT2_BAD_BLOCK : Fld := ⟨0x1E0108, 0x0, 1, 0x0, 1, 32, 16, 0, false, .rc, .lost⟩
def F.TWN_CNT2_DISCARDED : Fld := ⟨0x1E0108, 0x0, 1, 0x0, 1, 48, 16, 0, false, .rc, .lost⟩

/-! Fields of 18_observability.md. -/

def F.OBS_CTL_CURATOR_VIS : Fld := ⟨0x1F0000, 0x0, 1, 0x0, 1, 0, 1, 0, false, .rw, .lost⟩
def F.OBS_CTL_UACC : Fld := ⟨0x1F0000, 0x0, 1, 0x0, 1, 1, 4, 0, false, .rw, .lost⟩
def F.OBS_CYCLE_CYCLE : Fld := ⟨0x1F0008, 0x0, 1, 0x0, 1, 0, 64, 0, false, .ro, .lost⟩
def F.OBS_PMC_RUN_RUN : Fld := ⟨0x1F0010, 0x0, 1, 0x0, 1, 0, 8, 0, false, .rw, .lost⟩
def F.OBS_PMC_CFG_EVENT : Fld := ⟨0x1F0100, 0x20, 8, 0x0, 1, 0, 8, 0, false, .rw, .lost⟩
def F.OBS_PMC_CFG_PRIV : Fld := ⟨0x1F0100, 0x20, 8, 0x0, 1, 8, 3, 7, false, .rw, .lost⟩
def F.OBS_PMC_CFG_FUNC : Fld := ⟨0x1F0100, 0x20, 8, 0x0, 1, 11, 4, 0xF, false, .rw, .lost⟩
def F.OBS_PMC_CFG_MASTER : Fld := ⟨0x1F0100, 0x20, 8, 0x0, 1, 15, 6, 0x3F, false, .rw, .lost⟩
def F.OBS_PMC_CFG_CLASS : Fld := ⟨0x1F0100, 0x20, 8, 0x0, 1, 21, 8, 0xFF, false, .rw, .lost⟩
def F.OBS_PMC_CFG_RANGE_EN : Fld := ⟨0x1F0100, 0x20, 8, 0x0, 1, 29, 1, 0, false, .rw, .lost⟩
def F.OBS_PMC_CFG_RANGE_INV : Fld := ⟨0x1F0100, 0x20, 8, 0x0, 1, 30, 1, 0, false, .rw, .lost⟩
def F.OBS_PMC_CFG_USER : Fld := ⟨0x1F0100, 0x20, 8, 0x0, 1, 31, 1, 0, false, .rw, .lost⟩
def F.OBS_PMC_LO_LO : Fld := ⟨0x1F0108, 0x20, 8, 0x0, 1, 0, 48, 0, false, .rw, .lost⟩
def F.OBS_PMC_HI_HI : Fld := ⟨0x1F0110, 0x20, 8, 0x0, 1, 0, 48, 0xFFFFFFFFFFFF, false, .rw, .lost⟩
def F.OBS_PMC_CNT_COUNT : Fld := ⟨0x1F0118, 0x20, 8, 0x0, 1, 0, 48, 0, true, .rw, .lost⟩
def F.OBS_TRC_CFG_EN : Fld := ⟨0x1F0200, 0x0, 1, 0x0, 1, 0, 1, 0, false, .rw, .lost⟩
def F.OBS_TRC_CFG_N : Fld := ⟨0x1F0200, 0x0, 1, 0x0, 1, 1, 5, 0xA, false, .rw, .lost⟩
def F.OBS_TRC_CFG_PATHS : Fld := ⟨0x1F0200, 0x0, 1, 0x0, 1, 6, 4, 0, false, .rw, .lost⟩
def F.OBS_TRC_CFG_FUNC : Fld := ⟨0x1F0200, 0x0, 1, 0x0, 1, 10, 2, 0, false, .rw, .lost⟩
def F.OBS_TRC_CFG_LOG2SIZE : Fld := ⟨0x1F0200, 0x0, 1, 0x0, 1, 12, 5, 6, false, .rw, .lost⟩
def F.OBS_TRC_BASE_BASE : Fld := ⟨0x1F0208, 0x0, 1, 0x0, 1, 0, 48, 0, false, .rw, .lost⟩
def F.OBS_TRC_PI_IDX : Fld := ⟨0x1F0210, 0x0, 1, 0x0, 1, 0, 18, 0, false, .ro, .lost⟩
def F.OBS_TRC_CI_IDX : Fld := ⟨0x1F0218, 0x0, 1, 0x0, 1, 0, 18, 0, false, .rw, .lost⟩
def F.OBS_TRC_STAT_FULL : Fld := ⟨0x1F0220, 0x0, 1, 0x0, 1, 0, 1, 0, false, .ro, .lost⟩
def F.OBS_TRC_STAT_FAULT : Fld := ⟨0x1F0220, 0x0, 1, 0x0, 1, 1, 1, 0, false, .w1c, .lost⟩
def F.OBS_TRC_STAT_CI_BAD : Fld := ⟨0x1F0220, 0x0, 1, 0x0, 1, 2, 1, 0, false, .w1c, .lost⟩
def F.OBS_TRC_STAT_OPEN : Fld := ⟨0x1F0220, 0x0, 1, 0x0, 1, 3, 5, 0, false, .ro, .lost⟩
def F.OBS_TRC_STAT_MISSED : Fld := ⟨0x1F0220, 0x0, 1, 0x0, 1, 8, 24, 0, false, .rc, .lost⟩
def F.OBS_TRC_STAT_SEQ : Fld := ⟨0x1F0220, 0x0, 1, 0x0, 1, 32, 32, 0, false, .ro, .lost⟩
def F.OBS_TRC_SEED_SEED : Fld := ⟨0x1F0228, 0x0, 1, 0x0, 1, 0, 32, 1, false, .wo, .lost⟩
def F.OBS_BW_CFG_WM1 : Fld := ⟨0x1F0300, 0x0, 1, 0x0, 1, 0, 16, 0x1F3F, false, .rw, .lost⟩
def F.OBS_BW_CFG_EN : Fld := ⟨0x1F0300, 0x0, 1, 0x0, 1, 16, 10, 0, false, .rw, .lost⟩
def F.OBS_BW_STAT_END_SFC : Fld := ⟨0x1F0308, 0x0, 1, 0x0, 1, 0, 51, 0, false, .ro, .lost⟩
def F.OBS_BW_STAT_SHORT : Fld := ⟨0x1F0308, 0x0, 1, 0x0, 1, 51, 1, 0, false, .ro, .lost⟩
def F.OBS_BW_LAST_OCTETS : Fld := ⟨0x1F0340, 0x10, 10, 0x0, 1, 0, 40, 0, false, .ro, .lost⟩
def F.OBS_BW_PEAK_PEAK : Fld := ⟨0x1F0348, 0x10, 10, 0x0, 1, 0, 40, 0, false, .rc, .lost⟩
def F.OBS_SNAP_CMD_GROUP : Fld := ⟨0x1F0400, 0x0, 1, 0x0, 1, 0, 8, 0, false, .wo, .lost⟩
def F.OBS_SNAP_CMD_CLEAR : Fld := ⟨0x1F0400, 0x0, 1, 0x0, 1, 8, 1, 0, false, .wo, .lost⟩
def F.OBS_SNAP_CMD_GO : Fld := ⟨0x1F0400, 0x0, 1, 0x0, 1, 9, 1, 0, false, .wo, .lost⟩
def F.OBS_SNAP_STAT_VALID : Fld := ⟨0x1F0408, 0x0, 1, 0x0, 1, 0, 1, 0, false, .ro, .lost⟩
def F.OBS_SNAP_STAT_REFUSED : Fld := ⟨0x1F0408, 0x0, 1, 0x0, 1, 1, 1, 0, false, .w1c, .lost⟩
def F.OBS_SNAP_STAT_GROUP : Fld := ⟨0x1F0408, 0x0, 1, 0x0, 1, 2, 8, 0, false, .ro, .lost⟩
def F.OBS_SNAP_BUF_DATA : Fld := ⟨0x1F1000, 0x8, 259, 0x0, 1, 0, 64, 0, false, .ro, .lost⟩

/-! Fields of 19_reset_faults.md. -/

def F.RST_CAUSE_POR_PIN : Fld := ⟨0x10100, 0x0, 1, 0x0, 1, 0, 1, 0, false, .w1c, .aon⟩
def F.RST_CAUSE_AON_BO : Fld := ⟨0x10100, 0x0, 1, 0x0, 1, 1, 1, 0, false, .w1c, .aon⟩
def F.RST_CAUSE_BLK_PIN : Fld := ⟨0x10100, 0x0, 1, 0x0, 1, 2, 1, 0, false, .w1c, .aon⟩
def F.RST_CAUSE_CORE_BO : Fld := ⟨0x10100, 0x0, 1, 0x0, 1, 3, 1, 0, false, .w1c, .aon⟩
def F.RST_CAUSE_CURATOR_ECC : Fld := ⟨0x10100, 0x0, 1, 0x0, 1, 4, 1, 0, false, .w1c, .aon⟩
def F.RST_CAUSE_STILL_EXIT : Fld := ⟨0x10100, 0x0, 1, 0x0, 1, 5, 1, 0, false, .w1c, .aon⟩
def F.RST_CAUSE_OFF_EXIT : Fld := ⟨0x10100, 0x0, 1, 0x0, 1, 6, 1, 0, false, .w1c, .aon⟩
def F.RST_CAUSE_BLK_COUNT : Fld := ⟨0x10100, 0x0, 1, 0x0, 1, 8, 16, 0, false, .ro, .aon⟩
def F.RST_ECC_CNT_CORR : Fld := ⟨0x10108, 0x0, 1, 0x0, 1, 0, 32, 0, false, .rc, .lost⟩
def F.RST_ECC_CNT_UNCORR : Fld := ⟨0x10108, 0x0, 1, 0x0, 1, 32, 16, 0, false, .rc, .lost⟩
def F.RST_ECC_CNT_BUF_DROP : Fld := ⟨0x10108, 0x0, 1, 0x0, 1, 48, 16, 0, false, .rc, .lost⟩
def F.RST_ECC_LOG_ARRAY : Fld := ⟨0x10110, 0x0, 1, 0x0, 1, 0, 4, 0, false, .ro, .lost⟩
def F.RST_ECC_LOG_VALID : Fld := ⟨0x10110, 0x0, 1, 0x0, 1, 4, 1, 0, false, .w1c, .lost⟩
def F.RST_ECC_LOG_MORE : Fld := ⟨0x10110, 0x0, 1, 0x0, 1, 5, 1, 0, false, .w1c, .lost⟩
def F.RST_ECC_LOG_LOC : Fld := ⟨0x10110, 0x0, 1, 0x0, 1, 8, 29, 0, false, .ro, .lost⟩
def F.RST_REG_DROP_COUNT : Fld := ⟨0x10118, 0x0, 1, 0x0, 1, 0, 32, 0, false, .rc, .lost⟩
def F.RST_REG_DROP_LAST_OFS : Fld := ⟨0x10118, 0x0, 1, 0x0, 1, 32, 22, 0, false, .ro, .lost⟩
def F.RST_SCRUB_EN : Fld := ⟨0x10120, 0x0, 1, 0x0, 1, 0, 1, 1, false, .rw, .lost⟩
def F.RST_SCRUB_PASSES : Fld := ⟨0x10120, 0x0, 1, 0x0, 1, 32, 32, 0, true, .ro, .lost⟩

/-! Fields of 21_register_map.md. -/

def F.ID_BLOCK_PART : Fld := ⟨0x0, 0x0, 1, 0x0, 1, 0, 16, 0x4907, false, .ro, .lost⟩
def F.ID_BLOCK_REV_MAJOR : Fld := ⟨0x0, 0x0, 1, 0x0, 1, 16, 4, 0, false, .ro, .lost⟩
def F.ID_BLOCK_REV_MINOR : Fld := ⟨0x0, 0x0, 1, 0x0, 1, 20, 4, 0, false, .ro, .lost⟩
def F.ID_BLOCK_TASOR_REV : Fld := ⟨0x0, 0x0, 1, 0x0, 1, 24, 3, 3, false, .ro, .lost⟩
def F.ID_BLOCK_SEQ_ROM : Fld := ⟨0x0, 0x0, 1, 0x0, 1, 32, 16, 0, false, .ro, .lost⟩
def F.ID_BLOCK_VIT_VER : Fld := ⟨0x0, 0x0, 1, 0x0, 1, 48, 16, 0, false, .ro, .lost⟩
def F.ID_FW_CUR_MINOR : Fld := ⟨0x8, 0x0, 1, 0x0, 1, 0, 8, 4, false, .ro, .lost⟩
def F.ID_FW_CUR_MAJOR : Fld := ⟨0x8, 0x0, 1, 0x0, 1, 8, 8, 2, false, .ro, .lost⟩
def F.ID_FW_CUR_PATCH : Fld := ⟨0x8, 0x0, 1, 0x0, 1, 16, 16, 0, false, .ro, .lost⟩
def F.ID_FW_DOC_MINOR : Fld := ⟨0x8, 0x0, 1, 0x0, 1, 32, 8, 0, false, .ro, .lost⟩
def F.ID_FW_DOC_MAJOR : Fld := ⟨0x8, 0x0, 1, 0x0, 1, 40, 8, 0, false, .ro, .lost⟩
def F.ID_FW_DOC_RUN : Fld := ⟨0x8, 0x0, 1, 0x0, 1, 48, 1, 0, false, .ro, .lost⟩
def F.ID_SCRATCH_DATA : Fld := ⟨0x10, 0x0, 1, 0x0, 1, 0, 64, 0, false, .rw, .lost⟩
def F.ID_CAPS_FLOW_CTX : Fld := ⟨0x18, 0x0, 1, 0x0, 1, 0, 13, 0x1000, false, .ro, .lost⟩
def F.ID_CAPS_ALLOC_ENT : Fld := ⟨0x18, 0x0, 1, 0x0, 1, 13, 10, 0x200, false, .ro, .lost⟩
def F.ID_CAPS_FTAGS : Fld := ⟨0x18, 0x0, 1, 0x0, 1, 23, 13, 0x1000, false, .ro, .lost⟩
def F.ID_CAPS_WQS : Fld := ⟨0x18, 0x0, 1, 0x0, 1, 36, 11, 0x400, false, .ro, .lost⟩
def F.ID_CAPS_CQS : Fld := ⟨0x18, 0x0, 1, 0x0, 1, 47, 11, 0x400, false, .ro, .lost⟩
def F.ID_CAPS_SLC_CH : Fld := ⟨0x18, 0x0, 1, 0x0, 1, 58, 5, 0x10, false, .ro, .lost⟩

/-- Fields of 01_architecture.md. -/
def flds01 : List Fld :=
  [F.ID_INTEG_PORT_WIRED, F.ID_INTEG_PORT0_MAXRATE, F.ID_INTEG_PORT1_MAXRATE, F.ID_INTEG_PORT2_MAXRATE, F.ID_INTEG_PORT3_MAXRATE, F.ID_INTEG_TWIN_WIRED, F.ID_INTEG_PRESENCE_WIRED, F.ID_INTEG_VITPULSE_WIRED, F.ID_INTEG_PPSIN_WIRED, F.ID_INTEG_PPSOUT_WIRED, F.ID_INTEG_FAB_WIRED, F.ID_INTEG_DELIVERY, F.ID_INTEG_INTEG_ID, F.ID_INTEG_VALID]

/-- Fields of 02_tick_and_clocks.md. -/
def flds02 : List Fld :=
  [F.CKX_TICK_STAT_SRC, F.CKX_TICK_STAT_STEPPED, F.CKX_TICK_STAT_SYNC_POS, F.CKX_TICK_STAT_LAG, F.CKX_TICK_STAT_SFC_LOW, F.CKX_TICK_TIME_LO_FRAC, F.CKX_TICK_TIME_LO_NS, F.CKX_TICK_TIME_LO_SEQ, F.CKX_TICK_TIME_HI_SEC, F.CKX_TICK_TIME_HI_SEQ, F.CKX_TICK_CNT_FLYWHEEL_CNT, F.CKX_TICK_CNT_STEP_CNT, F.CKX_TICK_CNT_HOLDOVER_CNT, F.CKX_CORE_CTL_PLL_EN, F.CKX_CORE_CTL_SRC, F.CKX_CORE_CTL_LOCK, F.CKX_CORE_CTL_REFUSED, F.CKX_CLKMON_PRESENT, F.CKX_CLKMON_AON_SRC, F.CKX_CLKMON_STOPPED, F.CKX_XSTAT_PEER_RESET, F.CKX_XSTAT_HANDSHAKE, F.CKX_XDROP_DROPS, F.CKX_XDROP_LAST_XID]

/-- Fields of 03_tasor_downstream.md. -/
def flds03 : List Fld :=
  [F.TDS_CTL_RX_EN, F.TDS_CTL_HUNT_THR, F.TDS_CTL_SYNC_THR, F.TDS_CTL_RSM_TMO, F.TDS_SYNC_STAT_STATE, F.TDS_SYNC_STAT_GOOD, F.TDS_SYNC_STAT_BAD, F.TDS_SYNC_STAT_HDR_VALID, F.TDS_SYNC_STAT_HCW, F.TDS_SYNC_STAT_PCW_USED, F.TDS_SYNC_STAT_DIST, F.TDS_SYNC_STAT_SFC_LOW, F.TDS_EFFORT_CAP, F.TDS_EFFORT_P9999, F.TDS_EFFORT_HOLD, F.TDS_EFFORT_SLICES, F.TDS_EFFORT_POWERED, F.TDS_EFFORT_POND_CLAMP, F.TDS_EFFORT_CTL_FIX_EN, F.TDS_EFFORT_CTL_FIX_CAP, F.TDS_HDR_PSEQ, F.TDS_HDR_KSEQ, F.TDS_HDR_NGRANT, F.TDS_HDR_NMSG, F.TDS_HDR_WAKE_PRESENT, F.TDS_HDR_WAKE_SELF, F.TDS_KEYSTAT_SLOT1_VALID, F.TDS_KEYSTAT_SLOT2_VALID, F.TDS_KEYSTAT_SLOT3_VALID, F.TDS_FLT_STAT_REFUSED, F.TDS_FLT_STAT_LAST_IDX, F.TDS_FLT_FTAG, F.TDS_FLT_VALID, F.TDS_FLT_ENC_REQ, F.TDS_FLT_BCAST, F.TDS_CNT_SYNC_INVALID_WORDS, F.TDS_CNT_SYNC_LOSSES, F.TDS_CNT_CW_DECODED, F.TDS_CNT_FEC_CORR_CW, F.TDS_CNT_FEC_UNCORR, F.TDS_CNT_DEC_SKIPPED, F.TDS_CNT_DEC_HDR_BAD, F.TDS_CNT_DEC_PAYLOAD_LOST, F.TDS_CNT_MSG_TO_SEQ, F.TDS_CNT_MSG_UNKNOWN, F.TDS_CNT_MSG_DOCENT_DROP, F.TDS_CNT_MSG_MGMT_DROP, F.TDS_CNT_ENC_BCH_CORR, F.TDS_CNT_ENC_BCH_UNCORR, F.TDS_CNT_DLN_HUNTS, F.TDS_CNT_DLN_TAG_MISS, F.TDS_CNT_SEC_AUTH_FAIL, F.TDS_CNT_SEC_KIDX_BAD, F.TDS_CNT_RSM_TIMEOUT, F.TDS_CNT_RSM_SIZE, F.TDS_CNT_RSM_POISONED, F.TDS_CNT_RSM_NO_ROOM, F.TDS_CNT_OVR_OVERRUN, F.TDS_CNT_FRM_FRAMES]

/-- Fields of 04_tasor_upstream.md. -/
def flds04 : List Fld :=
  [F.TUS_CTL_GATE, F.TUS_CTL_TX_INHIBIT, F.TUS_CTL_FAULT_AUTO, F.TUS_CTL_FAULT_CLR, F.TUS_CTL_AUTO_SLEEP, F.TUS_CTL_ROGUE_SLEEP, F.TUS_TIMING_EQD, F.TUS_TIMING_RT_TRIM, F.TUS_TXEN_LEAD, F.TUS_TXEN_LAG, F.TUS_TXEN_SD_DLY, F.TUS_TXEN_SD_OFF, F.TUS_TXEN_PHY_WAKE, F.TUS_SEQSEL_PSEQ, F.TUS_SEQSEL_KSEL, F.TUS_STAT_BURST, F.TUS_STAT_TX_EN, F.TUS_STAT_TX_SD, F.TUS_STAT_TX_FAULT, F.TUS_STAT_PHY_SLEEP, F.TUS_STAT_FAULT_HOLD, F.TUS_STAT_REFUSED, F.TUS_STAT_BSEQ, F.TUS_PAGE_STAT_PAGE, F.TUS_PAGE_STAT_OWN, F.TUS_PAGE_STAT_FULL, F.TUS_PAGE_STAT_ORIGIN_POS, F.TUS_PAGE_STAT_READY, F.TUS_PAGE_STAT_SFC_LOW, F.TUS_ALLOC_STAT_REFUSED, F.TUS_ALLOC_STAT_LAST_IDX, F.TUS_DISC_DLY, F.TUS_PROF_CFG_GUARD, F.TUS_PROF_CFG_PRE_LEN, F.TUS_PROF_CFG_PRE_PAT, F.TUS_PROF_DLM_HI_DLM_HI, F.TUS_PROF_DLM_LO_DLM_LO, F.TUS_ALLOC_ALLOC_ID, F.TUS_ALLOC_VALID, F.TUS_ALLOC_ENC, F.TUS_ALLOC_DEFER, F.TUS_GT_START, F.TUS_GT_LEN, F.TUS_GT_ENTRY, F.TUS_GT_RPT, F.TUS_GT_PROF, F.TUS_GT_FEC, F.TUS_GT_MSG, F.TUS_GT_STATUS, F.TUS_CNT_BURST_BURSTS, F.TUS_CNT_BURST_GRANTS, F.TUS_CNT_DISC_RANGE, F.TUS_CNT_DISC_PSEQ, F.TUS_CNT_DISC_OVERLAP, F.TUS_CNT_DISC_SHORT, F.TUS_CNT_DISC2_LATE, F.TUS_CNT_DISC2_TABLE_FULL, F.TUS_CNT_DISC2_PURGED, F.TUS_CNT_DISC2_ABORTED, F.TUS_CNT_FILL_SHORT_SHARE]

/-- Fields of 04_tasor_upstream.md. -/
def flds04a : List Fld :=
  [F.TUS_CNT_FILL_KEY_MISSING, F.TUS_CNT_FILL_ABORT_FRAMES, F.TUS_CNT_FILL_GATED, F.TUS_CNT_PHY_TX_FAULT, F.TUS_CNT_PHY_ROGUE, F.TUS_CNT_PHY_DARK, F.TUS_CNT_FRM_FRAMES, F.TUS_CNT_OCT_OCTETS]

/-- Fields of 05_terminal_states.md. -/
def flds05 : List Fld :=
  [F.TST_STATE_STATE, F.TST_STATE_PREV, F.TST_STATE_HALT_LATCH, F.TST_STATE_CMD_REFUSED, F.TST_STATE_TIMER, F.TST_STATE_ENTRY_SFC, F.TST_CTL_ACTIVATE, F.TST_CTL_TO_RANGE, F.TST_CMD_CMD, F.TST_CMD_TID, F.TST_ID_TID, F.TST_ID_VALID, F.TST_SERIAL_SN, F.TST_KEYSW_KSEQ, F.TST_KEYSW_PEND_KSEQ, F.TST_KEYSW_PEND_SLOT, F.TST_KEYSW_PENDING, F.TST_KEYSW_PEND_SFC, F.TST_SLEEP_ALLOWED, F.TST_SLEEP_K, F.TST_SLEEP_REQ, F.TST_TOD_CTL_STEP_THR, F.TST_TOD_CTL_TOD_EN, F.TST_TOD_CTL_DISC_EN, F.TST_TOD_CTL_DS_LAT, F.TST_TOD_STAT_VALID, F.TST_TOD_STAT_SLEWING, F.TST_TOD_STAT_STEPPED, F.TST_TOD_STAT_REFUSED, F.TST_TOD_STAT_RATE_HELD, F.TST_TOD_STAT_LAST_OFS, F.TST_TOD_RATE_RATE_ADJ, F.TST_TIME_LO_FRAC, F.TST_TIME_LO_NS, F.TST_TIME_HI_SEC, F.TST_TIME_ADJ_ADJ, F.TST_PPS_CTL_OUT_EN, F.TST_PPS_CTL_IN_EN, F.TST_PPS_CTL_WIDTH, F.TST_PPS_CTL_OUT_OFS, F.TST_PPSIN_LO_FRAC, F.TST_PPSIN_LO_NS, F.TST_PPSIN_LO_SEQ, F.TST_PPSIN_HI_SEC, F.TST_PPSIN_HI_SEQ, F.TST_CNT_INTERMITS, F.TST_CNT_RANGE_TMO, F.TST_CNT_BAD_STATE, F.TST_CNT_DUPLICATE, F.TST_CNT2_DISC_EXTRA, F.TST_CNT2_PPSIN_IGNORED, F.TST_CNT2_TOD_APPLIED, F.TST_CNT2_TOD_BAD]

/-- Fields of 06_classifier.md. -/
def flds06 : List Fld :=
  [F.CLS_CTL_CSUM_DROP, F.CLS_CTL_STASH_THR, F.CLS_DEF_LO_ACT_LO, F.CLS_DEF_HI_ACT_HI, F.CLS_ACC_CUR_CUR, F.CLS_ACC_STAT_CUR, F.CLS_ACC_STAT_OLD, F.CLS_ACC_STAT_STATE, F.CLS_ACC_STAT_DRAIN, F.CLS_ACC_STAT_STASH_USED, F.CLS_UPD_CMD_OP, F.CLS_UPD_CMD_TABLE, F.CLS_UPD_CMD_STASH, F.CLS_UPD_CMD_CHOICE, F.CLS_UPD_CMD_BUCKET, F.CLS_UPD_CMD_POS, F.CLS_UPD_CMD_SIDX, F.CLS_UPD_CMD_VAL, F.CLS_UPD_DST_STASH, F.CLS_UPD_DST_CHOICE, F.CLS_UPD_DST_BUCKET, F.CLS_UPD_DST_POS, F.CLS_UPD_DST_SIDX, F.CLS_UPD_STAT_BUSY, F.CLS_UPD_STAT_ERR, F.CLS_UPD_STAT_ERR_SEEN, F.CLS_UPD_STAT_B0, F.CLS_UPD_STAT_B1, F.CLS_UPD_DATA_DATA, F.CLS_CNT_HIT_HIT_B, F.CLS_CNT_HIT_HIT_A, F.CLS_CNT_MISS_MISS, F.CLS_CNT_MISS_STASH_HIT, F.CLS_CNT_PARSE_TAGS3, F.CLS_CNT_PARSE_TRUNC, F.CLS_CNT_PARSE_EXT, F.CLS_CNT_PARSE_IP_BAD, F.CLS_CNT_ACT_FORBIDDEN, F.CLS_CNT_ACT_BAD_ACTION, F.CLS_CNT_ACT_TAG_SKIP, F.CLS_CNT_DROP_POL_DROP, F.CLS_CNT_DROP_ACT_DROP, F.CLS_CNT_CSUM_L3_BAD, F.CLS_CNT_CSUM_L4_BAD, F.CLS_CNT_FRM_FRAMES, F.CLS_STAT_OCT_OCTETS, F.CLS_STAT_FRM_FRAMES, F.CLS_POL_RATE, F.CLS_POL_BURST, F.CLS_POL_DROPS]

/-- Fields of 07_user_ports.md. -/
def flds07 : List Fld :=
  [F.UPM_CFG_EN, F.UPM_CFG_RATE, F.UPM_CFG_MAX_LEN, F.UPM_CFG_RX_TAG_MODE, F.UPM_CFG_TX_TAG_MODE, F.UPM_CFG_PVID, F.UPM_CFG_PVID_PCP, F.UPM_CFG_PVID_STAG, F.UPM_CFG_IPG_EXTRA, F.UPM_STAT_LINK, F.UPM_STAT_RX_LPI, F.UPM_STAT_TX_LPI, F.UPM_STAT_REFUSED, F.UPM_STAT_REFUSE_WHY, F.UPM_STAT_PAUSED, F.UPM_STAT_XOFF, F.UPM_MACADDR_ADDR, F.UPM_FC_CFG_RX_PAUSE_EN, F.UPM_FC_CFG_RX_PFC_EN, F.UPM_FC_CFG_TX_MODE, F.UPM_FC_CFG_PFC_MASK, F.UPM_FC_CFG_TX_QUANTA, F.UPM_FC_THR_XOFF_THR, F.UPM_FC_THR_XON_THR, F.UPM_FC_THR_LOSSY_THR, F.UPM_PRE_CFG_PRE_EN, F.UPM_PRE_CFG_VERIFY_DIS, F.UPM_PRE_CFG_VERIFY_TIME, F.UPM_PRE_CFG_ADD_FRAG, F.UPM_PRE_CFG_EXPRESS, F.UPM_PRE_STAT_VSTATUS, F.UPM_PRE_STAT_ATTEMPTS, F.UPM_PRE_STAT_ACTIVE, F.UPM_PRE_STAT_ASM_BUSY, F.UPM_EEE_CFG_EEE_EN, F.UPM_EEE_CFG_IDLE_HOLD, F.UPM_EEE_CFG_IDLE_HOLD_POND, F.UPM_EEE_CFG_TW_SYS_TX, F.UPM_TS_CFG_RX_LAT, F.UPM_TS_CFG_TX_LAT, F.UPM_WAKE_CFG_WAKE_LINK, F.UPM_WAKE_CFG_PAT_EN, F.UPM_WAKE_STAT_LINK_SEEN, F.UPM_WAKE_STAT_PAT_HIT, F.UPM_WPAT_MLO_MASK, F.UPM_WPAT_MHI_MASK, F.UPM_WPAT_CRC_CRC, F.UPM_CNT_RXF_FRAMES, F.UPM_CNT_RXO_OCTETS, F.UPM_CNT_RXE_FCS_ERR, F.UPM_CNT_RXE_RUNT, F.UPM_CNT_RXE_FRAGMENT, F.UPM_CNT_RXE_OVERSIZE, F.UPM_CNT_RXE2_JABBER, F.UPM_CNT_RXE2_CODE_ERR, F.UPM_CNT_RXE2_BAD_SFD, F.UPM_CNT_RXE2_CTRL_DROP, F.UPM_CNT_RXP_ASM_ERR, F.UPM_CNT_RXP_FRAGS_RX, F.UPM_CNT_RXP_OVERRUN]

/-- Fields of 07_user_ports.md. -/
def flds07a : List Fld :=
  [F.UPM_CNT_RXP_LOSSY_DROP, F.UPM_CNT_FC_PAUSE_RX, F.UPM_CNT_FC_PFC_RX, F.UPM_CNT_FC_PAUSE_TX, F.UPM_CNT_FC_PFC_TX, F.UPM_CNT_TXF_FRAMES, F.UPM_CNT_TXO_OCTETS, F.UPM_CNT_TXE_PREEMPT, F.UPM_CNT_TXE_LINK_DROP, F.UPM_CNT_TXE_SIZE_DROP, F.UPM_CNT_TXE_WAKE_DISCARD, F.UPM_CNT_LPI_TX_LPI_ENTRIES, F.UPM_CNT_LPI_RX_LPI_ENTRIES]

/-- Fields of 08_queues_scheduling.md. -/
def flds08 : List Fld :=
  [F.QSC_STAT_FREE_CELLS, F.QSC_STAT_REFUSED, F.QSC_STAT_REFUSE_WHY, F.QSC_STAT_FLUSH_BUSY, F.QSC_FLUSH_CTX, F.QSC_FLUSH_GO, F.QSC_RPT_CFG_FACTOR, F.QSC_RPT_CFG_COAL_THR, F.QSC_RPT_CFG_DEFER_MAX, F.QSC_POOL_CFG_EN, F.QSC_POOL_CFG_BASE, F.QSC_POOL_SIZE_NSEG, F.QSC_POOL_SIZE_FAULT, F.QSC_POOL_SIZE_USED, F.QSC_EGR_CFG_SP, F.QSC_EGR_CFG_WEIGHT, F.QSC_EGR_CFG_QLIM, F.QSC_EGR_STAT_CELLS, F.QSC_EGR_STAT_DROPS, F.QSC_FC_CFG_EN, F.QSC_FC_CFG_ENTRY, F.QSC_FC_CFG_PRIO, F.QSC_FC_CFG_WEIGHT, F.QSC_FC_CFG_FTAG, F.QSC_FC_CFG_SPILL_EN, F.QSC_FC_CFG_POOL, F.QSC_FC_CFG_QLIM, F.QSC_FC_SHP_RATE, F.QSC_FC_SHP_BURST, F.QSC_FC_SHP_OVH, F.QSC_FC_SHP_SHP_EN, F.QSC_FC_STAT_CELLS, F.QSC_FC_STAT_CHAIN, F.QSC_FC_STAT_SPILL_ERR, F.QSC_FC_STAT_REM, F.QSC_FC_STAT_SPILL_FRAMES, F.QSC_FC_STAT_DROPS, F.QSC_CNT_ADM_TAIL_DROP, F.QSC_CNT_ADM_EGR_DROP, F.QSC_CNT_SPILL_SPILL_FULL, F.QSC_CNT_SPILL_SPILL_WERR, F.QSC_CNT_SPILL_SPILL_RERR, F.QSC_CNT_SPILL_DIS_DROP, F.QSC_CNT_SPILL2_SPILLED, F.QSC_CNT_FLUSH_FLUSHED, F.PWR_POND_CFG_BUDGET, F.PWR_POND_CFG_LWM, F.PWR_POND_CFG_HWM, F.PWR_POND_CFG_REFUSED, F.PWR_POND_LVL_LEVEL, F.PWR_POND_LVL_STATE, F.PWR_POND_THERM_T_SOFT, F.PWR_POND_THERM_T_HARD, F.PWR_POND_TICK_REFILL, F.PWR_POND_TICK_CHARGE, F.PWR_POND_CNT_LOW_TICKS, F.PWR_POND_CNT_LOW_ENTRIES, F.PWR_POND_COEF_PJ, F.PWR_POND_STATIC_NJ]

/-- Fields of 09_host_rings.md. -/
def flds09 : List Fld :=
  [F.HRG_DB_WQ_QNUM, F.HRG_DB_WQ_IDX, F.HRG_DB_WQ_INV, F.HRG_DB_CQ_QNUM, F.HRG_DB_CQ_ARM, F.HRG_DB_AWQ_QNUM, F.HRG_DB_AWQ_IDX, F.HRG_DB_AWQ_INV, F.HRG_DB_ACQ_ARM, F.HRG_FUNC_RST_GO, F.HRG_FUNC_STAT_ADMIN_READY, F.HRG_FUNC_STAT_RESETTING, F.HRG_FUNC_STAT_WQS, F.HRG_FUNC_STAT_CQS, F.HRG_DB_ERR_QNUM, F.HRG_DB_ERR_REASON, F.HRG_DB_ERR_ADMIN, F.HRG_DB_ERR_COUNT, F.HRG_OVF_STAT_USED, F.HRG_OVF_STAT_PEAK, F.HRG_OVF_STAT_CQS, F.HRG_OVF_STAT_FULL, F.HRG_QCTX_CMD_OP, F.HRG_QCTX_CMD_QNUM, F.HRG_QCTX_CMD_FUNC, F.HRG_QCTX_CMD_KIND, F.HRG_QCTX_CMD_LOG2SIZE, F.HRG_QCTX_CMD_CQ, F.HRG_QCTX_CMD_QLIM, F.HRG_QCTX_CMD_BUSY, F.HRG_QCTX_CMD_ERR, F.HRG_QCTX_BASE_BASE, F.HRG_QCTX_HDR_HDR, F.HRG_WQ_STAT_STATE, F.HRG_WQ_STAT_FUNC, F.HRG_WQ_STAT_KIND, F.HRG_WQ_STAT_HEAD, F.HRG_WQ_STAT_TAIL, F.HRG_WQ_STAT_CACHED, F.HRG_WQ_STAT_CQ, F.HRG_WQ_STAT_LOG2SIZE, F.HRG_CQ_STAT_STATE, F.HRG_CQ_STAT_FUNC, F.HRG_CQ_STAT_PI, F.HRG_CQ_STAT_HOST_IDX, F.HRG_CQ_STAT_STORED, F.HRG_CQ_STAT_ARMED, F.HRG_CQ_STAT_NOTIFY, F.HRG_CQ_STAT_LOG2SIZE, F.HRG_CNT_TX_FRAMES, F.HRG_CNT_RX_FRAMES, F.HRG_CNT_ERR_MALFORMED, F.HRG_CNT_ERR_RX_DROP, F.HRG_CNT_ERR_FAB_ERR, F.HRG_CNT_ERR_RST_DISCARD]

/-- Fields of 10_sluice_dma.md. -/
def flds10 : List Fld :=
  [F.SLC_CH_CFG_FUNC, F.SLC_CH_CFG_MODE, F.SLC_CH_CFG_DEFER, F.SLC_CH_CFG_SHARE, F.SLC_CH_CFG_RING_LOG2, F.SLC_CH_CFG_POLL_US, F.SLC_CH_PROG_BASE, F.SLC_CH_CMD_GO, F.SLC_CH_CMD_STOP, F.SLC_CH_CMD_RESUME, F.SLC_CH_CMD_KICK, F.SLC_CH_CMD_CLEAR, F.SLC_CH_STAT_STATUS, F.SLC_CH_PC_PC, F.SLC_CH_LOOP_REMAINING, F.SLC_CH_LOOP_ACTIVE, F.SLC_CH_LOOP_ENDLESS, F.SLC_CH_LOOP_HOME, F.SLC_CH_MARKS_HALF_CNT, F.SLC_CH_MARKS_FULL_CNT, F.SLC_CH_OCT_OCTETS, F.SLC_FLAGS_FLAGS, F.SLC_FLAG_SET_CH, F.SLC_FLAG_SET_MASK, F.SLC_FLAG_CLR_CH, F.SLC_FLAG_CLR_MASK, F.SLC_REFUSE_REFUSED, F.SLC_REFUSE_CH, F.SLC_REFUSE_WHY]

/-- Fields of 11_event_queues.md. -/
def flds11 : List Fld :=
  [F.EVQ_Q_CFG_EN, F.EVQ_Q_CFG_ASLEEP, F.EVQ_Q_CFG_FUNC, F.EVQ_Q_CFG_LOG2SIZE, F.EVQ_Q_BASE_BASE, F.EVQ_Q_PI_PI, F.EVQ_Q_CI_CI, F.EVQ_Q_STAT_FULL, F.EVQ_Q_STAT_FAULT, F.EVQ_Q_STAT_CI_BAD, F.EVQ_Q_STAT_IRQ, F.EVQ_Q_STAT_MERGED, F.EVQ_Q_STAT_SEQ, F.EVQ_STAT_REFUSED, F.EVQ_STAT_WHY, F.EVQ_STAT_QUEUE, F.EVQ_STAT_REARM_EARLY, F.EVQ_STAT_LAST_SRC, F.EVQ_STAT_PENDING, F.EVQ_SWSRC_STATE, F.EVQ_SRC_SENSE, F.EVQ_SRC_EN, F.EVQ_SRC_TARGET, F.EVQ_SRC_WAKE, F.EVQ_SRC_REARM, F.EVQ_SRC_STATE, F.EVQ_SRC_ARMED, F.EVQ_SRC_PENDING, F.EVQ_SRC_KIND]

/-- Fields of 12_frame_sequencer.md. -/
def flds12 : List Fld :=
  [F.SEQ_ID_ROM_VER, F.SEQ_ID_ROM_DIGEST, F.SEQ_CTL_BUDGET, F.SEQ_CTL_QUAR_N, F.SEQ_CTL_RESTART, F.SEQ_STAT_STATE, F.SEQ_STAT_PC, F.SEQ_STAT_DUTY, F.SEQ_STAT_LAST_MATCH, F.SEQ_STAT_QUARANTINE, F.SEQ_STAT_REFUSED, F.SEQ_STAT_LAST_CYCLES, F.SEQ_STAT_PEAK_CYCLES, F.SEQ_DUTY_LAST, F.SEQ_DUTY_PEAK, F.SEQ_PATCH_ID_VER, F.SEQ_PATCH_ID_DIGEST, F.SEQ_PATCH_ADDR_WORD, F.SEQ_PATCH_DATA_DATA, F.SEQ_MATCH_ADDR, F.SEQ_MATCH_PADDR, F.SEQ_MATCH_LEN, F.SEQ_MATCH_EN, F.SEQ_MATCH_FAULTED, F.SEQ_CNT_OVERRUNS, F.SEQ_CNT_PAGE_LATE, F.SEQ_CNT_SKIPS, F.SEQ_CNT_ECC_CORR, F.SEQ_CNT2_RESTARTS, F.SEQ_CNT2_MSG_LOST, F.SEQ_CNT2_UQ_DROP]

/-- Fields of 13_firmware_mailboxes.md. -/
def flds13 : List Fld :=
  [F.MBX_AREA_DATA, F.MBX_DB_SEQ, F.MBX_DB_ACK, F.MBX_STAT_LAST_SEQ, F.MBX_STAT_RESP_SEQ, F.MBX_STAT_OWNER, F.MBX_STAT_REFUSED, F.MBX_STAT_WHY, F.MBX_ACL_MB0_FN, F.MBX_ACL_CTRL_FN, F.MBX_BOOT_STAGE, F.MBX_BOOT_LAST_ERR, F.MBX_BOOT_CUR_PATCH_VER, F.MBX_BOOT_KEK_GEN, F.MBX_DOCENT_VERSION, F.MBX_DOCENT_SVN, F.MBX_DOCENT_DIGEST, F.MBX_WDOG_KICK, F.MBX_WDOG_WD_MS, F.MBX_FW_STAT_DSTATE, F.MBX_FW_STAT_DOWN_CAUSE, F.MBX_FW_STAT_AUTO_LEFT, F.MBX_FW_STAT_DOWN_COUNT, F.MBX_FW_STAT_MSG_DISCARD, F.MBX_FW_STAT_UQ_DROP]

/-- Fields of 14_staged_commit.md. -/
def flds14 : List Fld :=
  [F.STG_SEL_SET, F.STG_SEL_EN, F.STG_CMD_OP, F.STG_APPLY_FRAME, F.STG_APPLY_NEXT, F.STG_STAT_STATE, F.STG_STAT_OWNER, F.STG_STAT_ENTRIES, F.STG_STAT_FULL, F.STG_STAT_LATE, F.STG_STAT_REASON, F.STG_RESULT_FAIL_OFS, F.STG_REFUSE_REFUSED, F.STG_REFUSE_WHY, F.STG_REFUSE_AGENT, F.STG_REFUSE_SET, F.STG_GSTAT_LAST_FRAME, F.STG_GSTAT_LAST_SET, F.STG_CNT_APPLIED, F.STG_CNT_LATE, F.STG_CNT_CHECK_FAIL, F.STG_CNT_CANCELLED]

/-- Fields of 15_vitrine.md. -/
def flds15 : List Fld :=
  [F.VIT_ID_VER, F.VIT_ID_KGEN, F.VIT_ID_TEST_LOCK, F.VIT_ID_DIGEST_DIGEST, F.VIT_SEAL_OPEN, F.VIT_SEAL_PRESENT, F.VIT_SEAL_REMAIN, F.VIT_SEAL_LAST_CAUSE, F.VIT_LOG_STAT_USED, F.VIT_LOG_STAT_FULL, F.VIT_LOG_STAT_OVF, F.VIT_LOG_STAT_NEXT_LSEQ, F.VIT_BUF_STAT_USED, F.VIT_BUF_STAT_GAP_OPEN, F.VIT_BUF_STAT_NEXT_SEQ, F.VIT_IVL_START, F.VIT_CFG_LEN, F.VIT_PULSE_CFG_PULSE_OCT, F.VIT_PULSE_CFG_SRC, F.VIT_PULSE_CFG_ACCT, F.VIT_PWR_LAST_CAUSE, F.VIT_PWR_NV_COPY, F.VIT_CNT_OBS_ERR, F.VIT_CNT_CTR_FAULT, F.VIT_TOT_LO_OCT_LO, F.VIT_TOT_HI_OCT_HI, F.VIT_TOT_FRM_FRM, F.VIT_BIND_DS_FTAG, F.VIT_BIND_DS_ACCT, F.VIT_BIND_DS_VALID, F.VIT_BIND_US_ACCT, F.VIT_BIND_US_VALID]

/-- Fields of 16_power.md. -/
def flds16 : List Fld :=
  [F.PWR_STATE_STATE, F.PWR_STATE_ENTERING, F.PWR_STATE_PREV, F.PWR_STATE_LAST_WAKE, F.PWR_STATE_CTL_REQ, F.PWR_STATE_CTL_REFUSED, F.PWR_STATE_CTL_WHY, F.PWR_DVFS_CTL_MANUAL, F.PWR_DVFS_CTL_FPOINT, F.PWR_DVFS_CTL_VPOINT, F.PWR_DVFS_CTL_PT_HIGH, F.PWR_DVFS_CTL_PT_FLOOR, F.PWR_DVFS_CTL_GOV_WIN, F.PWR_DVFS_CTL_REFUSED, F.PWR_DVFS_STAT_FPOINT, F.PWR_DVFS_STAT_VPOINT, F.PWR_DVFS_STAT_AVS_REQ, F.PWR_DVFS_STAT_AVS_ACK, F.PWR_DVFS_STAT_PENDING, F.PWR_DVFS_STAT_TRIM, F.PWR_DVFS_STAT_STEPS, F.PWR_AVS_CTL_EN, F.PWR_AVS_CTL_MARGIN_LO, F.PWR_AVS_CTL_MARGIN_HI, F.PWR_AVS_CTL_REFUSED, F.PWR_AVS_STAT_MIN_MARGIN, F.PWR_AVS_STAT_MIN_MON, F.PWR_AVS_STAT_AT_LIMIT, F.PWR_AVS_STAT_TIMEOUTS, F.PWR_GOV_STAT_NEED, F.PWR_GOV_STAT_TARGET, F.PWR_GOV_STAT_PATH, F.PWR_GOV_STAT_PEAK, F.PWR_REG_MODE, F.PWR_REG_STILL_REFCLK, F.PWR_REG_LOAD, F.PWR_REG_BO_AON, F.PWR_REG_BO_CORE, F.PWR_REG_LOAD_REFUSED, F.PWR_WATCH_CTL_HOST_OK, F.PWR_WATCH_CTL_DOCENT_REQ, F.PWR_WATCH_CTL_WLEAD, F.PWR_WATCH_STAT_PHASE, F.PWR_WATCH_STAT_CATCHUP, F.PWR_WATCH_STAT_SAMPLES, F.PWR_WATCH_STAT_MISSES, F.PWR_WAKE_CFG_EN, F.PWR_WAKE_CFG_LINK_PORTS, F.PWR_WAKE_CFG_TIMER, F.PWR_WAKE_STAT_CAUSES, F.PWR_WAKE_STAT_LAST, F.PWR_THERM_STAT_HOTTEST, F.PWR_THERM_STAT_SENSOR, F.PWR_THERM_STAT_SOFT, F.PWR_THERM_STAT_SHED, F.PWR_THERM_STAT_TRIP, F.PWR_THERM_STAT_FAULTED, F.PWR_HVOTE_VOTE, F.PWR_CVOTE_VOTE, F.PWR_GOV_PATH_LAST]

/-- Fields of 16_power.md. -/
def flds16a : List Fld :=
  [F.PWR_GOV_PATH_PEAK, F.PWR_THERM_SAMPLE, F.PWR_THERM_PEAK, F.PWR_THERM_FAULT, F.PWR_THERM_SAT, F.PWR_DOM_PSTATE, F.PWR_DOM_RET, F.PWR_DOM_VOTES, F.PWR_DOM_CNT_REFUSALS, F.PWR_DOM_CNT_REFUSER, F.PWR_DOM_CNT_ABORTS, F.PWR_DOM_CNT_ABORT_SRC]

/-- Fields of 17_twin.md. -/
def flds17 : List Fld :=
  [F.TWN_CTL_EN, F.TWN_CTL_PREFER, F.TWN_CTL_HB_TAKEOVER, F.TWN_CTL_SYNC_TAKEOVER, F.TWN_CTL_HOLD, F.TWN_CMD_OP, F.TWN_ROLE_ROLE, F.TWN_STAT_STATE, F.TWN_STAT_EFF_ROLE, F.TWN_STAT_SOURCE, F.TWN_STAT_PEER_VALID, F.TWN_STAT_PEER_ROLE, F.TWN_STAT_PEER_SYNC, F.TWN_STAT_PEER_TST, F.TWN_STAT_PEER_DOCENT, F.TWN_STAT_FO_ARMED, F.TWN_STAT_SWITCH_PHASE, F.TWN_STAT_LOCAL_REFUSED, F.TWN_STAT_LAST_FO, F.TWN_PEER_PEER_SFC, F.TWN_PEER_SN_SN, F.TWN_MIRROR_NEXT_MSEQ, F.TWN_MIRROR_PENDING, F.TWN_LINK_CFG_LANE_INV, F.TWN_LINK_CFG_CK_INV, F.TWN_LINK_STAT_SYMLOCK, F.TWN_LINK_STAT_ALIGNED, F.TWN_LINK_STAT_GOOD, F.TWN_LINK_STAT_BAD, F.TWN_CNT_BAD_HDR, F.TWN_CNT_ALIGN_LOSS, F.TWN_CNT_HB_MISS, F.TWN_CNT_FAILOVERS, F.TWN_CNT2_STBY_DROP, F.TWN_CNT2_BAD_BLOCK, F.TWN_CNT2_DISCARDED]

/-- Fields of 18_observability.md. -/
def flds18 : List Fld :=
  [F.OBS_CTL_CURATOR_VIS, F.OBS_CTL_UACC, F.OBS_CYCLE_CYCLE, F.OBS_PMC_RUN_RUN, F.OBS_PMC_CFG_EVENT, F.OBS_PMC_CFG_PRIV, F.OBS_PMC_CFG_FUNC, F.OBS_PMC_CFG_MASTER, F.OBS_PMC_CFG_CLASS, F.OBS_PMC_CFG_RANGE_EN, F.OBS_PMC_CFG_RANGE_INV, F.OBS_PMC_CFG_USER, F.OBS_PMC_LO_LO, F.OBS_PMC_HI_HI, F.OBS_PMC_CNT_COUNT, F.OBS_TRC_CFG_EN, F.OBS_TRC_CFG_N, F.OBS_TRC_CFG_PATHS, F.OBS_TRC_CFG_FUNC, F.OBS_TRC_CFG_LOG2SIZE, F.OBS_TRC_BASE_BASE, F.OBS_TRC_PI_IDX, F.OBS_TRC_CI_IDX, F.OBS_TRC_STAT_FULL, F.OBS_TRC_STAT_FAULT, F.OBS_TRC_STAT_CI_BAD, F.OBS_TRC_STAT_OPEN, F.OBS_TRC_STAT_MISSED, F.OBS_TRC_STAT_SEQ, F.OBS_TRC_SEED_SEED, F.OBS_BW_CFG_WM1, F.OBS_BW_CFG_EN, F.OBS_BW_STAT_END_SFC, F.OBS_BW_STAT_SHORT, F.OBS_BW_LAST_OCTETS, F.OBS_BW_PEAK_PEAK, F.OBS_SNAP_CMD_GROUP, F.OBS_SNAP_CMD_CLEAR, F.OBS_SNAP_CMD_GO, F.OBS_SNAP_STAT_VALID, F.OBS_SNAP_STAT_REFUSED, F.OBS_SNAP_STAT_GROUP, F.OBS_SNAP_BUF_DATA]

/-- Fields of 19_reset_faults.md. -/
def flds19 : List Fld :=
  [F.RST_CAUSE_POR_PIN, F.RST_CAUSE_AON_BO, F.RST_CAUSE_BLK_PIN, F.RST_CAUSE_CORE_BO, F.RST_CAUSE_CURATOR_ECC, F.RST_CAUSE_STILL_EXIT, F.RST_CAUSE_OFF_EXIT, F.RST_CAUSE_BLK_COUNT, F.RST_ECC_CNT_CORR, F.RST_ECC_CNT_UNCORR, F.RST_ECC_CNT_BUF_DROP, F.RST_ECC_LOG_ARRAY, F.RST_ECC_LOG_VALID, F.RST_ECC_LOG_MORE, F.RST_ECC_LOG_LOC, F.RST_REG_DROP_COUNT, F.RST_REG_DROP_LAST_OFS, F.RST_SCRUB_EN, F.RST_SCRUB_PASSES]

/-- Fields of 21_register_map.md. -/
def flds21 : List Fld :=
  [F.ID_BLOCK_PART, F.ID_BLOCK_REV_MAJOR, F.ID_BLOCK_REV_MINOR, F.ID_BLOCK_TASOR_REV, F.ID_BLOCK_SEQ_ROM, F.ID_BLOCK_VIT_VER, F.ID_FW_CUR_MINOR, F.ID_FW_CUR_MAJOR, F.ID_FW_CUR_PATCH, F.ID_FW_DOC_MINOR, F.ID_FW_DOC_MAJOR, F.ID_FW_DOC_RUN, F.ID_SCRATCH_DATA, F.ID_CAPS_FLOW_CTX, F.ID_CAPS_ALLOC_ENT, F.ID_CAPS_FTAGS, F.ID_CAPS_WQS, F.ID_CAPS_CQS, F.ID_CAPS_SLC_CH]

/-- Every field of the register map (R521). -/
def allFlds : List Fld :=
  flds01 ++ flds02 ++ flds03 ++ flds04 ++ flds04a ++ flds05 ++ flds06 ++ flds07 ++ flds07a ++ flds08 ++ flds09 ++ flds10 ++ flds11 ++ flds12 ++ flds13 ++ flds14 ++ flds15 ++ flds16 ++ flds16a ++ flds17 ++ flds18 ++ flds19 ++ flds21

end Sys2Proof.Machine
end

