-- ==== Sys2Proof/Machine/State.lean ====
section
/-! DEFINITION. The state of the block as plain data: the waiting commands, and the device with its register file and
the state behind it (INVENTORY.md, ## State), with its value right after reset. -/

namespace Sys2Proof.Machine

/-! The fabric (20, R501 to R507) and the register target (R508). -/

/-- One request of the block to the fabric with the attributes of R506. -/
structure FabReq where
  kind : FabKind
  write : Bool
  mstr : Nat
  func : Nat
  addr : Nat
  len : Nat
  data : List Byte
  deriving DecidableEq, Repr

structure FabPart where
  /-- requests without a final answer, oldest first (R504) -/
  out : List FabReq := []
  /-- requests waiting for one of the 64 tags of their initiator, oldest first (R507) -/
  queue : List FabReq := []
  /-- the master each initiator served last: read, then write (R507) -/
  lastRead : Nat := 5
  lastWrite : Nat := 5
  /-- the Sluice channel each initiator served last (R301) -/
  lastChRead : Nat := 15
  lastChWrite : Nat := 15
  /-- requests taken as FAULT under R505, or abandoned, whose late answer has not arrived, each with its bursts -/
  late : List (FabKind × Nat) := []
  /-- the last write of Docent that ended within its command: the octets of a STATS_SNAP (R275) -/
  docentOut : Option FabReq := none
  /-- the register target's last answer: its code and its data (R508, R509) -/
  tgtCode : Rsp := .done
  tgtData : Word := 0
  deriving DecidableEq, Repr


/-! Frames inside the block, with the sideband metadata of R19. -/

/-- A frame: its octets without FCS, where it entered (path 0 fibre, 1 lane A, 2 lane B, 3 host), the filter entry, port
or work queue it came from, its ingress time in 2^-16 ns, its accession stamp, the account the Vitrine's tap gave it, the
edit its action asked for, and the trace that follows it. -/
structure Frame where
  data : List Byte
  path : Nat := 0
  src : Nat := 0
  ts : Nat := 0
  /-- the received FCS of a user-port frame (R200) -/
  fcs : Nat := 0
  /-- class of a frame at ingress: the received outer priority, or the port's (R214, R472) -/
  cls : Nat := 0
  accession : Nat := 0
  acct : Option Nat := none
  /-- action bits [77:46] that the copy carries (R175, R176); 0 asks for nothing -/
  edit : Nat := 0
  /-- the action asked for the ingress timestamp (R180) -/
  wantTs : Bool := false
  /-- L3 and L4 checksum results: 0 NOT_CHECKED, 1 OK, 2 BAD (R181) -/
  l3Sum : Nat := 0
  l4Sum : Nat := 0
  /-- trace number + 1, or 0 (R476) -/
  trace : Nat := 0
  /-- for a SEND that waits for its egress timestamp: its place among the completions, plus one (R260) -/
  send : Nat := 0
  deriving DecidableEq, Repr

/-! The tick unit and the clocks (02). -/

structure ClkPart where
  /-- local superframe count, 51 bits (R38) -/
  sfc : Nat := 0
  /-- TICKs since reset; windows of ticks are counted in it (R30) -/
  ticks : Nat := 0
  /-- clocks declared stopped and not yet present again, bit c as CKX_CLKMON.PRESENT (R47) -/
  stopped : Nat := 0
  /-- the first TICK on the PLL has not yet come (R36) -/
  first : Bool := true
  /-- sync was acquired and the relock step has not yet been taken (R37); the reference instant of the frame that completed the
  acquisition, from the last TICK edge on, in 2^-16 ns -/
  relock : Bool := false
  relockRef : Int := 0
  /-- the reference instant of the sync block checked since the last TICK, from that TICK's edge (or from reset) on; the time from
  the reference instant of the last TICK's frame to that TICK's edge, both in 2^-16 ns (R30, R32) -/
  ref : Option Int := none
  refAgo : Int := 0
  /-- DS_DATA index at which the next frame's first sync bit is expected (R30) -/
  expPos : Nat := 0
  /-- the holdover timer (R33, R48): periods ended since it restarted, the start of its present period from the last TICK edge on (in
  2^-16 ns), and, while it counts CLK32K, whether the last period ended a cycle late -/
  hoN : Nat := 0
  hoAt : Int := 0
  hoSlip : Nat := 0
  /-- crossings whose handshake waits for both sides to leave reset, bit x, after the block's own reset in its midst (R54) -/
  xRestart : Nat := 0
  /-- US_WCLK stopped and no page has been loaded since it returned (R494) -/
  usBlocked : Bool := false
  deriving DecidableEq, Repr


/-! Downstream reception (03). -/

/-- How a codeword ended: decoded, uncorrectable after the cap, or skipped (R65, R67). -/
inductive CwSt where
  | decoded
  | uncorrectable
  | skipped
  deriving DecidableEq, Repr

/-- A codeword waiting for or held by a slice: its frame, its index k and its 18,432 descrambled bits, v(0) highest;
`cap` is the cap it began decoding with (R70). -/
structure CwIn where
  frame : Nat
  k : Nat
  word : BitVec 18432
  cap : Nat
  deriving DecidableEq, Repr

/-- An ended codeword with its 15,360 information bits. -/
structure CwOut where
  st : CwSt
  info : BitVec 15360
  deriving DecidableEq, Repr

/-- A frame in reception: its number, the codewords ended so far by index, HCW and PCW_USED once codeword 0 gave them,
whether the header has been judged and was valid, its SFC (the local count of the frame until a valid header gives it, R38), the
delineator's place (octet of the payload area), its LOCK, whether delineation of the frame has ended (R83), whether the frame's TICK
is still to come, and the key slots as of that TICK (R88); the index of the codeword that arrives next, and whether reception of the
frame was cut off there (R60, R62). -/
structure RxFrame where
  num : Nat
  cws : SMap CwOut := []
  hcw : Nat := 0
  pcw : Nat := 0
  judged : Bool := false
  valid : Bool := false
  sfc : Nat := 0
  pos : Nat := 0
  lock : Bool := true
  ended : Bool := false
  waits : Bool := false
  keys : List (Bool × Nat) := [(false, 0), (false, 0), (false, 0)]
  next : Nat := 0
  cut : Bool := false
  deriving DecidableEq, Repr

/-- A reassembly in progress for a filter entry, and the ticks since its last fragment (R90, R93). -/
structure Rsm where
  data : List Byte
  age : Nat
  deriving DecidableEq, Repr

structure DsPart where
  /-- the last 58 received codeword bits, the latest lowest (R63) -/
  descr : BitVec 58 := 0
  /-- what the check of this frame's sync block gave: its index when it matched (R32) -/
  frameOk : Bool := false
  syncPos : Nat := 0
  /-- the sync block of a frame has been checked, and that frame's TICK is still to come (R30, R88) -/
  ticking : Bool := false
  /-- number of the frame whose codewords arrive -/
  frameNum : Nat := 0
  /-- decoder input buffer, in arrival order, and the codewords that wait before it until codeword 0 of their frame has ended and it
  is known which are idle (R67) -/
  inBuf : List CwIn := []
  held : List CwIn := []
  /-- the codeword each slice holds (R66) -/
  slices : List (Option CwIn) := [none, none, none, none]
  /-- iteration counts (0 to 16, and 17 for uncorrectable) of each of the last 64 ticks, latest first (R69) -/
  window : List (List Nat) := []
  /-- HCW and PCW_USED of the last four frames, latest first (R73) -/
  loads : List (Nat × Nat) := []
  /-- frames in reception, oldest first -/
  frames : List RxFrame := []
  /-- grants of the last valid header, for the sequencer (R74, R98) -/
  grants : List Word := []
  /-- a header has been valid since reset, and TDS_HDR shows the latest -/
  hdrSeen : Bool := false
  /-- the header of this frame has been valid, and its grants are not yet filed (R98) -/
  hdrFresh : Bool := false
  /-- a header has been judged since the TICK (R41, R75) -/
  hdrJudged : Bool := false
  /-- messages waiting: for the sequencer, for Docent, and those to be discarded as unknown (R78, R79); each has two words more,
  the count of its frame and its place in the header -/
  seqMsgs : List Msg := []
  docentMsgs : List Msg := []
  unknown : List Msg := []
  /-- PD11 was powered at the last TICK, so the filter holds its configured tags (R24) -/
  filterOpen : Bool := false
  /-- reassemblies and poisoned entries, by filter entry (R90, R92) -/
  rsm : SMap Rsm := []
  poisoned : List Nat := []
  storeFullRaised : Bool := false
  /-- key slots 1 to 3 (R86), and their validity and content as of the TICK (R88) -/
  keys : List Nat := [0, 0, 0]
  /-- slot 3 has been loaded, and becomes valid at the TICK (R353) -/
  bcastDue : Bool := false
  keysNow : List (Bool × Nat) := [(false, 0), (false, 0), (false, 0)]
  /-- Docent's management buffer (R94) -/
  mgmt : List (List Byte) := []
  deriving DecidableEq, Repr



/-! Upstream bursts (04). -/

/-- An upstream message before it is sent (R141): UTYPE, MSEQ, USEQ, STATUS, SLOT and WKEY; the burst that carries it, once one is
assembled with it (R114); and the number of its push, by which two pushes of one message are told apart. -/
structure UpMsg where
  utype : Nat
  mseq : Nat
  useq : Nat
  status : Nat := 0
  slot : Nat := 0
  wkey : Nat := 0
  inBurst : Option Nat := none
  id : Nat := 0
  deriving DecidableEq, Repr

/-- One upstream profile (R106, TUS_PROF registers). -/
structure UsProf where
  guard : Nat
  preLen : Nat
  prePat : Nat
  delim : Nat
  deriving DecidableEq, Repr

/-- What a page latched at its TICK (R99): the count, EQD, RT_TRIM, GATE, the profile bank and PSEQ, KSEL, the discovery
delay, the pond state in force (R107, R235), the origin O(N) in 10 ps (R104); and whether PAGE_READY has come. -/
structure UsPage where
  sfc : Nat
  eqd : Nat
  gate : Nat
  prof : List UsProf
  pseq : Nat
  ksel : Nat
  dly : Nat
  low : Bool
  shed : Bool
  origin : Int
  ready : Bool := false
  deriving DecidableEq, Repr

/-- How far a burst has come. -/
inductive BurstSt where
  | waiting
  | assembled
  | onAir
  deriving DecidableEq, Repr

/-- A burst (R103, R106): its page and the table entries of its grants in START order, its first slot and its length in
slots, both bounds in 10 ps of line time, whether it is a discovery or ranging burst; once assembled, its information
stream and the frames and fragments in it (R119), and whether it may no longer be sent (R122); its header (R107). -/
structure Burst where
  id : Nat
  page : Nat
  grants : List Nat
  first : Nat
  slots : Nat
  start : Int
  stop : Int
  disc : Bool
  ranging : Bool
  fec : Bool
  prof : Nat
  st : BurstSt := .waiting
  stream : List Byte := []
  pieces : Nat := 0
  dead : Bool := false
  sleepReq : Bool := false
  hdr : Nat := 0
  deriving DecidableEq, Repr

structure UsPart where
  pages : SMap UsPage := []
  /-- the page that latched at the last TICK (R98, R99) -/
  page : Nat := 0
  /-- accepted bursts not yet sent, in order of their first slots -/
  bursts : List Burst := []
  nextId : Nat := 0
  /-- T_ref of the present frame, in 10 ps (R104), and the phase of the US_DATA words to it: a free value of each sync (R105) -/
  lineRef : Int := 0
  phase : Nat := 0
  /-- end of the last burst of each earlier page that has been sent (R102 check 4) -/
  lastEnd : Option Int := none
  /-- TX_FAULT has been asserted since the previous burst (R107) -/
  txf : Bool := false
  /-- the present frame began with a HOLDOVER tick (R39) -/
  holdover : Bool := true
  /-- GRANT_DISCARD has been raised since the TICK (R102) -/
  discardRaised : Bool := false
  /-- TX_DARK raised in this burst, TX_ROGUE in this gap (R125) -/
  darkRaised : Bool := false
  rogueRaised : Bool := false
  /-- the rogue condition, the PHY_SLEEP it holds, and FAULT_CLR written meanwhile (R125) -/
  rogueCond : Bool := false
  rogueHold : Bool := false
  rogueClr : Bool := false
  /-- the automatic cause of PHY_SLEEP (R126) -/
  autoSleep : Bool := false
  /-- a burst's TX_EN rise is due within PHY_WAKE: PHY_SLEEP is low whatever asks for it (R126) -/
  phyHold : Bool := false
  /-- upstream message queues of the sequencer (32) and of Docent (16) (R114) -/
  seqUq : List UpMsg := []
  docUq : List UpMsg := []
  /-- pushes into the two queues so far -/
  pushes : Nat := 0
  /-- USEQ of the next message (R141); DESIGN CHOICE: the first after reset is 0 (log entry 29) -/
  useq : Nat := 0
  /-- bits of the burst on US_DATA from its first preamble bit, first transmitted first (R106) -/
  line : List Bool := []
  deriving DecidableEq, Repr



/-! Registration, ranging and time (05). -/

/-- The last message of a TYPE that was processed (R137): its MSEQ, the response (none, or its UTYPE and STATUS), and the
tick of it. -/
structure LastMsg where
  mseq : Nat
  resp : Option UpMsg
  tick : Nat
  deriving DecidableEq, Repr

/-- A profile set being collected, or complete and not yet armed (R143): PSEQ, words by index 0 to 3 as staged (CFG, DLM_HI,
DLM_LO), APPLY_SFC and MSEQ of the completing message, the tick it was completed at. -/
structure ProfSet where
  pseq : Nat
  got : SMap (Nat × Nat × Nat) := []
  applySfc : Nat := 0
  mseq : Nat := 0
  sfc : Nat := 0
  tick : Nat := 0
  deriving DecidableEq, Repr

/-- A KEY_REPORT not yet acknowledged (R146): the message, repeats left, the tick it was last sent at. -/
structure KeyReport where
  msg : UpMsg
  left : Nat
  tick : Nat
  deriving DecidableEq, Repr

structure TermPart where
  /-- the time counter at the last TICK, in 2^-16 ns (R149) -/
  time : Nat := 0
  /-- SYNC_LOST, SYNC_ACQUIRED, and ACTIVATE written 0, since the last TICK (R129) -/
  syncLost : Bool := false
  syncGot : Bool := false
  activateOff : Bool := false
  /-- the command of TST_CMD waiting for the TICK, with its TID (R134), and the frame and place of the message it answers (R133) -/
  cmd : Option (Nat × Nat × Option (Nat × Nat)) := none
  /-- the discovery generator (R142, R530) and DSPREAD -/
  lfsr : Nat := 1
  dspread : Nat := 0
  /-- last processed message per TYPE (R137) -/
  last : SMap LastMsg := []
  /-- the profile set being collected, the complete ones waiting to be armed, oldest first, and PSEQ of the last one that became
  complete (R143) -/
  collect : Option ProfSet := none
  complete : List ProfSet := []
  full : Option Nat := none
  /-- KEY_REPORTs awaiting their ACK (R146) -/
  reports : List KeyReport := []
  /-- headers after the applied switch frame are compared with the new KSEQ: the switch frame, those in a row that differ (R148) -/
  kseqWatch : Bool := false
  kseqSfc : Nat := 0
  kseqRun : Nat := 0
  /-- a step waiting for the TICK, and whether TIME_OF_DAY asked for it (R150, R151) -/
  step : Option (Int × Bool) := none
  /-- offset of a slew in progress, and the ticks it has run (R150) -/
  slew : Option (Int × Nat) := none
  /-- the counter as latched by a read of TST_TIME_LO (R152) -/
  latched : Nat := 0
  /-- the seconds that have had their PPS_OUT pulse, as ranges, first and last; the end of the pulse in progress from the last TICK edge
  on, in 2^-16 ns (R153); and the last stamped edge of PPS_IN (R154) -/
  ppsDone : List (Nat × Nat) := []
  ppsEnd : Option Int := none
  ppsIn : Option Nat := none
  /-- a burst with SLEEP_REQ = 1 has ended normally (R157) -/
  sleepSent : Bool := false
  deriving DecidableEq, Repr


/-! Classification and forwarding (06). -/

/-- A frame between the parser and its action (R159, R175): the action found for it (0 drops), whether the action has been
resolved, and whether it was dropped by a lost table slot (R492). -/
structure Flight where
  frame : Frame
  act : Nat
  resolved : Bool
  lost : Bool
  deriving DecidableEq, Repr

structure ClsPart where
  /-- entry FIFOs of the fibre path, lane A and lane B, oldest first (R21) -/
  fifo : List (List Frame) := [[], [], []]
  /-- frames whose first beat has entered the parser, per pipeline, oldest first -/
  flights : List (List Flight) := [[], [], []]
  /-- table slots of 256 bits: bank b, bucket k, position i at 65,536b + 8k + i, stash index s at 262,144 + s (R169) -/
  slots : SMap Nat := []
  /-- TOKENS and the tick of the last update, per policer (R178) -/
  tokens : SMap (Nat × Nat) := []
  /-- what INIT clears: bit b for bank b, bit 4 for the stash (R183) -/
  initMask : Nat := 31
  /-- the INIT after PORST_n or BLKRST_n, which waits for all four banks, is still to end (R183) -/
  boot : Bool := true
  /-- the cycle count at which the update engine's operation began (R189) -/
  updAt : Nat := 0
  /-- the bucket the scrubber reads next (R492) -/
  scrub : Nat := 0
  deriving DecidableEq, Repr


/-! User ports (07). -/

/-- What a port last sent: octets 6 and 7 of its START lane, the octets up to and with FCS or mCRC, the gap before it, and
whether it was ended with an ERROR lane (R194, R207, R491); and the words on UPn_TXD and UPn_TXC, cycle by cycle, each held until
UPn_TXRDY is high, as pairs of data and codes (R193). -/
structure PortTx where
  smd : Nat
  octets : List Byte
  gap : Nat
  bad : Bool
  words : List (Nat × Nat)
  deriving DecidableEq, Repr

/-- A preempted frame: its octets with FCS, the octets sent, its x, the count of its next continuation, its class, and the
frame it was (R207, R208). -/
structure Held where
  octets : List Byte
  done : Nat
  x : Nat
  cnt : Nat
  cls : Nat
  frame : Frame
  deriving DecidableEq, Repr

/-- A reassembly of preemptable mPackets: x, the count expected next, the octets so far, the ingress time of the first (R210, R221), and
whether O stood at LOSSY_THR as it started and the entry FIFO has been full for it (R196, R214). -/
structure Asm where
  x : Nat
  cnt : Nat
  octets : List Byte
  ts : Nat
  high : Bool := false
  full : Bool := false
  deriving DecidableEq, Repr

/-- What is being received: octets 6 and 7 of its START lane, its octets so far, the ingress time of the first, whether a code spoilt it,
and the marks of `Asm` (R194, R196, R197, R214, R221). -/
structure RxNow where
  smd : Nat
  octets : List Byte := []
  ts : Nat := 0
  bad : Bool := false
  high : Bool := false
  full : Bool := false
  deriving DecidableEq, Repr

/-- A port: the level of UPn_LINK, the quanta last loaded per class, the x of the next preemptable frame, the preempted
frame, the reassembly, CREDIT of R202, octets of the last frame modulo 8, and what was sent last; what is being received; the lanes already
driven of the transmit word in progress, as codes and contents (R194); whether O has reached XOFF_THR and no XOFF has answered it (R213); and
the tick of the last verify mPacket (R211). -/
structure PortPart where
  rx : Option RxNow := none
  part : List (Nat × Nat) := []
  xoffDue : Bool := false
  vTick : Nat := 0
  link : Bool := false
  quanta : List Nat := [0, 0, 0, 0, 0, 0, 0, 0]
  x : Nat := 0
  held : Option Held := none
  asm : Option Asm := none
  credit : Nat := 0
  tail : Nat := 0
  sent : Option PortTx := none
  deriving DecidableEq, Repr

structure UpmPart where
  ports : SMap PortPart := []
  deriving DecidableEq, Repr


/-! Flow contexts, spill pools, egress classes (08). -/

/-- A record in host memory: its frame, its number within the context, its pool, segment and place in it, and whether its write was
answered DONE (R229). -/
structure SpillRec where
  frame : Frame
  num : Nat
  pool : Nat
  seg : Nat
  ofs : Nat
  written : Bool
  deriving DecidableEq, Repr

/-- The remainder of a frame: octets placed so far, and the entry on which it began (R116, R226). -/
structure Remainder where
  frame : Frame
  done : Nat
  entry : Nat
  deriving DecidableEq, Repr

/-- A flow context: frames in the packet buffer and in host memory, oldest first; the record being fetched, and whether a
flush has caught it; whether fetching goes on (R231); the writes without an answer, by number, with their pool; the current segment and the
octets used in it; TOKENS, and OVH and SHP_EN as the last refill took
them (R228); the deficit (R234). -/
structure FlowCtx where
  frames : List Frame := []
  rem : Option Remainder := none
  spilled : List SpillRec := []
  fetch : Option (SpillRec × Bool) := none
  fetching : Bool := false
  writes : SMap Nat := []
  nextRec : Nat := 0
  seg : Option (Nat × Nat) := none
  tokens : Int := 0
  ovh : Int := 0
  shp : Bool := false
  deficit : Int := 0
  deriving DecidableEq, Repr

/-- A pool's segments: records in each used one, the free stack, and the first never used (R229). -/
structure Pool where
  uses : SMap Nat := []
  stack : List Nat := []
  fresh : Nat := 0
  deriving DecidableEq, Repr

/-- An egress class: its frames, oldest first, and its deficit (R242, R243). -/
structure EgrQ where
  frames : List Frame := []
  deficit : Int := 0
  deriving DecidableEq, Repr

structure QscPart where
  ctx : SMap FlowCtx := []
  pools : SMap Pool := []
  /-- the tick at which an entry's backlog last became non-zero (R235) -/
  since : SMap Nat := []
  /-- round pointer of an entry and priority, at 8e + p (R234): 0 before it first moves, else 2(c + 1) where context c was its last
  stop, one more while it has not moved on from c -/
  ptr : SMap Nat := []
  /-- egress class i of port n at 8n + i; round pointers likewise, at 2n for express, 2n + 1 for preemptable classes (R243) -/
  egr : SMap EgrQ := []
  egrPtr : SMap Nat := []
  /-- the context a flush is working on (R226) -/
  flushing : Option Nat := none
  deriving DecidableEq, Repr


/-! Host rings (09). -/

/-- A work entry in processing: its index and words; whether its completion place is in the store; octets read so far
and data reads unanswered; the status once known; LEN, and word 2 of its completion; the identifier under which its frame
reports its egress timestamp, and its trace number + 1 (R254, R260, R476). -/
structure Work where
  idx : Nat
  words : List Word
  stored : Bool
  data : List Byte := []
  reads : Nat := 0
  fail : Nat := 0
  status : Option Nat := none
  nent : Nat := 1
  len : Nat := 0
  word1 : Nat := 0
  word2 : Nat := 0
  send : Nat := 0
  trace : Nat := 0
  deriving DecidableEq, Repr

/-- A work queue beside HRG_WQ_STAT: its ring and header, QLIM, prefetched untaken entries in index order from HEAD; of an RX queue, the
octets of each scanned entry beyond them, 0 for one that R259 refuses (R264); the entry being fetched and whether an INV doorbell caught it,
and whether it is one that the scan has passed; entries in processing in index order, the index last written to the header. -/
structure WqCtx where
  base : Nat
  hdr : Nat
  qlim : Nat
  cache : List (List Word) := []
  past : List Nat := []
  fetch : Option Bool := none
  again : Bool := false
  work : List Work := []
  hdrIdx : Nat := 0
  deriving DecidableEq, Repr

/-- A completion issued and not yet passed by DEV_IDX: its octets, and whether it was answered DONE (R248). -/
structure CqFly where
  idx : Nat
  data : List Byte
  landed : Bool
  deriving DecidableEq, Repr

/-- A frame being written to host memory (R264): its RX queue and the place of its completion; its completion, and the index of its first
entry once that is taken; the octets not yet written; the entries taken whose writes are unanswered, with their number; the entries taken in
all; and whether a write failed. -/
structure RxJob where
  frame : Frame
  wq : Nat
  stored : Bool
  comp : Work
  first : Option Nat := none
  data : List Byte
  held : List (Nat × Nat) := []
  nent : Nat := 0
  bad : Bool := false
  deriving DecidableEq, Repr

/-- A completion queue beside HRG_CQ_STAT: its ring and header; places reserved in the ring and in the store (R266);
completions held in the store, oldest first; the index of the next completion to issue; issued ones; re-reads to come before NOTIFY is
judged after an ARM doorbell (R265); the index last written to the header; the receive wait queue (R263) and the frame leaving it. -/
structure CqCtx where
  base : Nat
  hdr : Nat
  res : Nat := 0
  sres : Nat := 0
  stored : List (List Byte) := []
  next : Nat := 0
  fly : List CqFly := []
  arming : Nat := 0
  hdrIdx : Nat := 0
  wait : List Frame := []
  job : Option RxJob := none
  deriving DecidableEq, Repr

/-- An admin command that has been taken and waits (R274, R525): its index and cookie; the accession that ACC_COMMIT awaits, or
the record of a TABLE_WRITE or TABLE_DELETE, and whether it could be read; a DESTROY_CQ, and the ERR of its end. -/
inductive AdminHold where
  | commit (idx cookie acc : Nat)
  | table (del : Bool) (idx cookie : Nat) (record : List Word) (ok : Bool)
  | destroyCq (idx cookie : Nat) (err : Option Nat)
  deriving DecidableEq, Repr

/-- The admin pair of a function (R273): bases, headers and sizes; tail and DEV_IDX; producer index, accepted HOST_IDX;
ARMED and NOTIFY; the indices last written to the two headers; whether a completion is being written; the command that
waits. -/
structure AdminPair where
  wqBase : Nat
  wqHdr : Nat
  wqLog : Nat
  cqBase : Nat
  cqHdr : Nat
  cqLog : Nat
  tail : Nat := 0
  head : Nat := 0
  pi : Nat := 0
  hostIdx : Nat := 0
  armed : Bool := false
  notify : Bool := false
  wqSent : Nat := 0
  cqSent : Nat := 0
  busy : Bool := false
  hold : Option AdminHold := none
  deriving DecidableEq, Repr

/-- A destroy under way, while HRG_QCTX_CMD.BUSY is 1 (R271): of a work queue or not, its number, the re-reads of HOST_IDX up to and with its
own, and whether that was answered DONE. -/
structure QctxJob where
  wq : Bool
  q : Nat
  reads : Nat
  ok : Bool := true
  deriving DecidableEq, Repr

structure HrgPart where
  wq : SMap WqCtx := []
  cq : SMap CqCtx := []
  admin : SMap AdminPair := []
  /-- identifiers given to SENDs that wait for an egress timestamp -/
  sends : Nat := 0
  /-- the function whose admin queue Docent served last (R274) -/
  turn : Nat := 3
  /-- the destroy under way (R271) -/
  destroy : Option QctxJob := none
  deriving DecidableEq, Repr


/-! Sluice (10). -/

/-- A read burst that has been answered: position, length, destination, the octets, and its first failing beat with the answer. -/
structure SlcGot where
  pos : Nat
  len : Nat
  dst : Nat
  data : List Byte
  bad : Option (Nat × Rsp)
  deriving DecidableEq, Repr

/-- An instruction or descriptor in progress (R284): its index and words, the octet position its next block begins at, reads
without a final answer as (burst, position, length, destination), table entries still to be read, writes without an
answer as (burst, position, length), reads answered whose writes wait for those before them (R284), octets written, the write-back a descriptor has reached (0 none, 1 word 3, 2 word
0, 3 done; R299), whether it is a WAIT not yet satisfied, and the position and code of its failure. -/
structure SlcIns where
  idx : Nat
  w0 : Nat
  w1 : Nat
  w2 : Nat := 0
  src : Int := 0
  dst : Int := 0
  pos : Nat := 0
  reads : List (Nat × Nat × Nat × Nat) := []
  tblRead : Option Nat := none
  tblNext : Nat := 0
  tblLeft : Nat := 0
  writes : List (Nat × Nat × Nat) := []
  got : List SlcGot := []
  written : Nat := 0
  back : Nat := 0
  hold : Bool := false
  fail : Option (Nat × Nat) := none
  deriving DecidableEq, Repr

/-- A channel: state code (R278), TMO, ERR, OCTETS, IDX and LATER of its status word (R297); the index of the next instruction,
the words held ahead of it, the fetch under way and a failed fetch; instructions in progress; the loop offsets (R292);
a STOP or a pause that waits for retirement; the source state a WAIT awaits and whether it has been seen. -/
structure SlcCh where
  state : Nat := 0
  tmo : Bool := false
  err : Nat := 0
  octets : Nat := 0
  idx : Nat := 0
  later : Bool := false
  next : Nat := 0
  ahead : List (List Nat) := []
  fetch : Option Nat := none
  fetchBad : Bool := false
  prog : List SlcIns := []
  soff : Int := 0
  doff : Int := 0
  pausing : Bool := false
  awaits : Option (Nat × Bool) := none
  hit : Bool := false
  burst : Nat := 0
  deriving DecidableEq, Repr

structure SlcPart where
  chans : SMap SlcCh := []
  deriving DecidableEq, Repr


/-! Event sources and queues (11). -/

/-- A captured record before its issue (R305, R307, R309); `cyc` is the whole cycle counter, `merges` the captures
merged into it. -/
structure EvRec where
  src : Nat
  sense : Nat
  state : Bool
  mrg : Bool
  sfc : Nat
  cyc : Nat
  merges : Nat
  deriving DecidableEq, Repr

/-- The place of an issued record: its write is under way, was answered DONE, or failed and is pending again (R316). -/
inductive EvSt where
  | flying
  | landed
  | returned
  deriving DecidableEq, Repr

/-- A record bound to its queue, index and SEQ (R314). -/
structure EvIssue where
  q : Nat
  idx : Nat
  seq : Nat
  record : EvRec
  st : EvSt
  deriving DecidableEq, Repr

structure EvqPart where
  /-- records pending at their sources, in order of capture -/
  pend : List EvRec := []
  /-- records issued and not yet passed by PI, in index order per queue -/
  issued : List EvIssue := []
  /-- records whose write is under way and whose queue has been disabled and enabled again, which ended their binding (R316) -/
  loose : List EvIssue := []
  deriving DecidableEq, Repr


/-! The frame sequencer (12). -/

/-- A routine of the sequencer in progress: the address it returns to, its entry, and whether it has committed (R331). -/
structure SeqCall where
  ret : Nat
  entry : Nat
  committed : Bool := false
  deriving DecidableEq, Repr

/-- An entry of the post buffer (R330): a block register and the value to write there, or an assist command with the register and the latch
at hand. -/
inductive SeqPost where
  | write (off val : Nat)
  | assist (code off val : Nat)
  deriving DecidableEq, Repr

structure SeqPart where
  /-- words of the patch RAM with their two SECDED codes: 144 + 16 bits each (R327) -/
  patch : SMap Nat := []
  /-- consecutive failed frames, and whether the present one has failed (R326) -/
  fails : Nat := 0
  failed : Bool := false
  /-- what ROM stretches known by their duty alone have left in G0 to G63, the carry, the latch and the scratch RAM (R330): none while no
  such stretch has run, else the number of the first of the free values that stand for them -/
  left : Option Nat := none
  /-- what microwords have written since: registers, scratch words, the carry and the latch -/
  regs : SMap Nat := []
  scratch : SMap Nat := []
  carry : Option Bool := none
  latch : Option Nat := none
  /-- the next address; the routines in progress, innermost first, the routine from 0000h last; the post buffer -/
  pc : Nat := 0
  stack : List SeqCall := []
  post : List SeqPost := []
  /-- cycles the grant filer still works, once started (R330) -/
  filer : Option Nat := none
  /-- the budget counter, and the cycles charged to each duty (R320, R323) -/
  cycles : Nat := 0
  duties : List Nat := [0, 0, 0, 0, 0]
  /-- times each routine has been abandoned in this frame, by entry (R332), and a fault that waits for a committed routine's return -/
  aband : SMap Nat := []
  deferred : Bool := false
  deriving DecidableEq, Repr



/-! Firmware (13). -/

/-- An image load under way (R339, R350): the image TYPE, address and octets, the apply frame of a sequencer patch, whether it is an
automatic restart, and whether the fetch has started. -/
structure ImgLoad where
  type : Nat
  addr : Nat
  len : Nat
  frame : Nat := 0
  auto : Bool := false
  begun : Bool := false
  deriving DecidableEq, Repr

/-- SVN of an image that runs or is enabled, by TYPE and KEYID (R350). -/
structure ImgRun where
  type : Nat
  keyid : Nat
  svn : Nat
  deriving DecidableEq, Repr

structure FwPart where
  /-- notices queued behind the posted one: type and body words; those lost; NOTICE_MASK (R347, R352) -/
  notices : List (Nat × List Word) := []
  lost : Nat := 0
  mask : Nat := 0xFFFF
  /-- the present KEK, none for the initial one; unicast keys drawn (R146, R353) -/
  kek : Option Nat := none
  draws : Nat := 0
  /-- MSG_DISCARD has been raised since the TICK -/
  discardRaised : Bool := false
  /-- the image load under way; the checked Docent image that has not started -/
  load : Option ImgLoad := none
  accepted : Bool := false
  /-- images that run or are enabled, and the rollback floors by 4·TYPE + KEYID with the times each was raised (R336, R350) -/
  runs : List ImgRun := []
  floors : SMap (Nat × Nat) := []
  /-- a Curator patch was accepted in this boot; its integration record; a DOCENT_LOAD has been taken (R27, R341, R343) -/
  patched : Bool := false
  integ : Nat := 0
  loaded : Bool := false
  /-- the last DOCENT_LOAD: address, octets, AUTO (R356) -/
  docAddr : Nat := 0
  docLen : Nat := 0
  auto : Bool := false
  /-- DIGEST of the Docent image, and the body last fetched into Docent's RAM (R339) -/
  digest : Nat := 0
  docRam : List Byte := []
  /-- the wrapped key that the last KEY_NEW service returned to Docent (R353) -/
  wrapped : Nat := 0
  /-- Docent has been declared down or has halted, and has not run since; an automatic restart is due; the present start
  followed one (R355, R356) -/
  down : Bool := false
  restartDue : Bool := false
  restarted : Bool := false
  /-- ticks of the last kick and of the last DOCENT_READY (R354, R356) -/
  kickTick : Nat := 0
  readyTick : Nat := 0
  deriving DecidableEq, Repr


/-! Staged changes (14). -/

/-- One staged register write: which bits of the register it holds, and their values in place. -/
structure StgVal where
  mask : Nat
  val : Nat
  deriving DecidableEq, Repr

structure StgPart where
  /-- the content of each set by register offset -/
  sets : List (SMap StgVal) := [[], [], [], []]
  /-- each agent's own copy of STG_SEL (R361), by the agent's code -/
  sel : SMap Nat := []
  /-- an assist write of the sequencer held while set 3 is APPLYING (R362): its content and apply frame -/
  held : Option (SMap StgVal × Nat) := none
  /-- apply frame of the most recent applied profile change (R364 rule 08h) -/
  profFrame : Option Nat := none
  /-- the cycle count at the last apply (R367, R370) -/
  applyAt : Nat := 0
  deriving DecidableEq, Repr


/-! The Vitrine (15). -/

/-- Counter pairs of an account: octets and frames downstream and upstream, and FAULTED (R376, R380, R381). -/
structure VitAcct where
  dsOct : Nat := 0
  dsFrm : Nat := 0
  usOct : Nat := 0
  usFrm : Nat := 0
  faulted : Bool := false
  deriving DecidableEq, Repr

/-- A sealed change waiting for the next TICK (R382). -/
inductive SeChange where
  | bindDs (slot ftag acct : Nat) (valid : Bool)
  | bindUs (ctx acct : Nat) (valid : Bool)
  | setInterval (len : Nat)
  | setPulse (src acct oct : Nat)
  deriving DecidableEq, Repr

/-- The open interval: its start and the flags it has gathered (R388, R391). -/
structure VitIvl where
  start : Nat := 0
  /-- a start must be taken from the next TICK (after a restore without an open interval) -/
  fresh : Bool := true
  jump : Bool := false
  power : Bool := false
  fault : Bool := false
  sealedChange : Bool := false
  holdover : Bool := false
  /-- observations that failed parity in it (R374) -/
  errs : Nat := 0
  deriving DecidableEq, Repr

/-- A checkpoint (R401). -/
structure VitCk where
  accts : SMap VitAcct
  totals : List (Nat × Nat)
  ticks : Nat
  sfc : Nat
  ivl : VitIvl
  pulseAcc : Nat
  pulseOwed : Nat
  off : Bool
  deriving DecidableEq, Repr

/-- A buffer record: its SEQ, whether it is a gap record, and its 48 words (R390 to R392). -/
structure VitRec where
  seq : Nat
  gap : Bool
  words : List Word
  deriving DecidableEq, Repr

structure VitPart where
  accts : SMap VitAcct := []
  /-- octets and frames of the eight totals (R380) -/
  totals : List (Nat × Nat) := [(0, 0), (0, 0), (0, 0), (0, 0), (0, 0), (0, 0), (0, 0), (0, 0)]
  ticks : Nat := 0
  /-- the last tick observation: count, ideal instant in 2^-16 ns, VALID; and whether there was one (R372) -/
  obsSfc : Nat := 0
  obsIdeal : Nat := 0
  obsValid : Bool := false
  obsSeen : Bool := false
  ivl : VitIvl := {}
  snapshot : Option (Nat × SMap VitAcct) := none
  /-- the record latched at a boundary and not yet signed; `true` when it replaces the open gap record (R389, R390) -/
  waiting : Option (Bool × VitRec) := none
  buffer : List VitRec := []
  gapOpen : Bool := false
  nmerged : Nat := 0
  nextSeq : Nat := 0
  readSeq : Nat := 0
  /-- the log: entries of six words, oldest first (R396) -/
  log : List (List Word) := []
  lseq : Nat := 0
  chain : Nat := 0
  ovf : Nat := 0
  /-- device keys made so far, and the one records are signed with (R395) -/
  keyNo : Nat := 0
  signKey : Nat := 0
  /-- the seal: PRESENCE_n must be counted high before it reopens; ticks of the window; class C commands accepted -/
  mustRelease : Bool := false
  sealTicks : Nat := 0
  sealCmds : Nat := 0
  pending : List SeChange := []
  pulseAcc : Nat := 0
  pulseOwed : Nat := 0
  aonCk : Option VitCk := none
  nv : List (Option VitCk) := [none, none]
  nvNewest : Nat := 1
  /-- PD32 lost its live state and has not yet restored (R401) -/
  lost : Bool := false
  /-- rails already logged this tick (R397) -/
  boLogged : List Nat := []
  deriving DecidableEq, Repr


/-! Power, supplies and low-power states (16). -/

/-- How far an entry to Still or Off has come (R428, R429). -/
inductive EntrySt where
  | none
  | holds (target : Nat)
  | dropping (target : Nat)
  | awaitAvs (target : Nat)
  deriving DecidableEq, Repr

structure PwrPart where
  /-- vote masks, bit d for PDd (R414); Curator's and the host's stand in PWR_CVOTE and PWR_HVOTE -/
  docentVotes : Nat := 0
  twinVotes : Nat := 0
  watchVotes : Nat := 0
  /-- Curator's votes for image fetches on PD31 (R415) -/
  imageVote : Bool := false
  /-- Curator's held votes on PD01 and PD32 (R414) -/
  held : Bool := true
  /-- the Vitrine's vote on PD32 (R401) -/
  vitVote : Bool := true
  /-- the power-up of the keep-alive set after a reset is still under way (R489) -/
  startup : Bool := true
  /-- doorbells held while PD27 is unpowered: function and doorbell number, then the write (R414) -/
  heldDb : List (Nat × Nat × RegWr) := []
  /-- the entry to Still or Off under way -/
  entry : EntrySt := .none
  /-- wakes latched during an entry, lowest code (R427) -/
  latched : Option Nat := none
  /-- voltage point acknowledged (R409) and the code last acknowledged -/
  ackPoint : Nat := 4
  ackCode : Nat := 9
  /-- AVS_ACK awaited (R411) -/
  avsWait : Bool := false
  /-- AVS_LIMIT lowers the frequency point to this one in the next guard (R410) -/
  fTarget : Option Nat := none
  /-- ticks for which the governor raises no further (R410) -/
  avsHold : Nat := 0
  /-- ticks below T_HARD counted toward the end of SHED (R434) -/
  shedCool : Nat := 0
  /-- beats of the seven paths since the TICK, and the beats of the last ticks, newest first (R412) -/
  beats : List Nat := [0, 0, 0, 0, 0, 0, 0]
  beatWin : List (List Nat) := []
  /-- activity events of the sixteen kinds since the last TICK, and domains powered at any time since it, bit d (R237) -/
  acts : List Nat := [0, 0, 0, 0, 0, 0, 0, 0, 0, 0, 0, 0, 0, 0, 0, 0]
  seen : Nat := 0
  /-- in Watch or its entry: local count of the sampled frame being worked; none while the front is held for one to come (R423) -/
  sample : Option Nat := none
  /-- the pond state computed at the last advance, in force from the next TICK (R239) -/
  pondNext : Nat := 0
  /-- sensors without a sample since PWR_THERM was read, bit i (R433) -/
  peakFresh : Nat := 63
  /-- domains powered when the entry to Watch, Still or Off was accepted, bit d (R427) -/
  entryMask : Nat := 0
  /-- BROWNOUT_CORE waits for stage 2 of the start-up (R407) -/
  boPending : Bool := false
  /-- ticks, AON ticks or seconds toward the wake timer (R426 code 7h) -/
  timer : Nat := 0
  /-- the AON time of day, in 2^-16 ns (R430, R431) -/
  coarse : Nat := 0
  /-- a brown-out keeps the regulator in NORMAL until the next entry (R407) -/
  keepNormal : Bool := false
  /-- what leads out of Still or Off is under way (R431) -/
  exiting : Bool := false
  /-- domains for which a hold of the scheduler stands refused, bit d (R415) -/
  schedNo : Nat := 0
  /-- once per tick: REG_DROPPED and ECC_CORR already raised (R495, R490) -/
  dropRaised : Bool := false
  eccRaised : Bool := false
  deriving DecidableEq, Repr



/-! The twin unit (17). -/

/-- A mirror record without its MSEQ (R452). -/
inductive Mir where
  | reg (off val : Nat)
  | tableOp (cmd dst : Nat) (data : List Nat)
  | commit (acc : Nat)
  | bucket (bank idx : Nat) (slots : List Nat)
  | stash (idx : Nat) (slots : List Nat)
  | changeEnd
  | bulkEnd
  | swap
  | accession (acc : Nat)
  deriving DecidableEq, Repr

/-- A block on the link (R440, R443): a lock block, or the octets of a framed one. -/
inductive TlBlk where
  | lock
  | framed (octets : List Byte)
  deriving DecidableEq, Repr

structure TwnPart where
  /-- mirror records of the source not yet sent, oldest first (R453); the place of the bulk copy under way (R455); MSEQ of its
  BULK_END once sent; the octets left of the record being sent (R452) -/
  send : List Mir := []
  bulk : Option Nat := none
  bulkEndSeq : Option Nat := none
  txRec : List Byte := []
  /-- BSEQ of the next block, and the block sent last (R440) -/
  bseq : Nat := 0
  sent : Option TlBlk := none
  /-- lock blocks in a row found by each receive lane (R443); the BSEQ expected of the next header (R442) -/
  lockRun : List Nat := [0, 0, 0, 0, 0, 0, 0, 0]
  rxNext : Option Nat := none
  /-- ALIVE and ACK received, and ACK sent (R443) -/
  sawAlive : Bool := false
  sawAck : Bool := false
  sentAck : Bool := false
  /-- the octets received of an unfinished record; records received and not yet applied, with their MSEQ (R453) -/
  rxRec : List Byte := []
  recv : List (Nat × Mir) := []
  /-- MSEQ of the last record applied (R450); a mirror error has come since the last ACCESSION (R453) -/
  mack : Nat := 0
  redo : Bool := false
  /-- the content of a valid heartbeat not yet taken, and the pairing state the peer last showed (R450) -/
  hb : Option (List Word) := none
  /-- block times of the transmit word clock since the last valid heartbeat, sixteen to a heartbeat period (R457) -/
  hbBlocks : Nat := 0
  peerState : Nat := 0
  /-- a takeover (R458) or a yield (R459) awaits the TICK -/
  detected : Bool := false
  yields : Bool := false
  /-- MB3 (R348, R446): SEQ of the last message sent; its octets not yet sent; the outstanding request's TYPE; how the last request
  completed; the receive area -/
  mbSeq : Nat := 0
  mbTx : List Byte := []
  mbReq : Option Nat := none
  mbDone : Nat := 0
  mbIn : List Word := []
  /-- the peer's PAIR_HELLO values, its words 1 and 2 (R446) -/
  hello : Option (Word × Word) := none
  /-- the ROLE that Docent is to stage (R449, R460) -/
  role : Option Bool := none
  /-- HOLD of the switchover under way, and the tick at which its overlap began (R460) -/
  hold : Nat := 0
  overlapAt : Option Nat := none
  deriving DecidableEq, Repr


/-! Observability (18). -/

/-- An open or closed trace (R477, R478): its number, the words of its record as far as they are known, whether the
action made a mirror copy and the frame passed a pool, and its fate once closed. -/
structure Trace where
  num : Nat
  path : Nat
  inport : Nat
  acc : Nat
  len : Nat
  ctx : Nat
  vacct : Option Nat
  tsIn : Nat
  start : Nat
  mirror : Bool := false
  spilled : Bool := false
  dtype : Nat := 0
  dest : Nat := 0
  action : Nat := 0
  entered : Nat := 0
  leave : Nat := 0
  fate : Nat := 0
  fateCyc : Nat := 0
  sfc : Nat := 0
  tsOut : Nat := 0
  deriving DecidableEq, Repr

structure ObsPart where
  /-- the tracer's generator, bit i for s[i] (R476) -/
  lfsr : Nat := 1
  /-- traces opened so far, the open ones, and the closed ones whose records wait or are being written -/
  opened : Nat := 0
  traces : List Trace := []
  closed : List Trace := []
  /-- the write of the oldest closed trace's record is under way -/
  writing : Bool := false
  /-- record writes of a ring since disabled or powered down that are still unanswered (R316, R479) -/
  stale : Nat := 0
  /-- snapshot buffers of bank 0 (host) and bank 1 (Docent and Curator), and a refused GO (R468) -/
  snap : List (List Word) := [[], []]
  snapRefused : List Bool := [false, false]
  /-- octets of the ten meters in the open window, its starting count, and a configuration awaiting the next TICK (R480) -/
  meters : List Nat := [0, 0, 0, 0, 0, 0, 0, 0, 0, 0]
  winStart : Nat := 0
  winOpen : Bool := false
  bwNext : Option (Nat × Nat) := none
  deriving DecidableEq, Repr


/-! The boundary signals (20, R499). -/

/-- Levels at the pins: the inputs as last seen, the outputs as driven. `irqN` has bit q for IRQ_n[q]; WAKE_REQ is
kept as the number of pulses requested. -/
structure PinPart where
  dsLos : Bool := false
  avsAck : Bool := true
  presence : Bool := true
  irqN : Nat := 255
  phySleep : Bool := false
  thermTrip : Bool := false
  wakeReqs : Nat := 0
  vitPulse : Bool := false
  ppsOut : Bool := false
  txEn : Bool := false
  txEnPos : Nat := 0
  usValid : Bool := false
  /-- UPn_TXV, one bit per port (R191, R193) -/
  upTxV : Nat := 0
  /-- UPn_TXC of the words that hold no lane of a frame, per port: LPI or IDLE (R216) -/
  upTxC : List Nat := [0, 0, 0, 0]
  deriving DecidableEq, Repr


/-- The device: the register fields (main file, and the power and event file), the state behind them, and `free`, the
model's own counter of free values. A field not listed in a file reads its reset value. -/
structure Dev where
  regs : SMap Nat := []
  aux : SMap Nat := []
  fab : FabPart := {}
  clk : ClkPart := {}
  ds : DsPart := {}
  us : UsPart := {}
  term : TermPart := {}
  cls : ClsPart := {}
  upm : UpmPart := {}
  qsc : QscPart := {}
  hrg : HrgPart := {}
  slc : SlcPart := {}
  evq : EvqPart := {}
  seq : SeqPart := {}
  fw : FwPart := {}
  stg : StgPart := {}
  vit : VitPart := {}
  pwr : PwrPart := {}
  twn : TwnPart := {}
  obs : ObsPart := {}
  pins : PinPart := {}
  free : Nat := 0
  deriving DecidableEq, Repr

/-- The state: the commands waiting, first in first out, and the device. -/
structure State where
  pending : List Instr := []
  dev : Dev := {}
  deriving DecidableEq, Repr

/-- The block has no machine fault: errors are states of the device (INVENTORY.md, ## Faults). -/
inductive Fault where
  deriving DecidableEq, Repr

/-- Why a command has no meaning. -/
inductive Refusal where
  /-- Raised by the dispatch for a command that has no meaning yet, by its mnemonic. Safe: the model stops. -/
  | notModelled (mnemonic : String)
  deriving DecidableEq, Repr

/-- The device right after PORST_n is released (R484, R489): PD01 and PD32 are usable and PD02, the next of the keep-alive set, is
powering up; the VOTES fields show the votes that hold then (R414), and the Millpond is full (R236). -/
def Dev.reset : Dev :=
  { regs := [(0x10100 * 64, 1)]
    aux := [(0x20110 * 64, 2), (0x20110 * 64 + 4, 1), (0x20120 * 64, 1), (0x20120 * 64 + 4, 2), (0x20130 * 64 + 4, 2),
      (0x20140 * 64 + 4, 2), (0x20180 * 64 + 4, 2), (0x20190 * 64 + 4, 2), (0x201A0 * 64 + 4, 2), (0x20300 * 64, 2),
      (0x20300 * 64 + 4, 33), (0x20808 * 64, 32000000000)]
    pwr := { seen := 2 + 4 + 2 ^ 32 } }

/-- The machine right after reset. -/
def State.reset : State := { pending := [], dev := Dev.reset }

end Sys2Proof.Machine
end

