-- ==== Sys2Proof/Machine/Ops.lean ====
section
/-! DEFINITION. The named operations every meaning is written with: sparse stores, register fields, bit fields, counters,
free values, domains, event capture (R305 to R307), wakes (R426), and fabric requests (R502 to R506). -/

namespace Sys2Proof

/-- The value at a key, if it is listed. -/
def SMap.look {α : Type} (k : Nat) : SMap α → Option α
  | [] => none
  | (k', v) :: t => if k' = k then some v else SMap.look k t

/-- Insert or replace, keeping rising key order. -/
def SMap.put {α : Type} (k : Nat) (v : α) : SMap α → SMap α
  | [] => [(k, v)]
  | (k', v') :: t =>
    if k < k' then (k, v) :: (k', v') :: t
    else if k' = k then (k, v) :: t
    else (k', v') :: SMap.put k v t

/-- Remove a key. -/
def SMap.del {α : Type} (k : Nat) (m : SMap α) : SMap α := m.filter (fun p => p.1 != k)

/-- The value at a key, or what an unlisted key reads as. -/
def SMap.getD {α : Type} (m : SMap α) (k : Nat) (dflt : α) : α := (SMap.look k m).getD dflt

/-- Write a key; a value equal to what an unlisted key reads as is removed, so that equal stores are equal data. -/
def SMap.store {α : Type} [DecidableEq α] (dflt : α) (k : Nat) (v : α) (m : SMap α) : SMap α :=
  if v = dflt then SMap.del k m else SMap.put k v m

/-- The canonical order: keys strictly rise. -/
def SMap.wf {α : Type} : SMap α → Bool
  | [] => true
  | [_] => true
  | (k, _) :: (k', v') :: t => decide (k < k') && SMap.wf ((k', v') :: t)

/-- Bits [lo + w − 1 : lo] of a number. -/
def bits (n lo w : Nat) : Nat := n / 2 ^ lo % 2 ^ w

/-- Bit i of a number. -/
def bit (n i : Nat) : Bool := n / 2 ^ i % 2 == 1

/-- Bit i of a number set or cleared. -/
def withBit (n i : Nat) (b : Bool) : Nat :=
  if bit n i then (if b then n else n - 2 ^ i) else (if b then n + 2 ^ i else n)

/-- Two's complement reading of a w-bit number (R3). -/
def signed (w n : Nat) : Int := if n % 2 ^ w < 2 ^ (w - 1) then (n % 2 ^ w : Nat) else ((n % 2 ^ w : Nat) : Int) - 2 ^ w

/-- Two's complement writing in w bits. -/
def unsigned (w : Nat) (z : Int) : Nat := (z % (2 ^ w : Int)).toNat

/-- The octets of a number, least significant first (R4). -/
def leBytes : Nat → Nat → List Byte
  | 0, _ => []
  | k + 1, n => BitVec.ofNat 8 n :: leBytes k (n / 256)

/-- The number that octets give, least significant first (R4). -/
def ofLe : List Byte → Nat
  | [] => 0
  | b :: t => b.toNat + 256 * ofLe t

/-- The number that octets give, most significant first (R5). -/
def ofBe (l : List Byte) : Nat := l.foldl (fun a b => a * 256 + b.toNat) 0

/-- The octets of a number, most significant first (R5). -/
def beBytes (k n : Nat) : List Byte := (leBytes k n).reverse

/-- Number of a Bool. -/
def b2n (b : Bool) : Nat := if b then 1 else 0

/-- Rounded-up quotient. -/
def ceilDiv (a b : Nat) : Nat := (a + b - 1) / b

/-- Replace the element at index i, if there is one. -/
def setAt {α : Type} (i : Nat) (v : α) (l : List α) : List α := l.set i v

/-- Code of an agent as STG_STAT.OWNER gives it. -/
def Agent.code : Agent → Nat
  | .curator => 0
  | .docent => 1
  | .host f _ => 2 + f.val
  | .twin => 6
  | .sequencer => 7

/-- Whether the agent is a host function. -/
def Agent.isHost : Agent → Bool
  | .host _ _ => true
  | _ => false

/-- The octet enables of a write, spread over its 64 bits (R508). -/
def RegWr.bitMask (w : RegWr) : Nat :=
  (List.range 8).foldl (fun a i => if w.mask.getLsbD i then a + 255 * 2 ^ (8 * i) else a) 0

/-- The written value with disabled octets zero: what a WO or W1C field sees (R508). -/
def RegWr.val (w : RegWr) : Nat := w.data.toNat &&& w.bitMask

/-- A full-width write. -/
def RegWr.full (a : Agent) (v : Nat) : RegWr := ⟨a, 255, BitVec.ofNat 64 v⟩

/-- Number of a response in which only DONE is success (R502). -/
def Rsp.ok (r : Rsp) : Bool := r == .done

namespace Machine

/-- Key of a field in the register file: register offset and lowest bit. -/
def Fld.key (x : Fld) (i j : Nat) : Nat := (x.base + x.s1 * i + x.s2 * j) * 64 + x.lo

/-- Whether a field stands in the power and event file rather than in the main one. -/
def Fld.isAux (x : Fld) : Bool := x.base / 0x10000 == 2 || x.base / 0x10000 == 0x15

/-- The value of a field. -/
def Dev.f (d : Dev) (x : Fld) (i : Nat := 0) (j : Nat := 0) : Nat :=
  SMap.getD (if x.isAux then d.aux else d.regs) (x.key i j) x.rst

/-- A one-bit field as a Bool. -/
def Dev.b (d : Dev) (x : Fld) (i : Nat := 0) (j : Nat := 0) : Bool := d.f x i j != 0

/-- A signed field. -/
def Dev.z (d : Dev) (x : Fld) (i : Nat := 0) (j : Nat := 0) : Int := signed x.w (d.f x i j)

/-- The index of a key among the registers of an array field. -/
def Fld.idxOf (x : Fld) (k : Nat) : Option Nat :=
  let off := k / 64
  if k % 64 = x.lo ∧ x.base ≤ off ∧ (off - x.base) % x.s1 = 0 ∧ (off - x.base) / x.s1 < x.n1 then
    some ((off - x.base) / x.s1)
  else none

/-- The (index, value) pairs of an array field that differ from its reset value. -/
def Dev.listed (d : Dev) (x : Fld) : List (Nat × Nat) :=
  List.filterMap (fun (p : Nat × Nat) => (x.idxOf p.1).map (fun i => (i, p.2))) (if x.isAux then d.aux else d.regs)

/-- Set a field of an indexed register; the low bits that fit are kept (R13). -/
def Dev.setIJ (d : Dev) (x : Fld) (i j v : Nat) : Dev :=
  if x.isAux then { d with aux := SMap.store x.rst (x.key i j) (v % 2 ^ x.w) d.aux }
  else { d with regs := SMap.store x.rst (x.key i j) (v % 2 ^ x.w) d.regs }

/-- Set a field. -/
def Dev.set (d : Dev) (x : Fld) (v : Nat) : Dev := d.setIJ x 0 0 v

/-- Set a field of register i. -/
def Dev.setI (d : Dev) (x : Fld) (i v : Nat) : Dev := d.setIJ x i 0 v

/-- Set a one-bit field. -/
def Dev.setB (d : Dev) (x : Fld) (b : Bool) (i : Nat := 0) : Dev := d.setIJ x i 0 (b2n b)

/-- Advance a counter field by n: it wraps where its table says so and saturates otherwise (R371, R474 and the counter
tables). -/
def Dev.countIJ (d : Dev) (x : Fld) (i j n : Nat) : Dev :=
  d.setIJ x i j (if x.wrap then d.f x i j + n else min (d.f x i j + n) (2 ^ x.w - 1))

/-- Advance a counter by one. -/
def Dev.count (d : Dev) (x : Fld) (i : Nat := 0) : Dev := d.countIJ x i 0 1

/-- Advance a counter by n. -/
def Dev.countN (d : Dev) (x : Fld) (n : Nat) (i : Nat := 0) : Dev := d.countIJ x i 0 n

/-- Take one free value (a value the spec does not give), and the device that has taken it. -/
def Dev.draw (d : Dev) : Nat × Dev := (Config.freeValue d.free, { d with free := d.free + 1 })

/-- Whether domain k is usable (R417); AON always is. -/
def Dev.on (d : Dev) (k : Nat) : Bool := k == 0 || d.f F.PWR_DOM_PSTATE k == 2

/-- The power state codes of R420. -/
def Dev.inWatch (d : Dev) : Bool := d.f F.PWR_STATE_STATE == 2
def Dev.inStill (d : Dev) : Bool := d.f F.PWR_STATE_STATE == 3
def Dev.inOff (d : Dev) : Bool := d.f F.PWR_STATE_STATE == 4

/-- The core runs on the PLL; on FIO there is no TICK (R46). -/
def Dev.onPll (d : Dev) : Bool := d.b F.CKX_CORE_CTL_SRC

/-- The cycle counter (R470). -/
def Dev.cycle (d : Dev) : Nat := d.f F.OBS_CYCLE_CYCLE

/-- Whether a command comes in the core cycle c. Commands carry no instant, and the count of cycles stands while they wait: it does not
where an edge has been counted since, and may where none has, which is free (log entry 4). -/
def Dev.inCycle (d : Dev) (c : Nat) : Bool × Dev :=
  if d.cycle != c then (false, d) else let r := d.draw; (bit r.1 0, r.2)

/-- A wake of code c: enabled codes set their cause bit and are latched, the lowest code first, while the block is in or
entering Watch, Still or Off (R426, R427). -/
def Dev.wake (d : Dev) (c : Nat) : Dev :=
  if (c ≤ 7 && !bit (d.f F.PWR_WAKE_CFG_EN) c) || !(d.f F.PWR_STATE_STATE ≥ 2 || d.b F.PWR_STATE_ENTERING) then d
  else
    let d := d.set F.PWR_WAKE_STAT_CAUSES (withBit (d.f F.PWR_WAKE_STAT_CAUSES) c true)
    if d.f F.PWR_WATCH_STAT_PHASE == 5 || d.pwr.exiting then d
    else { d with pwr := { d.pwr with latched := some (match d.pwr.latched with | none => c | some o => min o c) } }

/-! The time counter. -/

/-- One second, and the whole counter, in 2^-16 ns. -/
def second : Nat := 1000000000 * 65536
def timeSpan : Nat := 2 ^ 48 * second

/-- The counter moves by an offset, and wraps as its 48-bit seconds do. -/
def shiftTime (t : Nat) (o : Int) : Nat := ((t + o) % (timeSpan : Int)).toNat

/-- The counter `t` after the last TICK edge, at the corrected rate (R149). -/
def Dev.timeAt (d : Dev) (t : Nat) : Nat := shiftTime d.term.time (t + t * d.z F.TST_TOD_RATE_RATE_ADJ / 2 ^ 40)

/-! The holdover timer (R33, R48, R430). -/

/-- One frame period, 125 µs, in 2^-16 ns. -/
def frameTime : Int := 8192000000

/-- The holdover timer counts CLK32K: while AON_CLK has it for REFCLK, and in Still unless STILL_REFCLK is 1 (R48, R430). -/
def Dev.hoSlow (d : Dev) : Bool := d.b F.CKX_CLKMON_AON_SRC || (d.inStill && !d.b F.PWR_REG_STILL_REFCLK)

/-- One cycle of the timer's clock in 2^-16 ns, rounded up: 6.4 ns, or 1/32,768 s. -/
def Dev.hoCycle (d : Dev) : Nat := if d.hoSlow then 2000000000 else 419431

/-- The end of the n-th holdover period on REFCLK after the timer's restart, in 2^-16 ns: periods of 19,531, 19,531, 19,531 and 19,532
cycles of 6.4 ns (R33). -/
def hoEdge (n : Nat) : Nat := (n / 4 * 78125 + n % 4 * 19531) * 4194304 / 10

/-- The length of the timer's present period in 2^-16 ns. On CLK32K the pattern averages 4.096 cycles (R48); which periods are the longer
ones the spec does not say: each edge of the pattern comes at its place or one cycle later, which is free. -/
def Dev.hoPeriod (d : Dev) : Nat × Dev :=
  if d.hoSlow then
    let r := d.draw
    let slip := r.1 % 2
    ((((d.clk.hoN + 1) * 512 / 125 + slip) - (d.clk.hoN * 512 / 125 + d.clk.hoSlip)) * 2000000000,
      { r.2 with clk := { d.clk with hoSlip := slip } })
  else (hoEdge (d.clk.hoN + 1) - hoEdge d.clk.hoN, d)

/-! Event capture. -/

/-- A record of source s is pending, at its source or returned after a failed write (R307, R316). -/
def Dev.evPending (d : Dev) (s : Nat) : Bool :=
  d.evq.pend.any (fun r => r.src == s) || d.evq.issued.any (fun e => e.st == .returned && e.record.src == s)

/-- A further capture merges into a pending record (R307). -/
def EvRec.merge (r : EvRec) : EvRec := { r with mrg := true, merges := r.merges + 1 }

/-- The first element that satisfies p becomes f of it. -/
def mapFirst {α : Type} (p : α → Bool) (f : α → α) : List α → List α
  | [] => []
  | a :: l => if p a then f a :: l else a :: mapFirst p f l

/-- The pending record of source s takes a merge: the one at its source or, where it is bound to a queue, the returned one of the
lowest place (R307, R316). -/
def EvqPart.mergeAt (e : EvqPart) (s : Nat) : EvqPart :=
  if e.pend.any (fun r => r.src == s) then { e with pend := mapFirst (fun r => r.src == s) EvRec.merge e.pend }
  else { e with
    issued := mapFirst (fun i => i.st == .returned && i.record.src == s) (fun i => { i with record := i.record.merge }) e.issued }

/-- Capture of source s with present state st: a new pending record, or a merge (R305, R307). A level capture clears
ARMED (R306); a capture of a source with WAKE is a wake of code 6h (R315, R426). -/
def Dev.capture (d : Dev) (s : Nat) (st : Bool) : Dev :=
  let sense := d.f F.EVQ_SRC_SENSE s
  let e :=
    if d.evPending s then d.evq.mergeAt s
    else
      { d.evq with pend := d.evq.pend ++
          [{ src := s, sense := sense, state := st, mrg := false, sfc := d.clk.sfc % 65536, cyc := d.cycle, merges := 0 }] }
  let d := { d with evq := e }
  let d := if sense == 0 then d.setI F.EVQ_SRC_ARMED s 0 else d
  if d.b F.EVQ_SRC_WAKE s then d.wake 6 else d

/-- Sluice channels whose WAIT awaits this state of source s have seen it (R293). -/
def Dev.slcSaw (d : Dev) (s : Nat) (b : Bool) : Dev :=
  if d.slc.chans.any (fun p => p.2.awaits == some (s, b)) then
    { d with slc := { chans := d.slc.chans.map (fun p =>
        if p.2.awaits == some (s, b) then (p.1, { p.2 with hit := true }) else p) } }
  else d

/-- An occurrence of source s (R303): it captures when enabled, unless its sense is level and it is not armed. While PD29
is not powered no source captures (R317). -/
def Dev.raise (d : Dev) (s : Nat) : Dev :=
  let d := d.slcSaw s true
  if d.on 29 && d.b F.EVQ_SRC_EN s && (d.f F.EVQ_SRC_SENSE s != 0 || d.b F.EVQ_SRC_ARMED s) then d.capture s true
  else d

/-- The condition of SENSE for a state source whose state goes from `was` to `now` (R305). -/
def senseHit (sense : Nat) (armed was now : Bool) : Bool :=
  if sense == 0 then now && armed
  else if sense == 1 then !was && now
  else if sense == 2 then was && !now
  else was != now

/-- The present state of a state source becomes b (R303, R305). -/
def Dev.level (d : Dev) (s : Nat) (b : Bool) : Dev :=
  let was := d.b F.EVQ_SRC_STATE s
  let d := (d.setB F.EVQ_SRC_STATE b s).slcSaw s b
  if d.on 29 && d.b F.EVQ_SRC_EN s && senseHit (d.f F.EVQ_SRC_SENSE s) (d.b F.EVQ_SRC_ARMED s) was b then d.capture s b
  else d

/-- Raise a source when a condition holds. -/
def Dev.raiseIf (d : Dev) (c : Bool) (s : Nat) : Dev := if c then d.raise s else d

/-! Performance counters (R471 to R474). -/

/-- The attributes an event carries (R472). -/
structure PmcAttr where
  priv : Option Nat := none
  func : Option Nat := none
  master : Option Nat := none
  cls : Option Nat := none
  addr : Option Nat := none
  deriving DecidableEq, Repr

/-- A filter mask passes an attribute, or its absence (R473). -/
def pmcBit (mask : Nat) : Option Nat → Bool
  | some i => bit mask i
  | none => true

/-- Counter k is set to events of kind ev with these attributes (R471, R473). -/
def Dev.pmcMeant (d : Dev) (k ev : Nat) (a : PmcAttr) : Bool :=
  d.f F.OBS_PMC_CFG_EVENT k == ev &&
  pmcBit (d.f F.OBS_PMC_CFG_PRIV k) a.priv && pmcBit (d.f F.OBS_PMC_CFG_FUNC k) a.func &&
  pmcBit (d.f F.OBS_PMC_CFG_MASTER k) a.master && pmcBit (d.f F.OBS_PMC_CFG_CLASS k) a.cls &&
  (a.priv != some 0 || d.b F.OBS_CTL_CURATOR_VIS) &&
  (match a.addr with
   | some x =>
     !d.b F.OBS_PMC_CFG_RANGE_EN k ||
       ((d.f F.OBS_PMC_LO_LO k ≤ x && x ≤ d.f F.OBS_PMC_HI_HI k) != d.b F.OBS_PMC_CFG_RANGE_INV k)
   | none => true)

/-- Counter k counts an event of kind ev with these attributes: it is set to them and runs. -/
def Dev.pmcHit (d : Dev) (k ev : Nat) (a : PmcAttr) : Bool := bit (d.f F.OBS_PMC_RUN_RUN) k && d.pmcMeant k ev a

/-- Counter k advances by n, and PMC_OVF is raised where it passes its top (R474). -/
def Dev.pmcAdd (d : Dev) (k n : Nat) : Dev :=
  let v := d.f F.OBS_PMC_CNT_COUNT k + n
  (d.setI F.OBS_PMC_CNT_COUNT k v).raiseIf (v ≥ 2 ^ 48) (1568 + k)

/-- n events of kind ev. -/
def Dev.pmc (d : Dev) (ev n : Nat) (a : PmcAttr := {}) : Dev :=
  (List.range 8).foldl (fun d k => if n != 0 && d.pmcHit k ev a then d.pmcAdd k n else d) d

/-! Activity (R237) and beats per path (R412). -/

/-- n activity events of kind k. -/
def Dev.act (d : Dev) (k n : Nat) : Dev :=
  { d with pwr := { d.pwr with acts := d.pwr.acts.set k (d.pwr.acts.getD k 0 + n) } }

/-- Beats on path p: 0 fibre, 1 lane A, 2 lane B, 3 upstream, 4 ports 0 and 1, 5 ports 2 and 3, 6 host. -/
def Dev.pathBeats (d : Dev) (p n : Nat) : Dev :=
  { d with pwr := { d.pwr with beats := d.pwr.beats.set p (d.pwr.beats.getD p 0 + n) } }

/-! Bandwidth meters (R480). -/

/-- Meter m counts octets, while it is enabled (R480). -/
def Dev.meter (d : Dev) (m n : Nat) : Dev :=
  if bit (d.f F.OBS_BW_CFG_EN) m then
    { d with obs := { d.obs with meters := d.obs.meters.set m (d.obs.meters.getD m 0 + n) } }
  else d

/-! The fabric. -/

/-- Beats of 64 octets that a burst of len octets at addr takes (R504). -/
def fabBeats (addr len : Nat) : Nat := if len == 0 then 0 else (addr + len - 1) / 64 - addr / 64 + 1

/-- Bursts that carry len octets at addr: at most 16 beats each, and none past a boundary of 1,024 octets (R504). -/
def fabBursts (addr len : Nat) : Nat := (addr % 1024 + len + 1023) / 1024
def FabReq.bursts (r : FabReq) : Nat := fabBursts r.addr r.len

/-- Privilege of a request by its master: Curator's image fetches, Docent's requests, host otherwise (R506, R472). -/
def FabReq.priv (r : FabReq) : Nat := if r.mstr != 4 then 2 else if r.kind == .image then 0 else 1

/-- Whether a request of a kind goes to the write initiator. -/
def kindWrites : FabKind → Bool
  | .eventRecord _ _ => true
  | .traceRecord _ => true
  | .spillWrite _ _ => true
  | .completion _ _ => true
  | .ringHeader _ => true
  | .rxData _ _ => true
  | .slcWrite _ _ => true
  | .spillRead _ => false
  | .wqFetch _ => false
  | .sendData _ _ => false
  | .hostIdx _ => false
  | .slcRead _ _ => false
  | .image => false

/-- The clock a crossing's words are received by is declared stopped (R47, R52), with the clocks numbered as in CKX_CLKMON: 1 goes out
on US_WCLK, 2 to 5 on UP_CLK n, 6 and 7 on FAB_CLK. The crossings 0 and 8 to 10 are received by clocks that no monitor watches, or by the
core. -/
def Dev.xHeld (d : Dev) (x : Nat) : Bool :=
  (x == 1 && bit d.clk.stopped 3) || (2 ≤ x && x ≤ 5 && bit d.clk.stopped (x + 3)) || ((x == 6 || x == 7) && bit d.clk.stopped 4)

/-- Crossing x is up: neither side is in reset, and no handshake is under way (R53, R54). -/
def Dev.xUp (d : Dev) (x : Nat) : Bool :=
  !bit (d.f F.CKX_XSTAT_PEER_RESET) x && !bit (d.f F.CKX_XSTAT_HANDSHAKE) x && !bit d.clk.xRestart x

/-- Words pass crossing x towards the chip (R52, R53). -/
def Dev.xOpen (d : Dev) (x : Nat) : Bool := d.xUp x && !d.xHeld x

/-- Bursts of an initiator without a final response, each with its tag (R504). -/
def Dev.fabTags (d : Dev) (wr : Bool) : Nat :=
  ((d.fab.out.filter (fun r => r.write == wr)).map FabReq.bursts).foldl (· + ·) 0 +
    ((d.fab.late.filter (fun p => kindWrites p.1 == wr)).map (·.2)).foldl (· + ·) 0

/-- An initiator can issue: its domain PD31 is powered, crossing 6 is open, and a tag is free, with fewer than 64 bursts without a final
response (R25, R52, R53, R504, R507). DESIGN CHOICE: a request goes out whole when a tag is free, and its tags are free together, at its
answer (log entry 50). -/
def Dev.fabRoom (d : Dev) (wr : Bool) : Bool := d.on 31 && d.xOpen 6 && d.fabTags wr < 64

/-- The Sluice channel a request belongs to. -/
def slcChan : FabKind → Option Nat
  | .slcRead c _ => some c
  | .slcWrite c _ => some c
  | _ => none

/-- A request goes out; its beats are counted (R471). -/
def Dev.issue (d : Dev) (r : FabReq) : Dev :=
  let d := { d with fab := { d.fab with
    out := d.fab.out ++ [r]
    lastRead := if r.write then d.fab.lastRead else r.mstr
    lastWrite := if r.write then r.mstr else d.fab.lastWrite
    lastChRead := if r.write then d.fab.lastChRead else (slcChan r.kind).getD d.fab.lastChRead
    lastChWrite := if r.write then (slcChan r.kind).getD d.fab.lastChWrite else d.fab.lastChWrite } }.act (if r.write then 9 else 8) (fabBeats r.addr r.len)
  (List.range (fabBeats r.addr r.len)).foldl (fun d i =>
    d.pmc (if r.write then 3 else 2) 1
      { priv := some r.priv, func := some r.func, master := some r.mstr, addr := some ((r.addr / 64 + i) * 64) }) d

/-- Make a request (R502 to R506): it goes out, or waits for a tag. -/
def Dev.request (d : Dev) (r : FabReq) : Dev :=
  if d.fabRoom r.write then d.issue r else { d with fab := { d.fab with queue := d.fab.queue ++ [r] } }

/-- The waiting request of a master that an initiator serves: the oldest, and among the Sluice channels (master 1) that of the first
channel after the one last served that has one (R301). -/
def Dev.fabOf (d : Dev) (wr : Bool) (m : Nat) : Option FabReq :=
  let l := d.fab.queue.filter (fun r => r.write == wr && r.mstr == m)
  let last := if wr then d.fab.lastChWrite else d.fab.lastChRead
  if m == 1 then (List.range 16).findSome? (fun k => l.find? (fun r => slcChan r.kind == some ((last + 1 + k) % 16))) else l.head?

/-- The waiting request an initiator serves next: of the first master after the one last served that has one (R507). -/
def Dev.fabPick (d : Dev) (wr : Bool) : Option FabReq :=
  let last := if wr then d.fab.lastWrite else d.fab.lastRead
  (List.range 6).findSome? (fun k => d.fabOf wr ((last + 1 + k) % 6))

/-- A tag has become free: a waiting request goes out. -/
def Dev.fabPump (d : Dev) (wr : Bool) : Dev :=
  if !d.fabRoom wr then d
  else match d.fabPick wr with
    | some r => { d with fab := { d.fab with queue := d.fab.queue.erase r } }.issue r
    | none => d

/-- Crossing 6 has opened: what waited for it goes out, up to the tags of both initiators (R52, R53). -/
def Dev.fabResume (d : Dev) : Dev := (List.range 64).foldl (fun d _ => (d.fabPump false).fabPump true) d

/-- Requests that satisfy p are abandoned: those that wait are never made, those that are out keep their tags until their
answers, which are discarded. -/
def Dev.fabAbandon (d : Dev) (p : FabReq → Bool) : Dev :=
  { d with fab := { d.fab with
    out := d.fab.out.filter (fun r => !p r)
    queue := d.fab.queue.filter (fun r => !p r)
    late := d.fab.late ++ (d.fab.out.filter p).map (fun r => (r.kind, r.bursts)) } }

/-- The outstanding request of a kind, whose answer can come: none passes crossing 6 while it is not up (R53). -/
def Dev.outstanding (d : Dev) (k : FabKind) : Option FabReq := if d.xUp 6 then d.fab.out.find? (fun r => r.kind == k) else none

/-- Run `g` on the outstanding request of a kind, after freeing its tag (R504); a late answer of a request taken as FAULT
is discarded and frees its tag (R505); an answer to no request changes nothing, nor does one while crossing 6 is not up (R53). -/
def Dev.answer (d : Dev) (k : FabKind) (c : Rsp) (g : FabReq → Dev → Dev) : Dev :=
  match d.outstanding k with
  | some r =>
    let d := { d with fab := { d.fab with out := d.fab.out.eraseP (fun r => r.kind == k) } }.fabPump r.write
    g r (if c.ok then d
      else d.pmc 4 1 { priv := some r.priv, func := some r.func, master := some r.mstr, addr := some r.addr })
  | none =>
    if d.xUp 6 && d.fab.late.any (fun p => p.1 == k) then
      { d with fab := { d.fab with late := d.fab.late.eraseP (fun p => p.1 == k) } }.fabPump (kindWrites k)
    else d

end Machine
end Sys2Proof
end

