-- ==== Sys2Proof/Machine/Codes.lean ====
section
/-! DEFINITION. The codes of the line and of the tables: CRCs (R171, R529), the BCH code of encapsulation headers (R82),
the LDPC code (R64), the descrambler (R63), and feedback shift registers. -/

namespace Sys2Proof.Machine

/-- The bits of a w-bit number, highest first. -/
def bitsMsb : Nat → Nat → List Bool
  | 0, _ => []
  | w + 1, n => bit n w :: bitsMsb w n

/-- One step of a w-bit CRC register, first bit highest (R529). -/
def crcStep (w poly reg : Nat) (b : Bool) : Nat :=
  let sh := reg * 2 % 2 ^ w
  if bit reg (w - 1) != b then sh ^^^ poly else sh

/-- A CRC register after a run of bits. -/
def crcRun (w poly init : Nat) (bs : List Bool) : Nat := bs.foldl (crcStep w poly) init

/-- Bit reversal of a w-bit number. -/
def reflect (w n : Nat) : Nat := (bitsMsb w n).foldr (fun b a => a * 2 + b2n b) 0

/-- The bits of octets, each from bit 7 to bit 0. -/
def octetBits (l : List Byte) : List Bool := l.flatMap (fun b => bitsMsb 8 b.toNat)

/-- The bits of octets, each from bit 0 to bit 7, as an IEEE 802.3 medium and RFC 3720 take them. -/
def octetBitsLsb (l : List Byte) : List Bool := l.flatMap (fun b => (bitsMsb 8 b.toNat).reverse)

/-- The IEEE 802.3 generator and the CRC-32C generator. -/
def poly32 : Nat := 0x04C11DB7
def poly32c : Nat := 0x1EDC6F41

/-- R529: preset to ones, complemented, x^31 in the highest bit. -/
def crc32Bits (bs : List Bool) : Nat := 0xFFFFFFFF - crcRun 32 poly32 0xFFFFFFFF bs

/-- HCRC and UCRC: over words, bits 63 to 0 of each (R529). -/
def crc32Words (ws : List Word) : Nat := crc32Bits (ws.flatMap (fun w => bitsMsb 64 w.toNat))

/-- BCRC: over octets, bits 7 to 0 of each (R529). -/
def crc32Octets (l : List Byte) : Nat := crc32Bits (octetBits l)

/-- The FCS of IEEE 802.3 as the octet-reflected integer (R171, R201). -/
def fcs (l : List Byte) : Nat := reflect 32 (0xFFFFFFFF - crcRun 32 poly32 0xFFFFFFFF (octetBitsLsb l))

/-- CRC-32C as RFC 3720 writes it (R171). -/
def crc32c (l : List Byte) : Nat := reflect 32 (0xFFFFFFFF - crcRun 32 poly32c 0xFFFFFFFF (octetBitsLsb l))

/-! The BCH code of R82: 64 bits, generator the least common multiple of the minimal polynomials of α
(x^13 + x^4 + x^3 + x + 1) and of α^3 (x^13 + x^10 + x^9 + x^7 + x^5 + x^4 + 1). -/

/-- The generator, of degree 26. -/
def bchGen : Nat := 0x4D5154B

/-- Remainder of a 64-bit polynomial by the generator. -/
def bchRem (n : Nat) : Nat :=
  (List.range 38).foldl (fun a i => if bit a (63 - i) then a ^^^ (bchGen * 2 ^ (37 - i)) else a) n

/-- Remainders of the single-bit errors x^0 to x^63. -/
def bchSingles : List Nat := (List.range 64).map (fun i => bchRem (2 ^ i))

/-- The pair of places i < j whose remainders sum to r, if there is one. -/
def bchPair (r : Nat) : List (Nat × Nat) → Option (Nat × Nat)
  | [] => none
  | (i, ri) :: t =>
    match t.find? (fun p => p.2 ^^^ ri == r) with
    | some (j, _) => some (i, j)
    | none => bchPair r t

/-- BCH decoding: the corrected word and how many bits were corrected, or nothing when more than two are wrong. -/
def bchDecode (n : Nat) : Option (Nat × Nat) :=
  let r := bchRem n
  if r == 0 then some (n, 0)
  else
    let ps := (List.range 64).zip bchSingles
    match ps.find? (fun p => p.2 == r) with
    | some (i, _) => some (n ^^^ 2 ^ i, 1)
    | none =>
      match bchPair r ps with
      | some (i, j) => some (n ^^^ 2 ^ i ^^^ 2 ^ j, 2)
      | none => none

/-- Check bits for data in bits [63:26]. -/
def bchEncode (data : Nat) : Nat := data * 2 ^ 26 + bchRem (data * 2 ^ 26)

/-! The LDPC code of R64 over v(0) to v(18,431), v(0) the highest bit. -/

/-- Block column j: v(384j) to v(384j + 383), the first highest. -/
def ldpcBlock (v : BitVec 18432) (j : Nat) : BitVec 384 := (v >>> (384 * (47 - j))).setWidth 384

/-- Row i of H × v. -/
def ldpcRow (v : BitVec 18432) (i : Nat) : BitVec 384 :=
  let info := (List.range 40).foldl
    (fun a j => if i % 2 == j % 2 then a ^^^ (ldpcBlock v j).rotateLeft ((11 * i + 31 * j + i * j * j) % 384) else a) 0
  let p := info ^^^ ldpcBlock v (40 + i)
  if i ≥ 1 then p ^^^ ldpcBlock v (39 + i) else p

/-- H × v = 0. -/
def ldpcValid (v : BitVec 18432) : Bool := (List.range 8).all (fun i => ldpcRow v i == 0)

/-- The information bits v(0) to v(15,359). -/
def ldpcInfo (v : BitVec 18432) : BitVec 15360 := (v >>> 3072).setWidth 15360

/-- Octet i of the information bits. -/
def infoOctet (v : BitVec 15360) (i : Nat) : Byte := (v >>> (8 * (1919 - i))).setWidth 8

/-- The parity bits that the encoder of R64 appends to the information bits. -/
def ldpcEncode (info : BitVec 15360) : BitVec 18432 :=
  let v0 : BitVec 18432 := (info.setWidth 18432) <<< 3072
  (List.range 8).foldl (fun v i => v ||| ((ldpcRow v i).setWidth 18432) <<< (384 * (7 - i))) v0

/-- The descrambler of R63 on 18,432 received bits with its 58-bit history: the descrambled bits and the new history. -/
def descramble (h : BitVec 58) (x : BitVec 18432) : BitVec 18432 × BitVec 58 :=
  let z : BitVec 18490 := h ++ x
  ((z ^^^ (z >>> 39) ^^^ (z >>> 58)).setWidth 18432, z.setWidth 58)

/-- Number of ones. -/
def popCount (w n : Nat) : Nat := (bitsMsb w n).countP id

/-- The sync block of R58. -/
def syncPattern : Nat :=
  let p := 0xB2E471D80F3C9A65
  let q := 0x4D1B8E27F0C3659A
  ((p * 2 ^ 64 + q) * 2 ^ 64 + p) * 2 ^ 64 + q

end Sys2Proof.Machine
end

