-- ==== Sys2Proof/Machine/Crypto.lean ====
section
/-! DEFINITION. The standard algorithms that the spec names without their text: AES-256 (FIPS 197), its GCM mode (NIST SP
800-38D; R87, R118), AES Key Wrap (RFC 3394; R140, R353) and ECDSA P-256 (FIPS 186-5; R339, R394). PRESUMED: the standards'
texts are not part of the spec (log entry 12). -/

namespace Sys2Proof.Machine

/-! AES-256. Octets are numbers below 256; a block is its sixteen octets in order. -/

/-- Multiplication by x in the field of 256 elements. -/
def gfTwice (a : Nat) : Nat := if a * 2 < 256 then a * 2 else a * 2 ^^^ 0x11B

/-- Multiplication in the field of 256 elements. -/
def gfMul (a b : Nat) : Nat :=
  ((List.range 8).foldl (fun (p : Nat × Nat) i => (if bit b i then p.1 ^^^ p.2 else p.1, gfTwice p.2)) (0, a)).1

/-- The inverse, 0 for 0: the 254th power. -/
def gfInv (a : Nat) : Nat :=
  ((List.range 7).foldl (fun (p : Nat × Nat) _ => let s := gfMul p.2 p.2; (gfMul p.1 s, s)) (1, a)).1

/-- An octet turned left by k places. -/
def rotl8 (a k : Nat) : Nat := a * 2 ^ k % 256 + a / 2 ^ (8 - k)

/-- SubBytes of one octet, and its inverse. -/
def aesSub (a : Nat) : Nat :=
  let x := gfInv a
  x ^^^ rotl8 x 1 ^^^ rotl8 x 2 ^^^ rotl8 x 3 ^^^ rotl8 x 4 ^^^ 0x63
def aesUnsub (a : Nat) : Nat := gfInv (rotl8 a 1 ^^^ rotl8 a 3 ^^^ rotl8 a 6 ^^^ 0x05)

/-- The key schedule as words of four octets, latest first; `i` is the number of the next word, the fuel counts those to come. -/
def aesSchedule : Nat → Nat → List (List Nat) → List (List Nat)
  | 0, _, ws => ws
  | n + 1, i, ws =>
    let t := ws.headD []
    let u :=
      if i % 8 == 0 then
        match t with
        | [a, b, c, d] => [aesSub b ^^^ 2 ^ (i / 8 - 1), aesSub c, aesSub d, aesSub a]
        | t => t
      else if i % 8 == 4 then t.map aesSub
      else t
    aesSchedule n (i + 1) (List.zipWith (· ^^^ ·) (ws.getD 7 []) u :: ws)

/-- Lists of n octets of a list. -/
def groupsOf (n : Nat) : Nat → List Nat → List (List Nat)
  | 0, _ => []
  | k + 1, l => l.take n :: groupsOf n k (l.drop n)

/-- Octets of a number, most significant first. -/
def natOctets (n v : Nat) : List Nat := (beBytes n v).map (·.toNat)

/-- The number of octets, most significant first. -/
def octetsNat (l : List Nat) : Nat := l.foldl (fun a b => a * 256 + b) 0

/-- The fifteen round keys of a 256-bit key. -/
def aesKeys (key : Nat) : List (List Nat) :=
  groupsOf 16 15 ((aesSchedule 52 8 (groupsOf 4 8 (natOctets 32 key)).reverse).reverse.flatten)

/-- SubBytes and ShiftRows, and their inverses; octet k stands in row k mod 4 and column k / 4. -/
def aesSubShift (s : List Nat) : List Nat :=
  (List.range 16).map (fun k => aesSub (s.getD ((k / 4 + k % 4) % 4 * 4 + k % 4) 0))
def aesUnsubShift (s : List Nat) : List Nat :=
  (List.range 16).map (fun k => aesUnsub (s.getD ((k / 4 + 4 - k % 4) % 4 * 4 + k % 4) 0))

/-- MixColumns with the first row of its matrix. -/
def aesMix (c0 c1 c2 c3 : Nat) (s : List Nat) : List Nat :=
  (List.range 16).map (fun k =>
    let x := fun r => s.getD (k / 4 * 4 + (k + r) % 4) 0
    gfMul c0 (x 0) ^^^ gfMul c1 (x 1) ^^^ gfMul c2 (x 2) ^^^ gfMul c3 (x 3))

def aesAdd (a b : List Nat) : List Nat := List.zipWith (· ^^^ ·) a b

/-- The rounds after the first key: each but the last mixes columns. -/
def aesRounds : List (List Nat) → List Nat → List Nat
  | [], s => s
  | [k], s => aesAdd (aesSubShift s) k
  | k :: ks, s => aesRounds ks (aesAdd (aesMix 2 3 1 1 (aesSubShift s)) k)

/-- The cipher under round keys, on a 128-bit block. -/
def aesEnc (ks : List (List Nat)) (b : Nat) : Nat :=
  match ks with
  | [] => b
  | k :: ks => octetsNat (aesRounds ks (aesAdd (natOctets 16 b) k))

/-- The rounds of the inverse cipher; the keys stand last first. -/
def aesUnrounds : List (List Nat) → List Nat → List Nat
  | [], s => s
  | [k], s => aesAdd (aesUnsubShift s) k
  | k :: ks, s => aesUnrounds ks (aesMix 14 11 13 9 (aesAdd (aesUnsubShift s) k))

/-- The inverse cipher under round keys. -/
def aesDec (ks : List (List Nat)) (b : Nat) : Nat :=
  match ks.reverse with
  | [] => b
  | k :: ks => octetsNat (aesUnrounds ks (aesAdd (natOctets 16 b) k))

/-! GCM with a 96-bit IV and a 64-bit tag. -/

/-- Multiplication in the field of 2^128 elements; the highest bit of a block is the coefficient of x^0. -/
def ghMul (x y : Nat) : Nat :=
  ((List.range 128).foldl (fun (p : Nat × Nat) i =>
    (if bit x (127 - i) then p.1 ^^^ p.2 else p.1, if p.2 % 2 == 1 then p.2 / 2 ^^^ 0xE1 * 2 ^ 120 else p.2 / 2)) (0, y)).1

/-- Blocks of octets, the last filled with zeros. -/
def gcmBlocks (l : List Byte) : List Nat :=
  (groupsOf 16 (ceilDiv l.length 16) (l.map (·.toNat))).map (fun g => octetsNat (g ++ List.replicate (16 - g.length) 0))

/-- The octets under the key stream of a key and an IV: encryption and decryption alike. -/
def gcmCrypt (key iv : Nat) (l : List Byte) : List Byte :=
  let ks := aesKeys key
  let stream := (List.range (ceilDiv l.length 16)).flatMap (fun i => beBytes 16 (aesEnc ks (iv * 2 ^ 32 + (i + 2) % 2 ^ 32)))
  List.zipWith (· ^^^ ·) l stream

/-- The tag of associated data and ciphertext: the first 64 bits. -/
def gcmTag (key iv : Nat) (aad ct : List Byte) : Nat :=
  let ks := aesKeys key
  let h := aesEnc ks 0
  let x := gcmBlocks aad ++ gcmBlocks ct ++ [8 * aad.length * 2 ^ 64 + 8 * ct.length]
  (x.foldl (fun y b => ghMul (y ^^^ b) h) 0 ^^^ aesEnc ks (iv * 2 ^ 32 + 1)) / 2 ^ 64

/-! Key wrap of a 256-bit key. -/

/-- The constant that an unwrap must find. -/
def wrapIv : Nat := 0xA6A6A6A6A6A6A6A6

/-- The 320-bit wrapping of a 256-bit key under a key-encryption key. -/
def keyWrap (kek key : Nat) : Nat :=
  let ks := aesKeys kek
  let r := (List.range 24).foldl (fun (p : Nat × List Nat) t =>
    let b := aesEnc ks (p.1 * 2 ^ 64 + p.2.getD (t % 4) 0)
    (b / 2 ^ 64 ^^^ (t + 1), p.2.set (t % 4) (b % 2 ^ 64)))
    (wrapIv, (List.range 4).map (fun i => key / 2 ^ (64 * (3 - i)) % 2 ^ 64))
  r.2.foldl (fun a x => a * 2 ^ 64 + x) r.1

/-- The key of a 320-bit wrapping, or nothing where the check fails. -/
def keyUnwrap (kek wrapped : Nat) : Option Nat :=
  let ks := aesKeys kek
  let r := (List.range 24).reverse.foldl (fun (p : Nat × List Nat) t =>
    let b := aesDec ks ((p.1 ^^^ (t + 1)) * 2 ^ 64 + p.2.getD (t % 4) 0)
    (b / 2 ^ 64, p.2.set (t % 4) (b % 2 ^ 64)))
    (wrapped / 2 ^ 256 % 2 ^ 64, (List.range 4).map (fun i => wrapped / 2 ^ (64 * (3 - i)) % 2 ^ 64))
  if r.1 == wrapIv then some (r.2.foldl (fun a x => a * 2 ^ 64 + x) 0) else none

/-! The curve P-256: y² = x³ − 3x + b over the field of p elements; points of order n. -/

def ecP : Nat := 0xFFFFFFFF00000001000000000000000000000000FFFFFFFFFFFFFFFFFFFFFFFF
def ecN : Nat := 0xFFFFFFFF00000000FFFFFFFFFFFFFFFFBCE6FAADA7179E84F3B9CAC2FC632551
def ecB : Nat := 0x5AC635D8AA3A93E7B3EBBD55769886BC651D06B0CC53B0F63BCE3C3E27D2604B
def ecG : Option (Nat × Nat) :=
  some (0x6B17D1F2E12C4247F8BCE6E563A440F277037D812DEB33A0F4A13945D898C296,
    0x4FE342E2FE1A7F9B8EE7EB4A7C0F9E162BCE33576B315ECECBB6406837BF51F5)

/-- A power modulo m, of a 256-bit exponent. -/
def powMod (m x e : Nat) : Nat := (bitsMsb 256 e).foldl (fun a b => let s := a * a % m; if b then s * x % m else s) 1

/-- The inverse modulo a prime. -/
def invMod (m x : Nat) : Nat := powMod m (x % m) (m - 2)

/-- The sum of two points; `none` is the point at infinity. -/
def ecAdd : Option (Nat × Nat) → Option (Nat × Nat) → Option (Nat × Nat)
  | none, q => q
  | p, none => p
  | some (x1, y1), some (x2, y2) =>
    if x1 == x2 && (y1 + y2) % ecP == 0 then none
    else
      let l := if x1 == x2 then (3 * x1 * x1 + (ecP - 3)) * invMod ecP (2 * y1) % ecP
        else (y2 + (ecP - y1)) * invMod ecP (x2 + (ecP - x1)) % ecP
      let x3 := (l * l + 2 * ecP - x1 - x2) % ecP
      some (x3, (l * (x1 + (ecP - x3)) + (ecP - y1)) % ecP)

/-- A multiple of a point. -/
def ecMul (k : Nat) (q : Option (Nat × Nat)) : Option (Nat × Nat) :=
  (bitsMsb 256 k).foldl (fun r b => let r := ecAdd r r; if b then ecAdd r q else r) none

/-- A public key of 512 bits, its coordinates one after the other: the point, if it is one of the curve. -/
def ecPoint (key : Nat) : Option (Nat × Nat) :=
  let x := key / 2 ^ 256 % 2 ^ 256
  let y := key % 2 ^ 256
  if x < ecP && y < ecP && y * y % ecP == (x * x * x + (ecP - 3) * x + ecB) % ecP then some (x, y) else none

/-- Whether the signature r, s of a 256-bit digest verifies under a public key. -/
def ecdsaOk (key digest r s : Nat) : Bool :=
  match ecPoint key with
  | none => false
  | some q =>
    0 < r && r < ecN && 0 < s && s < ecN &&
      (let w := invMod ecN s
       match ecAdd (ecMul (digest * w % ecN) ecG) (ecMul (r * w % ecN) (some q)) with
       | none => false
       | some v => v.1 % ecN == r)

/-- The signature r, s of a 256-bit digest with private key d and the secret number k of this signature, both from 1 to n − 1. -/
def ecdsaSign (d k digest : Nat) : Nat × Nat :=
  let r := ((ecMul k ecG).getD (0, 0)).1 % ecN
  (r, invMod ecN k * (digest + r * d) % ecN)

/-- A number reduced to a private one, from 1 to n − 1. -/
def ecScalar (v : Nat) : Nat := v % (ecN - 1) + 1

end Sys2Proof.Machine
end

