-- ==== Sys2Proof/Machine/Operands.lean ====
section
/-! DEFINITION. Register operands: which register an offset names (R518), its domain (R531), whole-register reads (R8,
R508), and what a write does to a field under its access code (R8, R9, R508). -/

namespace Sys2Proof

namespace Machine

/-- The indices under which a field's register stands at an offset, if it does. -/
def Fld.at? (x : Fld) (off : Nat) : Option (Nat × Nat) :=
  if off < x.base then none
  else
    let r := off - x.base
    let i := if x.s1 = 0 then 0 else r / x.s1
    let r1 := if x.s1 = 0 then r else r % x.s1
    let j := if x.s2 = 0 then 0 else r1 / x.s2
    let r2 := if x.s2 = 0 then r1 else r1 % x.s2
    if r2 = 0 ∧ i < x.n1 ∧ j < x.n2 ∧ off ≠ 0x20100 ∧ off ≠ 0x20108 then some (i, j) else none

/-- The fields of the register at an offset, with their indices; none where no register stands (R518, R533). -/
def fldsAt (off : Nat) : List (Fld × Nat × Nat) :=
  allFlds.filterMap (fun x => (x.at? off).map (fun p => (x, p.1, p.2)))

/-- The domain of the register at an offset; 0 is AON (R518, R531). -/
def domainOf (off : Nat) : Nat :=
  let p := off / 0x10000
  if off == 0x10100 then 0
  else if p ≤ 1 then 1
  else if p == 2 || p == 3 then 0
  else if p == 4 then (if (off ≤ 0x40020) || (0x40100 ≤ off && off ≤ 0x40120) then 3 else 8)
  else if p == 5 then 9
  else if p == 6 || p == 7 then 1
  else if p == 8 || p == 9 then
    if 0x80010 ≤ off && off < 0x80040 then 11 + (off - 0x80010) / 16
    else if 0x80100 ≤ off && off < 0x801C0 then 11 + (off - 0x80100) / 64
    else 11
  else if p == 10 || p == 11 then 18 + (off - 0xA0000) / 0x4000 % 4
  else if p ≤ 15 then 26
  else if p ≤ 19 then 27
  else if p == 20 then 28
  else if p == 21 then 29
  else if p == 22 then 2
  else if p == 23 then 1
  else if p ≤ 27 then 1
  else if p ≤ 29 then 32
  else if p == 30 then (if off == 0x1E0000 then 0 else 30)
  else if p == 31 then (if 0x1F0200 ≤ off && off < 0x1F0300 then 29 else 1)
  else 1

/-- The bits of a field in a register word. -/
def Fld.maskBits (x : Fld) : Nat := (2 ^ x.w - 1) * 2 ^ x.lo

end Machine

/-- The written value of a field, disabled octets zero (WO, W1C; R508). -/
def RegWr.fld (w : RegWr) (x : Machine.Fld) : Nat := bits w.val x.lo x.w

/-- The value an RW field takes: enabled octets from the write, the others as they were (R508). -/
def RegWr.merged (w : RegWr) (x : Machine.Fld) (old : Nat) : Nat :=
  let m := bits w.bitMask x.lo x.w
  let v := bits w.data.toNat x.lo x.w
  (v &&& m) + (old &&& (2 ^ x.w - 1 - m))

namespace Machine

/-- A write of one field by its access code: RW takes the merged value, W1C clears the bits written 1, every other code
ignores the write (R8). -/
def Dev.put (d : Dev) (x : Fld) (w : RegWr) (i : Nat := 0) (j : Nat := 0) : Dev :=
  match x.acc with
  | .rw => d.setIJ x i j (w.merged x (d.f x i j))
  | .rwst => d.setIJ x i j (w.merged x (d.f x i j))
  | .w1c => d.setIJ x i j (d.f x i j &&& (2 ^ x.w - 1 - w.fld x))
  | _ => d

/-- A write of every field of a register by its access code. -/
def Dev.putAll (d : Dev) (xs : List (Fld × Nat × Nat)) (w : RegWr) : Dev :=
  xs.foldl (fun d p => d.put p.1 w p.2.1 p.2.2) d

/-- The stored value of a whole register: its fields in place; WO fields read zero (R8). -/
def Dev.stored (d : Dev) (off : Nat) : Nat :=
  (fldsAt off).foldl (fun a p => a + (if p.1.acc == .wo then 0 else d.f p.1 p.2.1 p.2.2 * 2 ^ p.1.lo)) 0

/-- Clear the RC fields of a register, as a read does (R8, R10). -/
def Dev.clearRc (d : Dev) (off : Nat) : Dev :=
  (fldsAt off).foldl (fun d p => if p.1.acc == .rc then d.setIJ p.1 p.2.1 p.2.2 0 else d) d

/-- The register target answers (R508, R509). -/
def Dev.respond (d : Dev) (c : Rsp) (v : Nat := 0) : Dev :=
  { d with fab := { d.fab with tgtCode := c, tgtData := BitVec.ofNat 64 v } }

/-- The attributes of an access by an agent of an offset; none for the block's own units, whose writes do not pass the register
target (R472). -/
def accessAttr (a : Agent) (off : Nat) : Option PmcAttr :=
  match a with
  | .curator => some { priv := some 0, addr := some off }
  | .docent => some { priv := some 1, addr := some off }
  | .host f _ => some { priv := some 2, func := some f.val, addr := some off }
  | _ => none

/-- The register target has been accessed: event 01h of R471, after the access, under the configuration `old` from before it,
which a write changes from the following cycle on (R474). -/
def Dev.accessed (d old : Dev) (a : Agent) (off : Nat) : Dev :=
  match accessAttr a off with
  | none => d
  | some at' =>
    (List.range 8).foldl (fun d k => if old.pmcMeant k 1 at' && bit (d.f F.OBS_PMC_RUN_RUN) k then d.pmcAdd k 1 else d) d

/-- A write to an unpowered domain: answered DONE, discarded, counted, and REG_DROPPED at most once per tick (R495). -/
def Dev.regDropped (d : Dev) (off : Nat) : Dev :=
  let d := ((d.count F.RST_REG_DROP_COUNT).set F.RST_REG_DROP_LAST_OFS off).respond .done
  if d.pwr.dropRaised then d else { d.raise 1607 with pwr := { (d.raise 1607).pwr with dropRaised := true } }

/-- Whether a register target access is answered DENY: in Still and Off by the stub, and an unprivileged write (R475,
R509). -/
def Dev.denied (d : Dev) (a : Agent) : Bool :=
  d.inStill || d.inOff || (match a with | .host _ u => u | _ => false)

/-- A request in Still or Off: the stub answers DENY, and the request is a host wake (R426, R509). -/
def Dev.stub (d : Dev) : Dev := (d.wake 3).respond .deny

/-- The core, and with it the register target, is stopped (R429). -/
def Dev.asleep (d : Dev) : Bool := d.inStill || d.inOff

/-- An access of the agent reaches the register target: a host's passes crossing 7, which holds it while it is not open (R52, R53). In
Still and Off the stub stands in AON (R426, R509). -/
def Dev.reach (d : Dev) (a : Agent) : Bool := d.asleep || !a.isHost || d.xOpen 7

end Machine

end Sys2Proof
end

