-- ==== Sys2Proof/Machine/Docent.lean ====
section
/-! DEFINITION. What Docent's going down does (R350, R354 to R356), the protection unit that may cause it (R336, R337), and the gates that
every register access passes. -/

namespace Sys2Proof.Machine

/-- Word k of the area of mailbox n. -/
def Dev.mbWord (d : Dev) (n k : Nat) : Nat := d.f F.MBX_AREA_DATA n k

/-- Write words into an area from word k on; the area has 512. -/
def Dev.mbFill (d : Dev) (n k : Nat) (l : List Nat) : Dev :=
  ((l.take (512 - k)).zipIdx).foldl (fun d x => d.setIJ F.MBX_AREA_DATA n (k + x.2) x.1) d

/-- Mailbox n is with the firmware. -/
def Dev.mbOwned (d : Dev) (n : Nat) : Bool := d.b F.MBX_STAT_OWNER n

/-- The firmware's response: written, released, and reported (R344, R345). -/
def Dev.mbRespond (d : Dev) (n status : Nat) (body : List Nat) : Dev :=
  let w0 := d.mbWord n 0
  let d := d.mbFill n 0 ((w0 % 2 ^ 24 + status * 2 ^ 24 + 8 * body.length * 2 ^ 32 + bits w0 44 2 * 2 ^ 44) :: body)
  ((d.setI F.MBX_STAT_OWNER n 0).setI F.MBX_STAT_RESP_SEQ n (w0 % 2 ^ 16)).raise (1440 + n)

/-- Entry to a boot stage (R341). -/
def Dev.bootStage (d : Dev) (k : Nat) : Dev := (d.set F.MBX_BOOT_STAGE k).raise 1444

/-- The integration record becomes ID_INTEG: the one the Curator patch carried, else the default (R27). -/
def Dev.writeInteg (d : Dev) : Dev :=
  let v := if bit d.fw.integ 63 then d.fw.integ else 2 ^ 63 + 2 ^ 18 + 2 ^ 17
  (fldsAt 0x20).foldl (fun d p => d.set p.1 (bits v p.1.lo p.1.w)) d

/-- Curator begins to fetch an image; it votes on PD31 until the fetch ends (R339, R341). -/
def Dev.imgFetch (d : Dev) (l : ImgLoad) : Dev :=
  { d with
    fw := { d.fw with load := some { l with begun := true } }
    pwr := { d.pwr with imageVote := true } }.request
    { kind := .image, write := false, mstr := 4, func := d.f F.MBX_ACL_CTRL_FN, addr := l.addr, len := l.len, data := [] }

/-- The Docent image is fetched: stage 5, and ID_INTEG at the first load (R341). -/
def Dev.docentFetch (d : Dev) (l : ImgLoad) : Dev :=
  let d := d.bootStage 5
  let d := if d.fw.loaded then d else d.writeInteg
  let d := { d with fw := { d.fw with loaded := true, accepted := false, restartDue := false } }
  (d.set F.MBX_FW_STAT_DSTATE 1).imgFetch l

/-- Docent no longer runs: MB0 is answered 0Dh, MB1 released, its notices discarded; table operations, votes and staged sets
stay (R355). -/
def Dev.docentHalted (d : Dev) (cause : Nat) : Dev :=
  let d := (d.set F.MBX_FW_STAT_DSTATE 4).set F.MBX_FW_STAT_DOWN_CAUSE cause
  let d := if d.mbOwned 0 then d.mbRespond 0 0x0D [] else d
  { d.setI F.MBX_STAT_OWNER 1 0 with fw := { (d.setI F.MBX_STAT_OWNER 1 0).fw with notices := [], lost := 0, down := true } }

/-- A DOCENT_LOAD waits for the running Docent to stop (R350). -/
def Dev.loadWaits (d : Dev) : Option ImgLoad := d.fw.load.filter (fun l => l.type == 2 && !l.begun)

/-- Curator declares Docent down (R354 to R356); one that ran for 60 s since DOCENT_READY has its automatic restarts again. A DOCENT_LOAD
that waited for Docent to stop goes on; otherwise an automatic restart may be due. -/
def Dev.docentDown (d : Dev) (cause : Nat) : Dev :=
  if d.f F.MBX_FW_STAT_DSTATE != 2 && d.f F.MBX_FW_STAT_DSTATE != 3 then d
  else
    let d := ((d.docentHalted cause).count F.MBX_FW_STAT_DOWN_COUNT).raise 1446
    let d := if d.fw.auto && d.clk.ticks > d.fw.readyTick + 480000 then d.set F.MBX_FW_STAT_AUTO_LEFT 3 else d
    match d.loadWaits with
    | some l => d.docentFetch l
    | none => { d with fw := { d.fw with restartDue := d.fw.auto && d.f F.MBX_FW_STAT_AUTO_LEFT != 0 } }

/-! The protection unit (R336, R337). -/

/-- Registers that only Curator writes (R521, flag C; R336), and the Vitrine's, which Docent reads only. A write of MBX_WDOG is Docent's kick
whatever it holds in WD_MS, and of OBS_CTL only CURATOR_VIS is Curator's. -/
def mpuWrite (off : Nat) : Bool :=
  off == 0x10020 || off == 0x20810 || (0x20840 ≤ off && off < 0x208C0) || (0x20900 ≤ off && off < 0x20A08) || off == 0x40028 ||
    off == 0x160008 || (0x160050 ≤ off && off ≤ 0x160070) || (0x160100 ≤ off && off < 0x160200) ||
    off == 0x178080 || off == 0x178088 || off == 0x1780A0 || domainOf off == 32

/-- Docent has no access to TDS_KEYSTAT (R336). -/
def mpuRead (off : Nat) : Bool := off == 0x40028

/-! The gates. -/

/-- The gates every register write passes before its own effect: the crossing (R53); the stub; the protection unit, which stops
Docent (R337); DENY (R509); and the power of its domain (R495). -/
def Dev.gated (d : Dev) (off : Nat) (w : RegWr) (g : Dev → Dev) : Dev :=
  if !d.reach w.agent then d
  else if d.asleep then d.stub
  else if w.agent == .docent && mpuWrite off then (d.respond .done).docentDown 2
  else
    (if d.denied w.agent then d.respond .deny
     else if !d.on (domainOf off) then d.regDropped off
     else (g d).respond .done).accessed d w.agent off

/-- The gates every register read passes: the crossing, the stub, the protection unit, DENY, and an unpowered domain, which reads zero
(R53, R337, R495, R509). -/
def Dev.gatedRead (d : Dev) (a : Agent) (off : Nat) (g : Dev → Nat × Dev) : Dev :=
  if !d.reach a then d
  else if d.asleep then d.stub
  else if a == .docent && mpuRead off then (d.respond .done 0).docentDown 2
  else
    (if d.denied a then d.respond .deny
     else if !d.on (domainOf off) then d.respond .done 0
     else let r := g d; r.2.respond .done r.1).accessed d a off

end Sys2Proof.Machine
end

