-- ==== Sys2Proof/Machine/Settle.lean ====
section
/-! DEFINITION. What follows from the state without a command: the domain votes of the seven clients (R414), the power-up and
power-down they begin (R416, R417, R489), the derived power state (R420), the start of a Watch exit (R425, R427), and
the level outputs (R126, R311, R315, R435). Every meaning ends in `Dev.settle`. -/

namespace Sys2Proof.Machine

/-- An entry to Still or Off has passed its holds, or the block is in Still or Off: the scheduler votes for nothing. -/
def Dev.lowPower (d : Dev) : Bool :=
  d.inStill || d.inOff || (match d.pwr.entry with | .dropping _ => true | .awaitAvs _ => true | _ => false)

/-- The Watch controller holds the votes on the front domains (R422, R425). -/
def Dev.watchOwns (d : Dev) : Bool := d.f F.PWR_WATCH_STAT_PHASE != 0

/-- The keep-alive set without AON (R24 glossary). -/
def keepAlive : List Nat := [1, 2, 3, 4, 8, 9, 10, 32]

/-- The front domains that Watch switches (R422). -/
def frontSet : List Nat := [2, 4, 8, 9, 10]

/-- A flow context holds a frame, in the packet buffer or in host memory. -/
def FlowCtx.busy (x : FlowCtx) : Bool := !x.frames.isEmpty || x.rem.isSome || !x.spilled.isEmpty || x.fetch.isSome

/-- A wait queue holds a frame (R263). -/
def CqCtx.waiting (x : CqCtx) : Bool := !x.wait.isEmpty || x.job.isSome

/-- A frame waits in a flow context or an egress class. -/
def Dev.queued (d : Dev) : Bool := d.qsc.ctx.any (fun p => p.2.busy) || d.qsc.egr.any (fun p => !p.2.frames.isEmpty)

/-- An accepted frame is still held in domain k (R26): in a pipeline, a port, the packet buffer, the queues or a wait queue. -/
def Dev.holdsFrames (d : Dev) (k : Nat) : Bool :=
  if 11 ≤ k && k ≤ 13 then !(d.cls.fifo.getD (k - 11) []).isEmpty || !(d.cls.flights.getD (k - 11) []).isEmpty
  else if 18 ≤ k && k ≤ 21 then (match d.upm.ports.look (k - 18) with | some p => p.held.isSome | none => false)
  else if 22 ≤ k && k ≤ 25 then d.queued || d.hrg.cq.any (fun p => p.2.waiting)
  else k == 26 && d.queued

/-- The ring engine has a doorbell, a taken entry, a reservation, an unwritten completion or a waiting frame (R414). -/
def Dev.ringsBusy (d : Dev) : Bool :=
  !d.pwr.heldDb.isEmpty || d.hrg.wq.any (fun p => !p.2.work.isEmpty) ||
  d.hrg.cq.any (fun p => p.2.res != 0 || p.2.sres != 0 || !p.2.stored.isEmpty || !p.2.fly.isEmpty || p.2.waiting)

/-- The unit holds: spilled frames and fetches (R233), Sluice channels (R281), and the rings (R414). -/
def Dev.holdsUnit (d : Dev) (k : Nat) : Bool :=
  ((k == 26 || k == 31) && d.qsc.ctx.any (fun p => !p.2.spilled.isEmpty || p.2.fetch.isSome)) ||
  ((k == 28 || k == 31) && d.slc.chans.any (fun p => p.2.state != 0 && p.2.state != 6)) ||
  (k == 27 && d.ringsBusy)

/-- A record is pending for an enabled queue, or a record write is under way (R317). -/
def Dev.holdsEvents (d : Dev) : Bool :=
  d.evq.issued.any (fun e => e.st == .flying) || !d.evq.loose.isEmpty ||
  d.evq.issued.any (fun e => e.st == .returned && d.b F.EVQ_Q_CFG_EN e.q) ||
  d.evq.pend.any (fun r => d.b F.EVQ_Q_CFG_EN (d.f F.EVQ_SRC_TARGET r.src))

/-- Some staging set is not IDLE (R369). -/
def Dev.holdsStaging (d : Dev) : Bool := (List.range 4).any (fun s => d.f F.STG_STAT_STATE s != 0)

/-- What the hardware scheduler holds on PDk whatever else is voted (R26, R73, R233, R281, R317, R369, R414). -/
def Dev.schedHold (d : Dev) (k : Nat) : Bool :=
  (4 ≤ k && k ≤ 7 && (d.ds.slices.getD (k - 4) none).isSome) ||
  ((k == 29 || k == 31) && d.holdsEvents) ||
  (k == 1 && d.holdsStaging) ||
  d.holdsFrames k || d.holdsUnit k

/-- ID_INTEG says that what PDk serves is not wired; the votes on it of clients other than Curator are refused (R415). -/
def Dev.domUnwired (d : Dev) (k : Nat) : Bool :=
  (18 ≤ k && k ≤ 21 && !bit (d.f F.ID_INTEG_PORT_WIRED) (k - 18)) ||
  (k == 30 && !d.b F.ID_INTEG_TWIN_WIRED) ||
  ((k == 27 || k == 28 || k == 29 || k == 31) && !d.b F.ID_INTEG_FAB_WIRED)

/-- The hardware scheduler's vote on PDk (R73, R414), refused where R415 says so. -/
def Dev.schedVote (d : Dev) (k : Nat) : Bool :=
  !d.lowPower && !d.domUnwired k &&
    (k == 3 ||
     (frontSet.contains k && !d.watchOwns) ||
     (4 ≤ k && k ≤ 7 && k - 4 < d.f F.TDS_EFFORT_SLICES && !d.watchOwns) ||
     d.schedHold k)

/-- The client votes on PDk, bit c for client c (R414). -/
def Dev.votes (d : Dev) (k : Nat) : Nat :=
  b2n ((d.pwr.held && (k == 1 || k == 32)) || bit (d.f F.PWR_CVOTE_VOTE) (k - 1) || (d.pwr.imageVote && k == 31)) +
  2 * b2n (d.schedVote k) +
  4 * b2n (bit (d.f F.PWR_HVOTE_VOTE) (k - 1)) +
  8 * b2n (bit d.pwr.docentVotes k) +
  16 * b2n (bit d.pwr.twinVotes k) +
  32 * b2n (k == 32 && d.pwr.vitVote) +
  64 * b2n (bit d.pwr.watchVotes k)

/-- During start-up the keep-alive set comes up one domain at a time, in ascending number, but for PD32 (R489). -/
def Dev.mayRise (d : Dev) (k : Nat) : Bool :=
  !d.pwr.startup || k == 32 || (keepAlive.all (fun j => j ≥ k || d.f F.PWR_DOM_PSTATE j == 2) && keepAlive.contains k)

/-- Whether PDk is to be powered: some client votes for it (R414), and Curator, once HALTED, does not hold it off: every domain but PD01 and
AON (R342). -/
def Dev.wanted (d : Dev) (k v : Nat) : Bool := v != 0 && !(d.f F.MBX_BOOT_STAGE == 7 && 2 ≤ k)

/-- A level source that is enabled, armed and 1 captures (R305, R306). -/
def Dev.evLevelNow (d : Dev) (n : Nat) : Dev :=
  if d.on 29 && d.b F.EVQ_SRC_EN n && d.f F.EVQ_SRC_SENSE n == 0 && d.b F.EVQ_SRC_ARMED n && d.b F.EVQ_SRC_STATE n then d.capture n true
  else d

/-- PD29 captures again, its power-down reversed: level sources that rose in between capture (R305, R317). -/
def Dev.evLevelAll (d : Dev) : Dev := ((d.listed F.EVQ_SRC_STATE).map (·.1)).foldl Dev.evLevelNow d

/-- What the votes do to PDk: switch on, begin a power-down, or reverse one, which counts an abort (R414, R416, R417). -/
def Dev.domainSettle (d : Dev) (k : Nat) : Dev :=
  let v := d.votes k
  let want := d.wanted k v
  let d := d.setI F.PWR_DOM_VOTES k v
  match d.f F.PWR_DOM_PSTATE k with
  | 0 =>
    if want && d.mayRise k then
      { d.setI F.PWR_DOM_PSTATE k 1 with pwr := { d.pwr with seen := withBit d.pwr.seen k true } }
    else d
  | 2 => if !want then d.setI F.PWR_DOM_PSTATE k 3 else d
  | 3 =>
    if want then
      let d := (((d.setI F.PWR_DOM_PSTATE k 2).count F.PWR_DOM_CNT_ABORTS k).setI F.PWR_DOM_CNT_ABORT_SRC k
        (d.pwr.latched.getD 8)).raise 1356
      if k == 29 then d.evLevelAll else d
    else d
  | _ => d

/-- PD1 to PD32. -/
def domains : List Nat := (List.range 32).map (· + 1)

def Dev.domainsSettle (d : Dev) : Dev := domains.foldl Dev.domainSettle d

/-- A refusal on domain k with its REFUSER (R416). -/
def Dev.refusal (d : Dev) (k who : Nat) : Dev := ((d.count F.PWR_DOM_CNT_REFUSALS k).setI F.PWR_DOM_CNT_REFUSER k who).raise 1355

/-- A hold that the scheduler cannot vote for is recorded as it begins (R415, R416). -/
def Dev.schedRefusals (d : Dev) : Dev :=
  let no := [18, 19, 20, 21, 27, 28, 29, 30, 31].filter (fun k => d.domUnwired k && d.schedHold k && !d.lowPower)
  let fresh := no.filter (fun k => !bit d.pwr.schedNo k)
  fresh.foldl (fun d k => d.refusal k 7) { d with pwr := { d.pwr with schedNo := no.foldl (fun a k => withBit a k true) 0 } }

/-- Start-up ends when the keep-alive set is usable (R489). -/
def Dev.startupSettle (d : Dev) : Dev :=
  if d.pwr.startup && keepAlive.all (fun k => d.f F.PWR_DOM_PSTATE k == 2) then
    { d with pwr := { d.pwr with startup := false } }
  else d

/-- The traffic service of R25. -/
def Dev.trafficService (d : Dev) : Bool :=
  (keepAlive ++ [11, 12, 13, 14, 15, 16, 17, 22, 23, 24, 25, 26]).all d.on &&
  (((List.range 4).any (fun n => d.b F.UPM_CFG_EN n) &&
    (List.range 4).all (fun n => !d.b F.UPM_CFG_EN n || d.on (18 + n))) ||
   (d.on 27 && d.on 31))

/-- Enter power state c, recording the one left (R420, R438). -/
def Dev.enterPower (d : Dev) (c : Nat) : Dev :=
  ((d.set F.PWR_STATE_PREV (d.f F.PWR_STATE_STATE)).set F.PWR_STATE_STATE c).raise 1344

/-- RUN or TRIM, as the votes give (R420). -/
def Dev.stateSettle (d : Dev) : Dev :=
  let st := d.f F.PWR_STATE_STATE
  let want := if d.trafficService then 0 else 1
  if st ≤ 1 && st != want then d.enterPower want else d

/-- The mask of a list of domains. -/
def domMask (l : List Nat) : Nat := l.foldl (fun a k => withBit a k true) 0

/-- Domains that an entry powered down although a wake was latched count an abort with its code (R427). -/
def Dev.wakeAborts (d : Dev) : Dev :=
  match d.pwr.latched with
  | none => d
  | some c => domains.foldl (fun d k =>
      if bit d.pwr.entryMask k && d.f F.PWR_DOM_PSTATE k == 0 then
        ((d.count F.PWR_DOM_CNT_ABORTS k).setI F.PWR_DOM_CNT_ABORT_SRC k c).raise 1356
      else d) d

/-- The Watch controller withdraws its votes as the sampled frame n ends: PD02 with the sequencer's routine, PD04 and PD08 with
the last codeword, PD09 and PD10 with the last burst (R422, R423). -/
def Dev.watchVotesNow (d : Dev) (n : Nat) : Nat :=
  let busy := d.f F.SEQ_STAT_STATE == 1 || d.f F.SEQ_STAT_STATE == 2
  let decoding := d.f F.TDS_SYNC_STAT_STATE == 2 &&
    (if d.clk.sfc == n then !d.ds.frames.any (fun f => f.sfc == n && f.ended) else d.ds.frames.any (fun f => !f.ended))
  let sending := busy || !d.us.bursts.isEmpty
  domMask ((if busy then [2] else []) ++ (if decoding then [4, 8] else []) ++ (if sending then [9, 10] else [])) &&& d.pwr.watchVotes

/-- The Watch controller (R422, R423, R425, R427): a latched wake begins the exit, in Watch at once; else the votes follow the
sampled frame, and the front sleeps once they are gone. -/
def Dev.watchSettle (d : Dev) : Dev :=
  let ph := d.f F.PWR_WATCH_STAT_PHASE
  if d.inWatch && d.pwr.latched.isSome && ph != 5 then
    { d.set F.PWR_WATCH_STAT_PHASE 5 with pwr := { d.pwr with watchVotes := domMask frontSet } }
  else if ph == 2 || ph == 4 then
    match d.pwr.sample with
    | none => d
    | some n =>
      let v := d.watchVotesNow n
      let d := { d with pwr := { d.pwr with watchVotes := v } }
      if ph == 2 && v == 0 then d.set F.PWR_WATCH_STAT_PHASE 1 else d
  else d

/-- AVS_REQ takes a code; AVS_ACK is awaited (R411, R510). -/
def Dev.avsRequest (d : Dev) (code : Nat) : Dev :=
  { (d.set F.PWR_DVFS_STAT_AVS_REQ code).set F.PWR_DVFS_STAT_AVS_ACK 0 with pwr := { d.pwr with avsWait := true } }

/-- The core PLL stops, and with it every TICK (R45, R429). -/
def Dev.pllStop (d : Dev) : Dev := ((d.set F.CKX_CORE_CTL_SRC 0).set F.CKX_CORE_CTL_PLL_EN 0).set F.CKX_CORE_CTL_LOCK 0

/-- The entry to Still or Off goes on (R429, R432): the holds have ended, and PD02 to PD31 drop; then PD01 drops, the PLL stops and
VDD_CORE is requested off; then the state is reached. -/
def Dev.entrySettle (d : Dev) : Dev :=
  let off := fun k => d.f F.PWR_DOM_PSTATE k == 0
  match d.pwr.entry with
  | .none => d
  | .holds t =>
    if domains.any (fun k => d.schedHold k && !d.domUnwired k) then d
    else { d.set F.PWR_CVOTE_VOTE 0 with pwr := { d.pwr with entry := .dropping t, imageVote := false } }
  | .dropping t =>
    if !((List.range 30).map (· + 2)).all off then d
    else
      let d := { d with pwr := { d.pwr with held := false } }
      if !off 1 || d.pwr.avsWait then d
      else
        let d := (d.pllStop.set F.PWR_DVFS_STAT_TRIM 0).avsRequest 0
        { d with pwr := { d.pwr with entry := .awaitAvs t } }
  | .awaitAvs t =>
    if d.pwr.avsWait || (t == 4 && !off 32) then d
    else
      let d := ((d.wakeAborts).set F.PWR_REG_MODE (b2n (!d.pwr.keepNormal))).set F.PWR_STATE_ENTERING 0
      { d.enterPower t with pwr := { d.pwr with entry := .none, timer := 0 } }

/-- IRQ_n[q] is driven low (R311, R315, R511). -/
def Dev.irq (d : Dev) (q : Nat) : Bool :=
  d.on 29 && d.b F.EVQ_Q_CFG_EN q && !d.b F.EVQ_Q_CFG_ASLEEP q && d.f F.EVQ_Q_PI_PI q != d.f F.EVQ_Q_CI_CI q

/-- PHY_SLEEP: the automatic cause (R126), a rogue condition (R125), Watch or its entry with PD09 unpowered (R422, R423), or Still; in every
case low from PHY_WAKE before a TX_EN rise until TX_EN falls (R126). -/
def Dev.phySleep (d : Dev) : Bool :=
  !d.us.phyHold && !d.b F.TUS_STAT_TX_EN &&
  ((d.b F.TUS_CTL_AUTO_SLEEP && d.us.autoSleep) || d.us.rogueHold || (d.watchOwns && !d.on 9) || d.inStill)

/-- US_VALID is high in the words that hold bits of a burst (R121). -/
def Dev.usValid (d : Dev) : Bool := d.us.bursts.any (fun b => b.st == .onAir)

/-- IRQ_n[7:0] as driven. -/
def Dev.irqPins (d : Dev) : Nat := (List.range 8).foldl (fun a q => if d.irq q then a else a + 2 ^ q) 0

/-- Port n drives words: UPn_TXV is low only while EN is 0 or its clock has just left reset (R193), and without its domain's power. -/
def Dev.upTxV (d : Dev) (n : Nat) : Bool := d.b F.UPM_CFG_EN n && d.on (18 + n)

/-- Lanes that a port uses at a rate code (R193). -/
def rateLanes (r : Nat) : Nat := 2 ^ (r % 4)

/-- UPn_TXC of a word without a lane of a frame: LPI in every used lane during low-power idle, else IDLE, which is code 0h (R192, R216). -/
def Dev.upTxC (d : Dev) (n : Nat) : Nat :=
  if d.upTxV n && d.b F.UPM_STAT_TX_LPI n then (List.range (rateLanes (d.f F.UPM_CFG_RATE n))).foldl (fun a k => a + 4 * 16 ^ k) 0 else 0

/-- The level outputs that follow from the rest of the state. -/
def Dev.drivePins (d : Dev) : Dev :=
  { d with pins := { d.pins with
    irqN := d.irqPins, phySleep := d.phySleep, txEn := d.b F.TUS_STAT_TX_EN, usValid := d.usValid
    thermTrip := d.b F.PWR_THERM_STAT_TRIP
    upTxV := (List.range 4).foldl (fun a n => a + b2n (d.upTxV n) * 2 ^ n) 0
    upTxC := (List.range 4).map d.upTxC } }

/-- In Still the regulator is in LOW, but for the time PD32 signs a record, or where a brown-out keeps NORMAL until the next entry (R406,
R407). -/
def Dev.regSettle (d : Dev) : Dev :=
  if d.inStill && !d.pwr.exiting then d.setB F.PWR_REG_MODE (!d.pwr.keepNormal && d.vit.waiting.isNone) else d

/-- Everything that follows from the state. -/
def Dev.settle (d : Dev) : Dev :=
  d.watchSettle.entrySettle.schedRefusals.domainsSettle.startupSettle.domainsSettle.stateSettle.regSettle.drivePins

/-- A command that always completes: the effect on the device, settled, with the queue as it is. -/
def State.run (s : State) (g : Dev → Dev) : Host.Outcome State Fault Refusal :=
  .next { s with dev := (g s.dev).settle }

end Sys2Proof.Machine
end

