-- ==== Sys2Proof/Machine/Events.lean ====
section
/-! DEFINITION. Event queues (11): the order of writing (R308), records (R309, R310), answers (R311, R315, R316), consumer
indices (R312, R313), sources (R304 to R306) and configuration (R317). -/

namespace Sys2Proof.Machine

/-- Kind of a source number (R304 and the owning chapters' tables): 0 reserved, 1 state, 2 occurrence. -/
def srcKind (s : Nat) : Nat :=
  if s ≤ 1027 then 1
  else if s ≤ 1036 then 2
  else if 1040 ≤ s && s ≤ 1123 then 2
  else if 1152 ≤ s && s ≤ 1159 then 2
  else if 1184 ≤ s && s ≤ 1188 then 2
  else if 1216 ≤ s && s ≤ 1221 then 2
  else if 1248 ≤ s && s ≤ 1251 then 2
  else if 1280 ≤ s && s ≤ 1287 then 2
  else if 1312 ≤ s && s ≤ 1314 then 2
  else if 1349 ≤ s && s ≤ 1351 then 1
  else if 1344 ≤ s && s ≤ 1360 then 2
  else if 1408 ≤ s && s ≤ 1416 then 2
  else if 1440 ≤ s && s ≤ 1448 then 2
  else if 1472 ≤ s && s ≤ 1476 then 2
  else if s == 1507 || s == 1510 then 1
  else if 1504 ≤ s && s ≤ 1510 then 2
  else if 1536 ≤ s && s ≤ 1545 then 2
  else if 1568 ≤ s && s ≤ 1575 then 2
  else if s == 1576 || s == 1577 then 1
  else if s == 1578 || s == 1579 then 2
  else if 1600 ≤ s && s ≤ 1607 then 2
  else if 1632 ≤ s && s ≤ 1647 then 1
  else if 2040 ≤ s && s ≤ 2047 then 1
  else 0

/-- Ring size of queue q in records. -/
def Dev.evSize (d : Dev) (q : Nat) : Nat := 2 ^ d.f F.EVQ_Q_CFG_LOG2SIZE q

/-- Records bound to queue q and not yet passed by PI. -/
def Dev.evBound (d : Dev) (q : Nat) : List EvIssue := d.evq.issued.filter (fun e => e.q == q)

/-- The full condition of R313. -/
def Dev.evFull (d : Dev) (q : Nat) : Bool :=
  (d.f F.EVQ_Q_PI_PI q + (d.evBound q).length + 2 ^ 18 - d.f F.EVQ_Q_CI_CI q) % 2 ^ 18 == d.evSize q

/-- FULL and the state sources of queue q follow its condition (R313, R316). -/
def Dev.evLevels (d : Dev) (q : Nat) : Dev :=
  let full := d.evFull q
  ((d.setB F.EVQ_Q_STAT_FULL full q).level (1632 + q) full).level (1640 + q) (d.b F.EVQ_Q_STAT_FAULT q)

/-- A pulse of WAKE_REQ (R315, R512). -/
def Dev.wakeReq (d : Dev) : Dev := { d with pins := { d.pins with wakeReqs := d.pins.wakeReqs + 1 } }

/-- Order of two records by capture cycle, then by source (R308). -/
def EvRec.before (a b : EvRec) : Bool := a.cyc < b.cyc || (a.cyc == b.cyc && a.src < b.src)

/-- The first record in the order of R308. -/
def evFirst (l : List EvRec) : Option EvRec :=
  l.foldl (fun o r => match o with | none => some r | some b => if r.before b then some r else some b) none

/-- The lowest returned record of queue q, which is written again before any other (R316). -/
def Dev.evReturned (d : Dev) (q : Nat) : Option EvIssue :=
  (d.evBound q).find? (fun e => e.st == .returned)

/-- Queue q takes writes: enabled and free of fault (R308). -/
def Dev.evOpen (d : Dev) (q : Nat) : Bool := d.b F.EVQ_Q_CFG_EN q && !d.b F.EVQ_Q_STAT_FAULT q

/-- The record to write next and, where it is bound already, its binding (R308, R316). -/
def Dev.evPick (d : Dev) : Option (EvRec × Option EvIssue) :=
  let back := (List.range 8).filterMap (fun q => if d.evOpen q then d.evReturned q else none)
  let fresh := d.evq.pend.filter (fun r =>
    let q := d.f F.EVQ_SRC_TARGET r.src
    d.evOpen q && !d.evFull q && (d.evReturned q).isNone)
  match evFirst (back.map (·.record) ++ fresh) with
  | none => none
  | some r => some (r, back.find? (fun e => e.record == r))

/-- The octets of a record (R309, R310). -/
def Dev.evBytes (d : Dev) (e : EvIssue) : List Byte :=
  let r := e.record
  let w0 := r.src + r.sense * 2 ^ 11 + b2n r.state * 2 ^ 13 + b2n r.mrg * 2 ^ 14 + r.sfc % 65536 * 2 ^ 16 + e.seq % 2 ^ 32 * 2 ^ 32
  let w1 := r.cyc % 2 ^ 32 + (1 - e.idx / d.evSize e.q % 2) * 2 ^ 63
  leBytes 8 w0 ++ leBytes 8 w1

/-- Issue the write of a bound record (R311). -/
def Dev.evIssue (d : Dev) (e : EvIssue) : Dev :=
  d.request { kind := .eventRecord e.q e.idx, write := true, mstr := 3, func := d.f F.EVQ_Q_CFG_FUNC e.q
              addr := d.f F.EVQ_Q_BASE_BASE e.q + 16 * (e.idx % d.evSize e.q), len := 16, data := d.evBytes e }

/-- The oldest pending record for a queue with room is issued (R308, R314). -/
def Dev.evWrite (d : Dev) : Dev :=
  if !d.on 29 || !d.on 31 then d
  else match d.evPick with
    | none => d
    | some (_, some e) =>
      { d with evq := { d.evq with
          issued := d.evq.issued.map (fun i => if i == e then { i with st := .flying } else i) } }.evIssue e
    | some (r, none) =>
      let q := d.f F.EVQ_SRC_TARGET r.src
      let idx := (d.f F.EVQ_Q_PI_PI q + (d.evBound q).length) % 2 ^ 18
      let e : EvIssue := { q := q, idx := idx, seq := d.f F.EVQ_Q_STAT_SEQ q, record := r, st := .flying }
      let d := { d with evq := { d.evq with pend := d.evq.pend.erase r, issued := d.evq.issued ++ [e] } }
      ((d.setI F.EVQ_Q_STAT_SEQ q (d.f F.EVQ_Q_STAT_SEQ q + 1)).evIssue e).evLevels q

def execEventRecordWrite (s : State) : Host.Outcome State Fault Refusal := s.run Dev.evWrite

/-- PI passes the records of queue q answered DONE, in index order (R311); `n` bounds their number. -/
def Dev.evAdvance (d : Dev) (q : Nat) : Nat → Dev
  | 0 => d
  | n + 1 =>
    let pi := d.f F.EVQ_Q_PI_PI q
    match (d.evBound q).find? (fun e => e.idx == pi) with
    | some e =>
      if e.st != .landed then d
      else
        let d1 := { d with evq := { d.evq with issued := d.evq.issued.erase e } }
        let d1 := d1.setI F.EVQ_Q_PI_PI q (pi + 1)
        (if d.b F.EVQ_Q_CFG_ASLEEP q && pi == d.f F.EVQ_Q_CI_CI q then d1.wakeReq else d1).evAdvance q n
    | none => d

/-- Two records of one source become one: the first capture with the other merged into it (R307). -/
def EvRec.join (a b : EvRec) : EvRec :=
  let first := if b.before a then b else a
  { first with mrg := true, merges := a.merges + b.merges + 1 }

/-- A record becomes an ordinary pending one; a source holds at most one (R307, R316). -/
def Dev.evBack (d : Dev) (r : EvRec) : Dev :=
  let pend := if d.evq.pend.any (fun p => p.src == r.src) then mapFirst (fun p => p.src == r.src) r.join d.evq.pend else r :: d.evq.pend
  { d with evq := { d.evq with pend := pend } }

/-- Records bound to a queue that is not enabled become ordinary pending ones (R316). -/
def Dev.evUnbind (d : Dev) (q : Nat) : Dev :=
  let back := (d.evBound q).filter (fun e => e.st == .returned)
  (back.map (·.record)).foldl Dev.evBack
    { d with evq := { d.evq with issued := d.evq.issued.filter (fun e => !(e.q == q && e.st == .returned)) } }

/-- The write of a bound record has failed: it is pending again, still bound, with a fresh record of its source merged into it
(R307, R316). -/
def Dev.evReturn (d : Dev) (e : EvIssue) : Dev :=
  let r := match d.evq.pend.find? (fun p => p.src == e.record.src) with
    | some p => e.record.join p
    | none => e.record
  { d with evq := { d.evq with
      pend := d.evq.pend.filter (fun p => p.src != e.record.src)
      issued := d.evq.issued.map (fun i => if i == e then { i with st := .returned, record := r } else i) } }

/-- The answer to a record whose binding a disabled queue ended: it is written, or becomes an ordinary pending record (R316). -/
def Dev.evLoose (d : Dev) (e : EvIssue) (ok : Bool) : Dev :=
  let d := { d with evq := { d.evq with loose := d.evq.loose.erase e } }
  if ok then d.countN F.EVQ_Q_STAT_MERGED e.record.merges e.q
  else ((d.evBack e.record).setI F.EVQ_Q_STAT_FAULT e.q 1).evLevels e.q

/-- A record write is answered (R311, R316). -/
def Dev.evDone (q idx : Nat) (c : Rsp) (d : Dev) : Dev :=
  d.answer (.eventRecord q idx) c (fun r d =>
    let d := if c.ok then d.pmc 18 1 { func := some r.func } else d
    match d.evq.loose.find? (fun e => e.q == q && e.idx == idx), (d.evBound q).find? (fun e => e.idx == idx && e.st == .flying) with
    | some e, _ => d.evLoose e c.ok
    | none, none => d
    | none, some e =>
      if c.ok then
        let d := { d with evq := { d.evq with issued := d.evq.issued.map (fun i => if i == e then { i with st := .landed } else i) } }
        let d := d.countN F.EVQ_Q_STAT_MERGED e.record.merges q
        (d.evAdvance q (d.evBound q).length).evLevels q
      else
        let d := (d.evReturn e).setI F.EVQ_Q_STAT_FAULT q 1
        (if d.b F.EVQ_Q_CFG_EN q then d else d.evUnbind q).evLevels q)

def execEventRecordDone (q idx : Nat) (c : Rsp) (s : State) : Host.Outcome State Fault Refusal := s.run (Dev.evDone q idx c)

/-- A consumer index (R312). -/
def Dev.writeEvqCi (q : Nat) (w : RegWr) (d : Dev) : Dev :=
  let c := w.merged F.EVQ_Q_CI_CI (d.f F.EVQ_Q_CI_CI q)
  let pi := d.f F.EVQ_Q_PI_PI q
  let ci := d.f F.EVQ_Q_CI_CI q
  let ahead := (pi + 2 ^ 18 - c) % 2 ^ 18
  if ahead ≤ d.evSize q && ahead ≤ (pi + 2 ^ 18 - ci) % 2 ^ 18 then (d.setI F.EVQ_Q_CI_CI q c).evLevels q
  else d.setI F.EVQ_Q_STAT_CI_BAD q 1

def execEvqCiWrite (q : Nat) (w : RegWr) (s : State) : Host.Outcome State Fault Refusal :=
  s.run (fun d => if q ≥ 8 then d else d.gated (0x150018 + 0x40 * q) w (Dev.writeEvqCi q w))

/-- A refused configuration write (R317). -/
def Dev.evRefuse (d : Dev) (why q : Nat) : Dev :=
  ((d.set F.EVQ_STAT_REFUSED 1).set F.EVQ_STAT_WHY why).set F.EVQ_STAT_QUEUE q

/-- A write of EVQ_Q_CFG[q] (R310, R315 to R317). -/
def Dev.writeEvqCfg (q : Nat) (w : RegWr) (d : Dev) : Dev :=
  let en := w.merged F.EVQ_Q_CFG_EN (d.f F.EVQ_Q_CFG_EN q)
  let sz := w.merged F.EVQ_Q_CFG_LOG2SIZE (d.f F.EVQ_Q_CFG_LOG2SIZE q)
  let fn := w.merged F.EVQ_Q_CFG_FUNC (d.f F.EVQ_Q_CFG_FUNC q)
  let base := d.f F.EVQ_Q_BASE_BASE q
  let was := d.b F.EVQ_Q_CFG_EN q
  let slept := d.b F.EVQ_Q_CFG_ASLEEP q
  if was && (sz != d.f F.EVQ_Q_CFG_LOG2SIZE q || fn != d.f F.EVQ_Q_CFG_FUNC q) then d.evRefuse 1 q
  else if en == 1 && (sz < 6 || sz > 16 || base % 64 != 0 || base + 16 * 2 ^ sz > 2 ^ 48) then d.evRefuse 2 q
  else if en == 1 && !d.b F.ID_INTEG_FAB_WIRED then d.evRefuse 3 q
  else
    let d := (((d.setI F.EVQ_Q_CFG_EN q en).put F.EVQ_Q_CFG_ASLEEP w q).setI F.EVQ_Q_CFG_FUNC q fn).setI F.EVQ_Q_CFG_LOG2SIZE q sz
    let d :=
      if !was && en == 1 then
        ({ d with evq := { d.evq with
            issued := d.evq.issued.filter (fun e => e.q != q)
            loose := d.evq.loose ++ (d.evBound q).filter (fun (e : EvIssue) => e.st == EvSt.flying) } }.setI F.EVQ_Q_PI_PI q 0).setI F.EVQ_Q_CI_CI q 0
      else if was && en == 0 then d.evUnbind q
      else d
    let d :=
      if !slept && d.b F.EVQ_Q_CFG_ASLEEP q && d.f F.EVQ_Q_PI_PI q != d.f F.EVQ_Q_CI_CI q then d.wakeReq else d
    d.evLevels q

def execEvqQCfgWrite (q : Nat) (w : RegWr) (s : State) : Host.Outcome State Fault Refusal :=
  s.run (fun d => if q ≥ 8 then d else d.gated (0x150000 + 0x40 * q) w (Dev.writeEvqCfg q w))

/-- A write of EVQ_Q_BASE[q] is refused while the queue is enabled (R317). -/
def Dev.writeEvqBase (q : Nat) (w : RegWr) (d : Dev) : Dev :=
  if d.b F.EVQ_Q_CFG_EN q then d.evRefuse 1 q else d.put F.EVQ_Q_BASE_BASE w q

/-- A write of EVQ_Q_STAT[q]: clearing FAULT resumes writing with the bound record (R316). -/
def Dev.writeEvqStat (q : Nat) (w : RegWr) (d : Dev) : Dev :=
  ((d.put F.EVQ_Q_STAT_FAULT w q).put F.EVQ_Q_STAT_CI_BAD w q).evLevels q

def execEvqFaultClear (q : Nat) (w : RegWr) (s : State) : Host.Outcome State Fault Refusal :=
  s.run (fun d => if q ≥ 8 then d else d.gated (0x150020 + 0x40 * q) w (Dev.writeEvqStat q w))

/-- REARM of source n (R306). -/
def Dev.evRearm (d : Dev) (n : Nat) : Dev :=
  if d.evPending n then (d.set F.EVQ_STAT_REARM_EARLY 1).set F.EVQ_STAT_LAST_SRC n
  else d.setI F.EVQ_SRC_ARMED n 1

/-- A write of EVQ_SRC[n]; reserved sources ignore it (R304). -/
def Dev.writeEvqSrc (n : Nat) (w : RegWr) (d : Dev) : Dev :=
  if srcKind n == 0 then d
  else
    let d := (((d.put F.EVQ_SRC_SENSE w n).put F.EVQ_SRC_EN w n).put F.EVQ_SRC_TARGET w n).put F.EVQ_SRC_WAKE w n
    (if w.fld F.EVQ_SRC_REARM == 1 then d.evRearm n else d).evLevelNow n

/-- The row of a write of EVQ_SRC[n] with or without REARM. -/
def Dev.evSrcRow (rearm : Bool) (n : Nat) (w : RegWr) (d : Dev) : Dev :=
  if n ≥ 2048 || (w.fld F.EVQ_SRC_REARM == 1) != rearm then d else d.gated (0x158000 + 8 * n) w (Dev.writeEvqSrc n w)

def execEvqRearm (n : Nat) (w : RegWr) (s : State) : Host.Outcome State Fault Refusal := s.run (Dev.evSrcRow true n w)
def execEvqSrcWrite (n : Nat) (w : RegWr) (s : State) : Host.Outcome State Fault Refusal := s.run (Dev.evSrcRow false n w)

/-- A write of EVQ_SWSRC: the states of the software sources (R304). -/
def Dev.writeEvqSwsrc (w : RegWr) (d : Dev) : Dev :=
  let d := d.put F.EVQ_SWSRC_STATE w
  (List.range 8).foldl (fun d k => d.level (2040 + k) (bit (d.f F.EVQ_SWSRC_STATE) k)) d

def execEvqSwsrcWrite (w : RegWr) (s : State) : Host.Outcome State Fault Refusal :=
  s.run (fun d => d.gated 0x150208 w (Dev.writeEvqSwsrc w))

/-- A function reset, or the loss of FUNC's function, clears EN of its queues (R316). -/
def Dev.evFuncReset (d : Dev) (f : Nat) : Dev :=
  (List.range 8).foldl (fun d q =>
    if d.b F.EVQ_Q_CFG_EN q && d.f F.EVQ_Q_CFG_FUNC q == f then ((d.setI F.EVQ_Q_CFG_EN q 0).evUnbind q).evLevels q else d) d

/-- PD29 powers up: the previous state of every source is 0, so level and rising sources whose state is 1 capture (R317). -/
def Dev.evPowerUp (d : Dev) : Dev :=
  ((d.listed F.EVQ_SRC_STATE).map (·.1)).foldl (fun d n =>
    let sense := d.f F.EVQ_SRC_SENSE n
    if d.b F.EVQ_SRC_EN n && senseHit sense (d.b F.EVQ_SRC_ARMED n) false true then d.capture n true else d) d

end Sys2Proof.Machine
end

