-- ==== Sys2Proof/Machine/Parse.lean ====
section
/-! DEFINITION. The parser: tags, key kind and keys (R162 to R168), the checksums (R181, R182), and tag edits (R176). -/

namespace Sys2Proof.Machine

/-- The L of R18: up to the FCS for frames from a user port or the host. -/
def Frame.len (f : Frame) : Nat := if f.path == 0 then f.data.length else f.data.length + 4

/-- Octet i; octets beyond the end read zero. -/
def oct (d : List Byte) (i : Nat) : Nat := (d.getD i 0).toNat

/-- Sixteen bits at octet i, first transmitted octet high (R5). -/
def u16 (d : List Byte) (i : Nat) : Nat := oct d i * 256 + oct d (i + 1)

/-- Octets [i, i + n) as one number (R5). -/
def field (d : List Byte) (i n : Nat) : Nat := ofBe ((List.range n).map (fun k => d.getD (i + k) 0))

/-- What the parser finds in a frame. `ntag` is 3 for a third tag; `kind` is 0 for an L2-only key, else 4 or 6; `l3` and
`l4` are the octets where the IP header starts and where what follows its headers starts. -/
structure Parsed where
  ntag : Nat
  otpid : Bool
  ovid : Nat
  ivid : Nat
  etype : Nat
  kind : Nat
  why : Nat
  frag : Bool
  proto : Nat
  sport : Nat
  dport : Nat
  l3 : Nat
  l4 : Nat
  deriving DecidableEq, Repr

/-- A tag of either TPID. -/
def isTpid (t : Nat) : Bool := t == 0x8100 || t == 0x88A8

/-- The TPID or type at octet i; a value that does not lie in the frame is no TPID. -/
def typeAt (d : List Byte) (i : Nat) : Nat := if i + 2 ≤ d.length then u16 d i else 0

/-- The tags and the type field: number recognised, whether case 1 of R162 holds, and the octet of the type field. -/
def tagScan (d : List Byte) : Nat × Bool × Nat :=
  if !isTpid (typeAt d 12) then (0, false, 12)
  else if typeAt d 16 == 0x88A8 then (1, true, 16)
  else if typeAt d 16 != 0x8100 then (1, false, 16)
  else if isTpid (typeAt d 20) then (3, true, 20)
  else (2, false, 20)

/-- How the walk over the IPv6 extension headers ends (R164). -/
inductive Walk where
  | done (proto : Nat) (frag : Bool) (l4 : Nat)
  | stuck
  | beyond
  deriving DecidableEq, Repr

/-- The walk at Next Header value nh with the next header at octet p, after n extension headers (R164). -/
def walk6 (d : List Byte) (lim : Nat) : Nat → Nat → Nat → Nat → Bool → Walk
  | 0, _, _, _, _ => .stuck
  | fuel + 1, nh, p, n, frag =>
    if ([51, 135, 139, 140, 253, 254] : List Nat).contains nh then .stuck
    else if !([0, 43, 60, 44] : List Nat).contains nh then .done nh frag p
    else if n == 4 || (nh == 0 && n != 0) then .stuck
    else if nh == 44 then
      if p + 4 > lim then .beyond
      else if u16 d (p + 2) / 8 != 0 then .done (oct d p) true (p + 8)
      else walk6 d lim fuel (oct d p) (p + 8) (n + 1) true
    else if p + 2 > lim then .beyond
    else walk6 d lim fuel (oct d p) (p + 8 * (oct d (p + 1) + 1)) (n + 1) frag

/-- A parse that ends in an L2-only key with reason w. -/
def Parsed.onlyL2 (p : Parsed) (w : Nat) : Parsed := { p with kind := 0, why := w, frag := false, proto := 0, sport := 0, dport := 0 }

/-- Ports, or case 6 of R162 where they lie beyond the limit (R163, R164). -/
def Parsed.ports (p : Parsed) (d : List Byte) (lim : Nat) : Parsed :=
  if p.frag || !(p.proto == 6 || p.proto == 17) then p
  else if p.l4 + 4 > lim then p.onlyL2 2
  else { p with sport := u16 d p.l4, dport := u16 d (p.l4 + 2) }

/-- Cases 3, 6 and 7 of R162. -/
def Parsed.ipv4 (p : Parsed) (d : List Byte) (lim : Nat) : Parsed :=
  let s := p.l3
  if s + 4 > lim then p.onlyL2 2
  else
    let ihl := oct d s % 16
    let tot := u16 d (s + 2)
    if oct d s / 16 != 4 || ihl < 5 || tot < 4 * ihl then p.onlyL2 4
    else if s + 20 > lim then p.onlyL2 2
    else
      let fl := u16 d (s + 6)
      ({ p with kind := 4, why := 0, frag := bit fl 13 || fl % 8192 != 0, proto := oct d (s + 9), l4 := s + 4 * ihl }).ports
        d (min lim (s + tot))

/-- Cases 4, 5, 6 and 8 of R162. -/
def Parsed.ipv6 (p : Parsed) (d : List Byte) (lim : Nat) : Parsed :=
  let s := p.l3
  if s + 1 > lim then p.onlyL2 2
  else if oct d s / 16 != 6 then p.onlyL2 4
  else if s + 7 > lim then p.onlyL2 2
  else
    let lim6 := min lim (s + 40 + u16 d (s + 4))
    match walk6 d lim6 6 (oct d (s + 6)) (s + 40) 0 false with
    | .stuck => p.onlyL2 3
    | .beyond => p.onlyL2 2
    | .done proto frag l4 =>
      if s + 40 > lim then p.onlyL2 2
      else ({ p with kind := 6, why := 0, frag := frag, proto := proto, l4 := l4 }).ports d lim6

/-- The parser (R162 to R165), on octets 0 to 127. A tag is recognised by its TPID; a VID or type that does not lie in the frame is zero
(DEDUCED, log entry 17). -/
def parse (d : List Byte) : Parsed :=
  let lim := min d.length 128
  let t := tagScan d
  let et := if t.2.2 + 2 ≤ lim then u16 d t.2.2 else 0
  let base : Parsed :=
    { ntag := t.1, otpid := t.1 != 0 && u16 d 12 == 0x88A8, ovid := if t.1 == 0 then 0 else typeAt d 14 % 4096
      ivid := if t.1 < 2 then 0 else typeAt d 18 % 4096, etype := if t.1 == 3 || et < 0x600 then 0 else et
      kind := 0, why := 0, frag := false, proto := 0, sport := 0, dport := 0, l3 := t.2.2 + 2, l4 := 0 }
  if t.2.1 then base.onlyL2 1
  else if t.2.2 + 2 > lim then base.onlyL2 2
  else if et == 0x0800 then base.ipv4 d lim
  else if et == 0x86DD then base.ipv6 d lim
  else base.onlyL2 0

/-- Octets 12 and 13 name a tag, or the type where there is none; the octets of the frame's tags. -/
def Parsed.tagOctets (p : Parsed) : Nat := 4 * min p.ntag 2

/-- The L2 key (R166) with its INPORT and CTX. -/
def Parsed.l2Key (p : Parsed) (d : List Byte) (inport ctx : Nat) : Nat :=
  inport % 8 * 2 ^ 123 + (if inport == 4 then ctx % 4096 else 0) * 2 ^ 111 + p.ntag * 2 ^ 109 + b2n p.otpid * 2 ^ 108 +
    p.ovid * 2 ^ 96 + p.ivid * 2 ^ 84 + p.etype * 2 ^ 68 + field d 0 6 * 2 ^ 20 + (if p.kind == 0 then p.why else 0) * 2 ^ 17

/-- The IPv4 key (R167). -/
def Parsed.ip4Key (p : Parsed) (d : List Byte) (inport ctx : Nat) : Nat :=
  2 ^ 126 + inport % 8 * 2 ^ 123 + ctx % 4096 * 2 ^ 111 + b2n p.frag * 2 ^ 110 + p.proto * 2 ^ 102 +
    field d (p.l3 + 12) 4 * 2 ^ 70 + field d (p.l3 + 16) 4 * 2 ^ 38 + p.sport * 2 ^ 22 + p.dport * 2 ^ 6

/-- The IPv6 key (R168). -/
def Parsed.ip6Key (p : Parsed) (d : List Byte) (inport ctx : Nat) : Nat :=
  2 ^ 383 + inport % 8 * 2 ^ 379 + ctx % 4096 * 2 ^ 367 + b2n p.frag * 2 ^ 366 + p.proto * 2 ^ 358 +
    field d (p.l3 + 8) 16 * 2 ^ 160 + field d (p.l3 + 24) 16 * 2 ^ 32 + p.sport * 2 ^ 16 + p.dport

/-- The CTX of an IP key: the filter entry for fibre frames, the outer VID for user-port frames. -/
def Parsed.ipCtx (p : Parsed) (inport src : Nat) : Nat := if inport == 4 then src else p.ovid

/-! Checksums (R181, R182). -/

/-- The ones'-complement sum of octets, folded to sixteen bits; an odd last octet is the high half of its word. -/
def onesSum : List Byte → Nat
  | [] => 0
  | [a] => a.toNat * 256
  | a :: b :: t => a.toNat * 256 + b.toNat + onesSum t

def fold16 (n : Nat) : Nat := if n == 0 then 0 else (n - 1) % 65535 + 1

/-- Octets [a, b) of a frame. -/
def slice (d : List Byte) (a b : Nat) : List Byte := (d.drop a).take (b - a)

/-- The octets of the IPv4 header, when they all lie within the frame. -/
def Parsed.hdr4 (p : Parsed) (d : List Byte) : Option (List Byte) :=
  let n := 4 * (oct d p.l3 % 16)
  if p.kind == 4 && p.l3 + n ≤ d.length then some (slice d p.l3 (p.l3 + n)) else none

/-- The TCP or UDP segment, when it lies wholly within the frame: its pseudo-header and its octets. -/
def Parsed.segment (p : Parsed) (d : List Byte) : Option (List Byte × List Byte) :=
  if p.kind == 0 || p.frag || !(p.proto == 6 || p.proto == 17) then none
  else
    let e := if p.kind == 4 then p.l3 + u16 d (p.l3 + 2) else p.l3 + 40 + u16 d (p.l3 + 4)
    let n := e - p.l4
    if e > d.length || n < (if p.proto == 6 then 20 else 8) then none
    else
      let ps :=
        if p.kind == 4 then slice d (p.l3 + 12) (p.l3 + 20) ++ [0, BitVec.ofNat 8 p.proto] ++ beBytes 2 n
        else slice d (p.l3 + 8) (p.l3 + 40) ++ beBytes 4 n ++ [0, 0, 0, BitVec.ofNat 8 p.proto]
      some (ps, slice d p.l4 e)

/-- Where the checksum field stands in the segment. -/
def Parsed.sumAt (p : Parsed) : Nat := if p.proto == 6 then 16 else 6

/-- A checksum result: 0 NOT_CHECKED, 1 OK, 2 BAD. -/
def sumResult (ok : Bool) : Nat := if ok then 1 else 2

/-- The result for the IPv4 header. -/
def Parsed.l3Sum (p : Parsed) (d : List Byte) : Nat :=
  match p.hdr4 d with
  | some h => sumResult (fold16 (onesSum h) == 65535)
  | none => 0

/-- The result for TCP or UDP: no checksum over IPv4 is not checked, over IPv6 it fails. -/
def Parsed.l4Sum (p : Parsed) (d : List Byte) : Nat :=
  match p.segment d with
  | none => 0
  | some (ps, seg) =>
    if p.proto == 17 && u16 seg 6 == 0 then (if p.kind == 4 then 0 else 2)
    else sumResult (fold16 (onesSum ps + onesSum seg) == 65535)

/-- Replace two octets at i. -/
def put16 (d : List Byte) (i v : Nat) : List Byte := (d.set i (BitVec.ofNat 8 (v / 256))).set (i + 1) (BitVec.ofNat 8 v)

/-- Insert the IPv4 header checksum (R182). -/
def Parsed.insertL3 (p : Parsed) (d : List Byte) : List Byte :=
  let d0 := put16 d (p.l3 + 10) 0
  put16 d0 (p.l3 + 10) (65535 - fold16 (onesSum ((p.hdr4 d0).getD [])))

/-- Insert the TCP or UDP checksum (R182). -/
def Parsed.insertL4 (p : Parsed) (d : List Byte) : List Byte :=
  let at' := p.l4 + p.sumAt
  let d0 := put16 d at' 0
  match p.segment d0 with
  | none => d
  | some (ps, seg) =>
    let v := 65535 - fold16 (onesSum ps + onesSum seg)
    put16 d0 at' (if p.proto == 17 && v == 0 then 65535 else v)

/-! Tag edits. -/

/-- One 802.1Q tag as four octets. -/
def tagBytes (stag : Bool) (pcp : Nat) (dei : Bool) (vid : Nat) : List Byte :=
  beBytes 2 (if stag then 0x88A8 else 0x8100) ++ beBytes 2 (pcp % 8 * 8192 + b2n dei * 4096 + vid % 4096)

/-- Fields of an action that a tag edit uses (R173), bits [77:46]. -/
def editOp (e : Nat) : Nat := bits e 29 3
def editOuter (e : Nat) : List Byte := tagBytes (bit e 28) (bits e 25 3) (bit e 24) (bits e 12 12)
def editInner (e : Nat) : List Byte := tagBytes false (bits e 25 3) (bit e 24) (bits e 0 12)

/-- TAG_OP on a frame: the edited octets, or nothing where the operation is not performed (R176). `e` is action bits
[77:46]. -/
def tagEdit (e : Nat) (d : List Byte) : Option (List Byte) :=
  let n := (parse d).ntag
  let da := d.take 12
  match editOp e with
  | 1 => if n < 1 then none else some (da ++ d.drop 16)
  | 2 => if n < 2 then none else some (da ++ d.drop 20)
  | 3 => if n > 1 then none else some (da ++ editOuter e ++ d.drop 12)
  | 4 => if n > 0 then none else some (da ++ editOuter e ++ editInner e ++ d.drop 12)
  | 5 => if n < 1 then none else some (da ++ editOuter e ++ d.drop 16)
  | _ => some d

end Sys2Proof.Machine
end

