-- ==== Sys2Proof/Machine/Observe.lean ====
section
/-! DEFINITION. Counters, tracing and bandwidth windows (18): snapshots (R466 to R469), performance counters (R471 to R474),
the tracer (R476 to R479), and the meters (R480). -/

namespace Sys2Proof.Machine

/-! Performance counters. -/

/-- A write of OBS_PMC_RUN. -/
def Dev.writePmcRun (w : RegWr) (d : Dev) : Dev := d.put F.OBS_PMC_RUN_RUN w

def execPmcRunWrite (w : RegWr) (s : State) : Host.Outcome State Fault Refusal :=
  s.run (fun d => d.gated 0x1F0010 w (Dev.writePmcRun w))

/-- A write of OBS_PMC_CFG[k]. -/
def Dev.writePmcCfg (k : Nat) (w : RegWr) (d : Dev) : Dev := d.putAll (fldsAt (0x1F0100 + 0x20 * k)) w

def execPmcCfgWrite (n : Nat) (w : RegWr) (s : State) : Host.Outcome State Fault Refusal :=
  s.run (fun d => if n ≥ 8 then d else d.gated (0x1F0100 + 0x20 * n) w (Dev.writePmcCfg n w))

/-- A write of OBS_PMC_CNT[k]. -/
def Dev.writePmcCnt (k : Nat) (w : RegWr) (d : Dev) : Dev := d.put F.OBS_PMC_CNT_COUNT w k

def execPmcCntWrite (n : Nat) (w : RegWr) (s : State) : Host.Outcome State Fault Refusal :=
  s.run (fun d => if n ≥ 8 then d else d.gated (0x1F0118 + 0x20 * n) w (Dev.writePmcCnt n w))

/-- A running counter passes its top by `past` events (R474). -/
def Dev.pmcOverflow (k past : Nat) (d : Dev) : Dev :=
  if k < 8 && bit (d.f F.OBS_PMC_RUN_RUN) k && d.f F.OBS_PMC_CFG_EVENT k < 24 then
    (d.setI F.OBS_PMC_CNT_COUNT k past).raise (1568 + k)
  else d

def execPmcOvf (n past : Nat) (s : State) : Host.Outcome State Fault Refusal := s.run (Dev.pmcOverflow n past)

/-! The tracer. -/

/-- One step of the tracer's generator, x^32 + x^22 + x^2 + x + 1 (R476, R530): the bits move up, and the new s[0] is the
sum of s[31], s[21], s[1] and s[0]. -/
def trcStep (s : Nat) : Nat :=
  s * 2 % 2 ^ 32 + b2n (((bit s 31 != bit s 21) != bit s 1) != bit s 0)

/-- Open traces and those whose record is not yet written (R477). -/
def Dev.trcOpen (d : Dev) : Nat := d.obs.traces.length + d.obs.closed.length

def Dev.trcShow (d : Dev) : Dev := d.set F.OBS_TRC_STAT_OPEN d.trcOpen

/-- A frame starts on a path (R476, R477): the frame with its trace number, and the device. -/
def Dev.trcSample (d : Dev) (f : Frame) (inport ctx : Nat) : Frame × Dev :=
  if !(d.on 29 && d.b F.OBS_TRC_CFG_EN && bit (d.f F.OBS_TRC_CFG_PATHS) f.path) then (f, d)
  else
    let l := trcStep d.obs.lfsr
    let d := { d with obs := { d.obs with lfsr := l } }
    if l % 2 ^ min (d.f F.OBS_TRC_CFG_N) 24 != 0 then (f, d)
    else if d.trcOpen ≥ 16 then (f, (d.count F.OBS_TRC_STAT_MISSED).raise 1578)
    else
      let t : Trace :=
        { num := d.obs.opened, path := f.path, inport := inport, acc := f.accession, len := f.len, ctx := ctx
          vacct := f.acct, tsIn := f.ts, start := d.cycle, action := if f.path == 3 then d.cycle else 0 }
      ({ f with trace := d.obs.opened + 1 },
       { d with obs := { d.obs with traces := d.obs.traces ++ [t], opened := d.obs.opened + 1 } }.trcShow)

/-- Note a stage in the open trace of a frame. -/
def Dev.trcNote (d : Dev) (f : Frame) (g : Trace → Trace) : Dev :=
  if f.trace == 0 then d
  else { d with obs := { d.obs with traces := d.obs.traces.map (fun t => if t.num + 1 == f.trace then g t else t) } }

/-- The fate of a traced frame (R477); its record waits to be written. -/
def Dev.trcClose (d : Dev) (f : Frame) (fate : Nat) (tsOut : Nat := 0) : Dev :=
  match if f.trace == 0 then none else d.obs.traces.find? (fun t => t.num + 1 == f.trace) with
  | none => d
  | some t =>
    let t' := { t with fate := fate, fateCyc := d.cycle, sfc := d.clk.sfc, tsOut := tsOut }
    { d with obs := { d.obs with traces := d.obs.traces.erase t, closed := d.obs.closed ++ [t'] } }

/-- A trace open for 2^30 cycles closes with fate Ah (R477). -/
def Dev.trcTimeout (n : Nat) (d : Dev) : Dev :=
  match d.obs.traces.find? (fun t => t.num == n) with
  | some t => if d.cycle ≥ t.start + 2 ^ 30 then d.trcClose { data := [], trace := n + 1 } 10 else d
  | none => d

def execTraceTimeout (n : Nat) (s : State) : Host.Outcome State Fault Refusal := s.run (Dev.trcTimeout n)

/-- A timestamp as a trace record and a completion hold it: [63:48] seconds, [47:16] ns, [15:0] fraction (R478). -/
def stampWord (t : Nat) : Nat :=
  let ns := t / 65536
  ns / 1000000000 % 65536 * 2 ^ 48 + ns % 1000000000 * 2 ^ 16 + t % 65536

/-- The octets of a trace record (R478); only the downstream tap gives a sideband its account or the UNBOUND flag (R379). -/
def Trace.bytes (t : Trace) (seq phase : Nat) : List Byte :=
  let lo := fun n => n % 2 ^ 32
  let w0 := t.path + t.inport * 2 ^ 2 + t.acc * 2 ^ 5 + t.len % 16384 * 2 ^ 17 + t.fate * 2 ^ 31 + b2n t.mirror * 2 ^ 35 +
    b2n t.spilled * 2 ^ 36 + b2n (t.path == 0 && t.vacct.isNone) * 2 ^ 37 + t.vacct.getD 0 * 2 ^ 38 + phase * 2 ^ 63
  let w1 := t.dtype + t.dest * 2 ^ 4 + t.ctx * 2 ^ 16 + lo seq * 2 ^ 32
  let ws := [w0, w1, stampWord t.tsIn, lo t.start + lo t.action * 2 ^ 32, lo t.entered + lo t.leave * 2 ^ 32,
    lo t.fateCyc + lo t.sfc * 2 ^ 32, if t.tsOut == 0 then 0 else stampWord t.tsOut, 0]
  ws.flatMap (leBytes 8)

def Dev.trcSize (d : Dev) : Nat := 2 ^ d.f F.OBS_TRC_CFG_LOG2SIZE

/-- The full condition of the trace ring (R313, R479). -/
def Dev.trcFull (d : Dev) : Bool :=
  (d.f F.OBS_TRC_PI_IDX + b2n d.obs.writing + 2 ^ 18 - d.f F.OBS_TRC_CI_IDX) % 2 ^ 18 == d.trcSize

/-- FULL, and the state sources TRC_FULL and TRC_FAULT. -/
def Dev.trcLevels (d : Dev) : Dev :=
  let full := d.trcFull
  (((d.setB F.OBS_TRC_STAT_FULL full).level 1576 full).level 1577 (d.b F.OBS_TRC_STAT_FAULT)).trcShow

/-- The oldest closed trace's record is issued (R479). -/
def Dev.trcWrite (d : Dev) : Dev :=
  match d.obs.closed with
  | [] => d
  | t :: _ =>
    if d.obs.writing || !d.on 29 || !d.on 31 || !d.b F.OBS_TRC_CFG_EN || d.b F.OBS_TRC_STAT_FAULT || d.trcFull then d
    else
      let i := d.f F.OBS_TRC_PI_IDX
      let seq := d.f F.OBS_TRC_STAT_SEQ
      ({ d with obs := { d.obs with writing := true } }.request
        { kind := .traceRecord seq, write := true, mstr := 5, func := d.f F.OBS_TRC_CFG_FUNC
          addr := d.f F.OBS_TRC_BASE_BASE + 64 * (i % d.trcSize), len := 64
          data := t.bytes seq (1 - i / d.trcSize % 2) }).trcLevels

def execTraceRecordWrite (s : State) : Host.Outcome State Fault Refusal := s.run Dev.trcWrite

/-- A trace record write is answered (R479). -/
def Dev.trcDone (seq : Nat) (c : Rsp) (d : Dev) : Dev :=
  d.answer (.traceRecord seq) c (fun _ d =>
    if d.obs.stale != 0 then { d with obs := { d.obs with stale := d.obs.stale - 1 } }
    else if !d.obs.writing then d
    else
      let d := { d with obs := { d.obs with writing := false } }
      (if c.ok then
        (({ d with obs := { d.obs with closed := d.obs.closed.drop 1 } }.set F.OBS_TRC_PI_IDX (d.f F.OBS_TRC_PI_IDX + 1)).set
          F.OBS_TRC_STAT_SEQ (seq + 1))
       else d.set F.OBS_TRC_STAT_FAULT 1).trcLevels)

def execTraceRecordDone (seq : Nat) (c : Rsp) (s : State) : Host.Outcome State Fault Refusal := s.run (Dev.trcDone seq c)

/-- A write of OBS_TRC_CFG: LOG2SIZE and FUNC stand while EN is 1; EN with a LOG2SIZE outside its range is refused; EN from
0 to 1 sets PI and CI to 0; a record write still unanswered then counts for nothing, and its record is written again. -/
def Dev.writeTrcCfg (w : RegWr) (d : Dev) : Dev :=
  let was := d.b F.OBS_TRC_CFG_EN
  let sz := if was then d.f F.OBS_TRC_CFG_LOG2SIZE else w.merged F.OBS_TRC_CFG_LOG2SIZE (d.f F.OBS_TRC_CFG_LOG2SIZE)
  let en := w.merged F.OBS_TRC_CFG_EN (d.f F.OBS_TRC_CFG_EN)
  if en == 1 && (sz < 6 || sz > 16) then d
  else
    let d := if was then d else (d.set F.OBS_TRC_CFG_LOG2SIZE sz).put F.OBS_TRC_CFG_FUNC w
    let d := ((d.set F.OBS_TRC_CFG_EN en).put F.OBS_TRC_CFG_N w).put F.OBS_TRC_CFG_PATHS w
    (if !was && en == 1 then
       { (d.set F.OBS_TRC_PI_IDX 0).set F.OBS_TRC_CI_IDX 0 with
         obs := { d.obs with writing := false, stale := d.obs.stale + b2n d.obs.writing } }
     else d).trcLevels

def execTrcCfgWrite (w : RegWr) (s : State) : Host.Outcome State Fault Refusal :=
  s.run (fun d => d.gated 0x1F0200 w (Dev.writeTrcCfg w))

/-- A write of OBS_TRC_BASE is ignored while EN is 1. -/
def Dev.writeTrcBase (w : RegWr) (d : Dev) : Dev := if d.b F.OBS_TRC_CFG_EN then d else d.put F.OBS_TRC_BASE_BASE w

/-- A write of OBS_TRC_SEED loads the generator; zero is loaded as 1 (R476). -/
def Dev.writeTrcSeed (w : RegWr) (d : Dev) : Dev :=
  let v := w.fld F.OBS_TRC_SEED_SEED
  { d with obs := { d.obs with lfsr := if v == 0 then 1 else v } }

def execTrcSeedWrite (w : RegWr) (s : State) : Host.Outcome State Fault Refusal :=
  s.run (fun d => d.gated 0x1F0228 w (Dev.writeTrcSeed w))

/-- A consumer index of the trace ring (R312, R479). -/
def Dev.writeTrcCi (w : RegWr) (d : Dev) : Dev :=
  let c := w.merged F.OBS_TRC_CI_IDX (d.f F.OBS_TRC_CI_IDX)
  let pi := d.f F.OBS_TRC_PI_IDX
  let ahead := (pi + 2 ^ 18 - c) % 2 ^ 18
  if ahead ≤ d.trcSize && ahead ≤ (pi + 2 ^ 18 - d.f F.OBS_TRC_CI_IDX) % 2 ^ 18 then (d.set F.OBS_TRC_CI_IDX c).trcLevels
  else d.set F.OBS_TRC_STAT_CI_BAD 1

def execTrcCiWrite (w : RegWr) (s : State) : Host.Outcome State Fault Refusal :=
  s.run (fun d => d.gated 0x1F0218 w (Dev.writeTrcCi w))

/-- A write of OBS_TRC_STAT: clearing FAULT resumes writing. -/
def Dev.writeTrcStat (w : RegWr) (d : Dev) : Dev :=
  ((d.put F.OBS_TRC_STAT_FAULT w).put F.OBS_TRC_STAT_CI_BAD w).trcLevels

/-- PD29 powers down: every trace register returns to its reset value, with the states of its sources, and open traces are abandoned (R479). -/
def Dev.trcPowerDown (d : Dev) : Dev :=
  { d with
    regs := d.regs.filter (fun p => !(0x1F0200 ≤ p.1 / 64 && p.1 / 64 < 0x1F0300))
    obs := { d.obs with
      lfsr := 1, traces := [], closed := [], writing := false, stale := d.obs.stale + b2n d.obs.writing } }.trcLevels

/-! Bandwidth windows. -/

/-- The open window closes (R480). -/
def Dev.bwClose (d : Dev) : Dev :=
  let w := d.f F.OBS_BW_CFG_WM1 + 1
  let d := (List.range 10).foldl (fun d m =>
    if bit (d.f F.OBS_BW_CFG_EN) m then
      let n := d.obs.meters.getD m 0
      (d.setI F.OBS_BW_LAST_OCTETS m n).setI F.OBS_BW_PEAK_PEAK m (max n (d.f F.OBS_BW_PEAK_PEAK m))
    else d) d
  let d := (d.set F.OBS_BW_STAT_END_SFC d.clk.sfc).setB F.OBS_BW_STAT_SHORT (d.clk.sfc != d.obs.winStart + w)
  { d with obs := { d.obs with meters := List.replicate 10 0, winStart := d.clk.sfc } }.raise 1579

/-- The meters at a TICK: a configuration written before it takes effect and closes the open window; else a window ends at
a multiple of W (R480). -/
def Dev.bwTick (d : Dev) : Dev :=
  match d.obs.bwNext with
  | some (wm1, en) =>
    let d := if d.obs.winOpen then d.bwClose else d
    let d := (d.set F.OBS_BW_CFG_WM1 wm1).set F.OBS_BW_CFG_EN en
    { d with obs := { d.obs with bwNext := none, winOpen := true, winStart := d.clk.sfc, meters := List.replicate 10 0 } }
  | none =>
    if !d.obs.winOpen then { d with obs := { d.obs with winOpen := true, winStart := d.clk.sfc } }
    else if d.clk.sfc % (d.f F.OBS_BW_CFG_WM1 + 1) == 0 && d.clk.sfc ≥ d.obs.winStart + 1 then d.bwClose
    else d

/-- A write of OBS_BW_CFG takes effect at the next TICK (R480). -/
def Dev.writeBwCfg (w : RegWr) (d : Dev) : Dev :=
  let cur := d.obs.bwNext.getD (d.f F.OBS_BW_CFG_WM1, d.f F.OBS_BW_CFG_EN)
  { d with obs := { d.obs with bwNext := some (w.merged F.OBS_BW_CFG_WM1 cur.1, w.merged F.OBS_BW_CFG_EN cur.2) } }

def execBwCfgWrite (w : RegWr) (s : State) : Host.Outcome State Fault Refusal :=
  s.run (fun d => d.gated 0x1F0300 w (Dev.writeBwCfg w))

/-! Snapshots. -/

/-- Offsets base, base + step, …, n of them. -/
def offs (base step n : Nat) : List Nat := (List.range n).map (fun i => base + step * i)

/-- The registers of a snapshot group, in order (R466); none outside the table. -/
def snapGroup (g : Nat) : Option (List Nat) :=
  if g == 0 then some (offs 0x40100 8 11)
  else if g == 1 then some (offs 0x50200 8 7)
  else if g == 2 then some [0x10018, 0x10038, 0x60100, 0x60108, 0x160200, 0x160208, 0x180210]
  else if g == 3 then some ((List.range 3).flatMap (fun p => offs (0x80100 + 0x40 * p) 8 7))
  else if g ≤ 11 then some (offs (0x88000 + 0x10 * (128 * (g - 4))) 8 256)
  else if g == 12 then some ((List.range 4).flatMap (fun n => offs (0xA0400 + 0x4000 * n) 8 10))
  else if g == 13 then some (offs 0xC0100 8 4 ++ [0x20820])
  else if g == 14 then some (offs 0x100100 8 3 ++ offs 0x140038 0x40 16)
  else if g == 15 then some [0x1E0100, 0x1E0108]
  else if g == 16 then some (0x1F0008 :: offs 0x1F0118 0x20 8)
  else if g == 17 then some (0x1F0308 :: offs 0x1F0340 0x10 10)
  else none

/-- The bank of an agent (R468). -/
def snapBank : Agent → Nat
  | .curator => 1
  | .docent => 1
  | _ => 0

/-- A register keeps its value through its domain's power-down (R418, R521). -/
def keptOff (off : Nat) : Bool := (fldsAt off).any (fun p => p.1.keep != .lost)

/-- Take a snapshot of group g into bank b (R467, R469). -/
def Dev.snapTake (d : Dev) (b g : Nat) (clear : Bool) (rs : List Nat) : Dev :=
  let val := fun off => if d.on (domainOf off) || keptOff off then d.stored off else 0
  let gaps := rs.any (fun off => !d.on (domainOf off))
  let hdr := g + rs.length * 2 ^ 8 + b2n clear * 2 ^ 17 + b2n gaps * 2 ^ 18
  let buf := ([hdr, d.cycle, d.clk.sfc] ++ rs.map val).map (BitVec.ofNat 64)
  let d := if clear then rs.foldl Dev.clearRc d else d
  { d with obs := { d.obs with snap := d.obs.snap.set b buf } }

/-- A write of OBS_SNAP_CMD (R467, R468). -/
def Dev.writeSnapCmd (w : RegWr) (d : Dev) : Dev :=
  if w.fld F.OBS_SNAP_CMD_GO == 0 then d
  else
    let b := snapBank w.agent
    let barred := match w.agent with | .host f _ => !bit (d.f F.OBS_CTL_UACC) f.val | _ => false
    match if barred then none else snapGroup (w.fld F.OBS_SNAP_CMD_GROUP) with
    | some rs => d.snapTake b (w.fld F.OBS_SNAP_CMD_GROUP) (w.fld F.OBS_SNAP_CMD_CLEAR == 1) rs
    | none => { d with obs := { d.obs with snapRefused := d.obs.snapRefused.set b true } }

def execObsSnapGo (w : RegWr) (s : State) : Host.Outcome State Fault Refusal :=
  s.run (fun d => d.gated 0x1F0400 w (Dev.writeSnapCmd w))

/-- OBS_SNAP_STAT of a bank. -/
def Dev.snapStat (d : Dev) (b : Nat) : Nat :=
  let buf := d.obs.snap.getD b []
  b2n (!buf.isEmpty) + 2 * b2n (d.obs.snapRefused.getD b false) + 4 * ((buf.getD 0 0).toNat % 256)

end Sys2Proof.Machine
end

