-- ==== Sys2Proof/Machine/Sha.lean ====
section
/-! DEFINITION. SHA-256 as FIPS 180-4 gives it (cited by R339, R389, R394, R399): PRESUMED, the standard's text is not part
of the spec (log entry 12). -/

namespace Sys2Proof.Machine

/-- Words of 32 bits. -/
abbrev W32 := BitVec 32

/-- The round constants. -/
def shaK : List Nat :=
  [0x428A2F98, 0x71374491, 0xB5C0FBCF, 0xE9B5DBA5, 0x3956C25B, 0x59F111F1, 0x923F82A4, 0xAB1C5ED5] ++
  [0xD807AA98, 0x12835B01, 0x243185BE, 0x550C7DC3, 0x72BE5D74, 0x80DEB1FE, 0x9BDC06A7, 0xC19BF174] ++
  [0xE49B69C1, 0xEFBE4786, 0x0FC19DC6, 0x240CA1CC, 0x2DE92C6F, 0x4A7484AA, 0x5CB0A9DC, 0x76F988DA] ++
  [0x983E5152, 0xA831C66D, 0xB00327C8, 0xBF597FC7, 0xC6E00BF3, 0xD5A79147, 0x06CA6351, 0x14292967] ++
  [0x27B70A85, 0x2E1B2138, 0x4D2C6DFC, 0x53380D13, 0x650A7354, 0x766A0ABB, 0x81C2C92E, 0x92722C85] ++
  [0xA2BFE8A1, 0xA81A664B, 0xC24B8B70, 0xC76C51A3, 0xD192E819, 0xD6990624, 0xF40E3585, 0x106AA070] ++
  [0x19A4C116, 0x1E376C08, 0x2748774C, 0x34B0BCB5, 0x391C0CB3, 0x4ED8AA4A, 0x5B9CCA4F, 0x682E6FF3] ++
  [0x748F82EE, 0x78A5636F, 0x84C87814, 0x8CC70208, 0x90BEFFFA, 0xA4506CEB, 0xBEF9A3F7, 0xC67178F2]

/-- The initial hash value. -/
def shaH0 : List W32 := [0x6A09E667, 0xBB67AE85, 0x3C6EF372, 0xA54FF53A, 0x510E527F, 0x9B05688C, 0x1F83D9AB, 0x5BE0CD19].map (BitVec.ofNat 32)

/-- The schedule as a window of the last sixteen words, latest first, and the words so far, latest first. -/
def shaSchedule : Nat → List W32 → List W32
  | 0, ws => ws
  | n + 1, ws =>
    let w15 := ws.getD 14 0
    let w2 := ws.getD 1 0
    let s0 := w15.rotateRight 7 ^^^ w15.rotateRight 18 ^^^ w15 >>> 3
    let s1 := w2.rotateRight 17 ^^^ w2.rotateRight 19 ^^^ w2 >>> 10
    shaSchedule n ((ws.getD 15 0 + s0 + ws.getD 6 0 + s1) :: ws)

/-- One round on the eight working words. -/
def shaRound (v : List W32) (kw : Nat × W32) : List W32 :=
  match v with
  | [a, b, c, d, e, f, g, h] =>
    let s1 := e.rotateRight 6 ^^^ e.rotateRight 11 ^^^ e.rotateRight 25
    let ch := (e &&& f) ^^^ (~~~e &&& g)
    let t1 := h + s1 + ch + BitVec.ofNat 32 kw.1 + kw.2
    let s0 := a.rotateRight 2 ^^^ a.rotateRight 13 ^^^ a.rotateRight 22
    let mj := (a &&& b) ^^^ (a &&& c) ^^^ (b &&& c)
    [t1 + s0 + mj, a, b, c, d + t1, e, f, g]
  | v => v

/-- One block of sixteen words. -/
def shaBlock (h : List W32) (blk : List W32) : List W32 :=
  let ws := (shaSchedule 48 blk.reverse).reverse
  List.zipWith (fun a b => a + b) h ((shaK.zip ws).foldl shaRound h)

/-- Big-endian 32-bit words of octets. -/
def beWords32 : List Byte → List W32
  | a :: b :: c :: d :: t => (a ++ b ++ c ++ d) :: beWords32 t
  | _ => []

/-- Blocks of sixteen words; the fuel is the number of blocks. -/
def shaBlocks : Nat → List W32 → List W32 → List W32
  | 0, _, h => h
  | n + 1, ws, h => shaBlocks n (ws.drop 16) (shaBlock h (ws.take 16))

/-- SHA-256 of octets, as a 256-bit number whose first octet is the highest. -/
def sha256 (m : List Byte) : Nat :=
  let z := (119 - m.length % 64) % 64
  let p := m ++ [0x80] ++ List.replicate z (0 : Byte) ++ beBytes 8 (8 * m.length)
  ((shaBlocks (p.length / 64) (beWords32 p) shaH0).foldl (fun a w => a * 2 ^ 32 + w.toNat) 0)

end Sys2Proof.Machine
end

