-- ==== Sys2Proof/Machine/Vitrine.lean ====
section
/-! DEFINITION. The Vitrine (15): its two measurement points, the tick observation with intervals and checkpoints, records
and log, the seal, VIT_PULSE, and the sealed commands. -/

namespace Sys2Proof.Machine

/-- Field of a word of a command body. -/
def wf (ws : List Word) (i lo n : Nat) : Nat := bits (ws.getD i 0).toNat lo n

/-- A word from (value, place) pairs. -/
def pk (l : List (Nat × Nat)) : Word := BitVec.ofNat 64 (l.foldl (fun a p => a + p.1 * 2 ^ p.2) 0)

/-- Octets of words, little-endian (R4). -/
def wordOctets (ws : List Word) : List Byte := ws.flatMap (fun w => leBytes 8 w.toNat)

/-- Four words that hold a 256-bit number big-endian across their octets (R394). -/
def be256 (n : Nat) : List Word :=
  (List.range 4).map (fun i => BitVec.ofNat 64 (ofLe (beBytes 8 (n / 2 ^ (64 * (3 - i)) % 2 ^ 64))))

/-! The log (R396 to R399). -/

/-- The chain value after one more entry (R399). -/
def vitChain (chain : Nat) (e : List Word) : Nat := sha256 (beBytes 32 chain ++ wordOctets e)

/-- Write a log entry; with 2,048 held it is not written and counts in OVF (R398). -/
def Dev.vitLog (d : Dev) (ltype : Nat) (change : Bool) (p0 p1 : Nat) : Dev :=
  let v := d.vit
  if v.log.length ≥ 2048 then { d with vit := { v with ovf := min (v.ovf + 1) 65535 } }
  else
    let e : List Word := [pk [(v.lseq, 0), (ltype, 32), (b2n change, 40)], pk [(v.obsSfc, 0)], pk [(v.ticks % 2 ^ 64, 0)],
      pk [(v.obsIdeal / 65536 / 1000000000 % 2 ^ 48, 0)], pk [(p0 % 2 ^ 64, 0)], pk [(p1 % 2 ^ 64, 0)]]
    let d := { d with vit := { v with log := v.log ++ [e], lseq := (v.lseq + 1) % 2 ^ 32, chain := vitChain v.chain e } }
    d.level 1507 (d.vit.log.length ≥ 2032)

/-! Measurement (R377 to R381). -/

/-- Add octets and frames to total t. -/
def Dev.vitTotalAdd (d : Dev) (t oct frm : Nat) : Dev :=
  let p := d.vit.totals.getD t (0, 0)
  { d with vit := { d.vit with totals := d.vit.totals.set t (p.1 + oct, p.2 + frm) } }

/-- Octets reach the source of VIT_PULSE: each PULSE_OCT of them owes one pulse (R400). -/
def Dev.vitPulseAdd (d : Dev) (hit : Bool) (oct : Nat) : Dev :=
  if !hit then d
  else
    let p := d.f F.VIT_PULSE_CFG_PULSE_OCT
    let a := d.vit.pulseAcc + oct
    if p == 0 then d
    else { d with vit := { d.vit with pulseAcc := a % p, pulseOwed := d.vit.pulseOwed + a / p } }

/-- Whether VIT_PULSE counts total t. -/
def Dev.vitPulseTot (d : Dev) (t : Nat) : Bool := d.f F.VIT_PULSE_CFG_SRC == t

/-- Add to total t, and to the pulse source if it is that total. -/
def Dev.vitMeterTotal (d : Dev) (t oct frm : Nat) : Dev := (d.vitTotalAdd t oct frm).vitPulseAdd (d.vitPulseTot t) oct

/-- The account of a flow tag: the valid downstream binding that holds it (R379). -/
def Dev.vitDsAccount (d : Dev) (ftag : Nat) : Option Nat :=
  ((d.listed F.VIT_BIND_DS_VALID).find? (fun p => d.f F.VIT_BIND_DS_FTAG p.1 == ftag)).map
    (fun p => d.f F.VIT_BIND_DS_ACCT p.1)

/-- The account of a flow context (R379). -/
def Dev.vitUsAccount (d : Dev) (c : Nat) : Option Nat :=
  if d.b F.VIT_BIND_US_VALID c then some (d.f F.VIT_BIND_US_ACCT c) else none

/-- Counters of an account. -/
def Dev.vitAcct (d : Dev) (a : Nat) : VitAcct := d.vit.accts.getD a {}

def Dev.vitSetAcct (d : Dev) (a : Nat) (v : VitAcct) : Dev :=
  { d with vit := { d.vit with accts := SMap.store {} a v d.vit.accts } }

/-- An observation that failed parity: OBS_ERR, the all-traffic and unbound totals of its direction, the FAULT flag of the
interval (R374). -/
def Dev.vitParity (d : Dev) (all unbound oct frm : Nat) : Dev :=
  let d := (d.count F.VIT_CNT_OBS_ERR).vitMeterTotal all oct frm
  let d := d.vitMeterTotal unbound oct frm
  { d with vit := { d.vit with ivl := { d.vit.ivl with fault := true, errs := d.vit.ivl.errs + 1 } } }

/-- The downstream tap at acceptance (R377): L + 4 octets and one frame; gives the account for the sideband (R379). -/
def Dev.vitDs (d : Dev) (ftag kidx len : Nat) (parityBad : Bool) : Option Nat × Dev :=
  let oct := len + 4
  if parityBad then (d.vitDsAccount ftag, d.vitParity 0 1 oct 1)
  else
    let d := d.vitMeterTotal 0 oct 1
    let d := if kidx != 0 then d.vitMeterTotal 2 oct 1 else d
    let d := if kidx == 3 then d.vitMeterTotal 3 oct 1 else d
    match d.vitDsAccount ftag with
    | none => (none, d.vitMeterTotal 1 oct 1)
    | some a =>
      let c := d.vitAcct a
      let d := d.vitSetAcct a { c with dsOct := c.dsOct + oct, dsFrm := c.dsFrm + 1 }
      (some a, d.vitPulseAdd (d.f F.VIT_PULSE_CFG_SRC == 8 && d.f F.VIT_PULSE_CFG_ACCT == a) oct)

/-- The upstream tap at placement (R378): the octets placed, and with LF = 1 four more and the frame. -/
def Dev.vitUs (d : Dev) (ctx entry : Nat) (enc : Bool) (octets : Nat) (lf parityBad : Bool) : Dev :=
  let oct := octets + (if lf then 4 else 0)
  let frm := b2n lf
  if parityBad then d.vitParity 4 5 oct frm
  else
    let d := d.vitMeterTotal 4 oct frm
    let d := if enc then d.vitMeterTotal 6 oct frm else d
    let d := if entry == 0 then d.vitMeterTotal 7 oct frm else d
    match d.vitUsAccount ctx with
    | none => d.vitMeterTotal 5 oct frm
    | some a =>
      let c := d.vitAcct a
      let d := d.vitSetAcct a { c with usOct := c.usOct + oct, usFrm := c.usFrm + frm }
      d.vitPulseAdd (d.f F.VIT_PULSE_CFG_SRC == 9 && d.f F.VIT_PULSE_CFG_ACCT == a) oct

/-! Records (R389 to R394). -/

/-- The header words 0 to 4 of a signed record (R391). -/
def vitHeader (v : VitPart) (rtype flags acct seq sfc nonce : Nat) : List Word :=
  let ns := v.obsIdeal / 65536
  [pk [(rtype, 0), (flags, 8), (acct, 16), (seq % 2 ^ 32, 32)], pk [(sfc, 0)], pk [(v.ticks % 2 ^ 64, 0)],
   pk [(ns / 1000000000 % 2 ^ 48, 0)], pk [(ns % 1000000000, 0), (nonce, 32)]]

/-- The public key of device key number n (R395). -/
def vitPub (n : Nat) : Nat × Nat := (ecMul (ecScalar (Config.vitPriv n)) ecG).getD (0, 0)

/-- Sign the words of a record with device key k: the signature words follow (R394). -/
def vitSign (k : Nat) (ws : List Word) : List Word :=
  let h := sha256 (wordOctets ws)
  let r := ecdsaSign (ecScalar (Config.vitPriv k)) (ecScalar (Config.vitNonce k h)) h
  ws ++ be256 r.1 ++ be256 r.2

/-- The total words 7 to 30 (R392). -/
def vitTotalWords (tot : List (Nat × Nat)) : List Word :=
  tot.flatMap (fun p => [pk [(p.1 % 2 ^ 64, 0)], pk [(p.1 / 2 ^ 64 % 65536, 0)], pk [(p.2 % 2 ^ 64, 0)]])

/-- Words 5 to 10 of an account readout: one snapshot entry of 48 octets (R393). -/
def vitAcctWords (c : VitAcct) : List Word :=
  [pk [(c.dsOct % 2 ^ 64, 0)], pk [(c.dsOct / 2 ^ 64 % 65536, 0)], pk [(c.dsFrm % 2 ^ 64, 0)],
   pk [(c.usOct % 2 ^ 64, 0)], pk [(c.usOct / 2 ^ 64 % 65536, 0)], pk [(c.usFrm % 2 ^ 64, 0)]]

/-- The snapshot: 4,096 accounts in ascending order (R389). -/
def vitSnapOctets (m : SMap VitAcct) : List Byte :=
  (List.range 4096).flatMap (fun a => wordOctets (vitAcctWords (m.getD a {})))

/-- Flags of an interval (R388, R391). -/
def ivlFlags (i : VitIvl) (short tod : Bool) : Nat :=
  b2n tod + 2 * b2n short + 4 * b2n i.power + 8 * b2n i.fault + 16 * b2n i.sealedChange + 32 * b2n i.holdover +
    64 * b2n i.jump

/-- An interval or gap record without its signature (R391, R392). -/
def vitIvlWords (v : VitPart) (rtype flags seq startSfc len nmerged digest : Nat) : List Word :=
  vitHeader v rtype flags 0 seq v.obsSfc 0 ++
  [pk [(startSfc, 0)], pk [(len, 0), (min nmerged 65535, 16), (v.lseq, 32)]] ++ vitTotalWords v.totals ++
  be256 digest ++ [0, 0, 0, 0, 0]

/-- Free slots of the interval buffer (R390). -/
def VitPart.free (v : VitPart) : Nat := 4096 - v.buffer.length

/-- What the boundary of R389 and R390 latches: the snapshot, and the record to sign and place. -/
def Dev.vitBoundary (d : Dev) (short : Bool) : Dev :=
  let v := d.vit
  let digest := sha256 (vitSnapOctets v.accts)
  let flags := ivlFlags v.ivl short v.obsValid
  let len := d.f F.VIT_CFG_LEN
  if v.gapOpen && v.free == 0 then
    match v.buffer.getLast? with
    | some r =>
      let flags' := flags ||| wf r.words 0 8 8
      let n := v.nmerged + 1
      let ws := vitIvlWords v 2 flags' r.seq (wf r.words 5 0 51) len n digest
      { d with vit := { v with nmerged := n, snapshot := some (r.seq, v.accts), waiting := some (true, ⟨r.seq, true, ws⟩) } }
    | none => d
  else
    let gap := v.free == 1
    let ws := vitIvlWords v (if gap then 2 else 1) flags v.nextSeq v.ivl.start len 1 digest
    { d with vit := { v with
        gapOpen := gap
        nmerged := 1
        nextSeq := (v.nextSeq + 1) % 2 ^ 32
        snapshot := some (v.nextSeq, v.accts)
        waiting := some (false, ⟨v.nextSeq, gap, ws⟩) } }

/-! Placing a signed record (R389, R390). -/

def Dev.vitPlace (d : Dev) : Dev :=
  match d.vit.waiting with
  | none => d
  | some (merge, r) =>
    let r := { r with words := vitSign d.vit.signKey r.words }
    let buf := if merge then d.vit.buffer.dropLast ++ [r] else d.vit.buffer ++ [r]
    let d := { d with vit := { d.vit with waiting := none, buffer := buf } }
    let d := d.raise 1504
    let d := if r.gap && !merge then d.raise 1505 else d
    d.level 1510 (buf.length ≥ 3072)

/-- The checkpoint of the present live state (R401). -/
def VitPart.checkpoint (v : VitPart) (off : Bool) : VitCk :=
  { accts := v.accts, totals := v.totals, ticks := v.ticks, sfc := v.obsSfc, ivl := v.ivl, pulseAcc := v.pulseAcc,
    pulseOwed := v.pulseOwed, off := off }

/-- Write the non-volatile copy that is not the newest (R401). -/
def VitPart.writeNv (v : VitPart) (off : Bool) : VitPart :=
  let i := 1 - v.nvNewest
  { v with nv := v.nv.set i (some (v.checkpoint off)), nvNewest := i }

/-! Sealed changes become active at the TICK after acceptance (R382). -/

def Dev.vitApply (d : Dev) (c : SeChange) : Dev :=
  match c with
  | .bindDs slot ftag acct valid =>
    ((d.setI F.VIT_BIND_DS_FTAG slot ftag).setI F.VIT_BIND_DS_ACCT slot acct).setB F.VIT_BIND_DS_VALID valid slot
  | .bindUs ctx acct valid => (d.setI F.VIT_BIND_US_ACCT ctx acct).setB F.VIT_BIND_US_VALID valid ctx
  | .setInterval len => d.set F.VIT_CFG_LEN len
  | .setPulse src acct oct =>
    let d := ((d.set F.VIT_PULSE_CFG_SRC src).set F.VIT_PULSE_CFG_ACCT acct).set F.VIT_PULSE_CFG_PULSE_OCT oct
    { d with vit := { d.vit with pulseAcc := 0, pulseOwed := 0 } }

/-- The boundary that follows a start count S for a length in minutes (R388). -/
def vitNextBoundary (start len : Nat) : Nat :=
  let p := len * 480000
  if p == 0 then start else (start / p + 1) * p

/-- Cycle 0 of a TICK in PD32 (R372, R382, R388, R389, R401): count, source (3 is HOLDOVER), ideal instant, VALID. A record that still
waits for its signature is placed before the next one is latched, and an Off checkpoint is newer than the AON checkpoint only until
the first TICK after it. -/
def Dev.vitTick (d : Dev) (sfc src ideal : Nat) (tod : Bool) : Dev :=
  if !d.on 32 || d.vit.lost then d
  else
    let v := d.vit
    let jump := v.obsSeen && sfc != (v.obsSfc + 1) % 2 ^ 51
    let newLen := v.pending.any (fun c => match c with | .setInterval _ => true | _ => false)
    let back := sfc < v.ivl.start
    let due := sfc ≥ vitNextBoundary v.ivl.start (d.f F.VIT_CFG_LEN)
    let closes := !v.ivl.fresh && (back || newLen || due)
    let short := back || newLen
    let jump := jump || (back && !v.ivl.fresh)
    let v := { v with
      ticks := v.ticks + 1, obsSfc := sfc, obsIdeal := ideal, obsValid := tod, obsSeen := true, boLogged := [],
      ivl := { v.ivl with jump := v.ivl.jump || jump }, signKey := v.keyNo,
      sealTicks := v.sealTicks - 1 }
    let d := { d with vit := v }
    let d := if closes && v.ivl.errs > 0 then d.vitLog 0x0D false v.ivl.errs 0 else d
    let d := if closes then d.vitPlace.vitBoundary short else d
    let changed := !d.vit.pending.isEmpty
    let changes := d.vit.pending
    let d := changes.foldl Dev.vitApply { d with vit := { d.vit with pending := [] } }
    let i := d.vit.ivl
    let i : VitIvl :=
      if closes then { start := sfc, fresh := false, holdover := src == 3, sealedChange := changed }
      else if i.fresh then { i with start := sfc, fresh := false, holdover := src == 3, sealedChange := changed }
      else { i with holdover := i.holdover || src == 3, sealedChange := i.sealedChange || changed }
    let d := { d with vit := { d.vit with ivl := i } }
    let d := if closes then { d with vit := d.vit.writeNv false } else d
    let d := if d.b F.VIT_SEAL_OPEN then d.set F.VIT_SEAL_REMAIN (d.vit.sealTicks / 8000) else d
    { d with vit := { d.vit with
        aonCk := some (d.vit.checkpoint false)
        nv := d.vit.nv.map (fun (o : Option VitCk) => o.map (fun c => { c with off := false })) } }

/-! The seal (R384). -/

/-- The seal closes with a cause, logged with the class C commands accepted while it was open. -/
def Dev.vitSealClose (d : Dev) (cause : Nat) : Dev :=
  if !d.b F.VIT_SEAL_OPEN then d
  else
    let d := ((d.set F.VIT_SEAL_OPEN 0).set F.VIT_SEAL_LAST_CAUSE cause).set F.VIT_SEAL_REMAIN 0
    (d.vitLog 2 false cause d.vit.sealCmds).raise 1506

/-- PRESENCE_n counted low: the window of 600 s starts, unless the pin is not wired (R29) or has not been counted high since
a window ended. -/
def Dev.vitPresent (d : Dev) : Dev :=
  let d := { (d.wake 5) with pins := { (d.wake 5).pins with presence := false } }
  if !d.b F.ID_INTEG_PRESENCE_WIRED then d
  else
    let d := d.set F.VIT_SEAL_PRESENT 1
    if d.vit.mustRelease || d.b F.VIT_SEAL_OPEN then d
    else
      let d := (d.set F.VIT_SEAL_OPEN 1).set F.VIT_SEAL_REMAIN 600
      let d := { d with vit := { d.vit with sealTicks := 4800000, sealCmds := 0 } }
      (d.vitLog 1 false 0 0).raise 1506

def Dev.vitAbsent (d : Dev) : Dev :=
  let d := { d with pins := { d.pins with presence := true }, vit := { d.vit with mustRelease := false } }
  (d.set F.VIT_SEAL_PRESENT 0).vitSealClose 1

def Dev.vitWindowEnd (d : Dev) : Dev :=
  if !d.b F.VIT_SEAL_OPEN then d
  else
    let d := d.vitSealClose 2
    { d with vit := { d.vit with mustRelease := true } }

/-! Power loss and return (R401). -/

/-- The seal after PD32 has lost its state: its registers at their reset values, and nothing to release first. -/
def Dev.vitSealLost (d : Dev) : Dev :=
  let d := (((d.set F.VIT_SEAL_OPEN 0).set F.VIT_SEAL_PRESENT 0).set F.VIT_SEAL_REMAIN 0).set F.VIT_SEAL_LAST_CAUSE 0
  { d with vit := { d.vit with mustRelease := false, sealTicks := 0, sealCmds := 0 } }

/-- The newest non-volatile checkpoint is the Off checkpoint of an orderly withdrawal (R401). -/
def VitPart.orderly (v : VitPart) : Bool := match v.nv.getD v.nvNewest none with | some c => c.off | none => false

/-- PD32 loses its live state, the interval buffer and the seal; what an orderly withdrawal saved, the buffer among it, stays (R401). The AON
checkpoint survives if the save SRAM held (R486). DEDUCED: the buffer is not part of the other checkpoints, and VIT_BUF_STAT shows it
empty after a reset (log entry 48). -/
def Dev.vitLose (d : Dev) (saveHeld : Bool) : Dev :=
  let d := d.vitSealLost
  let o := d.vit.orderly
  { d with vit := { d.vit with
      accts := [], totals := List.replicate 8 (0, 0), ticks := 0, obsSeen := false, ivl := {}, waiting := none,
      buffer := if o then d.vit.buffer else [], gapOpen := o && d.vit.gapOpen,
      pulseAcc := 0, pulseOwed := 0, lost := true, aonCk := if saveHeld then d.vit.aonCk else none } }

/-- The live state of a checkpoint, with the interval that follows the return flagged POWER (R401). -/
def VitPart.resume (v : VitPart) (c : VitCk) (accts : SMap VitAcct) : VitPart :=
  { v with
    accts := accts
    totals := c.totals
    ticks := c.ticks
    ivl := { c.ivl with power := true }
    obsSfc := c.sfc
    pulseAcc := c.pulseAcc
    pulseOwed := c.pulseOwed }

/-- What a power-up of PD32 restores: the cause (1 orderly, 2 core loss, 3 full loss), the ticks between the checkpoint and
the loss where known, the checkpoint's count, and the state (R401). -/
def VitPart.restore (v : VitPart) : Nat × Nat × Nat × VitPart :=
  match v.nv.getD v.nvNewest none, v.aonCk with
  | some c, aon =>
    if c.off then (1, 0, c.sfc, v.resume c c.accts)
    else
      match aon with
      | some a => (2, 0, a.sfc, v.resume a c.accts)
      | none => (3, 0xFFFFFFFF, c.sfc, { v with accts := c.accts, totals := c.totals, ticks := c.ticks, ivl := { power := true } })
  | none, some a => (2, 0, a.sfc, v.resume a [])
  | none, none => (3, 0xFFFFFFFF, 0, { v with ivl := { power := true } })

/-- Restore from the newest checkpoint and log POWER_RETURN with its cause (R401). -/
def Dev.vitRestore (d : Dev) : Dev :=
  if !d.vit.lost || !d.on 32 then d
  else
    let r := d.vit.restore
    let d := { d with vit := { r.2.2.2 with lost := false, obsSeen := r.1 != 3 } }
    let d := (d.set F.VIT_PWR_LAST_CAUSE r.1).set F.VIT_PWR_NV_COPY d.vit.nvNewest
    (d.vitLog 0x0A false (r.1 + r.2.1 * 2 ^ 32) r.2.2.1).raise 1508

/-- The Off checkpoint: the live counters go to the non-volatile store, and the Vitrine withdraws its vote on PD32; a pulse in
progress ends first, and a record that still waits for its signature is placed (R401, R432, R514). -/
def Dev.vitOffCheckpoint (d : Dev) : Dev :=
  match d.pwr.entry with
  | .awaitAvs 4 =>
    if d.pins.vitPulse || !d.pwr.vitVote then d
    else
      let d := d.vitPlace
      { d with vit := { d.vit.writeNv true with lost := true }, pwr := { d.pwr with vitVote := false } }
  | _ => d

/-- A brown-out entry, at most one per rail per tick (R397). -/
def Dev.vitBrownOut (d : Dev) (rail lowest : Nat) : Dev :=
  if d.vit.boLogged.contains rail then d
  else
    let d := { d with vit := { d.vit with boLogged := rail :: d.vit.boLogged } }
    d.vitLog 0x0B false (rail + lowest * 256) 0

/-- A counter of an account uncorrectable in both copies: that counter goes on from its last good checkpoint, which for an account is
a non-volatile one, its account is FAULTED, and the fault is logged (R376). -/
def Dev.vitCounterFault (d : Dev) (a : Nat) (up frm : Bool) : Dev :=
  let g : VitAcct := match d.vit.nv.getD d.vit.nvNewest none with | some c => c.accts.getD a {} | none => {}
  let c := d.vitAcct a
  let c := match up, frm with
    | false, false => { c with dsOct := g.dsOct }
    | false, true => { c with dsFrm := g.dsFrm }
    | true, false => { c with usOct := g.usOct }
    | true, true => { c with usFrm := g.usFrm }
  ((d.vitSetAcct a { c with faulted := true }).count F.VIT_CNT_CTR_FAULT).vitLog 0x0C false (a + 4096 * b2n up) 0 |>.raise 1509

/-- The totals of the newest checkpoint: an Off checkpoint, else the AON one, else the newest non-volatile one (R401); zero, their
value at manufacture, where none was ever written (R381). -/
def VitPart.ckTotals (v : VitPart) : List (Nat × Nat) :=
  match v.nv.getD v.nvNewest none, v.aonCk with
  | some c, some a => if c.off then c.totals else a.totals
  | some c, none => c.totals
  | none, some a => a.totals
  | none, none => []

/-- A counter of a total uncorrectable in both copies (R376). -/
def Dev.vitTotalFault (d : Dev) (t : Nat) (frm : Bool) : Dev :=
  let g := d.vit.ckTotals.getD t (0, 0)
  let c := d.vit.totals.getD t (0, 0)
  let d := { d with vit := { d.vit with totals := d.vit.totals.set t (if frm then (c.1, g.2) else (g.1, c.2)) } }
  (d.count F.VIT_CNT_CTR_FAULT).vitLog 0x0C false 0xFFFF 0 |>.raise 1509

/-! Sealed commands (R385 to R387). Each gives VREASON, the result words from word 1 on, and the device. -/

/-- What a sealed command answers: VREASON, the upper half of word 1, the words after it. -/
structure VitAns where
  why : Nat
  hi : Nat := 0
  words : List Word := []
  deriving DecidableEq, Repr

/-- The gate of class C: the seal, then the log (R387). ARCHIVE_CLEAR is exempt from the log test (R398). -/
def Dev.vitGateC (d : Dev) (archive : Bool) (g : Dev → VitAns × Dev) : VitAns × Dev :=
  if !d.b F.VIT_SEAL_OPEN then ({ why := 6 }, d)
  else if !archive && d.vit.log.length ≥ 2032 then ({ why := 7 }, d)
  else
    let r := g d
    if r.1.why == 0 then (r.1, { r.2 with vit := { r.2.vit with sealCmds := r.2.vit.sealCmds + 1 } }) else r

/-- Add a change for the next TICK. -/
def Dev.vitChange (d : Dev) (c : SeChange) : Dev := { d with vit := { d.vit with pending := d.vit.pending ++ [c] } }

/-- A downstream binding as it will stand once the waiting changes are active. -/
def Dev.vitBindAfter (d : Dev) (slot : Nat) : Nat × Nat × Bool :=
  d.vit.pending.foldl (fun a c => match c with
    | .bindDs s f ac v => if s == slot then (f, ac, v) else a
    | _ => a) (d.f F.VIT_BIND_DS_FTAG slot, d.f F.VIT_BIND_DS_ACCT slot, d.b F.VIT_BIND_DS_VALID slot)

/-- The slots that hold a binding now or after the waiting changes. -/
def Dev.vitSlots (d : Dev) : List Nat :=
  (d.listed F.VIT_BIND_DS_VALID).map (·.1) ++
    d.vit.pending.filterMap (fun c => match c with | .bindDs s _ _ _ => some s | _ => none)

/-- An upstream binding as it will stand. -/
def Dev.vitBindUsAfter (d : Dev) (ctx : Nat) : Nat × Bool :=
  d.vit.pending.foldl (fun a c => match c with
    | .bindUs s ac v => if s == ctx then (ac, v) else a
    | _ => a) (d.f F.VIT_BIND_US_ACCT ctx, d.b F.VIT_BIND_US_VALID ctx)

def vitBindDs (ws : List Word) (d : Dev) : VitAns × Dev :=
  d.vitGateC false fun d =>
    let slot := wf ws 1 8 12
    let ftag := wf ws 1 20 16
    let acct := wf ws 1 36 12
    let valid := wf ws 1 48 1 == 1
    if valid && d.vitSlots.any (fun s => s != slot && (d.vitBindAfter s).2.2 && (d.vitBindAfter s).1 == ftag) then
      ({ why := 3 }, d)
    else
      let o := d.vitBindAfter slot
      ({ why := 0 }, (d.vitChange (.bindDs slot ftag acct valid)).vitLog 3 true (ws.getD 1 0).toNat
        (o.1 + o.2.1 * 65536 + b2n o.2.2 * 2 ^ 28))

def vitBindUs (ws : List Word) (d : Dev) : VitAns × Dev :=
  d.vitGateC false fun d =>
    let ctx := wf ws 1 8 12
    let o := d.vitBindUsAfter ctx
    ({ why := 0 }, (d.vitChange (.bindUs ctx (wf ws 1 20 12) (wf ws 1 32 1 == 1))).vitLog 4 true (ws.getD 1 0).toNat
      (o.1 + b2n o.2 * 4096))

/-- The interval length as it will stand. -/
def Dev.vitLenAfter (d : Dev) : Nat :=
  d.vit.pending.foldl (fun a c => match c with | .setInterval len => len | _ => a) (d.f F.VIT_CFG_LEN)

def vitSetInterval (ws : List Word) (d : Dev) : VitAns × Dev :=
  d.vitGateC false fun d =>
    let len := wf ws 1 8 6
    if len == 0 || len > 60 then ({ why := 2 }, d)
    else ({ why := 0 }, (d.vitChange (.setInterval len)).vitLog 5 true len d.vitLenAfter)

def vitSetPulse (ws : List Word) (d : Dev) : VitAns × Dev :=
  d.vitGateC false fun d =>
    let src := wf ws 1 8 4
    let oct := wf ws 2 0 40
    if src > 9 || oct < 100000000 then ({ why := 2 }, d)
    else ({ why := 0 }, (d.vitChange (.setPulse src (wf ws 1 12 12) oct)).vitLog 6 true (ws.getD 1 0).toNat (ws.getD 2 0).toNat)

/-- The chain value a request gives in words 2 to 5, 32 octets in order (R386). -/
def vitChainArg (ws : List Word) : Nat := ofBe (wordOctets ((ws.drop 2).take 4))

/-- FAULTED cleared on every account (R376, R399). -/
def clearFaulted (m : SMap VitAcct) : SMap VitAcct :=
  (List.map (fun (p : Nat × VitAcct) => (p.1, { p.2 with faulted := false })) m).filter (fun p => decide (p.2 ≠ ({} : VitAcct)))

def vitArchive (ws : List Word) (d : Dev) : VitAns × Dev :=
  d.vitGateC true fun d =>
    let v := d.vit
    match v.log.getLast?, v.log.head? with
    | some newest, some oldest =>
      let first := wf oldest 0 0 32
      let last := wf newest 0 0 32
      if wf ws 1 32 32 != last || vitChainArg ws != v.chain then ({ why := 5 }, d)
      else
        let body := vitHeader v 5 (b2n v.obsValid) 0 v.readSeq v.obsSfc 0 ++
          [pk [(first, 0), (last, 32)], pk [(v.log.length % 4096, 0), (v.ovf, 16)]] ++
          be256 v.chain ++ [0, 0, 0, 0, 0]
        let sig := vitSign v.signKey body
        let low := ofLe ((beBytes 32 v.chain).take 8)
        let d := { d with vit := { v with
          readSeq := (v.readSeq + 1) % 2 ^ 32, log := [], ovf := 0, chain := 0
          accts := clearFaulted v.accts } }
        ({ why := 0, words := sig }, d.vitLog 7 true (first + last * 2 ^ 32) low)
    | _, _ => ({ why := 5 }, d)

/-- Saturated signed 32-bit value. -/
def sat32 (z : Int) : Nat := unsigned 32 (max (-2147483648) (min 2147483647 z))

/-- CLOCK_CHECK with the time counted on AON_CLK since the last tick observation, in ns (R386). -/
def vitClockCheck (aonNs : Nat) (ws : List Word) (d : Dev) : VitAns × Dev :=
  d.vitGateC false fun d =>
    let ref : Int := (wf ws 2 0 48 * 1000000000 + wf ws 3 0 32 : Nat)
    let own : Int := (d.vit.obsIdeal / 65536 + aonNs : Nat)
    let diff := sat32 (ref - own)
    ({ why := 0, hi := diff }, d.vitLog 8 true diff (wf ws 2 0 48))

/-- The identity words 5 to 23 of records 06h and 07h (R393). -/
def vitIdentWords (kgen keyNo : Nat) : List Word :=
  [pk [(Config.vitVer % 2 ^ 16, 0), (kgen, 16)]] ++ (List.range 4).map (fun i => BitVec.ofNat 64 (Config.vitDigest i)) ++
  be256 (vitPub keyNo).1 ++ be256 (vitPub keyNo).2 ++ [0, 0, 0, 0, 0, 0]

def vitKeyRotate (_ws : List Word) (d : Dev) : VitAns × Dev :=
  d.vitGateC false fun d =>
    let v := d.vit
    let kgen := (d.f F.VIT_ID_KGEN + 1) % 256
    let key := v.keyNo + 1
    let sig := vitSign v.keyNo (vitHeader v 7 (b2n v.obsValid) 0 v.readSeq v.obsSfc 0 ++ vitIdentWords kgen key)
    let d := (d.set F.VIT_ID_KGEN kgen)
    let d := { d with vit := { d.vit with keyNo := key, readSeq := (v.readSeq + 1) % 2 ^ 32 } }
    ({ why := 0, words := sig }, d.vitLog 9 true kgen (ofLe ((beBytes 32 (vitPub key).1).take 8)))

/-- Take the next readout sequence number. -/
def Dev.vitReadout (d : Dev) : Dev := { d with vit := { d.vit with readSeq := (d.vit.readSeq + 1) % 2 ^ 32 } }

def vitReadAccount (ws : List Word) (d : Dev) : VitAns × Dev :=
  let a := wf ws 1 8 12
  let c := d.vitAcct a
  let nds := (d.listed F.VIT_BIND_DS_VALID).countP (fun p => d.f F.VIT_BIND_DS_ACCT p.1 == a)
  let nus := (d.listed F.VIT_BIND_US_VALID).countP (fun p => d.f F.VIT_BIND_US_ACCT p.1 == a)
  let body := vitHeader d.vit 3 (b2n d.vit.obsValid + 8 * b2n c.faulted) a d.vit.readSeq d.vit.obsSfc (wf ws 1 32 32) ++
    vitAcctWords c ++ [pk [(nds, 0), (nus, 16), (b2n c.faulted, 29)], 0, 0, 0, 0]
  ({ why := 0, words := vitSign d.vit.signKey body }, d.vitReadout)

def vitReadTotals (ws : List Word) (d : Dev) : VitAns × Dev :=
  let v := d.vit
  let body := vitHeader v 4 (b2n v.obsValid + 8 * b2n (v.accts.any (fun p => p.2.faulted))) 0 v.readSeq v.obsSfc (wf ws 1 32 32) ++
    [0, pk [(d.f F.VIT_CFG_LEN, 0), (v.lseq, 32)]] ++ vitTotalWords v.totals ++ [0, 0, 0, 0] ++ [0, 0, 0, 0, 0]
  ({ why := 0, words := vitSign v.signKey body }, d.vitReadout)

def vitReadIntervals (ws : List Word) (d : Dev) : VitAns × Dev :=
  let n := wf ws 1 8 8
  let first := wf ws 1 32 32
  if n == 0 || n > 10 then ({ why := 2 }, d)
  else
    let held := d.vit.buffer.dropWhile (fun r => r.seq != first)
    if held.isEmpty then ({ why := 4 }, d)
    else ({ why := 0, words := (held.take n).flatMap (fun r => r.words) }, d)

/-- ACK_INTERVALS frees the slots up to a SEQ, the open gap record among them where that closes it (R390). DEDUCED: what was merged into an
open gap record that is freed before the merged record is signed goes into a record of its own (log entry 48). -/
def vitAckIntervals (ws : List Word) (d : Dev) : VitAns × Dev :=
  let upto := wf ws 1 32 32
  let kept := fun (r : VitRec) => (upto + 2 ^ 32 - r.seq) % 2 ^ 32 ≥ 2 ^ 31
  let keep := d.vit.buffer.filter kept
  let openKept := match d.vit.waiting, d.vit.buffer.getLast? with
    | some (false, _), _ => true
    | _, some r => kept r
    | _, none => true
  let waiting := match d.vit.waiting with
    | some (true, r) => some (openKept, r)
    | w => w
  let d := { d with vit := { d.vit with buffer := keep, waiting := waiting, gapOpen := d.vit.gapOpen && openKept } }
  ({ why := 0 }, d.level 1510 (keep.length ≥ 3072))

def vitReadSnapshot (ws : List Word) (d : Dev) : VitAns × Dev :=
  let first := wf ws 1 8 12
  let n := wf ws 1 20 8
  if n == 0 || n > 85 || first + n > 4096 then ({ why := 2 }, d)
  else
    match d.vit.snapshot with
    | none => ({ why := 4 }, d)
    | some (seq, m) =>
      ({ why := 0, hi := seq, words := (List.range n).flatMap (fun i => vitAcctWords (m.getD (first + i) {})) }, d)

def vitReadLog (ws : List Word) (d : Dev) : VitAns × Dev :=
  let n := wf ws 1 8 8
  let first := wf ws 1 32 32
  if n == 0 || n > 85 then ({ why := 2 }, d)
  else
    let held := d.vit.log.dropWhile (fun e => wf e 0 0 32 != first)
    if held.isEmpty then ({ why := 4 }, d)
    else ({ why := 0, words := (held.take n).flatten }, d)

/-- READ_IDENT gives the key that records are signed with, the present one from the TICK after a rotation on (R393 to R395). -/
def vitReadIdent (ws : List Word) (d : Dev) : VitAns × Dev :=
  let v := d.vit
  let body := vitHeader v 6 (b2n v.obsValid) 0 v.readSeq v.obsSfc (wf ws 1 32 32) ++
    vitIdentWords ((d.f F.VIT_ID_KGEN + 256 - (v.keyNo - v.signKey) % 256) % 256) v.signKey
  ({ why := 0, words := vitSign v.signKey body }, d.vitReadout)

/-! Commands of the table that concern PD32 alone. -/

def execIntervalRecordSigned (s : State) : Host.Outcome State Fault Refusal := s.run Dev.vitPlace
def execSealOpen (s : State) : Host.Outcome State Fault Refusal := s.run Dev.vitPresent
def execSealClose (s : State) : Host.Outcome State Fault Refusal := s.run Dev.vitAbsent
def execSealWindowEnd (s : State) : Host.Outcome State Fault Refusal := s.run Dev.vitWindowEnd
def execVitRestore (s : State) : Host.Outcome State Fault Refusal := s.run Dev.vitRestore
def execVitOffCheckpoint (s : State) : Host.Outcome State Fault Refusal := s.run Dev.vitOffCheckpoint

/-- An owed pulse begins (R400). -/
def Dev.vitPulseStart (d : Dev) : Dev :=
  if d.pins.vitPulse || d.vit.pulseOwed == 0 || !d.on 32 then d
  else { d with pins := { d.pins with vitPulse := true }, vit := { d.vit with pulseOwed := d.vit.pulseOwed - 1 } }

def execVitPulseStart (s : State) : Host.Outcome State Fault Refusal := s.run Dev.vitPulseStart

/-- A pulse ends after 1 ms (R400). -/
def Dev.vitPulseEnd (d : Dev) : Dev := { d with pins := { d.pins with vitPulse := false } }

def execVitPulseEnd (s : State) : Host.Outcome State Fault Refusal := s.run Dev.vitPulseEnd

end Sys2Proof.Machine
end

