-- ==== Sys2Proof/Machine/Downstream.lean ====
section
/-! DEFINITION. Downstream reception (03): sync (R58 to R62), decoding and the effort loop (R63 to R73), the header (R74 to
R80), delineation (R81 to R83), filter (R84, R85), decryption (R86 to R89) and reassembly (R90 to R94). -/

namespace Sys2Proof.Machine

/-- Effective role ACTIVE (R447). -/
def Dev.active (d : Dev) : Bool := !d.b F.TWN_CTL_EN || d.b F.TWN_ROLE_ROLE

/-- DS_WCLK is declared stopped (R47, R61). -/
def Dev.dsStopped (d : Dev) : Bool := bit d.clk.stopped 2

/-! Sync. -/

/-- In Watch, whether the frame with local count n is sampled (R423, R424). -/
def Dev.sampledFrame (d : Dev) (n : Nat) : Bool :=
  !d.watchOwns || d.b F.PWR_WATCH_STAT_CATCHUP || n % 2 ^ d.f F.TST_SLEEP_K == 0

/-- Reception of the frame whose codewords arrive is cut off: what has not arrived of it never will, and nothing waits for it. DESIGN
CHOICE: the codewords that did not arrive count as not decoded (R75, R83; log entry 24). -/
def Dev.rxCut (d : Dev) : Dev :=
  { d with ds := { d.ds with
    held := d.ds.held.filter (fun c => c.frame != d.ds.frameNum)
    frames := d.ds.frames.map (fun f => if f.num == d.ds.frameNum then { f with cut := true } else f) } }

/-- The sync state machine stands in HUNT (R60, R62). -/
def Dev.toHunt (d : Dev) : Dev :=
  let d := (((d.rxCut.set F.TDS_SYNC_STAT_STATE 0).set F.TDS_SYNC_STAT_GOOD 0).set F.TDS_SYNC_STAT_BAD 0)
  { d with clk := { d.clk with relock := false } }

/-- Entry to HUNT from SYNC by bad frames (R60). -/
def Dev.syncLost (d : Dev) : Dev :=
  let d := d.toHunt
  let d := { d with term := { d.term with syncLost := true, syncGot := false } }
  (d.count F.TDS_CNT_SYNC_LOSSES).raise 1153

/-- Entry to SYNC: the event, the relock step to come (R37), the effort hold with its emptied window (R72), and the phase of the US_DATA
words, which the PHY holds from here on (R105; log entry 26). -/
def Dev.syncAcquired (d : Dev) : Dev :=
  let d := (d.set F.TDS_SYNC_STAT_STATE 2).set F.TDS_SYNC_STAT_BAD 0
  let d := (d.set F.TDS_EFFORT_CAP 16).set F.TDS_EFFORT_HOLD (max (d.f F.TDS_EFFORT_HOLD) 64)
  let r := d.draw
  let d := r.2
  let d := { d with
    clk := { d.clk with relock := true, relockRef := d.clk.ref.getD 0 }, ds := { d.ds with window := [] }, term := { d.term with syncGot := true }
    us := { d.us with phase := r.1 % 512 } }
  d.raise 1152

/-- A sampled frame's outcome for the Watch controller (R423, R424). -/
def Dev.watchSample (d : Dev) (good : Bool) : Dev :=
  if !d.watchOwns then d
  else
    let d := d.count F.PWR_WATCH_STAT_SAMPLES
    if good then d.set F.PWR_WATCH_STAT_CATCHUP 0
    else ((d.set F.PWR_WATCH_STAT_CATCHUP 1).count F.PWR_WATCH_STAT_MISSES).raise 1359

/-- Bits of n whose place, counted from the first transmitted of w on, lies in [a, b), zeroed: what words with DS_VALID low give (R59). -/
def zeroSpan (w a b n : Nat) : Nat := n - n / 2 ^ (w - b) % 2 ^ (b - a) * 2 ^ (w - b)

/-- The w bits of a block that begins `p` bits into its first DS_DATA word, with the words of `invalid` (0 the first) contributing zeros
(R59). -/
def zeroWords (w p : Nat) (invalid : List Nat) (n : Nat) : Nat :=
  invalid.foldl (fun n j => if j * 1024 ≥ w + p then n else zeroSpan w (j * 1024 - p) (min w ((j + 1) * 1024 - p)) n) n

/-- The index at which the first bit of a sync block is sought: any in HUNT, else the expected one (R30, R60). -/
def Dev.syncAt (d : Dev) (pos : Nat) : Nat := if d.f F.TDS_SYNC_STAT_STATE == 0 then pos % 1024 else d.clk.expPos

/-- A sync block at index `pos` is to be checked: the next frame's comes 64 positions later within its word, and this frame's reference
instant follows from the capture edge `at'` of the word that holds its first bit, 5 ps for each bit of the word before it (R30). In HUNT
only a match makes it a frame's. -/
def Dev.syncMark (d : Dev) (pos at' : Nat) : Dev :=
  { d with clk := { d.clk with expPos := (pos + 960) % 1024, ref := some (at' + (1023 - pos) * 32768 / 100 : Nat) } }

/-- The check of a sync block whose first bit stands at index pos of the word captured at `at'` (R58 to R62); `invalid`: the words with
with DS_VALID low, 0 and 1 those that hold the block, others those before it that hold no codeword (R59). No word passes crossing 0 while it
is not up (R53). -/
def Dev.syncCheck (d : Dev) (pos at' : Nat) (block : BitVec 256) (invalid : List Nat) (los : Bool) : Dev :=
  let d := { d with pins := { d.pins with dsLos := los } }
  if !d.on 3 || !d.xUp 0 then d
  else
    let d := d.countN F.TDS_CNT_SYNC_INVALID_WORDS invalid.length
    if !d.b F.TDS_CTL_RX_EN || !d.sampledFrame (d.clk.sfc + 1) then d
    else
      let pos := d.syncAt pos
      let dist := popCount 256 (zeroWords 256 (1023 - pos) invalid block.toNat ^^^ syncPattern)
      let lost := los || d.dsStopped
      let st := d.f F.TDS_SYNC_STAT_STATE
      if st == 0 then
        if lost then d
        else
          let d := d.set F.TDS_SYNC_STAT_DIST (min dist 255)
          if dist ≤ d.f F.TDS_CTL_HUNT_THR then
            ((d.syncMark pos at').set F.TDS_SYNC_STAT_STATE 1).set F.TDS_SYNC_STAT_GOOD 1
          else d
      else
        let d := (d.syncMark pos at').set F.TDS_SYNC_STAT_DIST (min dist 255)
        let ok := dist ≤ d.f F.TDS_CTL_SYNC_THR && !lost
        let d := { d with ds := { d.ds with frameOk := ok, syncPos := if ok then pos else d.ds.syncPos, ticking := true } }
        if st == 1 then
          if ok then
            let d := d.set F.TDS_SYNC_STAT_GOOD (d.f F.TDS_SYNC_STAT_GOOD + 1)
            if d.f F.TDS_SYNC_STAT_GOOD == 3 then d.syncAcquired else d
          else (d.set F.TDS_SYNC_STAT_STATE 0).set F.TDS_SYNC_STAT_GOOD 0
        else
          let d := d.watchSample ok
          if ok then d.set F.TDS_SYNC_STAT_BAD 0
          else
            let d := d.set F.TDS_SYNC_STAT_BAD (d.f F.TDS_SYNC_STAT_BAD + 1)
            if d.f F.TDS_SYNC_STAT_BAD == 4 then d.syncLost else d

def execSyncBlockCheck (pos at' : Nat) (block : BitVec 256) (invalid : List Nat) (los : Bool) (s : State) :
    Host.Outcome State Fault Refusal := s.run (fun d => d.syncCheck pos at' block invalid los)

/-- A write of TDS_CTL; with RX_EN = 0 the state machine goes to HUNT without an event (R62). DEDUCED: from SYNC that is an entry to HUNT
which LOSSES counts, as its table says ('Entries to HUNT from SYNC'; log entry 24). -/
def Dev.writeTdsCtl (w : RegWr) (d : Dev) : Dev :=
  let d := (((d.put F.TDS_CTL_RX_EN w).put F.TDS_CTL_HUNT_THR w).put F.TDS_CTL_SYNC_THR w).put F.TDS_CTL_RSM_TMO w
  if d.b F.TDS_CTL_RX_EN then d
  else
    let d := if d.f F.TDS_SYNC_STAT_STATE == 2 then d.count F.TDS_CNT_SYNC_LOSSES else d
    { d.toHunt with ds := { d.toHunt.ds with frameOk := false } }

def execRxEnWrite (w : RegWr) (s : State) : Host.Outcome State Fault Refusal :=
  s.run (fun d => d.gated 0x40000 w (Dev.writeTdsCtl w))

/-! Decoding. -/

/-- Slice n accepts codewords: it is powered and within the slice count of the last TICK (R73). -/
def Dev.accepts (d : Dev) (n : Nat) : Bool := d.on (4 + n) && n < d.f F.TDS_EFFORT_SLICES

/-- The frame in reception with a number. -/
def Dev.rxFrame (d : Dev) (num : Nat) : Option RxFrame := d.ds.frames.find? (fun f => f.num == num)

/-- Change the frame in reception with a number. -/
def Dev.rxSet (d : Dev) (num : Nat) (g : RxFrame → RxFrame) : Dev :=
  { d with ds := { d.ds with frames := d.ds.frames.map (fun f => if f.num == num then g f else f) } }

/-- Octet i of the information bits of consecutive codewords from `first` on. -/
def RxFrame.octet (f : RxFrame) (first i : Nat) : Byte :=
  match f.cws.look (first + i / 1920) with
  | some c => infoOctet c.info (i % 1920)
  | none => 0

/-- Word i of the header area, most significant bit first (R74). -/
def RxFrame.hdrWord (f : RxFrame) (i : Nat) : Word :=
  BitVec.ofNat 64 (ofBe ((List.range 8).map (fun j => f.octet 0 (8 * i + j))))

/-- Words [a, a + n) of the header area. -/
def RxFrame.hdrWords (f : RxFrame) (a n : Nat) : List Word := (List.range n).map (fun i => f.hdrWord (a + i))

/-- What a header announces, read from codeword 0 (R74). -/
structure HdrInfo where
  sfc : Nat
  hcw : Nat
  trev : Nat
  ngrant : Nat
  nmsg : Nat
  wake : Bool
  pcw : Nat
  pseq : Nat
  kseq : Nat
  deriving DecidableEq, Repr

def RxFrame.info (f : RxFrame) : HdrInfo :=
  let w := f.hdrWords 0 2
  { sfc := wf w 0 13 51, hcw := wf w 0 9 4, trev := wf w 0 6 3, ngrant := wf w 1 52 12, nmsg := wf w 1 47 5,
    wake := wf w 1 46 1 == 1, pcw := wf w 1 35 11, pseq := wf w 1 27 8, kseq := wf w 1 19 8 }

/-- D = 3 + G + 8M + B (R75). -/
def HdrInfo.words (h : HdrInfo) : Nat := 3 + h.ngrant + 8 * h.nmsg + (if h.wake then 16 else 0)

/-- The range checks of HCW and PCW_USED (R75, R76). -/
def HdrInfo.inRange (h : HdrInfo) : Bool :=
  ceilDiv h.words 240 ≤ h.hcw && h.hcw ≤ 10 && h.pcw ≤ 1356 - h.hcw

/-- Codeword k of a frame has ended, or was cut off and never will arrive. -/
def RxFrame.done (f : RxFrame) (k : Nat) : Bool := (f.cws.look k).isSome || (f.cut && k ≥ f.next)

/-- Codeword k of a frame was decoded. -/
def RxFrame.good (f : RxFrame) (k : Nat) : Bool := match f.cws.look k with | some c => c.st == .decoded | none => false

/-- Codeword 0 has ended and gave HCW and PCW_USED in range (R75, R76). -/
def RxFrame.useful (f : RxFrame) : Bool := f.good 0 && f.info.inRange

/-- HCW and PCW_USED of a frame, from the time its codeword 0 has been decoded with both in range (R75, R76). -/
def RxFrame.known (f : RxFrame) : Option (Nat × Nat) :=
  if f.judged then some (f.hcw, f.pcw)
  else if f.useful then some (f.info.hcw, f.info.pcw)
  else none

/-- Codeword k of a frame is a header codeword; before HCW is known, the first ten may be (R65, R68). -/
def Dev.isHeaderCw (d : Dev) (num k : Nat) : Bool :=
  match d.rxFrame num with
  | some f => match f.known with
    | some p => k < p.1
    | none => k < 10
  | none => false

/-- The cap a codeword begins decoding with (R68, R69, R70). -/
def Dev.capFor (d : Dev) (c : CwIn) : Nat := if d.isHeaderCw c.frame c.k then 16 else d.f F.TDS_EFFORT_CAP

/-- Give slice n a codeword: header codewords go first, and to the lowest-numbered accepting slice (R68). -/
def Dev.assignSlice (d : Dev) (n : Nat) : Dev :=
  if !d.accepts n || (d.ds.slices.getD n none).isSome then d
  else
    let lowest := (List.range n).all (fun m => !d.accepts m)
    let hdr := if lowest then d.ds.inBuf.find? (fun c => d.isHeaderCw c.frame c.k) else none
    let pick := match hdr with
      | some c => some c
      | none => d.ds.inBuf.find? (fun c => !d.isHeaderCw c.frame c.k)
    match pick with
    | none => d
    | some c =>
      { d with ds := { d.ds with
          inBuf := d.ds.inBuf.erase c
          slices := d.ds.slices.set n (some { c with cap := d.capFor c }) } }

def Dev.assign (d : Dev) : Dev := [0, 1, 2, 3].foldl Dev.assignSlice d

/-- A codeword that finds the buffer full (R67). -/
def Dev.decSkip (d : Dev) (num k : Nat) : Dev :=
  let d := d.rxSet num (fun f => { f with cws := f.cws.put k (⟨.skipped, 0⟩ : CwOut) })
  (d.count F.TDS_CNT_DEC_SKIPPED).raise 1156

/-- A codeword reaches the input buffer (R67). -/
def Dev.cwBuffer (d : Dev) (c : CwIn) : Dev :=
  if d.ds.inBuf.length ≥ 32 then d.decSkip c.frame c.k else { d with ds := { d.ds with inBuf := d.ds.inBuf ++ [c] } }

/-- A codeword after codeword 0 is entered where that announced it; idle ones, and those of a frame whose codeword 0 gave nothing to go
by, never are (R67, R76). -/
def Dev.cwEnter (d : Dev) (c : CwIn) : Dev :=
  match (d.rxFrame c.frame).bind RxFrame.known with
  | some p => if c.k < p.1 + p.2 then d.cwBuffer c else d
  | none => d

/-- Codeword 0 of a frame has ended: what waited for it is entered or dropped, in arrival order. -/
def Dev.cwRelease (d : Dev) (num : Nat) : Dev :=
  (d.ds.held.filter (fun c => c.frame == num)).foldl Dev.cwEnter
    { d with ds := { d.ds with held := d.ds.held.filter (fun c => c.frame != num) } }

/-- A codeword of the arriving frame (R67): codeword 0 is entered at once, the others once it has ended. -/
def Dev.cwAccept (d : Dev) (c : CwIn) : Dev :=
  if c.k == 0 then
    let d := d.cwBuffer c
    if (d.rxFrame c.frame).any (fun f => f.done 0) then d.cwRelease c.frame else d
  else if (d.rxFrame c.frame).any (fun f => f.done 0) then d.cwEnter c
  else { d with ds := { d.ds with held := d.ds.held ++ [c] } }

/-- The local count of the frame whose codewords arrive: before the frame's TICK, the count that the TICK will set (R30, R38). -/
def Dev.rxSfc (d : Dev) : Nat := if d.ds.ticking then (d.clk.sfc + 1) % 2 ^ 51 else d.clk.sfc

/-- The frame whose first codeword arrives; what is decoded of it before its TICK waits for that TICK (R88). -/
def Dev.rxNew (d : Dev) : RxFrame :=
  { num := d.ds.frameNum + 1, sfc := d.rxSfc, waits := d.ds.ticking, keys := d.ds.keysNow }

/-- A frame's first codeword arrives: the frame before it gets no more. -/
def Dev.rxBegin (d : Dev) : Dev :=
  let d := d.rxCut
  { d with ds := { d.ds with
    frameNum := d.ds.frameNum + 1
    frames := d.ds.frames.filter (fun f => !f.ended) ++ [d.rxNew] } }

/-- The place within its first DS_DATA word at which every codeword of the frame begins: 256 bits after the sync block, a codeword being
18 words long (R30, R63). -/
def Dev.cwPhase (d : Dev) : Nat := (1023 - (d.clk.expPos + 64) % 1024 + 256) % 1024

/-- Words of `invalid` (0 the one in which a codeword begins) that this codeword counts: a word shared with what comes before is counted
there (R59). -/
def wordsCounted (phase : Nat) (invalid : List Nat) : Nat := (invalid.filter (fun j => j != 0 || phase == 0)).length

/-- A codeword arrives (R59, R63, R67). DESIGN CHOICE: outside SYNC codewords are descrambled and not entered (log entry 24). -/
def Dev.cwArrival (d : Dev) (k : Nat) (raw : BitVec 18432) (invalid : List Nat) : Dev :=
  if !d.on 3 || !d.xUp 0 then d
  else
    let p := d.cwPhase
    let d := d.countN F.TDS_CNT_SYNC_INVALID_WORDS (wordsCounted p invalid)
    if !d.sampledFrame d.rxSfc then d
    else
      let y := descramble d.ds.descr (BitVec.ofNat 18432 (zeroWords 18432 p invalid raw.toNat))
      let d := { d with ds := { d.ds with descr := y.2 } }
      if d.f F.TDS_SYNC_STAT_STATE != 2 then d
      else
        let d := if k == 0 then d.rxBegin else d
        match d.rxFrame d.ds.frameNum with
        | none => d
        | some f =>
          if f.cut || f.next != k then d
          else ((d.rxSet f.num (fun f => { f with next := k + 1 })).cwAccept { frame := f.num, k := k, word := y.1, cap := 0 }).assign

def execCodewordArrival (k : Nat) (raw : BitVec 18432) (invalid : List Nat) (s : State) :
    Host.Outcome State Fault Refusal := s.run (fun d => d.cwArrival k raw invalid)

/-- Add an iteration count to the window of the present tick; 17 stands for an uncorrectable codeword (R69). -/
def Dev.windowAdd (d : Dev) (n : Nat) : Dev :=
  let bump := fun (h : List Nat) => h.set n (h.getD n 0 + 1)
  let w := match d.ds.window with
    | [] => [bump (List.replicate 18 0)]
    | h :: t => bump h :: t
  { d with ds := { d.ds with window := w } }

/-- An uncorrectable codeword raises the cap and sets the hold (R69, R70). -/
def Dev.uncorrectable (d : Dev) : Dev :=
  let d := (d.count F.TDS_CNT_FEC_UNCORR).windowAdd 17
  ((d.set F.TDS_EFFORT_CAP 16).set F.TDS_EFFORT_HOLD 1024).raise 1155

/-- Slice n ends the codeword it holds: `iters` iterations led to `word`. A codeword with zero syndrome needs none; one
whose syndrome is still non-zero, or that took more than its cap, is uncorrectable and has taken its cap (R65). -/
def Dev.cwDecoded (d : Dev) (n iters : Nat) (word : BitVec 18432) : Dev :=
  match d.ds.slices.getD n none with
  | none => d
  | some c =>
    let d := { d with ds := { d.ds with slices := d.ds.slices.set n none } }
    let clean := ldpcValid c.word
    let ok := clean || (1 ≤ iters && iters ≤ c.cap && ldpcValid word)
    let it := if clean then 0 else if ok then iters else c.cap
    let d := ((d.count F.TDS_CNT_CW_DECODED).act 1 it).pmc 0x16 it
    let v := if clean then c.word else word
    let d := d.rxSet c.frame (fun f => { f with cws := f.cws.put c.k (⟨if ok then .decoded else .uncorrectable, ldpcInfo v⟩ : CwOut) })
    let d :=
      if ok then (if it ≥ 1 then d.count F.TDS_CNT_FEC_CORR_CW else d).windowAdd it
      else d.uncorrectable
    (if c.k == 0 then d.cwRelease c.frame else d).assign

def execCodewordDecoded (slice iters : Nat) (word : BitVec 18432) (s : State) :
    Host.Outcome State Fault Refusal := s.run (fun d => d.cwDecoded slice iters word)

/-! The effort loop at a TICK. -/

/-- Iteration counts above v in the window. -/
def windowAbove (w : List (List Nat)) (v : Nat) : Nat :=
  (w.map (fun h => (h.drop (v + 1)).foldl (· + ·) 0)).foldl (· + ·) 0

/-- The p of R69. -/
def effortP (w : List (List Nat)) : Nat :=
  let n := (w.map (fun h => h.foldl (· + ·) 0)).foldl (· + ·) 0
  match (List.range 17).find? (fun v => windowAbove w v ≤ n / 10000) with
  | some v => v
  | none => 16

/-- The cap of FIX_CAP (TDS_EFFORT_CTL). -/
def fixCap (c : Nat) : Nat := [4, 6, 8, 12, 16].getD c 16

/-- The payload cap of the frame (R69); `pondLow` is the pond state in force. -/
def Dev.effortTick (d : Dev) (pondLow : Bool) : Dev :=
  let d :=
    if d.f F.TDS_EFFORT_HOLD > 0 then
      ((d.set F.TDS_EFFORT_CAP 16).set F.TDS_EFFORT_HOLD (d.f F.TDS_EFFORT_HOLD - 1)).set F.TDS_EFFORT_POND_CLAMP 0
    else
      let p := effortP d.ds.window
      let t0 := (([4, 6, 8, 12, 16] : List Nat).find? (fun c => c ≥ p + 2)).getD 16
      let target := if d.b F.TDS_EFFORT_CTL_FIX_EN then fixCap (d.f F.TDS_EFFORT_CTL_FIX_CAP) else t0
      let clamp := pondLow && target > d.f F.TDS_EFFORT_CAP
      let d := (d.set F.TDS_EFFORT_P9999 p).setB F.TDS_EFFORT_POND_CLAMP clamp
      if clamp then d else d.set F.TDS_EFFORT_CAP target
  { d with ds := { d.ds with window := (List.replicate 18 0 :: d.ds.window).take 64 } }

/-- Twice the core cycles per tick at a point (R408). -/
def cycles2 (point : Nat) : Nat := [100000, 87500, 78125, 70000, 62500].getD point 62500

/-- The slice count S (R73). -/
def Dev.sliceCount (d : Dev) : Nat :=
  let cap := d.f F.TDS_EFFORT_CAP
  let w := d.ds.loads.foldl (fun a p => max a (p.1 * 72 + p.2 * (8 + 4 * cap))) 0
  max 1 (min 4 (ceilDiv (20 * w) (9 * cycles2 (d.f F.PWR_DVFS_STAT_FPOINT))))

/-! The header. -/

/-- Own terminal ID is valid and equals t. -/
def Dev.isOwnId (d : Dev) (t : Nat) : Bool := d.b F.TST_ID_VALID && d.f F.TST_ID_TID == t

/-- ADDR, TID and TYPE of a control message (R77). -/
def msgAddr (m : Msg) : Nat := wf m 0 62 2
def msgTid (m : Msg) : Nat := wf m 0 52 10
def msgType (m : Msg) : Nat := wf m 0 44 8
def msgSeq (m : Msg) : Nat := wf m 0 36 8

/-- Types the sequencer handles, and those Docent handles (R78). -/
def seqTypes : List Nat := [2, 3, 6, 9, 0x0B]
def docentTypes : List Nat := [1, 4, 5, 7, 8, 0x0A, 0x0C]

/-- Route one message of a valid header (R78, R79): one of an unlisted TYPE is unknown, accepted or not. -/
def Dev.routeMsg (d : Dev) (m : Msg) : Dev :=
  let ty := msgType m
  let acc := msgAddr m == 1 || msgAddr m == 2 || (msgAddr m == 0 && d.isOwnId (msgTid m))
  if msgAddr m == 3 || (!seqTypes.contains ty && !docentTypes.contains ty) then
    { d with ds := { d.ds with unknown := d.ds.unknown ++ [m] } }
  else if !acc then d
  else if seqTypes.contains ty then
    { d with ds := { d.ds with seqMsgs := d.ds.seqMsgs ++ [m] } }.count F.TDS_CNT_MSG_TO_SEQ
  else if d.ds.docentMsgs.length ≥ 64 then (d.count F.TDS_CNT_MSG_DOCENT_DROP).raise 1157
  else { d with ds := { d.ds with docentMsgs := d.ds.docentMsgs ++ [m] } }

/-- Eight consecutive valid headers after the switch frame with a KSEQ other than the switched one (R148). -/
def Dev.kseqCheck (d : Dev) (sfc kseq : Nat) : Dev :=
  if !d.term.kseqWatch || sfc ≤ d.term.kseqSfc then d
  else if kseq == d.f F.TST_KEYSW_KSEQ then { d with term := { d.term with kseqRun := 0 } }
  else if d.term.kseqRun + 1 ≥ 8 then
    { d with term := { d.term with kseqRun := 0, kseqWatch := false } }.raise 1219
  else { d with term := { d.term with kseqRun := d.term.kseqRun + 1 } }

/-- All conditions of R75 on a header whose codewords have ended. -/
def RxFrame.hdrOk (f : RxFrame) : Bool :=
  let h := f.info
  (List.range h.hcw).all f.good && h.trev == 3 && h.ngrant ≤ 2048 && h.nmsg ≤ 16 && h.inRange &&
  crc32Words (f.hdrWords 0 (h.words - 1)) == wf (f.hdrWords (h.words - 1) 1) 0 32 32

/-- The sequencer has work in this frame: RUNNING or WAITING. -/
def Dev.seqBusy (d : Dev) : Bool := d.f F.SEQ_STAT_STATE == 1 || d.f F.SEQ_STAT_STATE == 2

/-- Messages waiting for the sequencer are lost, and counted (R324). -/
def Dev.seqMsgsLost (d : Dev) : Dev :=
  let n := d.ds.seqMsgs.length
  let d := { d with ds := { d.ds with seqMsgs := [] } }
  (d.countN F.SEQ_CNT2_MSG_LOST n).raiseIf (n != 0) 1416

/-- Messages of a frame that has overrun already are lost with it (R324). -/
def Dev.seqMsgsLate (d : Dev) : Dev := if d.f F.SEQ_STAT_STATE == 4 then d.seqMsgsLost else d

/-- An invalid header: no grants, no messages, no wake bitmap (R76). -/
def Dev.hdrInvalid (d : Dev) : Dev :=
  let d := { d with ds := { d.ds with grants := [], hdrFresh := false, seqMsgs := [] } }
  (((d.set F.TDS_SYNC_STAT_HDR_VALID 0).set F.TDS_HDR_WAKE_SELF 0).count F.TDS_CNT_DEC_HDR_BAD).raise 1154

/-- A valid header of frame f: registers, the superframe count (R38: the header's, advanced by the TICKs since the frame's own), messages,
wake bitmap (R80). -/
def Dev.hdrValid (d : Dev) (f : RxFrame) : Dev :=
  let h := f.info
  let d := (((d.set F.TDS_SYNC_STAT_HDR_VALID 1).set F.TDS_SYNC_STAT_SFC_LOW (h.sfc % 2 ^ 32)).set F.TDS_HDR_PSEQ h.pseq).set
    F.TDS_HDR_KSEQ h.kseq
  let d := ((d.set F.TDS_HDR_NGRANT h.ngrant).set F.TDS_HDR_NMSG h.nmsg).setB F.TDS_HDR_WAKE_PRESENT h.wake
  let d :=
    if h.sfc == f.sfc then d
    else { d with clk := { d.clk with sfc := (h.sfc + (d.clk.sfc + 2 ^ 51 - f.sfc)) % 2 ^ 51 } }.raise 1120
  let d := { d with ds := { d.ds with grants := f.hdrWords 2 h.ngrant, hdrFresh := true, hdrSeen := true, seqMsgs := [] } }
  let d := ((List.range h.nmsg).map (fun i =>
    f.hdrWords (2 + h.ngrant + 8 * i) 8 ++ [BitVec.ofNat 64 h.sfc, BitVec.ofNat 64 i])).foldl Dev.routeMsg d
  let t := d.f F.TST_ID_TID
  let own := h.wake && d.b F.TST_ID_VALID &&
    bit (f.hdrWord (2 + h.ngrant + 8 * h.nmsg + t / 64)).toNat (63 - t % 64)
  let d := if h.wake then d.setB F.TDS_HDR_WAKE_SELF own else d
  let d := if own then d.wake 0 else d
  (d.kseqCheck h.sfc h.kseq).seqMsgsLate

/-- The header of the oldest frame not yet judged, once its TICK has come and its codewords have ended (R75, R76, R88). -/
def Dev.headerDecode (d : Dev) : Dev :=
  match d.ds.frames.find? (fun f => !f.judged) with
  | none => d
  | some f =>
    let h := f.info
    if f.waits || !f.done 0 || (f.useful && !(List.range h.hcw).all f.done) then d
    else
      let ok := f.useful && f.hdrOk
      let hcw := if f.useful then h.hcw else 0
      let pcw := if f.useful then h.pcw else 0
      let d := d.rxSet f.num (fun x => { x with
        judged := true, valid := ok, hcw := hcw, pcw := pcw, ended := !f.useful,
        sfc := if ok then h.sfc else x.sfc })
      let d := { d with ds := { d.ds with loads := ((hcw, pcw) :: d.ds.loads).take 4, hdrJudged := true } }
      let d := (d.set F.TDS_SYNC_STAT_HCW hcw).set F.TDS_SYNC_STAT_PCW_USED pcw
      let d := if f.useful then d else d.count F.TDS_CNT_DEC_PAYLOAD_LOST
      if ok then d.hdrValid f else d.hdrInvalid

def execHeaderDecode (s : State) : Host.Outcome State Fault Refusal := s.run Dev.headerDecode

/-- The oldest unknown message is discarded and counted (R78). -/
def Dev.unknownMsg (d : Dev) : Dev :=
  match d.ds.unknown with
  | [] => d
  | _ :: t => { d with ds := { d.ds with unknown := t } }.count F.TDS_CNT_MSG_UNKNOWN

def execUnknownMessage (s : State) : Host.Outcome State Fault Refusal := s.run Dev.unknownMsg

/-! Reassembly (R90 to R94). -/

/-- Entry e becomes poisoned (R92). -/
def Dev.poison (d : Dev) (e : Nat) : Dev :=
  let d := { d with ds := { d.ds with rsm := d.ds.rsm.del e } }
  if d.ds.poisoned.contains e then d
  else { d with ds := { d.ds with poisoned := e :: d.ds.poisoned } }.count F.TDS_CNT_RSM_POISONED

/-- A discarded fragment of entry e, by its LF bit (R92). -/
def Dev.fragDiscard (d : Dev) (e : Nat) (lf : Bool) : Dev :=
  if lf then
    let had := (d.ds.rsm.look e).isSome
    let d := { d with ds := { d.ds with rsm := d.ds.rsm.del e, poisoned := d.ds.poisoned.erase e } }
    if had then d.count F.TDS_CNT_RSM_POISONED else d
  else d.poison e

/-- Cells the reassemblies hold (R90). DESIGN CHOICE: the fragments of one reassembly stand one after another, so that one fills the last
cell of the one before it (log entry 24). -/
def Dev.rsmCells (d : Dev) : Nat := (d.ds.rsm.map (fun p => ceilDiv p.2.data.length 256)).foldl (· + ·) 0

/-- The store has no room (R90): counted, and RSM_STORE_FULL at most once per tick. -/
def Dev.rsmNoRoom (d : Dev) : Dev :=
  let d := d.count F.TDS_CNT_RSM_NO_ROOM
  if d.ds.storeFullRaised then d
  else { d.raise 1159 with ds := { (d.raise 1159).ds with storeFullRaised := true } }

/-- Beats of a frame of L octets (R18). -/
def beats (len : Nat) : Nat := ceilDiv len 128

/-- Room in an entry FIFO of 1,024 beats (R21). -/
def Dev.fifoRoom (d : Dev) (path len : Nat) : Bool :=
  ((d.cls.fifo.getD path []).map (fun f => beats f.len)).foldl (· + ·) 0 + beats len ≤ 1024

/-- A frame enters the entry FIFO of a path. -/
def Dev.fifoPush (d : Dev) (path : Nat) (f : Frame) : Dev :=
  { d with cls := { d.cls with fifo := d.cls.fifo.set path (d.cls.fifo.getD path [] ++ [f]) } }

/-- A completed frame of entry e leaves (R91, R94). -/
def Dev.frameDone (d : Dev) (e kidx : Nat) (data : List Byte) (parityBad : Bool) : Dev :=
  if data.length < 14 || data.length > 9596 || (e == 0 && data.length > 2048) then d.count F.TDS_CNT_RSM_SIZE
  else if e == 0 then
    if (d.ds.mgmt.map List.length).foldl (· + ·) 0 + data.length > 65536 then d.count F.TDS_CNT_MSG_MGMT_DROP
    else { d with ds := { d.ds with mgmt := d.ds.mgmt ++ [data] } }
  else if !d.fifoRoom 0 data.length then d.count F.TDS_CNT_OVR_OVERRUN
  else
    let r := d.vitDs (d.f F.TDS_FLT_FTAG e) kidx data.length parityBad
    (r.2.fifoPush 0 { data := data, path := 0, src := e, acct := r.1 }).count F.TDS_CNT_FRM_FRAMES |>.meter 8 data.length

/-- An accepted, clear fragment of entry e goes through reassembly (R90 to R92). -/
def Dev.reassemble (d : Dev) (e kidx : Nat) (lf : Bool) (data : List Byte) (parityBad : Bool) : Dev :=
  let limit := if e == 0 then 2048 else 9596
  if d.ds.poisoned.contains e then
    if lf then { d with ds := { d.ds with poisoned := d.ds.poisoned.erase e } } else d
  else
    match d.ds.rsm.look e with
    | none =>
      if lf then d.frameDone e kidx data parityBad
      else if data.length > limit then (d.count F.TDS_CNT_RSM_SIZE).fragDiscard e lf
      else if d.ds.rsm.length ≥ 512 || d.rsmCells + ceilDiv data.length 256 > 2048 then d.rsmNoRoom.fragDiscard e lf
      else { d with ds := { d.ds with rsm := d.ds.rsm.put e (⟨data, 0⟩ : Rsm) } }
    | some r =>
      let all := r.data ++ data
      if all.length > limit then (d.count F.TDS_CNT_RSM_SIZE).fragDiscard e lf
      else if d.rsmCells - ceilDiv r.data.length 256 + ceilDiv all.length 256 > 2048 then d.rsmNoRoom.fragDiscard e lf
      else if lf then
        { d with ds := { d.ds with rsm := d.ds.rsm.del e } }.frameDone e kidx all parityBad
      else { d with ds := { d.ds with rsm := d.ds.rsm.put e (⟨all, 0⟩ : Rsm) } }

/-- A reassembly times out (R93): it has had no fragment for RSM_TMO ticks. -/
def Dev.rsmTimeout (d : Dev) (e : Nat) : Dev :=
  match d.ds.rsm.look e with
  | none => d
  | some r => if r.age < max 1 (d.f F.TDS_CTL_RSM_TMO) then d else (d.count F.TDS_CNT_RSM_TIMEOUT).poison e

def execReassemblyTimeout (n : Nat) (s : State) : Host.Outcome State Fault Refusal := s.run (fun d => d.rsmTimeout n)

/-! Filter and decryption. -/

/-- The valid filter entry that holds a tag; entry 0 is fixed to FFF0h, and 0000h and FFF1h to FFFFh never match (R84). -/
def Dev.fltFind (d : Dev) (tag : Nat) : Option Nat :=
  if tag == 0xFFF0 then some 0
  else if tag == 0 || tag > 0xFFF0 then none
  else ((d.listed F.TDS_FLT_FTAG).find? (fun p => p.1 != 0 && p.2 == tag && d.b F.TDS_FLT_VALID p.1)).map (·.1)

/-- The KIDX rules of R86 for entry e, with the key slots of the frame's TICK (R88). -/
def Dev.kidxOk (d : Dev) (keys : List (Bool × Nat)) (e kidx : Nat) : Bool :=
  let bcast := e != 0 && d.b F.TDS_FLT_BCAST e
  (if bcast then kidx == 0 || kidx == 3 else kidx != 3) &&
  !(kidx == 0 && d.b F.TDS_FLT_ENC_REQ e) &&
  (kidx == 0 || (keys.getD (kidx - 1) (false, 0)).1)

/-- The IV of R87. -/
def gcmIv (sfc cw ofs ftag : Nat) : Nat :=
  ((((sfc % 2 ^ 51) * 2 ^ 11 + cw) * 2 ^ 11 + ofs) * 2 ^ 16 + ftag) * 2 ^ 7

/-- The filter on a header's flow tag: the entry that takes it, or its miss, which is counted (R24, R84), or its loss on a standby
terminal (R458). While PD11 is off, and until the TICK after, entry 0 alone takes any. -/
def Dev.fltAdmit (d : Dev) (tag : Nat) : Option Nat × Dev :=
  match d.fltFind tag with
  | none => (none, d.count F.TDS_CNT_DLN_TAG_MISS)
  | some e =>
    if e != 0 && !(d.ds.filterOpen && d.on 11) then (none, d.count F.TDS_CNT_DLN_TAG_MISS)
    else if e != 0 && !d.active then (none, d.count F.TWN_CNT2_STBY_DROP)
    else (some e, d)

/-- The header word is the idle header's (R82). -/
def encIdle (h : Nat) : Bool := bits h 32 32 == 0 && bit h 31

/-- A fragment is lost whose header h has been read: filter (R84), and its entry by R92. -/
def Dev.fragLost (d : Dev) (h : Nat) : Dev :=
  if encIdle h then d
  else
    let r := d.fltAdmit (bits h 34 16)
    match r.1 with
    | none => r.2
    | some e => r.2.fragDiscard e (bit h 31)

/-- The fragment with header word h, whose octets follow: filter (R84), key (R86), tag (R89), reassembly. -/
def Dev.fragment (d : Dev) (keys : List (Bool × Nat)) (sfc cw ofs h : Nat) (body : List Byte) (parityBad : Bool) : Dev :=
  let ftag := bits h 34 16
  let kidx := bits h 32 2
  let lf := bit h 31
  let r := d.fltAdmit ftag
  let d := r.2
  match r.1 with
  | none => d
  | some e =>
    if !d.kidxOk keys e kidx then (d.count F.TDS_CNT_SEC_KIDX_BAD).fragDiscard e lf
    else if kidx == 0 then d.reassemble e kidx lf body parityBad
    else
      let key := (keys.getD (kidx - 1) (false, 0)).2
      let n := body.length - 8
      let iv := gcmIv sfc cw ofs ftag
      let d := d.act 3 (ceilDiv n 16)
      let ct := body.take n
      let ok := body.length ≥ 9 && gcmTag key iv (beBytes 8 h) ct == ofBe (body.drop n)
      if !ok then ((d.count F.TDS_CNT_SEC_AUTH_FAIL).raise 1158).fragDiscard e lf
      else d.reassemble e kidx lf (gcmCrypt key iv ct) parityBad

/-! Delineation (R83). -/

/-- The codewords that octets [a, b) of the payload area touch. -/
def touched (f : RxFrame) (a b : Nat) : List Nat :=
  if a ≥ b then [] else (List.range ((b - 1) / 1920 - a / 1920 + 1)).map (fun i => f.hcw + a / 1920 + i)

/-- Every codeword touched has ended. -/
def RxFrame.resolved (f : RxFrame) (a b : Nat) : Bool := (touched f a b).all f.done

/-- The first codeword touched that has ended and was not decoded. -/
def RxFrame.firstBad (f : RxFrame) (a b : Nat) : Option Nat := (touched f a b).find? (fun k => f.done k && !f.good k)

/-- Some codeword touched is uncorrectable or skipped. -/
def RxFrame.bad (f : RxFrame) (a b : Nat) : Bool := (f.firstBad a b).isSome

/-- The first octet beyond the first bad codeword that octets [a, b) touch (R83, items 4 and 5). -/
def RxFrame.beyond (f : RxFrame) (a b : Nat) : Nat :=
  match f.firstBad a b with
  | some k => (k - f.hcw + 1) * 1920
  | none => a + 1

/-- Octets of the payload area. -/
def RxFrame.area (f : RxFrame) : Nat := f.pcw * 1920

/-- Octets [a, a + n) of the payload area. -/
def RxFrame.octets (f : RxFrame) (a n : Nat) : List Byte := (List.range n).map (fun i => f.octet f.hcw (a + i))

/-- The header word at an octet. -/
def RxFrame.encHdr (f : RxFrame) (a : Nat) : Nat := ofBe (f.octets a 8)

/-- Valid fields (R82). -/
def encValid (h : Nat) : Bool := !(bits h 50 14 == 0 && !bit h 31)

/-- The search of HUNT from octet q on: the first header found, and the confirming header's place (R83, items 4 and 5). -/
def RxFrame.hunt (f : RxFrame) : Nat → Nat → Option (Nat × Nat)
  | 0, _ => none
  | fuel + 1, q =>
    if q + 8 > f.area then none
    else if f.bad q (q + 8) then f.hunt fuel (f.beyond q (q + 8))
    else
      let h := f.encHdr q
      let q2 := q + 8 + bits h 50 14
      if bchRem h == 0 && encValid h && q2 + 8 ≤ f.area && !f.bad q2 (q2 + 8) && bchRem (f.encHdr q2) == 0 then some (h, q2)
      else f.hunt fuel (q + 1)

/-- A move to HUNT: every reassembly in progress is discarded and its entry poisoned (R83, R92). -/
def Dev.enterHunt (d : Dev) (num pos : Nat) : Dev :=
  let d := d.rxSet num (fun f => { f with lock := false, pos := pos })
  (d.ds.rsm.map (·.1)).foldl Dev.poison (d.count F.TDS_CNT_DLN_HUNTS)

/-- One step of delineation of frame f: the next header in LOCK, or the whole search in HUNT (R83). -/
def Dev.delineate (d : Dev) (f : RxFrame) (parityBad : Bool) : Dev :=
  if f.pos + 8 > f.area then d.rxSet f.num (fun f => { f with ended := true })
  else if !f.lock then
    if !f.resolved 0 f.area then d
    else
      match f.hunt (f.area + 1) f.pos with
      | some (h, q) => (d.rxSet f.num (fun f => { f with lock := true, pos := q })).fragLost h
      | none => d.rxSet f.num (fun f => { f with ended := true })
  else if !f.resolved f.pos (f.pos + 8) then d
  else if f.bad f.pos (f.pos + 8) then d.enterHunt f.num (f.beyond f.pos (f.pos + 8))
  else
    match bchDecode (f.encHdr f.pos) with
    | none => (d.count F.TDS_CNT_ENC_BCH_UNCORR).enterHunt f.num (f.pos + 1)
    | some (h, n) =>
      let next := f.pos + 8 + bits h 50 14
      if !f.resolved f.pos (min next f.area) then d
      else
        let d := if n > 0 then d.count F.TDS_CNT_ENC_BCH_CORR else d
        if !encValid h then d.enterHunt f.num (f.pos + 1)
        else if next > f.area || f.bad (f.pos + 8) next then
          (d.fragLost h).enterHunt f.num (f.beyond f.pos (min next f.area))
        else
          let d := d.rxSet f.num (fun f => { f with pos := next })
          if encIdle h then d
          else d.fragment f.keys f.sfc (f.hcw + f.pos / 1920) (f.pos % 1920) h (f.octets (f.pos + 8) (bits h 50 14)) parityBad

/-- The next delineation step of the oldest frame whose header has been judged. -/
def Dev.encapStep (d : Dev) (parityBad : Bool) : Dev :=
  if !d.on 8 then d
  else
    match d.ds.frames.find? (fun f => f.judged && !f.ended) with
    | none => d
    | some f => d.delineate f parityBad

/-! The filter's registers (R85). -/

/-- Give entry n its new fields; a reassembly of an entry that becomes invalid or changes its tag is discarded as poisoned
(R85). -/
def Dev.fltSet (d : Dev) (n tag : Nat) (valid enc bcast : Bool) : Dev :=
  let changed := d.b F.TDS_FLT_VALID n && (!valid || d.f F.TDS_FLT_FTAG n != tag)
  let d := d.setB F.TDS_FLT_ENC_REQ enc n
  if n == 0 then d
  else
    let d := ((d.setI F.TDS_FLT_FTAG n tag).setB F.TDS_FLT_VALID valid n).setB F.TDS_FLT_BCAST bcast n
    if changed && (d.ds.rsm.look n).isSome then d.poison n else d

end Sys2Proof.Machine
end

