-- ==== Sys2Proof/Machine/Tables.lean ====
section
/-! DEFINITION. The classifier's tables: slots and visibility (R169, R170, R185), the probe (R171, R172), the update engine
(R189, R190), accessions (R183 to R187), and what the twin unit sees of them (R451, R453, R454). -/

namespace Sys2Proof.Machine

/-! The mirror. -/

/-- This block is the mirror source of a pair in SYNCING or PAIRED (R449, R453). -/
def Dev.mirrorOn (d : Dev) : Bool :=
  (d.f F.TWN_STAT_STATE == 4 || d.f F.TWN_STAT_STATE == 5) && d.b F.TWN_STAT_SOURCE

/-- This block is the sink of a pair in SYNCING or PAIRED (R454). -/
def Dev.isSink (d : Dev) : Bool :=
  (d.f F.TWN_STAT_STATE == 4 || d.f F.TWN_STAT_STATE == 5) && !d.b F.TWN_STAT_SOURCE

/-- The source queues mirror records (R453). -/
def Dev.mirror (d : Dev) (l : List Mir) : Dev :=
  if d.mirrorOn then { d with twn := { d.twn with send := d.twn.send ++ l } } else d

/-! Slots. -/

/-- First stash slot. -/
def stashBase : Nat := 262144

/-- The content of a slot; a slot not listed is zero. -/
def Dev.slot (d : Dev) (i : Nat) : Nat := SMap.getD d.cls.slots i 0

/-- Put a value into a slot. -/
def Dev.slotPut (d : Dev) (i v : Nat) : Dev :=
  { d with cls := { d.cls with slots := SMap.store 0 i (v % 2 ^ 256) d.cls.slots } }

/-- The update engine writes a slot: an activity event of kind 7 (R237). -/
def Dev.setSlot (d : Dev) (i v : Nat) : Dev := (d.slotPut i v).act 7 1

/-- KTYPE of the key a start slot holds. -/
def slotKtype (v : Nat) : Nat := bits v 126 2

/-- V1 or V0 is set. -/
def slotLive (v : Nat) : Bool := bit v 255 || bit v 254

/-- The slot is the continuation of a live IPv6 start slot (R170). -/
def Dev.isCont (d : Dev) (i : Nat) : Bool :=
  i % 2 == 1 && slotLive (d.slot (i - 1)) && slotKtype (d.slot (i - 1)) == 2

/-- The slot is free (R170). -/
def Dev.slotFree (d : Dev) (i : Nat) : Bool := !slotLive (d.slot i) && !d.isCont i

/-- Visible under accession a (R185). -/
def slotVisible (v a : Nat) : Bool := if a % 2 == 0 then bit v 254 else bit v 255

/-- A key: its number, and whether it has 384 bits. -/
structure Key where
  val : Nat
  wide : Bool
  deriving DecidableEq, Repr

/-- The key that a start slot, and its partner where the key is wide, hold (R169). -/
def keyOf (v next : Nat) : Key :=
  if slotKtype v == 2 then ⟨v % 2 ^ 128 * 2 ^ 256 + next, true⟩ else ⟨v % 2 ^ 128, false⟩

/-- The live entry at a start slot. -/
def Dev.entryKey (d : Dev) (i : Nat) : Key := keyOf (d.slot i) (d.slot (i + 1))

/-- Slot i is a start slot that holds key k visibly under accession a (R172). -/
def Dev.slotMatch (d : Dev) (k : Key) (a i : Nat) : Bool :=
  let v := d.slot i
  slotVisible v a && !d.isCont i && (slotKtype v != 2 || i % 2 == 0) && d.entryKey i == k

/-- The octets of a key, most significant first. -/
def Key.octets (k : Key) : List Byte := beBytes (if k.wide then 48 else 16) k.val

/-- The bucket of a key for choice c (R171). -/
def Key.bucket (k : Key) (c : Nat) : Nat := (if c == 0 then crc32c k.octets else fcs k.octets) % 8192

/-- Power domain of a bank (R158 table): PD14 to PD17. -/
def bankDomain (b : Nat) : Nat := 14 + b

/-- First slot of the bucket of a key in table t, choice c. -/
def Key.bucketSlot (k : Key) (t c : Nat) : Nat := (2 * t + c) * 65536 + 8 * k.bucket c

/-- The first visible match in a bucket. -/
def Dev.bucketFind (d : Dev) (t c : Nat) (k : Key) (a : Nat) : Option Nat :=
  if !d.on (bankDomain (2 * t + c)) then none
  else ((List.range 8).map (fun p => k.bucketSlot t c + p)).find? (d.slotMatch k a)

/-- The first visible match in the stash. -/
def Dev.stashFind (d : Dev) (k : Key) (a : Nat) : Option Nat :=
  if !d.on 14 then none
  else ((d.cls.slots.filter (fun p => p.1 ≥ stashBase)).map (·.1)).find? (d.slotMatch k a)

/-- The first visible match of a key in table t: choice 0, choice 1, stash (R172). -/
def Dev.tableFind (d : Dev) (t : Nat) (k : Key) (a : Nat) : Option Nat :=
  match d.bucketFind t 0 k a with
  | some i => some i
  | none => match d.bucketFind t 1 k a with
    | some i => some i
    | none => d.stashFind k a

/-- CLS_ACC_STAT.STATE codes. -/
def Dev.accState (d : Dev) : Nat := d.f F.CLS_ACC_STAT_STATE

/-- The current and the pending accession. -/
def Dev.accCur (d : Dev) : Nat := d.f F.CLS_ACC_CUR_CUR
def Dev.accNext (d : Dev) : Nat := (d.accCur + 1) % 4096

/-- The slots that a key's lookup reads: its buckets and the stash (R172, R492). -/
def Dev.probes (t : Nat) (k : Key) (i : Nat) : Bool :=
  i ≥ stashBase || [0, 1].any (fun c => k.bucketSlot t c ≤ i && i < k.bucketSlot t c + 8)

/-- Live stash slots, and STASH_HIGH where their number rises above the threshold (R172). -/
def Dev.stashCount (d : Dev) : Dev :=
  let n := ((d.cls.slots.filter (fun p => p.1 ≥ stashBase)).map (·.1)).countP (fun i => !d.slotFree i) +
    ((d.cls.slots.filter (fun p => p.1 ≥ stashBase && p.1 % 2 == 0)).map (·.1)).countP
      (fun i => d.isCont (i + 1) && d.slot (i + 1) == 0)
  let was := d.f F.CLS_ACC_STAT_STASH_USED
  let thr := d.f F.CLS_CTL_STASH_THR
  (d.set F.CLS_ACC_STAT_STASH_USED n).raiseIf (was ≤ thr && n > thr) 1251

/-! The update engine. -/

/-- The slot a command word addresses (R190); `t` is the table. -/
def cmdSlot (t c : Nat) : Nat :=
  if bit c 5 then stashBase + bits c 23 10 else (2 * t + bits c 6 1) * 65536 + bits c 7 13 * 8 + bits c 20 3

/-- The location of a slot coded as CLS_UPD_CMD [32:4]. -/
def slotLoc (i : Nat) : Nat :=
  if i ≥ stashBase then 2 + (i - stashBase) * 2 ^ 19
  else i / 131072 + i / 65536 % 2 * 4 + i % 65536 / 8 * 8 + i % 8 * 2 ^ 16

/-- The slot of such a location. -/
def locSlot (l : Nat) : Nat := cmdSlot (l % 2) (l * 16)

/-- CLS_UPD_DATA as two slots. -/
def Dev.updSlot (d : Dev) (h : Nat) : Nat :=
  (List.range 4).foldl (fun a i => a + d.f F.CLS_UPD_DATA_DATA (4 * h + i) * 2 ^ (64 * i)) 0

/-- Put a slot into CLS_UPD_DATA. -/
def Dev.setUpdSlot (d : Dev) (h v : Nat) : Dev :=
  (List.range 4).foldl (fun d i => d.setI F.CLS_UPD_DATA_DATA (4 * h + i) (bits v (64 * i) 64)) d

/-- Another visible entry for key k under the pending accession, outside slot `own` (R190, 7h). -/
def Dev.pendingTwin (d : Dev) (t : Nat) (k : Key) (own : Option Nat) : Bool :=
  let cands := ([0, 1].flatMap (fun c => (List.range 8).map (fun p => k.bucketSlot t c + p))) ++
    ((d.cls.slots.filter (fun p => p.1 ≥ stashBase)).map (·.1))
  cands.any (fun i => some i != own && d.slotMatch k d.accNext i)

/-- 6h, 4h and 5h for a key whose operation stands at slot `pos` and writes to `target` (R190). -/
def keyError (t : Nat) (kt : Nat) (k : Key) (pos : Nat) (target : Option Nat) : Nat :=
  if (if t == 0 then kt != 0 else kt != 1 && kt != 2) then 6
  else if kt == 2 && (t == 0 || pos % 2 == 1) then 4
  else match target with
    | none => 0
    | some i => if Dev.probes t k i then 0 else 5

/-- The first error of an operation (R190). `refuse` holds where the agent may not drive the engine (R454). -/
def Dev.updError (d : Dev) (refuse : Bool) (op cmd dst : Nat) : Nat :=
  let t := bits cmd 4 1
  let i := cmdSlot t cmd
  let j := cmdSlot t dst
  let st := d.accState
  if refuse || st == 0 || (st != 1 && op != 1 && op != 5) then 3
  else match op with
    | 1 => 0
    | 5 =>
      let kt := slotKtype (d.updSlot 0)
      if (if t == 0 then kt != 0 else kt != 1 && kt != 2) then 6 else 0
    | 2 =>
      let v := d.updSlot 0
      let k := keyOf v (d.updSlot 1)
      let e := keyError t (slotKtype v) k i (some i)
      if e != 0 then e
      else if !d.slotFree i || (k.wide && !d.slotFree (i + 1)) then 1
      else if slotVisible v d.accCur || !slotVisible v d.accNext then 2
      else if d.pendingTwin t k none then 7
      else 0
    | _ =>
      if d.slotFree i || d.isCont i then 8
      else
        let v := d.slot i
        let k := d.entryKey i
        let e := if op == 3 then keyError t (slotKtype v) k j (some j) else keyError t (slotKtype v) k i none
        if e != 0 then e
        else if op == 3 && (!d.slotFree j || (k.wide && !d.slotFree (j + 1))) then 1
        else if op == 4 && bit cmd 33 && d.pendingTwin t k (some i) then 7
        else 0

/-- The effect of an accepted operation (R189). -/
def Dev.updDo (d : Dev) (op cmd dst : Nat) : Dev :=
  let t := bits cmd 4 1
  let i := cmdSlot t cmd
  let j := cmdSlot t dst
  match op with
  | 1 =>
    let wide := slotLive (d.slot i) && slotKtype (d.slot i) == 2 && !d.isCont i && i % 2 == 0
    if wide then (d.setUpdSlot 0 (d.slot i)).setUpdSlot 1 (d.slot (i + 1)) else d.setUpdSlot 0 (d.slot i)
  | 5 =>
    let k := keyOf (d.updSlot 0) (d.updSlot 1)
    (d.set F.CLS_UPD_STAT_B0 (k.bucket 0)).set F.CLS_UPD_STAT_B1 (k.bucket 1)
  | 2 =>
    let v := d.updSlot 0
    let d1 := d.setSlot i v
    (if slotKtype v == 2 then d1.setSlot (i + 1) (d.updSlot 1) else d1).stashCount
  | 3 =>
    let v := d.slot i
    let n := d.slot (i + 1)
    (if slotKtype v == 2 then (((d.setSlot j v).setSlot (j + 1) n).setSlot i 0).setSlot (i + 1) 0
     else (d.setSlot j v).setSlot i 0).stashCount
  | _ =>
    let v := d.slot i
    let v' := withBit v (if d.accNext % 2 == 0 then 254 else 255) (bit cmd 33)
    (if slotLive v' then d.setSlot i v'
     else if slotKtype v == 2 then (d.setSlot i 0).setSlot (i + 1) 0 else d.setSlot i 0).stashCount

/-- An operation is refused with error e (R189, R190). -/
def Dev.updRefuse (d : Dev) (e : Nat) : Dev := ((d.set F.CLS_UPD_STAT_ERR e).set F.CLS_UPD_STAT_ERR_SEEN 1).raise 1250

/-- The update engine is looked at: it ends an operation within 16 core cycles; whether it has ended before them is free (R189). -/
def Dev.updSettle (d : Dev) : Dev :=
  if !d.b F.CLS_UPD_STAT_BUSY then d
  else if d.cls.updAt + 16 ≤ d.cycle then d.set F.CLS_UPD_STAT_BUSY 0
  else
    let r := d.draw
    if bit r.1 0 then r.2 else r.2.set F.CLS_UPD_STAT_BUSY 0

/-- One operation of the update engine: its error, which the status keeps, and its effect. A source mirrors what it
executes (R453). Docent and the twin wait for the engine, so none is under way. -/
def Dev.updOp (d : Dev) (refuse : Bool) (op cmd dst : Nat) : Nat × Dev :=
  let d := d.set F.CLS_UPD_STAT_BUSY 0
  let e := d.updError refuse op cmd dst
  if e != 0 then (e, d.updRefuse e)
  else
    let data := (List.range 8).map (fun i => d.f F.CLS_UPD_DATA_DATA i)
    let d := (d.updDo op cmd dst).set F.CLS_UPD_STAT_ERR 0
    (0, if op == 2 || op == 3 || op == 4 then d.mirror [.tableOp cmd dst data] else d)

/-- CLS_UPD_DST as a word. -/
def Dev.updDst (d : Dev) : Nat :=
  d.f F.CLS_UPD_DST_STASH * 2 ^ 5 + d.f F.CLS_UPD_DST_CHOICE * 2 ^ 6 + d.f F.CLS_UPD_DST_BUCKET * 2 ^ 7 +
    d.f F.CLS_UPD_DST_POS * 2 ^ 20 + d.f F.CLS_UPD_DST_SIDX * 2 ^ 23

/-- The engine, being free, takes the operation of a write of CLS_UPD_CMD: its results stand at once, and BUSY is 1 until it ends. -/
def Dev.updTake (w : RegWr) (d : Dev) : Dev :=
  let r := d.updOp (d.isSink && w.agent != .twin) (w.val % 16) w.val d.updDst
  if r.1 != 0 then r.2 else { r.2 with cls := { r.2.cls with updAt := r.2.cycle } }.set F.CLS_UPD_STAT_BUSY 1

/-- A write of CLS_UPD_CMD; 0h and 6h to Fh do nothing, and a write while the engine is busy is refused with 9h (R189). -/
def Dev.writeUpdCmd (w : RegWr) (d : Dev) : Dev :=
  let op := w.val % 16
  if op == 0 || op > 5 then d
  else
    let d := d.updSettle
    if d.b F.CLS_UPD_STAT_BUSY then d.updRefuse 9 else d.updTake w

/-- The row of one operation: a write of CLS_UPD_CMD with that OP. -/
def Dev.updRow (op : Nat) (w : RegWr) (d : Dev) : Dev :=
  if w.val % 16 != op then d else d.gated 0x80060 w (Dev.writeUpdCmd w)

def execClsUpdRead (w : RegWr) (s : State) : Host.Outcome State Fault Refusal := s.run (Dev.updRow 1 w)
def execClsUpdWrite (w : RegWr) (s : State) : Host.Outcome State Fault Refusal := s.run (Dev.updRow 2 w)
def execClsUpdMove (w : RegWr) (s : State) : Host.Outcome State Fault Refusal := s.run (Dev.updRow 3 w)
def execClsUpdSetvis (w : RegWr) (s : State) : Host.Outcome State Fault Refusal := s.run (Dev.updRow 4 w)
def execClsUpdHash (w : RegWr) (s : State) : Host.Outcome State Fault Refusal := s.run (Dev.updRow 5 w)

/-! Accessions. -/

/-- Frames of all pipelines stamped with accession a whose action has not been resolved (R187). -/
def Dev.unresolved (d : Dev) (a : Nat) : Nat :=
  (d.cls.flights.map (fun l => l.countP (fun x => !x.resolved && x.frame.accession == a))).foldl (· + ·) 0

/-- The apply of a commit (R187): CUR takes the value, OLD the previous one, and draining begins. -/
def Dev.accCommit (d : Dev) (v : Nat) : Dev :=
  let old := d.accCur
  let d := ((d.set F.CLS_ACC_CUR_CUR v).set F.CLS_ACC_STAT_OLD old).set F.CLS_ACC_STAT_STATE 3
  let d := d.set F.CLS_ACC_STAT_DRAIN (d.unresolved old)
  (d.mirror [.commit (v % 4096)]).raise 1248

/-- Draining ends when no frame stamped OLD is unresolved (R187). -/
def Dev.accDrained (d : Dev) : Dev :=
  if d.accState == 3 && d.f F.CLS_ACC_STAT_DRAIN == 0 then d.set F.CLS_ACC_STAT_STATE 4 else d

def execAccDrained (s : State) : Host.Outcome State Fault Refusal := s.run Dev.accDrained

/-- One start slot of the sweep: the old-parity bit becomes the current-parity bit (R187). -/
def sweepSlot (cur v : Nat) : Nat :=
  let vis := slotVisible v cur
  let v := withBit (withBit v 255 vis) 254 vis
  if vis then v else 0

/-- The sweep of every slot; continuations go with their start slots. How many slots it writes, an unchanged one among them, is
open: a free value (R187, R237; log entry 3). -/
def Dev.sweep (d : Dev) : Dev :=
  let cur := d.accCur
  let r := d.draw
  let out := d.cls.slots.filterMap (fun p =>
    if d.isCont p.1 then (if slotVisible (d.slot (p.1 - 1)) cur then some p else none)
    else
      let v := sweepSlot cur p.2
      if v == 0 then none else some (p.1, v))
  { r.2 with cls := { d.cls with slots := out } }.act 7 r.1

/-- The sweep has ended (R187). -/
def Dev.accRetired (d : Dev) : Dev :=
  if d.accState == 4 then ((d.sweep.stashCount).set F.CLS_ACC_STAT_STATE 1).raise 1249 else d

def execAccRetired (s : State) : Host.Outcome State Fault Refusal := s.run Dev.accRetired

/-- What INIT clears: the slots of a mask of banks and the stash (R183). -/
def clearSlots (mask : Nat) (m : SMap Nat) : SMap Nat :=
  m.filter (fun p => !(if p.1 ≥ stashBase then bit mask 4 else bit mask (p.1 / 65536)))

/-- INIT has run its 8,192 cycles over what it clears: after PORST_n or BLKRST_n over all four banks, else over the powered banks that had lost
their content; a lost bank without power has its own INIT later (R183). -/
def Dev.initDone (d : Dev) : Dev :=
  let up := d.cls.initMask &&&
    ((List.range 4).foldl (fun a b => a + b2n (d.on (bankDomain b)) * 2 ^ b) 0 + b2n (d.on 14) * 16)
  if d.accState == 0 && d.on 11 && up != 0 && (!d.cls.boot || up == d.cls.initMask) then
    ({ d with cls := { d.cls with
      slots := clearSlots up d.cls.slots, initMask := d.cls.initMask - up, boot := false } }.stashCount).set F.CLS_ACC_STAT_STATE 1
  else d

def execClsInitDone (s : State) : Host.Outcome State Fault Refusal := s.run Dev.initDone

/-! Policers. -/

/-- A write of RATE or BURST sets TOKENS to BURST (R178). -/
def Dev.polFill (d : Dev) (n : Nat) : Dev :=
  { d with cls := { d.cls with tokens := d.cls.tokens.put n (d.f F.CLS_POL_BURST n, d.clk.ticks) } }

/-- A consultation of policer n by a frame of length len: whether it conforms (R178). -/
def Dev.polTake (d : Dev) (n len : Nat) : Bool × Dev :=
  let t := d.cls.tokens.getD n (0, d.clk.ticks)
  let have' := min (d.f F.CLS_POL_BURST n) (t.1 + d.f F.CLS_POL_RATE n * (d.clk.ticks - t.2))
  let ok := have' ≥ len
  let left := if ok then have' - len else have'
  let d := { d with cls := { d.cls with tokens := d.cls.tokens.put n (left, d.clk.ticks) } }
  (ok, if ok then d else d.count F.CLS_POL_DROPS n)

end Sys2Proof.Machine
end

