-- ==== Sys2Proof/Machine/Staging.lean ====
section
/-! DEFINITION. The staging unit (14): sets and their writers (R360 to R362), commands and CHECK (R363 to R365), the apply
(R366 to R369); and the direct writes it tests (R85, R97). -/

namespace Sys2Proof.Machine

/-- Whether a field can be staged (R8). -/
def Fld.staged (x : Fld) : Bool := x.acc == .st || x.acc == .rwst

/-- The bits of the ST fields of the register at an offset. -/
def stMask (off : Nat) : Nat :=
  (fldsAt off).foldl (fun a p => if p.1.staged then a ||| p.1.maskBits else a) 0

/-- The mirrored fields (R451). -/
def mirFlds : List Fld :=
  [F.TDS_FLT_FTAG, F.TDS_FLT_VALID, F.TDS_FLT_ENC_REQ, F.TDS_FLT_BCAST, F.CLS_CTL_CSUM_DROP, F.CLS_CTL_STASH_THR,
   F.CLS_DEF_LO_ACT_LO, F.CLS_DEF_HI_ACT_HI, F.CLS_POL_RATE, F.CLS_POL_BURST, F.QSC_FC_CFG_EN, F.QSC_FC_CFG_ENTRY,
   F.QSC_FC_CFG_PRIO, F.QSC_FC_CFG_WEIGHT, F.QSC_FC_CFG_FTAG, F.QSC_FC_SHP_RATE, F.QSC_FC_SHP_BURST, F.QSC_FC_SHP_OVH,
   F.QSC_FC_SHP_SHP_EN, F.QSC_EGR_CFG_SP, F.QSC_EGR_CFG_WEIGHT, F.QSC_EGR_CFG_QLIM, F.QSC_FC_CFG_QLIM, F.QSC_RPT_CFG_FACTOR,
   F.QSC_RPT_CFG_COAL_THR, F.QSC_RPT_CFG_DEFER_MAX, F.UPM_CFG_RX_TAG_MODE, F.UPM_CFG_TX_TAG_MODE, F.UPM_CFG_PVID,
   F.UPM_CFG_PVID_PCP, F.UPM_CFG_PVID_STAG, F.UPM_PRE_CFG_EXPRESS]

/-- The bits of the mirrored fields of the register at an offset. -/
def mirMask (off : Nat) : Nat :=
  mirFlds.foldl (fun a x => if (x.at? off).isSome then a ||| x.maskBits else a) 0

/-- The source sends the mirrored fields of a register (R453). -/
def Dev.mirrorReg (d : Dev) (off : Nat) : Dev :=
  if mirMask off == 0 then d else d.mirror [.reg off (d.stored off &&& mirMask off)]

/-- A local change to a mirrored field on the sink is ignored and noted (R454). -/
def Dev.localRefused (d : Dev) : Dev := d.set F.TWN_STAT_LOCAL_REFUSED 1

/-- Whether a write by an agent touches a mirrored field of a sink (R454). -/
def Dev.sinkGuards (d : Dev) (off : Nat) (w : RegWr) : Bool :=
  d.isSink && w.agent != .twin && (mirMask off &&& w.bitMask) != 0

/-- A write in which the bits of `m` keep their present values; where it touches no other field it does nothing. -/
def Dev.without (d : Dev) (off m : Nat) (w : RegWr) (g : RegWr → Dev → Dev) : Dev :=
  if (fldsAt off).all (fun p => (p.1.maskBits &&& w.bitMask) == 0 || (p.1.maskBits &&& m) != 0) then d
  else g { w with data := BitVec.ofNat 64 ((w.data.toNat &&& (2 ^ 64 - 1 - m)) + (d.stored off &&& m)) } d

/-- A direct write of a register with mirrored fields: a sink keeps these fields as they are, and a source mirrors them
(R453, R454). -/
def Dev.mirWrite (d : Dev) (off : Nat) (w : RegWr) (g : RegWr → Dev → Dev) : Dev :=
  if d.sinkGuards off w then d.localRefused.without off (mirMask off) w g
  else
    let d := g w d
    if mirMask off &&& w.bitMask == 0 then d else (d.mirrorReg off).mirror [.changeEnd]

/-! The sets. -/

def Dev.stgSet (d : Dev) (s : Nat) : SMap StgVal := d.stg.sets.getD s []

def Dev.stgPut (d : Dev) (s : Nat) (m : SMap StgVal) : Dev :=
  { d with stg := { d.stg with sets := d.stg.sets.set s m } }.setI F.STG_STAT_ENTRIES s m.length

def Dev.stgState (d : Dev) (s : Nat) : Nat := d.f F.STG_STAT_STATE s

/-- Registers each set can hold (R360). -/
def stgCap (s : Nat) : Nat := [8192, 8192, 256, 16].getD s 0

/-- A refusal is recorded (R362, R363). -/
def Dev.stgRefuse (d : Dev) (why agent s : Nat) : Dev :=
  (((d.set F.STG_REFUSE_REFUSED 1).set F.STG_REFUSE_WHY why).set F.STG_REFUSE_AGENT agent).set F.STG_REFUSE_SET s

/-- A set becomes IDLE. -/
def Dev.stgIdle (d : Dev) (s : Nat) : Dev := ((d.stgPut s []).setI F.STG_STAT_STATE s 0).setI F.STG_STAT_FULL s 0

/-- Offset of CLS_ACC_CUR. -/
def accCurOff : Nat := 0x80040

def Dev.holdsCommit (d : Dev) (s : Nat) : Bool := ((d.stgSet s).look accCurOff).isSome

/-- Discard an OPEN or ARMED set (R363, R183). -/
def Dev.stgCancel (d : Dev) (s : Nat) : Dev :=
  let d := if d.stgState s == 2 && d.holdsCommit s && d.accState == 2 then d.set F.CLS_ACC_STAT_STATE 1 else d
  let d := if s == 3 then d.set F.TST_KEYSW_PENDING 0 else d
  ((d.stgIdle s).count F.STG_CNT_CANCELLED).raise 1475

/-- Bits given by `x` laid over a word. -/
def StgVal.over (x : StgVal) (old : Nat) : Nat := (old &&& (2 ^ 64 - 1 - x.mask)) + (x.val &&& x.mask)

/-- Put a staged write into set s (R361, R362). -/
def Dev.stage (d : Dev) (agent s off mask val : Nat) : Dev :=
  let st := d.stgState s
  if st == 0 then d.stgRefuse 2 agent s
  else if d.f F.STG_STAT_OWNER s != agent then d.stgRefuse 1 agent s
  else if st != 1 then d.stgRefuse 2 agent s
  else
    let m := d.stgSet s
    if (m.look off).isNone && m.length ≥ stgCap s then (d.setI F.STG_STAT_FULL s 1).stgRefuse 6 agent s
    else d.stgPut s (m.put off (⟨mask, val &&& mask⟩ : StgVal))

/-- An agent's copy of STG_SEL: SET and EN (R361). -/
def Dev.selOf (d : Dev) (a : Agent) : Nat := SMap.getD d.stg.sel a.code 0

/-- The agent stages its writes (R361). -/
def Dev.staging (d : Dev) (a : Agent) : Bool := bit (d.selOf a) 2

/-- Registers that only Curator writes among those with ST fields (R329). -/
def stCuratorOnly (off : Nat) : Bool := (F.SEQ_MATCH_EN.at? off).isSome

/-- The staged form of a register write; disabled octets are taken from the active value (R361, R454, R508). -/
def Dev.stagedWrite (d : Dev) (off : Nat) (w : RegWr) : Dev :=
  let mask := stMask off
  let val := (w.val &&& w.bitMask) + (d.stored off &&& (2 ^ 64 - 1 - w.bitMask))
  if stCuratorOnly off && w.agent != .curator then d
  else if d.sinkGuards off w then d.localRefused
  else d.stage w.agent.code (d.selOf w.agent % 4) off mask val

/-- The bits of a register that a set in APPLYING holds (R367, R370). -/
def Dev.applying (d : Dev) (off : Nat) : Nat :=
  (List.range 4).foldl (fun a s => if d.stgState s == 3 then a ||| (match (d.stgSet s).look off with | some x => x.mask | none => 0) else a) 0

/-- A write of a register with ST fields: staged while the agent's EN is 1, else direct (R361); a direct write of a field
that a set holds is discarded in the cycle of its apply (R370), and takes effect at once while the set drains (R365). -/
def Dev.stWrite (d : Dev) (off : Nat) (w : RegWr) (direct : RegWr → Dev → Dev) : Dev :=
  if d.staging w.agent then d.stagedWrite off w
  else
    let m := d.applying off
    if m &&& w.bitMask == 0 then direct w d
    else
      let r := d.inCycle d.stg.applyAt
      if r.1 then (r.2.raise 1476).without off m w direct else direct w r.2

/-- A write of STG_SEL goes to the writer's own copy. -/
def Dev.writeStgSel (w : RegWr) (d : Dev) : Dev :=
  let v := if w.mask.getLsbD 0 then w.data.toNat % 8 else d.selOf w.agent
  { d with stg := { d.stg with sel := SMap.store 0 w.agent.code v d.stg.sel } }

def execStgSelWrite (w : RegWr) (s : State) : Host.Outcome State Fault Refusal :=
  s.run (fun d => d.gated 0x180000 w (Dev.writeStgSel w))

/-- A write of an ST register by an agent that stages. -/
def Dev.stagedRow (off : Nat) (w : RegWr) (d : Dev) : Dev :=
  if d.staging w.agent && stMask off != 0 then d.gated off w (fun d => d.stagedWrite off w) else d

def execStagedWrite (off : Nat) (w : RegWr) (s : State) : Host.Outcome State Fault Refusal :=
  s.run (Dev.stagedRow off w)

/-! CHECK. -/

/-- The frame a set applies at: its FRAME, or for NEXT the one after the present count. -/
def Dev.stgFrame (d : Dev) (s : Nat) : Nat := if d.b F.STG_APPLY_NEXT s then d.clk.sfc + 1 else d.f F.STG_APPLY_FRAME s

/-- The value of a register once `layers` had applied. -/
def Dev.overlay (d : Dev) (layers : List (SMap StgVal)) (off : Nat) : Nat :=
  layers.foldl (fun v m => match m.look off with | some x => x.over v | none => v) (d.stored off)

/-- A table of identifiers with VALID bits: TDS_FLT (R85) or TUS_ALLOC (R97). -/
structure IdTable where
  id : Fld
  valid : Fld
  lo : Nat
  hi : Nat

def fltTable : IdTable := ⟨F.TDS_FLT_FTAG, F.TDS_FLT_VALID, 0x0001, 0xFFEF⟩
def allocTable : IdTable := ⟨F.TUS_ALLOC_ALLOC_ID, F.TUS_ALLOC_VALID, 0x0400, 0x3FEF⟩

/-- Identifier and VALID in a word of the table. -/
def IdTable.ofWord (t : IdTable) (v : Nat) : Nat × Bool := (bits v t.id.lo t.id.w, bit v t.valid.lo)

def IdTable.idx (t : IdTable) (off : Nat) : Option Nat := (t.id.at? off).map (·.1)
def IdTable.off (t : IdTable) (n : Nat) : Nat := t.id.base + t.id.s1 * n

/-- Entry n with this identifier and VALID breaks the rule against the entries as `layers` would leave them. -/
def Dev.idBreaks (d : Dev) (t : IdTable) (layers : List (SMap StgVal)) (n id : Nat) (valid : Bool) : Bool :=
  n != 0 && valid &&
    (id < t.lo || id > t.hi ||
     ((d.listed t.valid).map (·.1) ++ layers.flatMap (fun m => m.filterMap (fun p => t.idx p.1))).any (fun k =>
        k != n && k != 0 && t.ofWord (d.overlay layers (t.off k)) == (id, true)))

/-- The lowest register of set m that breaks the rule of a table. -/
def Dev.idFail (d : Dev) (t : IdTable) (layers : List (SMap StgVal)) (m : SMap StgVal) : Option Nat :=
  (m.find? (fun p => match t.idx p.1 with
    | some n =>
      let e := t.ofWord (d.overlay layers p.1)
      d.idBreaks t layers n e.1 e.2
    | none => false)).map (·.1)

/-- Insert set s behind those that apply no later than it. -/
def stgInsert (frame : Nat → Nat) (s : Nat) : List Nat → List Nat
  | [] => [s]
  | a :: t => if frame a ≤ frame s then a :: stgInsert frame s t else s :: a :: t

/-- Sets in order of application: by frame, then by number (R368); `l` rises. -/
def stgOrder (frame : Nat → Nat) (l : List Nat) : List Nat := l.foldl (fun o s => stgInsert frame s o) []

/-- Sets armed for a frame earlier than f, in order of application. -/
def Dev.armedBefore (d : Dev) (f : Nat) : List (SMap StgVal) :=
  (stgOrder d.stgFrame ((List.range 4).filter (fun s => d.stgState s == 2 && d.stgFrame s < f))).map d.stgSet

/-- A profile register (R100). -/
def isProfile (off : Nat) : Bool :=
  (F.TUS_PROF_CFG_GUARD.at? off).isSome || (F.TUS_PROF_DLM_HI_DLM_HI.at? off).isSome ||
    (F.TUS_PROF_DLM_LO_DLM_LO.at? off).isSome

/-- Apply frame of the most recent applied or armed profile change. -/
def Dev.lastProfile (d : Dev) : Option Nat :=
  let armed := ((List.range 4).filter (fun s => d.stgState s == 2 && (d.stgSet s).any (fun p => isProfile p.1))).map d.stgFrame
  armed.foldl (fun a f => some (match a with | some g => max f g | none => f)) d.stg.profFrame

/-- Two writes of one register meet in a field. -/
def stgOverlap (off : Nat) (a b : StgVal) : Bool :=
  (fldsAt off).any (fun p => p.1.staged && (p.1.maskBits &&& a.mask) != 0 && (p.1.maskBits &&& b.mask) != 0)

/-- The rule of TWN_ROLE (R448). -/
def Dev.roleBreaks (d : Dev) (role : Nat) : Bool :=
  let st := d.f F.TWN_STAT_STATE
  if role == 0 then !(3 ≤ st && st ≤ 5) || !d.b F.TWN_STAT_PEER_ROLE
  else st == 5 && d.b F.TWN_STAT_PEER_ROLE && d.f F.TWN_STAT_SWITCH_PHASE == 0

/-- The lowest register of a set for which a test fails. -/
def stgFind (m : SMap StgVal) (p : Nat → StgVal → Bool) : Option Nat := (m.find? (fun e => p e.1 e.2)).map (·.1)

/-- The rules 04h to 0Eh, in order: the register that breaks each (R364). -/
def Dev.stgRules (d : Dev) (s : Nat) : List (Nat × Option Nat) :=
  let m := d.stgSet s
  let fr := d.stgFrame s
  let layers := d.armedBefore fr ++ [m]
  let others := (List.range 4).filter (· != s)
  let at' := fun (off : Nat) (p : Nat → Bool) => stgFind m (fun o x => o == off && p x.val)
  [(4, stgFind m (fun off x => others.any (fun t => d.stgState t == 2 && d.stgFrame t == fr &&
      (match (d.stgSet t).look off with | some y => stgOverlap off x y | none => false)))),
   (5, d.idFail fltTable layers m),
   (6, d.idFail allocTable layers m),
   (7, stgFind m (fun off x => (F.TUS_PROF_CFG_PRE_LEN.at? off).isSome &&
      (let v := bits (x.over (d.stored off)) 9 10; v < 64 || v > 512))),
   (8, stgFind m (fun off _ => isProfile off && (match d.lastProfile with | some g => fr < g + 8 | none => false))),
   (9, at' accCurOff (fun v => v != d.accNext)),
   (10, at' accCurOff (fun _ => d.accState != 1)),
   (11, at' accCurOff (fun _ => d.b F.CLS_UPD_STAT_BUSY)),
   (12, at' accCurOff (fun _ => others.any d.holdsCommit)),
   (13, at' 0x50018 (fun v => bits v 8 2 == 3)),
   (14, stgFind m (fun off x => (off == 0x1E0010 && d.roleBreaks (x.val % 2)) ||
      (off == accCurOff && d.isSink && d.f F.STG_STAT_OWNER s != 6)))]

/-- CHECK: REASON and FAIL_OFS (R364). -/
def Dev.stgCheck (d : Dev) (s : Nat) : Nat × Nat :=
  let next := d.b F.STG_APPLY_NEXT s
  let fr := d.f F.STG_APPLY_FRAME s
  if !next && fr ≤ d.clk.sfc then (1, 0)
  else if !next && fr > d.clk.sfc + 65536 then (2, 0)
  else if d.b F.STG_STAT_FULL s then (3, 0)
  else match (d.stgRules s).find? (fun r => r.2.isSome) with
    | some (r, some o) => (r, o)
    | _ => (0, 0)

/-- CHECK on a set: the result is recorded, and a failure counted and raised. A CHECK of a commit looks at the update engine (R364 rule
0Bh). -/
def Dev.stgChecked (d : Dev) (s : Nat) : Dev :=
  let d := if d.holdsCommit s then d.updSettle else d
  let r := d.stgCheck s
  let d := (d.setI F.STG_STAT_REASON s r.1).setI F.STG_RESULT_FAIL_OFS s r.2
  if r.1 == 0 then d else (d.count F.STG_CNT_CHECK_FAIL).raise 1474

/-- Arm a set; a set with the commit makes the accession state COMMIT_PENDING (R186). -/
def Dev.stgArm (d : Dev) (s : Nat) : Dev :=
  let d := d.setI F.STG_STAT_STATE s 2
  if d.holdsCommit s then d.set F.CLS_ACC_STAT_STATE 2 else d

/-- CHECK_ARM. -/
def Dev.stgCheckArm (d : Dev) (s : Nat) : Dev :=
  let d := d.stgChecked s
  if d.f F.STG_STAT_REASON s == 0 then d.stgArm s else d

/-! Commands. -/

/-- OPEN is permitted to the agent (R360). -/
def stgMayOpen (s agent : Nat) : Bool := (s < 2 && agent != 7) || (s == 2 && agent == 0)

/-- OPEN by an agent. -/
def Dev.stgOpen (d : Dev) (s agent : Nat) : Dev :=
  if d.stgState s != 0 || !stgMayOpen s agent then d.stgRefuse 3 agent s
  else ((((d.stgPut s []).setI F.STG_STAT_STATE s 1).setI F.STG_STAT_OWNER s agent).setI F.STG_STAT_LATE s 0).setI
    F.STG_STAT_FULL s 0

/-- CHECK and CHECK_ARM by an agent. -/
def Dev.stgTest (d : Dev) (s agent : Nat) (g : Dev → Dev) : Dev :=
  if d.stgState s == 0 then d.stgRefuse 2 agent s
  else if d.f F.STG_STAT_OWNER s != agent then d.stgRefuse 1 agent s
  else if d.stgState s != 1 then d.stgRefuse 2 agent s
  else g d

/-- CANCEL by an agent. -/
def Dev.stgDrop (d : Dev) (s agent : Nat) : Dev :=
  if d.stgState s == 0 then d.stgRefuse 2 agent s
  else if d.f F.STG_STAT_OWNER s != agent && agent != 0 then d.stgRefuse 1 agent s
  else if d.stgState s == 3 then d.stgRefuse 5 agent s
  else d.stgCancel s

/-- The command of an OP (R363). -/
def Dev.stgCommand (d : Dev) (s op : Nat) (a : Agent) : Dev :=
  if s ≥ 4 || (s == 3 && !(op == 4 && a == .curator)) then d
  else match op with
    | 1 => d.stgOpen s a.code
    | 2 => d.stgTest s a.code (fun d => d.stgChecked s)
    | 3 => d.stgTest s a.code (fun d => d.stgCheckArm s)
    | 4 => d.stgDrop s a.code
    | _ => d

def Dev.writeStgCmd (s : Nat) (w : RegWr) (d : Dev) : Dev := d.stgCommand s (w.val % 8) w.agent

/-- The row of one OP: a write of STG_CMD[s] with it. -/
def Dev.stgRow (op s : Nat) (w : RegWr) (d : Dev) : Dev :=
  if w.val % 8 != op || s ≥ 4 then d else d.gated (0x180100 + 0x40 * s) w (Dev.writeStgCmd s w)

def execStgOpen (n : Nat) (w : RegWr) (s : State) : Host.Outcome State Fault Refusal := s.run (Dev.stgRow 1 n w)
def execStgCheck (n : Nat) (w : RegWr) (s : State) : Host.Outcome State Fault Refusal := s.run (Dev.stgRow 2 n w)
def execStgCheckArm (n : Nat) (w : RegWr) (s : State) : Host.Outcome State Fault Refusal := s.run (Dev.stgRow 3 n w)
def execStgCancel (n : Nat) (w : RegWr) (s : State) : Host.Outcome State Fault Refusal := s.run (Dev.stgRow 4 n w)

/-- A write of STG_APPLY[s]: the owner's, while OPEN (R363). -/
def Dev.writeStgApply (s : Nat) (w : RegWr) (d : Dev) : Dev :=
  if s ≥ 4 then d
  else if d.stgState s != 1 then d.stgRefuse 4 w.agent.code s
  else if d.f F.STG_STAT_OWNER s != w.agent.code then d.stgRefuse 1 w.agent.code s
  else (d.put F.STG_APPLY_FRAME w s).put F.STG_APPLY_NEXT w s

def execStgApplyWrite (n : Nat) (w : RegWr) (s : State) : Host.Outcome State Fault Refusal :=
  s.run (fun d => if n ≥ 4 then d else d.gated (0x180108 + 0x40 * n) w (Dev.writeStgApply n w))

/-! The apply. -/

/-- Give the masked bits of a register their new values, with what the register's change entails. -/
def Dev.applyReg (d : Dev) (off : Nat) (x : StgVal) : Dev :=
  match F.TDS_FLT_FTAG.at? off with
  | some (n, _) =>
    let v := x.over (d.stored off)
    d.fltSet n (v % 65536) (bit v 16) (bit v 17) (bit v 18)
  | none =>
    if off == accCurOff then d.accCommit (x.val % 4096)
    else
      let d := (fldsAt off).foldl (fun d p =>
        if (p.1.maskBits &&& x.mask) == 0 || (p.1.base == 0x51000 && p.2.1 == 0 && p.1.lo < 15) then d
        else d.setIJ p.1 p.2.1 p.2.2 (bits (x.over (d.f p.1 p.2.1 p.2.2 * 2 ^ p.1.lo)) p.1.lo p.1.w)) d
      let d := if (F.SEQ_MATCH_EN.at? off).isSome && bit x.mask 30 && bit x.val 30 then d.set F.SEQ_STAT_QUARANTINE 0 else d
      match F.CLS_POL_RATE.at? off with
      | some (n, _) => d.polFill n
      | none => d

/-- The sequencer's set applies: the pending key switch takes effect (R147), and headers are watched for its KSEQ (R148). -/
def Dev.keySwitched (d : Dev) : Dev :=
  if !d.b F.TST_KEYSW_PENDING then d
  else
    let d := (d.set F.TST_KEYSW_KSEQ (d.f F.TST_KEYSW_PEND_KSEQ)).set F.TST_KEYSW_PENDING 0
    { d with term := { d.term with kseqWatch := true, kseqSfc := d.clk.sfc, kseqRun := 0 } }.raise 1218

/-- Apply one due set (R366, R367); `frame` is its apply frame. -/
def Dev.stgApplyOne (d : Dev) (s : Nat) : Dev :=
  let m := d.stgSet s
  let late := !d.b F.STG_APPLY_NEXT s && d.f F.STG_APPLY_FRAME s < d.clk.sfc
  let d := if late then ((d.setI F.STG_STAT_LATE s 1).count F.STG_CNT_LATE).raise 1473 else d
  let d := m.foldl (fun d e => d.applyReg e.1 e.2) d
  let d := if m.any (fun e => mirMask e.1 != 0) then (m.foldl (fun d e => d.mirrorReg e.1) d).mirror [.changeEnd] else d
  let fr := if d.b F.STG_APPLY_NEXT s then d.clk.sfc else d.f F.STG_APPLY_FRAME s
  let d := if m.any (fun e => isProfile e.1) then { d with stg := { d.stg with profFrame := some fr } } else d
  let d := if s == 3 then d.keySwitched else d
  ((d.setI F.STG_STAT_STATE s 3).count F.STG_CNT_APPLIED).set F.STG_GSTAT_LAST_FRAME d.clk.sfc

/-- The sets due at a TICK, in order (R366, R368). -/
def Dev.stgDue (d : Dev) : List Nat :=
  let fr := fun s => if d.b F.STG_APPLY_NEXT s then d.clk.sfc else d.f F.STG_APPLY_FRAME s
  stgOrder fr ((List.range 4).filter (fun s => d.stgState s == 2 && fr s ≤ d.clk.sfc))

/-- Every due set applies (R41, R366 to R368). -/
def Dev.stgApply (d : Dev) : Dev :=
  let due := d.stgDue
  let d := due.foldl Dev.stgApplyOne d
  if due.isEmpty then d else { d with stg := { d.stg with applyAt := d.cycle } }.set F.STG_GSTAT_LAST_SET (due.foldl max 0)

/-- Content and apply frame take set 3's place, armed without CHECK (R362). -/
def Dev.stgAssistArm (d : Dev) (m : SMap StgVal) (frame : Nat) : Dev :=
  ((((d.stgPut 3 m).setI F.STG_STAT_STATE 3 2).setI F.STG_STAT_OWNER 3 7).setI F.STG_APPLY_FRAME 3 frame).setI
    F.STG_APPLY_NEXT 3 0

/-- The sequencer's staging assist (R362). -/
def Dev.stgAssist (d : Dev) (m : SMap StgVal) (frame : Nat) : Dev :=
  if d.stgState 3 == 3 then { d with stg := { d.stg with held := some (m, frame) } } else d.stgAssistArm m frame

/-- The last entry of set s has been drained (R367), and a held assist write takes effect (R362). -/
def Dev.stgDrained (d : Dev) (s : Nat) : Dev :=
  if d.stgState s != 3 || s ≥ 4 then d
  else
    let d := ((d.stgIdle s).raise 1472).pmc 0x17 (d.stgSet s).length
    match d.stg.held with
    | some (m, fr) => if s == 3 then { d with stg := { d.stg with held := none } }.stgAssistArm m fr else d
    | none => d

def execStagingDrainDone (n : Nat) (s : State) : Host.Outcome State Fault Refusal := s.run (fun d => d.stgDrained n)

/-- Sets an agent owns and that are OPEN become IDLE (R369). -/
def Dev.stgRelease (d : Dev) (agent : Nat) : Dev :=
  (List.range 3).foldl (fun d s => if d.stgState s == 1 && d.f F.STG_STAT_OWNER s == agent then d.stgIdle s else d) d

/-- The classifier enters INIT: a write of CLS_ACC_CUR is withdrawn from every set (R183, R369). -/
def Dev.stgWithdraw (d : Dev) : Dev :=
  (List.range 4).foldl (fun d s =>
    if !d.holdsCommit s then d
    else
      let m := (d.stgSet s).del accCurOff
      if m.isEmpty then d.stgIdle s else d.stgPut s m) d

/-! Direct writes of the two checked tables. -/

/-- A direct write of an entry is refused where it breaks the rule against the present values or those of an armed set
(R85, R97, R365). -/
def Dev.idRefused (d : Dev) (t : IdTable) (n id : Nat) (valid : Bool) : Bool :=
  d.idBreaks t [] n id valid ||
    (List.range 4).any (fun s => d.stgState s == 2 && d.idBreaks t [d.stgSet s] n id valid)

/-- A direct write of TDS_FLT[n] (R85); entry 0 is fixed but for ENC_REQ. -/
def Dev.fltDirect (n : Nat) (w : RegWr) (d : Dev) : Dev :=
  let tag := w.merged F.TDS_FLT_FTAG (d.f F.TDS_FLT_FTAG n)
  let valid := w.merged F.TDS_FLT_VALID (d.f F.TDS_FLT_VALID n) == 1
  if d.idRefused fltTable n tag valid then (d.set F.TDS_FLT_STAT_REFUSED 1).set F.TDS_FLT_STAT_LAST_IDX n
  else
    d.fltSet n tag valid (w.merged F.TDS_FLT_ENC_REQ (d.f F.TDS_FLT_ENC_REQ n) == 1)
      (w.merged F.TDS_FLT_BCAST (d.f F.TDS_FLT_BCAST n) == 1)

def Dev.writeFlt (n : Nat) (w : RegWr) (d : Dev) : Dev :=
  d.stWrite (0x48000 + 8 * n) w (fun w d => d.mirWrite (0x48000 + 8 * n) w (Dev.fltDirect n))

def execTdsFltWrite (n : Nat) (w : RegWr) (s : State) : Host.Outcome State Fault Refusal :=
  s.run (fun d => if n ≥ 4096 then d else d.gated (0x48000 + 8 * n) w (Dev.writeFlt n w))

/-- A direct write of TUS_ALLOC[n] (R97); entry 0 is fixed but for ENC and DEFER. -/
def Dev.allocDirect (n : Nat) (w : RegWr) (d : Dev) : Dev :=
  let id := w.merged F.TUS_ALLOC_ALLOC_ID (d.f F.TUS_ALLOC_ALLOC_ID n)
  let valid := w.merged F.TUS_ALLOC_VALID (d.f F.TUS_ALLOC_VALID n)
  if d.idRefused allocTable n id (valid == 1) then (d.set F.TUS_ALLOC_STAT_REFUSED 1).set F.TUS_ALLOC_STAT_LAST_IDX n
  else
    let d := if n == 0 then d else (d.setI F.TUS_ALLOC_ALLOC_ID n id).setI F.TUS_ALLOC_VALID n valid
    (d.put F.TUS_ALLOC_ENC w n).put F.TUS_ALLOC_DEFER w n

def Dev.writeAlloc (n : Nat) (w : RegWr) (d : Dev) : Dev := d.stWrite (0x51000 + 8 * n) w (Dev.allocDirect n)

def execTusAllocWrite (n : Nat) (w : RegWr) (s : State) : Host.Outcome State Fault Refusal :=
  s.run (fun d => if n ≥ 512 then d else d.gated (0x51000 + 8 * n) w (Dev.writeAlloc n w))

/-- A direct write of CLS_POL[n] (R178, R179). -/
def Dev.polDirect (n : Nat) (w : RegWr) (d : Dev) : Dev :=
  let m := (F.CLS_POL_RATE.maskBits ||| F.CLS_POL_BURST.maskBits) &&& w.bitMask
  let d := (d.put F.CLS_POL_RATE w n).put F.CLS_POL_BURST w n
  if m == 0 then d else d.polFill n

def Dev.writePol (n : Nat) (w : RegWr) (d : Dev) : Dev :=
  d.stWrite (0x90000 + 8 * n) w (fun w d => d.mirWrite (0x90000 + 8 * n) w (Dev.polDirect n))

def execClsPolWrite (n : Nat) (w : RegWr) (s : State) : Host.Outcome State Fault Refusal :=
  s.run (fun d => if n ≥ 8192 then d else d.gated (0x90000 + 8 * n) w (Dev.writePol n w))

end Sys2Proof.Machine
end

