-- ==== Sys2Proof/Machine/Faults.lean ====
section
/-! DEFINITION. Memory faults (R490, R492): their counts, the log, and the containment of table slots, configuration entries
and counters. -/

namespace Sys2Proof.Machine

/-- A corrected single-bit error: counted, ECC_CORR at most once per tick (R490). -/
def Dev.eccCorr (d : Dev) : Dev :=
  let d := d.count F.RST_ECC_CNT_CORR
  if d.pwr.eccRaised then d else { d.raise 1600 with pwr := { (d.raise 1600).pwr with eccRaised := true } }

/-- An uncorrectable word of an array at a location is counted, and logged unless a log entry stands (R490). -/
def Dev.eccLogged (d : Dev) (array loc : Nat) : Dev :=
  let d := d.count F.RST_ECC_CNT_UNCORR
  if d.b F.RST_ECC_LOG_VALID then d.set F.RST_ECC_LOG_MORE 1
  else ((d.set F.RST_ECC_LOG_VALID 1).set F.RST_ECC_LOG_ARRAY array).set F.RST_ECC_LOG_LOC loc

/-- It is also reported by an event. -/
def Dev.eccUncorr (d : Dev) (array loc event : Nat) : Dev := (d.eccLogged array loc).raise event

/-- A frame discarded under R491. -/
def Dev.bufDrop (d : Dev) (loc : Nat) : Dev := (d.count F.RST_ECC_CNT_BUF_DROP).eccUncorr 0 loc 1601

/-- An uncorrectable table slot at a location coded as CLS_UPD_CMD [32:4]: it and its IPv6 partner are written as zero
(R492). -/
def Dev.slotLost (d : Dev) (loc : Nat) : Dev :=
  let i := locSlot loc
  let first := if d.isCont i then i - 1 else i
  let wide := slotLive (d.slot first) && slotKtype (d.slot first) == 2 && first % 2 == 0
  let d := d.slotPut i 0
  let d := if wide then (d.slotPut first 0).slotPut (first + 1) 0 else d
  d.stashCount.eccUncorr 1 loc 1602

/-- A register of an array takes its reset value (R490). -/
def Dev.resetReg (d : Dev) (off : Nat) : Dev := (fldsAt off).foldl (fun d p => d.setIJ p.1 p.2.1 p.2.2 p.1.rst) d

/-- The registers of the configuration arrays of R490, the queue contexts apart. -/
def configArray (off : Nat) : Bool :=
  [F.TDS_FLT_FTAG, F.TUS_ALLOC_VALID, F.QSC_FC_CFG_EN, F.QSC_FC_SHP_RATE, F.QSC_EGR_CFG_SP, F.CLS_POL_RATE,
    F.EVQ_SRC_SENSE].any (fun x => (x.at? off).isSome)

/-- The registers of the counter arrays of R490. DEDUCED: they are the registers the map calls counters, outside PD32 (R375, log
entry 47). -/
def counterArray (off : Nat) : Bool :=
  [F.CKX_TICK_CNT_STEP_CNT, F.RST_ECC_CNT_CORR, F.PWR_DOM_CNT_REFUSALS, F.UPM_CNT_RXF_FRAMES, F.UPM_CNT_RXO_OCTETS,
    F.UPM_CNT_RXE_FCS_ERR, F.UPM_CNT_RXE2_BAD_SFD, F.UPM_CNT_RXP_LOSSY_DROP, F.UPM_CNT_TXF_FRAMES, F.UPM_CNT_TXO_OCTETS,
    F.UPM_CNT_TXE_LINK_DROP, F.UPM_CNT_FC_PAUSE_RX, F.UPM_CNT_LPI_RX_LPI_ENTRIES, F.SLC_CH_OCT_OCTETS, F.OBS_PMC_CNT_COUNT].any
      (fun x => (x.at? off).isSome) ||
  off % 8 == 0 && [(0x40100, 0x40150), (0x50200, 0x50230), (0x60100, 0x60108), (0x80100, 0x801B0), (0xC0100, 0xC0118),
    (0x100100, 0x100110), (0x160200, 0x160208), (0x180210, 0x180210), (0x1E0100, 0x1E0108)].any
      (fun r => r.1 ≤ off && off ≤ r.2)

/-- An uncorrectable entry of a configuration array other than the queue contexts: reset value, so that a filter or
allocation entry becomes invalid and a flow context disabled (R490). No other register is an entry of such an array, least of all
one of PD32 (R375). -/
def Dev.configLost (d : Dev) (off loc : Nat) : Dev :=
  if !configArray off then d
  else
    let d := match F.TDS_FLT_FTAG.at? off with
      | some (n, _) => d.fltSet n 0 false false false
      | none => d.resetReg off
    let d := match F.CLS_POL_RATE.at? off with
      | some (n, _) => d.polFill n
      | none => d
    d.eccUncorr 5 loc 1604

/-- An uncorrectable counter is set to zero and counts on (R490). -/
def Dev.counterLost (d : Dev) (off loc : Nat) : Dev :=
  if counterArray off then (d.resetReg off).eccUncorr 6 loc 1606 else d

/-- An uncorrectable key slot 1 to 3 is invalid until it is loaded again (R490). -/
def Dev.keyLost (d : Dev) (n loc : Nat) : Dev :=
  let d := if n == 1 then d.set F.TDS_KEYSTAT_SLOT1_VALID 0 else if n == 2 then d.set F.TDS_KEYSTAT_SLOT2_VALID 0
    else if n == 3 then d.set F.TDS_KEYSTAT_SLOT3_VALID 0 else d
  { d with ds := { d.ds with
    keysNow := setAt (n - 1) (false, 0) d.ds.keysNow
    bcastDue := d.ds.bcastDue && n != 3
    frames := d.ds.frames.map (fun (f : RxFrame) => { f with keys := setAt (n - 1) (false, 0) f.keys }) } }.eccUncorr 0xB loc 1604

/-- An uncorrectable word of a reassembly: discarded, its entry poisoned (R490, R92). -/
def Dev.rsmLost (d : Dev) (e loc : Nat) : Dev := (d.poison e).eccUncorr 2 loc 1606

end Sys2Proof.Machine
end

