-- ==== Sys2Proof/Machine/Queues.lean ====
section
/-! DEFINITION. Flow contexts and egress classes (08): admission (R224, R242), shapers (R227, R228), spill (R229 to R233), flush
(R226), the choice of frames for a share (R234), backlog and AGE (R235), and the choice of a port (R243). -/

namespace Sys2Proof.Machine

/-! Cells. -/

/-- Cells of a frame (R224). -/
def Frame.cells (f : Frame) : Nat := ceilDiv f.len 256

def cellsOf (l : List Frame) : Nat := (l.map Frame.cells).foldl (· + ·) 0

/-- Context c, as it stands. -/
def Dev.ctx (d : Dev) (c : Nat) : FlowCtx := SMap.getD d.qsc.ctx c {}

/-- CELLS of a context: its frames in the packet buffer, a frame with a remainder among them. -/
def FlowCtx.cells (x : FlowCtx) : Nat :=
  cellsOf x.frames + (match x.rem with | some r => r.frame.cells | none => 0)

/-- Cells a context takes, with those reserved for a record being fetched. -/
def FlowCtx.taken (x : FlowCtx) : Nat := x.cells + (match x.fetch with | some (r, _) => r.frame.cells | none => 0)

/-- Egress class i of port n. -/
def Dev.egr (d : Dev) (n i : Nat) : EgrQ := SMap.getD d.qsc.egr (8 * n + i) {}

/-- The receive wait queue of a completion queue. -/
def CqCtx.cells (q : CqCtx) : Nat := cellsOf q.wait + (match q.job with | some j => j.frame.cells | none => 0)

/-- Free cells of the packet buffer: 98,304 less what the contexts, the egress classes and the wait queues hold. -/
def Dev.freeCells (d : Dev) : Nat :=
  98304 - (d.qsc.ctx.map (fun p => p.2.taken)).foldl (· + ·) 0 - (d.qsc.egr.map (fun p => cellsOf p.2.frames)).foldl (· + ·) 0 -
    (d.hrg.cq.map (fun p => p.2.cells)).foldl (· + ·) 0

/-- A QLIM above 98,304 acts as 98,304. -/
def qlim (v : Nat) : Nat := min v 98304

/-! Backlog and AGE. -/

/-- A context holds spilled frames or has a fetch in flight. -/
def FlowCtx.chain (x : FlowCtx) : Bool := !x.spilled.isEmpty || x.fetch.isSome

/-- Entry under which a context's frames are reported. -/
def Dev.ctxEntry (d : Dev) (c : Nat) : Nat := d.f F.QSC_FC_CFG_ENTRY c

/-- The octets a frame offers upstream: without FCS, after its TAG_OP (R113, R115, R176). -/
def Frame.upstream (f : Frame) : List Byte := (tagEdit f.edit f.data).getD f.data

/-- Octets a context contributes to the backlog of its entry (R113): frames queued, being fetched and spilled. -/
def FlowCtx.backlog (x : FlowCtx) : Nat :=
  ((x.frames ++ (match x.fetch with | some (r, false) => [r.frame] | _ => []) ++ x.spilled.map (·.frame)).map
    (fun f => f.upstream.length)).foldl (· + ·) 0

/-- Octets of the remainder that is placed under entry e. -/
def FlowCtx.owed (x : FlowCtx) (e : Nat) : Nat :=
  match x.rem with
  | some r => if r.entry == e then r.frame.upstream.length - r.done else 0
  | none => 0

/-- Backlog of entry e in octets: the contexts that name it, and the remainder pending under it. -/
def Dev.backlog (d : Dev) (e : Nat) : Nat :=
  (d.qsc.ctx.map (fun p =>
    (if d.ctxEntry p.1 == e then p.2.backlog else 0) + p.2.owed e)).foldl (· + ·) 0

/-- Entries with a backlog. -/
def Dev.busyEntries (d : Dev) : List Nat :=
  (d.qsc.ctx.flatMap (fun p => d.ctxEntry p.1 :: (match p.2.rem with | some r => [r.entry] | none => []))).filter
    (fun e => d.backlog e != 0)

/-! Round pointers. -/

/-- A round pointer at number c; `stays` until it moves on from c (R234). -/
def ptrAt (c : Nat) (stays : Bool) : Nat := 2 * (c + 1) + b2n stays

/-- The pointer moves on from c. -/
def ptrLeave (c p : Nat) : Nat := if p == ptrAt c true then ptrAt c false else p

/-- The shaper lets context c be chosen (R227). -/
def FlowCtx.shaperOk (x : FlowCtx) : Bool := !x.shp || x.tokens > 0

/-- Entry e of TUS_ALLOC is valid; entry 0 is while the terminal ID is (R97, R223). -/
def Dev.allocValid (d : Dev) (e : Nat) : Bool := if e == 0 then d.b F.TST_ID_VALID else d.b F.TUS_ALLOC_VALID e

/-- Context c can be chosen for entry e at priority p, the pointer's key (R227, R234). -/
def Dev.inRound (d : Dev) (key c : Nat) : Bool :=
  d.b F.QSC_FC_CFG_EN c && d.allocValid (key / 8) && 8 * d.ctxEntry c + d.f F.QSC_FC_CFG_PRIO c == key && !(d.ctx c).frames.isEmpty && (d.ctx c).shaperOk

/-- A round pointer moves on when its context becomes ineligible or its queue empties (R234). -/
def Dev.ptrsSettle (d : Dev) : Dev :=
  { d with qsc := { d.qsc with ptr := d.qsc.ptr.map (fun p =>
    if p.2 % 2 == 1 && !d.inRound p.1 (p.2 / 2 - 1) then (p.1, p.2 - 1) else p) } }

/-- Each entry's AGE starts when its backlog becomes non-zero and ends when it is zero (R235). -/
def Dev.agesSettle (d : Dev) : Dev :=
  let busy := d.busyEntries
  let kept := d.qsc.since.filter (fun p => busy.contains p.1)
  let now := busy.foldl (fun (m : SMap Nat) e => if (m.look e).isSome then m else m.put e d.clk.ticks) kept
  { d with qsc := { d.qsc with since := now } }

/-- AGEs and round pointers follow a change of the contexts. -/
def Dev.ctxSettle (d : Dev) : Dev := d.agesSettle.ptrsSettle

/-- AGE of an entry (R235). -/
def Dev.age (d : Dev) (e : Nat) : Nat :=
  match d.qsc.since.look e with
  | some t => min 0xFFFF (d.clk.ticks - t)
  | none => 0

/-- Give context c its new content. -/
def Dev.ctxPut (d : Dev) (c : Nat) (x : FlowCtx) : Dev :=
  { d with qsc := { d.qsc with ctx := SMap.store {} c x d.qsc.ctx } }.ctxSettle

/-! What is noted of a frame. -/

/-- A frame was accepted: its trace notes it, and event `ev` counts it with its class (R471, R472). -/
def Dev.noteAdmit (d : Dev) (f : Frame) (ev cls : Nat) : Dev :=
  (d.trcNote f (fun t => { t with entered := d.cycle })).pmc ev 1 { cls := some cls }

/-- A frame refused at admission. -/
def Dev.noteRefused (d : Dev) (f : Frame) (cls : Nat) : Dev := (d.trcClose f 5).pmc 13 1 { cls := some cls }

/-- n beats written into and read from the packet buffer (R237, R471). -/
def Dev.bufWrite (d : Dev) (n cls : Nat) : Dev := (d.act 5 n).pmc 9 n { cls := some cls }
def Dev.bufRead (d : Dev) (n cls : Nat) : Dev := (d.act 6 n).pmc 10 n { cls := some cls }

/-! Pools. -/

def Dev.pool (d : Dev) (k : Nat) : Pool := SMap.getD d.qsc.pools k {}

def Dev.poolPut (d : Dev) (k : Nat) (p : Pool) : Dev :=
  { d with qsc := { d.qsc with pools := SMap.store {} k p d.qsc.pools } }.setI F.QSC_POOL_SIZE_USED k p.uses.length

/-- Octets of a record: 64 of metadata, then the frame padded to a multiple of 64 (R229). -/
def recordLen (f : Frame) : Nat := 64 + ceilDiv f.len 64 * 64

/-- A pool takes records: enabled and without FAULT (R232). -/
def Dev.poolOpen (d : Dev) (k : Nat) : Bool := d.b F.QSC_POOL_CFG_EN k && !d.b F.QSC_POOL_SIZE_FAULT k

/-- A segment for a new use: the top of the free stack, else the lowest never used (R229). -/
def Dev.segAlloc (d : Dev) (k : Nat) : Option (Nat × Pool) :=
  let p := d.pool k
  match p.stack with
  | s :: t => some (s, { p with stack := t })
  | [] => if p.fresh < d.f F.QSC_POOL_SIZE_NSEG k then some (p.fresh, { p with fresh := p.fresh + 1 }) else none

/-- One record of segment s has been fetched or flushed; the last returns the segment to the free stack (R229). -/
def Dev.segRelease (d : Dev) (k s : Nat) : Dev :=
  let p := d.pool k
  match p.uses.look s with
  | none => d
  | some n =>
    if n ≤ 1 then d.poolPut k { p with uses := p.uses.del s, stack := s :: p.stack }
    else d.poolPut k { p with uses := p.uses.put s (n - 1) }

/-- The current segment of a context no longer stands once no record is in it. -/
def Dev.segForget (d : Dev) (c : Nat) : Dev :=
  let x := d.ctx c
  match x.seg with
  | none => d
  | some (s, _) =>
    if ((d.pool (d.f F.QSC_FC_CFG_POOL c)).uses.look s).isSome then d else d.ctxPut c { x with seg := none }

/-- Host address of a pool's segment. -/
def Dev.segAddr (d : Dev) (k s : Nat) : Nat := d.f F.QSC_POOL_CFG_BASE k * 65536 + 65536 * s

/-- A write of context c to pool k goes out under its next number and awaits its answer. -/
def Dev.poolWrite (d : Dev) (c k addr len : Nat) (data : List Byte) : Dev :=
  let x := d.ctx c
  let d := d.ctxPut c { x with nextRec := x.nextRec + 1, writes := x.writes.put x.nextRec k }
  d.request { kind := .spillWrite c x.nextRec, write := true, mstr := 2, func := d.f F.MBX_ACL_CTRL_FN, addr := addr, len := len, data := data }

/-- The free stack is linked through the segments themselves (R229): the first 64 octets of a segment that joins it are written. What
stands in them is private to the block, and free here (log entry 35). -/
def Dev.linkWrite (d : Dev) (c k s : Nat) : Dev :=
  let r := d.draw
  r.2.poolWrite c k (r.2.segAddr k s) 64 (leBytes 64 r.1)

/-- Free the segments of records of context c, which link themselves into the free stack: a link write for each that returns to it (R229). -/
def Dev.recordsGone (d : Dev) (c : Nat) (rs : List SpillRec) : Dev :=
  (rs.foldl (fun d r =>
    let e := d.segRelease r.pool r.seg
    if (d.pool r.pool).stack.length < (e.pool r.pool).stack.length then e.linkWrite c r.pool r.seg else e) d).segForget c

/-- Where context c puts a record of n octets: the segment, the offset in it, and the pool after it (R229). Spill requires PD31 (R25). -/
def Dev.recordPlace (d : Dev) (c n : Nat) : Option (Nat × Nat × Pool) :=
  let k := d.f F.QSC_FC_CFG_POOL c
  if !d.poolOpen k || !d.on 31 then none
  else
    let p := d.pool k
    let fits := match (d.ctx c).seg with
      | some (s, used) => if used + n ≤ 65536 then some (s, used) else none
      | none => none
    match fits with
    | some (s, used) => some (s, used, { p with uses := p.uses.put s (p.uses.getD s 0 + 1) })
    | none =>
      match d.segAlloc k with
      | some (s, p) => some (s, 64, { p with uses := p.uses.put s 1 })
      | none => none

/-- A record as it is written (R229): 64 octets of metadata, private to the block and free here (log entry 35), then the frame, with the FCS
of a frame that came with one, padded with zero octets. -/
def recordData (md : Nat) (f : Frame) : List Byte :=
  let body := f.data ++ (if f.path == 0 then [] else leBytes 4 f.fcs)
  leBytes 64 md ++ body ++ List.replicate (recordLen f - 64 - body.length) 0

/-- Frame f of context c goes to host memory at a place found for it. -/
def Dev.spill (d : Dev) (c : Nat) (f : Frame) (s used : Nat) (p : Pool) : Dev :=
  let x := d.ctx c
  let n := recordLen f
  let k := d.f F.QSC_FC_CFG_POOL c
  let r : SpillRec := { frame := f, num := x.nextRec, pool := k, seg := s, ofs := used, written := false }
  let d := d.poolPut k p
  let d := d.ctxPut c { x with spilled := x.spilled ++ [r], seg := some (s, used + n) }
  let d := (d.bufRead (beats f.len) 0).pathBeats 6 (beats f.len)
  let md := d.draw
  (md.2.poolWrite c k (md.2.segAddr k s + used) n (recordData md.1 f)).trcNote f (fun t => { t with spilled := true })

/-! Admission. -/

/-- A frame is offered to context c (R224): whether it was accepted. -/
def Dev.admitFlow (d : Dev) (c : Nat) (f : Frame) : Bool × Dev :=
  let x := d.ctx c
  let n := f.cells
  let room := x.cells + n ≤ qlim (d.f F.QSC_FC_CFG_QLIM c) && n ≤ d.freeCells
  let prio := d.f F.QSC_FC_CFG_PRIO c
  let toBuffer := (d.ctxPut c { x with frames := x.frames ++ [f] }).noteAdmit f 11 prio
  if !d.b F.QSC_FC_CFG_EN c then (false, (d.count F.QSC_CNT_SPILL_DIS_DROP).noteRefused f prio)
  else if !d.b F.QSC_FC_CFG_SPILL_EN c then
    if room then (true, toBuffer)
    else (false, ((d.count F.QSC_CNT_ADM_TAIL_DROP).count F.QSC_FC_STAT_DROPS c).noteRefused f prio)
  else if !x.chain && room then (true, toBuffer)
  else
    match d.recordPlace c (recordLen f) with
    | some (s, used, p) => (true, (d.spill c f s used p).noteAdmit f 11 prio)
    | none => (false, ((d.count F.QSC_CNT_SPILL_SPILL_FULL).count F.QSC_FC_STAT_DROPS c).noteRefused f prio)

/-- A frame is offered to egress class i of port n (R242). -/
def Dev.admitEgr (d : Dev) (n i : Nat) (f : Frame) : Bool × Dev :=
  let q := d.egr n i
  if cellsOf q.frames + f.cells ≤ qlim (d.f F.QSC_EGR_CFG_QLIM n i) && f.cells ≤ d.freeCells then
    (true, { d with qsc := { d.qsc with egr := d.qsc.egr.put (8 * n + i) { q with frames := q.frames ++ [f] } } }.noteAdmit f 12 i)
  else (false, ((d.countIJ F.QSC_EGR_STAT_DROPS n i 1).count F.QSC_CNT_ADM_EGR_DROP).noteRefused f i)

/-- The octets of a frame as it leaves the buffer: its TAG_OP performed, or not and counted (R176). -/
def Dev.leave (d : Dev) (f : Frame) : List Byte × Dev :=
  match tagEdit f.edit f.data with
  | some x => (x, d)
  | none => (f.data, d.count F.CLS_CNT_ACT_TAG_SKIP f.path)

/-! Fetching back. -/

/-- Fetching of context c goes on (R231): its oldest spilled record, once written, is read where the frame stays within QLIM and has cells
free; fetching stops where it does not, or where no record is left, and waits where the record's write is not yet answered. -/
def Dev.fetchNext (d : Dev) (c : Nat) : Dev :=
  let x := d.ctx c
  if !x.fetching || x.fetch.isSome then d
  else match x.spilled with
    | [] => d.ctxPut c { x with fetching := false }
    | r :: t =>
      if x.cells + r.frame.cells > qlim (d.f F.QSC_FC_CFG_QLIM c) || r.frame.cells > d.freeCells then d.ctxPut c { x with fetching := false }
      else if !r.written then d
      else
        let d := d.ctxPut c { x with spilled := t, fetch := some (r, false) }
        d.request { kind := .spillRead c, write := false, mstr := 2, func := d.f F.MBX_ACL_CTRL_FN
                    addr := d.segAddr r.pool r.seg + r.ofs, len := recordLen r.frame, data := [] }

/-- Fetching starts: CELLS at QLIM / 2 or below while the context holds spilled frames (R231). -/
def Dev.fetchStart (d : Dev) (c : Nat) : Dev :=
  let x := d.ctx c
  if x.spilled.isEmpty || x.cells > qlim (d.f F.QSC_FC_CFG_QLIM c) / 2 then d
  else (d.ctxPut c { x with fetching := true }).fetchNext c

def execSpillFetchStart (c : Nat) (s : State) : Host.Outcome State Fault Refusal :=
  s.run (fun d => if d.on 26 && d.on 31 then d.fetchStart c else d)

/-- A write to a pool is answered (R232): a record is in host memory, and may be fetched; or its frame is lost, with the pool it was written
to barred. -/
def Dev.spillWritten (c num : Nat) (r : Rsp) (d : Dev) : Dev :=
  d.answer (.spillWrite c num) r (fun _ d =>
    let x := d.ctx c
    let k := x.writes.getD num 0
    let d := d.ctxPut c { x with writes := x.writes.del num }
    let x := d.ctx c
    match x.spilled.find? (fun s => s.num == num) with
    | none => if r.ok then d else (d.setI F.QSC_POOL_SIZE_FAULT k 1).raise 1312
    | some s =>
      if r.ok then
        ((d.ctxPut c { x with spilled := x.spilled.map (fun s => if s.num == num then { s with written := true } else s) }).count
          F.QSC_CNT_SPILL2_SPILLED).fetchNext c
      else
        let d := (d.setI F.QSC_POOL_SIZE_FAULT k 1).raise 1312
        let d := (d.ctxPut c { x with spilled := x.spilled.erase s }).recordsGone c [s]
        ((d.count F.QSC_CNT_SPILL_SPILL_WERR).trcClose s.frame 5).fetchNext c)

def execSpillWriteDone (c num : Nat) (r : Rsp) (s : State) : Host.Outcome State Fault Refusal :=
  s.run (Dev.spillWritten c num r)

/-- A fetched record arrives, or its read fails and every spilled frame of the context is discarded (R231, R232); a record
caught by a flush is discarded (R244). -/
def Dev.fetched (c : Nat) (r : Rsp) (d : Dev) : Dev :=
  d.answer (.spillRead c) r (fun _ d =>
    let x := d.ctx c
    match x.fetch with
    | none => d
    | some (s, dead) =>
      if r.ok then
        let d :=
          if dead then ((d.ctxPut c { x with fetch := none }).count F.QSC_CNT_FLUSH_FLUSHED).trcClose s.frame 6
          else
            ((d.ctxPut c { x with fetch := none, frames := x.frames ++ [s.frame] }).bufWrite (beats s.frame.len) 0).pathBeats 6
              (beats s.frame.len)
        (d.recordsGone c [s]).fetchNext c
      else
        let gone := s :: x.spilled
        let d := (d.ctxPut c { x with fetch := none, fetching := false, spilled := [] }).recordsGone c gone
        let d := gone.foldl (fun d g => d.trcClose g.frame 5) d
        ((d.countN F.QSC_CNT_SPILL_SPILL_RERR gone.length).setI F.QSC_FC_STAT_SPILL_ERR c 1).raise 1312)

def execSpillFetchDone (c : Nat) (r : Rsp) (s : State) : Host.Outcome State Fault Refusal := s.run (Dev.fetched c r)

/-! Flush. -/

/-- Every frame of context c not yet placed is discarded; a record being fetched is discarded when it arrives (R226). -/
def Dev.flush (d : Dev) (c : Nat) : Dev :=
  let x := d.ctx c
  let gone := x.frames ++ (match x.rem with | some r => [r.frame] | none => []) ++ x.spilled.map (·.frame)
  let d := d.ctxPut c { x with frames := [], rem := none, spilled := [], deficit := 0, fetching := false, fetch := x.fetch.map (fun f => (f.1, true)) }
  let d := gone.foldl (fun d f => d.trcClose f 6) (d.recordsGone c x.spilled)
  { d.countN F.QSC_CNT_FLUSH_FLUSHED gone.length with qsc := { (d.countN F.QSC_CNT_FLUSH_FLUSHED gone.length).qsc with flushing := some c } }.set
    F.QSC_STAT_FLUSH_BUSY 1

/-- A write of QSC_FLUSH; GO is ignored while FLUSH_BUSY is 1. -/
def Dev.writeFlush (w : RegWr) (d : Dev) : Dev :=
  if w.fld F.QSC_FLUSH_GO == 0 || d.b F.QSC_STAT_FLUSH_BUSY then d else d.flush (w.fld F.QSC_FLUSH_CTX)

def execQscFlush (w : RegWr) (s : State) : Host.Outcome State Fault Refusal :=
  s.run (fun d => d.gated 0xC0010 w (Dev.writeFlush w))

/-- The flush has finished. -/
def Dev.flushDone (d : Dev) : Dev :=
  if d.qsc.flushing.isNone then d
  else { d with qsc := { d.qsc with flushing := none } }.set F.QSC_STAT_FLUSH_BUSY 0

def execFlushDone (s : State) : Host.Outcome State Fault Refusal := s.run Dev.flushDone

/-! Configuration. -/

/-- A refused write (R230). -/
def Dev.qscRefuse (d : Dev) (why : Nat) : Dev := (d.set F.QSC_STAT_REFUSED 1).set F.QSC_STAT_REFUSE_WHY why

/-- Segments of the enabled pools other than k. -/
def Dev.otherSegs (d : Dev) (k : Nat) : Nat :=
  ((List.range 16).map (fun j => if j != k && d.b F.QSC_POOL_CFG_EN j then d.f F.QSC_POOL_SIZE_NSEG j else 0)).foldl (· + ·) 0

/-- Pools are not configured while no fabric is wired (R29). -/
def Dev.poolBarred (d : Dev) (changes : Bool) : Bool := changes && !d.b F.ID_INTEG_FAB_WIRED

/-- That refusal: R230 gives it no REFUSE_WHY, so it shows a free value. -/
def Dev.poolUnwired (d : Dev) : Dev := d.draw.2.qscRefuse d.draw.1

/-- A write of QSC_FC_CFG[c] would change its spill configuration. -/
def Dev.fcSpillMoves (d : Dev) (c : Nat) (w : RegWr) : Bool :=
  w.merged F.QSC_FC_CFG_SPILL_EN (d.f F.QSC_FC_CFG_SPILL_EN c) != d.f F.QSC_FC_CFG_SPILL_EN c ||
    w.merged F.QSC_FC_CFG_POOL (d.f F.QSC_FC_CFG_POOL c) != d.f F.QSC_FC_CFG_POOL c

/-- A write of QSC_POOL_CFG[k] (R230). -/
def Dev.writePoolCfg (k : Nat) (w : RegWr) (d : Dev) : Dev :=
  let en := w.merged F.QSC_POOL_CFG_EN (d.f F.QSC_POOL_CFG_EN k)
  let base := w.merged F.QSC_POOL_CFG_BASE (d.f F.QSC_POOL_CFG_BASE k)
  let nseg := d.f F.QSC_POOL_SIZE_NSEG k
  let was := d.b F.QSC_POOL_CFG_EN k
  if d.poolBarred (en == 1 || base != d.f F.QSC_POOL_CFG_BASE k) then d.poolUnwired
  else if en == 1 && (nseg == 0 || base * 65536 + nseg * 65536 > 2 ^ 48) then d.qscRefuse 1
  else if en == 1 && nseg + d.otherSegs k > 2 ^ 26 then d.qscRefuse 2
  else if was && base != d.f F.QSC_POOL_CFG_BASE k then d.qscRefuse 3
  else if was && en == 0 && d.f F.QSC_POOL_SIZE_USED k != 0 then d.qscRefuse 4
  else
    let d := (d.setI F.QSC_POOL_CFG_EN k en).setI F.QSC_POOL_CFG_BASE k base
    if was && en == 0 then d.poolPut k {} else d

/-- A write of QSC_POOL_SIZE[k]: NSEG stands while EN is 1 (R230); FAULT clears. -/
def Dev.writePoolSize (k : Nat) (w : RegWr) (d : Dev) : Dev :=
  let n := w.merged F.QSC_POOL_SIZE_NSEG (d.f F.QSC_POOL_SIZE_NSEG k)
  if d.poolBarred (n != d.f F.QSC_POOL_SIZE_NSEG k) then d.poolUnwired
  else if d.b F.QSC_POOL_CFG_EN k && n != d.f F.QSC_POOL_SIZE_NSEG k then d.qscRefuse 3
  else (d.setI F.QSC_POOL_SIZE_NSEG k n).put F.QSC_POOL_SIZE_FAULT w k

def execQscPoolCfgWrite (k : Nat) (w : RegWr) (s : State) : Host.Outcome State Fault Refusal :=
  s.run (fun d => if k ≥ 16 then d else d.gated (0xC0200 + 0x10 * k) w (Dev.writePoolCfg k w))

/-- A direct write of QSC_FC_CFG[c]: refused whole where SPILL_EN or POOL would change while no fabric is wired (R29), or while the context
holds spilled frames (R230). -/
def Dev.fcDirect (c : Nat) (w : RegWr) (d : Dev) : Dev :=
  if d.poolBarred (d.fcSpillMoves c w) then d.poolUnwired
  else if (d.ctx c).chain && d.fcSpillMoves c w then d.qscRefuse 5
  else (d.putAll (fldsAt (0xC8000 + 8 * c)) w).ctxSettle

def Dev.writeFcCfg (c : Nat) (w : RegWr) (d : Dev) : Dev :=
  d.stWrite (0xC8000 + 8 * c) w (fun w d => d.mirWrite (0xC8000 + 8 * c) w (Dev.fcDirect c))

/-! Shapers. -/

/-- OVH as it acts (R227). -/
def Dev.ovh (d : Dev) (c : Nat) : Int := max (-32) (d.z F.QSC_FC_SHP_OVH c)

/-- The refill of one context's shaper (R227, R228). -/
def Dev.refillCtx (d : Dev) (c : Nat) : Dev :=
  let x := d.ctx c
  let burst : Int := d.f F.QSC_FC_SHP_BURST c
  let en := d.b F.QSC_FC_SHP_SHP_EN c
  let t := if en && !x.shp then burst else min (x.tokens + d.f F.QSC_FC_SHP_RATE c) burst
  { d with qsc := { d.qsc with ctx := SMap.store {} c { x with tokens := t, ovh := d.ovh c, shp := en } d.qsc.ctx } }

/-- The refill sweep at a TICK: every context with a state or a shaper that differs from reset (R41, R42). -/
def Dev.refill (d : Dev) : Dev :=
  if !d.on 26 then d
  else
    let cs := d.qsc.ctx.map (·.1) ++ (d.listed F.QSC_FC_SHP_RATE).map (·.1) ++ (d.listed F.QSC_FC_SHP_BURST).map (·.1) ++
      (d.listed F.QSC_FC_SHP_OVH).map (·.1) ++ (d.listed F.QSC_FC_SHP_SHP_EN).map (·.1)
    (cs.eraseDups.foldl Dev.refillCtx d).ctxSettle

/-- Context c may be chosen for entry e, which is valid (R223, R227, R234). -/
def Dev.eligible (d : Dev) (e c : Nat) : Bool :=
  let x := d.ctx c
  d.allocValid e &&
  d.b F.QSC_FC_CFG_EN c && d.ctxEntry c == e && !x.frames.isEmpty && x.rem.isNone && x.shaperOk

/-! Deficit round robin. -/

/-- The round robin's walk over numbers in rising order from a pointer: each number it reaches gains, and the first whose deficit is
then positive is selected. The answer is that number and the deficits. -/
def drrWalk (cands : List Nat) (gain : Nat → Int) : Nat → Nat → SMap Int → Option (Nat × SMap Int)
  | 0, _, _ => none
  | fuel + 1, ptr, defs =>
    let c := (cands.find? (fun c => ptrAt c false > ptr)).getD (cands.headD 0)
    let v := defs.getD c 0 + gain c
    if v > 0 then some (c, defs.put c v) else drrWalk cands gain fuel (ptrAt c false) (defs.put c v)

/-- One selection: the number the pointer has not moved on from, while its deficit is positive; else the walk's. -/
def drr (cands : List Nat) (gain : Nat → Int) (fuel ptr : Nat) (defs : SMap Int) : Option (Nat × SMap Int) :=
  if cands.isEmpty then none
  else match cands.find? (fun c => ptrAt c true == ptr && defs.getD c 0 > 0) with
    | some c => some (c, defs)
    | none => drrWalk cands gain fuel (ptr / 2 * 2) defs

/-- Bound on the pointer's moves: a deficit stands above −32,768, and each visit adds at least 64. -/
def drrFuel (cands : List Nat) : Nat := cands.length * 1024 + 1

/-- Octets a round adds for a weight; 0 acts as 1. -/
def weightGain (w : Nat) : Int := 64 * max w 1

/-- select(e): the context chosen for entry e, with deficits and pointer moved (R234). -/
def Dev.select (d : Dev) (e : Nat) : Option (Nat × Dev) :=
  let all := (d.qsc.ctx.map (·.1)).filter (d.eligible e)
  let prio := (all.map (fun c => d.f F.QSC_FC_CFG_PRIO c)).foldl max 0
  let cands := all.filter (fun c => d.f F.QSC_FC_CFG_PRIO c == prio)
  let defs : SMap Int := cands.map (fun c => (c, (d.ctx c).deficit))
  let key := 8 * e + prio
  match drr cands (fun c => weightGain (d.f F.QSC_FC_CFG_WEIGHT c)) (drrFuel cands) (d.qsc.ptr.getD key 0) defs with
  | none => none
  | some (c, defs) =>
    let d := defs.foldl (fun d p => d.ctxPut p.1 { d.ctx p.1 with deficit := p.2 }) d
    some (c, { d with qsc := { d.qsc with ptr := SMap.store 0 key (ptrAt c true) d.qsc.ptr } })

/-- The remainder pending under entry e, with its context. -/
def Dev.remainderOf (d : Dev) (e : Nat) : Option (Nat × Remainder) :=
  match d.qsc.ctx.find? (fun p => match p.2.rem with | some r => r.entry == e | none => false) with
  | some (c, x) => x.rem.map (fun r => (c, r))
  | none => none

/-- n octets of a frame of context c have been placed: deficit and shaper are charged, OVH with the first piece; a queue
that has emptied loses its deficit (R227, R234). -/
def Dev.charge (d : Dev) (c n : Nat) (first : Bool) : Dev :=
  let x := d.ctx c
  let x := { x with deficit := x.deficit - n, tokens := x.tokens - n - (if first then x.ovh else 0) }
  let x := if x.frames.isEmpty && x.rem.isNone then { x with deficit := 0 } else x
  d.ctxPut c x

/-! A port's choice. -/

/-- The class chosen among candidates of port n; `sel` is 0 for the express selection and 1 for the preemptable one (R243).
Classes with SP come first, in descending number. -/
def Dev.egrSelect (d : Dev) (n sel : Nat) (cands : List Nat) : Option (Nat × Dev) :=
  match (cands.reverse).find? (fun i => d.f F.QSC_EGR_CFG_SP n i == 1) with
  | some i => some (i, d)
  | none =>
    let defs : SMap Int := cands.map (fun i => (i, (d.egr n i).deficit))
    let key := 2 * n + sel
    match drr cands (fun i => weightGain (d.f F.QSC_EGR_CFG_WEIGHT n i)) (drrFuel cands) (d.qsc.egrPtr.getD key 0) defs with
    | none => none
    | some (i, defs) =>
      let put := fun (q : QscPart) (p : Nat × Int) =>
        { q with egr := SMap.store {} (8 * n + p.1) { SMap.getD q.egr (8 * n + p.1) {} with deficit := p.2 } q.egr }
      let q := defs.foldl put d.qsc
      some (i, { d with qsc := { q with egrPtr := SMap.store 0 key (ptrAt i true) q.egrPtr } })

/-- The head frame of class i leaves port n's queue, charged to its deficit; an emptied class loses it (R243). -/
def Dev.egrPop (d : Dev) (n i : Nat) : Option (Frame × Dev) :=
  let q := d.egr n i
  match q.frames with
  | [] => none
  | f :: t =>
    let def' := if t.isEmpty then 0 else q.deficit - (if d.f F.QSC_EGR_CFG_SP n i == 1 then 0 else (f.len : Int))
    let ptrs := if t.isEmpty then d.qsc.egrPtr.map (fun p => if p.1 / 2 == n then (p.1, ptrLeave i p.2) else p) else d.qsc.egrPtr
    some (f, { d with qsc := { d.qsc with
      egr := SMap.store {} (8 * n + i) { frames := t, deficit := def' } d.qsc.egr, egrPtr := ptrs } })

end Sys2Proof.Machine
end

