-- ==== Sys2Proof/Machine/Rings.lean ====
section
/-! DEFINITION. Host rings (09): doorbells (R252, R532), the entry cache (R253 to R256), work entries (R257 to R260), completions
and their places (R261, R262, R265 to R269), receive (R263, R264), faults (R270) and the life of a queue (R271). -/

namespace Sys2Proof.Machine

/-! Queues and indices. -/

/-- Difference of two 18-bit indices (R250). -/
def idxSub (a b : Nat) : Nat := (a + 2 ^ 18 - b % 2 ^ 18) % 2 ^ 18

def Dev.wqReady (d : Dev) (q : Nat) : Bool := d.f F.HRG_WQ_STAT_STATE q == 1
def Dev.cqReady (d : Dev) (q : Nat) : Bool := d.f F.HRG_CQ_STAT_STATE q == 1
def Dev.wqIsRx (d : Dev) (q : Nat) : Bool := d.b F.HRG_WQ_STAT_KIND q
def Dev.wqSize (d : Dev) (q : Nat) : Nat := 2 ^ d.f F.HRG_WQ_STAT_LOG2SIZE q
def Dev.cqSize (d : Dev) (q : Nat) : Nat := 2 ^ d.f F.HRG_CQ_STAT_LOG2SIZE q
def Dev.wqHead (d : Dev) (q : Nat) : Nat := d.f F.HRG_WQ_STAT_HEAD q
def Dev.wqTail (d : Dev) (q : Nat) : Nat := d.f F.HRG_WQ_STAT_TAIL q

/-- Untaken entries of a work queue. -/
def Dev.wqUsed (d : Dev) (q : Nat) : Nat := idxSub (d.wqTail q) (d.wqHead q)

def Dev.wqPut (d : Dev) (q : Nat) (x : WqCtx) : Dev := { d with hrg := { d.hrg with wq := d.hrg.wq.put q x } }

/-- Entries of the overflow store in use, reserved ones included (R266). -/
def Dev.storeUsed (d : Dev) : Nat := (d.hrg.cq.map (fun p => p.2.sres + p.2.stored.length)).foldl (· + ·) 0

/-- Give a completion queue new content; the store's peak and its two events follow (R267). -/
def Dev.cqPut (d : Dev) (q : Nat) (x : CqCtx) : Dev :=
  let was := d.storeUsed
  let d := { d with hrg := { d.hrg with cq := d.hrg.cq.put q x } }
  let now := d.storeUsed
  let d := d.set F.HRG_OVF_STAT_PEAK (max (d.f F.HRG_OVF_STAT_PEAK) now)
  (d.raiseIf (was == 0 && now != 0) 1029).raiseIf (was != 0 && now == 0) 1030

/-- The work queues linked to completion queue q. -/
def Dev.feeders (d : Dev) (q : Nat) : List Nat :=
  (d.hrg.wq.map (·.1)).filter (fun k => d.f F.HRG_WQ_STAT_STATE k != 0 && d.f F.HRG_WQ_STAT_CQ k == q)

/-- The READY RX queue linked to completion queue q (R263). -/
def Dev.rxQueue (d : Dev) (q : Nat) : Option Nat := (d.feeders q).find? (fun k => d.wqReady k && d.wqIsRx k)

/-- A fabric request of the ring engine for a queue of function f. -/
def ringReq (kind : FabKind) (write : Bool) (f addr len : Nat) (data : List Byte) : FabReq :=
  { kind := kind, write := write, mstr := 0, func := f, addr := addr, len := len, data := data }

/-! The fields of a work entry (R257). -/

def weOp (e : List Word) : Nat := wf e 0 60 4
def weNseg (e : List Word) : Nat := wf e 0 37 3
def weDtype (e : List Word) : Nat := wf e 0 52 4
def weDest (e : List Word) : Nat := wf e 0 40 12

/-- Address and length of the used segments (R257). -/
def weSegs (e : List Word) : List (Nat × Nat) := (List.range (weNseg e)).map (fun k => (wf e (4 + k) 0 48, wf e (4 + k) 50 14))

/-- Octets of the used segments. -/
def weTotal (e : List Word) : Nat := ((weSegs e).map (·.2)).foldl (· + ·) 0

/-- Checks 1 to 3 of an RX_POST (R259, R264): its status, 0 when it passes. -/
def rxCheck (e : List Word) : Nat :=
  if weOp e != 3 then 1
  else if weNseg e == 0 || weNseg e > 4 || (weSegs e).any (fun s => s.2 < 256) then 3
  else if (weSegs e).any (fun s => s.1 + s.2 > 2 ^ 48) then 4
  else 0

/-! The entry cache. -/

/-- The octets that a scanned entry of an RX queue adds: none where R259 refuses it (R264). -/
def scanOctets (e : List Word) : Nat := if rxCheck e == 0 then weTotal e else 0

/-- Fetch the next entry a work queue lacks: up to eight ahead for a TX queue (R253, R254); for an RX queue each visible one for the length
scan, and again the next one to be taken where the scan has not kept it (R264). -/
def Dev.wqPump (d : Dev) (q : Nat) : Dev :=
  match d.hrg.wq.look q with
  | none => d
  | some x =>
    let again := x.cache.isEmpty && !x.past.isEmpty
    let n := if again then 0 else x.cache.length + x.past.length
    if !d.on 27 || !d.on 31 || !d.wqReady q || x.fetch.isSome || n ≥ d.wqUsed q || (!d.wqIsRx q && n ≥ 8) then d
    else
      let i := (d.wqHead q + n) % 2 ^ 18
      (d.wqPut q { x with fetch := some false, again := again }).request
        (ringReq (.wqFetch q) false (d.f F.HRG_WQ_STAT_FUNC q) (x.base + 64 * (i % d.wqSize q)) 64 [])

/-- An INV doorbell drops the untaken entries from index i on (R255), and restarts the length scan there (R264). -/
def Dev.wqInvalidate (d : Dev) (q i : Nat) : Dev :=
  match d.hrg.wq.look q with
  | none => d
  | some x =>
    let keep := d.wqUsed q - idxSub (d.wqTail q) i
    let at' := if x.again then 0 else x.cache.length + x.past.length
    (d.wqPut q { x with
      cache := x.cache.take keep
      past := x.past.take (keep - x.cache.length)
      fetch := x.fetch.map (fun stale => stale || at' ≥ keep) }).wqPump q

/-- A completion queue enters ERROR (R270). -/
def Dev.cqStop (d : Dev) (q : Nat) : Dev :=
  if !d.cqReady q then d else (d.setI F.HRG_CQ_STAT_STATE q 2).raise 1032

/-- A fabric fault of the ring engine is counted (R270). -/
def Dev.ringFault (d : Dev) : Dev := d.count F.HRG_CNT_ERR_FAB_ERR

/-! Doorbells. -/

/-- A malformed doorbell (R252). -/
def Dev.dbBad (d : Dev) (f q why : Nat) (admin : Bool) : Dev :=
  ((((d.setI F.HRG_DB_ERR_QNUM f q).setI F.HRG_DB_ERR_REASON f why).setB F.HRG_DB_ERR_ADMIN admin f).count
    F.HRG_DB_ERR_COUNT f).raise 1028

/-- The index checks of R252: the reason an index is malformed, or 0. -/
def dbIndex (size head tail idx : Nat) (inv : Bool) : Nat :=
  if inv then (if idxSub tail idx > size then 4 else 0)
  else if idxSub idx head > size then 2
  else if idxSub idx head < idxSub tail head then 3
  else 0

/-- A function is in reset (R272). -/
def Dev.resetting (d : Dev) (f : Nat) : Bool := d.b F.HRG_FUNC_STAT_RESETTING f

/-- A work-queue doorbell of function f (R252). -/
def Dev.dbWq (f : Nat) (w : RegWr) (d : Dev) : Dev :=
  let q := w.fld F.HRG_DB_WQ_QNUM
  let i := w.fld F.HRG_DB_WQ_IDX
  let inv := w.fld F.HRG_DB_WQ_INV == 1
  if d.resetting f then d
  else if w.mask != 255 then d.dbBad f q 5 false
  else if !d.wqReady q || d.f F.HRG_WQ_STAT_FUNC q != f then d.dbBad f q 1 false
  else
    let why := dbIndex (d.wqSize q) (d.wqHead q) (d.wqTail q) i inv
    if why != 0 then d.dbBad f q why false
    else if inv then d.wqInvalidate q i
    else
      let waits := match d.hrg.wq.look q with | some x => x.cache.isEmpty && x.fetch.isNone | none => false
      let d := if waits && i != d.wqTail q then d.pmc 15 1 { func := some f } else d
      (d.setI F.HRG_WQ_STAT_TAIL q i).wqPump q

/-- NOTIFY of a completion queue is judged (R265). -/
def Dev.cqNotify (d : Dev) (q : Nat) : Dev :=
  match d.hrg.cq.look q with
  | none => d
  | some x =>
    if d.b F.HRG_CQ_STAT_ARMED q && x.arming == 0 && d.f F.HRG_CQ_STAT_PI q != d.f F.HRG_CQ_STAT_HOST_IDX q then
      ((d.setI F.HRG_CQ_STAT_ARMED q 0).setI F.HRG_CQ_STAT_NOTIFY q 1).level q true
    else d

/-- Issue a re-read of HOST_IDX (R265, R269). -/
def Dev.hostReread (d : Dev) (q : Nat) : Dev :=
  match d.hrg.cq.look q with
  | none => d
  | some x => d.request (ringReq (.hostIdx q) false (d.f F.HRG_CQ_STAT_FUNC q) (x.hdr + 8) 8 [])

/-- Re-reads of HOST_IDX that are under way. -/
def Dev.rereads (d : Dev) (q : Nat) : Nat := (d.fab.out ++ d.fab.queue).countP (fun r => r.kind == .hostIdx q)

/-- A completion-queue doorbell of function f (R265, R269, R532). -/
def Dev.dbCq (f : Nat) (w : RegWr) (d : Dev) : Dev :=
  let q := w.fld F.HRG_DB_CQ_QNUM
  if d.resetting f then d
  else if w.mask != 255 then d.dbBad f q 5 false
  else if !d.cqReady q || d.f F.HRG_CQ_STAT_FUNC q != f then d.dbBad f q 1 false
  else
    let d := d.hostReread q
    if w.fld F.HRG_DB_CQ_ARM == 0 then d
    else
      let d := ((d.setI F.HRG_CQ_STAT_NOTIFY q 0).setI F.HRG_CQ_STAT_ARMED q 1).level q false
      match d.hrg.cq.look q with
      | some x => d.cqPut q { x with arming := d.rereads q }
      | none => d

def Dev.adminPut (d : Dev) (f : Nat) (a : AdminPair) : Dev := { d with hrg := { d.hrg with admin := d.hrg.admin.put f a } }

/-- An admin work-queue doorbell (R532, R273). -/
def Dev.dbAwq (f : Nat) (w : RegWr) (d : Dev) : Dev :=
  let q := w.fld F.HRG_DB_AWQ_QNUM
  let i := w.fld F.HRG_DB_AWQ_IDX
  let inv := w.fld F.HRG_DB_AWQ_INV == 1
  if d.resetting f then d
  else if w.mask != 255 then d.dbBad f q 5 true
  else match (if q == 0 then d.hrg.admin.look f else none) with
    | none => d.dbBad f q 1 true
    | some a =>
      let why := dbIndex (2 ^ a.wqLog) a.head a.tail i inv
      if why != 0 then d.dbBad f q why true
      else if inv then d
      else d.adminPut f { a with tail := i }

/-- NOTIFY of an admin completion queue is judged (R265). -/
def Dev.adminNotify (d : Dev) (f : Nat) : Dev :=
  match d.hrg.admin.look f with
  | none => d
  | some a =>
    if a.armed && a.pi != a.hostIdx then (d.adminPut f { a with armed := false, notify := true }).level (1024 + f) true else d

/-- An admin completion-queue doorbell (R265, R532): Docent re-reads HOST_IDX when it serves the pair. -/
def Dev.dbAcq (f : Nat) (w : RegWr) (d : Dev) : Dev :=
  if d.resetting f then d
  else if w.mask != 255 then d.dbBad f 0 5 true
  else match d.hrg.admin.look f with
    | none => d.dbBad f 0 1 true
    | some a =>
      if w.fld F.HRG_DB_ACQ_ARM == 0 then d
      else
        let a := { a with armed := true, notify := false }
        ((d.adminPut f a).level (1024 + f) false).request
          { ringReq (.hostIdx (2048 + f)) false f (a.cqHdr + 8) 8 [] with mstr := 4 }

/-- One of the four doorbells: 0 to 3 at page offsets 0, 8, 10h and 18h (R251). -/
def Dev.doorbell (f n : Nat) (w : RegWr) (d : Dev) : Dev :=
  if f ≥ 4 then d
  else match n with
    | 0 => d.dbWq f w
    | 1 => d.dbCq f w
    | 2 => d.dbAwq f w
    | 3 => d.dbAcq f w
    | _ => d

/-- The offset of doorbell n of function f, 4 being its function reset (R523). -/
def dbOff (f n : Nat) : Nat := 0x110000 + 0x1000 * f + (if n == 4 then 0xF0 else 8 * n)

/-- A doorbell is answered DONE, and is a host wake (R426, R508). -/
def Dev.dbRung (d : Dev) (a : Agent) (f n : Nat) : Dev := ((d.wake 3).respond .done).accessed d a (dbOff f n)

/-- A doorbell write: DENY as any other, a wake of code 3h, held while PD27 is unpowered (R414, R426, R508, R509). -/
def Dev.doorbellRow (f n : Nat) (w : RegWr) (d : Dev) : Dev :=
  if f ≥ 4 || !d.reach w.agent then d
  else if d.asleep then d.stub
  else if d.denied w.agent then (d.respond .deny).accessed d w.agent (dbOff f n)
  else
    let d := d.dbRung w.agent f n
    if d.on 27 then d.doorbell f n w else { d with pwr := { d.pwr with heldDb := d.pwr.heldDb ++ [(f, n, w)] } }

def execHrgDbWq (f : Nat) (w : RegWr) (s : State) : Host.Outcome State Fault Refusal := s.run (Dev.doorbellRow f 0 w)
def execHrgDbCq (f : Nat) (w : RegWr) (s : State) : Host.Outcome State Fault Refusal := s.run (Dev.doorbellRow f 1 w)
def execHrgDbAwq (f : Nat) (w : RegWr) (s : State) : Host.Outcome State Fault Refusal := s.run (Dev.doorbellRow f 2 w)
def execHrgDbAcq (f : Nat) (w : RegWr) (s : State) : Host.Outcome State Fault Refusal := s.run (Dev.doorbellRow f 3 w)

/-! Completions. -/

/-- One completion place of queue q (R266): whether it lies in the store, and the device that has reserved it. -/
def Dev.reserve (d : Dev) (q : Nat) : Option (Bool × Dev) :=
  match d.hrg.cq.look q with
  | none => none
  | some x =>
    if !d.cqReady q then none
    else if x.sres == 0 && x.stored.isEmpty && idxSub (x.next + x.res) (d.f F.HRG_CQ_STAT_HOST_IDX q) < d.cqSize q then
      some (false, d.cqPut q { x with res := x.res + 1 })
    else if d.storeUsed < 2048 then some (true, d.cqPut q { x with sres := x.sres + 1 })
    else none

/-- n places at once. -/
def Dev.reserveN (d : Dev) (q : Nat) : Nat → Option (List Bool × Dev)
  | 0 => some ([], d)
  | n + 1 =>
    match d.reserve q with
    | none => none
    | some (b, d) =>
      match d.reserveN q n with
      | none => none
      | some (bs, d) => some (b :: bs, d)

/-- Issue the write of a completion (R248). -/
def Dev.cqWrite (d : Dev) (q : Nat) (data : List Byte) : Dev :=
  match d.hrg.cq.look q with
  | none => d
  | some x =>
    let i := x.next
    (d.cqPut q { x with next := (i + 1) % 2 ^ 18, fly := x.fly ++ [({ idx := i, data := data, landed := false } : CqFly)] }).request
      (ringReq (.completion q i) true (d.f F.HRG_CQ_STAT_FUNC q) (x.base + 32 * (i % d.cqSize q)) 32 data)

/-- A completion takes the place reserved for it; in a queue in ERROR it is held in the store (R267, R270). -/
def Dev.cqComplete (d : Dev) (q : Nat) (stored : Bool) (data : List Byte) : Dev :=
  match d.hrg.cq.look q with
  | none => d
  | some x =>
    if stored then
      (d.cqPut q { x with sres := x.sres - 1, stored := x.stored ++ [data] }).pmc 17 1 { func := some (d.f F.HRG_CQ_STAT_FUNC q) }
    else if d.cqReady q then (d.cqPut q { x with res := x.res - 1 }).cqWrite q data
    else d.cqPut q { x with res := x.res - 1, stored := x.stored ++ [data] }

/-- The octets of a completion entry (R261). -/
def compBytes (ctype q : Nat) (k : Work) : List Byte :=
  leBytes 8 (ctype * 2 ^ 60 + k.status.getD 0 * 2 ^ 52 + q * 2 ^ 42 + k.idx * 2 ^ 24 + k.nent * 2 ^ 18 + k.len * 2 ^ 4) ++
    leBytes 8 k.word1 ++ leBytes 8 k.word2 ++ leBytes 8 0

/-- The work queue a completion entry names. -/
def compQueue (data : List Byte) : Nat := bits (ofLe (data.take 8)) 42 10

/-- Completions of a work queue go out in index order (R260); `n` bounds their number. -/
def Dev.workFlush (d : Dev) (q : Nat) : Nat → Dev
  | 0 => d
  | n + 1 =>
    match d.hrg.wq.look q with
    | none => d
    | some x =>
      match x.work with
      | [] => d
      | k :: t =>
        if k.status.isNone then d
        else
          let d := d.wqPut q { x with work := t }
          let d := if k.status == some 0 then d else d.count F.HRG_CNT_ERR_MALFORMED
          (d.cqComplete (d.f F.HRG_WQ_STAT_CQ q) k.stored (compBytes (b2n (d.wqIsRx q)) q k)).workFlush q n

/-- Change the entry in processing with index i, and send what is complete. -/
def Dev.workSet (d : Dev) (q i : Nat) (g : Work → Work) : Dev :=
  match d.hrg.wq.look q with
  | none => d
  | some x =>
    (d.wqPut q { x with work := x.work.map (fun k => if k.idx == i then g k else k) }).workFlush q x.work.length

/-- The entry in processing with index i. -/
def Dev.workAt (d : Dev) (q i : Nat) : Option Work :=
  match d.hrg.wq.look q with
  | none => none
  | some x => x.work.find? (fun k => k.idx == i)

/-- DEV_IDX passes what is complete in order (R248). -/
def Dev.cqAdvance (d : Dev) (q : Nat) : Nat → Dev
  | 0 => d
  | n + 1 =>
    match d.hrg.cq.look q with
    | none => d
    | some x =>
      let pi := d.f F.HRG_CQ_STAT_PI q
      match x.fly.find? (fun e => e.idx == pi) with
      | some e =>
        if !e.landed then d
        else ((d.cqPut q { x with fly := x.fly.erase e }).setI F.HRG_CQ_STAT_PI q (pi + 1)).cqAdvance q n
      | none => d

/-- The completion of an admin command has been written: PI advances; a fault stops the pair until a function reset (R270,
R273, R274). -/
def Dev.adminWritten (d : Dev) (f : Nat) (c : Rsp) : Dev :=
  match d.hrg.admin.look f with
  | none => d
  | some a =>
    if c.ok then ((d.adminPut f { a with pi := (a.pi + 1) % 2 ^ 18, busy := false }).pmc 16 1 { func := some f }).adminNotify f
    else d.ringFault.raise 1032

/-- A completion write is answered; a fault stops the queue, and that completion and every later one are held in the store (R270). -/
def Dev.cqWritten (q idx : Nat) (c : Rsp) (d : Dev) : Dev :=
  d.answer (.completion q idx) c (fun r d =>
    if q ≥ 2048 then d.adminWritten (q - 2048) c
    else match d.hrg.cq.look q with
    | none => d
    | some x =>
      match x.fly.findIdx? (fun e => e.idx == idx && !e.landed) with
      | none => d
      | some i =>
        if c.ok then
          (((d.cqPut q { x with fly := x.fly.modify i (fun e => { e with landed := true }) }).pmc 16 1 { func := some r.func }).cqAdvance q
            x.fly.length).cqNotify q
        else
          (d.cqPut q { x with fly := x.fly.take i, stored := (x.fly.drop i).map (·.data) ++ x.stored }).ringFault.cqStop q)

def execCompletionWriteDone (q idx : Nat) (c : Rsp) (s : State) : Host.Outcome State Fault Refusal :=
  s.run (Dev.cqWritten q idx c)

/-- An overflow store entry is written when room appears (R267); an entry bad in both copies stops the queue as a write fault
does, and one bad copy is rewritten from the other (R490). -/
def Dev.storeWrite (d : Dev) (q : Nat) (up : List Upset) : Dev :=
  let bad := up.filterMap (fun u => match u with | .storeEntry c loc both => if c == q then some (loc, both) else none | _ => none)
  let d := bad.foldl (fun d b => d.eccUncorr 4 b.1 1603) d
  if bad.any (·.2) then d.cqStop q
  else
    match d.hrg.cq.look q with
    | none => d
    | some x =>
      match x.stored with
      | [] => d
      | data :: t =>
        if d.on 27 && d.on 31 && d.cqReady q && idxSub (x.next + x.res) (d.f F.HRG_CQ_STAT_HOST_IDX q) < d.cqSize q then
          (d.cqPut q { x with stored := t }).cqWrite q data
        else d

def execStoreEntryWrite (q : Nat) (up : List Upset) (s : State) : Host.Outcome State Fault Refusal :=
  s.run (fun d => (if up.contains .corrected then d.eccCorr else d).storeWrite q up)

/-! Ring headers. -/

/-- Docent writes DEV_IDX of an admin work queue, f + 2,048, or of an admin completion queue, f + 2,052 (R273). -/
def Dev.adminHeader (d : Dev) (n : Nat) : Dev :=
  let f := n % 4
  match d.hrg.admin.look f with
  | none => d
  | some a =>
    let wq := n < 2052
    let i := if wq then a.head else a.pi
    if n ≥ 2056 || i == (if wq then a.wqSent else a.cqSent) || d.f F.MBX_FW_STAT_DSTATE != 2 || d.resetting f then d
    else
      (d.adminPut f (if wq then { a with wqSent := i } else { a with cqSent := i })).request
        { ringReq (.ringHeader n) true f (if wq then a.wqHdr else a.cqHdr) 8 (leBytes 8 i) with mstr := 4 }

/-- DEV_IDX is written to the header of work queue n, or of completion queue n − 1,024, or of an admin queue (R248). -/
def Dev.headerWrite (d : Dev) (n : Nat) : Dev :=
  if !d.on 27 || !d.on 31 || (d.outstanding (.ringHeader n)).isSome then d
  else if n ≥ 2048 then d.adminHeader n
  else if n < 1024 then
    match d.hrg.wq.look n with
    | none => d
    | some x =>
      let i := d.wqHead n
      if i == x.hdrIdx || !d.wqReady n then d
      else
        (d.wqPut n { x with hdrIdx := i }).request
          (ringReq (.ringHeader n) true (d.f F.HRG_WQ_STAT_FUNC n) x.hdr 8 (leBytes 8 i))
  else
    let q := n - 1024
    match d.hrg.cq.look q with
    | none => d
    | some x =>
      let i := d.f F.HRG_CQ_STAT_PI q
      if i == x.hdrIdx || !d.cqReady q then d
      else
        (d.cqPut q { x with hdrIdx := i }).request
          (ringReq (.ringHeader n) true (d.f F.HRG_CQ_STAT_FUNC q) x.hdr 8 (leBytes 8 i))

def execRingHeaderWrite (n : Nat) (s : State) : Host.Outcome State Fault Refusal := s.run (fun d => d.headerWrite n)

/-! HOST_IDX. -/

/-- The periodic re-read of a full queue or one with store entries (R269). -/
def Dev.reread (d : Dev) (q : Nat) : Dev :=
  match d.hrg.cq.look q with
  | none => d
  | some x =>
    let full := idxSub (d.f F.HRG_CQ_STAT_PI q) (d.f F.HRG_CQ_STAT_HOST_IDX q) ≥ d.cqSize q
    if d.on 27 && d.on 31 && (full || x.sres != 0 || !x.stored.isEmpty) then d.hostReread q else d

def execHostIdxReread (q : Nat) (s : State) : Host.Outcome State Fault Refusal := s.run (fun d => d.reread q)

/-- A re-read value is accepted (R269): not more than S behind DEV_IDX and not behind the previous value. -/
def hostIdxOk (size pi old h : Nat) : Bool := idxSub pi h ≤ size && idxSub pi h ≤ idxSub pi old

/-- HOST_IDX as re-read is accepted or ignored (R269, R270). -/
def Dev.hostIdxTake (d : Dev) (q : Nat) (v : Word) (c : Rsp) : Dev :=
  let h := v.toNat % 2 ^ 18
  if !c.ok then d.ringFault.raise 1031
  else if hostIdxOk (d.cqSize q) (d.f F.HRG_CQ_STAT_PI q) (d.f F.HRG_CQ_STAT_HOST_IDX q) h then d.setI F.HRG_CQ_STAT_HOST_IDX q h
  else d.raise 1031

/-! Work entries. -/

/-- A destination of a work entry or of an action is in range: DTYPE 1h any context; 2h a class of a wired port (R173, R174,
R259). -/
def Dev.destOk (d : Dev) (dtype dest : Nat) : Bool :=
  dtype == 1 || (dtype == 2 && dest < 32 && bit (d.f F.ID_INTEG_PORT_WIRED) (dest / 8))

/-- Checks 1 to 5 of a SEND or NOP (R259): the status, 0 when it passes. -/
def Dev.txCheck (d : Dev) (e : List Word) : Nat :=
  if weOp e != 1 && weOp e != 2 then 1
  else if weOp e == 2 then 0
  else if weNseg e == 0 || weNseg e > 4 || (weSegs e).any (fun s => s.2 == 0) || weTotal e < 14 || weTotal e > 9596 then 3
  else if (weSegs e).any (fun s => s.1 + s.2 > 2 ^ 48) then 4
  else if !d.destOk (weDtype e) (weDest e) then 2
  else if wf e 0 57 1 == 1 && weDtype e != 2 then 6
  else 0

/-- The head entry of a work queue is taken: DEV_IDX passes it (R254). -/
def Dev.wqPop (d : Dev) (q : Nat) (k : Work) : Dev :=
  match d.hrg.wq.look q with
  | none => d
  | some x =>
    ((d.wqPut q { x with cache := x.cache.drop 1, work := x.work ++ [k] }).setI F.HRG_WQ_STAT_HEAD q (d.wqHead q + 1)).pmc 14 1
      { func := some (d.f F.HRG_WQ_STAT_FUNC q) }

/-- A taken TX entry: completed at once, or its data read begins (R258, R259). -/
def Dev.txTake (d : Dev) (q : Nat) (e : List Word) (stored : Bool) : Dev :=
  let i := d.wqHead q
  let st := d.txCheck e
  let done := st != 0 || weOp e == 2
  let s := if done then ({ data := [], path := 3 }, d)
    else d.trcSample { data := List.replicate (weTotal e) 0, path := 3 } 0 0
  let d := s.2
  let k : Work :=
    { idx := i, words := e, stored := stored, reads := if done then 0 else weNseg e, trace := s.1.trace
      status := if done then some st else none, word1 := (e.getD 1 0).toNat, len := if weOp e == 1 then weTotal e % 2 ^ 14 else 0 }
  let d := d.wqPop q k
  let d := if done then d
    else (weSegs e).foldl (fun d s => d.request (ringReq (.sendData q i) false (d.f F.HRG_WQ_STAT_FUNC q) s.1 s.2 [])) d
  (d.workFlush q 1024).wqPump q

/-- WQE_TAKE on queue q (R254, R266): once a place is reserved the entry is taken. Of an RX queue only an entry that fails its
checks is taken so; the others go with a frame (R264). -/
def Dev.wqTake (d : Dev) (q : Nat) : Dev :=
  match d.hrg.wq.look q with
  | none => d
  | some x =>
    match x.cache with
    | [] => d
    | e :: _ =>
      if !d.on 27 || !d.wqReady q || x.work.countP (fun k => k.reads != 0) ≥ 8 then d
      else if d.wqIsRx q && rxCheck e == 0 then d
      else
        match d.reserve (d.f F.HRG_WQ_STAT_CQ q) with
        | none => d
        | some (stored, d) =>
          if d.wqIsRx q then
            ((d.wqPop q { idx := d.wqHead q, words := e, stored := stored, status := some (rxCheck e) }).workFlush q 1024).wqPump q
          else d.txTake q e stored

/-- An untaken copy that is uncorrectable is dropped and fetched again (R490). -/
def Dev.cacheLost (d : Dev) (q loc : Nat) : Dev :=
  match d.hrg.wq.look q with
  | none => d
  | some x =>
    let past := if d.wqIsRx q then x.cache.map scanOctets ++ x.past else []
    ((d.wqPut q { x with cache := [], past := past, fetch := x.fetch.map (fun _ => true) }).eccUncorr 3 loc 1606).wqPump q

def execWqeTake (q : Nat) (up : List Upset) (s : State) : Host.Outcome State Fault Refusal :=
  s.run (fun d =>
    let d := if up.contains .corrected then d.eccCorr else d
    let bad := up.filterMap (fun u => match u with | .entryCache w loc => some (w, loc) | _ => none)
    (bad.foldl (fun d b => d.cacheLost b.1 b.2) d).wqTake q)

/-- A frame for the checksum requests of a SEND (R182, R259): the frame with what was asked for inserted, or nothing where it
is unsuitable. -/
def sendSums (l3 l4 : Bool) (data : List Byte) : Option (List Byte) :=
  let p := parse data
  if (l3 && (p.hdr4 data).isNone) || (l4 && (p.segment data).isNone) then none
  else
    let data := if l3 then p.insertL3 data else data
    some (if l4 then p.insertL4 data else data)

/-- A SEND frame is offered to its destination (R224, R242). -/
def Dev.sendOffer (d : Dev) (dtype dest : Nat) (f : Frame) : Bool × Dev :=
  let d := (d.bufWrite (beats f.len) 0).trcNote f (fun t => { t with dtype := dtype, dest := dest })
  if dtype == 1 then d.admitFlow dest f else d.admitEgr (dest / 8) (dest % 8) f

/-- All data of a SEND has arrived: checks 6 to 8, and the completion, or the wait for the egress timestamp (R259, R260). -/
def Dev.sendReady (d : Dev) (q : Nat) (k : Work) : Dev :=
  let e := k.words
  let drop := fun st => (d.trcClose { data := [], trace := k.trace } 4).workSet q k.idx (fun k => { k with status := some st })
  if k.fail != 0 then drop k.fail
  else match sendSums (wf e 0 59 1 == 1) (wf e 0 58 1 == 1) k.data with
    | none => drop 5
    | some data =>
      let wants := wf e 0 57 1 == 1
      let f : Frame := { data := data, path := 3, src := q, send := if wants then d.hrg.sends + 1 else 0, trace := k.trace }
      let d := { d with hrg := { d.hrg with sends := d.hrg.sends + 1 } }
      let r := (d.pathBeats 6 (beats f.len)).sendOffer (weDtype e) (weDest e) f
      if !r.1 then r.2.workSet q k.idx (fun k => { k with status := some 9 })
      else
        let d := r.2.count F.HRG_CNT_TX_FRAMES
        d.workSet q k.idx (fun k => if wants then { k with send := f.send } else { k with status := some 0 })

/-- The SENDs of a queue whose data has arrived, in index order: none before one that still waits for its data (R254). -/
def Dev.sendPump (d : Dev) (q : Nat) : Nat → Dev
  | 0 => d
  | n + 1 =>
    match (d.hrg.wq.look q).bind (fun x => x.work.find? (fun k => k.status.isNone && k.send == 0)) with
    | none => d
    | some k => if k.reads == 0 then (d.sendReady q k).sendPump q n else d

/-- One segment of a SEND's data is read (R259 check 6). -/
def Dev.sendRead (q idx : Nat) (data : List Byte) (c : Rsp) (d : Dev) : Dev :=
  d.answer (.sendData q idx) c (fun _ d =>
    match d.workAt q idx with
    | none => d
    | some k =>
      if k.reads == 0 then d
      else
        let bad := if c.ok then 0 else if c == .deny then 8 else 7
        let k := { k with reads := k.reads - 1, data := k.data ++ data, fail := if k.fail == 0 then bad else k.fail }
        let d := d.workSet q idx (fun _ => k)
        let d := if c.ok then d else d.ringFault
        d.sendPump q (match d.hrg.wq.look q with | some x => x.work.length | none => 0))

def execSendDataReadDone (q idx : Nat) (data : List Byte) (c : Rsp) (s : State) : Host.Outcome State Fault Refusal :=
  s.run (Dev.sendRead q idx data c)

/-- The frame of a SEND that asked for its egress timestamp has left or been discarded (R260). -/
def Dev.sendLeft (d : Dev) (f : Frame) (status ts : Nat) : Dev :=
  if f.send == 0 then d
  else
    match d.hrg.wq.look f.src with
    | none => d
    | some x =>
      match x.work.find? (fun k => k.send == f.send) with
      | none => d
      | some k => d.workSet f.src k.idx (fun k => { k with status := some status, word2 := if status == 0 then stampWord ts else 0 })

/-! Receive. -/

/-- A frame is offered to the wait queue of completion queue q, which must be a valid destination (R263). -/
def Dev.admitWait (d : Dev) (q : Nat) (f : Frame) : Bool × Dev :=
  match d.hrg.cq.look q, d.rxQueue q with
  | some x, some k =>
    let lim := match d.hrg.wq.look k with | some w => qlim w.qlim | none => 0
    if x.cells + f.cells ≤ lim && f.cells ≤ d.freeCells then
      (true, (d.cqPut q { x with wait := x.wait ++ [f] }).trcNote f (fun t => { t with entered := d.cycle }))
    else (false, (d.count F.HRG_CNT_ERR_RX_DROP).noteRefused f 0)
  | _, _ => (false, d)

/-- Octets that the visible entries scanned so far hold (R264). -/
def WqCtx.octets (x : WqCtx) : Nat := (x.cache.map scanOctets ++ x.past).foldl (· + ·) 0

/-- Cut data into the segments it fills. -/
def rxPieces : List (Nat × Nat) → List Byte → List (Nat × List Byte)
  | [], _ => []
  | (a, n) :: t, data => if data.isEmpty then [] else (a, data.take n) :: rxPieces t (data.drop n)

/-- INPORT and CTX of a frame as in the key that every frame builds, the L2 key (R165, R166, R261). -/
def Frame.inport (f : Frame) : Nat := if f.path == 0 then 4 else f.src
def Frame.keyCtx (f : Frame) : Nat := if f.path == 0 then f.src else 0

/-- The octets written to host memory: the edited frame, with the received FCS of a user-port frame (R261). -/
def Dev.rxData (d : Dev) (f : Frame) : List Byte × Dev :=
  let r := d.leave f
  (if f.path == 0 then r.1 else r.1 ++ leBytes 4 f.fcs, r.2)

/-- Words 1 and 2 of an RX completion (R261). -/
def rxWord1 (f : Frame) : Nat :=
  f.inport * 2 ^ 61 + f.keyCtx * 2 ^ 49 + f.accession * 2 ^ 37 + f.l3Sum * 2 ^ 35 + f.l4Sum * 2 ^ 33 + b2n f.wantTs * 2 ^ 32

/-- Octets a frame will have in host memory. -/
def Frame.rxLen (f : Frame) : Nat := f.upstream.length + (if f.path == 0 then 0 else 4)

/-- The next entry of the RX queue of the frame that leaves completion queue q: one that R259 refuses completes on its own, and a good one is
taken for the frame, whose octets go out through its segments. At most eight are held taken at once (R264). -/
def Dev.rxStep (d : Dev) (q : Nat) : Option Dev :=
  match d.hrg.cq.look q with
  | none => none
  | some x =>
    match x.job with
    | none => none
    | some j =>
      match d.hrg.wq.look j.wq with
      | none => none
      | some w =>
        match w.cache with
        | [] => none
        | e :: t =>
          let i := d.wqHead j.wq
          if j.data.isEmpty || j.held.length ≥ 8 then none
          else if rxCheck e != 0 then
            (d.reserve q).map (fun r => (r.2.wqPop j.wq { idx := i, words := e, stored := r.1, status := some (rxCheck e) }).workFlush j.wq 1024)
          else
            let pieces := rxPieces (weSegs e) j.data
            let fn := d.f F.HRG_WQ_STAT_FUNC j.wq
            let d :=
              if j.first.isNone then d.wqPop j.wq { j.comp with idx := i, words := e, stored := j.stored }
              else ((d.wqPut j.wq { w with cache := t }).setI F.HRG_WQ_STAT_HEAD j.wq (i + 1)).pmc 14 1 { func := some fn }
            let j := { j with
              first := some (j.first.getD i), nent := j.nent + 1, held := j.held ++ [(i, pieces.length)], data := j.data.drop (weTotal e) }
            let d := d.cqPut q { x with job := some j }
            some (pieces.foldl (fun d p => d.request (ringReq (.rxData q i) true fn p.1 p.2.length p.2)) d)

/-- The write goes on through the entries at hand. -/
def Dev.rxAdvance (d : Dev) (q : Nat) : Nat → Dev
  | 0 => d
  | n + 1 => match d.rxStep q with | some d => d.rxAdvance q n | none => d

/-- The frame leaving completion queue q takes what entries it can, and the next one it lacks is fetched. -/
def Dev.rxPump (d : Dev) (q wq : Nat) : Dev := (d.rxAdvance q 16).wqPump wq

/-- The head frame of completion queue q's wait queue leaves for host memory, or is discarded where a full ring cannot hold it (R264). -/
def Dev.rxDeliver (d : Dev) (q : Nat) : Dev :=
  match d.hrg.cq.look q, d.rxQueue q with
  | some x, some wq =>
    match x.wait, d.hrg.wq.look wq with
    | f :: rest, some w =>
      if x.job.isSome || !d.on 27 || !d.on 31 then d
      else if w.octets < f.rxLen then
        if d.wqUsed wq == d.wqSize wq && w.cache.length + w.past.length == d.wqUsed wq then
          ((d.cqPut q { x with wait := rest }).count F.HRG_CNT_ERR_RX_DROP).trcClose f 5
        else d
      else
        match d.reserve q with
        | none => d
        | some (stored, d) =>
          let r := d.rxData f
          let d := (r.2.bufRead (beats f.len) 0).pathBeats 6 (beats f.len)
          let comp : Work :=
            { idx := 0, words := [], stored := stored, len := r.1.length
              word1 := rxWord1 f, word2 := if f.wantTs then stampWord f.ts else 0 }
          let job : RxJob := { frame := f, wq := wq, stored := stored, comp := comp, data := r.1 }
          let d := match d.hrg.cq.look q with
            | some x => d.cqPut q { x with wait := rest, job := some job }
            | none => d
          (d.trcNote f (fun t => { t with leave := d.cycle })).rxPump q wq
    | _, _ => d
  | _, _ => d

/-- A frame whose buffer cell is uncorrectable is not written, and no entry is consumed (R491). -/
def Dev.rxCellLost (d : Dev) (q loc : Nat) : Dev :=
  match d.hrg.cq.look q with
  | none => d
  | some x =>
    match x.wait with
    | f :: rest => if x.job.isSome then d else ((d.cqPut q { x with wait := rest }).bufDrop loc).trcClose f 5
    | [] => d

def execRxDeliver (q : Nat) (up : List Upset) (s : State) : Host.Outcome State Fault Refusal :=
  s.run (fun d =>
    let d := if up.contains .corrected then d.eccCorr else d
    match up.findSome? (fun u => match u with | .bufferCell loc => some loc | _ => none) with
    | some loc => d.rxCellLost q loc
    | none => d.rxDeliver q)

/-- The frame leaving completion queue q has been written, or given up: its completion with 00h, or 0Bh after a fault, and NENT (R264, R270).
Where no entry of it was taken it waits again, and its place is released. -/
def Dev.rxEndJob (d : Dev) (q : Nat) : Dev :=
  match d.hrg.cq.look q with
  | none => d
  | some x =>
    match x.job with
    | none => d
    | some j =>
      if !j.data.isEmpty || !j.held.isEmpty then d
      else match j.first with
        | none =>
          d.cqPut q { x with
            job := none, wait := j.frame :: x.wait, res := if j.stored then x.res else x.res - 1
            sres := if j.stored then x.sres - 1 else x.sres }
        | some i =>
          let d := d.cqPut q { x with job := none }
          let d := if j.bad then d else d.count F.HRG_CNT_RX_FRAMES
          (d.trcClose j.frame 2).workSet j.wq i (fun k => { k with status := some (if j.bad then 11 else 0), nent := j.nent })

/-- One data write of a frame is answered. An entry leaves once all of its writes are, and the next may be taken (R264, R270). -/
def Dev.rxWritten (q idx : Nat) (c : Rsp) (d : Dev) : Dev :=
  d.answer (.rxData q idx) c (fun _ d =>
    match d.hrg.cq.look q with
    | none => d
    | some x =>
      match x.job with
      | none => d
      | some j =>
        let held := j.held.filterMap (fun p => if p.1 != idx then some p else if p.2 ≤ 1 then none else some (p.1, p.2 - 1))
        let d := if c.ok then d else d.ringFault
        ((d.cqPut q { x with job := some { j with held := held, bad := j.bad || !c.ok } }).rxPump q j.wq).rxEndJob q)

def execRxDataWriteDone (q idx : Nat) (c : Rsp) (s : State) : Host.Outcome State Fault Refusal := s.run (Dev.rxWritten q idx c)

/-! Fetched entries, and queues that stop. -/

/-- A frame that was taking entries of a stopped RX queue can take no more: DESIGN CHOICE, what it has taken completes with 0Bh once its
writes are answered, and the rest of it is not written (R270; log entry 37). -/
def Dev.rxGiveUp (d : Dev) (q wq : Nat) : Dev :=
  match d.hrg.cq.look q with
  | none => d
  | some x =>
    match x.job with
    | none => d
    | some j => if j.wq != wq || j.data.isEmpty then d else (d.cqPut q { x with job := some { j with data := [], bad := true } }).rxEndJob q

/-- A work queue enters ERROR: its untaken entries are dropped (R270). -/
def Dev.wqStop (d : Dev) (q : Nat) : Dev :=
  if !d.wqReady q then d
  else
    let d := (d.setI F.HRG_WQ_STAT_STATE q 2).raise 1032
    match d.hrg.wq.look q with
    | some x => (d.wqPut q { x with cache := [], past := [] }).rxGiveUp (d.f F.HRG_WQ_STAT_CQ q) q
    | none => d

/-- A fetched entry goes to the cache, or past it to the length scan of an RX queue (R254, R264). -/
def WqCtx.fetched (x : WqCtx) (rx : Bool) (words : List Word) : WqCtx :=
  if x.again then { x with fetch := none, again := false, cache := x.cache ++ [words], past := x.past.drop 1 }
  else if rx && (x.cache.length ≥ 8 || !x.past.isEmpty) then { x with fetch := none, past := x.past ++ [scanOctets words] }
  else { x with fetch := none, cache := x.cache ++ [words] }

/-- An entry has been fetched, unless an INV doorbell caught it; a fault stops the queue (R254, R255, R270). -/
def Dev.wqFetched (q : Nat) (words : List Word) (c : Rsp) (d : Dev) : Dev :=
  d.answer (.wqFetch q) c (fun _ d =>
    match d.hrg.wq.look q with
    | none => d
    | some x =>
      if x.fetch.isNone then d
      else
        let stale := x.fetch.getD false
        let d := d.wqPut q { x with fetch := none, again := false }
        if !c.ok then d.ringFault.wqStop q
        else if stale || !d.wqReady q then d.wqPump q
        else (d.wqPut q (x.fetched (d.wqIsRx q) words)).rxPump (d.f F.HRG_WQ_STAT_CQ q) q)

def execWqeFetchDone (q : Nat) (words : List Word) (c : Rsp) (s : State) : Host.Outcome State Fault Refusal :=
  s.run (Dev.wqFetched q words c)

/-! The life of a queue (R271). -/

/-- ERR of HRG_QCTX_CMD. -/
def Dev.qctxEnd (d : Dev) (e : Nat) : Dev := d.set F.HRG_QCTX_CMD_ERR e

/-- 3h and 4h: LOG2SIZE, and the base and header addresses; `e` is the octets of an entry. -/
def Dev.ringBad (d : Dev) (lg e : Nat) : Nat :=
  let base := d.f F.HRG_QCTX_BASE_BASE
  let hdr := d.f F.HRG_QCTX_HDR_HDR
  if lg < 4 || lg > 16 then 3
  else if base % 64 != 0 || hdr % 64 != 0 || base + e * 2 ^ lg > 2 ^ 48 then 4
  else 0

/-- The first error of a create of work queue q (R271). -/
def Dev.createWqErr (d : Dev) (q f lg cq : Nat) (rx : Bool) : Nat :=
  if !d.b F.ID_INTEG_FAB_WIRED then 8
  else if d.f F.HRG_WQ_STAT_STATE q != 0 then 1
  else if d.ringBad lg 64 != 0 then d.ringBad lg 64
  else if !d.cqReady cq || d.f F.HRG_CQ_STAT_FUNC cq != f then 5
  else if rx && (d.feeders cq).any d.wqIsRx then 6
  else 0

/-- Create a work queue. -/
def Dev.createWq (d : Dev) (q f lg cq lim : Nat) (rx : Bool) : Dev :=
  let e := d.createWqErr q f lg cq rx
  if e != 0 then d.qctxEnd e
  else
    let x : WqCtx := { base := d.f F.HRG_QCTX_BASE_BASE, hdr := d.f F.HRG_QCTX_HDR_HDR, qlim := lim }
    let d := ((d.setI F.HRG_WQ_STAT_STATE q 1).setI F.HRG_WQ_STAT_FUNC q f).setB F.HRG_WQ_STAT_KIND rx q
    let d := ((d.setI F.HRG_WQ_STAT_HEAD q 0).setI F.HRG_WQ_STAT_TAIL q 0).setI F.HRG_WQ_STAT_CQ q cq
    ((d.setI F.HRG_WQ_STAT_LOG2SIZE q lg).wqPut q x).qctxEnd 0

/-- The first error of a create of completion queue q. -/
def Dev.createCqErr (d : Dev) (q lg : Nat) : Nat :=
  if !d.b F.ID_INTEG_FAB_WIRED then 8
  else if d.f F.HRG_CQ_STAT_STATE q != 0 then 1
  else d.ringBad lg 32

/-- Create a completion queue. -/
def Dev.createCq (d : Dev) (q f lg : Nat) : Dev :=
  let e := d.createCqErr q lg
  if e != 0 then d.qctxEnd e
  else
    let x : CqCtx := { base := d.f F.HRG_QCTX_BASE_BASE, hdr := d.f F.HRG_QCTX_HDR_HDR }
    let d := (d.setI F.HRG_CQ_STAT_STATE q 1).setI F.HRG_CQ_STAT_FUNC q f
    let d := ((d.setI F.HRG_CQ_STAT_PI q 0).setI F.HRG_CQ_STAT_HOST_IDX q 0).setI F.HRG_CQ_STAT_LOG2SIZE q lg
    let d := ((d.setI F.HRG_CQ_STAT_ARMED q 0).setI F.HRG_CQ_STAT_NOTIFY q 0).level q false
    (d.cqPut q x).qctxEnd 0

/-- A work queue is drained (R271). -/
def Dev.wqDrained (d : Dev) (q : Nat) : Bool :=
  d.wqReady q && d.wqUsed q == 0 &&
  (match d.hrg.wq.look q with | some x => x.work.isEmpty | none => true) &&
  (match d.hrg.cq.look (d.f F.HRG_WQ_STAT_CQ q) with
   | some c => !(c.stored ++ (c.fly.filter (fun e => !e.landed)).map (·.data)).any (fun b => compQueue b == q)
   | none => true)

/-- A completion queue is drained, but for its linked work queues (R271). -/
def Dev.cqDrained (d : Dev) (q : Nat) : Bool :=
  d.cqReady q && d.f F.HRG_CQ_STAT_PI q == d.f F.HRG_CQ_STAT_HOST_IDX q &&
  (match d.hrg.cq.look q with
   | some x => x.wait.isEmpty && x.job.isNone && x.res == 0 && x.sres == 0 && x.stored.isEmpty && x.fly.isEmpty
   | none => true)

/-- The record of a work queue becomes FREE. -/
def Dev.wqFree (d : Dev) (q : Nat) : Dev :=
  { d.resetReg (0x102000 + 8 * q) with hrg := { (d.resetReg (0x102000 + 8 * q)).hrg with wq := d.hrg.wq.del q } }

/-- The record of a completion queue becomes FREE. -/
def Dev.cqFree (d : Dev) (q : Nat) : Dev :=
  let was := d.storeUsed
  let d := (d.resetReg (0x104000 + 8 * q)).level q false
  let d := { d with hrg := { d.hrg with cq := d.hrg.cq.del q } }
  d.raiseIf (was != 0 && d.storeUsed == 0) 1030

/-- A destroy has ended with an ERR; Docent's admin command that waits for it has its answer (R271, R275). -/
def Dev.destroyEnd (d : Dev) (e : Nat) : Dev :=
  let told : SMap AdminPair := d.hrg.admin.map (fun (p : Nat × AdminPair) => (p.1, match p.2.hold with
    | some (.destroyCq i k none) => { p.2 with hold := some (.destroyCq i k (some e)) }
    | _ => p.2))
  ({ d with hrg := { d.hrg with destroy := none, admin := told } }.set F.HRG_QCTX_CMD_BUSY 0).qctxEnd e

/-- The header of a queue: its number as RING_HEADER_WRITE has it. -/
def QctxJob.header (j : QctxJob) : Nat := if j.wq then j.q else 1024 + j.q

/-- The destroy under way goes on once its re-read and the header writes already issued are answered: the queue becomes FREE if it is drained
then, and its memory is not touched again (R271). -/
def Dev.destroyTry (d : Dev) : Dev :=
  match d.hrg.destroy with
  | none => d
  | some j =>
    if j.reads != 0 || d.fab.out.any (fun r => r.kind == .ringHeader j.header) then d
    else if !j.ok || !(if j.wq then d.wqDrained j.q else d.cqDrained j.q) then d.destroyEnd 2
    else
      let d := { d with fab := { d.fab with queue := d.fab.queue.filter (fun r => r.kind != FabKind.ringHeader j.header && (j.wq || r.kind != FabKind.hostIdx j.q)) } }
      (if j.wq then d.wqFree j.q else d.cqFree j.q).destroyEnd 0

/-- A re-read of HOST_IDX of queue q has been answered: it may be the one a destroy waits for (R271). -/
def Dev.destroyRead (d : Dev) (q : Nat) (ok : Bool) : Dev :=
  match d.hrg.destroy with
  | none => d
  | some j =>
    if j.wq || j.q != q || j.reads == 0 then d
    else { d with hrg := { d.hrg with destroy := some { j with reads := j.reads - 1, ok := ok } } }.destroyTry

/-- A destroy begins. -/
def Dev.destroyBegin (d : Dev) (j : QctxJob) : Dev :=
  { d with hrg := { d.hrg with destroy := some j } }.set F.HRG_QCTX_CMD_BUSY 1 |>.destroyTry

/-- Destroy a work queue. -/
def Dev.destroyWq (d : Dev) (q : Nat) : Dev :=
  if !d.b F.ID_INTEG_FAB_WIRED then d.qctxEnd 8
  else if d.f F.HRG_WQ_STAT_STATE q == 0 then d.qctxEnd 1
  else if !d.wqDrained q then d.qctxEnd 2
  else d.destroyBegin { wq := true, q := q, reads := 0 }

/-- Destroy a completion queue; HOST_IDX is re-read first. -/
def Dev.destroyCq (d : Dev) (q : Nat) : Dev :=
  if !d.b F.ID_INTEG_FAB_WIRED then d.qctxEnd 8
  else if d.f F.HRG_CQ_STAT_STATE q == 0 then d.qctxEnd 1
  else if !(d.feeders q).isEmpty then d.qctxEnd 7
  else
    let d := d.hostReread q
    d.destroyBegin { wq := false, q := q, reads := d.rereads q }

/-- A write of HRG_QCTX_CMD; the host's is ignored, and one while BUSY is refused with 9h (R271). -/
def Dev.writeQctx (w : RegWr) (d : Dev) : Dev :=
  let q := w.fld F.HRG_QCTX_CMD_QNUM
  if w.agent.isHost then d
  else if d.b F.HRG_QCTX_CMD_BUSY then d.qctxEnd 9
  else match w.fld F.HRG_QCTX_CMD_OP with
    | 1 => d.createWq q (w.fld F.HRG_QCTX_CMD_FUNC) (w.fld F.HRG_QCTX_CMD_LOG2SIZE) (w.fld F.HRG_QCTX_CMD_CQ)
        (w.fld F.HRG_QCTX_CMD_QLIM) (w.fld F.HRG_QCTX_CMD_KIND == 1)
    | 2 => d.createCq q (w.fld F.HRG_QCTX_CMD_FUNC) (w.fld F.HRG_QCTX_CMD_LOG2SIZE)
    | 3 => d.destroyWq q
    | 4 => d.destroyCq q
    | _ => d

/-- The row of one OP: a write of HRG_QCTX_CMD with it. -/
def Dev.qctxRow (op : Nat) (w : RegWr) (d : Dev) : Dev :=
  if w.fld F.HRG_QCTX_CMD_OP != op then d else d.gated 0x100080 w (Dev.writeQctx w)

def execQctxCreateWq (w : RegWr) (s : State) : Host.Outcome State Fault Refusal := s.run (Dev.qctxRow 1 w)
def execQctxCreateCq (w : RegWr) (s : State) : Host.Outcome State Fault Refusal := s.run (Dev.qctxRow 2 w)
def execQctxDestroyWq (w : RegWr) (s : State) : Host.Outcome State Fault Refusal := s.run (Dev.qctxRow 3 w)
def execQctxDestroyCq (w : RegWr) (s : State) : Host.Outcome State Fault Refusal := s.run (Dev.qctxRow 4 w)

/-- HRG_QCTX_BASE and HRG_QCTX_HDR ignore the host. -/
def Dev.writeQctxAddr (off : Nat) (w : RegWr) (d : Dev) : Dev := if w.agent.isHost then d else d.putAll (fldsAt off) w

/-! Function reset (R272). -/

/-- What a function reset does to the rings of function f: queues RESETTING, the admin pair's command abandoned, entries, completions not yet
written and waiting frames discarded; a destroy under way ends as not drained. -/
def Dev.ringsReset (d : Dev) (f : Nat) : Dev :=
  let wqs := (d.hrg.wq.map (·.1)).filter (fun q => d.f F.HRG_WQ_STAT_FUNC q == f)
  let cqs := (d.hrg.cq.map (·.1)).filter (fun q => d.f F.HRG_CQ_STAT_FUNC q == f)
  let unwritten := (wqs.map (fun q => match d.hrg.wq.look q with
    | some x => x.work.countP (fun k => k.status.isSome) | none => 0)).foldl (· + ·) 0
  let held := cqs.filterMap (fun q => d.hrg.cq.look q)
  let gone := held.flatMap (fun x => x.wait ++ (match x.job with | some j => [j.frame] | none => []))
  let taken := (wqs.filterMap (fun q => d.hrg.wq.look q)).flatMap (·.work)
  let d := taken.foldl (fun d k => if k.reads == 0 then d else d.trcClose { data := [], trace := k.trace } 8) d
  let admin := match d.hrg.admin.look f with | some a => b2n a.busy | none => 0
  let n := unwritten + (held.map (fun x => x.stored.length + x.fly.countP (fun e => !e.landed))).foldl (· + ·) 0 + gone.length + admin
  let d := gone.foldl (fun d fr => d.trcClose fr 8) (d.countN F.HRG_CNT_ERR_RST_DISCARD n)
  let d := wqs.foldl (fun d q => match d.hrg.wq.look q with
    | some x => (d.wqPut q { x with cache := [], past := [], fetch := none, work := [] }).setI F.HRG_WQ_STAT_STATE q 3
    | none => d) d
  let d := cqs.foldl (fun d q => match d.hrg.cq.look q with
    | some x => (d.cqPut q { base := x.base, hdr := x.hdr, next := x.next }).setI F.HRG_CQ_STAT_STATE q 3
    | none => d) d
  let mine := fun (r : FabReq) => r.func == f && (r.mstr == 0 || (r.mstr == 4 && r.kind != .image))
  let d := match d.hrg.admin.look f with
    | some a => d.adminPut f { a with hold := none, busy := false }
    | none => d
  let d := match d.hrg.destroy with
    | some j => if (if j.wq then wqs else cqs).contains j.q then d.destroyEnd 2 else d
    | none => d
  (d.fabAbandon mine).setI F.HRG_FUNC_STAT_RESETTING f 1

/-- The reset has completed: the queues of f are FREE and its admin pair is gone. -/
def Dev.ringsResetDone (d : Dev) (f : Nat) : Dev :=
  if !d.resetting f then d
  else
    let wqs := (d.hrg.wq.map (·.1)).filter (fun q => d.f F.HRG_WQ_STAT_FUNC q == f)
    let cqs := (d.hrg.cq.map (·.1)).filter (fun q => d.f F.HRG_CQ_STAT_FUNC q == f)
    let d := cqs.foldl Dev.cqFree (wqs.foldl Dev.wqFree d)
    let d := ({ d with hrg := { d.hrg with admin := d.hrg.admin.del f } }.setI F.HRG_FUNC_STAT_ADMIN_READY f 0).level (1024 + f) false
    (d.setI F.HRG_FUNC_STAT_RESETTING f 0).raise (1033 + f)

def execFuncResetDone (f : Nat) (s : State) : Host.Outcome State Fault Refusal :=
  s.run (fun d => if f ≥ 4 then d else d.ringsResetDone f)

/-! Answers about headers and indices. -/

/-- A ring header write is answered (R270); a destroy may wait for it (R271). -/
def Dev.headerWritten (n : Nat) (c : Rsp) (d : Dev) : Dev :=
  d.answer (.ringHeader n) c (fun _ d =>
    (if c.ok then d
     else if n < 1024 then d.ringFault.wqStop n
     else if n < 2048 then d.ringFault.cqStop (n - 1024)
     else d.ringFault).destroyTry)

def execRingHeaderWriteDone (n : Nat) (c : Rsp) (s : State) : Host.Outcome State Fault Refusal := s.run (Dev.headerWritten n c)

/-- A re-read is answered; NOTIFY is then judged (R265), and a destroy goes on (R271). Numbers from 2,048 are the admin pairs. -/
def Dev.hostIdxDone (q : Nat) (v : Word) (c : Rsp) (d : Dev) : Dev :=
  d.answer (.hostIdx q) c (fun _ d =>
    if q ≥ 2048 then
      match d.hrg.admin.look (q - 2048) with
      | none => d
      | some a =>
        let h := v.toNat % 2 ^ 18
        (if !c.ok then d.ringFault.raise 1031
         else if hostIdxOk (2 ^ a.cqLog) a.pi a.hostIdx h then d.adminPut (q - 2048) { a with hostIdx := h }
         else d.raise 1031).adminNotify (q - 2048)
    else
      match d.hrg.cq.look q with
      | none => d
      | some x => (((d.cqPut q { x with arming := x.arming - 1 }).hostIdxTake q v c).cqNotify q).destroyRead q c.ok)

def execHostIdxReadDone (q : Nat) (v : Word) (c : Rsp) (s : State) : Host.Outcome State Fault Refusal :=
  s.run (Dev.hostIdxDone q v c)

/-! The status registers as read. -/

/-- HRG_WQ_STAT[q] with CACHED, and HRG_CQ_STAT[q] with STORED. -/
def Dev.wqWord (d : Dev) (q : Nat) : Nat :=
  let n := match d.hrg.wq.look q with | some x => min 8 x.cache.length | none => 0
  d.stored (0x102000 + 8 * q) + n * 2 ^ F.HRG_WQ_STAT_CACHED.lo
def Dev.cqWord (d : Dev) (q : Nat) : Nat :=
  let n := match d.hrg.cq.look q with | some x => x.sres + x.stored.length | none => 0
  d.stored (0x104000 + 8 * q) + n * 2 ^ F.HRG_CQ_STAT_STORED.lo

/-- Queues of function f that are not FREE, and free queues. -/
def Dev.wqsOf (d : Dev) (f : Nat) : Nat :=
  (d.hrg.wq.map (·.1)).countP (fun q => d.f F.HRG_WQ_STAT_STATE q != 0 && d.f F.HRG_WQ_STAT_FUNC q == f)
def Dev.cqsOf (d : Dev) (f : Nat) : Nat :=
  (d.hrg.cq.map (·.1)).countP (fun q => d.f F.HRG_CQ_STAT_STATE q != 0 && d.f F.HRG_CQ_STAT_FUNC q == f)

end Sys2Proof.Machine
end

