-- ==== Sys2Proof/Machine/Forward.lean ====
section
/-! DEFINITION. Classification of a frame (06): stamp, keys and probe (R159, R172, R184), resolution, and the action (R173 to
R177); the containment of memory faults by array (R490), the scrubber (R492), and delineation with the faults it meets. -/

namespace Sys2Proof.Machine

/-- An uncorrectable entry of a configuration array; a queue context enters ERROR (R490). -/
def Dev.configUpset (d : Dev) (off loc : Nat) : Dev :=
  match F.HRG_WQ_STAT_STATE.at? off, F.HRG_CQ_STAT_STATE.at? off with
  | some (q, _), _ => (d.wqStop q).eccUncorr 5 loc 1604
  | none, some (q, _) => (d.cqStop q).eccUncorr 5 loc 1604
  | none, none => d.configLost off loc

/-- Containment by array; faults that belong to one step only are left to it. -/
def Dev.contain (d : Dev) (u : Upset) : Dev :=
  match u with
  | .corrected => d.eccCorr
  | .tableSlot loc => d.slotLost loc
  | .reassembly e loc => d.rsmLost e loc
  | .keySlot n loc => d.keyLost n loc
  | .configEntry off loc => d.configUpset off loc
  | .counterEntry off loc => d.counterLost off loc
  | .entryCache q loc => d.cacheLost q loc
  | .vitAccount a up frm => d.vitCounterFault a up frm
  | .vitTotal t frm => d.vitTotalFault t frm
  | _ => d

def Dev.containAll (d : Dev) (up : List Upset) : Dev := up.foldl Dev.contain d

/-- The packet buffer cell met uncorrectable, if any. -/
def cellUpset (up : List Upset) : Option Nat := up.findSome? (fun u => match u with | .bufferCell loc => some loc | _ => none)

def execEncapHeader (up : List Upset) (s : State) : Host.Outcome State Fault Refusal :=
  s.run (fun d => (d.containAll up).encapStep (up.contains .obsParity))

/-! The lookup. -/

/-- The IP key of a parsed frame, if it has one. -/
def Parsed.ipKey (p : Parsed) (data : List Byte) (inport ctx : Nat) : Option Key :=
  if p.kind == 4 then some ⟨p.ip4Key data inport ctx, false⟩
  else if p.kind == 6 then some ⟨p.ip6Key data inport ctx, true⟩
  else none

/-- The keys of a frame with the table each is looked up in, in the order of R172. -/
def Frame.keys (f : Frame) : List (Nat × Key) :=
  let p := parse f.data
  let ctx := p.ipCtx f.inport f.src
  (match p.ipKey f.data f.inport ctx with | some k => [(1, k)] | none => []) ++
    [(0, ⟨p.l2Key f.data f.inport (if f.path == 0 then f.src else 0), false⟩)]

/-- The first visible match among the keys: its table and slot (R172). In INIT every lookup misses (R183). -/
def Dev.lookup (d : Dev) (keys : List (Nat × Key)) (a : Nat) : Option (Nat × Nat) :=
  if d.accState == 0 then none else keys.findSome? (fun k => (d.tableFind k.1 k.2 a).map (fun i => (k.1, i)))

/-- The default action of pipeline p. -/
def Dev.defAction (d : Dev) (p : Nat) : Nat := d.f F.CLS_DEF_HI_ACT_HI p * 2 ^ 64 + d.f F.CLS_DEF_LO_ACT_LO p

/-- The action in a start slot (R169, R173). -/
def slotAction (v : Nat) : Nat := bits v 128 128

/-- L2WHY of a frame is counted. -/
def Dev.parseCount (d : Dev) (p : Nat) (x : Parsed) : Dev :=
  if x.kind != 0 then d
  else match x.why with
    | 1 => d.count F.CLS_CNT_PARSE_TAGS3 p
    | 2 => d.count F.CLS_CNT_PARSE_TRUNC p
    | 3 => d.count F.CLS_CNT_PARSE_EXT p
    | 4 => d.count F.CLS_CNT_PARSE_IP_BAD p
    | _ => d

/-- The counters of a lookup's result. -/
def Dev.lookupCount (d : Dev) (p cls : Nat) (r : Option (Nat × Nat)) : Dev :=
  match r with
  | none => d.count F.CLS_CNT_MISS_MISS p
  | some (t, i) =>
    let d := if t == 1 then d.count F.CLS_CNT_HIT_HIT_B p else d.count F.CLS_CNT_HIT_HIT_A p
    if i ≥ stashBase then (d.count F.CLS_CNT_MISS_STASH_HIT p).pmc 8 1 { cls := some cls } else d

/-- The first beat of the oldest frame of pipeline p enters the parser, `at'` after the last TICK (R159, R165, R172, R180,
R184). A lost slot among those probed drops the frame (R492). -/
def Dev.classify (d : Dev) (p at' : Nat) (up : List Upset) : Dev :=
  match d.cls.fifo.getD p [] with
  | [] => d
  | f :: rest =>
    if p ≥ 3 || !d.on (11 + p) then d
    else
      let f := { f with accession := d.accCur, ts := if p == 0 then d.timeAt at' else f.ts }
      let x := parse f.data
      let d := { d with cls := { d.cls with fifo := d.cls.fifo.set p rest } }
      let s := d.trcSample f f.inport f.keyCtx
      let f := { s.1 with l3Sum := x.l3Sum f.data, l4Sum := x.l4Sum f.data }
      let d := ((s.2.count F.CLS_CNT_FRM_FRAMES p).parseCount p x).act 4 1
      let d := ((d.bufWrite (beats f.len) f.cls).pathBeats p (beats f.len)).pmc (5 + p) 1 { cls := some f.cls }
      let keys := f.keys
      let lost := up.any (fun u => match u with
        | .tableSlot loc => keys.any (fun k => Dev.probes k.1 k.2 (locSlot loc))
        | _ => false)
      let d := d.containAll up
      let r := d.lookup keys f.accession
      let act := match r with | some (_, i) => slotAction (d.slot i) | none => d.defAction p
      let fl : Flight := { frame := f, act := if lost then 0 else act, resolved := false, lost := lost }
      let d := { d with cls := { d.cls with flights := d.cls.flights.set p (d.cls.flights.getD p [] ++ [fl]) } }
      if lost then d else d.lookupCount p f.cls r

def execClassifyFrame (p at' : Nat) (up : List Upset) (s : State) : Host.Outcome State Fault Refusal :=
  s.run (fun d => d.classify p at' up)

/-- Mark the first unresolved frame. -/
def resolveFirst : List Flight → List Flight
  | [] => []
  | x :: t => if x.resolved then x :: resolveFirst t else { x with resolved := true } :: t

/-- The oldest unresolved frame of pipeline p has its action; DRAIN follows the frames stamped OLD (R159, R187). -/
def Dev.resolve (d : Dev) (p : Nat) : Dev :=
  let l := d.cls.flights.getD p []
  match l.find? (fun x => !x.resolved) with
  | none => d
  | some x =>
    let d := { d with cls := { d.cls with flights := d.cls.flights.set p (resolveFirst l) } }
    let d := d.trcNote x.frame (fun t => { t with action := d.cycle })
    if d.accState == 3 then d.set F.CLS_ACC_STAT_DRAIN (d.unresolved (d.f F.CLS_ACC_STAT_OLD)) else d

def execActionResolve (p : Nat) (s : State) : Host.Outcome State Fault Refusal := s.run (fun d => d.resolve p)

/-! The action. -/

def actDtype (a : Nat) : Nat := bits a 120 4
def actDest (a : Nat) : Nat := bits a 108 12
def actMtype (a : Nat) : Nat := bits a 104 4
def actMdest (a : Nat) : Nat := bits a 92 12

/-- A copy may go to a destination (R15, R16, R174): the fibre not to a flow context, a completion queue only while it is
valid (R263). -/
def Dev.copyOk (d : Dev) (path dtype dest : Nat) : Bool :=
  if dtype == 1 then path != 0
  else if dtype == 2 then d.destOk 2 dest
  else dest < 1024 && d.cqReady dest && (d.rxQueue dest).isSome

/-- A copy is offered to its destination; a spill that reads an uncorrectable cell discards it (R491). -/
def Dev.copyTo (d : Dev) (dtype dest : Nat) (f : Frame) (cell : Option Nat) : Dev :=
  if dtype == 2 then (d.admitEgr (dest / 8) (dest % 8) f).2
  else if dtype == 3 then (d.admitWait dest f).2
  else
    let r := (d.admitFlow dest f).2
    match cell with
    | some loc =>
      if (r.ctx dest).spilled.length > (d.ctx dest).spilled.length then (d.bufDrop loc).trcClose f 5 else r
    | none => r

/-- A copy of type dtype (1h to 3h), where it may go; else dropped and counted (R16, R174). -/
def Dev.sendCopy (d : Dev) (p dtype dest : Nat) (f : Frame) (cell : Option Nat) : Dev :=
  if d.copyOk f.path dtype dest then d.copyTo dtype dest f cell
  else (d.count F.CLS_CNT_ACT_FORBIDDEN p).trcClose f 11

/-- Steps 2 to 4 of R175. -/
def Dev.actCopies (d : Dev) (p a : Nat) (f : Frame) (cell : Option Nat) : Dev :=
  let dt := actDtype a
  let mt := actMtype a
  let d := if dt > 3 then d.count F.CLS_CNT_ACT_BAD_ACTION p else d
  let d := if mt > 3 then d.count F.CLS_CNT_ACT_BAD_ACTION p else d
  let mirrors := 1 ≤ mt && mt ≤ 3
  let d := d.trcNote f (fun t => { t with dtype := dt, dest := actDest a, mirror := mirrors })
  let stamped := { f with wantTs := bit a 45 }
  let d :=
    if dt == 0 || dt > 3 then (d.count F.CLS_CNT_DROP_ACT_DROP p).trcClose f 4
    else d.sendCopy p dt (actDest a) { stamped with edit := bits a 46 32 } cell
  let d := if mirrors then d.sendCopy p mt (actMdest a) { stamped with trace := 0 } cell else d
  if bit a 44 then
    (d.countN F.CLS_STAT_OCT_OCTETS f.len (bits a 34 10)).count F.CLS_STAT_FRM_FRAMES (bits a 34 10)
  else d

/-- Step 1 of R175. -/
def Dev.actPolice (d : Dev) (p a : Nat) (f : Frame) (cell : Option Nat) : Dev :=
  if !bit a 91 then d.actCopies p a f cell
  else
    let r := d.polTake (bits a 78 13) f.len
    if r.1 then r.2.actCopies p a f cell else (r.2.count F.CLS_CNT_DROP_POL_DROP p).trcClose f 3

/-- The action of the oldest frame of pipeline p is applied, once it is resolved (R175, R181, R492). -/
def Dev.applyAction (d : Dev) (p : Nat) (up : List Upset) : Dev :=
  match d.cls.flights.getD p [] with
  | [] => d
  | x :: rest =>
    if !x.resolved then d
    else
      let f := x.frame
      let d := { d with cls := { d.cls with flights := d.cls.flights.set p rest } }.containAll up
      let d := if f.l3Sum == 2 then d.count F.CLS_CNT_CSUM_L3_BAD p else d
      let d := if f.l4Sum == 2 then d.count F.CLS_CNT_CSUM_L4_BAD p else d
      if x.lost || (bit (d.f F.CLS_CTL_CSUM_DROP) p && (f.l3Sum == 2 || f.l4Sum == 2)) then
        (d.count F.CLS_CNT_DROP_ACT_DROP p).trcClose f 4
      else d.actPolice p x.act f (cellUpset up)

def execApplyAction (p : Nat) (up : List Upset) (s : State) : Host.Outcome State Fault Refusal :=
  s.run (fun d => d.applyAction p up)

/-- The scrubber's next bucket of every bank and eight stash slots (R492). -/
def Dev.scrubStep (d : Dev) (up : List Upset) : Dev :=
  if !d.on 11 || !d.b F.RST_SCRUB_EN then d
  else
    let k := d.cls.scrub
    let d := { d with cls := { d.cls with scrub := (k + 1) % 8192 } }.containAll up
    if k == 8191 then d.count F.RST_SCRUB_PASSES else d

def execTableScrub (up : List Upset) (s : State) : Host.Outcome State Fault Refusal := s.run (fun d => d.scrubStep up)

end Sys2Proof.Machine
end

