-- ==== Sys2Proof/Machine/Upstream.lean ====
section
/-! DEFINITION. Upstream bursts (04): pages and grants (R98 to R105), bursts (R106 to R110), shares (R111 to R119), aborts
and purges (R120 to R124), TX_SD and PHY_SLEEP (R125, R126). -/

namespace Sys2Proof.Machine

/-! Upstream messages (R114, R138, R141, R322). -/

/-- A push takes its number. -/
def Dev.pushed (d : Dev) (m : UpMsg) : UpMsg × Dev :=
  ({ m with id := d.us.pushes, inBurst := none }, { d with us := { d.us with pushes := d.us.pushes + 1 } })

/-- A message pushed into the sequencer's upstream queue; the full queue discards it (R322). -/
def Dev.pushSeq (d : Dev) (m : UpMsg) : Dev :=
  if d.us.seqUq.length ≥ 32 then (d.count F.SEQ_CNT2_UQ_DROP).raise 1415
  else
    let p := d.pushed m
    { p.2 with us := { p.2.us with seqUq := d.us.seqUq ++ [p.1] } }

/-- A message pushed into Docent's upstream queue; the full queue discards it (R138). -/
def Dev.pushDoc (d : Dev) (m : UpMsg) : Dev :=
  if d.us.docUq.length ≥ 16 then d.count F.MBX_FW_STAT_UQ_DROP
  else
    let p := d.pushed m
    { p.2 with us := { p.2.us with docUq := d.us.docUq ++ [p.1] } }

/-- A new message takes the next USEQ (R141). -/
def Dev.newMsg (d : Dev) (utype mseq status : Nat) : UpMsg × Dev :=
  ({ utype := utype, mseq := mseq, useq := d.us.useq, status := status },
   { d with us := { d.us with useq := (d.us.useq + 1) % 256 } })

/-- Words 2 to 6 of a message: EQD of a RANGE_RESP, PSEQ of an SN_RESP, WKEY of a KEY_REPORT (R141). -/
def UpMsg.body (m : UpMsg) (eqd pseq : Nat) : List Word :=
  if m.utype == 4 then (List.range 5).map (fun i => BitVec.ofNat 64 (bits m.wkey (256 - 64 * i) 64))
  else
    [BitVec.ofNat 64 (if m.utype == 2 then eqd % 2 ^ 26 else if m.utype == 1 then pseq % 256 * 2 ^ 26 else 0), 0, 0, 0, 0]

/-- Words 0 to 6 with UCRC in word 7 (R141, R529). -/
def withUcrc (ws : List Word) : List Word := ws ++ [BitVec.ofNat 64 (crc32Words ws * 2 ^ 32)]

/-- The idle message. -/
def idleMsg : List Word := withUcrc [0, 0, 0, 0, 0, 0, 0]

/-- The words of a message as it is sent (R141). -/
def Dev.msgWords (d : Dev) (m : UpMsg) (eqd : Nat) : List Word :=
  let tid := if d.b F.TST_ID_VALID then d.f F.TST_ID_TID else 0
  let w0 := pk [(m.utype, 56), (tid, 46), (m.mseq % 256, 38), (m.useq % 256, 30),
    (if m.utype == 3 then m.status % 16 else 0, 26), (if m.utype == 4 then m.slot % 4 else 0, 24)]
  withUcrc ([w0, BitVec.ofNat 64 (d.f F.TST_SERIAL_SN)] ++ m.body eqd (d.f F.TUS_SEQSEL_PSEQ))

/-! Pages. -/

/-- GUARD as it acts: at least 128. -/
def UsProf.g (p : UsProf) : Nat := max 128 p.guard

/-- Slots before the content region (R106). -/
def UsProf.lead (p : UsProf) : Nat := p.g + p.preLen + 12

/-- The active profile bank. -/
def Dev.profBank (d : Dev) : List UsProf :=
  (List.range 4).map (fun p =>
    { guard := d.f F.TUS_PROF_CFG_GUARD p, preLen := d.f F.TUS_PROF_CFG_PRE_LEN p, prePat := d.f F.TUS_PROF_CFG_PRE_PAT p
      delim := d.f F.TUS_PROF_DLM_HI_DLM_HI p * 2 ^ 64 + d.f F.TUS_PROF_DLM_LO_DLM_LO p })

/-- A page's profile. -/
def UsPage.profile (g : UsPage) (p : Nat) : UsProf := g.prof.getD p ⟨128, 256, 0x55555555, 0⟩

/-- O(N) in 10 ps: the reference instant, 35 µs, EQD less RT_TRIM (R104). -/
def Dev.originNow (d : Dev) : Int := d.us.lineRef + 3500000 + d.f F.TUS_TIMING_EQD - d.z F.TUS_TIMING_RT_TRIM

/-- The page is emptied: its entries hold zeros. -/
def Dev.gtClear (d : Dev) (g : Nat) : Dev :=
  let off := 0x54000 + 0x400 * g
  { d with regs := d.regs.filter (fun (x : Nat × Nat) => decide (x.1 / 64 < off) || decide (off + 0x400 ≤ x.1 / 64)) }

/-- The page of the present frame latches what is active at its TICK (R99). It is empty until its grants are filed, and stays so without a
valid header (R76, R98). -/
def Dev.usLatch (d : Dev) : Dev :=
  let p : UsPage :=
    { sfc := d.clk.sfc, eqd := d.f F.TUS_TIMING_EQD, gate := d.f F.TUS_CTL_GATE, prof := d.profBank
      pseq := d.f F.TUS_SEQSEL_PSEQ, ksel := d.f F.TUS_SEQSEL_KSEL, dly := d.f F.TUS_DISC_DLY
      low := d.f F.PWR_POND_LVL_STATE != 0, shed := d.f F.PWR_POND_LVL_STATE == 2, origin := d.originNow }
  { d.gtClear (d.clk.sfc % 8) with us := { d.us with page := d.clk.sfc % 8, pages := d.us.pages.put (d.clk.sfc % 8) p } }

/-- The page of the present frame: that of its TICK's count, also where its header has corrected the count since (R38, R98, R99). -/
def Dev.pageNow (d : Dev) : Option UsPage := d.us.pages.look d.us.page

/-- The US_DATA index of the bit at a line time: 511 falls by one each bit (R104, R105). -/
def Dev.usIndex (d : Dev) (t : Int) : Nat := 511 - ((t + d.us.phase) % 512).toNat

/-! Grants (R95 to R98). -/

/-- A grant of the map, and the allocation entry it matches (3FFh for discovery). -/
structure Grant where
  start : Nat
  len : Nat
  entry : Nat
  rpt : Bool
  prof : Nat
  fec : Bool
  msg : Bool
  deriving DecidableEq, Repr

def grantAlloc (w : Word) : Nat := bits w.toNat 50 14

/-- The entry a grant matches (R96, R97). -/
def Dev.grantEntry (d : Dev) (w : Word) : Option Nat :=
  let a := grantAlloc w
  if a == 0x3FFF then some 0x3FF
  else if d.b F.TST_ID_VALID && d.f F.TST_ID_TID == a then some 0
  else ((d.listed F.TUS_ALLOC_VALID).find? (fun p => p.1 != 0 && p.2 == 1 && d.f F.TUS_ALLOC_ALLOC_ID p.1 == a)).map (·.1)

def Grant.ofWord (w : Word) (entry : Nat) : Grant :=
  let n := w.toNat
  { start := bits n 31 19, len := bits n 12 19, entry := entry, rpt := bit n 11, prof := bits n 9 2, fec := bit n 8, msg := bit n 7 }

/-- The own grants of a map, in map order (R97). -/
def Dev.ownGrants (d : Dev) (ws : List Word) : List Grant :=
  ws.filterMap (fun w => (d.grantEntry w).map (Grant.ofWord w))

/-- A filed grant's table entry. -/
def Dev.gtPut (d : Dev) (g e : Nat) (x : Grant) (status : Nat) : Dev :=
  ((((((((d.setIJ F.TUS_GT_START g e x.start).setIJ F.TUS_GT_LEN g e x.len).setIJ F.TUS_GT_ENTRY g e x.entry).setIJ
    F.TUS_GT_RPT g e (b2n x.rpt)).setIJ F.TUS_GT_PROF g e x.prof).setIJ F.TUS_GT_FEC g e (b2n x.fec)).setIJ
    F.TUS_GT_MSG g e (b2n x.msg)).setIJ F.TUS_GT_STATUS g e status)

/-- The grant in a table entry. -/
def Dev.gtAt (d : Dev) (g e : Nat) : Grant :=
  { start := d.f F.TUS_GT_START g e, len := d.f F.TUS_GT_LEN g e, entry := d.f F.TUS_GT_ENTRY g e
    rpt := d.f F.TUS_GT_RPT g e == 1, prof := d.f F.TUS_GT_PROF g e, fec := d.f F.TUS_GT_FEC g e == 1
    msg := d.f F.TUS_GT_MSG g e == 1 }

/-! Discovery (R142). -/

/-- n steps of the discovery generator: the output bits, first highest, and the register (R530). -/
def lfsrBits (s : Nat) : Nat → Nat × Nat
  | 0 => (0, s)
  | n + 1 =>
    let r := lfsrBits s n
    (r.1 * 2 + b2n (bit r.2 31), trcStep r.2)

/-- Slots of a discovery or ranging burst (R106, R142). -/
def shortBurst (p : UsProf) (fec : Bool) : Nat := p.lead + (if fec then 112 else 16)

/-- DLY for a discovery grant, drawn from the generator (R142). -/
def Dev.drawDelay (d : Dev) (g : UsPage) (x : Grant) : Nat × Dev :=
  let need := shortBurst (g.profile x.prof) x.fec
  let m := if x.len < need then 1 else min (2 ^ d.term.dspread) (x.len - need + 1)
  let r := lfsrBits d.term.lfsr 19
  let v := r.1 % m
  (v, { d with term := { d.term with lfsr := r.2 } }.set F.TUS_DISC_DLY v)

/-- In SERIAL only the first discovery grant is filed (R142). -/
def discOnce : Bool → List Grant → List Grant × Nat
  | _, [] => ([], 0)
  | seen, x :: t =>
    if x.entry == 0x3FF && seen then let r := discOnce seen t; (r.1, r.2 + 1)
    else let r := discOnce (seen || x.entry == 0x3FF) t; (x :: r.1, r.2)

/-- One SN_RESP is queued for a filed discovery grant, unless one is queued already (R142). -/
def Dev.queueSnResp (d : Dev) : Dev :=
  if d.us.seqUq.any (fun m => m.utype == 1) then d
  else
    let r := d.newMsg 1 0 0
    r.2.pushSeq r.1

/-! The checks (R101 to R103). -/

/-- The gate admits a grant (R101). -/
def gateAdmits (gate entry : Nat) : Bool :=
  match gate with
  | 1 => entry == 0x3FF
  | 2 => entry == 0
  | 3 => entry != 0x3FF
  | _ => false

/-- A grant is discarded: its reason is written and counted, and GRANT_DISCARD raised once per tick (R102). -/
def Dev.discard (d : Dev) (g e status : Nat) (cnt : Fld) : Dev :=
  let d := (d.setIJ F.TUS_GT_STATUS g e status).count cnt
  if d.us.discardRaised then d else { d.raise 1184 with us := { (d.raise 1184).us with discardRaised := true } }

/-- Line time of slot s of a page's frame (R104). -/
def UsPage.slotTime (p : UsPage) (s : Nat) : Int := p.origin + 32 * s

/-- The running result of the checks of one page: accepted grants' end in START order, the burst being formed, and the
finished ones. -/
structure Forming where
  taken : Nat := 0
  cur : Option Burst := none
  done : List Burst := []

/-- Burst formed of one grant, or none where check 5 fails: a discovery or ranging burst ends after its message (R103, R106). -/
def UsPage.newBurst (p : UsPage) (id g e : Nat) (x : Grant) : Option Burst :=
  let pr := p.profile x.prof
  let disc := x.entry == 0x3FF
  let ranging := p.gate == 2
  let first := if disc then x.start + p.dly else x.start
  let slots := if disc || ranging then shortBurst pr x.fec else x.len
  if x.len < pr.lead || (first - x.start) + slots > x.len then none
  else some { id := id, page := g, grants := [e], first := first, slots := slots, start := p.slotTime first
              stop := p.slotTime (first + slots), disc := disc, ranging := ranging, fec := x.fec, prof := x.prof }

/-- The grant at e continues the burst being formed, whose last grant is `y` (R103). -/
def continues (b : Burst) (y x : Grant) : Bool :=
  x.start == y.start + y.len && x.prof == y.prof && x.fec == y.fec && !b.disc && !b.ranging && x.entry != 0x3FF

/-- End of the last burst of any earlier page (R102). -/
def Dev.earlierEnd (d : Dev) (g : Nat) : Option Int :=
  ((d.us.bursts.filter (fun b => b.page != g)).map (·.stop)).foldl
    (fun a t => some (match a with | some u => max u t | none => t)) d.us.lastEnd

/-- One grant, in START order, through the checks (R102, R103). `ready` is PAGE_READY in line time. -/
def Dev.checkGrant (p : UsPage) (g : Nat) (ready : Int) (r : Dev × Forming) (e : Nat) : Dev × Forming :=
  let d := r.1
  let fm := r.2
  let x := d.gtAt g e
  if !gateAdmits p.gate x.entry then (d.discard g e 4 F.TUS_CNT_FILL_GATED, fm)
  else if x.len < 1 || x.start + x.len > 390625 then (d.discard g e 5 F.TUS_CNT_DISC_RANGE, fm)
  else if p.gate == 3 && d.f F.TDS_HDR_PSEQ != p.pseq then (d.discard g e 6 F.TUS_CNT_DISC_PSEQ, fm)
  else if x.start < fm.taken || (match d.earlierEnd g with | some t => p.slotTime x.start < t | none => false) then
    (d.discard g e 7 F.TUS_CNT_DISC_OVERLAP, fm)
  else
    let join := match fm.cur with
      | some b => continues b (d.gtAt g (b.grants.getLastD 0)) x
      | none => false
    if join then
      (d.setIJ F.TUS_GT_STATUS g e 1,
       { fm with taken := x.start + x.len
                 cur := fm.cur.map (fun b => { b with grants := b.grants ++ [e], slots := b.slots + x.len
                                                      stop := p.slotTime (x.start + x.len) }) })
    else
      match p.newBurst (d.us.nextId + fm.done.length + fm.cur.toList.length) g e x with
      | none => (d.discard g e 8 F.TUS_CNT_DISC_SHORT, fm)
      | some b =>
        if b.start < ready + 800000 then (d.discard g e 9 F.TUS_CNT_DISC2_LATE, fm)
        else
          (d.setIJ F.TUS_GT_STATUS g e 1,
           { taken := x.start + x.len, cur := some b, done := fm.done ++ fm.cur.toList })

/-- Insert an index by START, behind equal ones. -/
def startInsert (start : Nat → Nat) (e : Nat) : List Nat → List Nat
  | [] => [e]
  | a :: t => if start a ≤ start e then a :: startInsert start e t else e :: a :: t

/-- Bursts in order of their first slots. -/
def burstInsert (b : Burst) : List Burst → List Burst
  | [] => [b]
  | a :: t => if a.start ≤ b.start then a :: burstInsert b t else b :: a :: t

/-- The ideal tick instant of this frame in line time, with the lag of the TICK edge (R30, R104); the lag counts 2^-12 ns. -/
def Dev.tickLine (d : Dev) : Int := d.us.lineRef + 160000 + (d.f F.CKX_TICK_STAT_LAG * 100 / 4096 : Nat)

/-- The grants of a valid header are filed and checked, and the page becomes ready `t` units of 10 ps after TICK (R98,
R101 to R103, R142). -/
def Dev.fileGrants (d : Dev) (t : Nat) : Dev :=
  match d.pageNow with
  | none => d
  | some p =>
    let g := d.us.page
    let own := d.ownGrants d.ds.grants
    let sel := if d.f F.TST_STATE_STATE == 2 then discOnce false own else (own, 0)
    let d := d.countN F.TST_CNT2_DISC_EXTRA sel.2
    let filed := sel.1.take 128
    let d := d.countN F.TUS_CNT_DISC2_TABLE_FULL (sel.1.length - filed.length)
    let discs := if d.f F.TST_STATE_STATE == 2 then filed.find? (fun x => x.entry == 0x3FF) else none
    let r := match discs with
      | some x => let r := d.drawDelay p x; ({ p with dly := r.1 }, r.2.queueSnResp)
      | none => (p, d)
    let p := { r.1 with ready := true }
    let d := (filed.zipIdx).foldl (fun d x => d.gtPut g x.2 x.1 1) (r.2.gtClear g)
    let order := (List.range filed.length).foldl (fun o e => startInsert (fun k => (filed.getD k ⟨0, 0, 0, false, 0, false, false⟩).start) e o) []
    let r := order.foldl (Dev.checkGrant p g (d.tickLine + t)) (d, {})
    let bs := r.2.done ++ r.2.cur.toList
    let d := r.1
    let d := { d with
      us := { d.us with
        pages := d.us.pages.put g p
        bursts := bs.foldl (fun l b => burstInsert b l) d.us.bursts
        nextId := d.us.nextId + bs.length }
      clk := { d.clk with usBlocked := d.clk.usBlocked && bit d.clk.stopped 3 }
      ds := { d.ds with hdrFresh := false } }
    (((((d.set F.TUS_PAGE_STAT_PAGE g).set F.TUS_PAGE_STAT_OWN (filed.length % 128)).set F.TUS_PAGE_STAT_FULL
      (b2n (filed.length == 128))).set F.TUS_PAGE_STAT_ORIGIN_POS (d.usIndex p.origin)).set F.TUS_PAGE_STAT_READY
      (t / 2000)).set F.TUS_PAGE_STAT_SFC_LOW p.sfc

/-! Assembly (R108, R111 to R119). -/

/-- C(w) of R108 for a region of F wire slots. -/
def infoSlots (fec : Bool) (total w : Nat) : Nat :=
  if !fec then w
  else
    let full := total / 576
    let r := total % 576
    if w ≤ 576 * full then 480 * (w / 576) + min (w % 576) 480
    else if r ≤ 96 then 480 * full
    else 480 * full + min (w - 576 * full) (r - 96)

/-- The key slot of a page is usable (R118). -/
def Dev.kselValid (d : Dev) (k : Nat) : Bool :=
  (k == 1 && d.b F.TDS_KEYSTAT_SLOT1_VALID) || (k == 2 && d.b F.TDS_KEYSTAT_SLOT2_VALID) || (k == 3 && d.b F.TDS_KEYSTAT_SLOT3_VALID)

/-- The upstream IV of R118. -/
def gcmIvUp (sfc start ofs : Nat) : Nat := (((sfc % 2 ^ 51) * 2 ^ 19 + start) * 2 ^ 21 + ofs) * 2 ^ 5 + 16

/-- The fields of an encapsulation header with its check bits (R81, R82). -/
def encapHdr (plen ftag kidx : Nat) (lf : Bool) : Nat :=
  bchEncode ((plen * 2 ^ 50 + ftag * 2 ^ 34 + kidx * 2 ^ 32 + b2n lf * 2 ^ 31) / 2 ^ 26)

/-- The idle header (R82). -/
def idleHdr : List Byte := beBytes 8 (encapHdr 0 0 0 true)

/-- Idle fill of n octets (R117). -/
def idleFill : Nat → List Byte
  | n => (List.replicate (n / 8) idleHdr).flatten ++ List.replicate (n % 8) 0

/-- What stays the same while a share is filled: its entry, whether it is encrypted, KIDX and key, and what the IV takes from
the page and the burst. -/
structure ShareEnv where
  entry : Nat
  enc : Bool
  kidx : Nat
  key : Nat
  sfc : Nat
  start : Nat

/-- Octets of header and tag. -/
def ShareEnv.over (v : ShareEnv) : Nat := if v.enc then 16 else 8

/-- Encapsulate and encrypt octets that stand at offset `ofs` of the information stream (R81, R115, R118). -/
def ShareEnv.encap (v : ShareEnv) (ofs ftag : Nat) (lf : Bool) (data : List Byte) : List Byte :=
  if !v.enc then beBytes 8 (encapHdr data.length ftag 0 lf) ++ data
  else
    let hdr := beBytes 8 (encapHdr (data.length + 8) ftag v.kidx lf)
    let iv := gcmIvUp v.sfc v.start ofs
    let ct := gcmCrypt v.key iv data
    hdr ++ ct ++ beBytes 8 (gcmTag v.key iv hdr ct)

/-- The faults that pieces meet, in order: an uncorrectable cell discards the frame being placed (R491). -/
structure Fill where
  dev : Dev
  out : List Byte
  pieces : Nat
  cells : List Nat
  parity : Bool

/-- Beats that octets [k, k + n) of a frame add to those before them: the frame's own octets, its FCS among them where it came with one,
take ceil(L / 128) beats whatever pieces they are placed in (R18). -/
def Frame.pieceBeats (f : Frame) (k n : Nat) (lf : Bool) : Nat :=
  (if lf then beats f.len else min (beats (k + n)) (beats f.len)) - beats k

/-- What a placed piece of n octets and nb beats entails: counters, the Vitrine's tap, activity, the context's charge (R119, R227, R237, R378). -/
def Dev.placed (d : Dev) (v : ShareEnv) (c n nb : Nat) (first lf parity : Bool) : Dev :=
  let d := (d.charge c n first).countN F.TUS_CNT_OCT_OCTETS n
  let d := if lf then d.count F.TUS_CNT_FRM_FRAMES else d
  let d := d.vitUs c v.entry v.enc n lf parity
  let d := ((d.bufRead nb (d.f F.QSC_FC_CFG_PRIO c)).pathBeats 3 nb).meter 9 n
  if v.enc then d.act 3 (ceilDiv n 16) else d

/-- Place octets [k, k + n) of a frame of context c, the whole rest of it when `lf`. -/
def Fill.place (x : Fill) (v : ShareEnv) (base c : Nat) (f : Frame) (k n : Nat) (lf : Bool) : Fill :=
  let d := x.dev
  let r := if k == 0 then d.leave f else (f.upstream, d)
  let d := if k == 0 then r.2.trcNote f (fun t => { t with leave := d.cycle }) else r.2
  let cx := d.ctx c
  let d := d.ctxPut c (if lf then { cx with rem := none } else { cx with rem := some ⟨f, k + n, v.entry⟩ })
  let d := d.placed v c n (f.pieceBeats k n lf) (k == 0) lf x.parity
  { dev := if lf then d.trcClose f 1 else d
    out := x.out ++ v.encap (base + x.out.length) (d.f F.QSC_FC_CFG_FTAG c) lf (((f.upstream).drop k).take n)
    pieces := x.pieces + 1, cells := x.cells, parity := false }

/-- A frame whose cell is uncorrectable is discarded at assembly (R491). -/
def Fill.lose (x : Fill) (c : Nat) (f : Frame) (loc : Nat) (rest : List Nat) : Fill :=
  let cx := x.dev.ctx c
  { x with dev := ((x.dev.ctxPut c { cx with rem := none }).bufDrop loc).trcClose f 9, cells := rest }

/-- The head frame of context c leaves its queue, to be placed at once: AGEs and round pointers follow when it has been. -/
def Dev.ctxPop (d : Dev) (c : Nat) : Dev :=
  { d with qsc := { d.qsc with ctx := SMap.store {} c { d.ctx c with frames := (d.ctx c).frames.drop 1 } d.qsc.ctx } }

/-- The frames of a share's payload, after its remainder (R115, R234); `room` is the size of the payload. -/
def Fill.frames (v : ShareEnv) (base size : Nat) : Nat → Fill → Fill
  | 0, x => x
  | fuel + 1, x =>
    match (if x.out.length < size then x.dev.select v.entry else none) with
    | none => x
    | some (c, d) =>
      match (d.ctx c).frames with
      | [] => x
      | f :: _ =>
        match x.cells with
        | loc :: rest => Fill.frames v base size fuel ({ x with dev := d.ctxPop c }.lose c f loc rest)
        | [] =>
          let room := size - x.out.length
          let n := f.upstream.length
          if n + v.over ≤ room then Fill.frames v base size fuel ({ x with dev := d.ctxPop c }.place v base c f 0 n true)
          else if room ≥ v.over + 64 then { x with dev := d.ctxPop c }.place v base c f 0 (room - v.over) false
          else { x with dev := d }

/-- The remainder pending under the entry opens the share (R116); it is fragmented again if it does not fit, where room for a
fragment is left. The flag tells whether further frames may follow. -/
def Fill.opening (v : ShareEnv) (base size : Nat) (x : Fill) : Fill × Bool :=
  match x.dev.remainderOf v.entry with
  | none => (x, true)
  | some (c, r) =>
    match x.cells with
    | loc :: rest => (x.lose c r.frame loc rest, true)
    | [] =>
      let n := r.frame.upstream.length - r.done
      if n + v.over ≤ size then (x.place v base c r.frame r.done n true, true)
      else if size ≥ v.over + 64 then (x.place v base c r.frame r.done (size - v.over) false, false)
      else (x, false)

/-- The payload of a share of `size` octets that begins at octet `base` of the stream (R234, R117): idle fill alone for an entry that is no
longer valid (R223). -/
def Fill.payload (v : ShareEnv) (base size : Nat) (x : Fill) : Fill :=
  let open' := x.dev.allocValid v.entry
  let r := if open' then Fill.opening v base size { x with out := [] } else ({ x with out := [] }, false)
  let y := if r.2 then Fill.frames v base size (size + 1) r.1 else r.1
  { y with out := x.out ++ y.out ++ idleFill (size - y.out.length) }

/-- Frames that contribute to an entry's backlog: those of its contexts, and its remainder (R113). -/
def Dev.backlogFrames (d : Dev) (e : Nat) : Nat :=
  (d.qsc.ctx.map (fun p =>
    (if d.ctxEntry p.1 == e then
      p.2.frames.length + p.2.spilled.length + (match p.2.fetch with | some (_, false) => 1 | _ => 0) else 0) +
    (match p.2.rem with | some r => b2n (r.entry == e) | none => 0))).foldl (· + ·) 0

/-- Some enabled context names entry e, one whose remainder is placed under e among them (R223, R226). -/
def Dev.entryNamed (d : Dev) (e : Nat) : Bool :=
  (d.listed F.QSC_FC_CFG_EN).any (fun p => d.ctxEntry p.1 == e || (match (d.ctx p.1).rem with | some r => r.entry == e | none => false))

/-- DEPTH of an entry before saturation (R113): 0 for one that no enabled context names or that is not valid (R223). -/
def Dev.depth (d : Dev) (e : Nat) : Nat :=
  if !d.entryNamed e || !d.allocValid e then 0 else ceilDiv (d.backlog e + d.backlogFrames e * (if d.b F.TUS_ALLOC_ENC e then 16 else 8)) 256

/-- Context c holds frames in host memory (R112). DEDUCED: a record that is being fetched is still held there until it arrives (log entry
35). -/
def FlowCtx.inHost (x : FlowCtx) : Bool := !x.spilled.isEmpty || (match x.fetch with | some (_, dead) => !dead | none => false)

/-- The demand report of an entry (R112, R113, R235). -/
def Dev.report (d : Dev) (p : UsPage) (e : Nat) : Nat :=
  let full := d.depth e
  let depth := min full 0xFFFFFF
  let deferred := d.b F.TUS_ALLOC_DEFER e && p.low
  let k := max 1 (min 16 (d.f F.QSC_RPT_CFG_FACTOR))
  let shown :=
    if !deferred then depth
    else if p.shed || depth == 0 then 0
    else if depth < d.f F.QSC_RPT_CFG_COAL_THR && d.age e < d.f F.QSC_RPT_CFG_DEFER_MAX then 0
    else max 1 (depth * k / 16)
  let spill := d.allocValid e && d.qsc.ctx.any (fun c => d.ctxEntry c.1 == e && c.2.inHost)
  shown * 256 + b2n deferred * 128 + b2n spill * 64 + b2n (full > 0xFFFFFF) * 32

/-- The message for burst `id` (R114): for a ranging burst a queued RANGE_RESP first (R144); else the first message of the
sequencer's queue that no other burst carries, else of Docent's, else the idle message. -/
def Dev.takeMsg (d : Dev) (id eqd : Nat) (ranging : Bool) : List Word × Dev :=
  let free := fun (m : UpMsg) => m.inBurst.isNone
  let mark := fun (x m : UpMsg) => if m.id == x.id then { m with inBurst := some id } else m
  let seq := ((if ranging then d.us.seqUq.find? (fun m => free m && m.utype == 2) else none).orElse
    (fun _ => d.us.seqUq.find? free))
  match seq with
  | some x => (d.msgWords x eqd, { d with us := { d.us with seqUq := d.us.seqUq.map (mark x) } })
  | none =>
    match d.us.docUq.find? free with
    | some x => (d.msgWords x eqd, { d with us := { d.us with docUq := d.us.docUq.map (mark x) } })
    | none => (idleMsg, d)

/-- The octets of message words in transmission order. -/
def msgOctets (ws : List Word) : List Byte := ws.flatMap (fun w => beBytes 8 w.toNat)

/-- One share: information slots [a, b) of grant x (R111 to R118). DESIGN CHOICE: KEY_MISSING counts the shares that the missing key leaves
without payload; a share too short for report and message, and that of a burst that carries a message alone, have none in any case and are
not counted (log entry 28). -/
def Fill.share (p : UsPage) (bst : Burst) (y : Fill) (x : Grant) (a b : Nat) : Fill :=
  let d := y.dev
  let size := 4 * (b - a)
  let solo := bst.disc || bst.ranging
  let rpt := x.rpt && !solo
  let msg := x.msg || solo
  let need := (if rpt then 4 else 0) + (if msg then 64 else 0)
  if size < need then { y with dev := d.count F.TUS_CNT_FILL_SHORT_SHARE, out := y.out ++ List.replicate size 0 }
  else
    let m := if msg then d.takeMsg bst.id p.eqd bst.ranging else ([], d)
    let d := m.2
    let enc := d.b F.TUS_ALLOC_ENC x.entry
    let v : ShareEnv :=
      { entry := x.entry, enc := enc, kidx := p.ksel, key := d.ds.keys.getD (p.ksel - 1) 0, sfc := p.sfc
        start := (d.gtAt bst.page (bst.grants.headD 0)).start }
    let lock := enc && !d.kselValid p.ksel
    let base := y.out.length + need
    let pay := size - need
    let z : Fill := { y with dev := d, out := [] }
    let z :=
      if solo then { z with out := List.replicate pay 0 }
      else if lock then { z with dev := d.count F.TUS_CNT_FILL_KEY_MISSING, out := idleFill pay }
      else Fill.payload v base pay z
    let rep := if rpt then beBytes 4 (z.dev.report p x.entry) else []
    { z with out := y.out ++ rep ++ msgOctets m.1 ++ z.out }

/-- Region slots up to the end of a grant (R108). -/
def regionEnd (p : UsPage) (bst : Burst) (x : Grant) : Nat :=
  min (x.start + x.len) (bst.first + bst.slots) - (bst.first + (p.profile bst.prof).lead)

/-- Every share of a burst, in START order. -/
def Fill.shares (p : UsPage) (bst : Burst) (total : Nat) : Nat → List Nat → Fill → Fill
  | _, [], y => y
  | w, e :: t, y =>
    let x := y.dev.gtAt bst.page e
    let w2 := regionEnd p bst x
    Fill.shares p bst total w2 t (Fill.share p bst y x (infoSlots bst.fec total w) (infoSlots bst.fec total w2))

/-- Codewords of a region of `total` wire slots (R108, R109). -/
def regionWords (total : Nat) : Nat := total / 576 + b2n (total % 576 > 96)

/-- Replace a burst. -/
def Dev.burstPut (d : Dev) (b : Burst) : Dev :=
  { d with us := { d.us with bursts := d.us.bursts.map (fun x => if x.id == b.id then b else x) } }

/-- The next waiting burst is assembled (R119). -/
def Dev.burstAssemble (d : Dev) (up : List Upset) : Dev :=
  if !d.on 9 then d
  else
    match d.us.bursts.find? (fun b => b.st == .waiting) with
    | none => d
    | some b =>
      match d.us.pages.look b.page with
      | none => d
      | some p =>
        let d := d.containAll up
        let total := b.slots - (p.profile b.prof).lead
        let cells := up.filterMap (fun u => match u with | .bufferCell loc => some loc | _ => none)
        let y := Fill.shares p b total 0 b.grants ⟨d, [], 0, cells, up.contains .obsParity⟩
        let d := if b.fec then y.dev.act 2 (regionWords total) else y.dev
        d.burstPut { b with st := .assembled, stream := y.out, pieces := y.pieces, sleepReq := d.b F.TST_SLEEP_REQ }

def execBurstAssembly (up : List Upset) (s : State) : Host.Outcome State Fault Refusal :=
  s.run (fun d => d.burstAssemble up)

/-! The line (R106 to R110, R121). -/

/-- Both words of the burst header, HCRC included (R107). -/
def Dev.burstHdr (d : Dev) (p : UsPage) (b : Burst) : Nat :=
  let w0 := pk [(if b.disc then 0 else d.f F.TST_ID_TID, 54), (b.prof, 52), (p.pseq, 44), (b2n b.fec, 43), (p.sfc % 256, 35),
    (b2n d.us.txf, 34), (b2n p.low, 33), (b2n b.sleepReq, 32), (d.f F.TUS_STAT_BSEQ, 11), (b2n b.disc, 10)]
  let w1 := pk [(b.grants.length % 128, 56), (b.slots, 37)]
  let v := w0.toNat * 2 ^ 64 + w1.toNat
  v + crcRun 16 0x1021 0xFFFF (bitsMsb 112 (v / 2 ^ 16))

/-- One codeword of the region: k information slots, shortened (R109). -/
def regionWord (info : List Byte) : List Bool :=
  let k := info.length
  let v : BitVec 15360 := BitVec.ofNat 15360 (ofBe info * 2 ^ (15360 - 8 * k))
  octetBits info ++ bitsMsb 3072 (ldpcEncode v).toNat

/-- The unscrambled content region of r wire slots from its information octets (R108, R109). -/
def regionBits (fec : Bool) : Nat → Nat → List Byte → List Bool
  | 0, _, _ => []
  | fuel + 1, r, info =>
    if !fec then octetBits info
    else if r ≥ 576 then regionWord (info.take 1920) ++ regionBits fec fuel (r - 576) (info.drop 1920)
    else if r > 96 then regionWord (info.take (4 * (r - 96)))
    else List.replicate (32 * r) false

/-- The scrambler of R110: the state holds s(n − 1) lowest. -/
def scramble : List Bool → Nat → List Bool
  | [], _ => []
  | b :: t, s =>
    let o := (b != bit s 38) != bit s 57
    o :: scramble t ((s * 2 + b2n o) % 2 ^ 58)

/-- The bits of a burst from its first preamble bit (R106, R110). -/
def UsPage.burstBits (p : UsPage) (b : Burst) : List Bool :=
  let pr := p.profile b.prof
  let r := b.slots - pr.lead
  (List.replicate pr.preLen (bitsMsb 32 pr.prePat)).flatten ++ bitsMsb 128 pr.delim ++ bitsMsb 128 b.hdr ++ bitsMsb 128 b.hdr ++
    scramble (regionBits b.fec (r / 576 + 1) r b.stream) (2 ^ 58 - 1)

/-- US_DATA words that hold bits of a burst. -/
def Dev.usWords (d : Dev) (a z : Int) : Nat := ((z - 1 + d.us.phase) / 512 - (a + d.us.phase) / 512 + 1).toNat

/-- The grants of a burst take a status. -/
def Dev.burstStatus (d : Dev) (b : Burst) (status : Nat) : Dev :=
  b.grants.foldl (fun d e => d.setIJ F.TUS_GT_STATUS b.page e status) d

/-- Messages of a burst stay at their places in the queues, free for another burst (R114). -/
def Dev.msgsBack (d : Dev) (id : Nat) : Dev :=
  let back := fun (m : UpMsg) => if m.inBurst == some id then { m with inBurst := none } else m
  { d with us := { d.us with seqUq := d.us.seqUq.map back, docUq := d.us.docUq.map back } }

/-- Messages of a burst that ended normally leave their queues (R114). -/
def Dev.msgsLeave (d : Dev) (id : Nat) : Dev :=
  { d with us := { d.us with seqUq := d.us.seqUq.filter (fun m => m.inBurst != some id)
                             docUq := d.us.docUq.filter (fun m => m.inBurst != some id) } }

/-- A burst leaves the list; the end of a burst that was not purged still bounds later pages (R102). -/
def Dev.burstGone (d : Dev) (b : Burst) (keepEnd : Bool) : Dev :=
  let le := match d.us.lastEnd with | some t => max t b.stop | none => b.stop
  { d with us := { d.us with bursts := d.us.bursts.filter (fun x => x.id != b.id)
                             lastEnd := if keepEnd then some le else d.us.lastEnd } }

/-- The position of a transition at a word's first bit (R121 to R124). -/
def wordStart : Nat := 511

/-- TX_EN is low, from a position on. -/
def Dev.txOff (d : Dev) (pos : Nat) : Dev :=
  if !d.b F.TUS_STAT_TX_EN then d
  else
    let d := (d.set F.TUS_STAT_TX_EN 0).set F.TUS_STAT_TX_SD 0
    { d with pins := { d.pins with txEnPos := pos }, us := { d.us with rogueRaised := false, line := [], phyHold := false } }

/-- The US_DATA words of a burst, from its first preamble bit on. -/
def Dev.burstWords (d : Dev) (b : Burst) : Nat :=
  match d.us.pages.look b.page with
  | some p => d.usWords (b.start + 32 * (p.profile b.prof).g) b.stop
  | none => 0

/-- A burst on the line is cut: of its US_DATA words, some have gone out with US_VALID high (event 15 of R237); how many, the spec leaves to
the instant, and is a free value. -/
def Dev.burstCut (d : Dev) (b : Burst) : Dev :=
  let r := d.draw
  ((r.2.act 15 (r.1 % (d.burstWords b + 1))).set F.TUS_STAT_BURST 0).txOff wordStart

/-- A burst is aborted: its frames and fragments are discarded and counted, its messages stay (R114, R120). -/
def Dev.burstAbort (d : Dev) (b : Burst) : Dev :=
  let d := if b.st == .onAir then d.burstCut b else d
  let d := ((d.burstStatus b 3).msgsBack b.id).burstGone b true
  ((d.countN F.TUS_CNT_FILL_ABORT_FRAMES b.pieces).count F.TUS_CNT_DISC2_ABORTED).raise 1185

/-- The burst on the line, if any. -/
def Dev.onAir (d : Dev) : Option Burst := d.us.bursts.find? (fun b => b.st == .onAir)

/-- TX_EN falls and the burst in progress is aborted (R122 to R124, R494). -/
def Dev.txKill (d : Dev) : Dev :=
  let d := match d.onAir with | some b => d.burstAbort b | none => d
  d.txOff wordStart

/-- A purge (R124): the burst in progress is aborted, every accepted grant not yet transmitted is marked and counted; frames
assembled for them are discarded, and count as those of an abort do (R120). -/
def Dev.purge (d : Dev) : Dev :=
  let d := d.txKill
  let d := d.us.bursts.foldl (fun d b =>
    (((d.burstStatus b 10).countN F.TUS_CNT_DISC2_PURGED b.grants.length).countN F.TUS_CNT_FILL_ABORT_FRAMES
      b.pieces).msgsBack b.id) d
  { d with us := { d.us with bursts := [], lastEnd := none, phyHold := false } }

/-- TX_EN may rise (R39, R53, R122, R123, R494). -/
def Dev.mayTransmit (d : Dev) (b : Burst) : Bool :=
  d.xUp 1 &&
  d.on 9 && !d.us.holdover && !d.b F.TUS_CTL_TX_INHIBIT && !d.b F.TUS_STAT_TX_FAULT && !d.b F.TUS_STAT_FAULT_HOLD && !b.dead &&
  !d.clk.usBlocked && !bit d.clk.stopped 3

/-- The instant TX_EN rises for a burst: LEAD before its first preamble bit (R121). -/
def Dev.riseTime (d : Dev) (p : UsPage) (b : Burst) : Int := b.start + 32 * (p.profile b.prof).g - d.f F.TUS_TXEN_LEAD

/-- The next assembled burst falls due: TX_EN rises and it is transmitted, or it is aborted (R107, R120 to R123). -/
def Dev.burstStart (d : Dev) : Dev :=
  match d.us.bursts.find? (fun b => b.st == .assembled) with
  | none => d
  | some b =>
    match d.us.pages.look b.page with
    | none => d
    | some p =>
      if d.onAir.isSome then d
      else if !d.mayTransmit b then d.burstAbort b
      else
        let b := { b with st := .onAir, hdr := d.burstHdr p b }
        let rise := d.riseTime p b
        let pos := if d.b F.TUS_STAT_TX_EN then d.pins.txEnPos else d.usIndex rise
        let d := d.burstPut b
        let d := (((d.set F.TUS_STAT_BURST 1).set F.TUS_STAT_TX_EN 1).set F.TUS_STAT_TX_SD 1).set F.TUS_STAT_BSEQ
          (d.f F.TUS_STAT_BSEQ + 1)
        { d with pins := { d.pins with txEnPos := pos }
                 us := { d.us with txf := false, darkRaised := false, autoSleep := false, line := p.burstBits b } }

def execBurstStart (s : State) : Host.Outcome State Fault Refusal := s.run Dev.burstStart

/-- The burst on the line ends normally (R114, R121, R157, R237); TX_EN stays high where the next burst's rise is not later. -/
def Dev.burstEnd (d : Dev) : Dev :=
  match d.onAir with
  | none => d
  | some b =>
    let fall := b.stop + d.f F.TUS_TXEN_LAG
    let d := (((d.act 15 (d.burstWords b)).burstStatus b 2).msgsLeave b.id).burstGone b true
    let d := ((d.count F.TUS_CNT_BURST_BURSTS).countN F.TUS_CNT_BURST_GRANTS b.grants.length).set F.TUS_STAT_BURST 0
    let d := if b.sleepReq then { d with term := { d.term with sleepSent := true } } else d
    let next := match d.us.bursts.find? (fun x => x.st == .assembled) with
      | some x => (match d.us.pages.look x.page with | some p => d.riseTime p x ≤ fall && d.mayTransmit x | none => false)
      | none => false
    if next then { d with us := { d.us with line := [] } } else d.txOff (d.usIndex fall)

def execBurstEnd (s : State) : Host.Outcome State Fault Refusal := s.run Dev.burstEnd

/-! TX_FAULT, inhibit, gate (R122 to R124). -/

/-- TX_FAULT asserts (R122). -/
def Dev.txFault (d : Dev) : Dev :=
  if d.b F.TUS_STAT_TX_FAULT || !d.on 9 then d
  else
    let d := (((d.set F.TUS_STAT_TX_FAULT 1).set F.TUS_STAT_FAULT_HOLD 1).count F.TUS_CNT_PHY_TX_FAULT).raise 1186
    { d with us := { d.us with txf := true } }.txKill

def execTxFaultAssert (s : State) : Host.Outcome State Fault Refusal := s.run Dev.txFault

/-- The hold ends: bursts assembled before are not sent (R122). -/
def Dev.faultRelease (d : Dev) : Dev :=
  { d.set F.TUS_STAT_FAULT_HOLD 0 with
    us := { d.us with bursts := d.us.bursts.map (fun b => if b.st == .assembled then { b with dead := true } else b) } }

/-- TX_FAULT deasserts (R122). -/
def Dev.txFaultEnd (d : Dev) : Dev :=
  if !d.b F.TUS_STAT_TX_FAULT then d
  else
    let d := d.set F.TUS_STAT_TX_FAULT 0
    if d.b F.TUS_CTL_FAULT_AUTO then d.faultRelease else d

def execTxFaultDeassert (s : State) : Host.Outcome State Fault Refusal := s.run Dev.txFaultEnd

/-- FAULT_CLR: the hold ends once TX_FAULT is low (R122), and a rogue-held PHY_SLEEP once its condition has cleared (R125). -/
def Dev.faultClear (d : Dev) : Dev :=
  let d := if d.b F.TUS_STAT_FAULT_HOLD && !d.b F.TUS_STAT_TX_FAULT then d.faultRelease else d
  if d.us.rogueCond then { d with us := { d.us with rogueClr := d.us.rogueHold } }
  else { d with us := { d.us with rogueHold := false, rogueClr := false } }

/-- TX_INHIBIT takes a value (R123). -/
def Dev.setInhibit (d : Dev) (b : Bool) : Dev :=
  let d := d.setB F.TUS_CTL_TX_INHIBIT b
  if b then d.txKill else d

/-- GATE takes a value; 00b purges (R124). -/
def Dev.setGate (d : Dev) (v : Nat) : Dev :=
  let d := d.set F.TUS_CTL_GATE v
  if v == 0 then d.purge else d

/-- A write of TUS_CTL; GATE and TX_INHIBIT ignore the host (R124). -/
def Dev.writeTusCtl (w : RegWr) (d : Dev) : Dev :=
  let low := w.mask.getLsbD 0
  let d := (d.put F.TUS_CTL_FAULT_AUTO w).put F.TUS_CTL_ROGUE_SLEEP w
  let d := d.put F.TUS_CTL_AUTO_SLEEP w
  let d := if d.b F.TUS_CTL_AUTO_SLEEP then d else { d with us := { d.us with autoSleep := false } }
  let d := if low && !w.agent.isHost then (d.setInhibit (bit w.val 2)).setGate (w.val % 4) else d
  if w.fld F.TUS_CTL_FAULT_CLR == 1 then d.faultClear else d

def execTxInhibitWrite (w : RegWr) (s : State) : Host.Outcome State Fault Refusal :=
  s.run (fun d => if bit w.val 2 then d.gated 0x50000 w (Dev.writeTusCtl w) else d)

def execGateWrite (w : RegWr) (s : State) : Host.Outcome State Fault Refusal :=
  s.run (fun d => d.gated 0x50000 w (Dev.writeTusCtl w))

def execFaultClr (w : RegWr) (s : State) : Host.Outcome State Fault Refusal :=
  s.run (fun d => if bit w.val 4 then d.gated 0x50000 w (Dev.writeTusCtl w) else d)

/-! TX_SD (R125). -/

/-- TX_SD is low `bt` bit times after TX_EN rose. -/
def Dev.txDark (d : Dev) (bt : Nat) : Dev :=
  let d := d.set F.TUS_STAT_TX_SD 0
  if !d.on 9 || !d.b F.TUS_STAT_TX_EN || d.us.darkRaised || bt < d.f F.TUS_TXEN_SD_DLY then d
  else { d.count F.TUS_CNT_PHY_DARK with us := { d.us with darkRaised := true } }.raise 1187

def execTxDark (bt : Nat) (s : State) : Host.Outcome State Fault Refusal := s.run (fun d => d.txDark bt)

/-- TX_SD is high `bt` bit times after TX_EN fell. -/
def Dev.txRogue (d : Dev) (bt : Nat) : Dev :=
  let d := d.set F.TUS_STAT_TX_SD 1
  if !d.on 9 || d.b F.TUS_STAT_TX_EN || bt < d.f F.TUS_TXEN_SD_OFF then d
  else
    let sleep := d.b F.TUS_CTL_ROGUE_SLEEP
    let was := d.us.rogueRaised
    let d := { d with us := { d.us with rogueCond := true, rogueHold := d.us.rogueHold || sleep, rogueRaised := true
                                        rogueClr := if sleep then false else d.us.rogueClr } }
    if was then d else (d.count F.TUS_CNT_PHY_ROGUE).raise 1188

def execTxRogue (bt : Nat) (s : State) : Host.Outcome State Fault Refusal := s.run (fun d => d.txRogue bt)

/-- TX_SD falls while TX_EN is low: the rogue condition ends. -/
def Dev.rogueEnd (d : Dev) : Dev :=
  let d := d.set F.TUS_STAT_TX_SD 0
  { d with us := { d.us with rogueCond := false, rogueHold := d.us.rogueHold && !d.us.rogueClr, rogueClr := false } }

def execRogueConditionClear (s : State) : Host.Outcome State Fault Refusal := s.run Dev.rogueEnd

/-! PHY_SLEEP (R126). -/

/-- PHY_WAKE in 10 ps. -/
def Dev.phyWake (d : Dev) : Int := (d.f F.TUS_TXEN_PHY_WAKE * 100000 : Nat)

/-- At line time t a burst is on the line, or some burst's rise is due within PHY_WAKE (R126). -/
def Dev.phyBurst (d : Dev) (t : Int) : Bool :=
  d.onAir.isSome ||
  d.us.bursts.any (fun b => match d.us.pages.look b.page with | some p => d.riseTime p b ≤ t + d.phyWake | none => false)

/-- At line time t the automatic PHY_SLEEP may not stand: a burst needs the PHY, or the present page may still hold one (R126). -/
def Dev.phyNeeded (d : Dev) (t : Int) : Bool :=
  d.phyBurst t || (match d.pageNow with | some p => !p.ready && p.origin ≤ t + d.phyWake | none => false)

/-- PHY_SLEEP falls due to be released, `t` units of 10 ps after TICK: a burst within PHY_WAKE holds it low against every cause (R126). -/
def Dev.phyRelease (d : Dev) (t : Nat) : Dev :=
  if !d.on 9 || !d.phyNeeded (d.tickLine + t) then d
  else { d with us := { d.us with autoSleep := false, phyHold := d.us.phyHold || d.phyBurst (d.tickLine + t) } }

/-- The automatic PHY_SLEEP, `t` units of 10 ps after TICK. -/
def Dev.phyAssert (d : Dev) (t : Nat) : Dev :=
  if !d.on 9 || d.phyNeeded (d.tickLine + t) then d
  else { d with us := { d.us with autoSleep := d.b F.TUS_CTL_AUTO_SLEEP, phyHold := false } }

def execPhySleepRelease (t : Nat) (s : State) : Host.Outcome State Fault Refusal := s.run (fun d => d.phyRelease t)
def execPhySleepAssert (t : Nat) (s : State) : Host.Outcome State Fault Refusal := s.run (fun d => d.phyAssert t)

/-- A write of TUS_TXEN; a PHY_WAKE above 16 is refused (R126), and the other fields take their values. -/
def Dev.writeTxen (w : RegWr) (d : Dev) : Dev :=
  let d := (((d.put F.TUS_TXEN_LEAD w).put F.TUS_TXEN_LAG w).put F.TUS_TXEN_SD_DLY w).put F.TUS_TXEN_SD_OFF w
  if w.merged F.TUS_TXEN_PHY_WAKE (d.f F.TUS_TXEN_PHY_WAKE) > 16 then d.set F.TUS_STAT_REFUSED 1
  else d.put F.TUS_TXEN_PHY_WAKE w

def execPhyWakeWrite (w : RegWr) (s : State) : Host.Outcome State Fault Refusal :=
  s.run (fun d => d.gated 0x50010 w (Dev.writeTxen w))

/-- A direct write of TUS_SEQSEL: KSEL 11b is refused (R147). -/
def Dev.seqSelDirect (w : RegWr) (d : Dev) : Dev :=
  let d := d.put F.TUS_SEQSEL_PSEQ w
  if w.merged F.TUS_SEQSEL_KSEL (d.f F.TUS_SEQSEL_KSEL) == 3 then d.set F.TUS_STAT_REFUSED 1 else d.put F.TUS_SEQSEL_KSEL w

def Dev.writeSeqSel (w : RegWr) (d : Dev) : Dev := d.stWrite 0x50018 w Dev.seqSelDirect

end Sys2Proof.Machine
end

