-- ==== Sys2Proof/Machine/Terminal.lean ====
section
/-! DEFINITION. Registration, ranging and time (05): the terminal state machine (R128 to R134), control messages (R135 to R140),
profiles (R143), ranging (R144, R145), keys (R146, R147), time of day (R149 to R154), sleep (R156, R158). -/

namespace Sys2Proof.Machine

/-! Terminal states. -/

/-- The state code of R128. -/
def Dev.tst (d : Dev) : Nat := d.f F.TST_STATE_STATE

/-- GATE of a state (R128). -/
def gateOf (st : Nat) : Nat := if st == 2 then 1 else if st == 3 then 2 else if st == 4 then 3 else 0

/-- A cause of R425 that is not a wake source: code 9h. -/
def Dev.watchCause (d : Dev) : Dev := if d.watchOwns then d.wake 9 else d

/-- A transition to a state (R129): PREV, the frame, no timer running, STATE_CHANGE, and the gate of the state. In Watch, leaving
OPERATE ends it (R425). -/
def Dev.enterState (d : Dev) (st : Nat) : Dev :=
  let d := if d.tst == 4 && st != 4 then d.watchCause else d
  let d := ((d.set F.TST_STATE_PREV d.tst).set F.TST_STATE_STATE st).set F.TST_STATE_ENTRY_SFC (d.clk.sfc % 2 ^ 32)
  ((d.set F.TST_STATE_TIMER 0).raise 1216).setGate (gateOf st)

/-- Entries 1 to 511 of TUS_ALLOC become invalid (R131). -/
def Dev.allocClear (d : Dev) : Dev :=
  (d.listed F.TUS_ALLOC_VALID).foldl (fun d p => d.setI F.TUS_ALLOC_VALID p.1 0) d

/-- Key slots 1 to 3 are cleared (R131). -/
def Dev.keysClear (d : Dev) : Dev :=
  let d := ((d.set F.TDS_KEYSTAT_SLOT1_VALID 0).set F.TDS_KEYSTAT_SLOT2_VALID 0).set F.TDS_KEYSTAT_SLOT3_VALID 0
  { d with ds := { d.ds with keys := [0, 0, 0], bcastDue := false } }

/-- A pending key switch is cancelled, and set 3 ends, ARMED or APPLYING (R131, R369). DEDUCED: the end of a set 3 in APPLYING is a cancel
in the counter and the event as well (log entry 29). -/
def Dev.keySwitchCancel (d : Dev) : Dev :=
  let d := { d with stg := { d.stg with held := none } }.set F.TST_KEYSW_PENDING 0
  if d.stgState 3 != 0 then d.stgCancel 3 else d

/-- INIT clearing (R131), with Curator's clearing of the key slots that follows it. DESIGN CHOICE: the repeats of KEY_REPORT that Docent
still owes are dropped with its queue, as the keys they announce are gone (log entry 29). -/
def Dev.initClear (d : Dev) : Dev :=
  let d := ((d.set F.TST_ID_VALID 0).set F.TUS_TIMING_EQD 0).allocClear
  let d := (d.set F.TUS_SEQSEL_KSEL 0).keySwitchCancel
  let d := ((d.set F.TST_SLEEP_ALLOWED 0).set F.TST_SLEEP_REQ 0).keysClear
  { d with us := { d.us with seqUq := [], docUq := [] }, term := { d.term with reports := [], sleepSent := false } }

/-- Entry to INIT. -/
def Dev.enterInit (d : Dev) : Dev := (d.enterState 0).initClear

/-- Entry to SERIAL seeds the discovery generator (R142). -/
def Dev.enterSerial (d : Dev) : Dev :=
  let s := (d.f F.TST_SERIAL_SN % 2 ^ 32) ^^^ (d.cycle % 2 ^ 32)
  let d := d.enterState 2
  { d with term := { d.term with lfsr := if s == 0 then 1 else s } }

/-- The ranging timer has reached zero (R129). -/
def Dev.rangingOver (d : Dev) : Dev :=
  ((((d.set F.TST_ID_VALID 0).set F.TUS_TIMING_EQD 0).count F.TST_CNT_RANGE_TMO).set F.TST_STATE_TIMER 0).enterSerial

/-- The intermit timer has reached zero (R129). -/
def Dev.intermitOver (d : Dev) : Dev := (d.set F.TST_STATE_TIMER 0).enterInit

/-- SYNC_LOST at the next TICK (R129, R132). -/
def Dev.tickSyncLost (d : Dev) : Dev :=
  if !d.term.syncLost then d
  else if d.tst == 4 then ((d.enterState 5).set F.TST_STATE_TIMER 800).count F.TST_CNT_INTERMITS
  else if 1 ≤ d.tst && d.tst ≤ 3 then d.enterInit
  else d

/-- SYNC_ACQUIRED at the next TICK: it wins over a timer that ends at that TICK (R129, R130). -/
def Dev.tickSyncGot (d : Dev) : Dev :=
  if d.term.syncGot && d.tst == 5 then (d.enterState 4).set F.TST_STATE_TIMER 0 else d

/-- A timer counts at every TICK after the one that loaded it, and acts where it reaches zero (R130). `st`: the state before the
TICK's transitions, none of which has changed it. -/
def Dev.tickTimer (st : Nat) (d : Dev) : Dev :=
  if d.tst == st && (d.tst == 3 || d.tst == 5) then
    if d.f F.TST_STATE_TIMER ≤ 1 then (if d.tst == 3 then d.rangingOver else d.intermitOver)
    else d.set F.TST_STATE_TIMER (d.f F.TST_STATE_TIMER - 1)
  else d

/-- ACTIVATE was written 0 (R129). -/
def Dev.tickActivate (d : Dev) : Dev :=
  if d.term.activateOff && d.tst != 0 && d.tst != 6 then d.enterInit else d

/-- DEACTIVATE accepted (R129, R132). -/
def Dev.deactivated (d : Dev) : Dev := ((d.set F.TST_STATE_HALT_LATCH 0).setInhibit false).enterInit

/-- The command of TST_CMD, judged from the state that the other transitions leave (R134). -/
def Dev.tickCommand (d : Dev) : Dev :=
  match d.term.cmd with
  | none => d
  | some (c, tid, _) =>
    let d := { d with term := { d.term with cmd := none } }
    if c == 1 && d.tst == 2 then
      ((d.enterState 3).set F.TST_STATE_TIMER (max 1 (d.f F.TST_CTL_TO_RANGE))).set F.TST_ID_TID tid |>.set F.TST_ID_VALID 1
    else if c == 2 && d.tst == 1 then d.enterSerial
    else if c == 3 then d.deactivated
    else d.set F.TST_STATE_CMD_REFUSED 1

/-- The transitions due at a TICK (R129, R134). -/
def Dev.termTick (d : Dev) : Dev :=
  let d :=
    if d.tst == 0 then (if d.f F.TDS_SYNC_STAT_STATE == 2 && d.b F.TST_CTL_ACTIVATE then d.enterState 1 else d)
    else (d.tickSyncLost.tickSyncGot.tickTimer d.tst).tickActivate
  let d := d.tickCommand
  { d with term := { d.term with syncLost := false, syncGot := false, activateOff := false } }

/-- RANGING_TIMEOUT: the transition of the TICK at which the ranging timer reaches zero, taken by itself. -/
def Dev.rangingTimeout (d : Dev) : Dev := if d.tst == 3 && d.f F.TST_STATE_TIMER ≤ 1 then d.rangingOver else d

/-- INTERMIT_TIMEOUT: likewise; SYNC_ACQUIRED in the same tick period wins (R130). -/
def Dev.intermitTimeout (d : Dev) : Dev :=
  if d.tst == 5 && d.f F.TST_STATE_TIMER ≤ 1 && !d.term.syncGot then d.intermitOver else d

def execRangingTimeout (s : State) : Host.Outcome State Fault Refusal := s.run Dev.rangingTimeout
def execIntermitTimeout (s : State) : Host.Outcome State Fault Refusal := s.run Dev.intermitTimeout

/-- A write of TST_CTL: in HALT, ACTIVATE keeps its value (R132). -/
def Dev.writeTstCtl (w : RegWr) (d : Dev) : Dev :=
  let d := d.put F.TST_CTL_TO_RANGE w
  if d.tst == 6 || !w.mask.getLsbD 0 then d
  else
    let d := d.put F.TST_CTL_ACTIVATE w
    if d.b F.TST_CTL_ACTIVATE || d.tst == 0 then d else { d with term := { d.term with activateOff := true } }

def execActivateWrite (w : RegWr) (s : State) : Host.Outcome State Fault Refusal :=
  s.run (fun d => d.gated 0x60008 w (Dev.writeTstCtl w))

/-- A command is recorded for the next TICK; a later one replaces it (R134). -/
def Dev.tstCmd (d : Dev) (c tid : Nat) (src : Option (Nat × Nat)) : Dev :=
  if 1 ≤ c && c ≤ 3 then { d with term := { d.term with cmd := some (c, tid, src) } } else d

/-- A write of TST_CMD by Docent or Curator. -/
def Dev.writeTstCmd (w : RegWr) (d : Dev) : Dev :=
  if w.agent == .docent || w.agent == .curator then d.tstCmd (w.fld F.TST_CMD_CMD) (w.fld F.TST_CMD_TID) none else d

/-- The row of one command. -/
def Dev.tstCmdRow (c : Nat) (w : RegWr) (d : Dev) : Dev :=
  if w.fld F.TST_CMD_CMD == c then d.gated 0x60010 w (Dev.writeTstCmd w) else d

def execTstCmdAssign (w : RegWr) (s : State) : Host.Outcome State Fault Refusal := s.run (Dev.tstCmdRow 1 w)
def execTstCmdProfileDone (w : RegWr) (s : State) : Host.Outcome State Fault Refusal := s.run (Dev.tstCmdRow 2 w)
def execTstCmdDeactivate (w : RegWr) (s : State) : Host.Outcome State Fault Refusal := s.run (Dev.tstCmdRow 3 w)

/-! Control messages (R135 to R138). -/

/-- Docent finishes what it has taken: it runs, or is stopping (R350). -/
def Dev.docentServes (d : Dev) : Bool := d.f F.MBX_FW_STAT_DSTATE == 2 || d.f F.MBX_FW_STAT_DSTATE == 3

/-- Docent runs (R359). -/
def Dev.docentRuns (d : Dev) : Bool := d.f F.MBX_FW_STAT_DSTATE == 2

/-- A notice for MB1 (R347, R352): dropped when masked, counted as lost when 32 wait. -/
def Dev.notice (d : Dev) (ty : Nat) (body : List Word) : Dev :=
  if !bit d.fw.mask (ty - 0x80) then d
  else if d.fw.notices.length ≥ 32 then { d with fw := { d.fw with lost := d.fw.lost + 1 } }
  else { d with fw := { d.fw with notices := d.fw.notices ++ [(ty, body)] } }

/-- Types the sequencer's queue answers for. -/
def Dev.pushFor (d : Dev) (ty : Nat) (m : UpMsg) : Dev := if seqTypes.contains ty then d.pushSeq m else d.pushDoc m

/-- Types answered by ACK (R136, R140): RANGING_TIME, PROFILE, KEY_REQ, KEY_SWITCH, SLEEP_ALLOW, WAKE. -/
def ackTypes : List Nat := [3, 4, 5, 6, 7, 8]

/-- An ACK with a status (R141). -/
def Dev.ack (d : Dev) (ty mseq status : Nat) : Dev :=
  let r := d.newMsg 3 mseq status
  r.2.pushFor ty r.1

/-- A duplicate (R137): the last processed message of the TYPE had this MSEQ, within 64 ticks. -/
def Dev.dupOf (d : Dev) (m : Msg) : Option LastMsg :=
  match d.term.last.look (msgType m) with
  | some l => if l.mseq == msgSeq m && d.clk.ticks - l.tick ≤ 64 then some l else none
  | none => none

/-- A response is queued again, as a new message with the original content (R137); at most one RANGE_RESP is held (R140). -/
def Dev.again (d : Dev) (ty : Nat) (m : UpMsg) : Dev :=
  if m.utype == 2 && d.us.seqUq.any (fun x => x.utype == 2) then d
  else
    let r := d.newMsg m.utype m.mseq m.status
    r.2.pushFor ty { r.1 with slot := m.slot, wkey := m.wkey }

/-- The first checks of every message (R135 to R137): `g` processes it in the states of R140. -/
def Dev.process (d : Dev) (m : Msg) (ok : Bool) (g : Dev → Dev) : Dev :=
  if msgAddr m == 2 && (m.getD 1 0).toNat != d.f F.TST_SERIAL_SN then d
  else
    match d.dupOf m with
    | some l =>
      let d := d.count F.TST_CNT_DUPLICATE
      (match l.resp with | some r => d.again (msgType m) r | none => d)
    | none =>
      if ok then g d
      else
        let d := d.count F.TST_CNT_BAD_STATE
        if ackTypes.contains (msgType m) && d.f F.TUS_CTL_GATE != 0 then d.ack (msgType m) (msgSeq m) 1 else d

/-- A message has been processed; it is remembered with its response, which is queued (R137, R138). -/
def Dev.processed (d : Dev) (m : Msg) (resp : Option (Nat × Nat)) : Dev :=
  let put := fun (d : Dev) (r : Option UpMsg) =>
    { d with term := { d.term with last := d.term.last.put (msgType m) (⟨msgSeq m, r, d.clk.ticks⟩ : LastMsg) } }
  match resp with
  | none => put d none
  | some (ut, st) =>
    let r := d.newMsg ut (msgSeq m) st
    (put r.2 (some r.1)).pushFor (msgType m) r.1

/-- Processed, with an ACK of a status. -/
def Dev.acked (d : Dev) (m : Msg) (st : Nat) : Dev := d.processed m (some (3, st))

/-- The head of the sequencer's message buffer, when it has the type of the row and the sequencer is at its message duty: its routine runs and
the frame's grants are filed or lost (R79, R320, R324). -/
def Dev.seqMsg (d : Dev) (ty : Nat) (g : Msg → Dev → Dev) : Dev :=
  match d.ds.seqMsgs with
  | m :: t =>
    if msgType m == ty && d.on 2 && d.seqBusy && !d.ds.hdrFresh then g m { d with ds := { d.ds with seqMsgs := t } } else d
  | [] => d

/-- The head of Docent's queue, when it has the type of the row and Docent runs. -/
def Dev.docMsg (d : Dev) (ty : Nat) (g : Msg → Dev → Dev) : Dev :=
  match d.ds.docentMsgs with
  | m :: t => if msgType m == ty && d.docentRuns then g m { d with ds := { d.ds with docentMsgs := t } } else d
  | [] => d

/-- The count of the frame that carried a message, and its place in the header. -/
def msgFrame (m : Msg) : Nat := (m.getD 8 0).toNat
def msgPlace (m : Msg) : Nat := (m.getD 9 0).toNat

/-- The TASOR notice (R352). -/
def Dev.tasor (d : Dev) (m : Msg) : Dev := d.notice 0x83 [BitVec.ofNat 64 (msgType m), m.getD 0 0]

/-! The sequencer's messages. -/

/-- RANGING_REQ (R140): EQD, and one RANGE_RESP held queued. -/
def Dev.msgRangingReq (m : Msg) (d : Dev) : Dev :=
  d.process m (d.tst == 3) (fun d =>
    let d := d.set F.TUS_TIMING_EQD (wf m 0 10 26)
    if d.us.seqUq.any (fun x => x.utype == 2) then
      let l : LastMsg := ⟨msgSeq m, some { utype := 2, mseq := msgSeq m, useq := 0 }, d.clk.ticks⟩
      { d with term := { d.term with last := d.term.last.put 2 l } }
    else d.processed m (some (2, 0)))

def execRangingReq (s : State) : Host.Outcome State Fault Refusal := s.run (fun d => d.seqMsg 2 Dev.msgRangingReq)

/-- RANGING_TIME (R140, R145). -/
def Dev.msgRangingTime (m : Msg) (d : Dev) : Dev :=
  let rel := wf m 0 9 1 == 1
  d.process m (d.tst == 4 || (d.tst == 3 && !rel)) (fun d =>
    let v : Int := if rel then d.f F.TUS_TIMING_EQD + signed 26 (wf m 0 10 26) else (wf m 0 10 26 : Nat)
    if v < 0 || v > 0x3FFFFFF then d.acked m 2
    else
      let d := d.set F.TUS_TIMING_EQD v.toNat
      let d := if d.tst == 3 then (d.enterState 4).set F.TST_STATE_TIMER 0 else d
      d.acked m 0)

def execRangingTime (s : State) : Host.Outcome State Fault Refusal := s.run (fun d => d.seqMsg 3 Dev.msgRangingTime)

/-- The key slot holds a valid key. -/
def Dev.slotValid (d : Dev) (k : Nat) : Bool := d.kselValid k

/-- The status of a KEY_SWITCH: none for the KSEQ in force (R147). -/
def Dev.keySwitchCheck (d : Dev) (m : Msg) : Option Nat :=
  let slot := wf m 0 34 2
  let sw := wf m 2 0 51
  if wf m 0 26 8 == d.f F.TST_KEYSW_KSEQ then none
  else if slot == 0 || slot == 3 then some 2
  else if !d.slotValid slot then some 3
  else if sw ≤ msgFrame m then some 4
  else if sw > msgFrame m + 65536 then some 2
  else some 0

/-- KEY_SWITCH (R140, R147). -/
def Dev.msgKeySwitch (m : Msg) (d : Dev) : Dev :=
  d.process m (d.tst == 4) (fun d =>
    match d.keySwitchCheck m with
    | none => d.acked m 0
    | some 0 =>
      let slot := wf m 0 34 2
      let sw := wf m 2 0 51
      let d := d.stgAssist [(0x50018, ⟨F.TUS_SEQSEL_KSEL.maskBits, slot * 2 ^ 8⟩)] sw
      let d := ((d.set F.TST_KEYSW_PEND_KSEQ (wf m 0 26 8)).set F.TST_KEYSW_PEND_SLOT slot).set F.TST_KEYSW_PEND_SFC
        (sw % 2 ^ 32)
      (d.set F.TST_KEYSW_PENDING 1).acked m 0
    | some st => d.acked m st)

def execKeySwitch (s : State) : Host.Outcome State Fault Refusal := s.run (fun d => d.seqMsg 6 Dev.msgKeySwitch)

/-- HALT (R129, R133, R140): at once; a DEACTIVATE that stands earlier in the same header is discarded. DESIGN CHOICE: in HALT, where R140
ignores a further HALT, nothing of it is processed, and an earlier DEACTIVATE of its header acts (log entry 29). -/
def Dev.msgHalt (m : Msg) (d : Dev) : Dev :=
  d.process m (d.tst != 6 && msgAddr m != 1) (fun d =>
    let early := fun (f p : Nat) => f == msgFrame m && p < msgPlace m
    let d := d.processed m none
    let cmd := match d.term.cmd with
      | some (3, _, some (f, p)) => if early f p then none else d.term.cmd
      | c => c
    let d := { d with
      term := { d.term with cmd := cmd }
      ds := { d.ds with docentMsgs := d.ds.docentMsgs.filter (fun x => !(msgType x == 0x0A && early (msgFrame x) (msgPlace x))) } }
    (((d.setInhibit true).enterState 6).set F.TST_STATE_HALT_LATCH 1).raise 1217)

def execHalt (s : State) : Host.Outcome State Fault Refusal := s.run (fun d => d.seqMsg 0x0B Dev.msgHalt)

/-! Time of day. -/

/-- The latched ideal instant of the last TICK (R31). -/
def Dev.tickTime (d : Dev) : Nat :=
  d.f F.CKX_TICK_TIME_HI_SEC * second + d.f F.CKX_TICK_TIME_LO_NS * 65536 + d.f F.CKX_TICK_TIME_LO_FRAC

/-- LAST_OFS: an offset in 1/256 ns, saturating. -/
def lastOfs (o : Int) : Nat := unsigned 32 (max (-2147483648) (min 2147483647 o))

/-- TIME_OF_DAY (R150), its divisions truncating toward zero (R13): the downstream delay in picoseconds, and the time in 2^-16 ns. A step
leaves a slew in progress until the TICK at which it is made. DESIGN CHOICE: one slot holds the step that waits for the TICK, whoever asked
for it, so that a later request replaces an earlier one (R151; log entry 31). -/
def Dev.msgTimeOfDay (m : Msg) (d : Dev) : Dev :=
  d.process m (d.tst == 4) (fun d =>
    if d.f F.CKX_TICK_STAT_SRC != 1 || !d.b F.TST_TOD_CTL_TOD_EN then d
    else
      let eqd := match d.pageNow with | some p => p.eqd | none => d.f F.TUS_TIMING_EQD
      let df : Int := (wf m 4 32 32 * 10 : Nat) - 35000000 - (eqd * 10 : Nat)
      let d := d.processed m none
      if df < 0 then d.count F.TST_CNT2_TOD_BAD
      else
        let ts : Int := (wf m 2 0 48 * second + wf m 3 32 32 * 65536 + wf m 3 16 16 : Nat)
        let ps : Int := ((wf m 4 0 32 : Nat) * df).tdiv (2 ^ 32) + d.z F.TST_TOD_CTL_DS_LAT + 1600000
        let ofs := ts + (ps * 65536).tdiv 1000 - d.tickTime
        let d := (d.set F.TST_TOD_STAT_LAST_OFS (lastOfs (ofs.tdiv 256))).count F.TST_CNT2_TOD_APPLIED
        let thr : Int := (d.f F.TST_TOD_CTL_STEP_THR * 65536 : Nat)
        if !d.b F.TST_TOD_STAT_VALID || ofs.natAbs ≥ thr.natAbs then { d with term := { d.term with step := some (ofs, true) } }
        else { d with term := { d.term with step := none, slew := some (ofs, 0) } }.set F.TST_TOD_STAT_SLEWING 1)

def execTimeOfDay (s : State) : Host.Outcome State Fault Refusal := s.run (fun d => d.seqMsg 9 Dev.msgTimeOfDay)

/-- The increment of a slew at each of its 64 TICKs (R13, R150). -/
def slewStep (ofs : Int) : Int := ofs.tdiv 64

/-- The time counter at a TICK `dt` after the last one (R149 to R151): the elapsed time at the corrected rate, then a step, or
an increment of a slew. A step does not shorten a pulse of PPS_OUT, whose end is counted in elapsed time (R153). -/
def Dev.timeTick (d : Dev) (dt : Nat) : Dev :=
  let run := d.timeAt dt
  let d := { d with term := { d.term with ppsEnd := d.term.ppsEnd.map (fun e => e - dt) } }
  match d.term.step, d.term.slew with
  | some (o, tod), _ =>
    let d := { d with term := { d.term with time := shiftTime run o, step := none, slew := none } }
    let d := (d.set F.TST_TOD_STAT_SLEWING 0).set F.TST_TOD_STAT_STEPPED 1
    (if tod then d.set F.TST_TOD_STAT_VALID 1 else d).raise 1220
  | none, some (o, k) =>
    let more := k + 1 < 64
    { d with term := { d.term with time := shiftTime run (slewStep o), slew := if more then some (o, k + 1) else none } }.set
      F.TST_TOD_STAT_SLEWING (b2n more)
  | none, none => { d with term := { d.term with time := run } }

/-- The rate at a TICK (R149): at every LOCKED one, the difference of successive latched ideal instants from 125,000 ns is corrected with
gain 2^-6; at others the rate is held. `prev` is the instant latched before. The last bit of the correction, which the spec does not round,
is free. -/
def Dev.rateTick (d : Dev) (src ideal prev : Nat) : Dev :=
  let d := d.set F.TST_TOD_STAT_RATE_HELD (b2n (src != 1))
  if src != 1 || !d.b F.TST_TOD_CTL_DISC_EN then d
  else
    let num : Int := ((prev : Int) + 125000 * 65536 - ideal) * 2 ^ 34
    let den : Int := 125000 * 65536
    let r := d.draw
    r.2.set F.TST_TOD_RATE_RATE_ADJ (unsigned 40 (d.z F.TST_TOD_RATE_RATE_ADJ + num / den + (if num % den == 0 then 0 else (r.1 % 2 : Nat))))

/-- A write of TST_TIME_ADJ: a step at the next TICK, refused while TOD_EN is 1 (R151). -/
def Dev.writeTimeAdj (w : RegWr) (d : Dev) : Dev :=
  if d.b F.TST_TOD_CTL_TOD_EN then d.set F.TST_TOD_STAT_REFUSED 1
  else { d with term := { d.term with step := some (signed 64 w.val, false) } }

def execTimeAdjWrite (w : RegWr) (s : State) : Host.Outcome State Fault Refusal :=
  s.run (fun d => d.gated 0x60068 w (Dev.writeTimeAdj w))

/-- A write of TST_TOD_RATE, refused while DISC_EN is 1 (R151). -/
def Dev.writeTodRate (w : RegWr) (d : Dev) : Dev :=
  if d.b F.TST_TOD_CTL_DISC_EN then d.set F.TST_TOD_STAT_REFUSED 1 else d.put F.TST_TOD_RATE_RATE_ADJ w

def execTodRateWrite (w : RegWr) (s : State) : Host.Outcome State Fault Refusal :=
  s.run (fun d => d.gated 0x60050 w (Dev.writeTodRate w))

/-- FRAC and NS of the counter. -/
def timeLo (t : Nat) : Nat := t % second / 65536 * 65536 + t % 65536

/-- A read of TST_TIME_LO latches the whole counter (R152). -/
def Dev.readTimeLo (t : Nat) (d : Dev) : Nat × Dev :=
  let v := d.timeAt t
  (timeLo v, { d with term := { d.term with latched := v } })

def execTimeLoRead (a : Agent) (at' : Nat) (s : State) : Host.Outcome State Fault Refusal :=
  s.run (fun d => d.gatedRead a 0x60058 (Dev.readTimeLo at'))

/-! PPS (R153, R154). -/

/-- A write of TST_PPS_CTL: PPS_OUT is low while OUT_EN is 0 (R153). -/
def Dev.writePpsCtl (w : RegWr) (d : Dev) : Dev :=
  let d := d.putAll (fldsAt 0x60070) w
  if d.b F.TST_PPS_CTL_OUT_EN then d
  else { d with pins := { d.pins with ppsOut := false }, term := { d.term with ppsEnd := none } }

/-- The counter plus OUT_OFS, `t` after the last TICK edge. -/
def Dev.ppsNow (d : Dev) (t : Nat) : Int := (d.timeAt t : Int) + d.z F.TST_PPS_CTL_OUT_OFS * 65536 / 1000

/-- It reaches a whole second at `t`: it stands at one, or has passed one since the instant before. -/
def Dev.ppsWhole (d : Dev) (t : Nat) : Bool :=
  d.ppsNow t % (second : Int) == 0 || (t != 0 && d.ppsNow (t - 1) / (second : Int) < d.ppsNow t / (second : Int))

/-- Second s is among the ranges. -/
def secIn (s : Nat) (l : List (Nat × Nat)) : Bool := l.any (fun r => r.1 ≤ s && s ≤ r.2)

/-- Second s joins the ranges: the one it follows, or a new one. -/
def secAdd (s : Nat) (l : List (Nat × Nat)) : List (Nat × Nat) :=
  if l.any (fun r => r.2 + 1 == s) then l.map (fun r => if r.2 + 1 == s then (r.1, s) else r) else (s, s) :: l

/-- WIDTH in 2^-16 ns: 0 acts as 1 ms, values above 999 as 999. -/
def Dev.ppsWidth (d : Dev) : Nat := max 1 (min 999 (d.f F.TST_PPS_CTL_WIDTH)) * 1000000 * 65536

/-- PPS_OUT reaches a whole second `t` after the last TICK: one pulse for each value of seconds (R153). -/
def Dev.ppsRise (d : Dev) (t : Nat) : Dev :=
  let sec := (d.ppsNow t / (second : Int)).toNat
  if !d.b F.TST_PPS_CTL_OUT_EN || !d.b F.ID_INTEG_PPSOUT_WIRED || !d.b F.TST_TOD_STAT_VALID || !d.ppsWhole t ||
    secIn sec d.term.ppsDone then d
  else { d with
    term := { d.term with ppsDone := secAdd sec d.term.ppsDone, ppsEnd := some ((t : Int) + d.ppsWidth) }
    pins := { d.pins with ppsOut := true } }

def execPpsOutRise (at' : Nat) (s : State) : Host.Outcome State Fault Refusal := s.run (fun d => d.ppsRise at')

/-- PPS_OUT falls, `t` after the last TICK, once WIDTH ms have passed. -/
def Dev.ppsFall (d : Dev) (t : Nat) : Dev :=
  if (match d.term.ppsEnd with | some e => decide ((t : Int) < e) | none => true) then d
  else { d with pins := { d.pins with ppsOut := false }, term := { d.term with ppsEnd := none } }

def execPpsOutFall (at' : Nat) (s : State) : Host.Outcome State Fault Refusal := s.run (fun d => d.ppsFall at')

/-- A rising edge of PPS_IN `t` after the last TICK (R154). DESIGN CHOICE: the 500 ms are measured on the time counter, whose stamps are what
the registers keep of an edge, so that a step of the counter changes them (log entry 31). -/
def Dev.ppsEdge (d : Dev) (t : Nat) : Dev :=
  if !d.b F.TST_PPS_CTL_IN_EN || !d.b F.ID_INTEG_PPSIN_WIRED || !d.on 1 then d
  else
    let v := d.timeAt t
    if (match d.term.ppsIn with | some p => p ≤ v && v < p + second / 2 | none => false) then d.count F.TST_CNT2_PPSIN_IGNORED
    else
      let n := d.f F.TST_PPSIN_LO_SEQ + 1
      let d := ((d.set F.TST_PPSIN_LO_FRAC v).set F.TST_PPSIN_LO_NS (v % second / 65536)).set F.TST_PPSIN_LO_SEQ n
      let d := (d.set F.TST_PPSIN_HI_SEC (v / second)).set F.TST_PPSIN_HI_SEQ n
      { d with term := { d.term with ppsIn := some v } }.raise 1221

def execPpsInEdge (at' : Nat) (s : State) : Host.Outcome State Fault Refusal := s.run (fun d => d.ppsEdge at')

/-! Docent's messages. -/

/-- ASSIGN_ID (R140): in SERIAL and with ADDR 10b only. -/
def Dev.msgAssignId (m : Msg) (d : Dev) : Dev :=
  d.process m (d.tst == 2 && msgAddr m == 2) (fun d =>
    ((d.processed m none).tstCmd 1 (wf m 0 26 10) (some (msgFrame m, msgPlace m))).tasor m)

def execAssignId (s : State) : Host.Outcome State Fault Refusal := s.run (fun d => d.docMsg 1 Dev.msgAssignId)

/-- DEACTIVATE (R140). -/
def Dev.msgDeactivate (m : Msg) (d : Dev) : Dev :=
  d.process m true (fun d => ((d.processed m none).tstCmd 3 0 (some (msgFrame m, msgPlace m))).tasor m)

def execDeactivate (s : State) : Host.Outcome State Fault Refusal := s.run (fun d => d.docMsg 0x0A Dev.msgDeactivate)

/-- The staged registers of a complete set (R143). -/
def ProfSet.entries (p : ProfSet) : SMap StgVal :=
  let all := 2 ^ 64 - 1
  let cfg := F.TUS_PROF_CFG_GUARD.maskBits + F.TUS_PROF_CFG_PRE_LEN.maskBits + F.TUS_PROF_CFG_PRE_PAT.maskBits
  let one := fun (m : SMap StgVal) (e : Nat × Nat × Nat × Nat) =>
    SMap.put (0x50110 + 0x20 * e.1) ⟨all, e.2.2.2⟩ (SMap.put (0x50108 + 0x20 * e.1) ⟨all, e.2.2.1⟩
      (SMap.put (0x50100 + 0x20 * e.1) ⟨cfg, e.2.1⟩ m))
  p.got.foldl one [(0x50018, ⟨F.TUS_SEQSEL_PSEQ.maskBits, p.pseq⟩)]

/-- In RANGING and OPERATE a PROFILE is acknowledged, in LISTEN and SERIAL not (R140). -/
def Dev.profAcks (d : Dev) : Bool := d.tst == 3 || d.tst == 4

/-- The outcome of an attempt in RANGING and OPERATE: ACK, and the set is no longer waited for. The ACK is the response of its completing
message, as long as that is the last PROFILE processed (R137). -/
def Dev.profEnd (d : Dev) (p : ProfSet) (st : Nat) : Dev :=
  let d := { d with term := { d.term with complete := d.term.complete.erase p } }
  let r := d.newMsg 3 p.mseq st
  let t := r.2.term
  let t := match t.last.look 4 with
    | some l => if l.mseq == p.mseq && l.tick == p.tick then { t with last := t.last.put 4 { l with resp := some r.1 } } else t
    | none => t
  { r.2 with term := t }.pushDoc r.1

/-- The set of Docent that holds this content and was not armed. -/
def Dev.profSet (d : Dev) (p : ProfSet) : Option Nat :=
  ([0, 1] : List Nat).find? (fun s => d.stgState s == 1 && d.f F.STG_STAT_OWNER s == 1 && d.stgSet s == p.entries)

/-- Docent opens an IDLE set and writes the content into it. -/
def Dev.profOpen (d : Dev) (p : ProfSet) : Option (Nat × Dev) :=
  match d.profSet p with
  | some s => some (s, d)
  | none =>
    match ([0, 1] : List Nat).find? (fun s => d.stgState s == 0) with
    | none => none
    | some s => some (s, (d.stgOpen s 1).stgPut s p.entries)

/-- A complete set waits to be armed, behind those before it. -/
def Dev.profWait (d : Dev) (p : ProfSet) : Dev :=
  if d.term.complete.contains p then d else { d with term := { d.term with complete := d.term.complete ++ [p] } }

/-- Docent tries to arm a complete set (R143): in RANGING and OPERATE within 8 ticks of its completing message. -/
def Dev.profTry (d : Dev) (p : ProfSet) : Dev :=
  let ackd := d.profAcks
  if ackd && p.applySfc ≤ p.sfc then d.profEnd p 4
  else if ackd && d.clk.ticks > p.tick + 8 then d.profEnd p 2
  else
    match d.profOpen p with
    | none => d.profWait p
    | some (s, d) =>
      let d := (d.setI F.STG_APPLY_NEXT s (b2n (!ackd))).setI F.STG_APPLY_FRAME s (if ackd then p.applySfc else 0)
      let d := d.stgCheckArm s
      let why := d.f F.STG_STAT_REASON s
      if !ackd then
        if why == 0 then { d with term := { d.term with complete := d.term.complete.erase p } } else d.profWait p
      else if why == 0 then d.profEnd p 0
      else (d.stgCancel s).profEnd p (if why == 1 then 4 else 2)

/-- PROFILE (R140, R143). -/
def Dev.msgProfile (m : Msg) (d : Dev) : Dev :=
  d.process m (1 ≤ d.tst && d.tst ≤ 4) (fun d =>
    let pseq := wf m 0 28 8
    let old := match d.term.collect with | some c => if c.pseq == pseq then c else { pseq := pseq } | none => { pseq := pseq }
    let cfg := wf m 2 23 9 + wf m 2 13 10 * 2 ^ 9 + wf m 2 32 32 * 2 ^ 32
    let c := { old with got := old.got.put (wf m 0 26 2) (cfg, (m.getD 3 0).toNat, (m.getD 4 0).toNat) }
    let d := { d with term := { d.term with dspread := min 19 (wf m 0 21 5), collect := some c } }
    let d := d.tasor m
    if c.got.length < 4 then
      if d.profAcks then d.acked m 0 else d.processed m none
    else
      let d := { d.processed m none with term := { (d.processed m none).term with collect := none, full := some pseq } }
      d.profTry { c with applySfc := wf m 5 0 51, mseq := msgSeq m, sfc := msgFrame m, tick := d.clk.ticks })

def execProfile (s : State) : Host.Outcome State Fault Refusal := s.run (fun d => d.docMsg 4 Dev.msgProfile)

/-- At a TICK Docent tries again to arm the complete sets, in order (R143). -/
def Dev.profRetry (d : Dev) : Dev := if d.docentRuns then d.term.complete.foldl Dev.profTry d else d

/-- In LISTEN, Docent writes PROFILE_DONE once the active PSEQ is that of the latest valid header (R143): it has by the TICK that judges the
command, unless another command waits. -/
def Dev.profDone (d : Dev) : Dev :=
  if d.docentRuns && d.tst == 1 && d.ds.hdrSeen && d.f F.TUS_SEQSEL_PSEQ == d.f F.TDS_HDR_PSEQ && d.term.cmd.isNone then d.tstCmd 2 0 none
  else d

/-- No staging set became IDLE within 8 ticks (R143). -/
def Dev.profTimeout (d : Dev) : Dev :=
  match d.term.complete.find? (fun p => d.clk.ticks ≥ p.tick + 8) with
  | some p => if d.docentRuns && d.profAcks then d.profEnd p 2 else d
  | none => d

def execProfileArmTimeout (s : State) : Host.Outcome State Fault Refusal := s.run Dev.profTimeout

/-- The present KEK. -/
def Dev.kekNow (d : Dev) : Nat := d.fw.kek.getD Config.factoryKek

/-- A key slot takes a key and becomes valid; fragments use it from the next TICK (R88, R146, R353). -/
def Dev.loadKey (d : Dev) (slot key : Nat) : Dev :=
  let d := if slot == 1 then d.set F.TDS_KEYSTAT_SLOT1_VALID 1 else if slot == 2 then d.set F.TDS_KEYSTAT_SLOT2_VALID 1
    else { d with ds := { d.ds with bcastDue := true } }
  { d with ds := { d.ds with keys := d.ds.keys.set (slot - 1) key } }

/-- KEY_NEW (R146, R353): the wrapped key, or nothing where the slot is active or pending. -/
def Dev.keyNew (d : Dev) (slot : Nat) : Option Nat × Dev :=
  if slot == d.f F.TUS_SEQSEL_KSEL || (d.b F.TST_KEYSW_PENDING && slot == d.f F.TST_KEYSW_PEND_SLOT) then (none, d.raise 1447)
  else
    let key := Config.freshKey d.fw.draws
    let d := { d with fw := { d.fw with draws := d.fw.draws + 1 } }.loadKey slot key
    (some (keyWrap d.kekNow key), d)

/-- KEY_REQ (R140, R146). -/
def Dev.msgKeyReq (m : Msg) (d : Dev) : Dev :=
  d.process m (d.tst == 4) (fun d =>
    let slot := wf m 0 34 2
    if slot == 0 || slot == 3 then d.acked m 2
    else
      match d.keyNew slot with
      | (none, d) => d.acked m 5
      | (some w, d) =>
        let r := d.newMsg 4 (msgSeq m) 0
        let u := { r.1 with slot := slot, wkey := w }
        let l : LastMsg := ⟨msgSeq m, some u, d.clk.ticks⟩
        let k : KeyReport := ⟨u, 3, d.clk.ticks⟩
        let t := { r.2.term with last := r.2.term.last.put 5 l, reports := r.2.term.reports ++ [k] }
        { r.2 with term := t }.pushDoc u)

def execKeyReq (s : State) : Host.Outcome State Fault Refusal := s.run (fun d => d.docMsg 5 Dev.msgKeyReq)

/-- The first KEY_REPORT due for repetition is sent again, with its USEQ (R146). -/
def Dev.keyRepeat (d : Dev) : Dev :=
  match d.term.reports.find? (fun r => r.left > 0 && d.clk.ticks ≥ r.tick + 8) with
  | none => d
  | some r =>
    if !d.docentRuns then d
    else
      { d with term := { d.term with reports := d.term.reports.map (fun x =>
        if x == r then { x with left := x.left - 1, tick := d.clk.ticks } else x) } }.pushDoc r.msg

def execKeyReportRepeat (s : State) : Host.Outcome State Fault Refusal := s.run Dev.keyRepeat

/-- ACK (R140, R146): the message it names is sent no more. -/
def Dev.msgAck (m : Msg) (d : Dev) : Dev :=
  d.process m (d.tst == 3 || d.tst == 4) (fun d =>
    let d := d.processed m none
    { d with term := { d.term with reports := d.term.reports.filter (fun r => r.msg.useq != wf m 0 28 8) } })

def execAck (s : State) : Host.Outcome State Fault Refusal := s.run (fun d => d.docMsg 0x0C Dev.msgAck)

/-- REQ is cleared, and Docent withdraws its sleep vote (R158). -/
def Dev.sleepOff (d : Dev) : Dev :=
  let d := d.set F.TST_SLEEP_REQ 0
  let d := if d.b F.PWR_WATCH_CTL_DOCENT_REQ then (d.set F.PWR_WATCH_CTL_DOCENT_REQ 0).watchCause else d
  { d with term := { d.term with sleepSent := false } }

/-- SLEEP_ALLOW (R156, R158). -/
def Dev.msgSleepAllow (m : Msg) (d : Dev) : Dev :=
  d.process m (d.tst == 4) (fun d =>
    let k := wf m 0 30 5
    let d :=
      if wf m 0 35 1 == 1 then (d.set F.TST_SLEEP_ALLOWED 1).set F.TST_SLEEP_K (if 3 ≤ k && k ≤ 16 then k else 16)
      else ((d.set F.TST_SLEEP_ALLOWED 0).sleepOff).watchCause
    (d.acked m 0).tasor m)

def execSleepAllow (s : State) : Host.Outcome State Fault Refusal := s.run (fun d => d.docMsg 7 Dev.msgSleepAllow)

/-- WAKE (R158). -/
def Dev.msgWake (m : Msg) (d : Dev) : Dev := d.process m (d.tst == 4) (fun d => (d.sleepOff.acked m 0).tasor m)

def execWake (s : State) : Host.Outcome State Fault Refusal := s.run (fun d => d.docMsg 8 Dev.msgWake)

/-- A write of TST_SLEEP: REQ is Docent's, and 1 needs ALLOWED (R156). -/
def Dev.writeTstSleep (w : RegWr) (d : Dev) : Dev :=
  if w.agent != .docent || !w.mask.getLsbD 0 then d
  else
    let v := bit w.val 6
    if v && !d.b F.TST_SLEEP_ALLOWED then d
    else { d.setB F.TST_SLEEP_REQ v with term := { d.term with sleepSent := d.term.sleepSent && v } }

/-- Docent's queue until Docent runs again: Curator acts on DEACTIVATE and discards the rest (R355). -/
def Dev.docentDrain (d : Dev) : Dev :=
  if !d.fw.down then d
  else
    let step := fun (d : Dev) (m : Msg) =>
      if msgType m == 0x0A then
        (if msgAddr m == 2 && (m.getD 1 0).toNat != d.f F.TST_SERIAL_SN then d
        else d.tstCmd 3 0 (some (msgFrame m, msgPlace m)))
      else
        let d := d.count F.MBX_FW_STAT_MSG_DISCARD
        if d.fw.discardRaised then d else { d.raise 1448 with fw := { (d.raise 1448).fw with discardRaised := true } }
    { d.ds.docentMsgs.foldl step d with ds := { (d.ds.docentMsgs.foldl step d).ds with docentMsgs := [] } }

end Sys2Proof.Machine
end

