-- ==== Sys2Proof/Machine/Sequencer.lean ====
section
/-! DEFINITION. The frame sequencer (R319 to R335) but for its microwords, which Micro.lean runs: the start at TICK, budget and overrun,
abandonment and restarts, quarantine, the patch RAM and the match registers. -/

namespace Sys2Proof.Machine

/-- General register Gk, 18 bits; the latch, the carry and a scratch word (R330): what a microword has written, else what ROM stretches left. -/
def Dev.seqLeft (d : Dev) (k w : Nat) : Nat := match d.seq.left with | none => 0 | some n => Config.freeValue (n + k) % 2 ^ w
def Dev.seqG (d : Dev) (k : Nat) : Nat := (d.seq.regs.look k).getD (d.seqLeft k 18)
def Dev.seqLatch (d : Dev) : Nat := d.seq.latch.getD (d.seqLeft 64 64)
def Dev.seqCarry (d : Dev) : Bool := d.seq.carry.getD (d.seqLeft 65 1 == 1)
def Dev.seqScratch (d : Dev) (a : Nat) : Nat := (d.seq.scratch.look a).getD (d.seqLeft (66 + a) 18)

/-- ROM words that the spec does not list have worked on the data path: 64 + 1 + 1 + 4096 free values. -/
def Dev.seqWorked (d : Dev) : Dev :=
  { d with seq := { d.seq with left := some d.free, regs := [], scratch := [], carry := none, latch := none }, free := d.free + 4162 }

/-- The cycles a frame may take: BUDGET, at most 30,000, and what the work window of 120 us holds (R323). -/
def Dev.seqLimit (d : Dev) : Nat :=
  min (min (d.f F.SEQ_CTL_BUDGET) 30000) (cycles2 (d.f F.PWR_DVFS_STAT_FPOINT) * 12 / 25)

/-- The cycle of the 20.0 us deadline of grant filing (R325). -/
def Dev.seqDeadline (d : Dev) : Nat := cycles2 (d.f F.PWR_DVFS_STAT_FPOINT) * 2 / 25

/-- The routine from 0000h. -/
def seqRoot : SeqCall := { ret := 0, entry := 0 }

/-- At TICK the routine starts at 0000h, whatever it was doing, if the core is on the PLL, PD02 is powered and the frame is one the
sequencer works in (R319, R423); a frame that did not fail ends a row of failed ones (R326). -/
def Dev.seqTick (d : Dev) : Dev :=
  let fails := if d.f F.SEQ_STAT_STATE != 0 && !d.seq.failed then 0 else d.seq.fails
  let go := d.on 2 && d.onPll && d.sampledFrame d.clk.sfc
  let d := { d with seq := { d.seq with
    fails := fails, failed := false, pc := 0, stack := [seqRoot], post := [], filer := none, cycles := 0
    duties := [0, 0, 0, 0, 0], aband := [], deferred := false } }
  let d := d.set F.SEQ_STAT_STATE (b2n go)
  if go then (d.set F.SEQ_STAT_PC 0).set F.SEQ_STAT_DUTY 0 else d

/-- Some match register is enabled. -/
def Dev.seqPatched (d : Dev) : Bool := !(d.listed F.SEQ_MATCH_EN).isEmpty

/-- Hardware switches every match register off (R326). -/
def Dev.seqQuarantine (d : Dev) : Dev :=
  (((List.range 32).foldl (fun d m => d.setI F.SEQ_MATCH_EN m 0) d).set F.SEQ_STAT_QUARANTINE 1).raise 1414

/-- The present frame has failed; QUAR_N failed frames in a row, each with a match register enabled, quarantine the patch (R326). -/
def Dev.seqFailed (d : Dev) : Dev :=
  if !d.seqPatched then { d with seq := { d.seq with fails := 0, failed := true } }
  else
    let n := if d.seq.failed then d.seq.fails else d.seq.fails + 1
    let d := { d with seq := { d.seq with fails := n, failed := true } }
    if n ≥ max 1 (d.f F.SEQ_CTL_QUAR_N) then d.seqQuarantine else d

/-- The page of the frame stays empty: its grants are lost. -/
def Dev.pageLost (d : Dev) : Dev := { d with ds := { d.ds with hdrFresh := false } }

/-- Grant filing has missed its deadline (R325). -/
def Dev.seqPageLate (d : Dev) : Dev := ((d.pageLost.raise 1409).count F.SEQ_CNT_PAGE_LATE).seqFailed

/-- Duty statistics: the last frame's cycles and the highest (R335). -/
def Dev.seqDuties (d : Dev) : Dev :=
  (List.range 5).foldl (fun d k =>
    let d := d.setI F.SEQ_DUTY_LAST k (d.seq.duties.getD k 0)
    d.setI F.SEQ_DUTY_PEAK k (max (d.f F.SEQ_DUTY_PEAK k) (d.f F.SEQ_DUTY_LAST k))) d

/-- The routine of the frame is over, with the budget consumed; what it posted and did not commit is discarded. -/
def Dev.seqOver (d : Dev) (state : Nat) : Dev :=
  let d := ((d.set F.SEQ_STAT_STATE state).set F.SEQ_STAT_LAST_CYCLES d.seq.cycles).seqDuties
  let d := { d with seq := { d.seq with post := [], filer := none } }
  d.set F.SEQ_STAT_PEAK_CYCLES (max (d.f F.SEQ_STAT_PEAK_CYCLES) (d.f F.SEQ_STAT_LAST_CYCLES))

/-- An overrun: the waiting messages are lost, and a page not yet filed stays empty (R324). -/
def Dev.seqOverrun (d : Dev) : Dev :=
  ((((d.seqOver 4).pageLost.seqMsgsLost).raise 1408).count F.SEQ_CNT_OVERRUNS).seqFailed

/-- n cycles pass, charged to a duty (R320, R323); the filer goes on. -/
def Dev.seqCharge (d : Dev) (k n : Nat) : Dev :=
  { d with seq := { d.seq with
    cycles := d.seq.cycles + n
    duties := d.seq.duties.set k (d.seq.duties.getD k 0 + n)
    filer := d.seq.filer.map (fun m => m - n) } }

/-- A routine is skipped (R332). -/
def Dev.seqSkip (d : Dev) : Dev := (d.raise 1413).count F.SEQ_CNT_SKIPS

/-- What is lost with a skipped routine that the frame's routine called: the page (R332), or the message it was at. -/
def Dev.seqSkipWork (d : Dev) : Dev :=
  if d.f F.SEQ_STAT_DUTY == 1 then d.pageLost
  else if d.f F.SEQ_STAT_DUTY == 2 then { d with ds := { d.ds with seqMsgs := d.ds.seqMsgs.drop 1 } }
  else d

/-- The routine in progress is left for its caller; the routine from 0000h has none, and the frame's routine is over. -/
def Dev.seqLeave (d : Dev) : Dev :=
  match d.seq.stack with
  | r :: p :: up => { d with seq := { d.seq with stack := p :: up, pc := r.ret } }
  | _ => d.seqOver 3

/-- A fault or an interrupt meets the routine in progress (R331, R332). One that has committed goes on at `nx`, and its caller is
restarted once it returns. Any other is abandoned: what it posted and the filer's shadow are discarded, and it restarts at its entry, or is
skipped the fourth time or when it may not restart. -/
def Dev.seqAbandon (d : Dev) (skip : Bool) (nx : Nat) : Dev :=
  match d.seq.stack with
  | [] => d
  | r :: up =>
    if r.committed then { d with seq := { d.seq with deferred := true, pc := nx } }
    else
      let n := d.seq.aband.getD r.entry 0 + 1
      let d := { d with seq := { d.seq with post := [], filer := none, aband := d.seq.aband.put r.entry n, pc := r.entry } }
      if skip || n ≥ 4 then
        let d := d.seqSkip
        (if up.length ≤ 1 then d.seqSkipWork else d).seqLeave
      else d.count F.SEQ_CNT2_RESTARTS

/-- A return: a fault that waited for it restarts the caller (R331). -/
def Dev.seqReturn (d : Dev) : Dev :=
  let late := d.seq.deferred
  let d := { d with seq := { d.seq with deferred := false } }.seqLeave
  if late then d.seqAbandon false d.seq.pc else d

/-- An uncorrectable patch word: the match register through which execution came is switched off (R333). -/
def Dev.seqPatchLost (d : Dev) (addr : Nat) : Dev :=
  let m := d.f F.SEQ_STAT_LAST_MATCH
  ((d.setI F.SEQ_MATCH_EN m 0).setI F.SEQ_MATCH_FAULTED m 1).eccUncorr 7 addr 1410

/-- Single-bit errors in patch or scratch words (R333). -/
def Dev.seqCorrected (d : Dev) (n : Nat) : Dev :=
  (List.range n).foldl (fun d _ => ((d.count F.SEQ_CNT_ECC_CORR).raise 1411).eccCorr) d

/-- The commit of grant filing, now: the frame's grants are filed, and the page is ready at this cycle (R98, R330). -/
def Dev.seqFiled (d : Dev) : Dev :=
  if !d.ds.hdrFresh then d
  else if d.on 9 then d.fileGrants (d.seq.cycles * 25000000 / cycles2 (d.f F.PWR_DVFS_STAT_FPOINT)) else d.pageLost

/-- The filing routine that has missed its deadline is left without restart, and the frame goes on behind its call (R325). -/
def Dev.seqLate (d : Dev) : Dev :=
  let d := d.seqPageLate
  let d := { d with seq := { d.seq with post := [], filer := none } }
  match d.seq.stack.reverse with
  | p :: r :: _ => if d.f F.SEQ_STAT_DUTY == 1 then { d with seq := { d.seq with stack := [p], pc := r.ret } } else d
  | _ => d

/-- The deadline has passed with the grants of a valid header not yet filed. -/
def Dev.seqLateCheck (d : Dev) : Dev :=
  if d.seqBusy && d.ds.hdrFresh && d.seq.cycles ≥ d.seqDeadline then d.seqLate else d

/-- The budget or the work window has run out (R324): the cycles to the limit are charged to the duty in progress. -/
def execSeqOverrun (s : State) : Host.Outcome State Fault Refusal :=
  s.run (fun d => if d.seqBusy && d.on 2 then (d.seqCharge (d.f F.SEQ_STAT_DUTY) (d.seqLimit - d.seq.cycles)).seqOverrun else d)

def execSeqPageLate (s : State) : Host.Outcome State Fault Refusal :=
  s.run (fun d => if d.ds.hdrFresh && d.on 2 && 1 ≤ d.f F.SEQ_STAT_STATE && d.f F.SEQ_STAT_STATE ≤ 3 then d.seqLate else d)

/-! Registers that only Curator writes (R329, R335). -/

def curatorOnly (w : RegWr) (d : Dev) (g : Dev → Dev) : Dev := if w.agent == .curator then g d else d

/-- RESTART interrupts the routine in progress (R331). -/
def Dev.seqRestart (d : Dev) : Dev := if d.seqBusy then d.seqAbandon false d.seq.pc else d

def Dev.writeSeqCtl (w : RegWr) (d : Dev) : Dev :=
  curatorOnly w d (fun d =>
    let d := (d.put F.SEQ_CTL_BUDGET w).put F.SEQ_CTL_QUAR_N w
    if w.fld F.SEQ_CTL_RESTART == 1 then d.seqRestart else d)

def execSeqRestartRequest (w : RegWr) (s : State) : Host.Outcome State Fault Refusal :=
  s.run (fun d => if w.fld F.SEQ_CTL_RESTART == 1 then d.gated 0x160008 w (Dev.writeSeqCtl w) else d)

/-- The range of an enabled match register holds word a (R329). -/
def Dev.seqGuards (d : Dev) (a : Nat) : Bool :=
  (d.listed F.SEQ_MATCH_EN).any (fun p =>
    p.2 == 1 && d.f F.SEQ_MATCH_PADDR p.1 ≤ a && a < d.f F.SEQ_MATCH_PADDR p.1 + max 1 (d.f F.SEQ_MATCH_LEN p.1))

/-- A word of patch RAM with the SECDED codes of its halves (R327). -/
def patchWord (v : Nat) : Nat :=
  v % 2 ^ 144 + Config.seqSecded (v % 2 ^ 72) % 2 ^ 8 * 2 ^ 144 + Config.seqSecded (bits v 72 72) % 2 ^ 8 * 2 ^ 152

/-- A write of SEQ_PATCH_DATA[i]; the third writes the word (R329). -/
def Dev.writePatchData (i : Nat) (w : RegWr) (d : Dev) : Dev :=
  curatorOnly w d (fun d =>
    if i < 2 then d.setI F.SEQ_PATCH_DATA_DATA i w.val
    else
      let a := d.f F.SEQ_PATCH_ADDR_WORD
      if d.seqGuards a then d.set F.SEQ_STAT_REFUSED 1
      else
        let v := patchWord (d.f F.SEQ_PATCH_DATA_DATA 0 + d.f F.SEQ_PATCH_DATA_DATA 1 * 2 ^ 64 + w.val % 2 ^ 16 * 2 ^ 128)
        { d with seq := { d.seq with patch := SMap.store 0 a v d.seq.patch } }.set F.SEQ_PATCH_ADDR_WORD (a + 1))

def execSeqPatchWrite (w : RegWr) (s : State) : Host.Outcome State Fault Refusal :=
  s.run (fun d => d.gated 0x160070 w (Dev.writePatchData 2 w))

/-- A direct write of SEQ_MATCH[m]; one that enables it ends a quarantine (R326). -/
def Dev.matchDirect (m : Nat) (w : RegWr) (d : Dev) : Dev :=
  curatorOnly w d (fun d =>
    let d := (((d.put F.SEQ_MATCH_ADDR w m).put F.SEQ_MATCH_PADDR w m).put F.SEQ_MATCH_LEN w m).put F.SEQ_MATCH_EN w m
    let d := d.put F.SEQ_MATCH_FAULTED w m
    if w.fld F.SEQ_MATCH_EN == 1 then d.set F.SEQ_STAT_QUARANTINE 0 else d)

/-- A write of SEQ_MATCH[m], staged or direct; a staged one leaves FAULTED as it is (R329, R361). -/
def Dev.writeMatch (m : Nat) (w : RegWr) (d : Dev) : Dev := d.stWrite (0x160100 + 8 * m) w (Dev.matchDirect m)

def execSeqMatchWrite (m : Nat) (w : RegWr) (s : State) : Host.Outcome State Fault Refusal :=
  s.run (fun d => if m ≥ 32 then d else d.gated (0x160100 + 8 * m) w (Dev.writeMatch m w))

end Sys2Proof.Machine
end

