-- ==== Sys2Proof/Machine/Sluice.lean ====
section
/-! DEFINITION. The Sluice channels (R278 to R302): commands, the program ahead, the six instructions, reads and writes of blocks,
retirement, and the forerunner's descriptors. The rate limiter of R301 spaces requests in time only. -/

namespace Sys2Proof.Machine

/-- Channel c. -/
def Dev.ch (d : Dev) (c : Nat) : SlcCh := SMap.getD d.slc.chans c {}

def Dev.chPut (d : Dev) (c : Nat) (x : SlcCh) : Dev := { d with slc := { chans := SMap.store {} c x d.slc.chans } }

/-- A refused command or write (R279). -/
def Dev.slcRefuse (d : Dev) (c why : Nat) : Dev :=
  ((d.set F.SLC_REFUSE_REFUSED 1).set F.SLC_REFUSE_CH c).set F.SLC_REFUSE_WHY why

/-- Every write of a Sluice register is refused where no fabric is wired (R29, R279). -/
def Dev.slcWired (d : Dev) (c : Nat) (g : Dev → Dev) : Dev := if d.b F.ID_INTEG_FAB_WIRED then g d else d.slcRefuse c 5

/-- Event e of channel c: 0 END, 1 HALF, 2 FULL, 3 SIGNAL, 4 ERROR (R303). -/
def slcEvent (c e : Nat) : Nat := 1040 + 5 * c + e

/-- Forerunner mode. -/
def Dev.slcRing (d : Dev) (c : Nat) : Bool := d.b F.SLC_CH_CFG_MODE c

/-- Descriptors in the ring (R298). -/
def Dev.slcRingSize (d : Dev) (c : Nat) : Nat := 2 ^ max 4 (min 16 (d.f F.SLC_CH_CFG_RING_LOG2 c))

/-- Address of instruction or descriptor i (R281, R298). -/
def Dev.slcAddr (d : Dev) (c i : Nat) : Nat :=
  d.f F.SLC_CH_PROG_BASE c + (if d.slcRing c then 32 * (i % d.slcRingSize c) else 16 * i)

/-- The status word of R297 for a state. -/
def SlcCh.status (x : SlcCh) (state octets : Nat) : Nat :=
  state + 8 * b2n x.tmo + 16 * x.err + 256 * min octets 0xFFFFFFFF + 2 ^ 40 * (x.idx % 65536) + 2 ^ 56 * b2n x.later

/-- SLC_CH_STAT and SLC_CH_PC as read. -/
def Dev.slcStat (d : Dev) (c : Nat) : Nat := (d.ch c).status (d.ch c).state (d.ch c).octets
def Dev.slcPc (d : Dev) (c : Nat) : Nat := d.slcAddr c (d.ch c).idx % 2 ^ 48

/-- A request of the channel (R280, R506); `burst` numbers it. -/
def Dev.slcReq (d : Dev) (c : Nat) (wr : Bool) (burst addr len : Nat) (data : List Byte) : Dev :=
  d.request { kind := if wr then .slcWrite c burst else .slcRead c burst, write := wr, mstr := 1,
              func := d.f F.SLC_CH_CFG_FUNC c, addr := addr, len := len, data := data }

/-- The pond lets the channel run (R286). -/
def Dev.slcPond (d : Dev) (c : Nat) : Bool := !d.b F.SLC_CH_CFG_DEFER c || d.f F.PWR_POND_LVL_STATE == 0

/-- The last instruction in progress lets the next begin (R284): it has made its last request and carries no BARRIER. -/
def SlcIns.passed (x : SlcIns) (ring : Bool) : Bool :=
  !x.hold && x.fail.isNone && x.reads.isEmpty && x.got.isEmpty && x.tblRead.isNone && x.tblLeft == 0 &&
    (if ring then x.back ≥ 2 && !bit x.w0 60 && !bit x.w0 61 else !bit x.w0 59)

/-- Room for a further instruction (R284). -/
def SlcCh.mayBegin (x : SlcCh) (ring : Bool) : Bool :=
  x.prog.isEmpty || (x.prog.length == 1 && x.prog.all (fun p => p.passed ring))

/-- Read ahead: the channel holds nothing ahead, has no fetch under way, and runs (R281, R299). -/
def Dev.slcFetch (d : Dev) (c : Nat) : Dev :=
  let x := d.ch c
  let ring := d.slcRing c
  if x.state != 1 || x.fetchBad || x.fetch.isSome || !x.ahead.isEmpty then d
  else if ring && !x.mayBegin true then d
  else if !ring && x.next > 65535 then d
  else
    let a := d.slcAddr c x.next
    (d.chPut c { x with fetch := some x.burst, burst := x.burst + 1 }).slcReq c false x.burst
      (if ring then a else a / 64 * 64) (if ring then 32 else 64) []

/-- The channel's status shows instruction i with o octets. -/
def Dev.slcShow (d : Dev) (c i o : Nat) : Dev := d.chPut c { d.ch c with idx := i, octets := o }

/-- Abandon what the channel has read ahead, and the fetch under way. -/
def Dev.slcDropAhead (d : Dev) (c : Nat) : Dev :=
  let x := d.ch c
  let d := match x.fetch with
    | some b => d.fabAbandon (fun r => r.kind == FabKind.slcRead c b)
    | none => d
  d.chPut c { x with ahead := [], fetch := none, fetchBad := false }

/-- The loop state is cleared. -/
def Dev.slcLoopClear (d : Dev) (c : Nat) : Dev :=
  let d := (((d.setI F.SLC_CH_LOOP_REMAINING c 0).setI F.SLC_CH_LOOP_ACTIVE c 0).setI F.SLC_CH_LOOP_ENDLESS c 0).setI
    F.SLC_CH_LOOP_HOME c 0
  d.chPut c { d.ch c with soff := 0, doff := 0 }

/-! Errors. -/

/-- The channel stops in ERROR at instruction i (R290): requests not yet made are not made, but for the blocks before
position `keep` of a failed instruction and its writes. -/
def Dev.slcError (d : Dev) (c err i octets : Nat) (later : Bool) : Dev :=
  let d := d.slcDropAhead c
  let d := d.chPut c { d.ch c with state := 6, err := err, idx := i, octets := octets, later := later, awaits := none, pausing := false }
  d.raise (slcEvent c 4)

/-- Withdraw what an instruction has not yet done from position p on (R290): reads, answers that wait, and writes that have not gone out;
answers to reads under way are discarded. -/
def Dev.slcCut (d : Dev) (c : Nat) (x : SlcIns) (p : Nat) : SlcIns × Dev :=
  let gone := (x.reads.filter (fun r => r.2.1 ≥ p)).map (·.1) ++ x.tblRead.toList
  let waits := (x.writes.filter (fun w => w.2.1 ≥ p && d.fab.queue.any (fun r => r.kind == FabKind.slcWrite c w.1))).map (·.1)
  ({ x with
      reads := x.reads.filter (fun r => r.2.1 < p), got := x.got.filter (fun g => g.pos < p), tblRead := none, tblLeft := 0
      writes := x.writes.filter (fun w => !waits.contains w.1) },
   d.fabAbandon (fun r => gone.any (fun b => r.kind == FabKind.slcRead c b) || waits.any (fun b => r.kind == FabKind.slcWrite c b)))

/-- The instructions after the oldest issue nothing further (R290). -/
def Dev.slcCutLater (d : Dev) (c : Nat) : Dev :=
  match (d.ch c).prog with
  | h :: t =>
    let cut := t.foldl (fun (a : List SlcIns × Dev) y => let q := a.2.slcCut c y 0; (a.1 ++ [q.1], q.2)) ([], d)
    cut.2.chPut c { d.ch c with prog := h :: cut.1 }
  | [] => d

/-- The oldest instruction has failed at a position: the channel enters ERROR with the octets before it. In forerunner mode
the descriptor is first written back (R300). -/
def Dev.slcFailHead (d : Dev) (c : Nat) : Dev :=
  let x := d.ch c
  match x.prog with
  | h :: t =>
    match h.fail with
    | some (p, e) =>
      let d := d.slcCutLater c
      if d.slcRing c && e != 5 && h.back == 0 then d else if (d.ch c).state == 6 then d.slcShow c h.idx p
      else d.slcError c e h.idx p (!t.isEmpty)
    | none => d
  | [] => d

/-- Instruction k in progress fails at a position (R290): the lowest position counts. It is taken when no earlier instruction is
in progress. -/
def Dev.slcFail (d : Dev) (c k p e : Nat) : Dev :=
  let x := d.ch c
  match x.prog[k]? with
  | some y =>
    let f := match y.fail with | some (q, e') => if q ≤ p then (q, e') else (p, e) | none => (p, e)
    let r := d.slcCut c y f.1
    let d := r.2.chPut c { x with prog := setAt k { r.1 with fail := some f } x.prog }
    if k == 0 then d.slcFailHead c else d
  | none => d

/-! Bursts. -/

/-- Octets of the next burst from an address: at most 16 beats, and none past a 1,024-octet boundary (R287). -/
def burstLen (addr len : Nat) : Nat := min len (1024 - addr % 1024)

/-- Cut len octets at an address into bursts; gives offsets and lengths. A burst but the last ends at a boundary. -/
def cutBursts (addr len : Nat) : List (Nat × Nat) :=
  let first := burstLen addr len
  if len == 0 then []
  else (0, first) :: (List.range ((len - first + 1023) / 1024)).map (fun i => (first + 1024 * i, min 1024 (len - first - 1024 * i)))

/-- Read a block for instruction k: the bursts of its source, each with its place and destination. -/
def Dev.slcReadBlock (d : Dev) (c k src dst len : Nat) : Dev :=
  let d := (cutBursts src len).foldl (fun (d : Dev) b =>
    let x := d.ch c
    match x.prog[k]? with
    | some y =>
      let y := { y with reads := y.reads ++ [(x.burst, y.pos + b.1, b.2, dst + b.1)] }
      (d.chPut c { x with burst := x.burst + 1, prog := setAt k y x.prog }).slcReq c false x.burst (src + b.1) b.2 []
    | none => d) d
  let x := d.ch c
  match x.prog[k]? with
  | some y => d.chPut c { x with prog := setAt k { y with pos := y.pos + len } x.prog }
  | none => d

/-- Write octets that were read at position p to an address, in bursts of that address. -/
def Dev.slcWriteBlock (d : Dev) (c k p dst : Nat) (data : List Byte) : Dev :=
  (cutBursts dst data.length).foldl (fun (d : Dev) b =>
    let x := d.ch c
    match x.prog[k]? with
    | some y =>
      let y := { y with writes := y.writes ++ [(x.burst, p + b.1, b.2)] }
      (d.chPut c { x with burst := x.burst + 1, prog := setAt k y x.prog }).slcReq c true x.burst (dst + b.1) b.2
        ((data.drop b.1).take b.2)
    | none => d) d

/-- The next table read of a GATHER: eight entries (R288). -/
def Dev.slcTable (d : Dev) (c k : Nat) : Dev :=
  let x := d.ch c
  match x.prog[k]? with
  | some y =>
    if y.tblLeft == 0 || y.tblRead.isSome || y.fail.isSome then d
    else
      let a := bits y.w0 0 48 + 8 * y.tblNext
      (d.chPut c { x with burst := x.burst + 1, prog := setAt k { y with tblRead := some x.burst } x.prog }).slcReq c false
        x.burst a (min 64 (8 * y.tblLeft)) []
  | none => d

/-! Beginning an instruction. -/

/-- An effective address with a length lies within 2^48 (R289). -/
def within48 (a : Int) (len : Nat) : Bool := 0 ≤ a && a + len ≤ 2 ^ 48

/-- What R289 finds wrong with a block: 1 ALIGN, 8 beyond 2^48, 0 nothing. -/
def blockErr (aligned : List Int) (addrs : List (Int × Nat)) : Nat :=
  if aligned.any (fun a => a % 64 != 0) then 1 else if addrs.any (fun p => !within48 p.1 p.2) then 8 else 0

/-- The instruction the channel would begin now: its words, when the channel runs, there is room, and its index is at most 65,535
(R284, R285, R296). -/
def Dev.slcReady (d : Dev) (c : Nat) : Option (List Nat) :=
  let x := d.ch c
  if c < 16 && d.on 28 && x.state == 1 && x.mayBegin (d.slcRing c) && (d.slcRing c || x.next ≤ 65535) then x.ahead.head?
  else none

/-- Begin an instruction; the one at index `nx` follows. -/
def Dev.slcBeginTo (d : Dev) (c nx : Nat) (y : SlcIns) : Dev :=
  let x := d.ch c
  let x := { x with prog := x.prog ++ [y], next := nx, ahead := x.ahead.drop 1 }
  (d.chPut c (if x.prog.length == 1 then { x with idx := y.idx, octets := 0 } else x)).slcFetch c

/-- Begin the instruction that is next: it is in progress, and its successor follows. -/
def Dev.slcBegin (d : Dev) (c : Nat) (y : SlcIns) : Dev := d.slcBeginTo c ((d.ch c).next + 1) y

/-- An instruction that fails before its first request: it waits for the earlier one, then stops the channel. -/
def Dev.slcReject (d : Dev) (c err : Nat) : Dev :=
  if (d.ch c).prog.isEmpty then d.slcError c err (d.ch c).next 0 false else d

/-- Run `g` on the two words of the instruction that is next, if its OP is op in native mode. -/
def Dev.slcOp (d : Dev) (c op : Nat) (g : Nat → Nat → Dev) : Dev :=
  match d.slcReady c with
  | some l => if !d.slcRing c && bits (l.getD 0 0) 60 4 == op then g (l.getD 0 0) (l.getD 1 0) else d
  | none => d

/-- MOVE (R287). -/
def Dev.slcMove (d : Dev) (c : Nat) : Dev :=
  d.slcOp c 1 (fun w0 w1 =>
    let x := d.ch c
    let len := bits w0 48 9 * 65536 + bits w1 48 16
    let src := (bits w0 0 48 : Int) + x.soff
    let dst := (bits w1 0 48 : Int) + x.doff
    let e := blockErr [src, dst, len] [(src, len), (dst, len)]
    if e != 0 then d.slcReject c e
    else
      let d := d.slcBegin c { idx := x.next, w0 := w0, w1 := w1 }
      d.slcReadBlock c ((d.ch c).prog.length - 1) src.toNat dst.toNat len)

def execSlcMove (c : Nat) (s : State) : Host.Outcome State Fault Refusal := s.run (fun d => d.slcMove c)

/-- GATHER (R288): the contiguous address takes the loop offset, the table and its entries do not. -/
def Dev.slcGather (d : Dev) (c : Nat) : Dev :=
  d.slcOp c 2 (fun w0 w1 =>
    let x := d.ch c
    let n := bits w1 48 16
    let base := (bits w1 0 48 : Int) + (if bit w0 56 then x.soff else x.doff)
    let tbl := bits w0 0 48
    let e := blockErr [base, tbl] [(base, 0), (tbl, 8 * n)]
    if e != 0 then d.slcReject c e
    else
      let d := d.slcBegin c { idx := x.next, w0 := w0, w1 := w1, src := base, tblLeft := n }
      d.slcTable c ((d.ch c).prog.length - 1))

def execSlcGather (c : Nat) (s : State) : Host.Outcome State Fault Refusal := s.run (fun d => d.slcGather c)

/-- One entry of a table read (R288, R289). -/
def Dev.slcEntry (d : Dev) (c k e : Nat) : Dev :=
  match (d.ch c).prog[k]? with
  | some y =>
    if y.fail.isSome then d
    else
      let a := bits e 0 48
      let len := 64 * bits e 48 16
      let cont := y.src + y.pos
      let err := blockErr [(a : Int)] [((a : Int), len), (cont, len)]
      if len == 0 then d
      else if err != 0 then d.slcFail c k y.pos err
      else if bit y.w0 56 then d.slcReadBlock c k cont.toNat a len
      else d.slcReadBlock c k a cont.toNat len
  | none => d

/-- LOOP (R292): the strides are checked on every pass (R289), after BACK and the nesting and before the count moves. -/
def Dev.slcLoop (d : Dev) (c : Nat) : Dev :=
  d.slcOp c 3 (fun w0 w1 =>
    let x := d.ch c
    let i := x.next
    let back := bits w0 36 12
    let count := bits w0 0 24
    let ss := signed 32 (bits w1 32 32)
    let ds := signed 32 (bits w1 0 32)
    let active := d.b F.SLC_CH_LOOP_ACTIVE c
    if back == 0 || back > i then d.slcReject c 2
    else if active && i != d.f F.SLC_CH_LOOP_HOME c then d.slcReject c 7
    else if ss % 64 != 0 || ds % 64 != 0 then d.slcReject c 1
    else
      let endless := if active then d.b F.SLC_CH_LOOP_ENDLESS c else count == 0
      let left := (if active then d.f F.SLC_CH_LOOP_REMAINING c else count) - 1
      let over' := !endless && left == 0
      let d := (((d.setI F.SLC_CH_LOOP_REMAINING c (if endless then 0 else left)).setI F.SLC_CH_LOOP_ACTIVE c (b2n (!over'))).setI
        F.SLC_CH_LOOP_ENDLESS c (b2n endless)).setI F.SLC_CH_LOOP_HOME c i
      if over' then (d.chPut c { d.ch c with soff := 0, doff := 0 }).slcBegin c { idx := i, w0 := w0, w1 := w1 }
      else
        let d := d.slcDropAhead c
        let d := d.chPut c { d.ch c with soff := x.soff + ss, doff := x.doff + ds }
        d.slcBeginTo c (i - back) { idx := i, w0 := w0, w1 := w1 })

def execSlcLoop (c : Nat) (s : State) : Host.Outcome State Fault Refusal := s.run (fun d => d.slcLoop c)

/-! WAIT. -/

/-- A flag of a channel. -/
def Dev.slcFlag (d : Dev) (c n : Nat) : Bool := bit (d.f F.SLC_FLAGS_FLAGS c) n

/-- Flags are set: channels that wait for them have seen them (R293, R302). -/
def Dev.slcFlagSet (d : Dev) (c mask : Nat) : Dev :=
  let d := d.setI F.SLC_FLAGS_FLAGS c (d.f F.SLC_FLAGS_FLAGS c ||| mask)
  let x := d.ch c
  if x.prog.any (fun y => y.hold && bit y.w0 56 && bit mask (bits y.w0 0 11)) then d.chPut c { x with hit := true } else d

/-- The condition of a WAIT holds now. -/
def Dev.slcHolds (d : Dev) (c w0 : Nat) : Bool :=
  if bit w0 56 then d.slcFlag c (bits w0 0 11) else d.b F.EVQ_SRC_STATE (bits w0 0 11) == bit w0 55

/-- A satisfied WAIT clears its flag unless KEEP is set. -/
def Dev.slcWaitTake (d : Dev) (c w0 : Nat) : Dev :=
  if bit w0 56 && !bit w0 54 then d.setI F.SLC_FLAGS_FLAGS c (withBit (d.f F.SLC_FLAGS_FLAGS c) (bits w0 0 11) false) else d

/-- WAIT (R293): satisfied at once, or the channel waits. -/
def Dev.slcWait (d : Dev) (c : Nat) : Dev :=
  d.slcOp c 4 (fun w0 w1 =>
    let x := d.ch c
    let y : SlcIns := { idx := x.next, w0 := w0, w1 := w1 }
    if bit w0 56 && bits w0 0 11 > 15 then d.slcReject c 2
    else if d.slcHolds c w0 then (d.slcWaitTake c w0).slcBegin c y
    else
      let d := d.slcBegin c { y with hold := true }
      d.chPut c { d.ch c with
        state := 2, hit := false, awaits := if bit w0 56 then none else some (bits w0 0 11, bit w0 55) })

def execSlcWait (c : Nat) (s : State) : Host.Outcome State Fault Refusal := s.run (fun d => d.slcWait c)

/-- The instruction in progress that waits. -/
def SlcCh.waiter (x : SlcCh) : Option SlcIns := x.prog.find? (·.hold)

/-- The WAIT no longer holds the channel. -/
def Dev.slcUnhold (d : Dev) (c : Nat) : Dev :=
  let x := d.ch c
  (d.chPut c { x with
    state := if x.state == 2 then 1 else x.state, awaits := none, hit := false
    prog := x.prog.map (fun y => { y with hold := false }) }).slcFetch c

/-- The awaited state or flag has appeared. -/
def Dev.slcSatisfied (d : Dev) (c : Nat) : Dev :=
  match (d.ch c).waiter with
  | some y =>
    if (d.ch c).state == 2 && ((d.ch c).hit || d.slcHolds c y.w0) then (d.slcWaitTake c y.w0).slcUnhold c else d
  | none => d

def execSlcWaitSatisfied (c : Nat) (s : State) : Host.Outcome State Fault Refusal :=
  s.run (fun d => if c < 16 && d.on 28 then d.slcSatisfied c else d)

/-- A WAIT times out: an error, or TMO; one that is satisfied does not (R293, R302). -/
def Dev.slcTimeout (d : Dev) (c : Nat) : Dev :=
  let x := d.ch c
  match x.waiter with
  | some y =>
    if x.state != 2 || bits y.w1 0 32 == 0 then d
    else if x.hit || d.slcHolds c y.w0 then d.slcSatisfied c
    else if bit y.w0 53 then (d.chPut c { x with tmo := true }).slcUnhold c
    else
      let k := x.prog.length - 1
      let d := d.chPut c { x with state := 1, awaits := none, prog := x.prog.map (fun z => { z with hold := false }) }
      d.slcFail c k 0 6
  | none => d

def execSlcWaitTimeout (c : Nat) (s : State) : Host.Outcome State Fault Refusal :=
  s.run (fun d => if c < 16 && d.on 28 then d.slcTimeout c else d)

/-! SIGNAL, END, bad instructions. -/

/-- Steps 2 and 3 of a SIGNAL (R294). -/
def Dev.slcSignalled (d : Dev) (c w0 : Nat) : Dev :=
  let d := if bit w0 56 then d.slcFlagSet (bits w0 48 4) (2 ^ bits w0 0 4) else d
  d.raiseIf (bit w0 55) (slcEvent c 3)

/-- The report beat of a SIGNAL at index i, at the time of its write. -/
def Dev.slcReport (d : Dev) (c i time : Nat) : List Byte :=
  leBytes 8 ({ d.ch c with idx := i }.status 1 0) ++
    leBytes 8 (d.f F.SLC_CH_MARKS_HALF_CNT c + 2 ^ 32 * d.f F.SLC_CH_MARKS_FULL_CNT c) ++ leBytes 8 (timeLo time) ++
    List.replicate 40 0

/-- SIGNAL (R294): nothing is issued until every earlier write has been answered; `at'` is the time since the TICK. -/
def Dev.slcSignal (d : Dev) (c at' : Nat) : Dev :=
  d.slcOp c 5 (fun w0 w1 =>
    let x := d.ch c
    let a := bits w1 0 48
    let e := if bit w0 54 then blockErr [(a : Int)] [((a : Int), 64)] else 0
    if x.prog.any (fun y => !y.writes.isEmpty) then d
    else if e != 0 then d.slcReject c e
    else
      let d := d.slcBegin c { idx := x.next, w0 := w0, w1 := w1, pos := 64 }
      if bit w0 54 then d.slcWriteBlock c ((d.ch c).prog.length - 1) 0 a (d.slcReport c x.next (d.timeAt at'))
      else d.slcSignalled c w0)

def execSlcSignal (c at' : Nat) (s : State) : Host.Outcome State Fault Refusal := s.run (fun d => d.slcSignal c at')

/-- HALF and FULL marks (R284, R297). -/
def Dev.slcMarks (d : Dev) (c : Nat) (half full : Bool) : Dev :=
  let d := if half then (d.count F.SLC_CH_MARKS_HALF_CNT c).raise (slcEvent c 1) else d
  if full then (d.count F.SLC_CH_MARKS_FULL_CNT c).raise (slcEvent c 2) else d

/-- What every retirement brings: activity kind 13, the performance event, the marks. -/
def Dev.slcRetired (d : Dev) (c : Nat) (half full : Bool) : Dev :=
  ((d.act 13 1).pmc 0x13 1 { func := some (d.f F.SLC_CH_CFG_FUNC c) }).slcMarks c half full

/-- The channel ends: IDLE, and its END event (R295, R299). -/
def Dev.slcIdle (d : Dev) (c : Nat) : Dev :=
  let d := d.slcDropAhead c
  (d.chPut c { d.ch c with state := 0, pausing := false }).raise (slcEvent c 0)

/-- END retires once every earlier instruction has (R295). -/
def Dev.slcEnd (d : Dev) (c : Nat) : Dev :=
  d.slcOp c 6 (fun w0 _ =>
    if (d.ch c).prog.isEmpty then ((d.slcShow c (d.ch c).next 0).slcRetired c (bit w0 58) (bit w0 57)).slcIdle c else d)

def execSlcEnd (c : Nat) (s : State) : Host.Outcome State Fault Refusal := s.run (fun d => d.slcEnd c)

/-- A reserved OP, or no instruction after 65,535 (R296). -/
def Dev.slcBad (d : Dev) (c : Nat) : Dev :=
  let x := d.ch c
  if c ≥ 16 || !d.on 28 || d.slcRing c || x.state != 1 || !x.prog.isEmpty then d
  else if x.next > 65535 then d.slcError c 2 x.next 0 false
  else match x.ahead with
    | l :: _ => let op := bits (l.getD 0 0) 60 4; if op == 0 || op ≥ 7 then d.slcError c 2 x.next 0 false else d
    | [] => d

def execSlcBadInstruction (c : Nat) (s : State) : Host.Outcome State Fault Refusal := s.run (fun d => d.slcBad c)

/-! Retirement. -/

/-- Nothing of the instruction is left to do. -/
def SlcIns.finished (y : SlcIns) (ring : Bool) : Bool :=
  !y.hold && y.fail.isNone && y.reads.isEmpty && y.got.isEmpty && y.tblRead.isNone && y.tblLeft == 0 && y.writes.isEmpty && (!ring || y.back == 3)

/-- A STOP or a pause takes effect once nothing is in progress (R285, R286); a failed fetch stops the channel there (R290). -/
def Dev.slcStand (d : Dev) (c : Nat) : Dev :=
  let x := d.ch c
  if !x.prog.isEmpty then d
  else if x.state == 4 then
    let d := d.slcDropAhead c
    d.chPut c { d.ch c with state := if x.pausing then 3 else 5, idx := x.next, octets := 0, pausing := false }
  else if x.state == 1 && x.fetchBad then d.slcError c 5 x.next 0 false
  else d

/-- The write-backs of descriptor k follow once its writes have been answered: word 3, then word 0 (R299, R300). -/
def Dev.slcBack (d : Dev) (c k : Nat) : Dev :=
  let x := d.ch c
  match x.prog[k]? with
  | some y =>
    if (!d.slcRing c && y.back == 0) || !y.reads.isEmpty || !y.got.isEmpty || !y.writes.isEmpty || k != 0 then d
    else
      let a := d.slcAddr c y.idx
      let e := match y.fail with | some (p, e) => (e, p) | none => (0, y.written)
      let put := fun (off v : Nat) (back : Nat) =>
        (d.chPut c { x with burst := x.burst + 1, prog := setAt k { y with back := back, writes := [(x.burst, 0, 0)] } x.prog }).slcReq
          c true x.burst (a + off) 8 (leBytes 8 v)
      if y.back == 0 then put 24 (e.1 * 2 ^ 60 + min e.2 0xFFFFFFFF) 1
      else if y.back == 1 then (put 0 (withBit y.w0 63 false) 2).slcFetch c
      else if y.back == 2 then
        let d := d.chPut c { x with prog := setAt k { y with back := 3 } x.prog }
        if y.fail.isSome then d.slcFailHead c else d
      else d
  | none => d

/-- The oldest instruction retires (R284); a descriptor with EOC ends the chain (R299). A channel that polls, or that a STOP or a pause
stopped while it polled, stands at the descriptor polled, whatever retires after that (R285, R286). -/
def Dev.slcRetire (d : Dev) (c : Nat) : Dev :=
  let x := d.ch c
  match x.prog with
  | h :: t =>
    let ring := d.slcRing c || h.back != 0
    let stands := x.state == 3 || x.state == 5 || x.state == 7
    if !h.finished ring || x.state == 6 then d
    else
      let d := d.chPut c (if stands then { x with prog := t } else { x with prog := t, idx := h.idx, octets := h.written })
      let d := if ring then d.slcRetired c false (bit h.w0 62) else d.slcRetired c (bit h.w0 58) (bit h.w0 57)
      if ring && bit h.w0 61 then d.slcIdle c
      else
        let d := match t with
          | y :: _ => d.slcShow c y.idx y.written
          | [] => d
        let d := if t.any (fun y => y.fail.isSome) then d.slcFailHead c else d
        ((d.slcStand c).slcBack c 0).slcFetch c
  | [] => d

def execSlcInstructionRetire (c : Nat) (s : State) : Host.Outcome State Fault Refusal :=
  s.run (fun d => if c < 16 && d.on 28 then d.slcRetire c else d)

/-! Descriptors (R298 to R300). -/

/-- The descriptor at hand begins its move. -/
def Dev.slcDescriptor (d : Dev) (c : Nat) : Dev :=
  match d.slcReady c with
  | some l =>
    if !d.slcRing c then d
    else
      let x := d.ch c
      let w0 := l.getD 0 0
      let w1 := l.getD 1 0
      let w2 := l.getD 2 0
      let len := bits w0 0 25
      let src := bits w1 0 48
      let dst := bits w2 0 48
      let e := blockErr [(src : Int), (dst : Int), (len : Int)] [((src : Int), len), ((dst : Int), len)]
      let y : SlcIns := { idx := x.next, w0 := w0, w1 := w1, w2 := w2 }
      let d := d.slcBegin c (if e == 0 then y else { y with fail := some (0, e) })
      if e == 0 then d.slcReadBlock c ((d.ch c).prog.length - 1) src dst len else d
  | none => d

def execSlcDescriptor (c : Nat) (s : State) : Host.Outcome State Fault Refusal :=
  s.run (fun d => let d := d.slcDescriptor c; if c < 16 then d.slcBack c 0 else d)

/-! Responses. -/

/-- 64-bit words of octets (R4). -/
def slcWords (l : List Byte) (n : Nat) : List Nat := (List.range n).map (fun i => ofLe ((l.drop (8 * i)).take 8))

/-- Error code of an answer that is not DONE (R290, R502). -/
def rspErr (c : Rsp) : Nat := match c with | .deny => 4 | _ => 3

/-- A read of the program or of a descriptor is answered (R281, R290, R299). -/
def Dev.slcFetched (d : Dev) (c : Nat) (r : FabReq) (data : List Byte) (ok : Bool) : Dev :=
  let x := d.ch c
  let d := d.chPut c { x with fetch := none }
  if !ok then (d.chPut c { d.ch c with fetchBad := true, state := if x.state == 7 then 1 else x.state }).slcStand c
  else if d.slcRing c then
    let l := slcWords data 4
    if bit (l.getD 0 0) 63 then d.chPut c { d.ch c with state := if x.state == 7 then 1 else x.state, ahead := [l] }
    else if x.state == 1 then d.chPut c { d.ch c with state := 7, idx := x.next, octets := 0 } else d
  else
    let w := slcWords data 8
    let from' := (d.slcAddr c x.next - r.addr) / 16
    d.chPut c { d.ch c with
      ahead := ((List.range 4).drop from').map (fun i => [w.getD (2 * i) 0, w.getD (2 * i + 1) 0]) }

/-- Position and code of the first failing beat of a read burst, if any. -/
def firstBad (codes : List Rsp) (beats : Nat) : Option (Nat × Rsp) :=
  ((codes.take beats).zipIdx.find? (fun (p : Rsp × Nat) => p.1 != .done)).map (fun (p : Rsp × Nat) => (p.2, p.1))

/-- The writes of a read burst that is answered: the beats before a failing one are written (R290). -/
def Dev.slcPut (d : Dev) (c k : Nat) (g : SlcGot) : Dev :=
  let n := match g.bad with | some (b, _) => min g.len (64 * b) | none => g.len
  let n := match ((d.ch c).prog[k]?).bind (·.fail) with | some (p, _) => min n (p - g.pos) | none => n
  let d := if n == 0 then d else d.slcWriteBlock c k g.pos g.dst ((g.data ++ List.replicate g.len 0).take n)
  match g.bad with
  | some (b, r) => d.slcFail c k (g.pos + 64 * b) (rspErr r)
  | none => d

/-- The answered burst whose writes are next in address order: no read before it is unanswered (R284). -/
def SlcIns.due (y : SlcIns) : Option SlcGot :=
  y.got.find? (fun g => y.reads.all (fun r => g.pos < r.2.1) && y.got.all (fun h => g.pos ≤ h.pos))

/-- Answered bursts are written in address order, up to the first that is unanswered (R284). -/
def Dev.slcPutDue (d : Dev) (c k : Nat) : Nat → Dev
  | 0 => d
  | n + 1 =>
    match (d.ch c).prog[k]? with
    | some y =>
      match y.due with
      | some g => ((d.chPut c { d.ch c with prog := setAt k { y with got := y.got.erase g } (d.ch c).prog }).slcPut c k g).slcPutDue c k n
      | none => d
    | none => d

/-- A data read of instruction k is answered: its writes follow those of the reads before it (R284). -/
def Dev.slcData (d : Dev) (c k : Nat) (e : Nat × Nat × Nat × Nat) (data : List Byte) (bad : Option (Nat × Rsp)) : Dev :=
  let x := d.ch c
  match x.prog[k]? with
  | some y =>
    let g : SlcGot := { pos := e.2.1, len := e.2.2.1, dst := e.2.2.2, data := data, bad := bad }
    let y := { y with reads := y.reads.erase e, got := y.got ++ [g] }
    (d.chPut c { x with prog := setAt k y x.prog }).slcPutDue c k y.got.length
  | none => d

/-- A table read of instruction k is answered (R288). -/
def Dev.slcTabled (d : Dev) (c k : Nat) (data : List Byte) (ok : Bool) : Dev :=
  let x := d.ch c
  match x.prog[k]? with
  | some y =>
    let n := min 8 y.tblLeft
    let d := d.chPut c { x with
      prog := setAt k { y with tblRead := none, tblNext := y.tblNext + n, tblLeft := y.tblLeft - n } x.prog }
    if !ok then d.slcFail c k y.pos 5
    else ((slcWords data n).foldl (fun d e => d.slcEntry c k e) d).slcTable c k
  | none => d

/-- What a step of an instruction leaves to do: write-backs of a descriptor, and reading ahead. -/
def Dev.slcAfter (d : Dev) (c k : Nat) : Dev := (d.slcBack c k).slcFetch c

/-- A read of the channel is answered: one code per beat. -/
def Dev.slcReadDone (c burst : Nat) (data : List Byte) (codes : List Rsp) (d : Dev) : Dev :=
  let all := (codes.find? (fun r => r != .done)).getD .done
  d.answer (.slcRead c burst) all (fun r d =>
    let x := d.ch c
    let bad := firstBad codes (fabBeats r.addr r.len)
    if x.fetch == some burst then (d.slcFetched c r data bad.isNone).slcFetch c
    else match x.prog.findIdx? (fun y => y.tblRead == some burst) with
      | some k => (d.slcTabled c k data bad.isNone).slcAfter c k
      | none => match x.prog.findIdx? (fun y => y.reads.any (fun e => e.1 == burst)) with
        | some k => match (x.prog.getD k { idx := 0, w0 := 0, w1 := 0 }).reads.find? (fun e => e.1 == burst) with
          | some e => (d.slcData c k e data bad).slcAfter c k
          | none => d
        | none => d)

def execSlcReadResponse (c burst : Nat) (data : List Byte) (codes : List Rsp) (s : State) : Host.Outcome State Fault Refusal :=
  s.run (Dev.slcReadDone c burst data codes)

/-- A write of an instruction in progress is answered (R290, R294, R299). -/
def Dev.slcWritten (d : Dev) (c k : Nat) (e : Nat × Nat × Nat) (r : Rsp) (fbeat : Nat) : Dev :=
  let x := d.ch c
  match x.prog[k]? with
  | some y =>
    let y := { y with writes := y.writes.erase e, written := if r.ok then y.written + e.2.2 else y.written }
    let d := d.chPut c { x with
      prog := setAt k y x.prog, octets := if k == 0 && x.state != 6 && x.idx == y.idx then y.written else x.octets }
    if y.back != 0 then
      if r.ok then d.slcBack c k
      else ((d.chPut c { d.ch c with prog := setAt k { y with back := 3 } x.prog }).slcCutLater c).slcError c (rspErr r) y.idx y.written (x.prog.length > 1)
    else if !r.ok then d.slcFail c k (e.2.1 + 64 * fbeat) (rspErr r)
    else if !d.slcRing c && bits y.w0 60 4 == 5 && x.state != 6 then d.slcSignalled c y.w0
    else d
  | none => d

def Dev.slcWriteDone (c burst : Nat) (code : Rsp) (fbeat : Nat) (d : Dev) : Dev :=
  d.answer (.slcWrite c burst) code (fun r d =>
    let x := d.ch c
    match x.prog.findIdx? (fun y => y.writes.any (fun e => e.1 == burst)) with
    | some k => match (x.prog.getD k { idx := 0, w0 := 0, w1 := 0 }).writes.find? (fun e => e.1 == burst) with
      | some e =>
        let d := if code.ok && e.2.2 != 0 then d.countN F.SLC_CH_OCT_OCTETS r.len c else d
        (d.slcWritten c k e code fbeat).slcAfter c k
      | none => d
    | none => if code.ok && r.len ≥ 64 then d.countN F.SLC_CH_OCT_OCTETS r.len c else d)

def execSlcWriteResponse (c burst : Nat) (r : Rsp) (fbeat : Nat) (s : State) : Host.Outcome State Fault Refusal :=
  s.run (Dev.slcWriteDone c burst r fbeat)

/-! Commands. -/

/-- GO and RESUME start in RUNNING, or in PAUSED where the pond holds the channel (R279, R286). -/
def Dev.slcStart (d : Dev) (c : Nat) (x : SlcCh) : Dev :=
  (d.chPut c { x with state := if d.slcPond c then 1 else 3, pausing := false }).slcFetch c

/-- GO (R279): a descriptor whose last write-back is unanswered still retires with its mark. -/
def Dev.slcGo (d : Dev) (c : Nat) : Dev :=
  let x := d.ch c
  if x.state != 0 && x.state != 5 then d.slcRefuse c 2
  else if d.f F.SLC_CH_PROG_BASE c % (if d.slcRing c then 64 else 16) != 0 then d.slcRefuse c 4
  else (d.slcLoopClear c).slcStart c { burst := x.burst, prog := x.prog }

/-- STOP (R285): a WAIT not yet satisfied is ended, to be executed afresh. -/
def Dev.slcStop (d : Dev) (c : Nat) : Dev :=
  let x := d.ch c
  if x.state == 7 || x.state == 3 then
    let d := d.slcDropAhead c
    d.chPut c { d.ch c with state := 5, idx := x.next, octets := 0 }
  else if x.state == 1 || x.state == 2 then
    let nx := match x.waiter with | some y => y.idx | none => x.next
    let d := d.slcDropAhead c
    (d.chPut c { d.ch c with
      state := 4, pausing := false, awaits := none, hit := false, next := nx, prog := x.prog.filter (fun y => !y.hold) }).slcStand c
  else d

/-- The pond pauses a deferrable channel by the rule of R285 (R286): it shows STOPPING until what has begun retires. -/
def Dev.slcPause (d : Dev) (c : Nat) : Dev :=
  let x := d.ch c
  if x.state == 7 then
    let d := d.slcDropAhead c
    d.chPut c { d.ch c with state := 3, idx := x.next, octets := 0 }
  else if x.state == 1 || x.state == 2 then
    let nx := match x.waiter with | some y => y.idx | none => x.next
    let d := d.slcDropAhead c
    (d.chPut c { d.ch c with
      state := 4, pausing := true, awaits := none, hit := false, next := nx, prog := x.prog.filter (fun y => !y.hold) }).slcStand c
  else d

/-- At a TICK the pond state in force pauses or resumes the deferrable channels (R286). -/
def Dev.slcTick (d : Dev) : Dev :=
  (d.slc.chans.map (·.1)).foldl (fun d c =>
    let x := d.ch c
    if !d.slcPond c then d.slcPause c
    else if x.state == 3 then (d.chPut c { x with state := 1 }).slcFetch c
    else if x.pausing then (d.chPut c { x with state := 1, pausing := false }).slcFetch c
    else d) d

def Dev.slcResume (d : Dev) (c : Nat) : Dev :=
  let x := d.ch c
  if x.state != 5 then d.slcRefuse c 3 else d.slcStart c x

/-- The polled descriptor is read again (R299); a read already under way serves. -/
def Dev.slcReread (d : Dev) (c : Nat) : Dev :=
  let x := d.ch c
  if x.state != 7 || x.fetch.isSome then d
  else
    (d.chPut c { x with fetch := some x.burst, burst := x.burst + 1 }).slcReq c false x.burst (d.slcAddr c x.next) 32 []

/-- CLEAR (R279): what is left of the failed run is forgotten; its writes under way complete. -/
def Dev.slcClear (d : Dev) (c : Nat) : Dev :=
  let x := d.ch c
  if x.state != 6 then d.slcRefuse c 6
  else
    let ids := x.prog.flatMap (fun y => y.reads.map (·.1) ++ y.tblRead.toList)
    let d := d.fabAbandon (fun r => ids.any (fun b => r.kind == FabKind.slcRead c b))
    d.chPut c { x with state := 0, prog := [] }

/-- A write of SLC_CH_CMD[c]. -/
def Dev.writeSlcCmd (c : Nat) (w : RegWr) (d : Dev) : Dev :=
  d.slcWired c (fun d =>
    let v := w.val % 32
    if v == 1 then d.slcGo c
    else if v == 2 then d.slcStop c
    else if v == 4 then d.slcResume c
    else if v == 8 then d.slcReread c
    else if v == 16 then d.slcClear c
    else if v == 0 then d
    else d.slcRefuse c 2)

/-- The row of one command bit: a write of SLC_CH_CMD[c] with it alone. -/
def Dev.slcRow (v c : Nat) (w : RegWr) (d : Dev) : Dev :=
  if c ≥ 16 || w.val % 32 != v then d else d.gated (0x140010 + 0x40 * c) w (Dev.writeSlcCmd c w)

def execSlcGo (c : Nat) (w : RegWr) (s : State) : Host.Outcome State Fault Refusal := s.run (Dev.slcRow 1 c w)
def execSlcStop (c : Nat) (w : RegWr) (s : State) : Host.Outcome State Fault Refusal := s.run (Dev.slcRow 2 c w)
def execSlcResume (c : Nat) (w : RegWr) (s : State) : Host.Outcome State Fault Refusal := s.run (Dev.slcRow 4 c w)
def execSlcKick (c : Nat) (w : RegWr) (s : State) : Host.Outcome State Fault Refusal := s.run (Dev.slcRow 8 c w)
def execSlcClear (c : Nat) (w : RegWr) (s : State) : Host.Outcome State Fault Refusal := s.run (Dev.slcRow 16 c w)

/-- POLL_US has passed since an unowned descriptor was read (R299). -/
def execSlcPollReread (c : Nat) (s : State) : Host.Outcome State Fault Refusal :=
  s.run (fun d => if c < 16 && d.on 28 && d.f F.SLC_CH_CFG_POLL_US c != 0 then d.slcReread c else d)

/-- A write of SLC_CH_CFG[c] or SLC_CH_PROG[c] (R279). -/
def Dev.writeSlcCfg (c : Nat) (prog : Bool) (w : RegWr) (d : Dev) : Dev :=
  d.slcWired c (fun d =>
    let st := (d.ch c).state
    if st != 0 && st != 5 && st != 6 then d.slcRefuse c 1
    else d.putAll (fldsAt ((if prog then 0x140008 else 0x140000) + 0x40 * c)) w)

def execSlcCfgWrite (c : Nat) (prog : Bool) (w : RegWr) (s : State) : Host.Outcome State Fault Refusal :=
  s.run (fun d => if c ≥ 16 then d else d.gated ((if prog then 0x140008 else 0x140000) + 0x40 * c) w (Dev.writeSlcCfg c prog w))

/-- Writes of the two flag registers. -/
def Dev.writeFlagSet (w : RegWr) (d : Dev) : Dev :=
  d.slcWired (w.fld F.SLC_FLAG_SET_CH) (fun d => d.slcFlagSet (w.fld F.SLC_FLAG_SET_CH) (w.fld F.SLC_FLAG_SET_MASK))

def Dev.writeFlagClr (w : RegWr) (d : Dev) : Dev :=
  d.slcWired (w.fld F.SLC_FLAG_CLR_CH) (fun d =>
    let c := w.fld F.SLC_FLAG_CLR_CH
    d.setI F.SLC_FLAGS_FLAGS c (d.f F.SLC_FLAGS_FLAGS c &&& (65535 - w.fld F.SLC_FLAG_CLR_MASK)))

def execSlcFlagSet (w : RegWr) (s : State) : Host.Outcome State Fault Refusal := s.run (fun d => d.gated 0x140480 w (Dev.writeFlagSet w))
def execSlcFlagClr (w : RegWr) (s : State) : Host.Outcome State Fault Refusal := s.run (fun d => d.gated 0x140488 w (Dev.writeFlagClr w))

/-- A write of SLC_REFUSE: only REFUSED is cleared. -/
def Dev.writeSlcRefuse (w : RegWr) (d : Dev) : Dev := d.slcWired (d.f F.SLC_REFUSE_CH) (fun d => d.put F.SLC_REFUSE_REFUSED w)

/-- A reset of function f abandons its channels at once (R280). -/
def Dev.slcReset (d : Dev) (f : Nat) : Dev :=
  (d.slc.chans.map (·.1)).foldl (fun d c =>
    let x := d.ch c
    if d.f F.SLC_CH_CFG_FUNC c != f || x.state == 0 then d
    else
      let d := d.fabAbandon (fun r => match r.kind with | .slcRead c' _ => c' == c | _ => false)
      let d := { d with fab := { d.fab with queue := d.fab.queue.filter (fun r => match r.kind with | .slcWrite c' _ => c' != c | _ => true) } }
      let d := d.chPut c { x with state := 6, err := 9, prog := [], ahead := [], fetch := none, fetchBad := false, awaits := none, pausing := false }
      d.raise (slcEvent c 4)) d


end Sys2Proof.Machine
end

