-- ==== Sys2Proof/Machine/Firmware.lean ====
section
/-! DEFINITION. Curator, Docent and the mailboxes (R336 to R359): doorbells and areas, images, boot, the MB2 and MB0 messages
but for TWIN_CTL, sealed commands, services, and Docent's going down; and the function reset (R272). -/

namespace Sys2Proof.Machine

/-! Function reset. -/

/-- A reset of function f: its rings, Sluice channels, event queues and open staging sets (R272, R280, R316, R369). -/
def Dev.funcReset (d : Dev) (f : Nat) : Dev := (((d.ringsReset f).slcReset f).evFuncReset f).stgRelease (2 + f)

/-- A write of HRG_FUNC_RST of function f (R272, R532). -/
def Dev.writeFuncRst (f : Nat) (w : RegWr) (d : Dev) : Dev :=
  if d.resetting f then d
  else if w.mask != 255 then d.dbBad f 0 5 false
  else if w.fld F.HRG_FUNC_RST_GO == 1 then d.funcReset f
  else d

/-- The function reset register stands on the doorbell page: its write is held while PD27 is unpowered (R414, R523). -/
def Dev.funcRstRow (f : Nat) (w : RegWr) (d : Dev) : Dev :=
  if d.denied w.agent || !d.on 27 then d.doorbellRow f 4 w else Dev.writeFuncRst f w (d.dbRung w.agent f 4)

def execHrgFuncRst (f : Nat) (w : RegWr) (s : State) : Host.Outcome State Fault Refusal :=
  s.run (fun d => if f ≥ 4 then d else d.funcRstRow f w)

/-- The writes of doorbell pages held for PD27 are delivered once it is usable (R414). -/
def Dev.heldDoorbells (d : Dev) : Dev :=
  let l := d.pwr.heldDb
  l.foldl (fun d p => if p.2.1 == 4 then Dev.writeFuncRst p.1 p.2.2 d else d.doorbell p.1 p.2.1 p.2.2)
    { d with pwr := { d.pwr with heldDb := [] } }

def execFuncrstN (f : Nat) (s : State) : Host.Outcome State Fault Refusal := s.run (fun d => if f ≥ 4 then d else d.funcReset f)

/-! Mailboxes. -/

/-- A refused doorbell (R345). -/
def Dev.mbRefuse (d : Dev) (n why : Nat) : Dev := ((d.setI F.MBX_STAT_REFUSED n 1).setI F.MBX_STAT_WHY n why).raise 1443

/-- The agent may use mailbox n (R346). -/
def Dev.mbPermits (d : Dev) (n : Nat) (a : Agent) : Bool :=
  match a with
  | .host f _ => if n == 2 then d.f F.MBX_ACL_CTRL_FN == f.val else bit (d.f F.MBX_ACL_MB0_FN) f.val
  | _ => false

/-- The number of a host function. -/
def agentFn (a : Agent) : Nat := match a with | .host f _ => f.val | _ => 0

/-- A halted Curator answers every MB2 request with 04h (R342); with no Docent running, MB0 is answered 0Dh (R351, R355). -/
def Dev.mbTaken (d : Dev) (n : Nat) : Dev :=
  if n == 2 && d.f F.MBX_BOOT_STAGE == 7 then d.mbRespond 2 4 []
  else if n == 0 && d.f F.MBX_FW_STAT_DSTATE != 2 && d.f F.MBX_FW_STAT_DSTATE != 3 then d.mbRespond 0 0x0D []
  else d

/-- A doorbell of MB0 or MB2 (R345). -/
def Dev.mbDoorbell (n : Nat) (w : RegWr) (d : Dev) : Dev :=
  let q := w.fld F.MBX_DB_SEQ
  if q != (d.f F.MBX_STAT_LAST_SEQ n + 1) % 65536 then d.mbRefuse n 1
  else if d.mbOwned n then d.mbRefuse n 2
  else if !d.mbPermits n w.agent then d.mbRefuse n 3
  else
    let d := (d.setI F.MBX_STAT_OWNER n 1).setI F.MBX_STAT_LAST_SEQ n q
    let w0 := d.mbWord n 0
    (d.mbFill n 0 [w0 - bits w0 44 2 * 2 ^ 44 + (agentFn w.agent) * 2 ^ 44]).mbTaken n

/-- An acknowledgement of a notice (R347). -/
def Dev.mbAck (w : RegWr) (d : Dev) : Dev :=
  if w.fld F.MBX_DB_ACK == 0 || !d.mbOwned 1 then d
  else if !d.mbPermits 1 w.agent then d.mbRefuse 1 3
  else if w.fld F.MBX_DB_SEQ != d.f F.MBX_STAT_RESP_SEQ 1 then d.mbRefuse 1 1
  else d.setI F.MBX_STAT_OWNER 1 0

/-- A write of MBX_DB[n]. -/
def Dev.writeMbDb (n : Nat) (w : RegWr) (d : Dev) : Dev := if n == 1 then d.mbAck w else d.mbDoorbell n w

def execMbDoorbell (n : Nat) (w : RegWr) (s : State) : Host.Outcome State Fault Refusal :=
  s.run (fun d => if n == 0 || n == 2 then d.gated (0x178000 + 8 * n) w (Dev.writeMbDb n w) else d)

def execMb1Ack (w : RegWr) (s : State) : Host.Outcome State Fault Refusal := s.run (fun d => d.gated 0x178008 w (Dev.writeMbDb 1 w))

/-- A write of an area word: the host's while OWNER is 0 and by a permitted function, the firmware's while it is 1; Docent has
MB0 and MB1, Curator MB2 (R345 to R347, R358). -/
def Dev.writeMbArea (n k : Nat) (w : RegWr) (d : Dev) : Dev :=
  let ok := match w.agent with
    | .host _ _ => n != 1 && !d.mbOwned n && d.mbPermits n w.agent
    | .docent => (n == 0 && d.mbOwned 0) || (n == 1 && !d.mbOwned 1)
    | .curator => n == 2 && d.mbOwned 2
    | _ => false
  if ok then d.put F.MBX_AREA_DATA w n k else d

/-- Octets as area words. -/
def mbPack (l : List Byte) : List Nat := (List.range ((l.length + 7) / 8)).map (fun i => ofLe ((l.drop (8 * i)).take 8))

/-- A notice is posted on MB1 (R347). -/
def Dev.mbPost (d : Dev) (ty : Nat) (body : List Nat) : Dev :=
  let q := (d.f F.MBX_STAT_RESP_SEQ 1 + 1) % 65536
  let w0 := q + ty * 2 ^ 16 + 8 * body.length * 2 ^ 32 + min d.fw.lost 65535 * 2 ^ 48
  let d := { d with fw := { d.fw with lost := 0 } }.mbFill 1 0 (w0 :: body)
  ((d.setI F.MBX_STAT_OWNER 1 1).setI F.MBX_STAT_RESP_SEQ 1 q).raise 1441

/-- The next notice: a queued one, else the oldest frame of the management buffer (R347, R352, R94). -/
def Dev.mbNotice (d : Dev) : Dev :=
  if d.mbOwned 1 || !d.docentRuns || !d.on 1 then d
  else
    match d.fw.notices with
    | (ty, body) :: t => { d with fw := { d.fw with notices := t } }.mbPost ty (body.map BitVec.toNat)
    | [] =>
      match d.ds.mgmt with
      | f :: t =>
        let d := { d with ds := { d.ds with mgmt := t } }
        if bit d.fw.mask 4 then d.mbPost 0x84 (mbPack f) else d
      | [] => d

/-- Docent posts; where it has diagnostic text, a TEXT notice of these octets is queued first (R352). -/
def Dev.noticePost (text : Option (List Byte)) (d : Dev) : Dev :=
  let d := match text with
    | some l => if d.docentRuns then d.notice 0x86 ((mbPack (l.take 4088)).map (BitVec.ofNat 64)) else d
    | none => d
  d.mbNotice

def execMb1NoticePost (text : Option (List Byte)) (s : State) : Host.Outcome State Fault Refusal := s.run (Dev.noticePost text)

/-- The request in mailbox n, taken by its firmware: TYPE `ty` with `len` body octets; another length is answered 02h (R349). -/
def Dev.mbReq (d : Dev) (n ty len : Nat) (g : Dev → Dev) : Dev :=
  let open' := if n == 0 then d.docentRuns else 4 ≤ d.f F.MBX_BOOT_STAGE && d.f F.MBX_BOOT_STAGE ≤ 6 && d.fw.load.isNone
  if !d.on 1 || !d.mbOwned n || !open' || bits (d.mbWord n 0) 16 8 != ty then d
  else if bits (d.mbWord n 0) 32 12 != len then d.mbRespond n 2 []
  else g d

/-- TYPEs that Docent and Curator know (R350, R351). -/
def mbKnown (n ty : Nat) : Bool := if n == 0 then 1 ≤ ty && ty ≤ 7 else 0x41 ≤ ty && ty ≤ 0x49

/-- A request of unknown TYPE in MB0 or MB2 (R349). -/
def Dev.mbUnknown (d : Dev) (n : Nat) : Dev :=
  let ty := bits (d.mbWord n 0) 16 8
  if (n == 0 || n == 2) && !mbKnown n ty then d.mbReq n ty (bits (d.mbWord n 0) 32 12) (fun d => d.mbRespond n 1 []) else d

/-! Boot. -/

/-- Stages 1 to 3 (R341), or HALTED where the ROM check fails: a request that waits in MB2 is answered 04h (R342). -/
def Dev.boot (romOk : Bool) (d : Dev) : Dev :=
  if d.f F.MBX_BOOT_STAGE != 0 || !d.on 1 then d
  else
    let d := d.bootStage 1
    if !romOk then
      let d := d.bootStage 7
      if d.mbOwned 2 then d.mbRespond 2 4 [] else d
    else
      let d := ((d.bootStage 2).raiseIf d.pwr.boPending 1354).set F.TST_SERIAL_SN Config.serial
      let d := { d with pwr := { d.pwr with boPending := false } }
      let d := (List.range 16).foldl (fun d k => d.setI F.PWR_POND_COEF_PJ k (Config.calCoef k)) d
      let d := (List.range 33).foldl (fun d k => d.setI F.PWR_POND_STATIC_NJ k (Config.calStatic k)) d
      let d := (d.set F.PWR_POND_THERM_T_SOFT Config.calSoft).set F.PWR_POND_THERM_T_HARD Config.calHard
      ((d.set F.MBX_ACL_MB0_FN 1).set F.MBX_ACL_CTRL_FN 0).bootStage 3

def execBoot (romOk : Bool) (s : State) : Host.Outcome State Fault Refusal := s.run (Dev.boot romOk)

/-! Images (R338 to R340). -/

/-- Word k of an image, a run of its octets as one number, first octet highest. -/
def imgWord (m : List Byte) (k : Nat) : Nat := ofLe ((m.drop (8 * k)).take 8)
def imgBe (m : List Byte) (from' n : Nat) : Nat := ofBe ((m.drop from').take n)

def imgKeyid (m : List Byte) : Nat := bits (imgWord m 0) 40 2
def imgSvn (m : List Byte) : Nat := bits (imgWord m 1) 16 16
def imgVersion (m : List Byte) : Nat := bits (imgWord m 1) 0 16
def imgLen (m : List Byte) : Nat := bits (imgWord m 1) 32 32

/-- Where the body begins, and the body. -/
def imgStart (m : List Byte) : Nat := if imgKeyid m == 1 then 192 else 128
def imgBody (m : List Byte) : List Byte := (m.drop (imgStart m)).take (imgLen m)

/-- The longest body of a TYPE (R339, check 2). -/
def imgMax (type : Nat) : Nat := if type == 2 then 4 * 2 ^ 20 - 128 else if type == 1 then 48 * 1024 else 32 * 8 + 512 * 24

/-- Check 1: MAGIC, TYPE, reserved header fields. -/
def imgHeaderOk (m : List Byte) (type : Nat) : Bool :=
  let w2 := imgWord m 2
  m.length ≥ 128 && bits (imgWord m 0) 0 32 == 0x49564D47 && bits (imgWord m 0) 32 8 == type &&
    bits (imgWord m 0) 42 22 == 0 && imgWord m 15 == 0 &&
    (if type == 1 then w2 == 0 || bit w2 63
     else if type == 2 then w2 == 0
     else 1 ≤ w2 % 256 && w2 % 256 ≤ 32)

/-- Check 2: the body fits the TYPE and the octets fetched. -/
def imgLenOk (m : List Byte) (type : Nat) : Bool :=
  let n := imgLen m
  n % 8 == 0 && n ≤ imgMax type && imgStart m + n ≤ m.length &&
    (type != 3 || (8 * (imgWord m 2 % 256) ≤ n && (n - 8 * (imgWord m 2 % 256)) % 24 == 0))

/-- Check 3: the key. -/
def imgKeyOk (m : List Byte) (type : Nat) : Bool :=
  imgKeyid m == 0 || (imgKeyid m == 1 && type == 2 && Config.ownerDigest == some (sha256 ((m.drop 128).take 64)))

/-- Check 4: the signature and the digest. -/
def imgSigned (m : List Byte) : Bool :=
  let key := if imgKeyid m == 1 then imgBe m 128 64 else Config.acirsynKey
  ecdsaOk key (sha256 (m.take 56)) (imgBe m 56 32) (imgBe m 88 32) && imgBe m 24 32 == sha256 (imgBody m)

/-- The present floor of a TYPE and KEYID, and the times it was raised. -/
def Dev.floorOf (d : Dev) (type keyid : Nat) : Nat × Nat := d.fw.floors.getD (4 * type + keyid) (0, 0)

/-- The body is fetched: the checks on the header have passed (R339, checks 1 to 3). -/
def imgFits (m : List Byte) (type : Nat) : Bool := imgHeaderOk m type && imgLenOk m type && imgKeyOk m type

/-- The status the checks give an image: 00h when it is accepted (R339). -/
def Dev.imgStatus (d : Dev) (m : List Byte) (type : Nat) : Nat :=
  if !imgHeaderOk m type then 3
  else if !imgLenOk m type then 2
  else if !imgKeyOk m type then 7
  else if !imgSigned m then 7
  else if imgSvn m < (d.floorOf type (imgKeyid m)).1 then 8
  else 0

/-- An image that runs or is enabled takes the place of the one of its TYPE. -/
def Dev.imgRuns (d : Dev) (m : List Byte) (type : Nat) : Dev :=
  { d with fw := { d.fw with runs := ⟨type, imgKeyid m, imgSvn m⟩ :: d.fw.runs.filter (fun r => r.type != type) } }

/-- A run of n patch words from a on lies outside every enabled register's range (R340). -/
def Dev.patchRunFree (d : Dev) (a n : Nat) : Bool := a + n ≤ 512 && (List.range n).all (fun i => !d.seqGuards (a + i))

/-- The lowest such run. -/
def Dev.patchRun (d : Dev) (n : Nat) : Option Nat := (List.range 513).find? (fun a => d.patchRunFree a n)

/-- Word i of SEQ_MATCH registers of a patch placed at word a: the records, then the old registers disabled (R340). -/
def Dev.patchMatches (d : Dev) (m : List Byte) (a : Nat) : SMap StgVal :=
  let body := imgBody m
  let n := imgWord m 2 % 256
  let rec' := fun i =>
    let v := imgWord body i % 2 ^ 30
    bits v 0 12 + (a + bits v 12 9) % 512 * 2 ^ 12 + bits v 21 9 * 2 ^ 21 + 2 ^ 30
  (List.range 32).foldl (fun s i =>
    if i < n then s.put (0x160100 + 8 * i) ⟨2 ^ 31 - 1, rec' i⟩
    else if d.b F.SEQ_MATCH_EN i then s.put (0x160100 + 8 * i) ⟨2 ^ 30, 0⟩
    else s) []

/-- The microwords of a sequencer patch are in the lowest free run of patch RAM as they are fetched (R339, R340). -/
def Dev.patchFill (d : Dev) (m : List Byte) : Dev :=
  let body := imgBody m
  let nm := imgWord m 2 % 256
  let n := (body.length - 8 * nm) / 24
  match d.patchRun n with
  | none => d
  | some a => (List.range n).foldl (fun (d : Dev) i =>
      let k := nm + 3 * i
      let v := patchWord (imgWord body k + imgWord body (k + 1) * 2 ^ 64 + imgWord body (k + 2) % 2 ^ 16 * 2 ^ 128)
      { d with seq := { d.seq with patch := SMap.store 0 (a + i) v d.seq.patch } }) d

/-- The body of an image is hashed as it is fetched into its destination, whatever its signature says (R339): Docent's RAM, or patch RAM. -/
def Dev.imgPlace (d : Dev) (m : List Byte) (type : Nat) : Dev :=
  if type == 2 then { d with fw := { d.fw with docRam := imgBody m } } else if type == 3 then d.patchFill m else d

/-- A checked sequencer patch, whose words are in place, has its match set armed in set 2 (R340): the status and the response body. -/
def Dev.seqPatch (d : Dev) (m : List Byte) (frame : Nat) : Nat × List Nat × Dev :=
  match d.patchRun (((imgBody m).length - 8 * (imgWord m 2 % 256)) / 24) with
  | none => (0xF, [], d)
  | some a =>
    if d.stgState 2 != 0 then (6, [], d)
    else
      let d := (d.stgOpen 2 0).stgPut 2 (d.patchMatches m a)
      let d := (d.setI F.STG_APPLY_FRAME 2 frame).setI F.STG_APPLY_NEXT 2 (b2n (frame == 0))
      let d := d.stgCheckArm 2
      if d.f F.STG_STAT_REASON 2 != 0 then (3, [], d.stgCancel 2)
      else
        let d := (d.set F.SEQ_PATCH_ID_VER (imgVersion m)).set F.SEQ_PATCH_ID_DIGEST (imgWord m 3 % 2 ^ 32)
        (0, [a], d.imgRuns m 3)

/-- An image load has failed: LAST_ERR, the stage, and no Docent runs (R342, R350). -/
def Dev.imgFailed (d : Dev) (l : ImgLoad) (status : Nat) : Dev :=
  let d := d.set F.MBX_BOOT_LAST_ERR status
  let d := if l.type == 2 then (d.bootStage 4).set F.MBX_FW_STAT_DSTATE (if d.fw.down then 4 else 0) else d
  if l.auto then d else d.mbRespond 2 status []

/-- An image has passed every check (R340, R343, R350). -/
def Dev.imgAccepted (d : Dev) (l : ImgLoad) (m : List Byte) : Dev :=
  match l.type with
  | 1 =>
    let d := (d.set F.MBX_BOOT_CUR_PATCH_VER (imgVersion m)).imgRuns m 1
    { d with fw := { d.fw with patched := true, integ := imgWord m 2 } }.mbRespond 2 0 []
  | 2 =>
    let d := ((d.set F.MBX_DOCENT_VERSION (imgVersion m)).set F.MBX_DOCENT_SVN (imgSvn m)).set F.MBX_DOCENT_DIGEST
      (imgWord m 3 % 2 ^ 32)
    let d := { d with fw := { d.fw with accepted := true, digest := imgBe m 24 32, restarted := l.auto } }.imgRuns m 2
    if l.auto then d else d.mbRespond 2 0 [imgVersion m + imgSvn m * 2 ^ 16]
  | _ =>
    let r := d.seqPatch m l.frame
    if r.1 == 0 then r.2.2.mbRespond 2 0 r.2.1 else r.2.2.imgFailed l r.1

/-- An image fetch ends (R339). -/
def Dev.imgDone (m : List Byte) (c : Rsp) (d : Dev) : Dev :=
  d.answer .image c (fun r d =>
    let d := { d with pwr := { d.pwr with imageVote := false } }
    match d.fw.load with
    | none => d
    | some l =>
      let d := { d with fw := { d.fw with load := none } }
      let m := m.take r.len
      let st := if c.ok then d.imgStatus m l.type else 9
      let d := if c.ok && imgFits m l.type then d.imgPlace m l.type else d
      if st == 0 then d.imgAccepted l m else d.imgFailed l st)

def execImageFetchDone (image : List Byte) (r : Rsp) (s : State) : Host.Outcome State Fault Refusal :=
  s.run (Dev.imgDone image r)

/-! MB2 (R350). -/

/-- Release of Curator, as ID_FW gives it. -/
def curRelease (d : Dev) : Nat := d.f F.ID_FW_CUR_MAJOR * 256 + d.f F.ID_FW_CUR_MINOR

def execCurInfo (s : State) : Host.Outcome State Fault Refusal :=
  s.run (fun d => d.mbReq 2 0x41 0 (fun d =>
    d.mbRespond 2 0 [curRelease d + d.f F.MBX_BOOT_CUR_PATCH_VER * 2 ^ 16 + d.f F.MBX_BOOT_STAGE * 2 ^ 32, d.f F.TST_SERIAL_SN]))

/-- CUR_PATCH: in stage 4, before the first DOCENT_LOAD, once per boot (R343). -/
def execCurPatch (s : State) : Host.Outcome State Fault Refusal :=
  s.run (fun d => d.mbReq 2 0x42 16 (fun d =>
    if d.f F.MBX_BOOT_STAGE != 4 || d.fw.patched || d.fw.loaded then d.mbRespond 2 4 []
    else d.imgFetch { type := 1, addr := d.mbWord 2 1, len := d.mbWord 2 2 }))

/-- DOCENT_LOAD: WD_MS, AUTO, and the fetch, once a running Docent has stopped (R350, R356). -/
def Dev.docentLoad (d : Dev) : Dev :=
  let ms := bits (d.mbWord 2 3) 0 10
  let ms := if ms == 0 then 100 else ms
  if ms < 10 || ms > 1000 then d.mbRespond 2 3 []
  else
    let auto := bit (d.mbWord 2 3) 10
    let l : ImgLoad := { type := 2, addr := d.mbWord 2 1, len := d.mbWord 2 2 }
    let d := (d.set F.MBX_WDOG_WD_MS ms).set F.MBX_FW_STAT_AUTO_LEFT (if auto then 3 else 0)
    let d := { d with fw := { d.fw with docAddr := l.addr, docLen := l.len, auto := auto, restartDue := false } }
    if d.f F.MBX_FW_STAT_DSTATE == 2 || d.f F.MBX_FW_STAT_DSTATE == 3 then
      { d with fw := { d.fw with load := some l } }.set F.MBX_FW_STAT_DSTATE 3
    else d.docentFetch l

def execDocentLoad (s : State) : Host.Outcome State Fault Refusal := s.run (fun d => d.mbReq 2 0x43 24 Dev.docentLoad)

def execDocentStop (s : State) : Host.Outcome State Fault Refusal :=
  s.run (fun d => d.mbReq 2 0x44 0 (fun d =>
    if d.docentRuns then (d.set F.MBX_FW_STAT_DSTATE 3).mbRespond 2 0 [] else d.mbRespond 2 4 []))

def execSeqPatch (s : State) : Host.Outcome State Fault Refusal :=
  s.run (fun d => d.mbReq 2 0x45 24 (fun d =>
    d.imgFetch { type := 3, addr := d.mbWord 2 1, len := d.mbWord 2 2, frame := bits (d.mbWord 2 3) 0 51 }))

/-- An image of the TYPE is in use: Docent runs, a sequencer patch is enabled; a Curator patch stays (R350). -/
def Dev.imgInUse (d : Dev) (type : Nat) : Bool := if type == 2 then d.docentServes else if type == 3 then d.seqPatched else true

/-- SVN_RAISE (R350): above the floor, and no higher than the SVN of the image in use. -/
def Dev.svnRaise (d : Dev) : Dev :=
  let w := d.mbWord 2 1
  let type := bits w 0 8
  let keyid := bits w 8 2
  let new := bits w 16 16
  let f := d.floorOf type keyid
  match d.fw.runs.find? (fun r => r.type == type && r.keyid == keyid && d.imgInUse type) with
  | none => d.mbRespond 2 4 []
  | some r =>
    if new ≤ f.1 || new > r.svn then d.mbRespond 2 3 []
    else if f.2 ≥ 255 then d.mbRespond 2 4 []
    else { d with fw := { d.fw with floors := d.fw.floors.put (4 * type + keyid) (new, f.2 + 1) } }.mbRespond 2 0 [new]

def execSvnRaise (s : State) : Host.Outcome State Fault Refusal := s.run (fun d => d.mbReq 2 0x46 8 Dev.svnRaise)

def execAclSet (s : State) : Host.Outcome State Fault Refusal :=
  s.run (fun d => d.mbReq 2 0x48 8 (fun d =>
    let w := d.mbWord 2 1
    if w / 64 != 0 then d.mbRespond 2 3 []
    else ((d.set F.MBX_ACL_MB0_FN w).set F.MBX_ACL_CTRL_FN (w / 16)).mbRespond 2 0 []))

def execFuncReset (s : State) : Host.Outcome State Fault Refusal :=
  s.run (fun d => d.mbReq 2 0x49 8 (fun d => (d.funcReset (d.mbWord 2 1 % 4)).mbRespond 2 0 []))

/-! Sealed commands (R385 to R387). -/

/-- STATUS of a VREASON (R387). -/
def vitStatus (why : Nat) : Nat := if why == 0 then 0 else if why == 6 then 0xA else if why == 7 then 0xB else 3

/-- A sealed request whose VCMD satisfies p is forwarded to the Vitrine, which is in PD32, and answered. -/
def Dev.sealedReq (d : Dev) (p : Nat → Bool) (g : List Word → Dev → VitAns × Dev) : Dev :=
  let len := bits (d.mbWord 2 0) 32 12
  let vcmd := d.mbWord 2 1 % 256
  if !d.on 32 || d.vit.lost || !p vcmd then d
  else d.mbReq 2 0x47 (if len == 0 || len % 8 != 0 then 8 else len) (fun d =>
    let ws := (List.range 512).map (fun k => BitVec.ofNat 64 (d.mbWord 2 k))
    let r := g ws d
    r.2.mbRespond 2 (vitStatus r.1.why)
      ((vcmd + r.1.why * 2 ^ 8 + r.1.hi % 2 ^ 32 * 2 ^ 32) :: r.1.words.map BitVec.toNat))

def execBindDs (s : State) : Host.Outcome State Fault Refusal := s.run (fun d => d.sealedReq (· == 1) vitBindDs)
def execBindUs (s : State) : Host.Outcome State Fault Refusal := s.run (fun d => d.sealedReq (· == 2) vitBindUs)
def execSetInterval (s : State) : Host.Outcome State Fault Refusal := s.run (fun d => d.sealedReq (· == 3) vitSetInterval)
def execSetPulse (s : State) : Host.Outcome State Fault Refusal := s.run (fun d => d.sealedReq (· == 4) vitSetPulse)
def execArchiveClear (s : State) : Host.Outcome State Fault Refusal := s.run (fun d => d.sealedReq (· == 5) vitArchive)
def execClockCheck (aonNs : Nat) (s : State) : Host.Outcome State Fault Refusal :=
  s.run (fun d => d.sealedReq (· == 6) (vitClockCheck aonNs))
def execKeyRotate (s : State) : Host.Outcome State Fault Refusal := s.run (fun d => d.sealedReq (· == 7) vitKeyRotate)
def execReadAccount (s : State) : Host.Outcome State Fault Refusal := s.run (fun d => d.sealedReq (· == 0x20) vitReadAccount)
def execReadTotals (s : State) : Host.Outcome State Fault Refusal := s.run (fun d => d.sealedReq (· == 0x21) vitReadTotals)
def execReadIntervals (s : State) : Host.Outcome State Fault Refusal :=
  s.run (fun d => d.sealedReq (· == 0x22) vitReadIntervals)
def execAckIntervals (s : State) : Host.Outcome State Fault Refusal := s.run (fun d => d.sealedReq (· == 0x23) vitAckIntervals)
def execReadSnapshot (s : State) : Host.Outcome State Fault Refusal := s.run (fun d => d.sealedReq (· == 0x24) vitReadSnapshot)
def execReadLog (s : State) : Host.Outcome State Fault Refusal := s.run (fun d => d.sealedReq (· == 0x25) vitReadLog)
def execReadIdent (s : State) : Host.Outcome State Fault Refusal := s.run (fun d => d.sealedReq (· == 0x26) vitReadIdent)

/-- A VCMD outside the table (R386, R387). -/
def vcmdUnknown (v : Nat) : Bool := !((1 ≤ v && v ≤ 7) || (0x20 ≤ v && v ≤ 0x26))

def execVcmdUnknown (s : State) : Host.Outcome State Fault Refusal :=
  s.run (fun d => d.sealedReq vcmdUnknown (fun _ d => ({ why := 1 }, d)))

/-! MB0 (R351). -/

def execGetVersion (s : State) : Host.Outcome State Fault Refusal :=
  s.run (fun d => d.mbReq 0 1 0 (fun d =>
    d.mbRespond 0 0 [d.f F.MBX_DOCENT_VERSION + d.f F.MBX_DOCENT_SVN * 2 ^ 16, ofLe ((beBytes 32 d.fw.digest).take 8)]))

/-- The requester may act for function f. -/
def Dev.mbActsFor (d : Dev) (f : Nat) : Bool :=
  let r := bits (d.mbWord 0 0) 44 2
  r == f || r == d.f F.MBX_ACL_CTRL_FN

/-- ADMIN_SETUP (R351). Where no fabric is wired ring configuration is refused (R29): as a wrong state (log entry 42). -/
def Dev.adminSetup (d : Dev) : Dev :=
  let w := d.mbWord 0 1
  let f := w % 4
  let wl := bits w 8 4
  let cl := bits w 12 4
  let a := fun k => d.mbWord 0 k
  if !d.mbActsFor f then d.mbRespond 0 5 []
  else if d.b F.HRG_FUNC_STAT_ADMIN_READY f || d.resetting f || !d.b F.ID_INTEG_FAB_WIRED then d.mbRespond 0 4 []
  else if wl < 4 || wl > 12 || cl < 4 || cl > 12 || [2, 3, 4, 5].any (fun k => a k % 64 != 0 || a k ≥ 2 ^ 48) then d.mbRespond 0 3 []
  else
    let p : AdminPair := { wqBase := a 2, wqHdr := a 3, wqLog := wl, cqBase := a 4, cqHdr := a 5, cqLog := cl }
    ((d.adminPut f p).setI F.HRG_FUNC_STAT_ADMIN_READY f 1).mbRespond 0 0 []

def execAdminSetup (s : State) : Host.Outcome State Fault Refusal := s.run (fun d => d.mbReq 0 2 40 Dev.adminSetup)

/-- HOST_IDX of an admin completion queue as Docent has read it (R269, R273). -/
def Dev.adminHost (d : Dev) (f : Nat) (v : Word) : Dev :=
  match d.hrg.admin.look f with
  | none => d
  | some a =>
    let h := v.toNat % 2 ^ 18
    if hostIdxOk (2 ^ a.cqLog) a.pi a.hostIdx h then d.adminPut f { a with hostIdx := h } else d.raise 1031

/-- ADMIN_TEARDOWN: every command completed and the completion queue empty; `v` and `c` are the re-read of HOST_IDX. -/
def Dev.adminTeardown (v : Word) (c : Rsp) (d : Dev) : Dev :=
  let f := d.mbWord 0 1 % 4
  if !d.mbActsFor f then d.mbRespond 0 5 []
  else
    let d := if c.ok then d.adminHost f v else d
    match d.hrg.admin.look f with
    | none => d.mbRespond 0 4 []
    | some a =>
      if !c.ok || a.head != a.tail || a.busy || a.hold.isSome || a.pi != a.hostIdx then d.mbRespond 0 4 []
      else
        (({ d with hrg := { d.hrg with admin := d.hrg.admin.del f } }.setI F.HRG_FUNC_STAT_ADMIN_READY f 0).level (1024 + f)
          false).mbRespond 0 0 []

def execAdminTeardown (v : Word) (r : Rsp) (s : State) : Host.Outcome State Fault Refusal :=
  s.run (fun d => d.mbReq 0 3 8 (Dev.adminTeardown v r))

def execNoticeMask (s : State) : Host.Outcome State Fault Refusal :=
  s.run (fun d => d.mbReq 0 4 8 (fun d => { d with fw := { d.fw with mask := d.mbWord 0 1 % 65536 } }.mbRespond 0 0 []))

def execMb0Ping (s : State) : Host.Outcome State Fault Refusal :=
  s.run (fun d => d.mbReq 0 5 8 (fun d => d.mbRespond 0 0 [d.mbWord 0 1]))

/-- TERM_INFO (R351): the profile set is complete where all four indices of its PSEQ have been received and no newer one has begun (R143). -/
def Dev.termInfo (d : Dev) : Dev :=
  let ps := d.f F.TUS_SEQSEL_PSEQ
  let done := match d.term.full with
    | some q => (match d.term.collect with | some c => c.pseq == q | none => true)
    | none => false
  let n := b2n (d.b F.TST_ID_VALID) + (d.listed F.TUS_ALLOC_VALID).countP (fun p => p.1 != 0 && p.2 == 1)
  d.mbRespond 0 0 [d.stored 0x60000, d.stored 0x60018, ps + b2n done * 2 ^ 8 + n * 2 ^ 9]

def execTermInfo (s : State) : Host.Outcome State Fault Refusal := s.run (fun d => d.mbReq 0 7 0 Dev.termInfo)

/-! Services (R353). -/

/-- A service request of a running Docent. -/
def Dev.service (d : Dev) (g : Dev → Dev) : Dev := if d.docentRuns && d.on 1 then g d else d

/-- KEY_NEW: Docent gets the wrapped key (R146, R353). -/
def Dev.keyNewService (slot : Nat) (d : Dev) : Dev :=
  if slot != 1 && slot != 2 then d
  else
    let r := d.keyNew slot
    match r.1 with
    | some w => { r.2 with fw := { r.2.fw with wrapped := w } }
    | none => r.2

def execKeyNew (slot : Nat) (s : State) : Host.Outcome State Fault Refusal := s.run (fun d => d.service (Dev.keyNewService slot))

/-- KEY_BCAST: slot 3 takes the broadcast key. -/
def Dev.keyBcast (gen wrapped : Nat) (d : Dev) : Dev :=
  match if gen == d.f F.MBX_BOOT_KEK_GEN then keyUnwrap d.kekNow wrapped else none with
  | some k => d.loadKey 3 (k % 2 ^ 256)
  | none => d.raise 1447

def execKeyBcast (gen wrapped : Nat) (s : State) : Host.Outcome State Fault Refusal :=
  s.run (fun d => d.service (Dev.keyBcast gen wrapped))

/-- KEK_ROTATE: the new KEK becomes the present one. -/
def Dev.kekRotate (gen wrapped : Nat) (d : Dev) : Dev :=
  match if gen == (d.f F.MBX_BOOT_KEK_GEN + 1) % 256 then keyUnwrap d.kekNow wrapped else none with
  | some k => { d with fw := { d.fw with kek := some (k % 2 ^ 256) } }.set F.MBX_BOOT_KEK_GEN gen
  | none => d.raise 1447

def execKekRotate (gen wrapped : Nat) (s : State) : Host.Outcome State Fault Refusal :=
  s.run (fun d => d.service (Dev.kekRotate gen wrapped))

def execTstWrite (cmd tid : Nat) (s : State) : Host.Outcome State Fault Refusal :=
  s.run (fun d => d.service (fun d => d.tstCmd cmd (tid % 1024) none))

/-! Docent's life (R354 to R357). -/

/-- A stop request has been carried out (R350); a replacement that waits is fetched. -/
def Dev.docentHalt (d : Dev) : Dev :=
  if d.f F.MBX_FW_STAT_DSTATE != 3 then d
  else
    let d := d.docentHalted 3
    match d.loadWaits with
    | some l => d.docentFetch l
    | none => d

def execDocentHalt (s : State) : Host.Outcome State Fault Refusal := s.run Dev.docentHalt
def execMpuViolation (s : State) : Host.Outcome State Fault Refusal := s.run (fun d => d.docentDown 2)

/-- WD_MS ms have passed since the last kick, eight ticks to the millisecond; while no TICK comes the block measures no time, and the period
may have ended (R354, log entry 43). -/
def Dev.wdogOver (d : Dev) : Bool := !d.onPll || d.clk.ticks ≥ d.fw.kickTick + 8 * d.f F.MBX_WDOG_WD_MS

def execWatchdogExpiry (s : State) : Host.Outcome State Fault Refusal := s.run (fun d => if d.wdogOver then d.docentDown 1 else d)

/-- Docent reports an error, or meets an uncorrectable word of its RAM (R354, R490). -/
def Dev.docentError (up : List Upset) (d : Dev) : Dev :=
  let d := if up.contains .corrected then d.eccCorr else d
  let bad := up.filterMap (fun u => match u with | .docentWord loc => some loc | _ => none)
  if up.isEmpty then d.docentDown 4
  else bad.foldl (fun d loc => (d.eccLogged 0xA loc).docentDown 4) d

def execDocentErrorReport (up : List Upset) (s : State) : Host.Outcome State Fault Refusal := s.run (Dev.docentError up)

/-- A write of MBX_WDOG: Docent's kick (R354). -/
def Dev.writeWdog (w : RegWr) (d : Dev) : Dev :=
  if w.agent == .docent && w.fld F.MBX_WDOG_KICK == 1 then { d with fw := { d.fw with kickTick := d.clk.ticks } } else d

def execWdogKick (w : RegWr) (s : State) : Host.Outcome State Fault Refusal := s.run (fun d => d.gated 0x178098 w (Dev.writeWdog w))

/-- The automatic restart (R356). -/
def Dev.autoRestart (d : Dev) : Dev :=
  let n := d.f F.MBX_FW_STAT_AUTO_LEFT
  if !d.fw.restartDue || n == 0 || d.fw.load.isSome then d
  else (d.set F.MBX_FW_STAT_AUTO_LEFT (n - 1)).docentFetch { type := 2, addr := d.fw.docAddr, len := d.fw.docLen, auto := true }

def execAutoRestart (s : State) : Host.Outcome State Fault Refusal := s.run Dev.autoRestart

end Sys2Proof.Machine
end

