-- ==== Sys2Proof/Machine/Ports.lean ====
section
/-! DEFINITION. User ports (07): the lanes (R191 to R194), reception (R196 to R200), transmission (R201 to R205), preemption (R206 to R211), flow control
(R212 to R215), low-power idle (R216, R217), wakes (R218 to R220) and configuration (R195). -/

namespace Sys2Proof.Machine

def Dev.port (d : Dev) (n : Nat) : PortPart := SMap.getD d.upm.ports n {}

def Dev.portPut (d : Dev) (n : Nat) (p : PortPart) : Dev :=
  { d with upm := { d.upm with ports := SMap.store {} n p d.upm.ports } }

/-- The port's domain is usable. -/
def Dev.portOn (d : Dev) (n : Nat) : Bool := n < 4 && d.on (18 + n)

/-- The link as the port takes it: UPn_LINK, and low while UP_CLK[n] is stopped (R203, R494). -/
def Dev.portLink (d : Dev) (n : Nat) : Bool := (d.port n).link && !bit d.clk.stopped (5 + n)

/-- The port takes and sends frames: powered, enabled, link up, its crossing up (R53, R197, R203). -/
def Dev.portUp (d : Dev) (n : Nat) : Bool := d.portOn n && d.b F.UPM_CFG_EN n && d.portLink n && d.xUp (2 + n)

/-- A rate code in Gb/s. -/
def rateGb (r : Nat) : Nat := [25, 50, 100, 200].getD r 25

/-- The rate of port n in Gb/s, and the lanes it uses (R193). -/
def Dev.portGb (d : Dev) (n : Nat) : Nat := rateGb (d.f F.UPM_CFG_RATE n)
def Dev.portLanes (d : Dev) (n : Nat) : Nat := rateLanes (d.f F.UPM_CFG_RATE n)

/-- When lane k of a word crosses the interface: k × 64 bit times after the word's edge (R221). -/
def Dev.laneAt (d : Dev) (n edge k : Nat) : Nat := edge + k * 64 * 65536 / d.portGb n

/-- A latency in ps as units of 2^-16 ns: to the nearest, halves away from zero (R221). -/
def latUnits (ps : Int) : Int :=
  if ps ≥ 0 then (ps * 65536 + 500) / 1000 else -((-ps * 65536 + 500) / 1000)

/-- A time moved by a latency. -/
def timeMove (t : Nat) (by' : Int) : Nat := ((t : Int) + by').toNat

/-- Lane-words of a frame or mPacket of n octets (R237). -/
def laneWords (n : Nat) : Nat := 2 + n / 8

/-! mPackets and CRCs. -/

/-- SMD-S and fragment-count octets of 0 to 3, and SMD-C octets (R207). -/
def smdS : List Nat := [0xE6, 0x4C, 0x7F, 0xB3]
def smdC : List Nat := [0x61, 0x52, 0x9E, 0x2A]

/-- Octets 6 and 7 of START lanes. -/
def sfdExpress : Nat := 0x55D5
def smdStart (x : Nat) : Nat := 0x5500 + smdS.getD (x % 4) 0
def smdCont (x cnt : Nat) : Nat := smdC.getD (x % 4) 0 * 256 + smdS.getD (cnt % 4) 0
def smdVerify : Nat := 0x5507
def smdRespond : Nat := 0x5519

/-- What octets 6 and 7 of a START lane announce (R207). -/
inductive SmdKind where
  | express
  | first (x : Nat)
  | next (x cnt : Nat)
  | verify
  | respond
  | unknown
  deriving DecidableEq, Repr

/-- Octet 7 alone tells an SFD, an SMD-V or an SMD-R; a fragment count in it belongs to an SMD-C in octet 6, and is an SMD-S after any other
octet, since other preamble octets are not examined (R197, R207). -/
def smdKind (v : Nat) : SmdKind :=
  let hi := v / 256
  let lo := v % 256
  if lo == 0xD5 then .express
  else if lo == 0x07 then .verify
  else if lo == 0x19 then .respond
  else match smdS.idxOf? lo, smdC.idxOf? hi with
    | some c, some x => .next x c
    | some x, none => .first x
    | none, _ => .unknown

/-- The mCRC of frame octets sent so far (R207). -/
def mcrc (l : List Byte) : Nat := fcs l ^^^ 0x0000FFFF

/-- The last four octets of a frame as its FCS, and the octets before them. -/
def tail4 (l : List Byte) : Nat := ofLe (l.drop (l.length - 4))
def body4 (l : List Byte) : List Byte := l.take (l.length - 4)

/-- A good FCS. -/
def fcsOk (l : List Byte) : Bool := l.length ≥ 4 && fcs (body4 l) == tail4 l

/-! Lanes (R192 to R194). -/

/-- Lane k of a word: its code and its content (R191). -/
def laneOf (w : PortWord) (k : Nat) : Nat × Nat := (bits w.codes (4 * k) 4, bits w.data (64 * k) 64)

/-- Octets 6 and 7 of a START lane (R194). -/
def startSmd (v : Nat) : Nat := bits v 48 8 * 256 + bits v 56 8

/-- The START lanes among the lanes that a rate uses, in order: their octets 6 and 7 (R193). -/
def wordStarts (lanes : Nat) (l : List PortWord) : List Nat :=
  (l.filter (·.valid)).flatMap (fun w => (List.range lanes).filterMap (fun k =>
    if (laneOf w k).1 == 2 then some (startSmd (laneOf w k).2) else none))

/-- Receive lanes as they carry LPI: all of them, or any (R217). -/
def allLpi (lanes : Nat) (w : PortWord) : Bool := (List.range lanes).all (fun k => (laneOf w k).1 == 4)
def anyLpi (lanes : Nat) (w : PortWord) : Bool := (List.range lanes).any (fun k => (laneOf w k).1 == 4)

/-- The lanes of a frame or mPacket: START, DATA, and a TERM lane, or ERROR in its place (R192, R194, R491). -/
def frameLanes (smd : Nat) (l : List Byte) (bad : Bool) : List (Nat × Nat) :=
  let k := l.length / 8
  [(2, 0x555555555555 + smd / 256 % 256 * 2 ^ 48 + smd % 256 * 2 ^ 56)] ++
    (List.range k).map (fun i => (1, ofLe ((l.drop (8 * i)).take 8))) ++
    [if bad then (3, 0) else (8 + l.length % 8, ofLe (l.drop (8 * k)))]

/-- A word of lanes: data and codes; lanes beyond them are zero with code 0h (R193). -/
def laneWord (l : List (Nat × Nat)) : Nat × Nat :=
  l.foldr (fun x a => (x.2 + a.1 * 2 ^ 64, x.1 + a.2 * 16)) (0, 0)

/-- Lanes packed into words of `n`; the lanes of the last word stay open until it is full. -/
def packLanes (n : Nat) : List (Nat × Nat) → List (Nat × Nat) → List (Nat × Nat) × List (Nat × Nat)
  | part, [] => ([], part)
  | part, x :: t =>
    if part.length + 1 ≥ n then
      let r := packLanes n [] t
      (laneWord (part ++ [x]) :: r.1, r.2)
    else packLanes n (part ++ [x]) t

/-- The words of each cycle: a word stays until UPn_TXRDY is high; beyond the levels given it is (R193). -/
def driveCycles : List Bool → List (Nat × Nat) → List (Nat × Nat)
  | [], ws => ws
  | _ :: _, [] => []
  | true :: r, w :: ws => w :: driveCycles r ws
  | false :: r, w :: ws => w :: driveCycles r (w :: ws)

/-! Wakes. -/

/-- A link wake of port n (R219). -/
def Dev.linkSeen (d : Dev) (n : Nat) : Dev :=
  if d.b F.UPM_WAKE_CFG_WAKE_LINK n then (d.setI F.UPM_WAKE_STAT_LINK_SEEN n 1).wake 1 else d

/-- A START lane with n octets arrives: receive LPI is over, a link wake, and lane-words received (R217, R219, R237). -/
def Dev.rxSeen (d : Dev) (n len : Nat) : Dev := ((d.setI F.UPM_STAT_RX_LPI n 0).linkSeen n).act 11 (laneWords len)

/-- The octets that pattern i of port n selects. -/
def Dev.patMask (d : Dev) (n i : Nat) : Nat := d.f F.UPM_WPAT_MLO_MASK n i + d.f F.UPM_WPAT_MHI_MASK n i * 2 ^ 64

/-- Pattern i of port n matches a good frame (R218). -/
def Dev.patMatch (d : Dev) (n i : Nat) (l : List Byte) : Bool :=
  let m := d.patMask n i
  let sel := (List.range 128).filter (fun j => bit m j)
  bit (d.f F.UPM_WAKE_CFG_PAT_EN n) i && m != 0 && sel.all (fun j => j < l.length) &&
    fcs (sel.map (fun j => l.getD j 0)) == d.f F.UPM_WPAT_CRC_CRC n i

/-- The wake patterns on a good frame (R218). -/
def Dev.patterns (d : Dev) (n : Nat) (l : List Byte) : Dev :=
  let hits := (List.range 16).filter (fun i => d.patMatch n i l)
  if hits.isEmpty then d
  else
    (d.setI F.UPM_WAKE_STAT_PAT_HIT n (hits.foldl (fun a i => withBit a i true) (d.f F.UPM_WAKE_STAT_PAT_HIT n))).wake 2

/-! Flow control. -/

/-- PAUSED follows the loaded quanta (R212). -/
def Dev.quantaPut (d : Dev) (n : Nat) (q : List Nat) : Dev :=
  (d.portPut n { d.port n with quanta := q }).setI F.UPM_STAT_PAUSED n
    ((List.range 8).foldl (fun a i => if q.getD i 0 != 0 then a + 2 ^ i else a) 0)

/-- A MAC Control frame is consumed (R198, R212). -/
def Dev.macControl (d : Dev) (n : Nat) (l : List Byte) : Dev :=
  let da := field l 0 6
  let mine := da == 0x0180C2000001 || da == d.f F.UPM_MACADDR_ADDR n
  if l.length != 64 || !mine then d.count F.UPM_CNT_RXE2_CTRL_DROP n
  else if u16 l 14 == 1 then
    let d := d.count F.UPM_CNT_FC_PAUSE_RX n
    if d.b F.UPM_FC_CFG_RX_PAUSE_EN n then d.quantaPut n (List.replicate 8 (u16 l 16)) else d
  else if u16 l 14 == 0x0101 then
    let d := d.count F.UPM_CNT_FC_PFC_RX n
    if d.b F.UPM_FC_CFG_RX_PFC_EN n then
      d.quantaPut n ((List.range 8).map (fun i => if bit (u16 l 16) i then u16 l (18 + 2 * i) else (d.port n).quanta.getD i 0))
    else d
  else d.count F.UPM_CNT_RXE2_CTRL_DROP n

/-- A threshold above 1,024 acts as 1,024 (R215). -/
def thr (v : Nat) : Nat := min v 1024

/-! Reception. -/

/-- Length limit of a frame with `ntag` tags (R199). -/
def Dev.lenLimit (d : Dev) (n ntag : Nat) : Nat :=
  min 9600 (min 9600 (max 64 (d.f F.UPM_CFG_MAX_LEN n)) + 4 * min 2 ntag)

/-- Length limit of a frame (R199). -/
def Dev.rxLimit (d : Dev) (n : Nat) (l : List Byte) : Nat := d.lenLimit n (parse (body4 l)).ntag

/-- A tag that port n pushes on ingress (R204). -/
def Dev.pvidTag (d : Dev) (n : Nat) : List Byte :=
  tagBytes (d.b F.UPM_CFG_PVID_STAG n) (d.f F.UPM_CFG_PVID_PCP n) false (d.f F.UPM_CFG_PVID n)

/-- RX_TAG_MODE on the octets before the FCS (R204). -/
def Dev.rxTag (d : Dev) (n : Nat) (body : List Byte) : List Byte :=
  let tagged := isTpid (u16 body 12)
  let m := d.f F.UPM_CFG_RX_TAG_MODE n
  if m == 2 || (m == 1 && !tagged) then body.take 12 ++ d.pvidTag n ++ body.drop 12 else body

/-- Class of a received frame (R214). -/
def Dev.rxClass (d : Dev) (n : Nat) (body : List Byte) : Nat :=
  if isTpid (u16 body 12) then u16 body 14 / 8192 else d.f F.UPM_CFG_PVID_PCP n

/-- The octets so far say the class of their frame. -/
def classKnown (l : List Byte) : Bool := l.length ≥ 16 || (l.length ≥ 14 && !isTpid (u16 l 12))

/-- A frame that started while O stood at LOSSY_THR is discarded for its class (R214). -/
def Dev.lossy (d : Dev) (n : Nat) (high : Bool) (l : List Byte) : Bool :=
  high && classKnown l && !bit (d.f F.UPM_FC_CFG_PFC_MASK n) (d.rxClass n l)

/-- Beats that the octets of a frame still arriving take in the entry FIFO, with a tag pushed before them (R196, R199, R204): none once the
frame is to be discarded, nor without the lane's domain. -/
def Dev.arriving (d : Dev) (n : Nat) (high full : Bool) (l : List Byte) : Nat :=
  if full || d.lossy n high l || !d.on (12 + n / 2) then 0
  else
    let t := if l.length < 14 then l else d.rxTag n l
    beats (min t.length (d.lenLimit n (parse t).ntag + (t.length - l.length)))

/-- The frame being received continues a reassembly (R210). -/
def RxNow.continues (f : RxNow) (a : Asm) : Bool := smdKind f.smd == .next a.x a.cnt

/-- The octets of the frame being received are those of a frame, and not of a verify or respond mPacket. -/
def RxNow.isFrame (f : RxNow) : Bool := smdKind f.smd != .verify && smdKind f.smd != .respond

/-- Beats of the frames of port n that are partly received, a reassembly among them (R213). -/
def Dev.partBeats (d : Dev) (n : Nat) : Nat :=
  let p := d.port n
  let a := match p.asm with | some a => d.arriving n a.high a.full a.octets | none => 0
  match p.rx with
  | none => a
  | some f =>
    if !f.isFrame then a
    else match p.asm with
      | some b =>
        if f.continues b then d.arriving n b.high (b.full || f.full) (b.octets ++ f.octets)
        else a + d.arriving n f.high f.full f.octets
      | none => d.arriving n f.high f.full f.octets

/-- Occupancy O of port n in its lane FIFO, partly received frames included (R213). -/
def Dev.occupancy (d : Dev) (n : Nat) : Nat :=
  ((d.cls.fifo.getD (1 + n / 2) []).map (fun f => if f.src == n then beats f.len else 0)).foldl (· + ·) 0 + d.partBeats n

/-- Beats in the entry FIFO of the lane of port n, which its two ports share (R21). -/
def Dev.laneBeats (d : Dev) (n : Nat) : Nat := d.occupancy (n / 2 * 2) + d.occupancy (n / 2 * 2 + 1)

/-- O has reached XOFF_THR by what `g` does, and an XOFF is due (R213). -/
def Dev.flowLook (d : Dev) (n : Nat) (g : Dev → Dev) : Dev :=
  let below := d.occupancy n < thr (d.f F.UPM_FC_THR_XOFF_THR n)
  let d := g d
  if below && d.occupancy n ≥ thr (d.f F.UPM_FC_THR_XOFF_THR n) then d.portPut n { d.port n with xoffDue := true } else d

/-- A good frame is counted (R200). -/
def Dev.rxGood (d : Dev) (n : Nat) (l : List Byte) : Dev :=
  ((d.count F.UPM_CNT_RXF_FRAMES n).countN F.UPM_CNT_RXO_OCTETS l.length n).meter (2 * n) l.length

/-- The counter of the first reason, among orders 1 and 3 to 7, for which what has been received is discarded (R197); `ok` judges its CRC. -/
def Dev.rxFault (d : Dev) (n : Nat) (l : List Byte) (bad ok : Bool) : Option Fld :=
  if bad then some F.UPM_CNT_RXE2_CODE_ERR
  else if l.length < 64 then some (if ok then F.UPM_CNT_RXE_RUNT else F.UPM_CNT_RXE_FRAGMENT)
  else if l.length > d.rxLimit n l then some (if ok then F.UPM_CNT_RXE_OVERSIZE else F.UPM_CNT_RXE2_JABBER)
  else if !ok then some F.UPM_CNT_RXE_FCS_ERR
  else none

/-- A frame as it enters the entry FIFO (R180, R200, R204, R221). -/
def Dev.rxFrameOf (d : Dev) (n ts : Nat) (l : List Byte) : Frame :=
  { data := d.rxTag n (body4 l), path := 1 + n / 2, src := n, fcs := tail4 l, cls := d.rxClass n (body4 l)
    ts := timeMove ts (-latUnits (d.z F.UPM_TS_CFG_RX_LAT n)) }

/-- A frame whose octets, DA to FCS, have all arrived at port n, `ts` being the crossing of its first octet: `high` says that O stood at
LOSSY_THR as it started, and `full` that the entry FIFO had no room for it (R196 to R200, R214, R218, R220, R447). -/
def Dev.macRxFrame (d : Dev) (n ts : Nat) (l : List Byte) (bad high full : Bool) : Dev :=
  match d.rxFault n l bad (fcsOk l) with
  | some x => d.count x n
  | none =>
    let dark := !d.on (12 + n / 2)
    if !dark && d.lossy n high (body4 l) then d.count F.UPM_CNT_RXP_LOSSY_DROP n
    else if !dark && full then d.count F.UPM_CNT_RXP_OVERRUN n
    else
      let g := (d.rxGood n l).patterns n l
      if u16 (body4 l) 12 == 0x8808 then g.macControl n l
      else if !d.active then g.count F.TWN_CNT2_STBY_DROP
      else if dark then g.count F.UPM_CNT_TXE_WAKE_DISCARD n
      else g.fifoPush (1 + n / 2) (d.rxFrameOf n ts l)

/-- Whether preemption octets are received (R210). -/
def Dev.preRx (d : Dev) (n : Nat) : Bool := d.b F.UPM_PRE_CFG_PRE_EN n

/-- A reassembly is discarded and counted (R210). -/
def Dev.asmErr (d : Dev) (n : Nat) : Dev := (d.portPut n { d.port n with asm := none }).count F.UPM_CNT_RXP_ASM_ERR n

/-- An ERROR code inside a fragment of a frame discards the frame (R197, order 1). -/
def Dev.asmCodeErr (d : Dev) (n : Nat) : Dev := (d.portPut n { d.port n with asm := none }).count F.UPM_CNT_RXE2_CODE_ERR n

/-- A fragment is taken into the reassembly `a`, whose octets come before it: its last four are a CRC, and the frame is complete, to be
continued, or bad (R210). -/
def Dev.asmTake (d : Dev) (n cnt : Nat) (a : Asm) (f : RxNow) : Dev :=
  let all := a.octets ++ body4 f.octets
  let full := a.full || f.full
  if f.octets.length ≥ 4 && tail4 f.octets == fcs all then
    (d.portPut n { d.port n with asm := none }).macRxFrame n a.ts (a.octets ++ f.octets) false a.high full
  else if f.octets.length ≥ 4 && tail4 f.octets == mcrc all then
    d.portPut n { d.port n with asm := some { a with cnt := cnt, octets := all, full := full } }
  else d.asmErr n

/-- A preemptable mPacket has arrived (R210). -/
def Dev.rxFragment (d : Dev) (n : Nat) (k : SmdKind) (f : RxNow) : Dev :=
  match k with
  | .first x =>
    let d := if (d.port n).asm.isSome then d.asmErr n else d
    if f.bad then d.asmCodeErr n
    else d.asmTake n 0 { x := x, cnt := 0, octets := [], ts := f.ts, high := f.high } f
  | .next x c =>
    let d := d.count F.UPM_CNT_RXP_FRAGS_RX n
    match (d.port n).asm with
    | none => d.asmErr n
    | some a =>
      if a.x != x || a.cnt != c then d.asmErr n
      else if f.bad then d.asmCodeErr n
      else d.asmTake n ((c + 1) % 4) a f
  | _ => d

/-- What a START lane announces as the port takes it: preemption octets are unknown while PRE_EN is 0 (R197, R210). -/
def Dev.kindAt (d : Dev) (n smd : Nat) : SmdKind :=
  let k := smdKind smd
  if k == .express || d.preRx n then k else .unknown

/-- The pause timer of class i runs out (R212). -/
def Dev.pauseExpire (d : Dev) (n i : Nat) : Dev := if n ≥ 4 then d else d.quantaPut n ((d.port n).quanta.set i 0)

def execPauseTimerExpiry (n i : Nat) (s : State) : Host.Outcome State Fault Refusal := s.run (fun d => d.pauseExpire n i)

/-! Sending. -/

/-- Octets G of the average gap (R202). -/
def Dev.avgGap (d : Dev) (n : Nat) : Nat := 12 + d.f F.UPM_CFG_IPG_EXTRA n

/-- The smallest gap reachable at a lane boundary that is at least `least`, after a frame that left `tail` octets in its TERM
lane (R202). -/
def gapFrom (tail least : Nat) : Nat :=
  let g0 := 8 - tail % 8
  if g0 ≥ least then g0 else g0 + ceilDiv (least - g0) 8 * 8

/-- Octets of IDLE before the START lane that ends low-power idle: TW_SYS_TX (R216). -/
def Dev.lpiWake (d : Dev) (n : Nat) : Nat :=
  if d.b F.UPM_STAT_TX_LPI n then d.f F.UPM_EEE_CFG_TW_SYS_TX n * d.portGb n * 125 else 0

/-- The octets of gap before the next START lane, where `gap` have passed already (R202, R216). -/
def Dev.gapNow (d : Dev) (n gap : Nat) : Nat :=
  gapFrom (d.port n).tail (max (max gap (d.lpiWake n)) (max 8 (d.avgGap n - (d.port n).credit)))

/-- Lanes before a START lane after g octets of gap, from the lanes of the word in progress on (R202). -/
def Dev.laneNo (d : Dev) (n g : Nat) : Nat := (d.port n).part.length + g / 8 - (if (d.port n).tail % 8 == 0 then 1 else 0)

/-- Port n drives a START lane with `smd`, then the octets; `gap` octets of gap have passed already, and `rdy` are the levels of UPn_TXRDY
(R193, R194, R202). Words wholly of gap are left out of the list. -/
def Dev.drive (d : Dev) (n gap smd : Nat) (l : List Byte) (bad : Bool) (rdy : List Bool) : Dev :=
  let p := d.port n
  let lanes := d.portLanes n
  let g := d.gapNow n gap
  let k := d.laneNo n g
  let ended := if k ≥ lanes && !p.part.isEmpty then [laneWord p.part] else []
  let lead := if k ≥ lanes then List.replicate (k % lanes) (0, 0) else p.part ++ List.replicate (k - p.part.length) (0, 0)
  let w := packLanes lanes lead (frameLanes smd l bad)
  let d := d.portPut n { p with
    credit := min (p.credit + g - d.avgGap n) 7
    tail := l.length % 8
    part := w.2
    sent := some { smd := smd, octets := l, gap := g, bad := bad, words := driveCycles rdy (ended ++ w.1) } }
  (d.setI F.UPM_STAT_TX_LPI n 0).act 10 (laneWords l.length)

/-- Preemption is active (R206). -/
def Dev.preActive (d : Dev) (n : Nat) : Bool :=
  d.b F.UPM_PRE_CFG_PRE_EN n && (d.f F.UPM_PRE_STAT_VSTATUS n == 3 || d.b F.UPM_PRE_CFG_VERIFY_DIS n)

/-- TX_TAG_MODE (R205). -/
def Dev.txTag (d : Dev) (n : Nat) (data : List Byte) : List Byte :=
  let tpid := u16 data 12
  let tagged := isTpid tpid
  let m := d.f F.UPM_CFG_TX_TAG_MODE n
  let own := tpid == (if d.b F.UPM_CFG_PVID_STAG n then 0x88A8 else 0x8100) && u16 data 14 % 4096 == d.f F.UPM_CFG_PVID n
  if tagged && (m == 2 || (m == 1 && own)) then data.take 12 ++ data.drop 16 else data

/-- Padding and FCS (R201). -/
def withFcs (data : List Byte) : List Byte :=
  let p := data ++ List.replicate (60 - data.length) 0
  p ++ leBytes 4 (fcs p)

/-- A frame sent to its end is counted (R201). -/
def Dev.txDone (d : Dev) (n len : Nat) : Dev :=
  ((d.count F.UPM_CNT_TXF_FRAMES n).countN F.UPM_CNT_TXO_OCTETS len n).meter (2 * n + 1) len

/-- The place at which a fragment of a frame of `len` octets, `done` of them sent, ends when express traffic waits once `cut`
further octets have gone (R208); nothing where it runs to its end, as it does while preemption is inactive (R206). -/
def Dev.cutAt (d : Dev) (n len done cut : Nat) : Option Nat :=
  let minFrag := 64 * (1 + d.f F.UPM_PRE_CFG_ADD_FRAG n)
  let k := ceilDiv (max cut (minFrag - 4)) 8 * 8
  if cut == 0 || !d.preActive n || len < done + k + 64 then none else some k

/-- Send a preemptable frame from octet h.done on, up to a cut. The rest of a frame that has been cut goes as a continuation, preemption having
become inactive or not (R206, R207; log entry 34). -/
def Dev.sendFrag (d : Dev) (n gap cut : Nat) (rdy : List Bool) (h : Held) : Dev :=
  let smd := if h.done == 0 then smdStart h.x else smdCont h.x h.cnt
  match d.cutAt n h.octets.length h.done cut with
  | some k =>
    let l := (h.octets.drop h.done).take k
    let crc := mcrc (h.octets.take (h.done + k))
    let d := (d.drive n gap smd (l ++ leBytes 4 crc) false rdy).count F.UPM_CNT_TXE_PREEMPT n
    d.portPut n { d.port n with held := some { h with done := h.done + k, cnt := if h.done == 0 then 0 else (h.cnt + 1) % 4 } }
  | none =>
    let d := d.drive n gap smd (h.octets.drop h.done) false rdy
    ((d.portPut n { d.port n with held := none }).txDone n h.octets.length).trcClose h.frame 0

/-- Classes of port n that can be chosen: a frame waits and no pause timer runs (R243). -/
def Dev.egrReady (d : Dev) (n : Nat) : List Nat :=
  (List.range 8).filter (fun i => !(d.egr n i).frames.isEmpty && (d.port n).quanta.getD i 0 == 0)

/-- The frame chosen next: its class, whether it is sent as preemptable, and the device without it (R206, R208, R243). A frame that has been
cut resumes before any but express ones. -/
def Dev.egrNext (d : Dev) (n : Nat) : Option (Nat × Bool × Frame × Dev) :=
  let ready := d.egrReady n
  let ex := d.f F.UPM_PRE_CFG_EXPRESS n
  let pick := fun (sel : Nat) (cands : List Nat) (pre : Bool) =>
    match d.egrSelect n sel cands with
    | none => none
    | some (i, d) => (d.egrPop n i).map (fun p => (i, pre, p.1, p.2))
  if !d.preActive n && (d.port n).held.isNone then pick 0 ready false
  else
    let e := ready.filter (fun i => bit ex i)
    if !e.isEmpty then pick 0 e false
    else if (d.port n).held.isSome then none
    else pick 1 (ready.filter (fun i => !bit ex i)) true

/-- A frame is discarded at the MAC (R201, R203). -/
def Dev.macDrop (d : Dev) (f : Frame) (ts : Nat) : Dev := (d.trcClose f 7).sendLeft f 10 ts

/-- The instant at which the first octet of DA crosses, `edge` being that of its word: the lane after START (R194, R221). -/
def Dev.txStamp (d : Dev) (n edge gap : Nat) : Nat :=
  timeMove (d.timeAt (d.laneAt n edge ((d.laneNo n (d.gapNow n gap) + 1) % d.portLanes n))) (latUnits (d.z F.UPM_TS_CFG_TX_LAT n))

/-- The x of the next preemptable frame moves on (R207). -/
def Dev.nextX (d : Dev) (n : Nat) : Dev := d.portPut n { d.port n with x := ((d.port n).x + 1) % 4 }

/-- A frame handed to the MAC of port n (R201 to R205, R221, R491). -/
def Dev.txFrame (d : Dev) (n edge gap cut i : Nat) (rdy : List Bool) (pre : Bool) (f : Frame) (cell : Option Nat) : Dev :=
  let d := (d.bufRead (beats f.len) i).pathBeats (4 + n / 2) (beats f.len)
  if !d.b F.UPM_CFG_EN n || !d.portLink n then (d.count F.UPM_CNT_TXE_LINK_DROP n).macDrop f 0
  else if cell.isSome && cut == 0 then (d.bufDrop (cell.getD 0)).macDrop f 0
  else
    let r := d.leave f
    let l := withFcs (r.2.txTag n r.1)
    let d := r.2
    if l.length > 9600 then (d.count F.UPM_CNT_TXE_SIZE_DROP n).macDrop f 0
    else
      let ts := d.txStamp n edge gap
      let d := (d.trcNote f (fun t => { t with leave := d.cycle, tsOut := ts })).sendLeft f 0 ts
      match cell with
      | some loc =>
        let o := d.drive n gap (if pre then smdStart (d.port n).x else sfdExpress) (l.take cut) true rdy
        ((if pre then o.nextX n else o).bufDrop loc).trcClose f 7
      | none =>
        if pre then
          let x := (d.port n).x
          (d.nextX n).sendFrag n gap cut rdy { octets := l, done := 0, x := x, cnt := 0, cls := i, frame := f }
        else ((d.drive n gap sfdExpress l false rdy).txDone n l.length).trcClose f 0 ts

/-- The next frame or fragment of port n (R202, R208, R243), with the levels of UPn_TXRDY. Nothing passes its crossing while that is not up
(R53). -/
def Dev.txNext (d : Dev) (n edge gap cut : Nat) (rdy : List Bool) (up : List Upset) : Dev :=
  if !d.portOn n || !d.xUp (2 + n) then d
  else
    let d := d.containAll up
    match d.egrNext n with
    | some (i, pre, f, d) => d.txFrame n edge gap cut i rdy pre f (cellUpset up)
    | none =>
      match (d.port n).held with
      | some h => d.sendFrag n gap cut rdy h
      | none => d

def execUpmTxFrame (n edge gap cut : Nat) (rdy : List Bool) (up : List Upset) (s : State) : Host.Outcome State Fault Refusal :=
  s.run (fun d => d.txNext n edge gap cut rdy up)

/-! Verify and respond mPackets (R207, R211). -/

/-- A verify or respond mPacket (R207). -/
def Dev.mPacket (d : Dev) (n smd : Nat) (rdy : List Bool) : Dev :=
  let z := List.replicate 60 (0 : Byte)
  d.drive n 0 smd (z ++ leBytes 4 (mcrc z)) false rdy

def Dev.vstatus (d : Dev) (n v : Nat) : Dev := d.setI F.UPM_PRE_STAT_VSTATUS n v

/-- VSTATUS where it starts: INITIAL, or DISABLED while PRE_EN is 0 (R211). -/
def Dev.vRestart (d : Dev) (n : Nat) : Dev :=
  (d.vstatus n (if d.b F.UPM_PRE_CFG_PRE_EN n then 1 else 0)).setI F.UPM_PRE_STAT_ATTEMPTS n 0

/-- A verify or respond mPacket has arrived; DEDUCED: one that R197 would discard, its mCRC judged for an FCS, is counted as a frame would be
and has no effect (log entry 34). -/
def Dev.rxMPacket (d : Dev) (n : Nat) (f : RxNow) (g : Dev → Dev) : Dev :=
  match d.rxFault n f.octets f.bad (f.octets.length ≥ 4 && tail4 f.octets == mcrc (body4 f.octets)) with
  | some x => d.count x n
  | none => g d

/-- A respond mPacket in VERIFYING (R211, R222). -/
def Dev.respondRx (d : Dev) (n : Nat) : Dev :=
  if d.f F.UPM_PRE_STAT_VSTATUS n == 2 then (d.vstatus n 3).raise (1281 + 2 * n) else d

/-- VERIFY_TIME in ticks, 8 to the millisecond: 0 acts as 1 ms, and more than 128 ms as 128 (R211). -/
def Dev.verifyTicks (d : Dev) (n : Nat) : Nat := 8 * max 1 (min 128 (d.f F.UPM_PRE_CFG_VERIFY_TIME n))

/-- A verify mPacket is sent, and its time begins (R211). -/
def Dev.verifySend (d : Dev) (n : Nat) (rdy : List Bool) : Dev :=
  let d := d.mPacket n smdVerify rdy
  d.portPut n { d.port n with vTick := d.clk.ticks }

/-- A verify mPacket is due: VSTATUS is INITIAL and may leave it (R211). -/
def Dev.verifyDue (d : Dev) (n : Nat) : Bool :=
  d.portUp n && d.preRx n && !d.b F.UPM_PRE_CFG_VERIFY_DIS n && d.f F.UPM_PRE_STAT_VSTATUS n == 1

def Dev.verifyStart (d : Dev) (n : Nat) (rdy : List Bool) : Dev :=
  if d.verifyDue n then ((d.vstatus n 2).setI F.UPM_PRE_STAT_ATTEMPTS n 1).verifySend n rdy else d

def execVerifyStart (n : Nat) (rdy : List Bool) (s : State) : Host.Outcome State Fault Refusal := s.run (fun d => d.verifyStart n rdy)

/-- VERIFY_TIME has passed without a response (R211). -/
def Dev.verifyTimeout (d : Dev) (n : Nat) (rdy : List Bool) : Dev :=
  if !d.portUp n || d.f F.UPM_PRE_STAT_VSTATUS n != 2 || d.clk.ticks < (d.port n).vTick + d.verifyTicks n then d
  else
    let k := d.f F.UPM_PRE_STAT_ATTEMPTS n
    if k < 3 then (d.setI F.UPM_PRE_STAT_ATTEMPTS n (k + 1)).verifySend n rdy else (d.vstatus n 4).raise (1281 + 2 * n)

def execVerifyTimeout (n : Nat) (rdy : List Bool) (s : State) : Host.Outcome State Fault Refusal := s.run (fun d => d.verifyTimeout n rdy)

/-! The receiver, lane by lane (R192 to R197, R210, R217). -/

/-- What is being received ends: with its TERM lane, or spoilt by another START (R197, R210, R211). `rdy` are the levels of UPn_TXRDY for an
answer. -/
def Dev.rxEnd (d : Dev) (n : Nat) (rdy : List Bool) (f : RxNow) : Dev :=
  let d := d.portPut n { d.port n with rx := none }
  match d.kindAt n f.smd with
  | .express => d.macRxFrame n f.ts f.octets f.bad f.high f.full
  | .unknown => if f.bad then d.count F.UPM_CNT_RXE2_CODE_ERR n else d.count F.UPM_CNT_RXE2_BAD_SFD n
  | .verify => d.rxMPacket n f (fun d => d.mPacket n smdRespond rdy)
  | .respond => d.rxMPacket n f (fun d => d.respondRx n)
  | k => d.rxFragment n k f

/-- A START lane: it ends receive LPI, may be a link wake, and spoils a frame still in progress (R197, R217, R219); O is judged as the frame
starts (R214). -/
def Dev.laneStart (d : Dev) (n : Nat) (rdy : List Bool) (smd : Nat) : Dev :=
  let d := match (d.port n).rx with
    | some f => d.rxEnd n rdy { f with bad := true }
    | none => d
  let d := ((d.setI F.UPM_STAT_RX_LPI n 0).linkSeen n).act 11 1
  let high := d.f F.UPM_FC_CFG_TX_MODE n == 2 && d.occupancy n ≥ thr (d.f F.UPM_FC_THR_LOSSY_THR n)
  d.portPut n { d.port n with rx := some { smd := smd, high := high } }

/-- Octets of a frame in progress, which cross at `at'`; they go into the entry FIFO, if it has room (R196). -/
def Dev.rxOctets (d : Dev) (n at' : Nat) (f : RxNow) (l : List Byte) : Dev :=
  let f := { f with octets := f.octets ++ l, ts := if f.octets.isEmpty then d.timeAt at' else f.ts }
  let d := (d.portPut n { d.port n with rx := some f }).act 11 1
  if d.laneBeats n ≤ 1024 then d else d.portPut n { d.port n with rx := some { f with full := true } }

/-- One lane with its code and content (R192, R194, R197). DEDUCED: an IDLE or LPI lane within a frame carries no octet of it and is passed
over (log entry 34). -/
def Dev.rxLane (d : Dev) (n at' : Nat) (rdy : List Bool) (x : Nat × Nat) : Dev :=
  if x.1 == 2 then d.laneStart n rdy (startSmd x.2)
  else match (d.port n).rx with
    | none => d
    | some f =>
      if x.1 == 0 || x.1 == 4 then d
      else if x.1 == 1 then d.rxOctets n at' f (leBytes 8 x.2)
      else if x.1 ≥ 8 then
        let d := d.rxOctets n at' f (leBytes (x.1 - 8) x.2)
        match (d.port n).rx with
        | some f => d.rxEnd n rdy f
        | none => d
      else d.portPut n { d.port n with rx := some { f with bad := true } }

/-- One word: skipped whole while UPn_RXV is low; else its used lanes in order, and the state of receive LPI (R193, R217). -/
def Dev.rxWord (d : Dev) (n : Nat) (rdy : List Bool) (w : PortWord) : Dev :=
  if !w.valid then d
  else
    let lanes := d.portLanes n
    let lpi := d.b F.UPM_STAT_RX_LPI n
    let d :=
      if !lpi && allLpi lanes w then (d.setI F.UPM_STAT_RX_LPI n 1).count F.UPM_CNT_LPI_RX_LPI_ENTRIES n
      else if lpi && !anyLpi lanes w then (d.setI F.UPM_STAT_RX_LPI n 0).linkSeen n
      else d
    (List.range lanes).foldl (fun d k => d.rxLane n (d.laneAt n w.edge k) rdy (laneOf w k)) d

/-- Words arrive at port n, which takes nothing while it is off, disabled or without a link (R197); an XOFF may become due (R213). -/
def Dev.rxWords (d : Dev) (n : Nat) (rdy : List Bool) (words : List PortWord) : Dev :=
  if !d.portUp n then d else d.flowLook n (fun d => words.foldl (fun d w => d.rxWord n rdy w) d)

/-- The row of words whose every START lane is of the kinds `want`. -/
def Dev.rxRow (d : Dev) (n : Nat) (rdy : List Bool) (words : List PortWord) (want : SmdKind → Bool) : Dev :=
  if (wordStarts (d.portLanes n) words).all (fun v => want (d.kindAt n v)) then d.rxWords n rdy words else d

def execUpmRxFrame (n : Nat) (words : List PortWord) (s : State) : Host.Outcome State Fault Refusal :=
  s.run (fun d => d.rxRow n [] words (fun k => k == .express || k == .unknown))

def execPreemptFragmentRx (n : Nat) (words : List PortWord) (s : State) : Host.Outcome State Fault Refusal :=
  s.run (fun d => d.rxRow n [] words (fun k => match k with | .first _ => true | .next _ _ => true | _ => false))

def execVerifyMpacketRx (n : Nat) (words : List PortWord) (rdy : List Bool) (s : State) : Host.Outcome State Fault Refusal :=
  s.run (fun d => d.rxRow n rdy words (· == .verify))

def execRespondMpacketRx (n : Nat) (words : List PortWord) (s : State) : Host.Outcome State Fault Refusal :=
  s.run (fun d => d.rxRow n [] words (· == .respond))

/-- The octets of the DATA and TERM lanes of words: of a frame that they carry whole. -/
def laneOctets (lanes : Nat) (l : List PortWord) : List Byte :=
  (l.filter (·.valid)).flatMap (fun w => (List.range lanes).flatMap (fun k =>
    let x := laneOf w k
    if x.1 == 1 then leBytes 8 x.2 else if x.1 ≥ 8 then leBytes (x.1 - 8) x.2 else []))

/-- A frame with a MAC Control opcode arrives: words with one START lane that carry it whole. -/
def Dev.rxOpcode (d : Dev) (n op : Nat) (words : List PortWord) : Dev :=
  let l := laneOctets (d.portLanes n) words
  if u16 l 12 == 0x8808 && u16 l 14 == op && (wordStarts (d.portLanes n) words).length == 1 then
    d.rxRow n [] words (fun k => k == .express)
  else d

def execPauseRx (n : Nat) (words : List PortWord) (s : State) : Host.Outcome State Fault Refusal :=
  s.run (fun d => d.rxOpcode n 1 words)
def execPfcRx (n : Nat) (words : List PortWord) (s : State) : Host.Outcome State Fault Refusal :=
  s.run (fun d => d.rxOpcode n 0x0101 words)

/-! Generated flow control (R213). -/

/-- A PAUSE or priority PAUSE frame with its quanta, as TX_MODE says. -/
def Dev.pauseFrame (d : Dev) (n quanta : Nat) (rdy : List Bool) : Dev :=
  let pfc := d.f F.UPM_FC_CFG_TX_MODE n == 2
  let mask := d.f F.UPM_FC_CFG_PFC_MASK n
  let pars := if pfc then beBytes 2 mask ++ (List.range 8).flatMap (fun i => beBytes 2 (if bit mask i then quanta else 0))
    else beBytes 2 quanta
  let l := withFcs (beBytes 6 0x0180C2000001 ++ beBytes 6 (d.f F.UPM_MACADDR_ADDR n) ++ beBytes 2 0x8808 ++
    beBytes 2 (if pfc then 0x0101 else 1) ++ pars)
  (d.drive n 0 sfdExpress l false rdy).count (if pfc then F.UPM_CNT_FC_PFC_TX else F.UPM_CNT_FC_PAUSE_TX) n

/-- The port generates flow control. -/
def Dev.pauseTx (d : Dev) (n : Nat) : Bool :=
  d.portUp n && (d.f F.UPM_FC_CFG_TX_MODE n == 1 || d.f F.UPM_FC_CFG_TX_MODE n == 2)

/-- An XOFF is to be sent: O has reached XOFF_THR, again or while no XOFF is in force (R213). -/
def Dev.xoffWanted (d : Dev) (n : Nat) : Bool :=
  d.pauseTx n && ((d.port n).xoffDue || (!d.b F.UPM_STAT_XOFF n && d.occupancy n ≥ thr (d.f F.UPM_FC_THR_XOFF_THR n)))

/-- An XON is to be sent: O has fallen to XON_THR (R213). -/
def Dev.xonWanted (d : Dev) (n : Nat) : Bool :=
  d.pauseTx n && d.b F.UPM_STAT_XOFF n && d.occupancy n ≤ thr (d.f F.UPM_FC_THR_XON_THR n)

/-- An XOFF goes out, and answers what was due (R213, R222). -/
def Dev.xoffGo (d : Dev) (n : Nat) (rdy : List Bool) : Dev :=
  ((d.portPut n { d.port n with xoffDue := false }).setI F.UPM_STAT_XOFF n 1).pauseFrame n (d.f F.UPM_FC_CFG_TX_QUANTA n) rdy

def Dev.xoffSend (d : Dev) (n : Nat) (rdy : List Bool) : Dev := if d.xoffWanted n then d.xoffGo n rdy else d

def execXoffSend (n : Nat) (rdy : List Bool) (s : State) : Host.Outcome State Fault Refusal := s.run (fun d => d.xoffSend n rdy)

def Dev.xoffRepeat (d : Dev) (n : Nat) (rdy : List Bool) : Dev :=
  if d.pauseTx n && d.b F.UPM_STAT_XOFF n && d.occupancy n > thr (d.f F.UPM_FC_THR_XON_THR n) then d.xoffGo n rdy else d

def execXoffRepeat (n : Nat) (rdy : List Bool) (s : State) : Host.Outcome State Fault Refusal := s.run (fun d => d.xoffRepeat n rdy)

def Dev.xonSend (d : Dev) (n : Nat) (rdy : List Bool) : Dev :=
  if d.xonWanted n then ((d.portPut n { d.port n with xoffDue := false }).setI F.UPM_STAT_XOFF n 0).pauseFrame n 0 rdy else d

def execXonSend (n : Nat) (rdy : List Bool) (s : State) : Host.Outcome State Fault Refusal := s.run (fun d => d.xonSend n rdy)

/-! Low-power idle. -/

/-- The hold-off before LPI, in µs, by the pond state in force at the last TICK (R216, R240). -/
def Dev.idleHold (d : Dev) (n : Nat) : Nat :=
  if d.f F.PWR_POND_LVL_STATE != 0 then d.f F.UPM_EEE_CFG_IDLE_HOLD_POND n else d.f F.UPM_EEE_CFG_IDLE_HOLD n

/-- Nothing waits at port n and nothing is due (R216). -/
def Dev.portIdle (d : Dev) (n : Nat) : Bool :=
  (List.range 8).all (fun i => (d.egr n i).frames.isEmpty) && (d.port n).held.isNone &&
    d.f F.UPM_PRE_STAT_VSTATUS n != 2 && !d.verifyDue n && !d.xoffWanted n && !d.xonWanted n

/-- The port has been idle for `us` µs: LPI begins once that is the hold-off (R216, R222). -/
def Dev.lpiEntry (d : Dev) (n us : Nat) : Dev :=
  if d.portUp n && d.b F.UPM_EEE_CFG_EEE_EN n && !d.b F.UPM_STAT_TX_LPI n && d.portIdle n && us ≥ d.idleHold n then
    (d.setI F.UPM_STAT_TX_LPI n 1).count F.UPM_CNT_LPI_TX_LPI_ENTRIES n
  else d

def execLpiEntry (n us : Nat) (s : State) : Host.Outcome State Fault Refusal := s.run (fun d => d.lpiEntry n us)

def Dev.rxLpiEntry (d : Dev) (n : Nat) : Dev :=
  if d.portUp n && !d.b F.UPM_STAT_RX_LPI n then (d.setI F.UPM_STAT_RX_LPI n 1).count F.UPM_CNT_LPI_RX_LPI_ENTRIES n else d

def execRxLpiEntry (n : Nat) (s : State) : Host.Outcome State Fault Refusal := s.run (fun d => d.rxLpiEntry n)

def Dev.rxLpiExit (d : Dev) (n : Nat) : Dev :=
  if d.portOn n && d.b F.UPM_STAT_RX_LPI n then (d.setI F.UPM_STAT_RX_LPI n 0).linkSeen n else d

def execRxLpiExit (n : Nat) (s : State) : Host.Outcome State Fault Refusal := s.run (fun d => d.rxLpiExit n)

/-! Link. -/

/-- The frames in progress at port n: one being received, and a reassembly that it does not continue. -/
def PortPart.inProgress (p : PortPart) : Nat :=
  match p.rx, p.asm with
  | none, none => 0
  | some f, some a => if f.continues a then 1 else 2
  | _, _ => 1

/-- The link of port n as the port takes it has come up or gone down; a fall discards the frames in progress (R197, R202, R211, R219). -/
def Dev.linkMoved (d : Dev) (n : Nat) (level : Bool) : Dev :=
  let p := d.port n
  let d := d.portPut n { p with credit := if level then 0 else p.credit }
  if !d.portOn n then d
  else
    let d := d.raise (1280 + 2 * n)
    if level then d.linkSeen n
    else
      let d := (d.portPut n { d.port n with rx := none, asm := none }).countN F.UPM_CNT_RXE2_CODE_ERR p.inProgress n
      (d.vRestart n).setI F.UPM_STAT_RX_LPI n 0

/-- UPn_LINK takes a level. -/
def Dev.linkChange (d : Dev) (n : Nat) (level : Bool) : Dev :=
  let p := d.port n
  if n ≥ 4 || p.link == level then d
  else
    let was := d.portLink n
    let d := d.portPut n { p with link := level }
    if d.inStill || d.inOff then (if level && bit (d.f F.PWR_WAKE_CFG_LINK_PORTS) n then d.wake 1 else d)
    else if d.portLink n == was then d
    else d.linkMoved n level

def execUpmLinkChange (n : Nat) (level : Bool) (s : State) : Host.Outcome State Fault Refusal :=
  s.run (fun d => d.linkChange n level)

/-! Configuration (R22, R195, R211, R215). -/

/-- MAXRATE of port n (R29). -/
def Dev.maxRate (d : Dev) (n : Nat) : Nat :=
  ([d.f F.ID_INTEG_PORT0_MAXRATE, d.f F.ID_INTEG_PORT1_MAXRATE, d.f F.ID_INTEG_PORT2_MAXRATE, d.f F.ID_INTEG_PORT3_MAXRATE] : List Nat).getD n 0

def Dev.upmRefuse (d : Dev) (n why : Nat) : Dev := (d.setI F.UPM_STAT_REFUSED n 1).setI F.UPM_STAT_REFUSE_WHY n why

/-- REFUSE_WHY of a write that would leave EN and RATE so; 0 when it stands (R195). -/
def Dev.upmWhy (d : Dev) (n en rate : Nat) : Nat :=
  let was := d.b F.UPM_CFG_EN n
  let m := n / 2 * 2 + (1 - n % 2)
  let partner := if d.b F.UPM_CFG_EN m then rateGb (d.f F.UPM_CFG_RATE m) else 0
  if en == 1 && !bit (d.f F.ID_INTEG_PORT_WIRED) n then 3
  else if rate > d.maxRate n then 2
  else if was && en == 1 && rate != d.f F.UPM_CFG_RATE n then 4
  else if en == 1 && rateGb rate + partner > 200 then 1
  else 0

/-- A direct write of UPM_CFG[n]; EN = 0 discards a frame in progress (R197), and no LPI is driven without UPn_TXV (R193, R216). -/
def Dev.upmDirect (n : Nat) (w : RegWr) (d : Dev) : Dev :=
  let en := w.merged F.UPM_CFG_EN (d.f F.UPM_CFG_EN n)
  let rate := w.merged F.UPM_CFG_RATE (d.f F.UPM_CFG_RATE n)
  let why := d.upmWhy n en rate
  if why != 0 then d.upmRefuse n why
  else
    let d := if !d.b F.UPM_CFG_EN n && en == 1 then d.portPut n { d.port n with credit := 0, part := [] } else d
    let d := if en == 0 then (d.portPut n { d.port n with rx := none, asm := none }).setI F.UPM_STAT_TX_LPI n 0 else d
    d.putAll (fldsAt (0xA0000 + 0x4000 * n)) w

def Dev.writeUpmCfg (n : Nat) (w : RegWr) (d : Dev) : Dev :=
  d.stWrite (0xA0000 + 0x4000 * n) w (fun w d => d.mirWrite (0xA0000 + 0x4000 * n) w (Dev.upmDirect n))

def execUpmCfgWrite (n : Nat) (w : RegWr) (s : State) : Host.Outcome State Fault Refusal :=
  s.run (fun d => if n ≥ 4 then d else d.gated (0xA0000 + 0x4000 * n) w (Dev.writeUpmCfg n w))

/-- A write of UPM_FC_THR[n] (R215). -/
def Dev.writeFcThr (n : Nat) (w : RegWr) (d : Dev) : Dev :=
  if thr (w.merged F.UPM_FC_THR_XON_THR (d.f F.UPM_FC_THR_XON_THR n)) ≥
      thr (w.merged F.UPM_FC_THR_XOFF_THR (d.f F.UPM_FC_THR_XOFF_THR n)) then d.upmRefuse n 5
  else d.flowLook n (fun d => d.putAll (fldsAt (0xA0020 + 0x4000 * n)) w)

def execUpmFcThrWrite (n : Nat) (w : RegWr) (s : State) : Host.Outcome State Fault Refusal :=
  s.run (fun d => if n ≥ 4 then d else d.gated (0xA0020 + 0x4000 * n) w (Dev.writeFcThr n w))

/-- A direct write of UPM_PRE_CFG[n]; one that reaches PRE_EN starts VSTATUS anew (R211). -/
def Dev.preDirect (n : Nat) (w : RegWr) (d : Dev) : Dev :=
  let d := d.putAll (fldsAt (0xA0030 + 0x4000 * n)) w
  if w.mask.getLsbD 0 then d.vRestart n else d

def Dev.writePreCfg (n : Nat) (w : RegWr) (d : Dev) : Dev :=
  d.stWrite (0xA0030 + 0x4000 * n) w (fun w d => d.mirWrite (0xA0030 + 0x4000 * n) w (Dev.preDirect n))

def execPreEnWrite (n : Nat) (w : RegWr) (s : State) : Host.Outcome State Fault Refusal :=
  s.run (fun d => if n ≥ 4 then d else d.gated (0xA0030 + 0x4000 * n) w (Dev.writePreCfg n w))

/-- A write of UPM_EEE_CFG[n]: TW_SYS_TX is Docent's, and without EEE_EN no LPI is driven (R216). -/
def Dev.writeEee (n : Nat) (w : RegWr) (d : Dev) : Dev :=
  let d := ((d.put F.UPM_EEE_CFG_EEE_EN w n).put F.UPM_EEE_CFG_IDLE_HOLD w n).put F.UPM_EEE_CFG_IDLE_HOLD_POND w n
  let d := if d.b F.UPM_EEE_CFG_EEE_EN n then d else d.setI F.UPM_STAT_TX_LPI n 0
  if w.agent == .docent then d.put F.UPM_EEE_CFG_TW_SYS_TX w n else d

/-- The domain of port n drops: what is being received, reassembly, pause timers and VSTATUS are lost (R418). -/
def Dev.portPowerDown (d : Dev) (n : Nat) : Dev :=
  let p := d.port n
  (d.portPut n { p with quanta := List.replicate 8 0, rx := none, asm := none, part := [] }).vRestart n

end Sys2Proof.Machine
end

