-- ==== Sys2Proof/Machine/Admin.lean ====
section
/-! DEFINITION. The admin queues, which Docent serves (R273 to R276, R525), and Docent's start (R341, R357). -/

namespace Sys2Proof

/-- The command of an admin work entry (R273), and its parameters. -/
def AdminIn.cmd (e : AdminIn) : Nat := (e.words.getD 0 0).toNat / 2 ^ 56
def AdminIn.cookie (e : AdminIn) : Nat := (e.words.getD 1 0).toNat
def AdminIn.p (e : AdminIn) (k : Nat) : Nat := (e.words.getD (2 + k) 0).toNat

end Sys2Proof

namespace Sys2Proof.Machine

/-- What a command answers: STATUS, RESULT0 and RESULT1. -/
structure AdminAns where
  status : Nat := 0
  r0 : Nat := 0
  r1 : Nat := 0

/-- An access of Docent to host memory that ends within its command: beats and events are counted (R471, R504). -/
def Dev.docentAccess (d : Dev) (write : Bool) (f addr len : Nat) (ok : Bool) : Dev :=
  let d := d.act (if write then 9 else 8) (fabBeats addr len)
  let d := (List.range (fabBeats addr len)).foldl (fun d i =>
    d.pmc (if write then 3 else 2) 1
      { priv := some 1, func := some f, master := some 4, addr := some ((addr / 64 + i) * 64) }) d
  if ok then d else d.pmc 4 1 { priv := some 1, func := some f, master := some 4, addr := some addr }

/-- The completion of an admin command is written (R261, R273, R274). -/
def Dev.adminAnswer (d : Dev) (f idx cookie : Nat) (x : AdminAns) : Dev :=
  match d.hrg.admin.look f with
  | none => d
  | some a =>
    let w0 := 2 * 2 ^ 60 + x.status * 2 ^ 52 + idx * 2 ^ 24 + 2 ^ 18
    let data := leBytes 8 w0 ++ leBytes 8 cookie ++ leBytes 8 x.r0 ++ leBytes 8 x.r1
    (d.adminPut f { a with busy := true, hold := none }).request
      { ringReq (.completion (2048 + f) a.pi) true f (a.cqBase + 32 * (a.pi % 2 ^ a.cqLog)) 32 data with mstr := 4 }

/-- Functions that come after `last` and before f, going round (R274). -/
def idxTurn (last f : Nat) : Nat := (f + 3 - last % 4) % 4

/-- Docent may take a command of function f (R274): one waits, none of f is under way, and no destroy has Docent wait (R271). -/
def Dev.adminOpen (d : Dev) (f : Nat) : Bool :=
  d.docentRuns && d.on 1 && d.on 27 && d.on 31 && f < 4 && !d.resetting f && !d.b F.HRG_QCTX_CMD_BUSY &&
  (match d.hrg.admin.look f with
   | some a => a.head != a.tail && !a.busy && a.hold.isNone
   | none => false)

/-- The completion queue of function f has room by the HOST_IDX last read (R274). -/
def Dev.adminRoom (d : Dev) (f : Nat) : Bool :=
  match d.hrg.admin.look f with
  | some a => idxSub a.pi a.hostIdx < 2 ^ a.cqLog
  | none => false

/-- It is function f's turn in the round robin: no function after the one served last and before f has a command that can be taken (R274). -/
def Dev.adminTurn (d : Dev) (f : Nat) : Bool :=
  (List.range (idxTurn d.hrg.turn f)).all (fun k =>
    let g := (d.hrg.turn + 1 + k) % 4
    !d.adminOpen g || !d.adminRoom g)

/-- Take the next command of function f, if the words hold command `ok` and it is f's turn: HOST_IDX is read first, and the completion queue
must have room; DEV_IDX of the work queue advances (R273, R274). -/
def Dev.adminTake (f : Nat) (e : AdminIn) (ok : Nat → Bool) (g : Nat → Dev → Dev) (d : Dev) : Dev :=
  if !d.adminOpen f || !d.adminTurn f || !ok e.cmd then d
  else
    let d := { d with hrg := { d.hrg with turn := f } }
    let hdr := match d.hrg.admin.look f with | some a => a.cqHdr | none => 0
    let d := (d.docentAccess false f (hdr + 8) 8 true).adminHost f e.hostIdx
    match d.hrg.admin.look f with
    | none => d
    | some a =>
      if idxSub a.pi a.hostIdx ≥ 2 ^ a.cqLog then d
      else
        let d := d.docentAccess false f (a.wqBase + 64 * (a.head % 2 ^ a.wqLog)) 64 true
        g a.head (d.adminPut f { a with head := (a.head + 1) % 2 ^ 18 })

/-- A command that is answered at once. -/
def Dev.adminCmd (f c : Nat) (e : AdminIn) (g : Dev → AdminAns × Dev) (d : Dev) : Dev :=
  d.adminTake f e (· == c) (fun idx d =>
    let r := g d
    r.2.adminAnswer f idx e.cookie r.1)

/-! Queues. -/

/-- The lowest queue number whose STATE field reads FREE, and how many do. -/
def Dev.freeQueue (d : Dev) (x : Fld) : Option Nat := (List.range 1024).find? (fun q => d.f x q == 0)
def Dev.freeQueues (d : Dev) (x : Fld) : Nat := 1024 - (d.listed x).countP (fun p => p.2 != 0)

/-- The answer to a create, from ERR of HRG_QCTX_CMD. -/
def Dev.createAns (d : Dev) (q : Nat) : AdminAns :=
  match d.f F.HRG_QCTX_CMD_ERR with
  | 0 => { r0 := q }
  | 5 => { status := 0x44 }
  | 6 => { status := 0x45 }
  | e => { status := 0x47, r0 := e }

/-- Docent sets the addresses of the next create. -/
def Dev.qctxAddr (d : Dev) (base hdr : Nat) : Dev := (d.set F.HRG_QCTX_BASE_BASE base).set F.HRG_QCTX_HDR_HDR hdr

def Dev.adminCreateCq (f : Nat) (e : AdminIn) (d : Dev) : AdminAns × Dev :=
  let lg := bits (e.p 0) 0 5
  if lg < 4 || lg > 16 then ({ status := 0x41 }, d)
  else match d.freeQueue F.HRG_CQ_STAT_STATE with
    | none => ({ status := 0x43 }, d)
    | some q =>
      let d := (d.qctxAddr (e.p 1) (e.p 2)).createCq q f lg
      (d.createAns q, d)

def Dev.adminCreateWq (f : Nat) (e : AdminIn) (d : Dev) : AdminAns × Dev :=
  let lg := bits (e.p 0) 0 5
  let cq := bits (e.p 0) 16 10
  if lg < 4 || lg > 16 then ({ status := 0x41 }, d)
  else if !d.cqReady cq || d.f F.HRG_CQ_STAT_FUNC cq != f then ({ status := 0x44 }, d)
  else match d.freeQueue F.HRG_WQ_STAT_STATE with
    | none => ({ status := 0x43 }, d)
    | some q =>
      let rx := bit (e.p 0) 5
      let d := (d.qctxAddr (e.p 1) (e.p 2)).createWq q f lg cq (if rx then bits (e.p 3) 0 17 else 0) rx
      (d.createAns q, d)

/-- The answer to a destroy: a queue with linked work queues is not drained (R271, R276). -/
def destroyAns (err : Nat) : AdminAns :=
  match err with
  | 0 => {}
  | 2 => { status := 0x42 }
  | 7 => { status := 0x42 }
  | e => { status := 0x47, r0 := e }

/-- A destroy by Docent (R275): refused where the queue is not READY or another function's; else it is begun, and answered at once unless
the engine is still at it (R271). -/
def Dev.adminDestroy (f c : Nat) (e : AdminIn) (mine : Nat → Dev → Bool) (g : Nat → Dev → Dev) (d : Dev) : Dev :=
  d.adminTake f e (· == c) (fun idx d =>
    let q := bits (e.p 0) 0 10
    if !mine q d then d.adminAnswer f idx e.cookie { status := 0x44 }
    else
      let d := g q d
      if !d.b F.HRG_QCTX_CMD_BUSY then d.adminAnswer f idx e.cookie (destroyAns (d.f F.HRG_QCTX_CMD_ERR))
      else match d.hrg.admin.look f with
        | some a => d.adminPut f { a with hold := some (.destroyCq idx e.cookie none) }
        | none => d)

def Dev.adminQuery (f : Nat) (e : AdminIn) (d : Dev) : AdminAns × Dev :=
  let q := bits (e.p 0) 0 10
  if bit (e.p 0) 10 then
    (if !d.cqReady q || d.f F.HRG_CQ_STAT_FUNC q != f then { status := 0x44 } else { r0 := d.cqWord q }, d)
  else (if !d.wqReady q || d.f F.HRG_WQ_STAT_FUNC q != f then { status := 0x44 } else { r0 := d.wqWord q }, d)

def execAdminNop (f : Nat) (e : AdminIn) (s : State) : Host.Outcome State Fault Refusal :=
  s.run (Dev.adminCmd f 0 e (fun d => ({}, d)))

def execGetInfo (f : Nat) (e : AdminIn) (s : State) : Host.Outcome State Fault Refusal :=
  s.run (Dev.adminCmd f 1 e (fun d =>
    ({ r0 := d.f F.MBX_DOCENT_VERSION + f * 2 ^ 16
       r1 := d.freeQueues F.HRG_WQ_STAT_STATE + d.freeQueues F.HRG_CQ_STAT_STATE * 2 ^ 16 }, d)))

def execCreateCq (f : Nat) (e : AdminIn) (s : State) : Host.Outcome State Fault Refusal :=
  s.run (Dev.adminCmd f 2 e (Dev.adminCreateCq f e))

def execDestroyCq (f : Nat) (e : AdminIn) (s : State) : Host.Outcome State Fault Refusal :=
  s.run (Dev.adminDestroy f 3 e (fun q d => d.cqReady q && d.f F.HRG_CQ_STAT_FUNC q == f) (fun q d => d.destroyCq q))

def execCreateWq (f : Nat) (e : AdminIn) (s : State) : Host.Outcome State Fault Refusal :=
  s.run (Dev.adminCmd f 4 e (Dev.adminCreateWq f e))

def execDestroyWq (f : Nat) (e : AdminIn) (s : State) : Host.Outcome State Fault Refusal :=
  s.run (Dev.adminDestroy f 5 e (fun q d => d.wqReady q && d.f F.HRG_WQ_STAT_FUNC q == f) (fun q d => d.destroyWq q))

def execQueryQ (f : Nat) (e : AdminIn) (s : State) : Host.Outcome State Fault Refusal :=
  s.run (Dev.adminCmd f 6 e (Dev.adminQuery f e))

/-! The tables (R275, R525). -/

/-- KTYPE and key of a TABLE_WRITE record; none where it is neither a 128-bit nor a 384-bit key. -/
def recordKey (r : List Word) : Option (Nat × Key) :=
  let w := fun i => (r.getD i 0).toNat
  if (List.range 4).all (fun i => w (2 + i) == 0) && w 1 / 2 ^ 62 < 2 then some (w 1 / 2 ^ 62, ⟨w 0 + w 1 * 2 ^ 64, false⟩)
  else if w 5 / 2 ^ 62 == 2 then some (2, ⟨(List.range 6).foldl (fun a i => a + w i * 2 ^ (64 * i)) 0, true⟩)
  else none

/-- The slot has room for an entry there: free, with its partner for a 384-bit key. -/
def Dev.room (d : Dev) (wide : Bool) (i : Nat) : Bool :=
  d.slotFree i && (!wide || (i % 2 == 0 && d.slotFree (i + 1)))

/-- Places for an entry in a bucket whose bank is powered. -/
def Dev.places (d : Dev) (first : Nat) (wide : Bool) : List Nat :=
  if !d.on (bankDomain (first / 65536)) then []
  else if wide then (List.range 4).map (fun p => first + 2 * p) else (List.range 8).map (fun p => first + p)

/-- The start slot of the one entry that stands in the way at place i, if it is one. -/
def Dev.occupant (d : Dev) (wide : Bool) (i : Nat) : Option Nat :=
  let here := if d.isCont i then some (i - 1) else if d.slotFree i then none else some i
  let next := if !wide || d.isCont (i + 1) || d.slotFree (i + 1) then none else some (i + 1)
  match here, next with
  | some a, none => some a
  | none, some b => some b
  | _, _ => none

/-- Room in a bucket for an entry, made where needed by a chain of at most `depth` MOVEs of entries to their other buckets (R275):
the place, and the device after the moves. -/
def Dev.makeRoom : Nat → Nat → Nat → Bool → Dev → Option (Nat × Dev)
  | 0, _, first, wide, d => ((d.places first wide).find? (d.room wide)).map (fun i => (i, d))
  | depth + 1, t, first, wide, d =>
    match (d.places first wide).find? (d.room wide) with
    | some i => some (i, d)
    | none => (d.places first wide).findSome? (fun i =>
      match d.occupant wide i with
      | none => none
      | some o =>
        let k := d.entryKey o
        let c := if k.bucketSlot t 0 ≤ o && o < k.bucketSlot t 0 + 8 then 1 else 0
        match Dev.makeRoom depth t (k.bucketSlot t c) k.wide d with
        | none => none
        | some (j, d') =>
          if d'.slot o != d.slot o || !d'.room k.wide j then none
          else
            let r := d'.updOp d.isSink 3 (slotLoc o * 16) (slotLoc j * 16)
            if r.1 == 0 && r.2.room wide i then some (i, r.2) else none)

/-- The lowest place in the stash. -/
def Dev.stashRoom (d : Dev) (wide : Bool) : Option Nat :=
  if !d.on 14 then none else ((List.range 1024).map (stashBase + ·)).find? (d.room wide)

/-- Where a new entry goes: a free place of its two buckets, room made by MOVEs, or the stash (R275). -/
def Dev.tableRoom (d : Dev) (t : Nat) (k : Key) : Option (Nat × Dev) :=
  let tries := [(0, 0), (0, 1), (4, 0), (4, 1)]
  match tries.findSome? (fun x => Dev.makeRoom x.1 t (k.bucketSlot t x.2) k.wide d) with
  | some r => some r
  | none => (d.stashRoom k.wide).map (fun i => (i, d))

/-- Location of an entry of table t as CLS_UPD_CMD [32:4] has it; a stash slot's table is in its bit 4. -/
def entryLoc (t i : Nat) : Nat := slotLoc i + (if i ≥ stashBase then t else 0)

/-- The entry visible for a key under the pending accession, made invisible there: whether there was one. -/
def Dev.tableHide (d : Dev) (t : Nat) (k : Key) : Bool × Dev :=
  match d.tableFind t k d.accNext with
  | none => (false, d)
  | some i => (true, (d.updOp d.isSink 4 (entryLoc t i * 16) 0).2)

/-- The new entry is written: CLS_UPD_DATA and the WRITE (R169, R189); its location. -/
def Dev.tableInsert (d : Dev) (t : Nat) (k : Key) (act : Nat) : AdminAns × Dev :=
  match d.tableRoom t k with
  | none => ({ status := 0x43 }, d)
  | some (i, d) =>
    let v := (if k.wide then k.val / 2 ^ 256 else k.val) + act % 2 ^ 126 * 2 ^ 128 +
      2 ^ (if d.accNext % 2 == 0 then 254 else 255)
    let d := (d.setUpdSlot 0 v).setUpdSlot 1 (if k.wide then k.val % 2 ^ 256 else 0)
    let loc := entryLoc t i
    let r := d.updOp d.isSink 2 (loc * 16) 0
    if r.1 != 0 then ({ status := 0x45 }, r.2) else ({ r0 := loc * 16 }, r.2)

/-- TABLE_WRITE and TABLE_DELETE in OPEN. -/
def Dev.tableDo (d : Dev) (del : Bool) (kt : Nat) (k : Key) (act : Nat) : AdminAns × Dev :=
  let t := b2n (kt != 0)
  let h := d.tableHide t k
  if del then (if h.1 then {} else { status := 0x49 }, h.2) else h.2.tableInsert t k act

/-- A TABLE_WRITE or TABLE_DELETE: none where it must wait for the accession (R525); 48h while the update engine is busy (R276). -/
def Dev.tableCmd (d : Dev) (del : Bool) (record : List Word) (ok : Bool) : Option (AdminAns × Dev) :=
  if !ok then some ({ status := 0x46 }, d)
  else match recordKey record with
    | none => some ({ status := 0x41 }, d)
    | some (kt, k) =>
      if d.isSink || !d.on 11 || d.accState == 0 || d.accState == 2 then some ({ status := 0x45 }, d)
      else if d.accState != 1 then none
      else
        let d := d.updSettle
        if d.b F.CLS_UPD_STAT_BUSY then some ({ status := 0x48 }, d)
        else some (d.tableDo del kt k ((record.getD 6 0).toNat + (record.getD 7 0).toNat * 2 ^ 64))

/-- Such a command as taken: the record is read from P0. -/
def Dev.adminTable (f : Nat) (e : AdminIn) (del : Bool) (record : List Word) (c : Rsp) (d : Dev) : Dev :=
  d.adminTake f e (· == (if del then 8 else 7)) (fun idx d =>
    let d := d.docentAccess false f (e.p 0) 64 c.ok
    match d.tableCmd del record c.ok with
    | some r => r.2.adminAnswer f idx e.cookie r.1
    | none =>
      match d.hrg.admin.look f with
      | some a => d.adminPut f { a with hold := some (.table del idx e.cookie record c.ok) }
      | none => d)

def execTableWrite (f : Nat) (e : AdminIn) (record : List Word) (r : Rsp) (s : State) : Host.Outcome State Fault Refusal :=
  s.run (Dev.adminTable f e false record r)

def execTableDelete (f : Nat) (e : AdminIn) (record : List Word) (r : Rsp) (s : State) : Host.Outcome State Fault Refusal :=
  s.run (Dev.adminTable f e true record r)

/-! The commit. -/

/-- Docent stages, checks and arms the commit of accession `acc` in set s for a frame; the CHECK reason, 0 where it passed. -/
def Dev.commitStage (d : Dev) (s frame acc : Nat) : Nat × Dev :=
  let d := ((d.stgOpen s 1).setI F.STG_APPLY_FRAME s frame).setI F.STG_APPLY_NEXT s 0
  let d := ((d.stage 1 s accCurOff (stMask accCurOff) acc)).stgTest s 1 (fun d => d.stgCheckArm s)
  let why := d.f F.STG_STAT_REASON s
  (why, if why == 0 then d else d.stgDrop s 1)

/-- ACC_COMMIT (R186, R275): it waits until the old accession has retired (R274). -/
def Dev.adminCommit (f : Nat) (e : AdminIn) (d : Dev) : Dev :=
  d.adminTake f e (· == 9) (fun idx d =>
    let p := bits (e.p 0) 0 51
    let frame := if p == 0 then d.clk.sfc + 2 else p
    let answer := fun (x : AdminAns) (d : Dev) => d.adminAnswer f idx e.cookie x
    if d.isSink then answer { status := 0x45 } d
    else if frame > d.clk.sfc + 65536 then answer { status := 0x41 } d
    else match [0, 1].find? (fun s => d.stgState s == 0) with
      | none => answer { status := 0x45 } d
      | some s =>
        let acc := d.accNext
        let r := d.commitStage s frame acc
        if r.1 != 0 then answer { status := 0x47, r1 := r.1 } r.2
        else match r.2.hrg.admin.look f with
          | some a => r.2.adminPut f { a with hold := some (.commit idx e.cookie acc) }
          | none => r.2)

def execAccCommit (f : Nat) (e : AdminIn) (s : State) : Host.Outcome State Fault Refusal := s.run (Dev.adminCommit f e)

/-- The command that function f holds goes on, where it can (R274, R525). -/
def Dev.adminResume (d : Dev) (f : Nat) : Dev :=
  match d.hrg.admin.look f with
  | none => d
  | some a =>
    match a.hold with
    | none => d
    | some (.commit idx cookie acc) =>
      if d.accCur == acc then (if d.accState == 1 then d.adminAnswer f idx cookie { r0 := acc } else d)
      else if (List.range 4).any (fun s => d.holdsCommit s) then d
      else d.adminAnswer f idx cookie { status := 0x45 }
    | some (.table del idx cookie record ok) =>
      match d.tableCmd del record ok with
      | some r => r.2.adminAnswer f idx cookie r.1
      | none => d
    | some (.destroyCq idx cookie err) =>
      match err with
      | some e => d.adminAnswer f idx cookie (destroyAns e)
      | none => d

/-- Docent looks at the held commands; one that is stopping finishes them (R350). -/
def Dev.adminTick (d : Dev) : Dev :=
  if d.docentServes && d.on 27 && d.on 31 then (List.range 4).foldl Dev.adminResume d else d

/-! The others. -/

/-- EEE_WAKE: TW_SYS_TX of a wired port. -/
def Dev.eeeWake (n tw : Nat) (d : Dev) : AdminAns × Dev :=
  if !bit (d.f F.ID_INTEG_PORT_WIRED) n || tw == 0 then ({ status := 0x41 }, d)
  else if d.on (18 + n) then ({}, d.setI F.UPM_EEE_CFG_TW_SYS_TX n tw)
  else ({}, d.regDropped (0xA0040 + 0x4000 * n))

def execEeeWake (f : Nat) (e : AdminIn) (s : State) : Host.Outcome State Fault Refusal :=
  s.run (Dev.adminCmd f 0xA e (Dev.eeeWake (e.p 0 % 4) (bits (e.p 0) 16 16)))

/-- SLEEP_REQ: TST_SLEEP.REQ, which needs ALLOWED. -/
def Dev.sleepReq (v : Bool) (d : Dev) : AdminAns × Dev :=
  if v && !d.b F.TST_SLEEP_ALLOWED then ({ status := 0x45 }, d)
  else ({}, d.writeTstSleep (RegWr.full .docent (64 * b2n v)))

def execSleepReq (f : Nat) (e : AdminIn) (s : State) : Host.Outcome State Fault Refusal :=
  s.run (Dev.adminCmd f 0xB e (Dev.sleepReq (bit (e.p 0) 0)))

/-- Docent writes octets to host memory within a command: the request goes out, and its answer is at hand. -/
def Dev.docentWrite (d : Dev) (f addr : Nat) (data : List Byte) (ok : Bool) : Dev :=
  let r := { ringReq .image true f addr data.length data with mstr := 4 }
  { d with fab := { d.fab with docentOut := some r } }.docentAccess true f addr data.length ok

/-- STATS_SNAP (R466 to R469): a snapshot in bank 1, whose octets are written to host memory at P0 (R275). -/
def Dev.statsSnap (f addr g : Nat) (c : Rsp) (d : Dev) : AdminAns × Dev :=
  match if addr % 64 == 0 then snapGroup g else none with
  | none => ({ status := 0x41 }, d)
  | some rs =>
    let n := 8 * (3 + rs.length)
    let d := d.snapTake 1 g false rs
    let d := d.docentWrite f addr (((d.obs.snap.getD 1 []).take (n / 8)).flatMap (fun w => leBytes 8 w.toNat)) c.ok
    (if c.ok then { r0 := n } else { status := 0x46 }, d)

def execStatsSnap (f : Nat) (e : AdminIn) (r : Rsp) (s : State) : Host.Outcome State Fault Refusal :=
  s.run (Dev.adminCmd f 0xC e (Dev.statsSnap f (e.p 0) (e.p 1 % 256) r))

def execAdminUnknown (f : Nat) (e : AdminIn) (s : State) : Host.Outcome State Fault Refusal :=
  s.run (Dev.adminTake f e (fun c => 0xC < c) (fun idx d => d.adminAnswer f idx e.cookie { status := 0x40 }))

/-! Docent's start. -/

/-- A command that was taken before Docent went down is completed with 45h and RESULT1 [63] (R357). -/
def Dev.adminBroken (d : Dev) (f : Nat) : Dev :=
  match d.hrg.admin.look f with
  | none => d
  | some a =>
    match a.hold with
    | none => d
    | some (.commit idx cookie _) => d.adminAnswer f idx cookie { status := 0x45, r1 := 2 ^ 63 }
    | some (.table _ idx cookie _ _) => d.adminAnswer f idx cookie { status := 0x45, r1 := 2 ^ 63 }
    | some (.destroyCq idx cookie _) => d.adminAnswer f idx cookie { status := 0x45, r1 := 2 ^ 63 }

/-- Docent runs: stage 6, DOCENT_READY with its notice, every notice enabled, and the broken commands are completed (R341, R352,
R357). -/
def Dev.docentStart (d : Dev) : Dev :=
  if !d.fw.accepted || d.f F.MBX_FW_STAT_DSTATE != 1 || d.fw.load.isSome || !d.on 1 then d
  else
    let d := ((d.bootStage 6).set F.MBX_FW_STAT_DSTATE 2).raise 1445
    let d := { d with fw := { d.fw with
      mask := 0xFFFF, down := false, accepted := false, kickTick := d.clk.ticks, readyTick := d.clk.ticks } }
    let d := d.notice 0x81 [BitVec.ofNat 64 (d.f F.MBX_DOCENT_VERSION + b2n d.fw.restarted * 2 ^ 16)]
    (List.range 4).foldl Dev.adminBroken d

def execDocentReady (s : State) : Host.Outcome State Fault Refusal := s.run Dev.docentStart

end Sys2Proof.Machine
end

