-- ==== Sys2Proof/Machine/Resets.lean ====
section
/-! DEFINITION. The power-on and block resets (R484 to R488), what a domain loses at power-down (R418, R419, R521), and the resets'
commands. -/

namespace Sys2Proof.Machine

/-- The field a key of the register file belongs to. -/
def fldOfKey (key : Nat) : Option Fld := allFlds.find? (fun x => x.lo == key % 64 && (x.at? (key / 64)).isSome)

/-- How the field of a key is kept (R521). -/
def keyKeep (key : Nat) : Keep := match fldOfKey key with | some x => x.keep | none => .lost

/-- The registers of PD32: all of them, or, once it has lost its state, what the non-volatile store restores (R401). -/
def Dev.regs32 (d : Dev) (lost : Bool) : SMap Nat :=
  d.regs.filter (fun p => domainOf (p.1 / 64) == 32 && (!lost || keyKeep p.1 == .nv))

/-- The identity store's floors, and the key draws made, which no reset undoes (R350, R484). -/
def Dev.floorsOnly (d : Dev) : FwPart := { floors := d.fw.floors, draws := d.fw.draws }

/-- The input pins keep their levels through a reset. -/
def Dev.pinInputs (d : Dev) : PinPart :=
  { dsLos := d.pins.dsLos, presence := d.pins.presence, vitPulse := d.pins.vitPulse, wakeReqs := d.pins.wakeReqs }

/-- The levels of UPn_LINK. -/
def Dev.linkInputs (d : Dev) : UpmPart :=
  { ports := d.upm.ports.filterMap (fun p => if p.2.link then some (p.1, ({ link := true } : PortPart)) else none) }

/-- The present states of the sources whose units a reset leaves as they are: SOFT, SHED and TRIP in AON, and the Vitrine's log and
buffer (R303, R435, R484). -/
def Dev.keptLevels (d : Dev) : Dev :=
  let put := fun (d : Dev) (n : Nat) (b : Bool) => d.setB F.EVQ_SRC_STATE b n
  put (put (put (put (put d 1349 (d.b F.PWR_THERM_STAT_SOFT)) 1350 (d.b F.PWR_THERM_STAT_SHED)) 1351 (d.b F.PWR_THERM_STAT_TRIP))
    1507 (d.vit.log.length ≥ 2032)) 1510 (d.vit.buffer.length ≥ 3072)

/-- A power-on reset (R484, R486): AON and PD01 to PD31; PD32 too where VDD_AON fell, which loses its live state. -/
def Dev.powerOn (d : Dev) (bo saveHeld : Bool) : Dev :=
  let r : Dev := Dev.reset
  let v := if bo then d.vitLose saveHeld else d
  let r : Dev := { r with
    regs := (if bo then [(0x10100 * 64 + 1, 1)] else [(0x10100 * 64, 1)]) ++ v.regs32 bo
    clk := { stopped := d.clk.stopped }
    upm := d.linkInputs
    fw := d.floorsOnly
    vit := v.vit
    pins := d.pinInputs
    free := d.free }
  r.keptLevels

/-- The time of day AON keeps, at CLK32K resolution: whole periods of 1/32,768 s (R430, R485). -/
def Dev.coarseTime (d : Dev) : Nat := d.pwr.coarse / 2000000000 * 2000000000

/-- The power controller, which AON keeps, after a block reset. -/
def Dev.pwrKept (d : Dev) : PwrPart :=
  { d.pwr with
    watchVotes := 0
    imageVote := false
    held := true
    vitVote := true
    startup := true
    heldDb := []
    entry := .none
    latched := none
    fTarget := none
    sample := none
    exiting := false
    schedNo := 0
    dropRaised := false
    eccRaised := false }

/-- After a block reset PD01 is usable, PD32 as it was, and every other domain off (R489). -/
def Dev.domainsRestart (d : Dev) : Dev :=
  (List.range 31).foldl (fun d i => d.setI F.PWR_DOM_PSTATE (i + 1) (if i == 0 then 2 else 0)) d

/-- Crossings with a side in reset, or whose handshake is under way: a reset of the block restarts their handshake at step 2 (R54). -/
def Dev.xPending (d : Dev) : Nat := d.f F.CKX_XSTAT_PEER_RESET ||| d.f F.CKX_XSTAT_HANDSHAKE ||| d.clk.xRestart

/-- A block reset (R484, R485), its cause bit in RST_CAUSE: PD01 to PD31 take their reset values, AON and PD32 stay. The core
starts on FIO and will run at P4 (R44); HALTED stands (R342); the power state starts again from TRIM. With HALT_LATCH the terminal starts in HALT with
TX_INHIBIT = 1 (R132). -/
def Dev.blockReset (d : Dev) (cause : Fld) : Dev :=
  let r : Dev :=
    { regs := d.regs.filter (fun p => domainOf (p.1 / 64) == 32 || keyKeep p.1 == .aon)
      aux := d.aux.filter (fun p => keyKeep p.1 == .aon)
      clk := { stopped := d.clk.stopped, xRestart := d.xPending }
      term := { time := d.coarseTime }
      upm := d.linkInputs
      fw := { d.floorsOnly with kek := d.fw.kek }
      vit := d.vit
      pwr := d.pwrKept
      pins := d.pinInputs
      free := d.free }
  let r := ((r.set cause 1).count F.RST_CAUSE_BLK_COUNT).domainsRestart.keptLevels
  let r := ((r.set F.PWR_STATE_ENTERING 0).set F.PWR_WATCH_STAT_PHASE 0).set F.PWR_WATCH_STAT_CATCHUP 0
  let r := r.set F.PWR_DVFS_STAT_FPOINT 4
  let r := if r.f F.PWR_STATE_STATE == 1 then r else r.enterPower 1
  let r := if d.f F.MBX_BOOT_STAGE == 7 then r.set F.MBX_BOOT_STAGE 7 else r
  if r.b F.TST_STATE_HALT_LATCH then (r.set F.TST_STATE_STATE 6).set F.TUS_CTL_TX_INHIBIT 1 else r

/-- PORST_n was held low and is released. -/
def execPorst (s : State) : Host.Outcome State Fault Refusal := s.run (fun d => d.powerOn false true)

/-- VDD_AON below 0.680 V (R407, R486); `saveHeld` says whether the save SRAM held its content. -/
def execAonBrownoutReset (saveHeld : Bool) (s : State) : Host.Outcome State Fault Refusal := s.run (fun d => d.powerOn true saveHeld)

/-- BLKRST_n: in Still and Off it is a wake, and the exit runs first (R487). -/
def Dev.blkrst (d : Dev) : Dev :=
  if d.inStill || d.inOff then d.wake 9 else d.blockReset F.RST_CAUSE_BLK_PIN

def execBlkrst (s : State) : Host.Outcome State Fault Refusal := s.run Dev.blkrst

/-- Curator RAM: a corrected word is counted, an uncorrectable one resets the block (R490). -/
def Dev.curatorEcc (up : List Upset) (d : Dev) : Dev :=
  let d := if up.contains .corrected then d.eccCorr else d
  if up.isEmpty || up.any (fun u => match u with | .curatorWord _ => true | _ => false) then d.blockReset F.RST_CAUSE_CURATOR_ECC
  else d

def execCuratorEccReset (up : List Upset) (s : State) : Host.Outcome State Fault Refusal := s.run (Dev.curatorEcc up)

/-- VDD_CORE has sagged (R407): a block reset while the requested level is in force; the Vitrine logs the rail at its lowest level,
and BROWNOUT_CORE comes with stage 2. -/
def Dev.coreBrownout (lowest : Nat) (d : Dev) : Dev :=
  if d.pwr.avsWait || d.f F.PWR_DVFS_STAT_AVS_REQ == 0 then d
  else
    let d := if d.on 32 then d.vitBrownOut 1 (lowest % 256) else d
    let d := (d.blockReset F.RST_CAUSE_CORE_BO).set F.PWR_REG_BO_CORE 1
    { d with pwr := { d.pwr with boPending := true } }

def execVddCoreBrownout (lowest : Nat) (s : State) : Host.Outcome State Fault Refusal := s.run (Dev.coreBrownout lowest)

/-- VDD_AON below 0.710 V while the regulator is in LOW (R407). -/
def Dev.aonLow (lowest : Nat) (d : Dev) : Dev :=
  if !d.b F.PWR_REG_MODE then d
  else
    let d := if d.on 32 then d.vitBrownOut 0 (lowest % 256) else d
    let d := ((d.set F.PWR_REG_MODE 0).set F.PWR_REG_BO_AON 1).raise 1353
    { d with pwr := { d.pwr with keepNormal := true } }

def execVddAonLow (lowest : Nat) (s : State) : Host.Outcome State Fault Refusal := s.run (Dev.aonLow lowest)

/-! Domains. -/

/-- TWN_STAT as a register reads: EFF_ROLE follows EN and ROLE (R447). -/
def Dev.twnStat (d : Dev) : Nat := (d.set F.TWN_STAT_EFF_ROLE (b2n d.active)).stored 0x1E0018

/-- EFF_ROLE takes the effective role, without an event. -/
def Dev.roleNote (d : Dev) : Dev := d.set F.TWN_STAT_EFF_ROLE (b2n d.active)

/-- The pairing state moves (R445): the event, Docent's notice, and the end of the twin's open sets where PAIRED is left (R369). -/
def Dev.twnMove (d : Dev) (st : Nat) : Dev :=
  let d := if d.f F.TWN_STAT_STATE == 5 then d.stgRelease 6 else d
  let d := (d.set F.TWN_STAT_STATE st).raise 1536
  if d.docentRuns then d.notice 0x85 [BitVec.ofNat 64 d.twnStat] else d

/-- A table bank, the stash with PD14, is cleared where its RET is 0, and has to pass through INIT (R419, R183). -/
def Dev.bankLost (d : Dev) (b : Nat) : Dev :=
  if d.b F.PWR_DOM_RET (14 + b) then d
  else
    let mask := 2 ^ b + (if b == 0 then 16 else 0)
    { d with cls := { d.cls with slots := clearSlots mask d.cls.slots, initMask := d.cls.initMask ||| mask } }

/-- PD02 loses the G registers, with the carry and the latch, the call stack and the post buffer (R418). DESIGN CHOICE: at its power-up they
hold what they hold after reset, where the spec gives no value: zero (log entry 11). -/
def Dev.seqPowerDown (d : Dev) : Dev :=
  { d with seq := { d.seq with
    regs := if d.seq.left.isNone then [] else (List.range 64).map (fun k => (k, 0))
    carry := some false
    latch := some 0
    stack := []
    post := []
    filer := none
    deferred := false } }

/-- What domain k loses besides registers (R418). -/
def Dev.contentLost (d : Dev) (k : Nat) : Dev :=
  if k == 2 then d.seqPowerDown
  else if k == 8 then (d.ds.rsm.map (·.1)).foldl Dev.poison d
  else if k == 9 then { d with us := { d.us with pages := [], lastEnd := none } }
  else if 14 ≤ k && k ≤ 17 then d.bankLost (k - 14)
  else if 18 ≤ k && k ≤ 21 then d.portPowerDown (k - 18)
  else if k == 27 then
    let wq : SMap WqCtx := d.hrg.wq.map (fun (p : Nat × WqCtx) => (p.1, { p.2 with cache := [], fetch := none }))
    { d with hrg := { d.hrg with wq := wq } }.fabAbandon
      (fun r => match r.kind with | .wqFetch _ => true | _ => false)
  else if k == 28 then { d with slc := {} }
  else if k == 29 then d.trcPowerDown
  else if k == 30 then { d with twn := {} }
  else if k == 32 then d.vitLose true
  else d

/-- Registers of domain k that are neither saved nor in a retained array take their reset values (R521). -/
def Dev.regsLost (d : Dev) (k : Nat) : Dev :=
  let stays := fun (p : Nat × Nat) => domainOf (p.1 / 64) != k || keyKeep p.1 != .lost
  { d with regs := d.regs.filter stays, aux := d.aux.filter stays }

/-- The switch of domain k has opened. -/
def Dev.domainOff (k : Nat) (d : Dev) : Dev :=
  if k == 0 || k > 32 || d.f F.PWR_DOM_PSTATE k != 3 then d
  else
    let d := if k == 11 then { d with ds := { d.ds with filterOpen := false } } else if k == 3 then d.rxCut else d
    ((d.contentLost k).regsLost k).setI F.PWR_DOM_PSTATE k 0

def execDomainPowerDownDone (k : Nat) (s : State) : Host.Outcome State Fault Refusal := s.run (Dev.domainOff k)

/-- ACC_COMMITs whose set INIT has withdrawn are answered 47h with CHECK reason 0Ah (R183). -/
def Dev.commitsWithdrawn (d : Dev) : Dev :=
  if !d.docentServes then d
  else (List.range 4).foldl (fun d f =>
    match (d.hrg.admin.look f).bind AdminPair.hold with
    | some (.commit idx cookie acc) =>
      if d.accCur == acc then d else d.adminAnswer f idx cookie { status := 0x47, r1 := 0xA }
    | _ => d) d

/-- A table bank without its content has come up: the classifier passes through INIT (R183). -/
def Dev.bankInit (d : Dev) (b : Nat) : Dev :=
  if !bit d.cls.initMask b || d.accState == 0 then d
  else ((d.set F.CLS_ACC_STAT_STATE 0).stgWithdraw).commitsWithdrawn

/-- Every work queue fetches what it lacks. -/
def Dev.pumpAll (d : Dev) : Dev := (d.hrg.wq.map (·.1)).foldl Dev.wqPump d

/-- What begins when domain k is usable. -/
def Dev.domainReady (d : Dev) (k : Nat) : Dev :=
  if 14 ≤ k && k ≤ 17 then d.bankInit (k - 14)
  else if k == 27 then d.heldDoorbells.pumpAll
  else if k == 29 then d.evPowerUp
  else if k == 30 then (if d.b F.TWN_CTL_EN then d.roleNote.twnMove 1 else d)
  else if k == 31 then d.fabResume.pumpAll
  else d

/-- Uncorrectable save words outside the Vitrine region: the registers restored from them take their reset values (R490). -/
def Dev.restoreFaults (d : Dev) (k : Nat) (up : List Upset) : Dev :=
  up.foldl (fun d u => match u with
    | .corrected => d.eccCorr
    | .saveWord off loc => if domainOf off == k && k != 32 then ((d.resetReg off).eccLogged 9 loc).raise 1605 else d
    | _ => d) d

/-- Domain k is powered, reset and restored (R417). -/
def Dev.domainOn (k : Nat) (up : List Upset) (d : Dev) : Dev :=
  if k == 0 || k > 32 || d.f F.PWR_DOM_PSTATE k != 1 then d
  else ((d.restoreFaults k up).setI F.PWR_DOM_PSTATE k 2).domainReady k

def execDomainPowerUpDone (k : Nat) (up : List Upset) (s : State) : Host.Outcome State Fault Refusal := s.run (Dev.domainOn k up)

end Sys2Proof.Machine
end

