-- ==== Sys2Proof/Machine/Power.lean ====
section
/-! DEFINITION. Power (16): votes and refusals (R414 to R416), operating points and AVS (R408 to R413), the Millpond (R236 to R239),
the sensors (R433 to R435), Watch (R421 to R426, R526), Still and Off (R406, R428 to R432). -/

namespace Sys2Proof.Machine

/-! Votes. -/

/-- The vote of a client on domain k is refused (R29, R415). DEDUCED: no client at all, Curator neither, votes for the domain of a port or of
a twin link that is not wired; Curator's votes on the fabric's domains alone are exempt (log entry 49). -/
def Dev.voteRefused (d : Dev) (client k : Nat) : Bool :=
  (d.domUnwired k && (client != 0 || k ≤ 21 || k == 30)) || (client != 0 && d.pwr.entry != .none)

/-- A vote on a domain that must be unpowered in Watch ends Watch (R425). -/
def Dev.voteWakes (d : Dev) (k : Nat) : Dev :=
  if (11 ≤ k && k ≤ 13) || (22 ≤ k && k ≤ 27) then d.watchCause else d

/-- A withdrawal by Curator, the host, Docent or the twin that leaves the domain powered is a refusal by the lowest client whose
vote remains (R416). -/
def Dev.withdrawn (d : Dev) (k : Nat) : Dev :=
  match (List.range 7).find? (fun c => bit (d.votes k) c) with
  | some c => d.refusal k c
  | none => d

/-- A client's votes change from mask `old` to mask `new` (bit d for PDd); `put` stores the mask that the refusals leave (R414 to
R416). -/
def Dev.castVotes (d : Dev) (client old new : Nat) (put : Nat → Dev → Dev) : Dev :=
  let up := domains.filter (fun k => bit new k && !bit old k)
  let down := domains.filter (fun k => !bit new k && bit old k)
  let no := up.filter (fun k => d.voteRefused client k)
  let d := put (no.foldl (fun m k => withBit m k false) new) d
  let d := no.foldl (fun d k => d.refusal k 7) d
  let d := (up.filter (fun k => !no.contains k)).foldl Dev.voteWakes d
  down.foldl Dev.withdrawn d

/-- A write of PWR_HVOTE: the host's. -/
def Dev.writeHvote (w : RegWr) (d : Dev) : Dev :=
  if !w.agent.isHost then d
  else
    let old := d.f F.PWR_HVOTE_VOTE
    d.castVotes 2 (2 * old) (2 * w.merged F.PWR_HVOTE_VOTE old) (fun m d => d.set F.PWR_HVOTE_VOTE (m / 2))

/-- A write of PWR_CVOTE: Curator's; its held votes on PD01 and PD32 stand (R415). -/
def Dev.writeCvote (w : RegWr) (d : Dev) : Dev :=
  if w.agent != .curator then d
  else
    let held := if d.pwr.held then 1 + 2 ^ 31 else 0
    let old := d.f F.PWR_CVOTE_VOTE ||| held
    let new := w.merged F.PWR_CVOTE_VOTE (d.f F.PWR_CVOTE_VOTE)
    d.castVotes 0 (2 * old) (2 * (new ||| held)) (fun m d => d.set F.PWR_CVOTE_VOTE (new &&& (m / 2)))

def execPwrHvoteWrite (w : RegWr) (s : State) : Host.Outcome State Fault Refusal := s.run (fun d => d.gated 0x20068 w (Dev.writeHvote w))
def execPwrCvoteWrite (w : RegWr) (s : State) : Host.Outcome State Fault Refusal := s.run (fun d => d.gated 0x20070 w (Dev.writeCvote w))

/-- Docent's vote through Curator's service; a refused one raises KEY_REFUSED as every refused service (R353). -/
def Dev.docentVote (k : Nat) (on : Bool) (d : Dev) : Dev :=
  if k == 0 || k > 32 then d
  else
    let no := on && !bit d.pwr.docentVotes k && d.voteRefused 3 k
    (d.castVotes 3 d.pwr.docentVotes (withBit d.pwr.docentVotes k on)
      (fun m d => { d with pwr := { d.pwr with docentVotes := m } })).raiseIf no 1447

def execVote (dom : Nat) (vote : Bool) (s : State) : Host.Outcome State Fault Refusal :=
  s.run (fun d => d.service (Dev.docentVote dom vote))

/-! Operating points. -/

/-- AVS_REQ code of a point without trim, and the highest trim its range allows (R408, R410). -/
def avsCode (p : Nat) : Nat := [0x33, 0x25, 0x19, 0x11, 9].getD p 9
def trimTop (p : Nat) : Int := if p == 0 then 0 else 8

/-- SHED is entered or in force (R434). -/
def Dev.shed (d : Dev) : Bool := d.b F.PWR_THERM_STAT_SHED || d.f F.PWR_POND_LVL_STATE == 2

/-- The frequency and voltage points aimed at: P4 in SHED and from the entry to Watch on (R413, R420, R422, R434), the manual points, or
the governor's target (R409, R413); while AVS_LIMIT holds, the frequency point is not raised (R410). -/
def Dev.wantPoints (d : Dev) : Nat × Nat :=
  let p :=
    if d.shed || d.watchOwns then (4, 4)
    else if d.b F.PWR_DVFS_CTL_MANUAL then (d.f F.PWR_DVFS_CTL_FPOINT, d.f F.PWR_DVFS_CTL_VPOINT)
    else (d.f F.PWR_GOV_STAT_TARGET, d.f F.PWR_GOV_STAT_TARGET)
  let cur := d.f F.PWR_DVFS_STAT_FPOINT
  let f := if d.pwr.avsHold != 0 then max p.1 cur else p.1
  ((match d.pwr.fTarget with | some t => max t f | none => f), p.2)

/-- A step awaits AVS_ACK or the guard. -/
def Dev.dvfsPending (d : Dev) : Dev :=
  d.setB F.PWR_DVFS_STAT_PENDING (d.pwr.avsWait || d.wantPoints.1 != d.f F.PWR_DVFS_STAT_FPOINT)

/-- The voltage point that the points aimed at allow is requested at any time, its trim back at zero, once AVS_ACK is back (R409 to R411):
the voltage is never below what the frequency in force needs. -/
def Dev.pursue (d : Dev) : Dev :=
  let v := min (d.f F.PWR_DVFS_STAT_FPOINT) d.wantPoints.2
  if d.pwr.avsWait || d.lowPower || d.pwr.exiting || v == d.f F.PWR_DVFS_STAT_VPOINT then d.dvfsPending
  else (((d.set F.PWR_DVFS_STAT_VPOINT v).set F.PWR_DVFS_STAT_TRIM 0).avsRequest (avsCode v)).dvfsPending

/-- The guard: the frequency point steps, down at once, up as far as the acknowledged voltage permits (R409). -/
def Dev.dvfsStep (d : Dev) : Dev :=
  if !d.onPll then d
  else
    let cur := d.f F.PWR_DVFS_STAT_FPOINT
    let f := d.wantPoints.1
    let p := if f ≥ cur then f else max f d.pwr.ackPoint
    let d := { d with pwr := { d.pwr with fTarget := none } }
    let d := if p == cur then d else ((d.set F.PWR_DVFS_STAT_FPOINT p).count F.PWR_DVFS_STAT_STEPS).raise 1345
    d.pursue

def execDvfsStep (s : State) : Host.Outcome State Fault Refusal := s.run Dev.dvfsStep

/-- PD01 is powered again at the end of an exit, and the block starts up as after BLKRST_n (R431). -/
def Dev.exitDone (d : Dev) : Dev := d.blockReset (if d.inOff then F.RST_CAUSE_OFF_EXIT else F.RST_CAUSE_STILL_EXIT)

/-- AVS_ACK has returned high (R409, R411, R510). -/
def Dev.avsAck (d : Dev) : Dev :=
  if !d.pwr.avsWait then d
  else
    let d := d.set F.PWR_DVFS_STAT_AVS_ACK 1
    let d := { d with pwr := { d.pwr with
      avsWait := false
      ackPoint := d.f F.PWR_DVFS_STAT_VPOINT
      ackCode := d.f F.PWR_DVFS_STAT_AVS_REQ } }
    if d.pwr.exiting then d.exitDone else d.pursue

def execAvsAck (s : State) : Host.Outcome State Fault Refusal := s.run Dev.avsAck

/-- AVS_ACK has not returned in time (R411). -/
def Dev.avsTimeout (d : Dev) : Dev := if d.pwr.avsWait then (d.count F.PWR_AVS_STAT_TIMEOUTS).raise 1348 else d

def execAvsTimeout (s : State) : Host.Outcome State Fault Refusal := s.run Dev.avsTimeout

/-- The smallest of the 24 margins and its monitor. -/
def minMargin (l : List Nat) : Nat × Nat :=
  (l.take 24).zipIdx.foldl (fun a p => if p.1 < a.1 then (p.1, p.2) else a) (l.getD 0 0, 0)

/-- The trim takes a value, and AVS_REQ follows it. -/
def Dev.trimTo (d : Dev) (t : Int) : Dev :=
  (d.set F.PWR_DVFS_STAT_TRIM (unsigned 5 t)).avsRequest ((avsCode (d.f F.PWR_DVFS_STAT_VPOINT) : Int) + t).toNat

/-- The AVS loop (R410). -/
def Dev.avsLoop (margins : List Nat) (d : Dev) : Dev :=
  if !d.b F.PWR_AVS_CTL_EN || !d.onPll || margins.isEmpty then d
  else
    let m := minMargin (margins.map (fun x => x % 64))
    let d := (d.set F.PWR_AVS_STAT_MIN_MARGIN m.1).set F.PWR_AVS_STAT_MIN_MON m.2
    let t := d.z F.PWR_DVFS_STAT_TRIM
    let top := trimTop (d.f F.PWR_DVFS_STAT_VPOINT)
    if m.1 < d.f F.PWR_AVS_CTL_MARGIN_LO then
      if t ≥ top then
        let d := (d.set F.PWR_AVS_STAT_AT_LIMIT 1).raise 1347
        { d with pwr := { d.pwr with fTarget := some (min 4 (d.f F.PWR_DVFS_STAT_FPOINT + 1)), avsHold := 8000 } }.dvfsPending
      else
        let d := d.set F.PWR_AVS_STAT_AT_LIMIT 0
        if d.pwr.avsWait then d else d.trimTo (t + 1)
    else
      let d := d.set F.PWR_AVS_STAT_AT_LIMIT 0
      if m.1 > d.f F.PWR_AVS_CTL_MARGIN_HI && t > -8 && !d.pwr.avsWait then d.trimTo (t - 1) else d

def execAvsLoop (margins : List Nat) (s : State) : Host.Outcome State Fault Refusal := s.run (Dev.avsLoop margins)

/-- A write of PWR_DVFS_CTL: FPOINT and VPOINT keep their values where the write is refused (R409, R434). -/
def Dev.writeDvfsCtl (w : RegWr) (d : Dev) : Dev :=
  let oldF := d.f F.PWR_DVFS_CTL_FPOINT
  let oldV := d.f F.PWR_DVFS_CTL_VPOINT
  let newF := w.merged F.PWR_DVFS_CTL_FPOINT oldF
  let newV := w.merged F.PWR_DVFS_CTL_VPOINT oldV
  let shed := d.f F.PWR_POND_LVL_STATE == 2
  let manual := w.merged F.PWR_DVFS_CTL_MANUAL (d.f F.PWR_DVFS_CTL_MANUAL) == 1
  let badF := newF != oldF && (!manual || newF > 4 || newF < d.pwr.ackPoint || (shed && newF != 4))
  let badV := newV != oldV && (!manual || newV > 4 || newV > d.f F.PWR_DVFS_STAT_FPOINT || (shed && newV != 4))
  let d := d.putAll (fldsAt 0x20010) w
  let d := if badF then d.set F.PWR_DVFS_CTL_FPOINT oldF else d
  let d := if badV then d.set F.PWR_DVFS_CTL_VPOINT oldV else d
  (if badF || badV then (d.set F.PWR_DVFS_CTL_REFUSED 1).raise 1346 else d).pursue

def execPwrDvfsCtlWrite (w : RegWr) (s : State) : Host.Outcome State Fault Refusal :=
  s.run (fun d => d.gated 0x20010 w (Dev.writeDvfsCtl w))

/-- A write of PWR_AVS_CTL: refused where MARGIN_HI would not exceed MARGIN_LO. -/
def Dev.writeAvsCtl (w : RegWr) (d : Dev) : Dev :=
  if w.merged F.PWR_AVS_CTL_MARGIN_HI (d.f F.PWR_AVS_CTL_MARGIN_HI) ≤ w.merged F.PWR_AVS_CTL_MARGIN_LO (d.f F.PWR_AVS_CTL_MARGIN_LO)
  then d.set F.PWR_AVS_CTL_REFUSED 1
  else d.putAll (fldsAt 0x20020) w

/-- Beats each point can carry on a path; P0 carries any number (R412). -/
def fitLimit (p : Nat) : Nat := [65536, 38281, 34179, 30625, 27343].getD p 0

/-- The slowest point that fits a peak (R412, R413). -/
def needPoint (peak : Nat) : Nat := ([4, 3, 2, 1].find? (fun p => peak ≤ fitLimit p)).getD 0

/-- The governor at a TICK (R412, R413). -/
def Dev.governor (d : Dev) : Dev :=
  let win := max 1 (d.f F.PWR_DVFS_CTL_GOV_WIN)
  let hist := (d.pwr.beats :: d.pwr.beatWin).take 127
  let peaks := (List.range 7).map (fun i => ((hist.take win).map (fun l => l.getD i 0)).foldl max 0)
  let d := { d with pwr := { d.pwr with beatWin := hist, beats := List.replicate 7 0 } }
  let d : Dev := (List.range 7).foldl (fun (d : Dev) i =>
    (d.setI F.PWR_GOV_PATH_LAST i (min 65535 ((hist.getD 0 []).getD i 0))).setI F.PWR_GOV_PATH_PEAK i
      (min 65535 (peaks.getD i 0))) d
  let top := peaks.zipIdx.foldl (fun a p => if p.1 > a.1 then p else a) (peaks.getD 0 0, 0)
  let need := needPoint top.1
  let cur := d.f F.PWR_DVFS_STAT_FPOINT
  let hi := min 4 (d.f F.PWR_DVFS_CTL_PT_HIGH)
  let floor := max hi (min 4 (d.f F.PWR_DVFS_CTL_PT_FLOOR))
  let t0 := min (if d.f F.PWR_POND_LVL_STATE == 0 then hi else floor) need
  let t1 := if t0 > cur then cur + 1 else t0
  let target := if d.shed || d.watchOwns then 4 else if d.pwr.avsHold > 0 then max t1 cur else t1
  let d := ((d.set F.PWR_GOV_STAT_NEED need).set F.PWR_GOV_STAT_TARGET target).set F.PWR_GOV_STAT_PATH top.2
  { d.set F.PWR_GOV_STAT_PEAK (min 65535 top.1) with pwr := { d.pwr with avsHold := d.pwr.avsHold - 1 } }.pursue

/-! The Millpond. -/

/-- REFILL_NOM and CAP of a budget (R236). -/
def refillNom (budget : Nat) : Nat := budget * 15625 / 8
def pondCap (budget : Nat) : Int := 16000 * refillNom budget

/-- A write of PWR_POND_CFG: refused whole where BUDGET is out of range or HWM does not exceed LWM (R236); it takes effect at the
next TICK (R237). -/
def Dev.writePondCfg (w : RegWr) (d : Dev) : Dev :=
  let b := w.merged F.PWR_POND_CFG_BUDGET (d.f F.PWR_POND_CFG_BUDGET)
  let lo := w.merged F.PWR_POND_CFG_LWM (d.f F.PWR_POND_CFG_LWM)
  let hi := w.merged F.PWR_POND_CFG_HWM (d.f F.PWR_POND_CFG_HWM)
  if b < 128 || b > 1024 || hi ≤ lo then d.set F.PWR_POND_CFG_REFUSED 1 else d.putAll (fldsAt 0x20800) w

def execPwrPondCfgWrite (w : RegWr) (s : State) : Host.Outcome State Fault Refusal :=
  s.run (fun d => d.gated 0x20800 w (Dev.writePondCfg w))

/-- A write of PWR_POND_THERM: Curator's, refused where T_SOFT is not below T_HARD or T_HARD above 125 °C (R238). -/
def Dev.writePondTherm (w : RegWr) (d : Dev) : Dev :=
  let s := signed 18 (w.merged F.PWR_POND_THERM_T_SOFT (d.f F.PWR_POND_THERM_T_SOFT))
  let h := signed 18 (w.merged F.PWR_POND_THERM_T_HARD (d.f F.PWR_POND_THERM_T_HARD))
  if w.agent != .curator || s ≥ h || h > 128000 then d else d.putAll (fldsAt 0x20810) w

/-- The refill of an advance (R237). -/
def Dev.pondRefill (d : Dev) : Nat :=
  let t := d.z F.PWR_THERM_STAT_HOTTEST
  let s := d.z F.PWR_POND_THERM_T_SOFT
  let h := d.z F.PWR_POND_THERM_T_HARD
  let nom := refillNom (d.f F.PWR_POND_CFG_BUDGET)
  if t ≤ s then nom else if t ≥ h then 0 else nom * (h - t).toNat / (h - s).toNat

/-- The charge of an advance (R237). -/
def Dev.pondCharge (d : Dev) : Nat :=
  ((List.range 16).map (fun k => d.pwr.acts.getD k 0 * d.f F.PWR_POND_COEF_PJ k)).foldl (· + ·) 0 / 1000 +
    (((List.range 33).filter (fun k => k == 0 || bit d.pwr.seen k)).map (fun k => d.f F.PWR_POND_STATIC_NJ k)).foldl (· + ·) 0

/-- The pond state that a level gives, from the one before: 0 HIGH, 1 LOW, 2 SHED (R239, R434). -/
def pondState (shed : Bool) (old : Nat) (level cap : Int) (lwm hwm : Nat) : Nat :=
  if shed then 2
  else if old == 0 then (if level * 256 < cap * lwm then 1 else 0)
  else if level * 256 ≥ cap * hwm then 0
  else 1

/-- The pond state computed at the advance before is in force (R239). -/
def Dev.pondForce (d : Dev) : Dev :=
  let d := d.set F.PWR_POND_LVL_STATE d.pwr.pondNext
  if d.pwr.pondNext == 0 then d else d.count F.PWR_POND_CNT_LOW_TICKS

/-- The advance (R237, R239). -/
def Dev.pondAdvance (d : Dev) : Dev :=
  let cap := pondCap (d.f F.PWR_POND_CFG_BUDGET)
  let refill := d.pondRefill
  let charge := d.pondCharge
  let level := max (min (d.z F.PWR_POND_LVL_LEVEL + refill) cap - charge) (-cap)
  let d := d.set F.PWR_POND_LVL_LEVEL (unsigned 36 level)
  let d := (d.set F.PWR_POND_TICK_REFILL (min refill (2 ^ 32 - 1))).set F.PWR_POND_TICK_CHARGE (min charge (2 ^ 32 - 1))
  let old := d.pwr.pondNext
  let new := pondState (d.b F.PWR_THERM_STAT_SHED) old level cap (d.f F.PWR_POND_CFG_LWM) (d.f F.PWR_POND_CFG_HWM)
  let d := { d with pwr := { d.pwr with
    pondNext := new
    acts := List.replicate 16 0
    seen := domMask (domains.filter (fun k => d.f F.PWR_DOM_PSTATE k != 0)) } }
  if new == old then d
  else if new == 1 then (d.count F.PWR_POND_CNT_LOW_ENTRIES).raise 1313
  else d.raiseIf (new == 0) 1314

/-! The sensors. -/

/-- A converter's reading: FAULT, and with a reading SAMPLE, SAT and PEAK (R433). -/
def Dev.sensor (d : Dev) (i : Nat) (r : Option Int) : Dev :=
  let bad := match r with | none => true | some z => decide (z < -61440) || decide (z > 153600)
  let d := (d.raiseIf (bad && !d.b F.PWR_THERM_FAULT i) 1352).setB F.PWR_THERM_FAULT bad i
  match r with
  | none => d
  | some z =>
    let v := max (-131072) (min 131071 z)
    let d := (d.setI F.PWR_THERM_SAMPLE i (unsigned 18 v)).setB F.PWR_THERM_SAT (decide (z ≥ 131072) || decide (z < -131072)) i
    if bit d.pwr.peakFresh i || v > d.z F.PWR_THERM_PEAK i then
      { d.setI F.PWR_THERM_PEAK i (unsigned 18 v) with pwr := { d.pwr with peakFresh := withBit d.pwr.peakFresh i false } }
    else d

/-- PWR_THERM_STAT.FAULTED follows the sensors' FAULT bits. -/
def Dev.faultedMask (d : Dev) : Dev :=
  d.set F.PWR_THERM_STAT_FAULTED ((List.range 6).foldl (fun a i => if d.b F.PWR_THERM_FAULT i then a + 2 ^ i else a) 0)

/-- THERM_TRIP: a reading of 130 °C of a sensor that is not faulted, until PORST_n (R435). -/
def Dev.thermTrip (d : Dev) (rs : List (Option Int)) : Dev :=
  let hit := (List.range 6).any (fun i =>
    !d.b F.PWR_THERM_FAULT i && (match rs.getD i none with | some z => decide (z ≥ 133120) | none => false))
  if hit && !d.b F.PWR_THERM_STAT_TRIP then (d.set F.PWR_THERM_STAT_TRIP 1).level 1351 true else d

/-- SHED (R434): left at the tick after 8,000 below T_HARD, entered at 125 °C. -/
def Dev.shedTick (d : Dev) (hot : Int) : Dev :=
  let d := if d.b F.PWR_THERM_STAT_SHED && d.pwr.shedCool ≥ 8000 then d.set F.PWR_THERM_STAT_SHED 0 else d
  let d := { d with pwr := { d.pwr with
    shedCool := if hot < d.z F.PWR_POND_THERM_T_HARD then d.pwr.shedCool + 1 else 0 } }
  let d := if hot ≥ 128000 then d.set F.PWR_THERM_STAT_SHED 1 else d
  d.level 1350 (d.b F.PWR_THERM_STAT_SHED)

/-- The readings of a tick (R433 to R435). -/
def Dev.thermTick (rs : List (Option Int)) (d : Dev) : Dev :=
  let d := (List.range 6).foldl (fun d i => d.sensor i (rs.getD i none)) d
  let good := (List.range 6).filter (fun i => !d.b F.PWR_THERM_FAULT i)
  let top := good.foldl (fun (a : Option (Int × Nat)) i =>
    let v := d.z F.PWR_THERM_SAMPLE i
    match a with
    | some (b, j) => if v > b then some (v, i) else some (b, j)
    | none => some (v, i)) none
  let hot := if good.length ≤ 3 then d.z F.PWR_POND_THERM_T_HARD else match top with | some p => p.1 | none => 0
  let d := match top with | some p => d.set F.PWR_THERM_STAT_SENSOR p.2 | none => d
  let d := d.faultedMask
  let soft := decide (hot ≥ d.z F.PWR_POND_THERM_T_SOFT)
  let d := ((d.set F.PWR_THERM_STAT_HOTTEST (unsigned 18 hot)).setB F.PWR_THERM_STAT_SOFT soft).level 1349 soft
  (d.shedTick hot).thermTrip rs

/-! The regulator and the load budget. -/

/-- The accounted load of Still in units of 0.05 mA (R406). -/
def stillLoad (refclk : Bool) (ports : Nat) : Nat :=
  266 + (if refclk then 80 else 0) + 5 * ((List.range 4).countP (fun n => bit ports n))

/-- PWR_REG.LOAD. -/
def Dev.load (d : Dev) : Nat := stillLoad (d.b F.PWR_REG_STILL_REFCLK) (d.f F.PWR_WAKE_CFG_LINK_PORTS)

/-- A write refused for the load (R406). -/
def Dev.loadRefused (d : Dev) : Dev := (d.set F.PWR_REG_LOAD_REFUSED 1).raise 1360

/-- A write of PWR_REG. -/
def Dev.writePwrReg (w : RegWr) (d : Dev) : Dev :=
  let v := w.merged F.PWR_REG_STILL_REFCLK (d.f F.PWR_REG_STILL_REFCLK)
  let load := stillLoad (v == 1) (d.f F.PWR_WAKE_CFG_LINK_PORTS)
  if load > 360 && load > d.load then d.loadRefused else d.putAll (fldsAt 0x20038) w

def execPwrRegWrite (w : RegWr) (s : State) : Host.Outcome State Fault Refusal := s.run (fun d => d.gated 0x20038 w (Dev.writePwrReg w))

/-- A write of PWR_WAKE_CFG. -/
def Dev.writeWakeCfg (w : RegWr) (d : Dev) : Dev :=
  let load := stillLoad (d.b F.PWR_REG_STILL_REFCLK) (w.merged F.PWR_WAKE_CFG_LINK_PORTS (d.f F.PWR_WAKE_CFG_LINK_PORTS))
  if load > 360 && load > d.load then d.loadRefused else d.putAll (fldsAt 0x20050) w

/-! Watch. -/

/-- A write of PWR_WATCH_CTL: DOCENT_REQ is Docent's; in Watch, a 0 ends it (R425). -/
def Dev.writeWatchCtl (w : RegWr) (d : Dev) : Dev :=
  let d := (d.put F.PWR_WATCH_CTL_HOST_OK w).put F.PWR_WATCH_CTL_WLEAD w
  let d := if w.agent == .docent then d.put F.PWR_WATCH_CTL_DOCENT_REQ w else d
  if w.mask.getLsbD 0 && !(d.b F.PWR_WATCH_CTL_HOST_OK && d.b F.PWR_WATCH_CTL_DOCENT_REQ) then d.watchCause else d

def execPwrWatchCtlWrite (w : RegWr) (s : State) : Host.Outcome State Fault Refusal :=
  s.run (fun d => d.gated 0x20040 w (Dev.writeWatchCtl w))

/-- Docent keeps DOCENT_REQ at a TICK (R526). -/
def Dev.docentReqTick (d : Dev) : Dev :=
  if !d.docentRuns then d
  else if !d.b F.TST_SLEEP_REQ || !d.b F.TST_SLEEP_ALLOWED then
    (if d.b F.PWR_WATCH_CTL_DOCENT_REQ then (d.set F.PWR_WATCH_CTL_DOCENT_REQ 0).watchCause else d)
  else if d.term.sleepSent then d.set F.PWR_WATCH_CTL_DOCENT_REQ 1
  else d

/-- The conditions of Watch but for the votes of other clients on the front domains (R421). -/
def Dev.watchReady (d : Dev) : Bool :=
  d.tst == 4 && d.term.sleepSent && d.b F.TST_SLEEP_ALLOWED && d.b F.PWR_WATCH_CTL_DOCENT_REQ && d.b F.PWR_WATCH_CTL_HOST_OK &&
  [11, 12, 13, 22, 23, 24, 25, 26, 27].all (fun k => d.f F.PWR_DOM_PSTATE k == 0) &&
  !d.watchOwns && d.f F.PWR_STATE_STATE ≤ 1 && d.pwr.entry == .none

/-- The lowest client other than the scheduler that votes on PDk. -/
def Dev.otherVoter (d : Dev) (k : Nat) : Option Nat := [0, 2, 3, 4, 5, 6].find? (fun c => bit (d.votes k) c)

/-- Powered domains, bit d. -/
def Dev.poweredMask (d : Dev) : Nat := domMask (domains.filter (fun k => d.f F.PWR_DOM_PSTATE k != 0))

/-- Watch entry at a TICK (R421, R422). -/
def Dev.watchEntry (d : Dev) : Dev :=
  if !d.watchReady then d
  else if frontSet.any (fun k => (d.otherVoter k).isSome) then
    frontSet.foldl (fun d k => match d.otherVoter k with | some c => d.refusal k c | none => d) d
  else
    let d := ((d.set F.PWR_STATE_ENTERING 1).set F.PWR_WATCH_STAT_PHASE 4).set F.PWR_GOV_STAT_TARGET 4
    { d with pwr := { d.pwr with
      watchVotes := domMask frontSet, sample := some d.clk.sfc, latched := none, timer := 0, entryMask := d.poweredMask } }.pursue

/-- The front domains are down: the state becomes WATCH (R422, R427). -/
def Dev.watchEnter (d : Dev) : Dev :=
  if d.f F.PWR_WATCH_STAT_PHASE != 4 || !frontSet.all (fun k => d.f F.PWR_DOM_PSTATE k == 0) then d
  else (((d.wakeAborts.set F.PWR_STATE_ENTERING 0).set F.PWR_WATCH_STAT_PHASE 1).enterPower 2).raise 1357

def execWatchEnter (s : State) : Host.Outcome State Fault Refusal := s.run Dev.watchEnter

/-- WLEAD before a sampled frame the front domains are voted (R423). -/
def Dev.watchLead (d : Dev) : Dev :=
  let ph := d.f F.PWR_WATCH_STAT_PHASE
  if !(ph == 1 || ph == 2 || ph == 4) || !d.sampledFrame (d.clk.sfc + 1) then d
  else
    let d := { d with pwr := { d.pwr with watchVotes := domMask frontSet, sample := none } }
    if ph == 1 then d.set F.PWR_WATCH_STAT_PHASE 2 else d

def execWatchSampleLead (s : State) : Host.Outcome State Fault Refusal := s.run Dev.watchLead

/-- A wake is acted on: LAST_WAKE, and WAKE_REQ pulses (R425, R431). -/
def Dev.wakeTaken (d : Dev) : Dev :=
  let c := d.pwr.latched.getD 9
  let d := (d.set F.PWR_STATE_LAST_WAKE c).set F.PWR_WAKE_STAT_LAST c
  { d with pwr := { d.pwr with latched := none }, pins := { d.pins with wakeReqs := d.pins.wakeReqs + 1 } }

/-- Watch ends at the first TICK with the front usable (R425). -/
def Dev.watchExit (d : Dev) : Dev :=
  if d.f F.PWR_WATCH_STAT_PHASE != 5 || !frontSet.all d.on then d
  else
    let d := (d.set F.PWR_WATCH_STAT_PHASE 0).set F.PWR_WATCH_STAT_CATCHUP 0
    let d := (d.wakeTaken.set F.TST_SLEEP_REQ 0).enterPower (if d.trafficService then 0 else 1)
    { d with pwr := { d.pwr with watchVotes := 0, sample := none }, term := { d.term with sleepSent := false } }.raise 1358

/-- The Watch controller at a TICK: the exit, the frame that is sampled, the wake timer, and the entry. -/
def Dev.watchTick (d : Dev) : Dev :=
  let ph := d.f F.PWR_WATCH_STAT_PHASE
  if ph == 5 then d.watchExit
  else if ph == 0 then d.watchEntry
  else
    let held := d.pwr.sample.isNone && d.sampledFrame d.clk.sfc
    { d with pwr := { d.pwr with
      sample := if held then some d.clk.sfc else d.pwr.sample, timer := if d.inWatch then d.pwr.timer + 1 else d.pwr.timer } }

/-- The wake timer has reached TIMER (R426, code 7h). -/
def Dev.wakeTimer (d : Dev) : Dev :=
  let n := d.f F.PWR_WAKE_CFG_TIMER
  if d.f F.PWR_STATE_STATE ≥ 2 && n != 0 && d.pwr.timer ≥ n then d.wake 7 else d

def execWakeTimer (s : State) : Host.Outcome State Fault Refusal := s.run Dev.wakeTimer

/-! Still and Off. -/

/-- Why a request for Still or Off is refused (R428), 0 where it is accepted. -/
def Dev.entryWhy (d : Dev) : Nat :=
  if d.tst != 0 && d.tst != 6 then 1
  else if d.load > 360 then 2
  else if d.pwr.entry != .none || d.b F.PWR_STATE_ENTERING then 4
  else 0

/-- The entry to state t begins (R428, R429). -/
def Dev.entryBegin (d : Dev) (t : Nat) : Dev :=
  let d := (d.set F.PWR_STATE_ENTERING 1).set F.PWR_HVOTE_VOTE 0
  let d := if d.docentRuns then d.set F.MBX_FW_STAT_DSTATE 3 else d
  { d with pwr := { d.pwr with
    docentVotes := 0, twinVotes := 0, entry := .holds t, latched := none, keepNormal := false, entryMask := d.poweredMask } }

/-- A write of PWR_STATE_CTL (R428). -/
def Dev.writeStateCtl (w : RegWr) (d : Dev) : Dev :=
  let d := d.put F.PWR_STATE_CTL_REFUSED w
  let req := w.fld F.PWR_STATE_CTL_REQ
  if !(w.agent.isHost || w.agent == .curator) || !(req == 3 || req == 4) then d
  else if d.entryWhy != 0 then (d.set F.PWR_STATE_CTL_REFUSED 1).set F.PWR_STATE_CTL_WHY d.entryWhy
  else d.entryBegin req

/-- The row of one request. -/
def Dev.stateRow (t : Nat) (w : RegWr) (d : Dev) : Dev :=
  if w.fld F.PWR_STATE_CTL_REQ == t then d.gated 0x20008 w (Dev.writeStateCtl w) else d

def execStillReq (w : RegWr) (s : State) : Host.Outcome State Fault Refusal := s.run (Dev.stateRow 3 w)
def execOffReq (w : RegWr) (s : State) : Host.Outcome State Fault Refusal := s.run (Dev.stateRow 4 w)

/-- The holds have not ended within 10 ms (R428). -/
def Dev.entryAbandon (d : Dev) : Dev :=
  match d.pwr.entry with
  | .holds _ =>
    let d := ((d.set F.PWR_STATE_ENTERING 0).set F.PWR_STATE_CTL_REFUSED 1).set F.PWR_STATE_CTL_WHY 3
    { d with pwr := { d.pwr with entry := .none, latched := none } }
  | _ => d

def execEntryHoldTimeout (s : State) : Host.Outcome State Fault Refusal := s.run Dev.entryAbandon

/-- An AON tick in Still, at the end of a period of the holdover timer (R33, R430): the count, the Vitrine with source HOLDOVER, the
sensors, the Millpond, the timer. -/
def Dev.aonTick (sens : List (Option Int)) (d : Dev) : Dev :=
  if !d.inStill then d
  else
    let p := d.hoPeriod
    let d := { p.2 with
      clk := { p.2.clk with sfc := (d.clk.sfc + 1) % 2 ^ 51, ticks := d.clk.ticks + 1, hoN := (d.clk.hoN + 1) % 500 }
      pwr := { d.pwr with coarse := d.pwr.coarse + p.1, timer := d.pwr.timer + 1 } }
    (((d.pondForce).vitTick d.clk.sfc 3 d.coarseTime (d.b F.TST_TOD_STAT_VALID)).thermTick sens).pondAdvance

def execAonTick (sens : List (Option Int)) (s : State) : Host.Outcome State Fault Refusal := s.run (Dev.aonTick sens)

/-- A latched wake starts the exit (R431): the regulator in NORMAL, AVS_REQ 09h; PD32 is voted again after Off (R432). -/
def Dev.lowPowerWake (d : Dev) : Dev :=
  if !(d.inStill || d.inOff) || d.pwr.latched.isNone || d.pwr.exiting || d.pwr.avsWait then d
  else
    let d := (d.wakeTaken.set F.PWR_REG_MODE 0).set F.PWR_DVFS_STAT_VPOINT 4
    let d := { d with pwr := { d.pwr with exiting := true, vitVote := true } }
    (d.set F.PWR_DVFS_STAT_TRIM 0).avsRequest 9

def execLowPowerWake (s : State) : Host.Outcome State Fault Refusal := s.run Dev.lowPowerWake

/-- In Off the sensors are sampled once per second, for THERM_TRIP only (R432, R435). -/
def Dev.offSample (sens : List (Option Int)) (d : Dev) : Dev :=
  if !d.inOff then d
  else
    let judge := fun (d : Dev) (i : Nat) =>
      let bad := match sens.getD i none with | none => true | some z => decide (z < -61440) || decide (z > 153600)
      d.setB F.PWR_THERM_FAULT bad i
    let d := ((List.range 6).foldl judge d).faultedMask.thermTrip sens
    { d with pwr := { d.pwr with coarse := d.pwr.coarse + 65536000000000, timer := d.pwr.timer + 1 } }

def execOffSensorSample (sens : List (Option Int)) (s : State) : Host.Outcome State Fault Refusal := s.run (Dev.offSample sens)

/-- A write of PWR_DOM[k]: RET of PD14 to PD17 (R419). -/
def Dev.writeDom (k : Nat) (w : RegWr) (d : Dev) : Dev := if 14 ≤ k && k ≤ 17 then d.put F.PWR_DOM_RET w k else d

end Sys2Proof.Machine
end

