-- ==== Sys2Proof/Machine/Twin.lean ====
section
/-! DEFINITION. The twin unit (17): the link (R439 to R443), pairing and roles (R445 to R449), heartbeats and failover (R450, R457
to R459), MB3 (R348, R446), the mirror (R451 to R455), switchover (R460) and the peer's reset (R461). -/

namespace Sys2Proof.Machine

/-! Votes and roles. -/

/-- What the twin client votes for (R456). -/
def Dev.twinWants (d : Dev) : Nat :=
  if !d.b F.TWN_CTL_EN || !d.b F.ID_INTEG_TWIN_WIRED then 0
  else domMask (30 :: (if d.isSink then [11, 12, 13, 14, 15, 16, 17, 22, 23, 24, 25, 26] else []))

/-- The twin client casts its votes. -/
def Dev.twinCast (d : Dev) : Dev :=
  d.castVotes 4 d.pwr.twinVotes d.twinWants (fun m d => { d with pwr := { d.pwr with twinVotes := m } })

/-- Docent stages a write of TWN_ROLE with NEXT in a free set, once CHECK would pass (R449, R460). -/
def Dev.roleStage (d : Dev) : Dev :=
  match d.twn.role with
  | none => d
  | some r =>
    if d.b F.TWN_ROLE_ROLE == r then { d with twn := { d.twn with role := none } }
    else if !d.docentRuns || d.roleBreaks (b2n r) then d
    else match [0, 1].find? (fun s => d.stgState s == 0) with
      | none => d
      | some s =>
        let d := ((d.stgOpen s 1).stage 1 s 0x1E0010 1 (b2n r)).setI F.STG_APPLY_NEXT s 1
        let d := d.stgCheckArm s
        if d.stgState s == 2 then { d with twn := { d.twn with role := none } } else d.stgCancel s

/-- Docent is to stage a ROLE. -/
def Dev.roleAsk (d : Dev) (r : Bool) : Dev := { d with twn := { d.twn with role := some r } }.roleStage

/-! MB3 (R348, R446). -/

/-- MB3 reaches the peer's Docent (R348). -/
def Dev.mb3Open (d : Dev) : Bool :=
  d.b F.ID_INTEG_TWIN_WIRED && d.on 30 && d.f F.TWN_STAT_STATE ≥ 2 && d.b F.TWN_STAT_PEER_DOCENT

/-- The octets of a message on the link, words first octet highest (R5): word 0 as R344 lays it out. -/
def mb3Octets (seq ty status : Nat) (body : List Word) : List Byte :=
  beBytes 8 (seq % 65536 + ty % 256 * 2 ^ 16 + status * 2 ^ 24 + 8 * body.length * 2 ^ 32) ++
    body.flatMap (fun w => beBytes 8 w.toNat)

/-- A message is queued for the link: a response carries the SEQ of its request (R344). -/
def Dev.mb3Put (d : Dev) (seq ty status : Nat) (body : List Word) : Dev :=
  { d with twn := { d.twn with mbTx := d.twn.mbTx ++ mb3Octets seq ty status body } }

/-- The request in the receive area is answered. -/
def Dev.mb3Answer (d : Dev) (ty status : Nat) (body : List Word) : Dev :=
  d.mb3Put (bits (d.twn.mbIn.headD 0).toNat 0 16) ty status body

/-- Docent makes a request (R348): it completes 0Ch at once where the peer's Docent cannot be reached, and 06h while another is
outstanding. -/
def Dev.mb3Request (d : Dev) (ty : Nat) (body : List Word) : Dev :=
  if !d.docentRuns then d
  else if !d.mb3Open then { d with twn := { d.twn with mbDone := 0x0C } }
  else if d.twn.mbReq.isSome then { d with twn := { d.twn with mbDone := 6 } }
  else
    let q := (d.twn.mbSeq + 1) % 65536
    { d with twn := { d.twn with mbReq := some ty, mbSeq := q } }.mb3Put q ty 0 body

def execMb3Send (ty : Nat) (body : List Word) (s : State) : Host.Outcome State Fault Refusal :=
  s.run (fun d => if ty ≥ 256 || body.length > 511 then d else d.mb3Request ty body)

/-- The outstanding request completes with a status. -/
def Dev.mb3Complete (d : Dev) (status : Nat) : Dev :=
  if d.twn.mbReq.isSome then { d with twn := { d.twn with mbReq := none, mbDone := status } } else d

/-- The peer has not answered within 20 ms. -/
def execMb3Timeout (s : State) : Host.Outcome State Fault Refusal := s.run (fun d => d.mb3Complete 0x0E)

/-- A message of the peer's Docent: the response to the outstanding request of its TYPE, or a request, which a running Docent
answers. It enters the receive area; its arrival is a wake (R426). -/
def Dev.mb3In (d : Dev) (ty : Nat) (resp : Bool) (seq status : Nat) (body : List Word) (answered asked : Dev → Dev) : Dev :=
  if !d.on 30 || d.f F.TWN_STAT_STATE < 2 then d
  else
    let w0 := BitVec.ofNat 64 (seq % 65536 + ty * 2 ^ 16 + status % 256 * 2 ^ 24 + 8 * body.length * 2 ^ 32)
    let d1 := { d with twn := { d.twn with mbIn := w0 :: body } }.wake 4
    if resp then (if d.twn.mbReq == some ty then answered (d1.mb3Complete (status % 256)) else d)
    else if d.docentRuns then asked d1
    else d

/-- A request of unknown TYPE, in MB0 or MB2, or of the peer's Docent in MB3, is answered 01h (R349). -/
def execMbUnknownType (n ty seq : Nat) (body : List Word) (s : State) : Host.Outcome State Fault Refusal :=
  s.run (fun d =>
    if n == 3 then (if 1 ≤ ty && ty ≤ 6 then d else d.mb3In ty false seq 0 body id (fun d => d.mb3Answer ty 1 [])) else d.mbUnknown n)

def execMb3Ping (resp : Bool) (seq status : Nat) (w1 : Word) (s : State) : Host.Outcome State Fault Refusal :=
  s.run (fun d => d.mb3In 6 resp seq status [w1] id (fun d => d.mb3Answer 6 0 [w1]))

/-- Docent judges an ALLOC_MAP: the entry of that index has the same VALID, ENC and DEFER (R446). -/
def Dev.allocMapped (d : Dev) (w1 : Word) : Bool :=
  let n := bits w1.toNat 0 9
  d.b F.TUS_ALLOC_VALID n == bit w1.toNat 9 && d.b F.TUS_ALLOC_ENC n == bit w1.toNat 10 &&
    d.b F.TUS_ALLOC_DEFER n == bit w1.toNat 11

def execAllocMap (resp : Bool) (seq status : Nat) (w1 : Word) (s : State) : Host.Outcome State Fault Refusal :=
  s.run (fun d => d.mb3In 2 resp seq status [w1] id (fun d => d.mb3Answer 2 (if d.allocMapped w1 then 0 else 3) []))

/-! The states of the pair. -/

/-- Words in flight on the link are discarded (R445, R461): an unfinished record, records held, unsent records, and MB3 segments. -/
def Dev.twnFlush (d : Dev) : Dev :=
  { d with twn := { d.twn with
    send := [], bulk := none, bulkEndSeq := none, txRec := [], rxRec := [], recv := [], hb := none, mbTx := [], hello := none,
    peerState := 0, redo := false } }.set F.TWN_MIRROR_PENDING 0

/-- Records and MB3 segments in flight (R461). -/
def Dev.inFlight (d : Dev) : Nat :=
  d.twn.recv.length + b2n (!d.twn.rxRec.isEmpty) + b2n (!d.twn.txRec.isEmpty) + ceilDiv d.twn.mbTx.length 500

/-- The receive side of the link starts over: no lane is locked (R443). -/
def Dev.linkDown (d : Dev) : Dev :=
  let d := { d with twn := { d.twn with
    lockRun := [0, 0, 0, 0, 0, 0, 0, 0], rxNext := none, sawAlive := false, sawAck := false, sentAck := false } }
  (((d.set F.TWN_LINK_STAT_SYMLOCK 0).set F.TWN_LINK_STAT_ALIGNED 0).set F.TWN_LINK_STAT_GOOD 0).set F.TWN_LINK_STAT_BAD 0

/-- Back to TRAINING, with roles, source status and FO_ARMED kept (R445). -/
def Dev.retrain (d : Dev) : Dev :=
  let d := d.twnFlush.linkDown
  (if d.f F.TWN_STAT_STATE ≥ 2 then d.twnMove 1 else d).twinCast

/-- The pair enters SYNCING (R445, R455): the source begins a bulk copy. -/
def Dev.startSync (d : Dev) : Dev :=
  let src := d.b F.TWN_STAT_SOURCE
  let d := { d with twn := { d.twn with send := [], bulk := if src then some 0 else none, bulkEndSeq := none } }
  (d.twnMove 4).twinCast

/-- The pair is PAIRED (R445). -/
def Dev.nowPaired (d : Dev) : Dev :=
  let d := { d with twn := { d.twn with bulkEndSeq := none } }
  let d := if d.b F.TWN_STAT_SOURCE then d else d.set F.TWN_STAT_FO_ARMED 1
  ((d.twnMove 5).raise 1543).twinCast

/-- DETACHING ends (R445). -/
def Dev.detached (d : Dev) : Dev :=
  let d := { d with twn := { d.twn with send := [], bulk := none, bulkEndSeq := none, recv := [], hello := none } }
  (((d.set F.TWN_STAT_FO_ARMED 0).set F.TWN_MIRROR_PENDING 0).twnMove 2).twinCast

def execDetachTimeout (s : State) : Host.Outcome State Fault Refusal :=
  s.run (fun d => if d.f F.TWN_STAT_STATE == 6 then d.detached else d)

/-- A write of TWN_CTL: EN = 1 is ignored while TWIN_WIRED is 0 (R29, R445); PD30, once powered, starts TRAINING. -/
def Dev.writeTwnCtl (w : RegWr) (d : Dev) : Dev :=
  let was := d.b F.TWN_CTL_EN
  let en := w.merged F.TWN_CTL_EN (b2n was) == 1 && (was || d.b F.ID_INTEG_TWIN_WIRED)
  let d := ((d.putAll ((fldsAt 0x1E0000).filter (fun p => p.1.lo != 0)) w).setB F.TWN_CTL_EN en)
  if en == was then d
  else if en then
    let d := if d.on 30 then (d.linkDown).twnMove 1 else d
    d.roleNote.twinCast
  else
    let d := { d.twnFlush.linkDown with twn := { d.twnFlush.linkDown.twn with sent := none, detected := false, yields := false } }
    let d := if d.f F.TWN_STAT_STATE != 0 then d.twnMove 0 else d
    d.roleNote.twinCast

def execTwnEnWrite (w : RegWr) (s : State) : Host.Outcome State Fault Refusal :=
  s.run (fun d => d.gated 0x1E0000 w (Dev.writeTwnCtl w))

/-- This block's PAIR_HELLO values (R446). -/
def Dev.helloOwn (d : Dev) : List Word :=
  [BitVec.ofNat 64 (d.f F.MBX_DOCENT_VERSION + Config.romVer % 65536 * 2 ^ 16 + d.f F.TWN_CTL_PREFER * 2 ^ 32 +
     b2n d.active * 2 ^ 33 + d.tst * 2 ^ 34),
   BitVec.ofNat 64 (d.f F.TST_SERIAL_SN)]

/-- The peer's release fits this block's (R446). -/
def Dev.helloFits (d : Dev) (w1 : Word) : Bool :=
  bits w1.toNat 8 8 == d.f F.MBX_DOCENT_VERSION / 256 && bits w1.toNat 16 16 == Config.romVer % 65536

/-- This block is the one that ends ACTIVE (R449). -/
def Dev.chosen (d : Dev) (w1 w2 : Word) : Bool :=
  let mine := d.active && d.tst == 4
  let theirs := bit w1.toNat 33 && bits w1.toNat 34 3 == 4
  let prefer := d.b F.TWN_CTL_PREFER
  if mine != theirs then mine
  else if prefer != bit w1.toNat 32 then prefer
  else d.f F.TST_SERIAL_SN < w2.toNat

/-- Roles are resolved once the values are known and both blocks are attached (R445, R449). -/
def Dev.rolesResolve (d : Dev) : Dev :=
  match d.twn.hello with
  | some (w1, w2) =>
    if d.f F.TWN_STAT_STATE != 3 || d.twn.peerState < 3 || d.twn.peerState > 5 then d
    else
      let me := d.chosen w1 w2
      let d := { (d.setB F.TWN_STAT_SOURCE me) with twn := { d.twn with hello := none } }
      (d.startSync).roleAsk me
  | none => d

/-- PAIR_HELLO is answered 04h: both blocks return to ALIGNED (R449). -/
def Dev.helloRefused (d : Dev) : Dev :=
  let d := { d with twn := { d.twn with hello := none } }
  if d.f F.TWN_STAT_STATE == 3 then d.twnMove 2 else d

/-- The peer's values are taken. -/
def Dev.helloTaken (d : Dev) (w1 w2 : Word) : Dev := { d with twn := { d.twn with hello := some (w1, w2) } }.rolesResolve

def execPairHello (resp : Bool) (seq status : Nat) (w1 w2 : Word) (s : State) : Host.Outcome State Fault Refusal :=
  s.run (fun d => d.mb3In 1 resp seq status [w1, w2]
    (fun d => if status % 256 == 0 then d.helloTaken w1 w2 else if status % 256 == 4 then d.helloRefused else d)
    (fun d => if d.helloFits w1 then (d.mb3Answer 1 0 d.helloOwn).helloTaken w1 w2 else (d.mb3Answer 1 4 []).helloRefused))

/-- ATTACH (R445). -/
def Dev.twnAttach (d : Dev) : Dev := if d.f F.TWN_STAT_STATE == 2 then (d.twnMove 3).mb3Request 1 d.helloOwn else d

/-- DETACH (R445). -/
def Dev.twnDetach (d : Dev) : Dev :=
  let st := d.f F.TWN_STAT_STATE
  if st == 4 || st == 5 then (d.twnMove 6).twinCast.mb3Request 5 [] else d

/-- RESYNC (R445, R455). -/
def Dev.twnResync (d : Dev) : Dev :=
  if d.f F.TWN_STAT_STATE == 5 && d.f F.TWN_STAT_SWITCH_PHASE == 0 then d.startSync else d

/-- A write of TWN_CMD: Docent's and Curator's. -/
def Dev.writeTwnCmd (w : RegWr) (d : Dev) : Dev :=
  if w.agent != .docent && w.agent != .curator then d
  else match w.fld F.TWN_CMD_OP with
    | 1 => d.twnAttach
    | 2 => d.twnDetach
    | 3 => d.twnResync
    | _ => d

/-- The row of one command. -/
def Dev.twnCmdRow (op : Nat) (w : RegWr) (d : Dev) : Dev :=
  if w.fld F.TWN_CMD_OP == op then d.gated 0x1E0008 w (Dev.writeTwnCmd w) else d

def execTwnCmdAttach (w : RegWr) (s : State) : Host.Outcome State Fault Refusal := s.run (Dev.twnCmdRow 1 w)
def execTwnCmdDetach (w : RegWr) (s : State) : Host.Outcome State Fault Refusal := s.run (Dev.twnCmdRow 2 w)
def execTwnCmdResync (w : RegWr) (s : State) : Host.Outcome State Fault Refusal := s.run (Dev.twnCmdRow 3 w)

/-- The peer's DETACH (R445): its response ends DETACHING; its request takes this block there and, answered, on to ALIGNED. -/
def Dev.peerDetach (d : Dev) : Dev :=
  let st := d.f F.TWN_STAT_STATE
  let d := d.mb3Answer 5 0 []
  if st == 4 || st == 5 then (d.twnMove 6).detached else d

def execMb3Detach (resp : Bool) (seq status : Nat) (s : State) : Host.Outcome State Fault Refusal :=
  s.run (fun d => d.mb3In 5 resp seq status [] (fun d => if d.f F.TWN_STAT_STATE == 6 then d.detached else d) Dev.peerDetach)

/-! Switchover (R460). -/

/-- The switchover is agreed: phase 01b, and the standby stages ROLE = 1. -/
def Dev.switchBegin (d : Dev) (hold : Nat) : Dev :=
  let d := { d.set F.TWN_STAT_SWITCH_PHASE 1 with twn := { d.twn with hold := hold, overlapAt := none } }
  if d.active then d else d.roleAsk true

def execSwitchPropose (resp : Bool) (seq status : Nat) (w1 : Word) (s : State) : Host.Outcome State Fault Refusal :=
  s.run (fun d => d.mb3In 3 resp seq status [w1]
    (fun d => if status % 256 == 0 then d.switchBegin d.twn.hold else d)
    (fun d => if d.f F.TWN_STAT_STATE == 5 then (d.mb3Answer 3 0 []).switchBegin (bits w1.toNat 16 16) else d.mb3Answer 3 4 []))

/-- The switchover has ended (R460); the block that is now the sink arms failover (R527). -/
def Dev.switchEnd (d : Dev) : Dev :=
  let d := if d.b F.TWN_STAT_SOURCE then d else d.set F.TWN_STAT_FO_ARMED 1
  (d.set F.TWN_STAT_SWITCH_PHASE 0).raise 1545

def execSwitchDone (resp : Bool) (seq status : Nat) (s : State) : Host.Outcome State Fault Refusal :=
  s.run (fun d => d.mb3In 4 resp seq status [] (fun d => if status % 256 == 0 then d.switchEnd else d)
    (fun d => (d.mb3Answer 4 0 []).switchEnd))

/-- MB0 TWIN_CTL: 0Ch where no twin is wired, 03h for an operation that no row names (R351, R445). -/
def Dev.twinCtl (op : Nat) (d : Dev) : Dev :=
  let asked := bits (d.mbWord 0 1) 0 4
  if asked != op && 1 ≤ asked && asked ≤ 3 then d
  else d.mbReq 0 6 8 (fun d =>
    if !d.b F.ID_INTEG_TWIN_WIRED then d.mbRespond 0 0x0C []
    else match asked with
      | 1 => if d.f F.TWN_STAT_STATE != 2 then d.mbRespond 0 4 [] else (d.mbRespond 0 0 []).twnAttach
      | 2 => (d.mbRespond 0 0 []).twnDetach
      | 3 =>
        if !d.mb3Open then d.mbRespond 0 0x0C []
        else if d.f F.TWN_STAT_STATE != 5 || d.f F.TWN_STAT_SWITCH_PHASE != 0 then d.mbRespond 0 4 []
        else if d.twn.mbReq.isSome then d.mbRespond 0 6 []
        else
          let h := d.f F.TWN_CTL_HOLD
          { d.mbRespond 0 0 [] with twn := { d.twn with hold := h } }.mb3Request 3 [BitVec.ofNat 64 (h * 2 ^ 16)]
      | _ => d.mbRespond 0 3 [])

def execTwinCtlAttach (s : State) : Host.Outcome State Fault Refusal := s.run (Dev.twinCtl 1)
def execTwinCtlDetach (s : State) : Host.Outcome State Fault Refusal := s.run (Dev.twinCtl 2)
def execTwinCtlSwitchover (s : State) : Host.Outcome State Fault Refusal := s.run (Dev.twinCtl 3)

/-! The mirror stream. -/

/-- One field of each mirrored register, in the order of the bulk copy (R451). -/
def mirRegs : List Fld :=
  [F.TDS_FLT_FTAG, F.CLS_CTL_CSUM_DROP, F.CLS_DEF_LO_ACT_LO, F.CLS_DEF_HI_ACT_HI, F.CLS_POL_RATE, F.QSC_FC_CFG_EN, F.QSC_FC_SHP_RATE,
   F.QSC_EGR_CFG_SP, F.QSC_RPT_CFG_FACTOR, F.UPM_CFG_PVID, F.UPM_PRE_CFG_EXPRESS]

/-- Number of registers of an array. -/
def Fld.regCount (x : Fld) : Nat := x.n1 * x.n2

/-- Offset of the k-th register of a list of arrays. -/
def regNth : List Fld → Nat → Option Nat
  | [], _ => none
  | x :: t, k => if k < x.regCount then some (x.base + x.s1 * (k / x.n2) + x.s2 * (k % x.n2)) else regNth t (k - x.regCount)

/-- Registers that the bulk copy carries. -/
def mirCount : Nat := (mirRegs.map Fld.regCount).foldl (· + ·) 0

/-- Eight slots from slot i on. -/
def Dev.slots8 (d : Dev) (i : Nat) : List Nat := (List.range 8).map (fun k => d.slot (i + k))

/-- Record p of a bulk copy (R455), with the content of the moment. -/
def Dev.bulkRecord (d : Dev) (p : Nat) : Mir :=
  if p == 0 then .accession d.accCur
  else match regNth mirRegs (p - 1) with
    | some off => .reg off (d.stored off &&& mirMask off)
    | none =>
      let k := p - 1 - mirCount
      if k == 0 then .changeEnd
      else if k ≤ 32768 then .bucket ((k - 1) / 8192) ((k - 1) % 8192) (d.slots8 ((k - 1) / 8192 * 65536 + (k - 1) % 8192 * 8))
      else if k ≤ 32896 then .stash (8 * (k - 32769)) (d.slots8 (stashBase + 8 * (k - 32769)))
      else .bulkEnd

/-- A slot as its four words, word 0 first (R169). -/
def slotWords (v : Nat) : List Nat := (List.range 4).map (fun i => bits v (64 * i) 64)

/-- MTYPE and payload words of a record (R452). -/
def Mir.words : Mir → Nat × List Nat
  | .reg off val => (1, [off, val])
  | .tableOp cmd dst data => (2, cmd :: dst :: data)
  | .commit a => (3, [a])
  | .bucket b i sl => (4, (b + i * 4) :: sl.flatMap slotWords)
  | .stash i sl => (5, i :: sl.flatMap slotWords)
  | .changeEnd => (6, [])
  | .bulkEnd => (7, [])
  | .swap => (8, [])
  | .accession a => (9, [a])

/-- The octets of a record (R452). -/
def Mir.octets (m : Mir) (seq : Nat) : List Byte :=
  ((m.words.1 * 2 ^ 56 + seq * 2 ^ 24 + 8 * m.words.2.length) :: m.words.2 : List Nat).flatMap (fun (w : Nat) => beBytes 8 w)

/-- The number that four words from index i of a payload give. -/
def wordsSlot (ws : List Nat) (i : Nat) : Nat := (List.range 4).foldl (fun a k => a + ws.getD (i + k) 0 * 2 ^ (64 * k)) 0

/-- The record of an MTYPE and its payload; an undefined MTYPE gives none. -/
def mirOf (ty : Nat) (ws : List Nat) : Option Mir :=
  let w := fun i => ws.getD i 0
  let slots := (List.range 8).map (fun k => wordsSlot ws (1 + 4 * k))
  match ty with
  | 1 => some (.reg (w 0 % 2 ^ 22) (w 1))
  | 2 => some (.tableOp (w 0) (w 1) ((List.range 8).map (fun i => w (2 + i))))
  | 3 => some (.commit (w 0 % 4096))
  | 4 => some (.bucket (w 0 % 4) (bits (w 0) 2 13) slots)
  | 5 => some (.stash (w 0 % 1024) slots)
  | 6 => some .changeEnd
  | 7 => some .bulkEnd
  | 8 => some .swap
  | 9 => some (.accession (w 0 % 4096))
  | _ => none

/-- The next record to send: an operation's, else the bulk copy's (R453, R455). -/
def Dev.mirNext (d : Dev) : Option (Mir × Dev) :=
  match d.twn.send with
  | m :: t => some (m, { d with twn := { d.twn with send := t } })
  | [] =>
    match d.twn.bulk with
    | some p =>
      let m := d.bulkRecord p
      some (m, { d with twn := { d.twn with bulk := if m == .bulkEnd then none else some (p + 1) } })
    | none => none

/-- Take n octets of the stream of records for a block; what a block does not fill stays zero, a PAD (R452). -/
def Dev.mirTake : Nat → Nat → Dev → List Byte × Dev
  | 0, _, d => ([], d)
  | fuel + 1, n, d =>
    let now := d.twn.txRec.take n
    let d := { d with twn := { d.twn with txRec := d.twn.txRec.drop n } }
    if now.length == n then (now, d)
    else match d.mirNext with
      | none => (now, d)
      | some (m, d) =>
        let q := d.f F.TWN_MIRROR_NEXT_MSEQ
        let d := d.set F.TWN_MIRROR_NEXT_MSEQ (q + 1)
        let d := { d with twn := { d.twn with
          txRec := m.octets q, bulkEndSeq := if m == .bulkEnd then some q else d.twn.bulkEndSeq } }
        let r := Dev.mirTake fuel (n - now.length) d
        (now ++ r.1, r.2)

/-! Transmission. -/

/-- A framed block (R440). -/
def tlFrame (ty seq flags : Nat) (content : List Byte) : List Byte :=
  let body := (beBytes 1 0xBC) ++ (beBytes 1 ty) ++ (beBytes 2 seq) ++ (beBytes 1 flags) ++ [0, 0, 0] ++
    content ++ List.replicate (500 - content.length) 0
  body ++ beBytes 4 (crc32Octets (body.drop 1))

/-- The content of a heartbeat (R450). -/
def Dev.heartbeat (d : Dev) : List Byte :=
  let w0 := d.clk.sfc * 2 ^ 13 + d.tst * 2 ^ 10 + d.f F.TDS_SYNC_STAT_STATE * 2 ^ 8 + d.f F.TWN_STAT_STATE * 2 ^ 5 +
    b2n d.active * 2 ^ 4 + d.f F.TWN_STAT_SOURCE * 2 ^ 3 + b2n d.docentRuns * 2 ^ 2 + d.f F.TWN_STAT_SWITCH_PHASE
  let w1 := if d.b F.TWN_STAT_SOURCE then 0 else d.twn.mack * 2 ^ 32
  beBytes 8 w0 ++ beBytes 8 w1 ++ beBytes 8 (d.f F.TST_SERIAL_SN)

/-- A framed block goes out, and BSEQ advances. -/
def Dev.tlSend (d : Dev) (ty flags : Nat) (content : List Byte) : Dev :=
  { d with twn := { d.twn with
    sent := some (.framed (tlFrame ty d.twn.bseq flags content)), bseq := (d.twn.bseq + 1) % 65536 } }.act 12 1

/-- Training is complete: the state becomes ALIGNED (R443), a wake (R426). -/
def Dev.tryAligned (d : Dev) : Dev :=
  if d.f F.TWN_STAT_STATE == 1 && d.b F.TWN_LINK_STAT_ALIGNED && d.twn.sawAlive && d.twn.sawAck && d.twn.sentAck then
    (d.twnMove 2).wake 4
  else d

/-- The next block of the transmitter (R441, R443); none passes crossing 8 while it is not up (R53). Sixteen block times are one heartbeat
period (R457). -/
def Dev.tlTx (d : Dev) : Dev :=
  let d := { d with twn := { d.twn with hbBlocks := d.twn.hbBlocks + 1 } }
  let st := d.f F.TWN_STAT_STATE
  if !d.on 30 || st == 0 || !d.xUp 8 then d
  else if st == 1 then
    if d.f F.TWN_LINK_STAT_SYMLOCK != 255 then { d with twn := { d.twn with sent := some .lock } }.act 12 1
    else
      let d := d.tlSend 1 (1 + 2 * b2n d.twn.sawAlive) []
      { d with twn := { d.twn with sentAck := d.twn.sentAck || d.twn.sawAlive } }.tryAligned
  else if d.twn.bseq % 16 == 0 then d.tlSend 2 0 d.heartbeat
  else if !d.twn.mbTx.isEmpty then
    { d with twn := { d.twn with mbTx := d.twn.mbTx.drop 500 } }.tlSend 4 0 (d.twn.mbTx.take 500)
  else
    let r := Dev.mirTake 64 500 d
    r.2.tlSend (if r.1.isEmpty then 0 else 3) 0 r.1

def execTlBlockTx (s : State) : Host.Outcome State Fault Refusal := s.run Dev.tlTx

/-! Reception. -/

/-- One block time on lanes not all locked: a lane that has found K28.5 sixteen times in a row is locked (R443). -/
def Dev.laneStep (d : Dev) (commas : BitVec 8) : Dev :=
  let run := (List.range 8).map (fun n => if commas.getLsbD n then min 16 (d.twn.lockRun.getD n 0 + 1) else 0)
  let lock := (List.range 8).foldl (fun a n => if run.getD n 0 == 16 then withBit a n true else a) (d.f F.TWN_LINK_STAT_SYMLOCK)
  { d with twn := { d.twn with lockRun := run } }.set F.TWN_LINK_STAT_SYMLOCK lock

/-- Alignment is lost (R442, R445). -/
def Dev.alignLost (d : Dev) : Dev := ((d.count F.TWN_CNT_ALIGN_LOSS).raise 1539).retrain

/-- The octets of records, and what is left of an unfinished one; a PAD ends the block (R452). -/
def mirParse : Nat → List Byte → List (Nat × Nat × List Nat) × List Byte
  | 0, _ => ([], [])
  | fuel + 1, l =>
    if l.isEmpty || l.headD 0 == 0 then ([], [])
    else if l.length < 8 then ([], l)
    else
      let w0 := ofBe (l.take 8)
      let n := w0 % 2 ^ 24
      if l.length < 8 + n then ([], l)
      else
        let ws := (List.range (n / 8)).map (fun i => ofBe ((l.drop (8 + 8 * i)).take 8))
        let r := mirParse fuel (l.drop (8 + n))
        ((bits w0 56 8, bits w0 24 32, ws) :: r.1, r.2)

/-- A record has arrived; an ACCESSION begins a bulk copy and ends what was held before it (R455). -/
def Dev.mirHold (d : Dev) (seq : Nat) (m : Mir) : Dev :=
  let held := match m with | .accession _ => [(seq, m)] | _ => d.twn.recv ++ [(seq, m)]
  { d with twn := { d.twn with recv := held } }.set F.TWN_MIRROR_PENDING (min 65535 held.length)

/-- The content of a MIRROR block. -/
def Dev.mirRx (d : Dev) (content : List Byte) : Dev :=
  let l := d.twn.rxRec ++ content
  let r := mirParse (l.length + 1) l
  let d := { d with twn := { d.twn with rxRec := r.2 } }
  r.1.foldl (fun d p => match mirOf p.1 p.2.2 with | some m => d.mirHold p.2.1 m | none => d) d

/-- The content of a good block, by BTYPE. -/
def Dev.tlTake (d : Dev) (ty flags : Nat) (content : List Byte) : Dev :=
  match ty with
  | 1 => { d with twn := { d.twn with sawAlive := d.twn.sawAlive || bit flags 0, sawAck := d.twn.sawAck || bit flags 1 } }.tryAligned
  | 2 => { d with twn := { d.twn with hb := some ((List.range 3).map (fun i => BitVec.ofNat 64 (ofBe ((content.drop (8 * i)).take 8)))) } }
  | 3 => if d.f F.TWN_STAT_STATE ≥ 2 then d.mirRx content else d
  | 4 => if d.f F.TWN_STAT_STATE ≥ 2 then d.wake 4 else d
  | _ => d

/-- A header that is not valid (R442). -/
def Dev.tlBad (d : Dev) : Dev :=
  let n := min 7 (d.f F.TWN_LINK_STAT_BAD + 1)
  let d := ((d.count F.TWN_CNT_BAD_HDR).set F.TWN_LINK_STAT_GOOD 0).set F.TWN_LINK_STAT_BAD n
  if d.b F.TWN_LINK_STAT_ALIGNED && n == 4 then d.alignLost else d

/-- A valid header (R442): 64 in a row declare alignment. -/
def Dev.tlGood (d : Dev) : Dev :=
  let n := d.f F.TWN_LINK_STAT_GOOD
  let d := d.set F.TWN_LINK_STAT_BAD 0
  if n == 63 then d.set F.TWN_LINK_STAT_ALIGNED 1 else d.set F.TWN_LINK_STAT_GOOD (n + 1)

/-- A received block (R442, R443): the lanes on which K28.5 stands at its place, whether octets 1 to 7 decode without error, and the
512 octets. -/
def Dev.tlRx (commas : BitVec 8) (codeOk : Bool) (octets : List Byte) (d : Dev) : Dev :=
  if !d.on 30 || d.f F.TWN_STAT_STATE == 0 || !d.xUp 8 then d
  else if d.f F.TWN_LINK_STAT_SYMLOCK != 255 then (d.laneStep commas).act 12 1
  else
    let d := d.act 12 1
    let l := octets.take 512
    let ty := ofBe ((l.drop 1).take 1)
    let seq := ofBe ((l.drop 2).take 2)
    let follows := match d.twn.rxNext with | some n => n == seq | none => true
    let valid := l.length == 512 && commas.getLsbD 0 && l.headD 0 == 0xBC && codeOk && ty ≤ 4 && follows
    if !valid then { d with twn := { d.twn with rxNext := d.twn.rxNext.map (fun n => (n + 1) % 65536) } }.tlBad
    else
      let d := { d with twn := { d.twn with rxNext := some ((seq + 1) % 65536) } }.tlGood
      if ofBe (l.drop 508) != crc32Octets ((l.drop 1).take 507) then
        let d := d.count F.TWN_CNT2_BAD_BLOCK
        if ty == 3 then { d with twn := { d.twn with rxRec := [] } } else d
      else (d.tlTake ty (ofBe ((l.drop 4).take 1)) ((l.drop 8).take 500)).tryAligned

def execTlBlockRx (commas : BitVec 8) (codeOk : Bool) (octets : List Byte) (s : State) : Host.Outcome State Fault Refusal :=
  s.run (Dev.tlRx commas codeOk octets)

/-! Heartbeats, failover and yield. -/

/-- A detection (R457): blocked where this block cannot carry traffic, else a takeover at the next TICK. A sink in SYNCING cannot
take over (R455). -/
def Dev.detect (d : Dev) (how : Nat) : Dev :=
  if d.b F.TWN_STAT_SOURCE || d.active || !d.b F.TWN_STAT_FO_ARMED || d.f F.TWN_STAT_STATE == 4 then d
  else if d.tst != 4 || d.f F.TDS_SYNC_STAT_STATE != 2 then (d.set F.TWN_STAT_LAST_FO 3).raise 1541
  else { d.set F.TWN_STAT_LAST_FO how with twn := { d.twn with detected := true } }

/-- What the source learns of the sink: the bulk copy is applied, or is wanted (R445, R453). A peer that shows SOURCE is no sink. -/
def Dev.sinkShows (d : Dev) (peerSource : Bool) (mack st : Nat) : Dev :=
  let mine := d.f F.TWN_STAT_STATE
  if !d.b F.TWN_STAT_SOURCE || peerSource then d
  else if mine == 4 && d.twn.bulkEndSeq == some mack then (if st == 5 then d.nowPaired else if st == 4 then d.startSync else d)
  else if mine == 5 && st == 4 then d.startSync
  else d

/-- An active source of a planned switchover sees the overlap begin (R460). -/
def Dev.overlapSeen (d : Dev) : Dev :=
  if d.f F.TWN_STAT_SWITCH_PHASE == 1 && d.b F.TWN_STAT_SOURCE && d.b F.TWN_STAT_PEER_ROLE && d.twn.overlapAt.isNone then
    { d with twn := { d.twn with overlapAt := some d.clk.ticks } }
  else d

/-- The heartbeat periods that have passed whole since the last valid heartbeat. A heartbeat in the cycle in which a period ends comes
first (R457). -/
def Dev.hbMissed (d : Dev) : Nat := (d.twn.hbBlocks - 1) / 16

/-- A valid heartbeat (R450): the missed periods counted, the peer's status, then detection (R457) or yield (R459). -/
def Dev.heartbeatRx (d : Dev) : Dev :=
  match d.twn.hb with
  | some [w0, w1, w2] =>
    let v := w0.toNat
    let d := { d.countN F.TWN_CNT_HB_MISS d.hbMissed with twn := { d.twn with hb := none, hbBlocks := 0, peerState := bits v 5 3 } }
    let d := (((d.set F.TWN_PEER_PEER_SFC (v / 2 ^ 13)).set F.TWN_STAT_PEER_TST (bits v 10 3)).set F.TWN_STAT_PEER_SYNC (bits v 8 2)).set
      F.TWN_STAT_PEER_ROLE (bits v 4 1)
    let d := ((d.set F.TWN_STAT_PEER_DOCENT (bits v 2 1)).set F.TWN_STAT_PEER_VALID 1).set F.TWN_PEER_SN_SN w2.toNat
    let d := ((d.sinkShows (bit v 3) (bits w1.toNat 32 32) (bits v 5 3)).rolesResolve).overlapSeen
    let d := if d.active && d.b F.TWN_CTL_EN && d.f F.TWN_STAT_SWITCH_PHASE == 0 && bit v 4 && bit v 3 then
        { d with twn := { d.twn with yields := true } }
      else d
    if bit v 4 && bits v 8 2 == 0 && d.b F.TWN_CTL_SYNC_TAKEOVER then d.detect 1 else d
  | _ => d

def execHeartbeatRx (s : State) : Host.Outcome State Fault Refusal := s.run Dev.heartbeatRx

/-- Eight periods have passed without a valid heartbeat (R457, R459), and the next eight are counted afresh. -/
def Dev.heartbeatLost (d : Dev) : Dev :=
  if !d.b F.TWN_CTL_EN || !d.on 30 || d.twn.hbBlocks < 128 then d
  else
    let d := { d with twn := { d.twn with hbBlocks := 0 } }
    let lost := d.b F.TWN_STAT_PEER_VALID
    let d := (d.countN F.TWN_CNT_HB_MISS 8).set F.TWN_STAT_PEER_VALID 0
    let d := d.raiseIf (lost && d.active) 1542
    if d.b F.TWN_CTL_HB_TAKEOVER then d.detect 2 else d

def execHeartbeatTimeout (s : State) : Host.Outcome State Fault Refusal := s.run Dev.heartbeatLost

/-- The peer is in reset (R461). -/
def Dev.peerReset (d : Dev) : Dev :=
  if d.f F.TWN_STAT_STATE == 0 then d
  else
    let d := (d.countN F.TWN_CNT2_DISCARDED d.inFlight).mb3Complete 0x0C
    ((d.raise 1538).retrain).stgRelease 6

/-! Records applied at the sink (R453, R455). -/

/-- A mirror error (R453): the pair enters SYNCING. -/
def Dev.mirrorErr (d : Dev) : Dev :=
  let d := { d with twn := { d.twn with redo := true } }.raise 1544
  if d.f F.TWN_STAT_STATE == 5 then d.startSync else d

/-- The record with which the sink goes on (R453): the next by MSEQ, or the ACCESSION that begins a bulk copy. -/
def Dev.mirHead (d : Dev) : Option (Nat × Mir) :=
  if !d.isSink || !d.on 30 then none
  else match d.twn.recv with
    | (q, m) :: _ =>
      if q == d.f F.TWN_MIRROR_NEXT_MSEQ || (match m with | .accession _ => true | _ => false) then some (q, m) else none
    | [] => none

/-- The record has been applied, or has failed. -/
def Dev.mirPassed (d : Dev) (q : Nat) : Dev :=
  let rest := d.twn.recv.drop 1
  ({ d with twn := { d.twn with recv := rest, mack := q } }.set F.TWN_MIRROR_NEXT_MSEQ (q + 1)).set F.TWN_MIRROR_PENDING
    (min 65535 rest.length)

/-- The twin agent's open set, or an IDLE one that it opens. -/
def Dev.twinSet (d : Dev) : Option (Nat × Dev) :=
  match [0, 1].find? (fun s => d.stgState s == 1 && d.f F.STG_STAT_OWNER s == 6) with
  | some s => some (s, d)
  | none => match [0, 1].find? (fun s => d.stgState s == 0) with
    | some s => some (s, d.stgOpen s 6)
    | none => none

/-- A twin set is checked and armed with NEXT; a failed CHECK is a mirror error. -/
def Dev.twinArm (d : Dev) (s : Nat) : Dev :=
  let d := (d.setI F.STG_APPLY_NEXT s 1).stgCheckArm s
  if d.stgState s == 2 then d else (d.stgCancel s).mirrorErr

/-- REG: the mirrored bits are staged; a set that is full is armed and another goes on. -/
def Dev.mirReg (d : Dev) : Dev :=
  match d.mirHead with
  | some (q, .reg off val) =>
    if mirMask off == 0 then d.mirPassed q
    else match d.twinSet with
      | none => d
      | some (s, d') =>
        let m := d'.stgSet s
        if (m.look off).isNone && m.length ≥ stgCap s then d'.twinArm s
        else (d'.stage 6 s off (mirMask off) val).mirPassed q
  | _ => d

def execMirrorReg (s : State) : Host.Outcome State Fault Refusal := s.run Dev.mirReg

/-- CHANGE_END: the staged records are armed. -/
def Dev.mirChangeEnd (d : Dev) : Dev :=
  match d.mirHead with
  | some (q, .changeEnd) =>
    match [0, 1].find? (fun s => d.stgState s == 1 && d.f F.STG_STAT_OWNER s == 6) with
    | some s => (d.mirPassed q).twinArm s
    | none => d.mirPassed q
  | _ => d

def execMirrorChangeEnd (s : State) : Host.Outcome State Fault Refusal := s.run Dev.mirChangeEnd

/-- TABLE_OP: executed on the update engine with the source's data. -/
def Dev.mirTableOp (d : Dev) : Dev :=
  match d.mirHead with
  | some (q, .tableOp cmd dst data) =>
    let d := data.zipIdx.foldl (fun d p => d.setI F.CLS_UPD_DATA_DATA p.2 p.1) (d.mirPassed q)
    let r := d.updOp false (cmd % 16) cmd dst
    if r.1 == 0 then r.2 else r.2.mirrorErr
  | _ => d

def execMirrorTableOp (s : State) : Host.Outcome State Fault Refusal := s.run Dev.mirTableOp

/-- COMMIT: a one-entry set, once the accession state is OPEN. -/
def Dev.mirCommit (d : Dev) : Dev :=
  match d.mirHead with
  | some (q, .commit acc) =>
    match if d.accState == 1 then [0, 1].find? (fun s => d.stgState s == 0) else none with
    | some s => (((d.mirPassed q).stgOpen s 6).stage 6 s accCurOff 4095 acc).twinArm s
    | none => d
  | _ => d

def execMirrorCommit (s : State) : Host.Outcome State Fault Refusal := s.run Dev.mirCommit

/-- Eight slots are written from slot i on. -/
def Dev.setSlots (d : Dev) (i : Nat) (l : List Nat) : Dev := (l.take 8).zipIdx.foldl (fun d p => d.setSlot (i + p.2) p.1) d

/-- BUCKET, once the bank is powered. -/
def Dev.mirBucket (d : Dev) : Dev :=
  match d.mirHead with
  | some (q, .bucket b i sl) => if d.on (bankDomain b) then ((d.mirPassed q).setSlots (b * 65536 + 8 * i) sl).stashCount else d
  | _ => d

def execMirrorBucket (s : State) : Host.Outcome State Fault Refusal := s.run Dev.mirBucket

/-- STASH, which stands with the first bank. -/
def Dev.mirStash (d : Dev) : Dev :=
  match d.mirHead with
  | some (q, .stash i sl) => if d.on 14 then ((d.mirPassed q).setSlots (stashBase + i / 8 * 8) sl).stashCount else d
  | _ => d

def execMirrorStash (s : State) : Host.Outcome State Fault Refusal := s.run Dev.mirStash

/-- A set of the twin agent is not yet applied. -/
def Dev.twinPending (d : Dev) : Bool := [0, 1].any (fun s => d.stgState s != 0 && d.f F.STG_STAT_OWNER s == 6)

/-- BULK_END (R445, R455): the pair is PAIRED; after a mirror error the bulk copy is wanted again. -/
def Dev.mirBulkEnd (d : Dev) : Dev :=
  match d.mirHead with
  | some (q, .bulkEnd) =>
    if d.twinPending then d
    else
      let d := d.mirPassed q
      if d.f F.TWN_STAT_STATE == 4 && !d.twn.redo then d.nowPaired else d
  | _ => d

def execMirrorBulkEnd (s : State) : Host.Outcome State Fault Refusal := s.run Dev.mirBulkEnd

/-- SWAP (R460): this block becomes the source. -/
def Dev.mirSwap (d : Dev) : Dev :=
  match d.mirHead with
  | some (q, .swap) => ((d.mirPassed q).set F.TWN_STAT_SOURCE 1).twinCast
  | _ => d

def execMirrorSwap (s : State) : Host.Outcome State Fault Refusal := s.run Dev.mirSwap

/-- ACCESSION (R455): CUR is loaded directly; a bulk copy begins. -/
def Dev.mirAccession (d : Dev) : Dev :=
  match d.mirHead with
  | some (q, .accession a) =>
    let d := (d.mirPassed q).set F.CLS_ACC_CUR_CUR a
    let d := { d with twn := { d.twn with redo := false } }
    if d.f F.TWN_STAT_STATE == 5 then d.startSync else d
  | _ => d

def execMirrorAccession (s : State) : Host.Outcome State Fault Refusal := s.run Dev.mirAccession

/-! The twin unit at a TICK, after the staging sets (R458). -/

/-- The takeover (R458). -/
def Dev.takeover (d : Dev) : Dev :=
  if !d.twn.detected then d
  else
    let st := d.f F.TWN_STAT_STATE
    let d := d.countN F.TWN_CNT2_DISCARDED (d.twn.recv.length + b2n (!d.twn.rxRec.isEmpty))
    let d := { d with twn := { d.twn with detected := false, yields := false, recv := [], rxRec := [], role := none } }
    let d := (((d.set F.TWN_ROLE_ROLE 1).set F.TWN_STAT_SOURCE 1).set F.TWN_STAT_FO_ARMED 0).set F.TWN_MIRROR_PENDING 0
    let d := ((d.roleNote).count F.TWN_CNT_FAILOVERS).raise 1540
    if st == 4 || st == 5 then d.startSync else d.twinCast

/-- The yield (R459). -/
def Dev.yieldRole (d : Dev) : Dev :=
  if !d.twn.yields then d
  else
    let st := d.f F.TWN_STAT_STATE
    let d := { d with twn := { d.twn with yields := false, send := [], txRec := [], bulk := none, bulkEndSeq := none } }
    if !d.active || d.f F.TWN_STAT_SWITCH_PHASE != 0 then d
    else
      let d := (((d.set F.TWN_ROLE_ROLE 0).set F.TWN_STAT_SOURCE 0).roleNote).raise 1537
      if st == 5 then d.startSync else d.twinCast

/-- A role change that a staging set brought. -/
def Dev.roleChanged (d : Dev) : Dev :=
  if d.b F.TWN_STAT_EFF_ROLE == d.active then d
  else
    let d := d.roleNote.raise 1537
    if d.f F.TWN_STAT_SWITCH_PHASE == 2 && d.b F.TWN_STAT_SOURCE && !d.active then
      ({ d with twn := { d.twn with send := d.twn.send ++ [Mir.swap], bulk := none } }.set F.TWN_STAT_SOURCE 0).twinCast
    else d

/-- Steps 4 and 6 of a planned switchover (R460). -/
def Dev.switchTick (d : Dev) : Dev :=
  let ph := d.f F.TWN_STAT_SWITCH_PHASE
  if ph == 1 then
    match d.twn.overlapAt with
    | some t => if d.clk.ticks ≥ t + d.twn.hold then (d.set F.TWN_STAT_SWITCH_PHASE 2).roleAsk false else d
    | none => d
  else if ph == 2 && !d.b F.TWN_STAT_SOURCE && !d.queued && d.twn.mbReq.isNone && d.mb3Open then d.mb3Request 4 []
  else d

/-- A PAIR_HELLO that got no answer is sent again. -/
def Dev.helloAgain (d : Dev) : Dev :=
  if d.f F.TWN_STAT_STATE == 3 && d.twn.hello.isNone && d.twn.mbReq.isNone && d.mb3Open then d.mb3Request 1 d.helloOwn else d

/-- What the twin unit and Docent's part of it do at a TICK. -/
def Dev.twinTick (d : Dev) : Dev :=
  if !d.on 30 then d.twinCast
  else (((((d.roleChanged.takeover).yieldRole).switchTick).roleStage).helloAgain).twinCast

end Sys2Proof.Machine
end

