-- ==== Sys2Proof/Machine/Clocks.lean ====
section
/-! DEFINITION. The core clock switch (R44 to R46), the clock monitors (R47, R48, R494) and the crossings (R52 to R54). -/

namespace Sys2Proof.Machine

/-- A write of CKX_CORE_CTL: Curator's (R44, R45). SRC = 1 needs LOCK and is never undone; PLL_EN = 0 is ignored while SRC is 1. DESIGN
CHOICE: the PLL_EN bit of a write whose SRC = 1 is refused takes effect all the same, as the table calls REFUSED the refusal of 'a write
of SRC' (log entry 13). -/
def Dev.writeCoreCtl (w : RegWr) (d : Dev) : Dev :=
  if w.agent != .curator then d
  else
    let d := d.put F.CKX_CORE_CTL_REFUSED w
    let src := w.fld F.CKX_CORE_CTL_SRC == 1
    let d :=
      if !src || d.onPll then d
      else if !d.b F.CKX_CORE_CTL_LOCK then d.set F.CKX_CORE_CTL_REFUSED 1
      else
        let d := { d.set F.CKX_CORE_CTL_SRC 1 with clk := { d.clk with first := true, hoN := 0, hoAt := 0, hoSlip := 0 } }
        if d.f F.MBX_BOOT_STAGE == 3 then d.bootStage 4 else d
    let en := w.merged F.CKX_CORE_CTL_PLL_EN (d.f F.CKX_CORE_CTL_PLL_EN)
    if en == 1 then d.set F.CKX_CORE_CTL_PLL_EN 1
    else if d.onPll then d
    else (d.set F.CKX_CORE_CTL_PLL_EN 0).set F.CKX_CORE_CTL_LOCK 0

/-- Curator enables the PLL. -/
def execPllEnable (w : RegWr) (s : State) : Host.Outcome State Fault Refusal :=
  s.run (fun d => if w.fld F.CKX_CORE_CTL_PLL_EN == 1 && w.fld F.CKX_CORE_CTL_SRC == 0 then d.gated 0x10020 w (Dev.writeCoreCtl w) else d)

/-- The PLL has locked. -/
def execPllLock (s : State) : Host.Outcome State Fault Refusal :=
  s.run (fun d => if d.b F.CKX_CORE_CTL_PLL_EN then d.set F.CKX_CORE_CTL_LOCK 1 else d)

def execCoreClockSwitch (w : RegWr) (s : State) : Host.Outcome State Fault Refusal :=
  s.run (fun d => if w.fld F.CKX_CORE_CTL_SRC == 1 then d.gated 0x10020 w (Dev.writeCoreCtl w) else d)

/-! Clock monitors. -/

/-- Words of crossing x discarded (R52 to R54). -/
def Dev.xDrop (d : Dev) (x n : Nat) : Dev :=
  if n == 0 then d else (d.countN F.CKX_XDROP_DROPS n).set F.CKX_XDROP_LAST_XID x

/-- Clock c of CKX_CLKMON belongs to a group that is not wired, which raises no event (R501, R516). -/
def Dev.clkUnwired (d : Dev) (c : Nat) : Bool :=
  (5 ≤ c && c ≤ 8 && !bit (d.f F.ID_INTEG_PORT_WIRED) (c - 5)) || (c == 9 && !d.b F.ID_INTEG_TWIN_WIRED) ||
    (c == 4 && !d.b F.ID_INTEG_FAB_WIRED)

/-- What a stopped clock does to the unit that uses it (R61, R461, R494). -/
def Dev.clkStopped (d : Dev) (c : Nat) : Dev :=
  if c == 3 then { d with clk := { d.clk with usBlocked := true } }.purge
  else if 5 ≤ c && c ≤ 8 then (if (d.port (c - 5)).link then d.linkMoved (c - 5) false else d)
  else if c == 9 then (if d.on 30 then d.peerReset else d)
  else d

/-- A crossing whose words cannot be held back at their sender: the downstream words, and the frames a user port receives (R52). -/
def xLoses (x : Nat) : Bool := x == 0 || (2 ≤ x && x ≤ 5)

/-- `words` words reach crossing x, which is full, and cannot be held back: they are discarded (R52). -/
def Dev.xLost (d : Dev) (x words : Nat) : Dev := if xLoses x then d.xDrop x words else d

/-- A declaration on clock c sets its sticky bit, stopped or returned (R47). -/
def Dev.clkSticky (d : Dev) (c : Nat) : Dev := d.set F.CKX_CLKMON_STOPPED (withBit (d.f F.CKX_CLKMON_STOPPED) c true)

/-- Clock c is declared stopped (R47), and `words` words of crossing x that nothing can hold back are discarded (R52). A clock that is not
wired raises no event (R501). -/
def Dev.clkStop (c x words : Nat) (d : Dev) : Dev :=
  if c ≥ 10 || bit d.clk.stopped c then d
  else
    let d := ({ d with clk := { d.clk with stopped := withBit d.clk.stopped c true } }.xLost x words).clkSticky c
    if d.clkUnwired c then d else (d.raise 1121).clkStopped c

/-- What the return of a clock sets going: a port's link (R461), and the requests that waited for FAB_CLK (R52). -/
def Dev.clkBack (d : Dev) (c : Nat) : Dev :=
  if 5 ≤ c && c ≤ 8 && (d.port (c - 5)).link then d.linkMoved (c - 5) true
  else if c == 4 then d.fabResume
  else d

/-- Clock c is declared present again (R47). DEDUCED: 'each declaration' of R47 sets the sticky bit, this one too, where the table of
CKX_CLKMON speaks of a stop (log entry 13). -/
def Dev.clkReturn (c x words : Nat) (d : Dev) : Dev :=
  if c ≥ 10 || !bit d.clk.stopped c then d
  else
    let d := ({ d with clk := { d.clk with stopped := withBit d.clk.stopped c false } }.xLost x words).clkSticky c
    if d.clkUnwired c then d else (d.raise 1122).clkBack c

def execClkStop (c xid words : Nat) (s : State) : Host.Outcome State Fault Refusal :=
  s.run (fun d => if c == 0 then d else d.clkStop c xid words)
def execClkReturn (c xid words : Nat) (s : State) : Host.Outcome State Fault Refusal :=
  s.run (fun d => if c == 0 then d else d.clkReturn c xid words)

/-- AON_CLK and the holdover timer take REFCLK or CLK32K (R48). DESIGN CHOICE: the period pattern starts again, with the period under way
counted whole on the new clock (log entry 32). -/
def Dev.aonSource (d : Dev) (slow : Bool) : Dev :=
  { d.setB F.CKX_CLKMON_AON_SRC slow with clk := { d.clk with hoN := 0, hoSlip := 0 } }

/-- REFCLK absent and back: AON_CLK follows (R48). -/
def execRefclkAbsent (s : State) : Host.Outcome State Fault Refusal :=
  s.run (fun d => (d.clkStop 0 0 0).aonSource true)
def execRefclkRestored (s : State) : Host.Outcome State Fault Refusal :=
  s.run (fun d => (d.clkReturn 0 0 0).aonSource false)

/-! Crossings. -/

/-- PEER_RESET and HANDSHAKE of crossing x. -/
def Dev.xState (d : Dev) (x : Nat) (peer hand : Bool) : Dev :=
  (d.set F.CKX_XSTAT_PEER_RESET (withBit (d.f F.CKX_XSTAT_PEER_RESET) x peer)).set F.CKX_XSTAT_HANDSHAKE
    (withBit (d.f F.CKX_XSTAT_HANDSHAKE) x hand)

/-- Step 1 of R53: the words in flight are discarded. -/
def Dev.crossReset (x words : Nat) (d : Dev) : Dev :=
  if x > 10 || !d.on 1 then d else ((d.xDrop x words).xState x true false).raise 1123

def execPeerReset (x words : Nat) (s : State) : Host.Outcome State Fault Refusal := s.run (Dev.crossReset x words)

/-- Steps 2 and 3: the peer has left reset and drives ALIVE; ACK is driven. Words written meanwhile are discarded. After a reset of the
block in the midst of the steps, the handshake restarts here (R54). -/
def Dev.crossAlive (x words : Nat) (d : Dev) : Dev :=
  if x > 10 || !d.on 1 || !(bit (d.f F.CKX_XSTAT_PEER_RESET) x || bit d.clk.xRestart x) then d
  else { d with clk := { d.clk with xRestart := withBit d.clk.xRestart x false } }.xDrop x words |>.xState x false true

def execCrossingAlive (x words : Nat) (s : State) : Host.Outcome State Fault Refusal := s.run (Dev.crossAlive x words)

/-- Step 4: the crossing is up; what waited for crossing 6 goes out. -/
def Dev.crossUp (x : Nat) (d : Dev) : Dev :=
  if x > 10 || !bit (d.f F.CKX_XSTAT_HANDSHAKE) x then d
  else if x == 6 then (d.xState x false false).fabResume
  else d.xState x false false

def execCrossingAck (x : Nat) (s : State) : Host.Outcome State Fault Refusal := s.run (Dev.crossUp x)

end Sys2Proof.Machine
end

