-- ==== Sys2Proof/Machine/Tick.lean ====
section
/-! DEFINITION. The TICK: its source, the values it latches and its duties in the order of R41 (R30 to R41); and the core clock
edge that passes while no command waits. -/

namespace Sys2Proof.Machine

/-- Source of a TICK (R32): 1 LOCKED, 2 FLYWHEEL, 3 HOLDOVER; the first TICK on the PLL is the holdover timer's (R36). -/
def Dev.tickSource (d : Dev) : Nat :=
  if d.clk.first || d.f F.TDS_SYNC_STAT_STATE != 2 || d.pins.dsLos || d.dsStopped then 3
  else if d.clk.relock || d.ds.frameOk then 1
  else 2

/-! The instant of a TICK: all times in 2^-16 ns, from the edge of the TICK before. -/

/-- From a reference instant to the ideal tick instant: 1.600 µs (R30). -/
def tickDelay : Int := 104857600

/-- The reference instant of the present frame: of its sync block where one was checked since the last TICK, else predicted a frame after
the one before (R30, R32). -/
def Dev.tickRef (d : Dev) : Int := d.clk.ref.getD (frameTime - d.clk.refAgo)

/-- The ideal instant of a stepped TICK (R37): t, or the first of t + 125 µs and on that is 120 µs after the TICK before. -/
def Dev.stepInstant (d : Dev) : Int :=
  let t := d.clk.relockRef + tickDelay
  let least : Int := 120000 * 65536
  if t ≥ least then t else t + (least - t + (frameTime - 1)) / frameTime * frameTime

/-- The end of the holdover timer's present period (R33, R36, R48); `since`, used at the first TICK only, is when the timer started. -/
def Dev.hoEnd (d : Dev) (since : Nat) : Int := (if d.clk.first then (since : Int) else d.clk.hoAt) + d.hoPeriod.1

/-- The ideal instant of a TICK of source src (R30, R32, R33, R37). -/
def Dev.tickIdeal (d : Dev) (src since : Nat) : Int :=
  if src == 3 then d.hoEnd since
  else if src == 1 && d.clk.relock then d.stepInstant
  else d.tickRef + tickDelay

/-- The clock's bookkeeping at a TICK whose edge comes `gone` after the one before and `lag` after its ideal instant: the holdover timer
restarts at a LOCKED or FLYWHEEL TICK, with its first REFCLK edge at a free place within one cycle (R33), and instants are counted from this
TICK's edge. A frame that Watch does not sample passes unchecked, and the next one's place moves on (R30, R424). -/
def Dev.tickRebase (d : Dev) (src : Nat) (gone lag : Int) : Dev :=
  let ref := d.tickRef
  let d := if d.watchOwns && d.clk.ref.isNone then { d with clk := { d.clk with expPos := (d.clk.expPos + 960) % 1024 } } else d
  if src == 3 then
    let p := d.hoPeriod
    { p.2 with clk := { p.2.clk with
      ref := none, refAgo := gone - ref, relockRef := d.clk.relockRef - gone, hoN := (d.clk.hoN + 1) % 500, hoAt := -lag } }
  else
    let r := d.draw
    { r.2 with clk := { d.clk with
      ref := none, refAgo := lag + tickDelay, relockRef := d.clk.relockRef - gone, hoN := 0, hoSlip := 0,
      hoAt := (r.1 % d.hoCycle : Nat) } }

/-- A lag of the TICK edge, in 2^-12 ns, below one core cycle at the present point (R30). -/
def Dev.lagOk (d : Dev) (lag : Nat) : Bool := lag * cycles2 (d.f F.PWR_DVFS_STAT_FPOINT) < 1024000000

/-- The CKX registers of a TICK with source `src`, ideal instant and lag (R31, R37, R38). -/
def Dev.tickLatch (d : Dev) (src ideal lag : Nat) (stepped : Bool) : Dev :=
  let sfc := d.clk.sfc
  let d := ((d.set F.CKX_TICK_STAT_SRC src).setB F.CKX_TICK_STAT_STEPPED stepped).set F.CKX_TICK_STAT_LAG lag
  let d := (if src == 1 then d.set F.CKX_TICK_STAT_SYNC_POS d.ds.syncPos else d).set F.CKX_TICK_STAT_SFC_LOW sfc
  let d := ((d.set F.CKX_TICK_TIME_LO_FRAC ideal).set F.CKX_TICK_TIME_LO_NS (ideal % second / 65536)).set F.CKX_TICK_TIME_LO_SEQ sfc
  let d := (d.set F.CKX_TICK_TIME_HI_SEC (ideal / second)).set F.CKX_TICK_TIME_HI_SEQ sfc
  let d := if src == 2 then d.count F.CKX_TICK_CNT_FLYWHEEL_CNT else d
  let d := if src == 3 then d.count F.CKX_TICK_CNT_HOLDOVER_CNT else d
  if stepped then d.count F.CKX_TICK_CNT_STEP_CNT else d

/-- Of n cycles, those in which the management processor was active as Curator and as Docent (event 14h of R471), which the spec
does not give: free values, drawn where a running counter is set to them. -/
def Dev.procCycles (d : Dev) (n : Nat) : Dev :=
  if (List.range 8).all (fun k => !(bit (d.f F.OBS_PMC_RUN_RUN) k && d.f F.OBS_PMC_CFG_EVENT k == 0x14)) then d
  else
    let a := d.draw
    let b := a.2.draw
    let c := a.1 % (n + 1)
    (b.2.pmc 0x14 c { priv := some 0 }).pmc 0x14 (b.1 % (n + 1 - c)) { priv := some 1 }

/-- Core clock edges since the last TICK: the cycle counter, an activity event of kind 0 per edge and powered domain, and events 00h
and 14h of the performance counters (R237, R470, R471). -/
def Dev.coreEdges (d : Dev) (n : Nat) : Dev :=
  if n == 0 then d
  else
    (((d.set F.OBS_CYCLE_CYCLE (d.cycle + n)).act 0 (n * ((List.range 32).filter (fun k => d.on (k + 1))).length)).pmc 0 n).procCycles n

/-- The frames whose TICK this is, or was to come before it: they no longer wait, and have its key slots; the newest has its count, and an
older one, whose TICK a relock step withheld (R37), the count before (R38, R88). -/
def ticked (sfc : Nat) (keys : List (Bool × Nat)) : List RxFrame → List RxFrame
  | [] => []
  | f :: t =>
    (if f.waits then { f with waits := false, keys := keys, sfc := (sfc + 2 ^ 51 - t.length) % 2 ^ 51 } else f) :: ticked sfc keys t

/-- Key slots as fragments will use them (R88), the filter open with PD11 (R24), reassemblies a tick older (R93). -/
def Dev.dsTick (d : Dev) : Dev :=
  let d := if d.ds.bcastDue then d.set F.TDS_KEYSTAT_SLOT3_VALID 1 else d
  let keys := [F.TDS_KEYSTAT_SLOT1_VALID, F.TDS_KEYSTAT_SLOT2_VALID, F.TDS_KEYSTAT_SLOT3_VALID].zipIdx.map (fun (p : Fld × Nat) =>
    (d.b p.1, d.ds.keys.getD p.2 0))
  { d with ds := { d.ds with
    frameOk := false
    ticking := false
    frames := ticked d.clk.sfc keys d.ds.frames
    keysNow := keys
    bcastDue := false
    filterOpen := d.on 11
    hdrFresh := false
    hdrJudged := false
    storeFullRaised := false
    rsm := d.ds.rsm.map (fun p => (p.1, { p.2 with age := p.2.age + 1 })) } }

/-- The effort loop and the slice schedule at every TICK (R69, R73). -/
def Dev.decoderTick (d : Dev) : Dev :=
  let d := d.effortTick (d.f F.PWR_POND_LVL_STATE != 0)
  (d.set F.TDS_EFFORT_SLICES d.sliceCount).assign

/-- The upstream side: a HOLDOVER tick purges (R39, R124), and the page latches (R99). -/
def Dev.upstreamTick (d : Dev) (src : Nat) : Dev :=
  let d := { d with us := { d.us with
    holdover := src == 3, lineRef := d.us.lineRef + 12500000, discardRaised := false } }
  if !d.on 9 then d else (if src == 3 then d.purge else d).usLatch

/-- What happens at most once per tick may happen again. -/
def Dev.onceTick (d : Dev) : Dev :=
  { d with
    pwr := { d.pwr with dropRaised := false, eccRaised := false }
    fw := { d.fw with discardRaised := false } }

/-- The local superframe count of a TICK: 0 at the first, else one more (R36, R38). -/
def Dev.nextSfc (d : Dev) : Nat := if d.clk.first then 0 else (d.clk.sfc + 1) % 2 ^ 51

/-- What a TICK counts before it latches: a set of profiles fully held is filed, instants are counted from this edge, the `cyc` core edges
and the time since the TICK before pass, the activity of kind 14 in the tick is a free value (log entry 3), and the local superframe count
moves on. -/
def Dev.tickCounted (d : Dev) (cyc src : Nat) (stepped : Bool) (gone late : Int) : Dev :=
  let d := ((((d.profDone).tickRebase src gone late).coreEdges cyc).timeTick gone.toNat).onceTick
  let r := d.draw
  let d := r.2.act 14 r.1
  { d with clk := { d.clk with
    sfc := d.nextSfc, ticks := d.clk.ticks + 1, first := false, relock := d.clk.relock && !stepped } }

/-- A TICK latches its registers with the ideal instant, and the rate of the time counter follows. -/
def Dev.tickLatched (d : Dev) (lag src : Nat) (stepped : Bool) (ideal : Nat) : Dev :=
  let e := (d.tickLatch src ideal lag stepped).rateTick src ideal d.tickTime
  { e with pwr := { e.pwr with coarse := e.term.time } }

/-- The duties of a TICK in the order of R41. -/
def Dev.tickDuties (d : Dev) (src ideal : Nat) (sens : List (Option Int)) : Dev :=
  let d := d.pondForce.stgApply.twinTick.dsTick.decoderTick
  let d := (d.vitTick d.clk.sfc src ideal (d.b F.TST_TOD_STAT_VALID)).seqTick.termTick.upstreamTick src
  let d := if d.on 26 then d.refill else d
  (d.slcTick.thermTick sens).pondAdvance.profRetry.docentDrain.adminTick.docentReqTick.governor.watchTick.bwTick

/-- A TICK, `cyc` core edges not yet counted after the last, its edge `lag` (in 2^-12 ns) behind the ideal instant, with the sensors'
readings; `dt` is when, after the last TICK or reset, the core switched to the PLL, and is used at the first TICK only (R30 to R41). None is
raised on FIO (R46). -/
def Dev.tick (cyc dt lag : Nat) (sens : List (Option Int)) (d : Dev) : Dev :=
  let src := d.tickSource
  let stepped := src == 1 && d.clk.relock
  let late : Int := (lag * 16 : Nat)
  let gone := d.tickIdeal src dt + late
  if !d.onPll || d.inStill || d.inOff || !d.lagOk lag || gone ≤ 0 then d
  else
    let d := d.tickCounted cyc src stepped gone late
    let ideal := shiftTime d.term.time (-late)
    (d.tickLatched lag src stepped ideal).tickDuties src ideal sens

def execTick (cyc dt lag : Nat) (sens : List (Option Int)) (s : State) : Host.Outcome State Fault Refusal :=
  s.run (Dev.tick cyc dt lag sens)

/-- The block while no command waits: one core clock edge, unless the core is stopped in Still or Off. -/
def Dev.idle (d : Dev) : Dev := if d.inStill || d.inOff then d else d.coreEdges 1

end Sys2Proof.Machine
end

