-- ==== Sys2Proof/Machine/Bus.lean ====
section
/-! DEFINITION. The register target (R475, R508, R509, R518 to R523): a write or a read of any register by its offset, what
registers show that is not stored in them, and a fabric request without an answer (R505). -/

namespace Sys2Proof.Machine

/-! A fabric request that is never answered (R505). -/

/-- The answer FAULT to the request of a kind. -/
def Dev.faultAnswer (k : FabKind) (d : Dev) : Dev :=
  match k with
  | .eventRecord q idx => Dev.evDone q idx .fault d
  | .traceRecord seq => Dev.trcDone seq .fault d
  | .spillWrite c n => Dev.spillWritten c n .fault d
  | .spillRead c => Dev.fetched c .fault d
  | .wqFetch q => Dev.wqFetched q [] .fault d
  | .sendData q idx => Dev.sendRead q idx [] .fault d
  | .completion q idx => Dev.cqWritten q idx .fault d
  | .ringHeader n => Dev.headerWritten n .fault d
  | .hostIdx q => Dev.hostIdxDone q 0 .fault d
  | .rxData q idx => Dev.rxWritten q idx .fault d
  | .slcRead c b => Dev.slcReadDone c b [] [.fault] d
  | .slcWrite c b => Dev.slcWriteDone c b .fault 0 d
  | .image => Dev.imgDone [] .fault d

/-- No answer within 1 ms: taken as FAULT; the tags stay in use until the late answer comes, which is discarded (R505). While crossing 6
is not up nothing is taken as its answer (log entry 13). -/
def Dev.acfTimeout (k : FabKind) (d : Dev) : Dev :=
  match d.outstanding k with
  | none => d
  | some r => Dev.faultAnswer k { d with fab := { d.fab with late := d.fab.late ++ [(k, r.bursts)] } }

def execAcfTimeout (kind : FabKind) (s : State) : Host.Outcome State Fault Refusal := s.run (Dev.acfTimeout kind)

/-! Writes. -/

/-- Registers without a meaning of their own that only Curator writes (R521, flag C). -/
def curatorRegs : List Fld := [F.PWR_POND_COEF_PJ, F.PWR_POND_STATIC_NJ, F.SEQ_PATCH_ID_VER, F.SEQ_PATCH_ADDR_WORD]

/-- OBS_CTL: CURATOR_VIS is Curator's (R473). -/
def Dev.writeObsCtl (w : RegWr) (d : Dev) : Dev :=
  let d := d.put F.OBS_CTL_UACC w
  if w.agent == .curator then d.put F.OBS_CTL_CURATOR_VIS w else d

/-- OBS_SNAP_STAT: REFUSED of the writer's bank (R468). -/
def Dev.writeSnapStat (w : RegWr) (d : Dev) : Dev :=
  if w.fld F.OBS_SNAP_STAT_REFUSED == 1 then
    { d with obs := { d.obs with snapRefused := d.obs.snapRefused.set (snapBank w.agent) false } }
  else d

/-- A register of the table: a field that stands in it, and what a write of it does, given its indices. -/
abbrev WrEntry := Fld × (Nat → Nat → RegWr → Dev → Dev)

/-- Registers of chapters 02 to 05 and 16 whose writes have a meaning of their own. -/
def wrFront : List WrEntry :=
  [(F.CKX_CORE_CTL_SRC, fun _ _ w d => Dev.writeCoreCtl w d),
   (F.PWR_STATE_CTL_REQ, fun _ _ w d => Dev.writeStateCtl w d),
   (F.PWR_DVFS_CTL_FPOINT, fun _ _ w d => Dev.writeDvfsCtl w d),
   (F.PWR_AVS_CTL_EN, fun _ _ w d => Dev.writeAvsCtl w d),
   (F.PWR_REG_LOAD, fun _ _ w d => Dev.writePwrReg w d),
   (F.PWR_WATCH_CTL_WLEAD, fun _ _ w d => Dev.writeWatchCtl w d),
   (F.PWR_WAKE_CFG_EN, fun _ _ w d => Dev.writeWakeCfg w d),
   (F.PWR_HVOTE_VOTE, fun _ _ w d => Dev.writeHvote w d),
   (F.PWR_CVOTE_VOTE, fun _ _ w d => Dev.writeCvote w d),
   (F.PWR_DOM_RET, fun k _ w d => Dev.writeDom k w d),
   (F.PWR_POND_CFG_BUDGET, fun _ _ w d => Dev.writePondCfg w d),
   (F.PWR_POND_THERM_T_SOFT, fun _ _ w d => Dev.writePondTherm w d),
   (F.TDS_CTL_RX_EN, fun _ _ w d => Dev.writeTdsCtl w d),
   (F.TDS_FLT_FTAG, fun n _ w d => Dev.writeFlt n w d),
   (F.TUS_CTL_GATE, fun _ _ w d => Dev.writeTusCtl w d),
   (F.TUS_TXEN_LEAD, fun _ _ w d => Dev.writeTxen w d),
   (F.TUS_SEQSEL_PSEQ, fun _ _ w d => Dev.writeSeqSel w d),
   (F.TUS_ALLOC_ALLOC_ID, fun n _ w d => Dev.writeAlloc n w d),
   (F.TST_CTL_ACTIVATE, fun _ _ w d => Dev.writeTstCtl w d),
   (F.TST_CMD_CMD, fun _ _ w d => Dev.writeTstCmd w d),
   (F.TST_SLEEP_REQ, fun _ _ w d => Dev.writeTstSleep w d),
   (F.TST_TOD_RATE_RATE_ADJ, fun _ _ w d => Dev.writeTodRate w d),
   (F.TST_TIME_ADJ_ADJ, fun _ _ w d => Dev.writeTimeAdj w d),
   (F.TST_PPS_CTL_OUT_EN, fun _ _ w d => Dev.writePpsCtl w d)]

/-- Those of chapters 06 to 11. -/
def wrMiddle : List WrEntry :=
  [(F.CLS_UPD_CMD_OP, fun _ _ w d => Dev.writeUpdCmd w d),
   (F.CLS_POL_RATE, fun n _ w d => Dev.writePol n w d),
   (F.UPM_CFG_EN, fun n _ w d => Dev.writeUpmCfg n w d),
   (F.UPM_FC_THR_XOFF_THR, fun n _ w d => Dev.writeFcThr n w d),
   (F.UPM_PRE_CFG_PRE_EN, fun n _ w d => Dev.writePreCfg n w d),
   (F.UPM_EEE_CFG_EEE_EN, fun n _ w d => Dev.writeEee n w d),
   (F.QSC_FLUSH_CTX, fun _ _ w d => Dev.writeFlush w d),
   (F.QSC_POOL_CFG_EN, fun k _ w d => Dev.writePoolCfg k w d),
   (F.QSC_POOL_SIZE_NSEG, fun k _ w d => Dev.writePoolSize k w d),
   (F.QSC_FC_CFG_EN, fun c _ w d => Dev.writeFcCfg c w d),
   (F.HRG_QCTX_CMD_OP, fun _ _ w d => Dev.writeQctx w d),
   (F.HRG_QCTX_BASE_BASE, fun _ _ w d => Dev.writeQctxAddr 0x100088 w d),
   (F.HRG_QCTX_HDR_HDR, fun _ _ w d => Dev.writeQctxAddr 0x100090 w d),
   (F.SLC_CH_CFG_MODE, fun c _ w d => Dev.writeSlcCfg c false w d),
   (F.SLC_CH_PROG_BASE, fun c _ w d => Dev.writeSlcCfg c true w d),
   (F.SLC_CH_CMD_GO, fun c _ w d => Dev.writeSlcCmd c w d),
   (F.SLC_CH_STAT_STATUS, fun c _ _ d => d.slcWired c id),
   (F.SLC_CH_PC_PC, fun c _ _ d => d.slcWired c id),
   (F.SLC_CH_LOOP_REMAINING, fun c _ _ d => d.slcWired c id),
   (F.SLC_CH_MARKS_HALF_CNT, fun c _ _ d => d.slcWired c id),
   (F.SLC_CH_OCT_OCTETS, fun c _ _ d => d.slcWired c id),
   (F.SLC_FLAGS_FLAGS, fun c _ _ d => d.slcWired c id),
   (F.SLC_FLAG_SET_CH, fun _ _ w d => Dev.writeFlagSet w d),
   (F.SLC_FLAG_CLR_CH, fun _ _ w d => Dev.writeFlagClr w d),
   (F.SLC_REFUSE_REFUSED, fun _ _ w d => Dev.writeSlcRefuse w d),
   (F.EVQ_Q_CFG_EN, fun q _ w d => Dev.writeEvqCfg q w d),
   (F.EVQ_Q_BASE_BASE, fun q _ w d => Dev.writeEvqBase q w d),
   (F.EVQ_Q_CI_CI, fun q _ w d => Dev.writeEvqCi q w d),
   (F.EVQ_Q_STAT_FAULT, fun q _ w d => Dev.writeEvqStat q w d),
   (F.EVQ_SWSRC_STATE, fun _ _ w d => Dev.writeEvqSwsrc w d),
   (F.EVQ_SRC_EN, fun n _ w d => Dev.writeEvqSrc n w d)]

/-- Those of chapters 12 to 18. -/
def wrBack : List WrEntry :=
  [(F.SEQ_CTL_RESTART, fun _ _ w d => Dev.writeSeqCtl w d),
   (F.SEQ_PATCH_DATA_DATA, fun i _ w d => Dev.writePatchData i w d),
   (F.SEQ_MATCH_EN, fun m _ w d => Dev.writeMatch m w d),
   (F.MBX_AREA_DATA, fun n k w d => Dev.writeMbArea n k w d),
   (F.MBX_DB_SEQ, fun n _ w d => Dev.writeMbDb n w d),
   (F.MBX_WDOG_KICK, fun _ _ w d => Dev.writeWdog w d),
   (F.STG_SEL_SET, fun _ _ w d => Dev.writeStgSel w d),
   (F.STG_CMD_OP, fun s _ w d => Dev.writeStgCmd s w d),
   (F.STG_APPLY_FRAME, fun s _ w d => Dev.writeStgApply s w d),
   (F.TWN_CTL_EN, fun _ _ w d => Dev.writeTwnCtl w d),
   (F.TWN_CMD_OP, fun _ _ w d => Dev.writeTwnCmd w d),
   (F.OBS_CTL_UACC, fun _ _ w d => Dev.writeObsCtl w d),
   (F.OBS_PMC_RUN_RUN, fun _ _ w d => Dev.writePmcRun w d),
   (F.OBS_PMC_CFG_EVENT, fun k _ w d => Dev.writePmcCfg k w d),
   (F.OBS_PMC_CNT_COUNT, fun k _ w d => Dev.writePmcCnt k w d),
   (F.OBS_TRC_CFG_EN, fun _ _ w d => Dev.writeTrcCfg w d),
   (F.OBS_TRC_BASE_BASE, fun _ _ w d => Dev.writeTrcBase w d),
   (F.OBS_TRC_CI_IDX, fun _ _ w d => Dev.writeTrcCi w d),
   (F.OBS_TRC_STAT_FAULT, fun _ _ w d => Dev.writeTrcStat w d),
   (F.OBS_TRC_SEED_SEED, fun _ _ w d => Dev.writeTrcSeed w d),
   (F.OBS_BW_CFG_EN, fun _ _ w d => Dev.writeBwCfg w d),
   (F.OBS_SNAP_CMD_GO, fun _ _ w d => Dev.writeSnapCmd w d),
   (F.OBS_SNAP_STAT_REFUSED, fun _ _ w d => Dev.writeSnapStat w d)]

/-- The meaning of a write of the register at an offset, where it has one of its own. -/
def wrAt (off : Nat) : Option (RegWr → Dev → Dev) :=
  ((wrFront ++ wrMiddle ++ wrBack).filterMap (fun p => (p.1.at? off).map (fun ij => p.2 ij.1 ij.2))).head?

/-- A write by access code: staged or direct (R361), with the mirrored fields of a sink standing (R454), and refused to others
where the register is Curator's (R521). -/
def Dev.writeByCode (off : Nat) (w : RegWr) (d : Dev) : Dev :=
  if curatorRegs.any (fun x => (x.at? off).isSome) && w.agent != .curator then d
  else
    let direct := fun (w : RegWr) (d : Dev) => d.mirWrite off w (fun w d => d.putAll (fldsAt off) w)
    if stMask off == 0 then direct w d else d.stWrite off w direct

/-- The effect of a register write behind the gates. -/
def Dev.writeReg (off : Nat) (w : RegWr) (d : Dev) : Dev :=
  match wrAt off with
  | some g => g w d
  | none => d.writeByCode off w

/-- An access to an offset that holds no register (R508, R518). -/
def Dev.hole (d : Dev) (a : Agent) (off : Nat) : Dev :=
  if !d.reach a then d else if d.asleep then d.stub else (if d.denied a then d.respond .deny else d.respond .done 0).accessed d a off

/-- A write in a doorbell page (R523). -/
def Dev.pageWrite (f o : Nat) (w : RegWr) (d : Dev) : Dev :=
  if o == 0 then Dev.doorbellRow f 0 w d
  else if o == 8 then Dev.doorbellRow f 1 w d
  else if o == 0x10 then Dev.doorbellRow f 2 w d
  else if o == 0x18 then Dev.doorbellRow f 3 w d
  else if o == 0xF0 then Dev.funcRstRow f w d
  else d.hole w.agent (0x110000 + 0x1000 * f + o)

/-- Offsets that the register target carries (R508). -/
def busOffset (off : Nat) : Bool := off % 8 == 0 && off < 0x400000

/-- A register write at an offset. -/
def Dev.busWrite (off : Nat) (w : RegWr) (d : Dev) : Dev :=
  if !busOffset off then d
  else if 0x110000 ≤ off && off < 0x114000 then Dev.pageWrite ((off - 0x110000) / 0x1000) (off % 0x1000) w d
  else if (fldsAt off).isEmpty then d.hole w.agent off
  else d.gated off w (Dev.writeReg off w)

def execRegisterWrite (off : Nat) (w : RegWr) (s : State) : Host.Outcome State Fault Refusal := s.run (Dev.busWrite off w)

/-! Reads. -/

/-- A register of the table of views: a field that stands in it, and its whole word. -/
abbrev RdEntry := Fld × (Agent → Nat → Nat → Dev → Nat)

/-- A field's value in place. -/
def Fld.place (x : Fld) (v : Nat) : Nat := v % 2 ^ x.w * 2 ^ x.lo

/-- A stored word with some fields that follow from the rest of the state: those are stored as zero. -/
def Dev.wordWith (d : Dev) (off : Nat) (l : List (Fld × Nat)) : Nat :=
  l.foldl (fun a p => (a &&& (2 ^ 64 - 1 - p.1.maskBits)) + p.1.place p.2) (d.stored off)

/-- ID_FW (R519). -/
def Dev.idFw (d : Dev) : Nat :=
  let v := if d.docentRuns then d.f F.MBX_DOCENT_VERSION else 0
  d.wordWith 8 [(F.ID_FW_CUR_PATCH, d.f F.MBX_BOOT_CUR_PATCH_VER), (F.ID_FW_DOC_MINOR, v % 256), (F.ID_FW_DOC_MAJOR, v / 256),
    (F.ID_FW_DOC_RUN, b2n d.docentRuns)]

/-- Entries of TDS_FLT and TUS_ALLOC; entry 0 is fixed but for its flags (R84, R97). -/
def Dev.fltWord (d : Dev) (n : Nat) : Nat :=
  d.wordWith (0x48000 + 8 * n) (if n == 0 then [(F.TDS_FLT_FTAG, 0xFFF0), (F.TDS_FLT_VALID, 1), (F.TDS_FLT_BCAST, 0)] else [])
def Dev.allocWord (d : Dev) (n : Nat) : Nat :=
  d.wordWith (0x51000 + 8 * n)
    (if n == 0 then [(F.TUS_ALLOC_ALLOC_ID, d.f F.TST_ID_TID), (F.TUS_ALLOC_VALID, d.f F.TST_ID_VALID)] else [])

/-- QSC_FC_STAT[c]. -/
def Dev.fcWord (d : Dev) (c : Nat) : Nat :=
  let x := d.ctx c
  d.wordWith (0xD8000 + 8 * c) [(F.QSC_FC_STAT_CELLS, x.cells), (F.QSC_FC_STAT_CHAIN, b2n x.chain),
    (F.QSC_FC_STAT_REM, b2n x.rem.isSome), (F.QSC_FC_STAT_SPILL_FRAMES, x.spilled.length)]

/-- HRG_OVF_STAT. -/
def Dev.ovfWord (d : Dev) : Nat :=
  d.wordWith 0x100040 [(F.HRG_OVF_STAT_USED, d.storeUsed),
    (F.HRG_OVF_STAT_CQS, d.hrg.cq.countP (fun p => p.2.sres + p.2.stored.length != 0)),
    (F.HRG_OVF_STAT_FULL, b2n (d.storeUsed ≥ 2048))]

/-- EVQ_SRC[s]. -/
def Dev.srcWord (d : Dev) (s : Nat) : Nat :=
  d.wordWith (0x158000 + 8 * s) [(F.EVQ_SRC_PENDING, b2n (d.evPending s)), (F.EVQ_SRC_KIND, b2n (srcKind s == 2))]

/-- Records pending: at their sources, or returned (R307, R316). -/
def Dev.evCount (d : Dev) : Nat := d.evq.pend.length + d.evq.issued.countP (fun e => e.st == .returned)

/-- VIT_ID: test access was locked before shipment (R373). -/
def Dev.vitIdWord (d : Dev) : Nat := d.wordWith 0x1C0000 [(F.VIT_ID_VER, Config.vitVer), (F.VIT_ID_TEST_LOCK, 1)]

/-- VIT_LOG_STAT and VIT_BUF_STAT. -/
def Dev.vitLogWord (d : Dev) : Nat :=
  let v := d.vit
  d.wordWith 0x1C0048 [(F.VIT_LOG_STAT_USED, v.log.length), (F.VIT_LOG_STAT_FULL, b2n (v.log.length ≥ 2032)),
    (F.VIT_LOG_STAT_OVF, v.ovf), (F.VIT_LOG_STAT_NEXT_LSEQ, v.lseq)]
def Dev.vitBufWord (d : Dev) : Nat :=
  let v := d.vit
  d.wordWith 0x1C0050 [(F.VIT_BUF_STAT_USED, v.buffer.length), (F.VIT_BUF_STAT_GAP_OPEN, b2n v.gapOpen),
    (F.VIT_BUF_STAT_NEXT_SEQ, v.nextSeq)]

/-- Views of chapters 02 to 08, 16 and 21. -/
def rdFront : List RdEntry :=
  [(F.ID_BLOCK_PART, fun _ _ _ d => d.wordWith 0 [(F.ID_BLOCK_REV_MAJOR, Config.blockRev), (F.ID_BLOCK_REV_MINOR, Config.blockRev / 16),
      (F.ID_BLOCK_SEQ_ROM, Config.romVer), (F.ID_BLOCK_VIT_VER, Config.vitVer)]),
   (F.ID_FW_CUR_MINOR, fun _ _ _ d => d.idFw),
   (F.CKX_CLKMON_PRESENT, fun _ _ _ d => d.wordWith 0x10028 [(F.CKX_CLKMON_PRESENT, 0x3FF - d.clk.stopped % 1024)]),
   (F.PWR_REG_LOAD, fun _ _ _ d => d.wordWith 0x20038 [(F.PWR_REG_LOAD, d.load)]),
   (F.PWR_CVOTE_VOTE, fun _ _ _ d => d.stored 0x20070 ||| (if d.pwr.held then 2 + 2 ^ 32 else 0)),
   (F.PWR_DOM_RET, fun _ k _ d => d.wordWith (0x20100 + 16 * k) (if 14 ≤ k && k ≤ 17 then [] else [(F.PWR_DOM_RET, 0)])),
   (F.TDS_EFFORT_POWERED, fun _ _ _ d => d.wordWith 0x40010
      [(F.TDS_EFFORT_POWERED, b2n (d.accepts 0) + 2 * b2n (d.accepts 1) + 4 * b2n (d.accepts 2) + 8 * b2n (d.accepts 3))]),
   (F.TDS_FLT_FTAG, fun _ n _ d => d.fltWord n),
   (F.TUS_STAT_PHY_SLEEP, fun _ _ _ d => d.wordWith 0x50020 [(F.TUS_STAT_PHY_SLEEP, b2n d.pins.phySleep)]),
   (F.TUS_ALLOC_ALLOC_ID, fun _ n _ d => d.allocWord n),
   (F.TST_TIME_HI_SEC, fun _ _ _ d => d.term.latched / second % 2 ^ 48),
   (F.CLS_ACC_STAT_CUR, fun _ _ _ d => d.wordWith 0x80048 [(F.CLS_ACC_STAT_CUR, d.f F.CLS_ACC_CUR_CUR)]),
   (F.UPM_STAT_LINK, fun _ n _ d => d.wordWith (0xA0008 + 0x4000 * n) [(F.UPM_STAT_LINK, b2n (d.portLink n))]),
   (F.UPM_PRE_STAT_ACTIVE, fun _ n _ d => d.wordWith (0xA0038 + 0x4000 * n)
      [(F.UPM_PRE_STAT_ACTIVE, b2n (d.preActive n)), (F.UPM_PRE_STAT_ASM_BUSY, b2n (d.port n).asm.isSome)]),
   (F.QSC_STAT_FREE_CELLS, fun _ _ _ d => d.wordWith 0xC0008 [(F.QSC_STAT_FREE_CELLS, d.freeCells)]),
   (F.QSC_FC_STAT_CELLS, fun _ c _ d => d.fcWord c),
   (F.QSC_EGR_STAT_CELLS, fun _ n i d => d.wordWith (0xC1100 + 0x40 * n + 8 * i) [(F.QSC_EGR_STAT_CELLS, cellsOf (d.egr n i).frames)])]

/-- Views of chapters 09 to 18. -/
def rdBack : List RdEntry :=
  [(F.HRG_FUNC_STAT_WQS, fun _ f _ d => d.wordWith (0x100000 + 8 * f) [(F.HRG_FUNC_STAT_WQS, d.wqsOf f), (F.HRG_FUNC_STAT_CQS, d.cqsOf f)]),
   (F.HRG_OVF_STAT_USED, fun _ _ _ d => d.ovfWord),
   (F.HRG_WQ_STAT_STATE, fun _ q _ d => d.wqWord q),
   (F.HRG_CQ_STAT_STATE, fun _ q _ d => d.cqWord q),
   (F.SLC_CH_STAT_STATUS, fun _ c _ d => d.slcStat c),
   (F.SLC_CH_PC_PC, fun _ c _ d => d.slcPc c),
   (F.EVQ_Q_STAT_IRQ, fun _ q _ d => d.wordWith (0x150020 + 0x40 * q) [(F.EVQ_Q_STAT_IRQ, b2n (d.irq q))]),
   (F.EVQ_STAT_PENDING, fun _ _ _ d => d.wordWith 0x150200 [(F.EVQ_STAT_PENDING, d.evCount)]),
   (F.EVQ_SRC_PENDING, fun _ s _ d => d.srcWord s),
   (F.SEQ_ID_ROM_VER, fun _ _ _ _ => F.SEQ_ID_ROM_VER.place Config.romVer + F.SEQ_ID_ROM_DIGEST.place Config.romDigest),
   (F.STG_SEL_SET, fun a _ _ d => d.selOf a),
   (F.VIT_ID_VER, fun _ _ _ d => d.vitIdWord),
   (F.VIT_ID_DIGEST_DIGEST, fun _ i _ _ => Config.vitDigest i % 2 ^ 64),
   (F.VIT_LOG_STAT_USED, fun _ _ _ d => d.vitLogWord),
   (F.VIT_BUF_STAT_USED, fun _ _ _ d => d.vitBufWord),
   (F.VIT_IVL_START, fun _ _ _ d => d.vit.ivl.start % 2 ^ 51),
   (F.VIT_TOT_LO_OCT_LO, fun _ t _ d => (d.vit.totals.getD t (0, 0)).1 % 2 ^ 64),
   (F.TWN_STAT_EFF_ROLE, fun _ _ _ d => d.twnStat),
   (F.OBS_SNAP_STAT_VALID, fun a _ _ d => d.snapStat (snapBank a)),
   (F.OBS_SNAP_BUF_DATA, fun a i _ d => ((d.obs.snap.getD (snapBank a) []).getD i 0).toNat)]

/-- The word that the register at an offset shows to an agent. -/
def Dev.shown (d : Dev) (a : Agent) (off : Nat) : Nat :=
  match ((rdFront ++ rdBack).filterMap (fun p => (p.1.at? off).map (fun ij => p.2 a ij.1 ij.2))).head? with
  | some g => g d
  | none => d.stored off

/-- A read of VIT_TOT_LO[t] latches OCT_HI and FRM of the same total. -/
def Dev.totLatch (d : Dev) (t : Nat) : Dev :=
  let p := d.vit.totals.getD t (0, 0)
  (d.setI F.VIT_TOT_HI_OCT_HI t (p.1 / 2 ^ 64)).setI F.VIT_TOT_FRM_FRM t p.2

/-- What a read of the register at an offset does: RC fields clear (R8, R10), companions latch, and the next sample restarts
PEAK of PWR_THERM (R433). -/
def Dev.readEffect (off : Nat) (d : Dev) : Dev :=
  let d := match F.VIT_TOT_LO_OCT_LO.at? off with
    | some (t, _) => d.totLatch t
    | none => d
  let d := match F.PWR_THERM_PEAK.at? off with
    | some (i, _) => { d with pwr := { d.pwr with peakFresh := withBit d.pwr.peakFresh i true } }
    | none => d
  d.clearRc off

/-- A register read, `at'` after the last TICK: the time counter's instant is taken, and the update engine settles. -/
def Dev.readReg (a : Agent) (off at' : Nat) (d : Dev) : Nat × Dev :=
  if off == 0x60058 then Dev.readTimeLo at' d
  else if off == 0x80070 then let d := d.updSettle; (d.shown a off, d)
  else (d.shown a off, d.readEffect off)

/-- A word of the user page (R475). -/
def Dev.userWord (d : Dev) (o : Nat) : Nat :=
  if o == 0 then d.cycle
  else
    let k := o / 8 - 1
    if k < 8 && d.b F.OBS_PMC_CFG_USER k then d.f F.OBS_PMC_CNT_COUNT k else 0

/-- The user page serves privileged agents, and functions with their bit in UACC (R475). -/
def Dev.userServed (d : Dev) (a : Agent) : Bool :=
  match a with | .host f true => bit (d.f F.OBS_CTL_UACC) f.val | _ => true

/-- A read of the user page. -/
def Dev.userRead (a : Agent) (o : Nat) (d : Dev) : Dev :=
  if !d.reach a then d
  else if d.asleep then d.stub
  else (if d.userServed a then d.respond .done (d.userWord o) else d.respond .deny).accessed d a (0x1FF000 + o)

/-- A register read at an offset, `at'` after the last TICK. -/
def Dev.busRead (a : Agent) (off at' : Nat) (d : Dev) : Dev :=
  if !busOffset off then d
  else if 0x1FF000 ≤ off && off < 0x200000 then Dev.userRead a (off - 0x1FF000) d
  else if (fldsAt off).isEmpty then d.hole a off
  else d.gatedRead a off (Dev.readReg a off at')

def execRegisterRead (a : Agent) (off at' : Nat) (s : State) : Host.Outcome State Fault Refusal := s.run (Dev.busRead a off at')

end Sys2Proof.Machine
end

