-- ==== Sys2Proof/Machine/Micro.lean ====
section
/-! DEFINITION. The microwords of the frame sequencer (R327 to R334): fetch and match, the fields of a word and what they do, the post
buffer, commits, faults; and the stretches of its per-frame routine. -/

namespace Sys2Proof.Machine

/-! Fields of a microword (R330). -/

def uwOp (w : Nat) : Nat := bits w 138 6
def uwCond (w : Nat) : Nat := bits w 134 4
def uwCommit (w : Nat) : Bool := bit w 133
def uwWait (w : Nat) : Bool := bit w 132
def uwWaitSel (w : Nat) : Nat := bits w 126 6
def uwDst (w : Nat) : Nat := bits w 120 6
def uwSrcA (w : Nat) : Nat := bits w 114 6
def uwSrcB (w : Nat) : Nat := bits w 108 6
def uwImm (w : Nat) : Nat := bits w 90 18
def uwMode (w : Nat) : Nat := bits w 87 3
def uwTarget (w : Nat) : Nat := bits w 72 13
def uwIoAddr (w : Nat) : Nat := bits w 54 18
def uwIoOp (w : Nat) : Nat := bits w 51 3
def uwLane (w : Nat) : Nat := bits w 49 2
def uwData (w : Nat) : Nat := bits w 43 6
def uwAssist (w : Nat) : Nat := bits w 36 7
def uwSAddr (w : Nat) : Nat := bits w 18 12
def uwDuty (w : Nat) : Nat := bits w 12 6

/-! Fetch (R327, R328, R333). -/

/-- The match register that holds ROM address a: the lowest-numbered enabled one (R328). -/
def Dev.seqMatch (d : Dev) (a : Nat) : Option Nat :=
  (List.range 32).find? (fun m => d.b F.SEQ_MATCH_EN m && d.f F.SEQ_MATCH_ADDR m == a)

/-- A fetch: the address it comes from, the match register that redirected it, and the word; none for an unassigned address. -/
structure SeqFetch where
  at' : Nat
  via : Option Nat := none
  word : Option Nat
  deriving DecidableEq, Repr

/-- The fetch from address a (R327, R328). -/
def Dev.seqFetch (d : Dev) (a : Nat) : SeqFetch :=
  let patch := fun p => SMap.getD d.seq.patch p 0 % 2 ^ 144
  if a < 0x1000 then
    match d.seqMatch a with
    | some m => { at' := 0x1000 + d.f F.SEQ_MATCH_PADDR m, via := some m, word := some (patch (d.f F.SEQ_MATCH_PADDR m)) }
    | none => { at' := a, word := some (Config.seqRom a % 2 ^ 144) }
  else if a < 0x1200 then { at' := a, word := some (patch (a - 0x1000)) }
  else { at' := a, word := none }

/-! Execution. -/

/-- A WAITSEL condition: 00h a header has been judged, 01h the filer is done, 02h the message buffer is not empty (R330). -/
def Dev.seqWaitMet (d : Dev) (sel : Nat) : Bool :=
  if sel == 0 then d.ds.hdrJudged else if sel == 1 then d.seq.filer == some 0 else !d.ds.seqMsgs.isEmpty

/-- A BAD_OP fault (R330): a reserved code, a call beyond eight levels, or a return with the stack empty. -/
def Dev.seqBadOp (d : Dev) (w : Nat) : Bool :=
  let op := uwOp w
  (0x24 ≤ op && op ≤ 0x27) || (0x2C ≤ op && op ≤ 0x2F) || op > 0x30 || (uwWait w && uwWaitSel w ≥ 3) ||
    uwMode w == 7 || uwIoOp w ≥ 6 || (uwMode w == 3 && d.seq.stack.length ≥ 9) || (uwMode w == 4 && d.seq.stack.length ≤ 1)

/-- Set Gk. -/
def Dev.seqSetG (d : Dev) (k v : Nat) : Dev := { d with seq := { d.seq with regs := d.seq.regs.put (k % 64) (v % 2 ^ 18) } }

/-- The first source, and the second: G63 reads IMM (R330). -/
def Dev.seqA (d : Dev) (w : Nat) : Nat := d.seqG (uwSrcA w)
def Dev.seqB (d : Dev) (w : Nat) : Nat := if uwSrcB w == 63 then uwImm w else d.seqG (uwSrcB w)

/-- The operation of a word: its result, which Z and N test, and the device. An operation without a result leaves a free one. -/
def Dev.seqAlu (d : Dev) (w : Nat) : Nat × Dev :=
  let op := uwOp w
  let a := d.seqA w
  let b := d.seqB w
  if op < 0x20 then
    let v := Config.seqAlu op a b d.seqCarry
    let d := { d with seq := { d.seq with carry := some (bit v 18) } }
    (v % 2 ^ 18, if bit v 19 then d.seqSetG (uwDst w) v else d)
  else if op < 0x24 then
    let v := Config.seqMul op a b % 2 ^ 36
    (v % 2 ^ 18, (d.seqSetG (uwDst w) v).seqSetG (uwDst w + 1) (v / 2 ^ 18))
  else if op < 0x30 && !Config.seqStores op then
    let v := d.seqScratch (uwSAddr w)
    (v, d.seqSetG (uwDst w) v)
  else
    let r := d.draw
    let d := r.2
    (r.1 % 2 ^ 18, if op < 0x30 then { d with seq := { d.seq with scratch := d.seq.scratch.put (uwSAddr w) a } } else d)

/-- The condition of a NEXT (R330), in the order in which R330 lists them. -/
def Dev.seqCondMet (d : Dev) (w res : Nat) : Bool :=
  let k := Config.seqCond (uwCond w) % 8
  if k == 0 then true
  else if k == 1 then res == 0
  else if k == 2 then res != 0
  else if k == 3 then d.seqCarry
  else if k == 4 then !d.seqCarry
  else if k == 5 then bit res 17
  else if k == 6 then !bit res 17
  else d.seqWaitMet (uwWaitSel w)

/-- Width of a lane of the latch, and its place. -/
def laneWidth (k : Nat) : Nat := if k == 3 then 10 else 18

/-- A block register, read at once (R330). -/
def Dev.seqRead (d : Dev) (off : Nat) : Nat × Dev :=
  if (fldsAt off).isEmpty || !d.on (domainOf off) then (0, d)
  else Dev.readReg .sequencer off (d.seq.cycles * 16384000000 / cycles2 (d.f F.PWR_DVFS_STAT_FPOINT)) d

/-- Whether the word adds to the post buffer, and what (R330). -/
def Dev.seqPosts (d : Dev) (w : Nat) : Option SeqPost :=
  if uwIoOp w == 4 then some (.write (8 * uwIoAddr w) d.seqLatch)
  else if uwIoOp w == 5 && Config.seqAssist (uwAssist w) % 4 != 0 then
    some (.assist (Config.seqAssist (uwAssist w) % 4) (8 * uwIoAddr w) d.seqLatch)
  else none

/-- The latch's part of a word (R330), and the start of the grant filer, which matches four grants of the map per cycle. -/
def Dev.seqIo (d : Dev) (w : Nat) : Dev :=
  let lo := 18 * uwLane w
  let n := laneWidth (uwLane w)
  if uwIoOp w == 1 then
    let r := d.seqRead (8 * uwIoAddr w)
    { r.2 with seq := { r.2.seq with latch := some (r.1 % 2 ^ 64) } }
  else if uwIoOp w == 2 then d.seqSetG (uwData w) (bits d.seqLatch lo n)
  else if uwIoOp w == 3 then
    let v := d.seqLatch - bits d.seqLatch lo n * 2 ^ lo + d.seqG (uwData w) % 2 ^ n * 2 ^ lo
    { d with seq := { d.seq with latch := some v } }
  else if uwIoOp w == 5 && Config.seqAssist (uwAssist w) % 4 == 0 then
    { d with seq := { d.seq with filer := some ((d.ds.grants.length + 3) / 4) } }
  else d

/-- One posting takes effect (R11, R330): a register write; a draw of the discovery generator; a push of a message to the upstream queue,
whose fields the spec does not give; a staged write of the latch, whose apply frame it does not give. -/
def Dev.seqRelease (d : Dev) (p : SeqPost) : Dev :=
  match p with
  | .write off v =>
    if (fldsAt off).isEmpty || !d.on (domainOf off) then d
    else Dev.writeReg off { agent := .sequencer, mask := 255, data := BitVec.ofNat 64 v } d
  | .assist 1 _ _ => { d with term := { d.term with lfsr := (lfsrBits d.term.lfsr 19).2 } }
  | .assist 2 _ _ =>
    let r := d.draw
    let m := r.2.newMsg (r.1 % 16) (r.1 / 16 % 256) (r.1 / 4096 % 16)
    m.2.pushSeq m.1
  | .assist _ off v =>
    let r := d.draw
    r.2.stgAssist [(off, ⟨2 ^ 64 - 1, v⟩)] (r.1 % 2 ^ 51)

/-- COMMIT (R331): the post buffer is released in posting order, the routine has committed, and the filing routine's page is ready. -/
def Dev.seqCommit (d : Dev) (w : Nat) : Dev :=
  let l := d.seq.post
  let d := { d with seq := { d.seq with
    post := [], stack := match d.seq.stack with | r :: up => { r with committed := true } :: up | [] => [] } }
  let d := l.foldl Dev.seqRelease d
  if uwDuty w == 1 && d.seq.filer == some 0 then d.seqFiled else d

/-- NEXT of a word at address a (R330). -/
def Dev.seqNext (d : Dev) (w a x res : Nat) : Dev :=
  let go := fun (d : Dev) p => { d with seq := { d.seq with pc := p % 2 ^ 13 } }
  if uwMode w == 1 then go d (uwTarget w)
  else if uwMode w == 2 then go d (if d.seqCondMet w res then uwTarget w else a + 1)
  else if uwMode w == 3 then
    go { d with seq := { d.seq with stack := { ret := (a + 1) % 2 ^ 13, entry := uwTarget w } :: d.seq.stack } } (uwTarget w)
  else if uwMode w == 4 then d.seqReturn
  else if uwMode w == 5 then go d (uwTarget w + x % 16)
  else if uwMode w == 6 then d.seqOver 3
  else go d (a + 1)

/-- A scratch word is loaded by this word, and the upset it meets. -/
def seqLoads (w : Nat) : Bool := 0x28 ≤ uwOp w && uwOp w ≤ 0x2B && !Config.seqStores (uwOp w)

/-- A word is issued from address a (R330, R331, R334): its operation and latch work, its posting, its commit, its NEXT. A fault leaves the
rest undone, but for a commit of the same word, which takes effect first. -/
def Dev.seqIssue (d : Dev) (w a : Nat) (up : SeqUpset) : Dev :=
  let d := (((d.set F.SEQ_STAT_STATE 1).set F.SEQ_STAT_PC a).set F.SEQ_STAT_DUTY (uwDuty w)).pmc 0x15 1
  let committed := fun (d : Dev) => if uwCommit w then d.seqCommit w else d
  let nx := (a + 1) % 2 ^ 13
  if d.seqBadOp w then (committed d).seqAbandon false nx
  else if seqLoads w && up == .scratchLost then (committed (d.eccUncorr 8 (uwSAddr w) 1412)).seqAbandon false nx
  else
    let d := if seqLoads w && up == .scratchFlip then d.seqCorrected 1 else d
    let x := d.seqA w
    let r := d.seqAlu w
    let d := r.2.seqIo w
    match d.seqPosts w with
    | some p =>
      if d.seq.post.length ≥ 16 then (committed d).seqAbandon true nx
      else (committed { d with seq := { d.seq with post := d.seq.post ++ [p] } }).seqNext w a x r.1
    | none => (committed d).seqNext w a x r.1

/-- One core cycle of the sequencer: it issues a word, stalls, or meets a fault; the budget ends the routine (R323, R334). -/
def Dev.seqCycle (d : Dev) (up : SeqUpset) : Dev :=
  if !d.seqBusy || !d.on 2 then d
  else
    let f := d.seqFetch d.seq.pc
    let ram := 0x1000 ≤ f.at'
    let bad := f.word.isNone || (ram && up == .patchLost)
    let w := f.word.getD 0
    let d := d.seqCharge (if bad then d.f F.SEQ_STAT_DUTY else uwDuty w) 1
    let d := match f.via with | some m => d.set F.SEQ_STAT_LAST_MATCH m | none => d
    if d.seq.cycles ≥ d.seqLimit && (bad || uwWait w || d.seqBadOp w || uwMode w != 6) then d.seqOverrun
    else if f.word.isNone then (d.seqAbandon false ((f.at' + 1) % 2 ^ 13)).seqLateCheck
    else if bad then ((d.seqPatchLost (f.at' - 0x1000)).seqAbandon false ((f.at' + 1) % 2 ^ 13)).seqLateCheck
    else
      let d := match up with | .patchFlip n => if ram then d.seqCorrected n else d | _ => d
      if uwWait w && !d.seqBadOp w && !d.seqWaitMet (uwWaitSel w) then
        ({ d with seq := { d.seq with pc := f.at' } }.set F.SEQ_STAT_STATE 2).seqLateCheck
      else (d.seqIssue w f.at' up).seqLateCheck

/-! Stretches of the routine. -/

/-- Entries of the ROM's duties, which the spec does not give: they stand outside the 13-bit addresses. -/
def seqDutyEntry (k : Nat) : Nat := 0x2000 + k

/-- A duty may follow where the routine stands (R320): in order, behind the header wait, the filing and the messages. -/
def Dev.seqMayStart (d : Dev) (k : Nat) : Bool :=
  k < 5 && d.f F.SEQ_STAT_DUTY ≤ k && (k == 0 || d.ds.hdrJudged) && (k ≤ 1 || !d.ds.hdrFresh) && (k ≤ 2 || d.ds.seqMsgs.isEmpty)

/-- n cycles of duty k in ROM (R320): filing and messages are routines of their own. -/
def Dev.seqDuty (d : Dev) (k n last next : Nat) : Dev :=
  if !d.seqMayStart k then d
  else
    let d := (d.seqWorked.seqCharge k n).pmc 0x15 n
    if d.seq.cycles ≥ d.seqLimit then d.seqOverrun
    else
      let frame : SeqCall := { ret := next % 2 ^ 13, entry := seqDutyEntry k }
      let stack := if k == 1 || k == 2 then (if (d.seq.stack.map (·.entry)).head? == some frame.entry then d.seq.stack else [frame, seqRoot])
        else d.seq.stack.drop (d.seq.stack.length - 1)
      let d := { d with seq := { d.seq with stack := stack, pc := next % 2 ^ 13 } }
      (((d.set F.SEQ_STAT_STATE 1).set F.SEQ_STAT_PC (last % 2 ^ 12)).set F.SEQ_STAT_DUTY k).seqLateCheck

/-- The routine in progress commits. -/
def Dev.seqCommitted (d : Dev) : Dev :=
  { d with seq := { d.seq with stack := match d.seq.stack with | r :: up => { r with committed := true } :: up | [] => [] } }

/-- One stretch. -/
def Dev.seqStretch (d : Dev) (x : SeqSeg) : Dev :=
  if !d.seqBusy || !d.on 2 then d
  else match x with
    | .words l => l.foldl Dev.seqCycle d
    | .duty k n last next => d.seqDuty k n last next
    | .wait n =>
      if d.ds.hdrJudged || d.f F.SEQ_STAT_DUTY != 0 then d
      else
        let d := d.seqCharge 0 n
        if d.seq.cycles ≥ d.seqLimit then d.seqOverrun else d.set F.SEQ_STAT_STATE 2
    | .file => if d.f F.SEQ_STAT_DUTY == 1 then d.seqFiled.seqCommitted else d
    | .upset addr lost => if lost then (d.eccUncorr 8 addr 1412).seqAbandon false d.seq.pc else d.seqCorrected 1
    | .finish => if d.f F.SEQ_STAT_DUTY == 4 then ((d.seqCharge 4 1).pmc 0x15 1).seqOver 3 else d

/-- The per-frame routine, in the stretches it ran (R319, R320). -/
def execSeqFrameRoutine (l : List SeqSeg) (s : State) : Host.Outcome State Fault Refusal := s.run (fun d => l.foldl Dev.seqStretch d)

end Sys2Proof.Machine
end

