-- ==== Sys2Proof/Machine/Dispatch.lean ====
section
/-! DEFINITION. The dispatch: one arm per command, each one call of its meaning. -/

namespace Sys2Proof.Machine

def exec (i : Instr) (s : State) : Host.Outcome State Fault Refusal :=
  match i with
  | .tick cyc dt lag sens => Sys2Proof.Machine.execTick cyc dt lag sens s
  | .pllEnable w => Sys2Proof.Machine.execPllEnable w s
  | .pllLock => Sys2Proof.Machine.execPllLock s
  | .coreClockSwitch w => Sys2Proof.Machine.execCoreClockSwitch w s
  | .clkStop c xid words => Sys2Proof.Machine.execClkStop c xid words s
  | .clkReturn c xid words => Sys2Proof.Machine.execClkReturn c xid words s
  | .refclkAbsent => Sys2Proof.Machine.execRefclkAbsent s
  | .refclkRestored => Sys2Proof.Machine.execRefclkRestored s
  | .peerReset x words => Sys2Proof.Machine.execPeerReset x words s
  | .crossingAlive x words => Sys2Proof.Machine.execCrossingAlive x words s
  | .crossingAck x => Sys2Proof.Machine.execCrossingAck x s
  | .syncBlockCheck pos at' block invalid los => Sys2Proof.Machine.execSyncBlockCheck pos at' block invalid los s
  | .rxEnWrite w => Sys2Proof.Machine.execRxEnWrite w s
  | .codewordArrival k raw invalid => Sys2Proof.Machine.execCodewordArrival k raw invalid s
  | .codewordDecoded slice iters word => Sys2Proof.Machine.execCodewordDecoded slice iters word s
  | .headerDecode => Sys2Proof.Machine.execHeaderDecode s
  | .unknownMessage => Sys2Proof.Machine.execUnknownMessage s
  | .assignId => Sys2Proof.Machine.execAssignId s
  | .rangingReq => Sys2Proof.Machine.execRangingReq s
  | .rangingTime => Sys2Proof.Machine.execRangingTime s
  | .profile => Sys2Proof.Machine.execProfile s
  | .keyReq => Sys2Proof.Machine.execKeyReq s
  | .keySwitch => Sys2Proof.Machine.execKeySwitch s
  | .sleepAllow => Sys2Proof.Machine.execSleepAllow s
  | .wake => Sys2Proof.Machine.execWake s
  | .timeOfDay => Sys2Proof.Machine.execTimeOfDay s
  | .deactivate => Sys2Proof.Machine.execDeactivate s
  | .halt => Sys2Proof.Machine.execHalt s
  | .ack => Sys2Proof.Machine.execAck s
  | .encapHeader up => Sys2Proof.Machine.execEncapHeader up s
  | .reassemblyTimeout n => Sys2Proof.Machine.execReassemblyTimeout n s
  | .tdsFltWrite n w => Sys2Proof.Machine.execTdsFltWrite n w s
  | .seqFrameRoutine l => Sys2Proof.Machine.execSeqFrameRoutine l s
  | .seqOverrun => Sys2Proof.Machine.execSeqOverrun s
  | .seqPageLate => Sys2Proof.Machine.execSeqPageLate s
  | .seqRestartRequest w => Sys2Proof.Machine.execSeqRestartRequest w s
  | .seqPatchWrite w => Sys2Proof.Machine.execSeqPatchWrite w s
  | .seqMatchWrite m w => Sys2Proof.Machine.execSeqMatchWrite m w s
  | .burstAssembly up => Sys2Proof.Machine.execBurstAssembly up s
  | .burstStart => Sys2Proof.Machine.execBurstStart s
  | .burstEnd => Sys2Proof.Machine.execBurstEnd s
  | .txFaultAssert => Sys2Proof.Machine.execTxFaultAssert s
  | .txFaultDeassert => Sys2Proof.Machine.execTxFaultDeassert s
  | .txInhibitWrite w => Sys2Proof.Machine.execTxInhibitWrite w s
  | .gateWrite w => Sys2Proof.Machine.execGateWrite w s
  | .faultClr w => Sys2Proof.Machine.execFaultClr w s
  | .txDark bt => Sys2Proof.Machine.execTxDark bt s
  | .txRogue bt => Sys2Proof.Machine.execTxRogue bt s
  | .phySleepRelease t => Sys2Proof.Machine.execPhySleepRelease t s
  | .phySleepAssert t => Sys2Proof.Machine.execPhySleepAssert t s
  | .phyWakeWrite w => Sys2Proof.Machine.execPhyWakeWrite w s
  | .tusAllocWrite n w => Sys2Proof.Machine.execTusAllocWrite n w s
  | .activateWrite w => Sys2Proof.Machine.execActivateWrite w s
  | .tstCmdAssign w => Sys2Proof.Machine.execTstCmdAssign w s
  | .tstCmdProfileDone w => Sys2Proof.Machine.execTstCmdProfileDone w s
  | .tstCmdDeactivate w => Sys2Proof.Machine.execTstCmdDeactivate w s
  | .rangingTimeout => Sys2Proof.Machine.execRangingTimeout s
  | .intermitTimeout => Sys2Proof.Machine.execIntermitTimeout s
  | .keyReportRepeat => Sys2Proof.Machine.execKeyReportRepeat s
  | .profileArmTimeout => Sys2Proof.Machine.execProfileArmTimeout s
  | .timeAdjWrite w => Sys2Proof.Machine.execTimeAdjWrite w s
  | .todRateWrite w => Sys2Proof.Machine.execTodRateWrite w s
  | .timeLoRead a at' => Sys2Proof.Machine.execTimeLoRead a at' s
  | .ppsOutRise at' => Sys2Proof.Machine.execPpsOutRise at' s
  | .ppsOutFall at' => Sys2Proof.Machine.execPpsOutFall at' s
  | .ppsInEdge at' => Sys2Proof.Machine.execPpsInEdge at' s
  | .classifyFrame p at' up => Sys2Proof.Machine.execClassifyFrame p at' up s
  | .actionResolve p => Sys2Proof.Machine.execActionResolve p s
  | .applyAction p up => Sys2Proof.Machine.execApplyAction p up s
  | .clsUpdRead w => Sys2Proof.Machine.execClsUpdRead w s
  | .clsUpdWrite w => Sys2Proof.Machine.execClsUpdWrite w s
  | .clsUpdMove w => Sys2Proof.Machine.execClsUpdMove w s
  | .clsUpdSetvis w => Sys2Proof.Machine.execClsUpdSetvis w s
  | .clsUpdHash w => Sys2Proof.Machine.execClsUpdHash w s
  | .accDrained => Sys2Proof.Machine.execAccDrained s
  | .accRetired => Sys2Proof.Machine.execAccRetired s
  | .clsInitDone => Sys2Proof.Machine.execClsInitDone s
  | .clsPolWrite n w => Sys2Proof.Machine.execClsPolWrite n w s
  | .tableScrub up => Sys2Proof.Machine.execTableScrub up s
  | .upmRxFrame n words => Sys2Proof.Machine.execUpmRxFrame n words s
  | .pauseRx n words => Sys2Proof.Machine.execPauseRx n words s
  | .pfcRx n words => Sys2Proof.Machine.execPfcRx n words s
  | .pauseTimerExpiry n cls => Sys2Proof.Machine.execPauseTimerExpiry n cls s
  | .preemptFragmentRx n words => Sys2Proof.Machine.execPreemptFragmentRx n words s
  | .verifyMpacketRx n words rdy => Sys2Proof.Machine.execVerifyMpacketRx n words rdy s
  | .respondMpacketRx n words => Sys2Proof.Machine.execRespondMpacketRx n words s
  | .verifyStart n rdy => Sys2Proof.Machine.execVerifyStart n rdy s
  | .verifyTimeout n rdy => Sys2Proof.Machine.execVerifyTimeout n rdy s
  | .upmTxFrame n edge gap cut rdy up => Sys2Proof.Machine.execUpmTxFrame n edge gap cut rdy up s
  | .xoffSend n rdy => Sys2Proof.Machine.execXoffSend n rdy s
  | .xoffRepeat n rdy => Sys2Proof.Machine.execXoffRepeat n rdy s
  | .xonSend n rdy => Sys2Proof.Machine.execXonSend n rdy s
  | .lpiEntry n us => Sys2Proof.Machine.execLpiEntry n us s
  | .rxLpiEntry n => Sys2Proof.Machine.execRxLpiEntry n s
  | .rxLpiExit n => Sys2Proof.Machine.execRxLpiExit n s
  | .upmLinkChange n level => Sys2Proof.Machine.execUpmLinkChange n level s
  | .upmCfgWrite n w => Sys2Proof.Machine.execUpmCfgWrite n w s
  | .upmFcThrWrite n w => Sys2Proof.Machine.execUpmFcThrWrite n w s
  | .preEnWrite n w => Sys2Proof.Machine.execPreEnWrite n w s
  | .qscFlush w => Sys2Proof.Machine.execQscFlush w s
  | .spillWriteDone c num r => Sys2Proof.Machine.execSpillWriteDone c num r s
  | .spillFetchStart c => Sys2Proof.Machine.execSpillFetchStart c s
  | .spillFetchDone c r => Sys2Proof.Machine.execSpillFetchDone c r s
  | .qscPoolCfgWrite k w => Sys2Proof.Machine.execQscPoolCfgWrite k w s
  | .pwrPondCfgWrite w => Sys2Proof.Machine.execPwrPondCfgWrite w s
  | .hrgDbWq f w => Sys2Proof.Machine.execHrgDbWq f w s
  | .hrgDbCq f w => Sys2Proof.Machine.execHrgDbCq f w s
  | .hrgDbAwq f w => Sys2Proof.Machine.execHrgDbAwq f w s
  | .hrgDbAcq f w => Sys2Proof.Machine.execHrgDbAcq f w s
  | .hrgFuncRst f w => Sys2Proof.Machine.execHrgFuncRst f w s
  | .funcrstN f => Sys2Proof.Machine.execFuncrstN f s
  | .funcResetDone f => Sys2Proof.Machine.execFuncResetDone f s
  | .wqeFetchDone q words c => Sys2Proof.Machine.execWqeFetchDone q words c s
  | .wqeTake q up => Sys2Proof.Machine.execWqeTake q up s
  | .sendDataReadDone q idx data c => Sys2Proof.Machine.execSendDataReadDone q idx data c s
  | .completionWriteDone q idx c => Sys2Proof.Machine.execCompletionWriteDone q idx c s
  | .ringHeaderWrite n => Sys2Proof.Machine.execRingHeaderWrite n s
  | .hostIdxReread q => Sys2Proof.Machine.execHostIdxReread q s
  | .hostIdxReadDone q v c => Sys2Proof.Machine.execHostIdxReadDone q v c s
  | .rxDeliver q up => Sys2Proof.Machine.execRxDeliver q up s
  | .rxDataWriteDone q idx c => Sys2Proof.Machine.execRxDataWriteDone q idx c s
  | .storeEntryWrite q up => Sys2Proof.Machine.execStoreEntryWrite q up s
  | .qctxCreateWq w => Sys2Proof.Machine.execQctxCreateWq w s
  | .qctxCreateCq w => Sys2Proof.Machine.execQctxCreateCq w s
  | .qctxDestroyWq w => Sys2Proof.Machine.execQctxDestroyWq w s
  | .qctxDestroyCq w => Sys2Proof.Machine.execQctxDestroyCq w s
  | .adminNop f e => Sys2Proof.Machine.execAdminNop f e s
  | .getInfo f e => Sys2Proof.Machine.execGetInfo f e s
  | .createCq f e => Sys2Proof.Machine.execCreateCq f e s
  | .destroyCq f e => Sys2Proof.Machine.execDestroyCq f e s
  | .createWq f e => Sys2Proof.Machine.execCreateWq f e s
  | .destroyWq f e => Sys2Proof.Machine.execDestroyWq f e s
  | .queryQ f e => Sys2Proof.Machine.execQueryQ f e s
  | .tableWrite f e record r => Sys2Proof.Machine.execTableWrite f e record r s
  | .tableDelete f e record r => Sys2Proof.Machine.execTableDelete f e record r s
  | .accCommit f e => Sys2Proof.Machine.execAccCommit f e s
  | .eeeWake f e => Sys2Proof.Machine.execEeeWake f e s
  | .sleepReq f e => Sys2Proof.Machine.execSleepReq f e s
  | .statsSnap f e r => Sys2Proof.Machine.execStatsSnap f e r s
  | .adminUnknown f e => Sys2Proof.Machine.execAdminUnknown f e s
  | .slcGo c w => Sys2Proof.Machine.execSlcGo c w s
  | .slcStop c w => Sys2Proof.Machine.execSlcStop c w s
  | .slcResume c w => Sys2Proof.Machine.execSlcResume c w s
  | .slcKick c w => Sys2Proof.Machine.execSlcKick c w s
  | .slcClear c w => Sys2Proof.Machine.execSlcClear c w s
  | .slcCfgWrite c prog w => Sys2Proof.Machine.execSlcCfgWrite c prog w s
  | .slcMove c => Sys2Proof.Machine.execSlcMove c s
  | .slcGather c => Sys2Proof.Machine.execSlcGather c s
  | .slcLoop c => Sys2Proof.Machine.execSlcLoop c s
  | .slcWait c => Sys2Proof.Machine.execSlcWait c s
  | .slcSignal c at' => Sys2Proof.Machine.execSlcSignal c at' s
  | .slcEnd c => Sys2Proof.Machine.execSlcEnd c s
  | .slcBadInstruction c => Sys2Proof.Machine.execSlcBadInstruction c s
  | .slcInstructionRetire c => Sys2Proof.Machine.execSlcInstructionRetire c s
  | .slcReadResponse c burst data codes => Sys2Proof.Machine.execSlcReadResponse c burst data codes s
  | .slcWriteResponse c burst r fbeat => Sys2Proof.Machine.execSlcWriteResponse c burst r fbeat s
  | .slcWaitSatisfied c => Sys2Proof.Machine.execSlcWaitSatisfied c s
  | .slcWaitTimeout c => Sys2Proof.Machine.execSlcWaitTimeout c s
  | .slcDescriptor c => Sys2Proof.Machine.execSlcDescriptor c s
  | .slcPollReread c => Sys2Proof.Machine.execSlcPollReread c s
  | .slcFlagSet w => Sys2Proof.Machine.execSlcFlagSet w s
  | .slcFlagClr w => Sys2Proof.Machine.execSlcFlagClr w s
  | .eventRecordWrite => Sys2Proof.Machine.execEventRecordWrite s
  | .eventRecordDone q idx c => Sys2Proof.Machine.execEventRecordDone q idx c s
  | .evqCiWrite q w => Sys2Proof.Machine.execEvqCiWrite q w s
  | .evqRearm n w => Sys2Proof.Machine.execEvqRearm n w s
  | .evqQCfgWrite q w => Sys2Proof.Machine.execEvqQCfgWrite q w s
  | .evqFaultClear q w => Sys2Proof.Machine.execEvqFaultClear q w s
  | .evqSwsrcWrite w => Sys2Proof.Machine.execEvqSwsrcWrite w s
  | .evqSrcWrite n w => Sys2Proof.Machine.execEvqSrcWrite n w s
  | .mbDoorbell n w => Sys2Proof.Machine.execMbDoorbell n w s
  | .mb1Ack w => Sys2Proof.Machine.execMb1Ack w s
  | .mb1NoticePost text => Sys2Proof.Machine.execMb1NoticePost text s
  | .mbUnknownType n ty seq body => Sys2Proof.Machine.execMbUnknownType n ty seq body s
  | .curInfo => Sys2Proof.Machine.execCurInfo s
  | .curPatch => Sys2Proof.Machine.execCurPatch s
  | .docentLoad => Sys2Proof.Machine.execDocentLoad s
  | .docentStop => Sys2Proof.Machine.execDocentStop s
  | .seqPatch => Sys2Proof.Machine.execSeqPatch s
  | .svnRaise => Sys2Proof.Machine.execSvnRaise s
  | .aclSet => Sys2Proof.Machine.execAclSet s
  | .funcReset => Sys2Proof.Machine.execFuncReset s
  | .imageFetchDone image r => Sys2Proof.Machine.execImageFetchDone image r s
  | .boot romOk => Sys2Proof.Machine.execBoot romOk s
  | .docentReady => Sys2Proof.Machine.execDocentReady s
  | .getVersion => Sys2Proof.Machine.execGetVersion s
  | .adminSetup => Sys2Proof.Machine.execAdminSetup s
  | .adminTeardown v r => Sys2Proof.Machine.execAdminTeardown v r s
  | .noticeMask => Sys2Proof.Machine.execNoticeMask s
  | .mb0Ping => Sys2Proof.Machine.execMb0Ping s
  | .twinCtlAttach => Sys2Proof.Machine.execTwinCtlAttach s
  | .twinCtlDetach => Sys2Proof.Machine.execTwinCtlDetach s
  | .twinCtlSwitchover => Sys2Proof.Machine.execTwinCtlSwitchover s
  | .termInfo => Sys2Proof.Machine.execTermInfo s
  | .keyNew slot => Sys2Proof.Machine.execKeyNew slot s
  | .keyBcast gen wrapped => Sys2Proof.Machine.execKeyBcast gen wrapped s
  | .kekRotate gen wrapped => Sys2Proof.Machine.execKekRotate gen wrapped s
  | .tstWrite cmd tid => Sys2Proof.Machine.execTstWrite cmd tid s
  | .vote dom vote => Sys2Proof.Machine.execVote dom vote s
  | .mpuViolation => Sys2Proof.Machine.execMpuViolation s
  | .wdogKick w => Sys2Proof.Machine.execWdogKick w s
  | .watchdogExpiry => Sys2Proof.Machine.execWatchdogExpiry s
  | .autoRestart => Sys2Proof.Machine.execAutoRestart s
  | .mb3Send ty body => Sys2Proof.Machine.execMb3Send ty body s
  | .mb3Timeout => Sys2Proof.Machine.execMb3Timeout s
  | .pairHello resp seq status w1 w2 => Sys2Proof.Machine.execPairHello resp seq status w1 w2 s
  | .allocMap resp seq status w1 => Sys2Proof.Machine.execAllocMap resp seq status w1 s
  | .switchPropose resp seq status w1 => Sys2Proof.Machine.execSwitchPropose resp seq status w1 s
  | .switchDone resp seq status => Sys2Proof.Machine.execSwitchDone resp seq status s
  | .mb3Detach resp seq status => Sys2Proof.Machine.execMb3Detach resp seq status s
  | .mb3Ping resp seq status w1 => Sys2Proof.Machine.execMb3Ping resp seq status w1 s
  | .stgSelWrite w => Sys2Proof.Machine.execStgSelWrite w s
  | .stagedWrite off w => Sys2Proof.Machine.execStagedWrite off w s
  | .stgOpen n w => Sys2Proof.Machine.execStgOpen n w s
  | .stgCheck n w => Sys2Proof.Machine.execStgCheck n w s
  | .stgCheckArm n w => Sys2Proof.Machine.execStgCheckArm n w s
  | .stgCancel n w => Sys2Proof.Machine.execStgCancel n w s
  | .stgApplyWrite n w => Sys2Proof.Machine.execStgApplyWrite n w s
  | .stagingDrainDone n => Sys2Proof.Machine.execStagingDrainDone n s
  | .intervalRecordSigned => Sys2Proof.Machine.execIntervalRecordSigned s
  | .bindDs => Sys2Proof.Machine.execBindDs s
  | .bindUs => Sys2Proof.Machine.execBindUs s
  | .setInterval => Sys2Proof.Machine.execSetInterval s
  | .setPulse => Sys2Proof.Machine.execSetPulse s
  | .archiveClear => Sys2Proof.Machine.execArchiveClear s
  | .clockCheck aonNs => Sys2Proof.Machine.execClockCheck aonNs s
  | .keyRotate => Sys2Proof.Machine.execKeyRotate s
  | .readAccount => Sys2Proof.Machine.execReadAccount s
  | .readTotals => Sys2Proof.Machine.execReadTotals s
  | .readIntervals => Sys2Proof.Machine.execReadIntervals s
  | .ackIntervals => Sys2Proof.Machine.execAckIntervals s
  | .readSnapshot => Sys2Proof.Machine.execReadSnapshot s
  | .readLog => Sys2Proof.Machine.execReadLog s
  | .readIdent => Sys2Proof.Machine.execReadIdent s
  | .vcmdUnknown => Sys2Proof.Machine.execVcmdUnknown s
  | .sealOpen => Sys2Proof.Machine.execSealOpen s
  | .sealClose => Sys2Proof.Machine.execSealClose s
  | .sealWindowEnd => Sys2Proof.Machine.execSealWindowEnd s
  | .vitPulseStart => Sys2Proof.Machine.execVitPulseStart s
  | .vitPulseEnd => Sys2Proof.Machine.execVitPulseEnd s
  | .vitRestore => Sys2Proof.Machine.execVitRestore s
  | .vitOffCheckpoint => Sys2Proof.Machine.execVitOffCheckpoint s
  | .pwrHvoteWrite w => Sys2Proof.Machine.execPwrHvoteWrite w s
  | .pwrCvoteWrite w => Sys2Proof.Machine.execPwrCvoteWrite w s
  | .domainPowerDownDone k => Sys2Proof.Machine.execDomainPowerDownDone k s
  | .domainPowerUpDone k up => Sys2Proof.Machine.execDomainPowerUpDone k up s
  | .dvfsStep => Sys2Proof.Machine.execDvfsStep s
  | .avsAck => Sys2Proof.Machine.execAvsAck s
  | .avsTimeout => Sys2Proof.Machine.execAvsTimeout s
  | .avsLoop margins => Sys2Proof.Machine.execAvsLoop margins s
  | .pwrDvfsCtlWrite w => Sys2Proof.Machine.execPwrDvfsCtlWrite w s
  | .pwrRegWrite w => Sys2Proof.Machine.execPwrRegWrite w s
  | .pwrWatchCtlWrite w => Sys2Proof.Machine.execPwrWatchCtlWrite w s
  | .watchEnter => Sys2Proof.Machine.execWatchEnter s
  | .watchSampleLead => Sys2Proof.Machine.execWatchSampleLead s
  | .stillReq w => Sys2Proof.Machine.execStillReq w s
  | .offReq w => Sys2Proof.Machine.execOffReq w s
  | .entryHoldTimeout => Sys2Proof.Machine.execEntryHoldTimeout s
  | .aonTick sens => Sys2Proof.Machine.execAonTick sens s
  | .lowPowerWake => Sys2Proof.Machine.execLowPowerWake s
  | .wakeTimer => Sys2Proof.Machine.execWakeTimer s
  | .vddAonLow lowest => Sys2Proof.Machine.execVddAonLow lowest s
  | .aonBrownoutReset saveHeld => Sys2Proof.Machine.execAonBrownoutReset saveHeld s
  | .vddCoreBrownout lowest => Sys2Proof.Machine.execVddCoreBrownout lowest s
  | .twnEnWrite w => Sys2Proof.Machine.execTwnEnWrite w s
  | .twnCmdAttach w => Sys2Proof.Machine.execTwnCmdAttach w s
  | .twnCmdDetach w => Sys2Proof.Machine.execTwnCmdDetach w s
  | .twnCmdResync w => Sys2Proof.Machine.execTwnCmdResync w s
  | .tlBlockTx => Sys2Proof.Machine.execTlBlockTx s
  | .tlBlockRx commas codeOk octets => Sys2Proof.Machine.execTlBlockRx commas codeOk octets s
  | .heartbeatRx => Sys2Proof.Machine.execHeartbeatRx s
  | .heartbeatTimeout => Sys2Proof.Machine.execHeartbeatTimeout s
  | .detachTimeout => Sys2Proof.Machine.execDetachTimeout s
  | .mirrorReg => Sys2Proof.Machine.execMirrorReg s
  | .mirrorTableOp => Sys2Proof.Machine.execMirrorTableOp s
  | .mirrorCommit => Sys2Proof.Machine.execMirrorCommit s
  | .mirrorBucket => Sys2Proof.Machine.execMirrorBucket s
  | .mirrorStash => Sys2Proof.Machine.execMirrorStash s
  | .mirrorChangeEnd => Sys2Proof.Machine.execMirrorChangeEnd s
  | .mirrorBulkEnd => Sys2Proof.Machine.execMirrorBulkEnd s
  | .mirrorSwap => Sys2Proof.Machine.execMirrorSwap s
  | .mirrorAccession => Sys2Proof.Machine.execMirrorAccession s
  | .obsSnapGo w => Sys2Proof.Machine.execObsSnapGo w s
  | .pmcRunWrite w => Sys2Proof.Machine.execPmcRunWrite w s
  | .pmcCfgWrite n w => Sys2Proof.Machine.execPmcCfgWrite n w s
  | .pmcCntWrite n w => Sys2Proof.Machine.execPmcCntWrite n w s
  | .pmcOvf n past => Sys2Proof.Machine.execPmcOvf n past s
  | .traceTimeout n => Sys2Proof.Machine.execTraceTimeout n s
  | .traceRecordWrite => Sys2Proof.Machine.execTraceRecordWrite s
  | .traceRecordDone seq c => Sys2Proof.Machine.execTraceRecordDone seq c s
  | .trcCfgWrite w => Sys2Proof.Machine.execTrcCfgWrite w s
  | .trcSeedWrite w => Sys2Proof.Machine.execTrcSeedWrite w s
  | .trcCiWrite w => Sys2Proof.Machine.execTrcCiWrite w s
  | .bwCfgWrite w => Sys2Proof.Machine.execBwCfgWrite w s
  | .porst => Sys2Proof.Machine.execPorst s
  | .blkrst => Sys2Proof.Machine.execBlkrst s
  | .curatorEccReset up => Sys2Proof.Machine.execCuratorEccReset up s
  | .acfTimeout kind => Sys2Proof.Machine.execAcfTimeout kind s
  | .registerWrite off w => Sys2Proof.Machine.execRegisterWrite off w s
  | .docentHalt => Sys2Proof.Machine.execDocentHalt s
  | .docentErrorReport up => Sys2Proof.Machine.execDocentErrorReport up s
  | .offSensorSample sens => Sys2Proof.Machine.execOffSensorSample sens s
  | .ringHeaderWriteDone n c => Sys2Proof.Machine.execRingHeaderWriteDone n c s
  | .flushDone => Sys2Proof.Machine.execFlushDone s
  | .registerRead a off at' => Sys2Proof.Machine.execRegisterRead a off at' s
  | .rogueConditionClear => Sys2Proof.Machine.execRogueConditionClear s

end Sys2Proof.Machine
end

