-- ==== Sys2Proof/WellFormed.lean ====
section
/-! DEFINITION. Well-formed commands: what the table's operands may be where the block has that many of a thing (ports, functions,
queues, domains, registers, memory places). A command that is not well formed is no event of the block; its meaning leaves the state as it is. -/

namespace Sys2Proof

/-- One of the four user ports. -/
def portOk (n : Nat) : Bool := n < 4
/-- A word of eight 64-bit lanes and their 4-bit codes (R191). -/
def wordOk (w : PortWord) : Bool := w.data < 2 ^ 512 && w.codes < 2 ^ 32
/-- One of the four host functions. -/
def funcOk (f : Nat) : Bool := f < 4
/-- One of the sixteen Sluice channels. -/
def chanOk (c : Nat) : Bool := c < 16
/-- One of the crossings 0 to 10 (R52). -/
def crossOk (x : Nat) : Bool := x ≤ 10
/-- A crossing whose words cannot be held back (R52). -/
def lossOk (x : Nat) : Bool := x == 0 || (2 ≤ x && x ≤ 5)
/-- One of the switched domains PD01 to PD32. -/
def domOk (k : Nat) : Bool := 1 ≤ k && k ≤ 32
/-- A completion queue, or 2,048 + f for the admin pair of function f. -/
def ringOk (q : Nat) : Bool := q < 1024 || (2048 ≤ q && q < 2052)
/-- An offset of the register target (R508). -/
def offOk (off : Nat) : Bool := off % 8 == 0 && off < 0x400000
/-- The readings of the six temperature sensors (R433). -/
def sensOk (l : List (Option Int)) : Bool := l.length == 6

/-- A memory fault of a place that exists: key slots 1 to 3 (R490), the 4,096 accounts and eight totals of the Vitrine (R380). The
place of an array entry is judged by the containment itself. -/
def Upset.ok : Upset → Bool
  | .keySlot n _ => 1 ≤ n && n ≤ 3
  | .reassembly e _ => e < 4096
  | .entryCache q _ => q < 1024
  | .vitAccount a _ _ => a < 4096
  | .vitTotal t _ => t < 8
  | _ => true

/-- Well-formed commands. -/
def Instr.wf : Instr → Bool
  | .tick _ _ lag sens => lag < 16384 && sensOk sens
  | .pllEnable _ => true
  | .pllLock => true
  | .coreClockSwitch _ => true
  | .clkStop c xid _ => (1 ≤ c && c < 10) && lossOk xid
  | .clkReturn c xid _ => (1 ≤ c && c < 10) && lossOk xid
  | .refclkAbsent => true
  | .refclkRestored => true
  | .peerReset x _ => crossOk x
  | .crossingAlive x _ => crossOk x
  | .crossingAck x => crossOk x
  | .syncBlockCheck pos _ _ _ _ => pos < 1024
  | .rxEnWrite _ => true
  | .codewordArrival k _ invalid => k < 1356 && invalid.all (· < 19)
  | .codewordDecoded slice iters _ => slice < 4 && iters ≤ 16
  | .headerDecode => true
  | .unknownMessage => true
  | .assignId => true
  | .rangingReq => true
  | .rangingTime => true
  | .profile => true
  | .keyReq => true
  | .keySwitch => true
  | .sleepAllow => true
  | .wake => true
  | .timeOfDay => true
  | .deactivate => true
  | .halt => true
  | .ack => true
  | .encapHeader up => up.all Upset.ok
  | .reassemblyTimeout n => n < 4096
  | .tdsFltWrite n _ => n < 4096
  | .seqFrameRoutine _ => true
  | .seqOverrun => true
  | .seqPageLate => true
  | .seqRestartRequest _ => true
  | .seqPatchWrite _ => true
  | .seqMatchWrite m _ => m < 32
  | .burstAssembly up => up.all Upset.ok
  | .burstStart => true
  | .burstEnd => true
  | .txFaultAssert => true
  | .txFaultDeassert => true
  | .txInhibitWrite _ => true
  | .gateWrite _ => true
  | .faultClr _ => true
  | .txDark _ => true
  | .txRogue _ => true
  | .phySleepRelease _ => true
  | .phySleepAssert _ => true
  | .phyWakeWrite _ => true
  | .tusAllocWrite n _ => n < 512
  | .activateWrite _ => true
  | .tstCmdAssign _ => true
  | .tstCmdProfileDone _ => true
  | .tstCmdDeactivate _ => true
  | .rangingTimeout => true
  | .intermitTimeout => true
  | .keyReportRepeat => true
  | .profileArmTimeout => true
  | .timeAdjWrite _ => true
  | .todRateWrite _ => true
  | .timeLoRead _ _ => true
  | .ppsOutRise _ => true
  | .ppsOutFall _ => true
  | .ppsInEdge _ => true
  | .classifyFrame p _ up => p < 3 && up.all Upset.ok
  | .actionResolve p => p < 3
  | .applyAction p up => p < 3 && up.all Upset.ok
  | .clsUpdRead _ => true
  | .clsUpdWrite _ => true
  | .clsUpdMove _ => true
  | .clsUpdSetvis _ => true
  | .clsUpdHash _ => true
  | .accDrained => true
  | .accRetired => true
  | .clsInitDone => true
  | .clsPolWrite n _ => n < 8192
  | .tableScrub up => up.all Upset.ok
  | .upmRxFrame n words => portOk n && words.all wordOk
  | .pauseRx n words => portOk n && words.all wordOk
  | .pfcRx n words => portOk n && words.all wordOk
  | .pauseTimerExpiry n cls => portOk n && cls < 8
  | .preemptFragmentRx n words => portOk n && words.all wordOk
  | .verifyMpacketRx n words _ => portOk n && words.all wordOk
  | .respondMpacketRx n words => portOk n && words.all wordOk
  | .verifyStart n _ => portOk n
  | .verifyTimeout n _ => portOk n
  | .upmTxFrame n _ _ _ _ up => portOk n && up.all Upset.ok
  | .xoffSend n _ => portOk n
  | .xoffRepeat n _ => portOk n
  | .xonSend n _ => portOk n
  | .lpiEntry n _ => portOk n
  | .rxLpiEntry n => portOk n
  | .rxLpiExit n => portOk n
  | .upmLinkChange n _ => portOk n
  | .upmCfgWrite n _ => portOk n
  | .upmFcThrWrite n _ => portOk n
  | .preEnWrite n _ => portOk n
  | .qscFlush _ => true
  | .spillWriteDone c _ _ => c < 4096
  | .spillFetchStart c => c < 4096
  | .spillFetchDone c _ => c < 4096
  | .qscPoolCfgWrite k _ => k < 16
  | .pwrPondCfgWrite _ => true
  | .hrgDbWq f _ => funcOk f
  | .hrgDbCq f _ => funcOk f
  | .hrgDbAwq f _ => funcOk f
  | .hrgDbAcq f _ => funcOk f
  | .hrgFuncRst f _ => funcOk f
  | .funcrstN f => funcOk f
  | .funcResetDone f => funcOk f
  | .wqeFetchDone q _ _ => q < 1024
  | .wqeTake q up => q < 1024 && up.all Upset.ok
  | .sendDataReadDone q _ _ _ => q < 1024
  | .completionWriteDone q _ _ => ringOk q
  | .ringHeaderWrite _ => true
  | .hostIdxReread q => ringOk q
  | .hostIdxReadDone q _ _ => ringOk q
  | .rxDeliver q up => q < 1024 && up.all Upset.ok
  | .rxDataWriteDone q _ _ => q < 1024
  | .storeEntryWrite q up => q < 1024 && up.all Upset.ok
  | .qctxCreateWq _ => true
  | .qctxCreateCq _ => true
  | .qctxDestroyWq _ => true
  | .qctxDestroyCq _ => true
  | .adminNop f _ => funcOk f
  | .getInfo f _ => funcOk f
  | .createCq f _ => funcOk f
  | .destroyCq f _ => funcOk f
  | .createWq f _ => funcOk f
  | .destroyWq f _ => funcOk f
  | .queryQ f _ => funcOk f
  | .tableWrite f _ _ _ => funcOk f
  | .tableDelete f _ _ _ => funcOk f
  | .accCommit f _ => funcOk f
  | .eeeWake f _ => funcOk f
  | .sleepReq f _ => funcOk f
  | .statsSnap f _ _ => funcOk f
  | .adminUnknown f _ => funcOk f
  | .slcGo c _ => chanOk c
  | .slcStop c _ => chanOk c
  | .slcResume c _ => chanOk c
  | .slcKick c _ => chanOk c
  | .slcClear c _ => chanOk c
  | .slcCfgWrite c _ _ => chanOk c
  | .slcMove c => chanOk c
  | .slcGather c => chanOk c
  | .slcLoop c => chanOk c
  | .slcWait c => chanOk c
  | .slcSignal c _ => chanOk c
  | .slcEnd c => chanOk c
  | .slcBadInstruction c => chanOk c
  | .slcInstructionRetire c => chanOk c
  | .slcReadResponse c _ _ _ => chanOk c
  | .slcWriteResponse c _ _ _ => chanOk c
  | .slcWaitSatisfied c => chanOk c
  | .slcWaitTimeout c => chanOk c
  | .slcDescriptor c => chanOk c
  | .slcPollReread c => chanOk c
  | .slcFlagSet _ => true
  | .slcFlagClr _ => true
  | .eventRecordWrite => true
  | .eventRecordDone q _ _ => q < 8
  | .evqCiWrite q _ => q < 8
  | .evqRearm n _ => n < 2048
  | .evqQCfgWrite q _ => q < 8
  | .evqFaultClear q _ => q < 8
  | .evqSwsrcWrite _ => true
  | .evqSrcWrite n _ => n < 2048
  | .mbDoorbell n _ => n == 0 || n == 2
  | .mb1Ack _ => true
  | .mb1NoticePost text => (text.getD []).length ≤ 4088
  | .mbUnknownType n ty _ body => n == 0 || n == 2 || (n == 3 && ty < 256 && body.length ≤ 511)
  | .curInfo => true
  | .curPatch => true
  | .docentLoad => true
  | .docentStop => true
  | .seqPatch => true
  | .svnRaise => true
  | .aclSet => true
  | .funcReset => true
  | .imageFetchDone _ _ => true
  | .boot _ => true
  | .docentReady => true
  | .getVersion => true
  | .adminSetup => true
  | .adminTeardown _ _ => true
  | .noticeMask => true
  | .mb0Ping => true
  | .twinCtlAttach => true
  | .twinCtlDetach => true
  | .twinCtlSwitchover => true
  | .termInfo => true
  | .keyNew slot => slot == 1 || slot == 2
  | .keyBcast _ _ => true
  | .kekRotate _ _ => true
  | .tstWrite _ _ => true
  | .vote dom _ => domOk dom
  | .mpuViolation => true
  | .wdogKick _ => true
  | .watchdogExpiry => true
  | .autoRestart => true
  | .mb3Send _ _ => true
  | .mb3Timeout => true
  | .pairHello _ _ _ _ _ => true
  | .allocMap _ _ _ _ => true
  | .switchPropose _ _ _ _ => true
  | .switchDone _ _ _ => true
  | .mb3Detach _ _ _ => true
  | .mb3Ping _ _ _ _ => true
  | .stgSelWrite _ => true
  | .stagedWrite off _ => offOk off
  | .stgOpen n _ => n < 4
  | .stgCheck n _ => n < 4
  | .stgCheckArm n _ => n < 4
  | .stgCancel n _ => n < 4
  | .stgApplyWrite n _ => n < 4
  | .stagingDrainDone n => n < 4
  | .intervalRecordSigned => true
  | .bindDs => true
  | .bindUs => true
  | .setInterval => true
  | .setPulse => true
  | .archiveClear => true
  | .clockCheck _ => true
  | .keyRotate => true
  | .readAccount => true
  | .readTotals => true
  | .readIntervals => true
  | .ackIntervals => true
  | .readSnapshot => true
  | .readLog => true
  | .readIdent => true
  | .vcmdUnknown => true
  | .sealOpen => true
  | .sealClose => true
  | .sealWindowEnd => true
  | .vitPulseStart => true
  | .vitPulseEnd => true
  | .vitRestore => true
  | .vitOffCheckpoint => true
  | .pwrHvoteWrite _ => true
  | .pwrCvoteWrite _ => true
  | .domainPowerDownDone k => domOk k
  | .domainPowerUpDone k up => domOk k && up.all Upset.ok
  | .dvfsStep => true
  | .avsAck => true
  | .avsTimeout => true
  | .avsLoop _ => true
  | .pwrDvfsCtlWrite _ => true
  | .pwrRegWrite _ => true
  | .pwrWatchCtlWrite _ => true
  | .watchEnter => true
  | .watchSampleLead => true
  | .stillReq _ => true
  | .offReq _ => true
  | .entryHoldTimeout => true
  | .aonTick sens => sensOk sens
  | .lowPowerWake => true
  | .wakeTimer => true
  | .vddAonLow _ => true
  | .aonBrownoutReset _ => true
  | .vddCoreBrownout _ => true
  | .twnEnWrite _ => true
  | .twnCmdAttach _ => true
  | .twnCmdDetach _ => true
  | .twnCmdResync _ => true
  | .tlBlockTx => true
  | .tlBlockRx _ _ _ => true
  | .heartbeatRx => true
  | .heartbeatTimeout => true
  | .detachTimeout => true
  | .mirrorReg => true
  | .mirrorTableOp => true
  | .mirrorCommit => true
  | .mirrorBucket => true
  | .mirrorStash => true
  | .mirrorChangeEnd => true
  | .mirrorBulkEnd => true
  | .mirrorSwap => true
  | .mirrorAccession => true
  | .obsSnapGo _ => true
  | .pmcRunWrite _ => true
  | .pmcCfgWrite n _ => n < 8
  | .pmcCntWrite n _ => n < 8
  | .pmcOvf n _ => n < 8
  | .traceTimeout _ => true
  | .traceRecordWrite => true
  | .traceRecordDone _ _ => true
  | .trcCfgWrite _ => true
  | .trcSeedWrite _ => true
  | .trcCiWrite _ => true
  | .bwCfgWrite _ => true
  | .porst => true
  | .blkrst => true
  | .curatorEccReset up => up.all Upset.ok
  | .acfTimeout _ => true
  | .registerWrite off _ => offOk off
  | .docentHalt => true
  | .docentErrorReport _ => true
  | .offSensorSample sens => sensOk sens
  | .ringHeaderWriteDone _ _ => true
  | .flushDone => true
  | .registerRead _ off _ => offOk off
  | .rogueConditionClear => true

end Sys2Proof
end

