-- ==== Sys2Proof/Safety.lean ====
section
/-! DEFINITION. What statements about runs are made of: the level outputs agree with the state behind them, the register files are in
canonical form, and the ways a register access is answered. -/

namespace Sys2Proof.Machine

/-- The level outputs are what the state behind them gives (R121, R126, R193, R311, R315, R435, R511). -/
def Dev.pinsDriven (d : Dev) : Prop :=
  d.pins.irqN = d.irqPins ∧ d.pins.phySleep = d.phySleep ∧ d.pins.txEn = d.b F.TUS_STAT_TX_EN ∧ d.pins.usValid = d.usValid ∧
    d.pins.thermTrip = d.b F.PWR_THERM_STAT_TRIP ∧
    d.pins.upTxV = (List.range 4).foldl (fun a n => a + b2n (d.upTxV n) * 2 ^ n) 0 ∧ d.pins.upTxC = (List.range 4).map d.upTxC

/-- The register files are in canonical form: keys strictly rise, so equal contents are equal data. -/
def Dev.filesWf (d : Dev) : Bool := SMap.wf d.regs && SMap.wf d.aux

/-- An access of a register by an agent passes the gates (R53, R337, R495, R509): it reaches the target, is not Docent's to a register
that the protection unit keeps from it, is not denied, and the register's domain is powered. -/
def Dev.passes (d : Dev) (a : Agent) (off : Nat) : Prop :=
  d.reach a = true ∧ (a == .docent && mpuWrite off) = false ∧ d.denied a = false ∧ d.on (domainOf off) = true

/-- The state a command leaves: its queue as it was, and the device `e` with what follows from it (the votes, the power state, the level
outputs). -/
def State.after (s : State) (e : Dev) : State := { s with dev := e.settle }

/-- A control message is for this terminal and is not a repetition of the last one of its type (R135, R137). -/
def Dev.fresh (d : Dev) (m : Msg) : Prop :=
  (msgAddr m = 2 → (m.getD 1 0).toNat = d.f F.TST_SERIAL_SN) ∧ d.dupOf m = none

/-- The message m of type ty is the head of the sequencer's message buffer, PD02 is powered, and the sequencer is at its message duty: its
routine runs and no decoded grants wait to be filed (R79, R320, R324). -/
def Dev.seqHead (d : Dev) (ty : Nat) (m : Msg) (rest : List Msg) : Prop :=
  d.ds.seqMsgs = m :: rest ∧ msgType m = ty ∧ d.on 2 = true ∧ d.seqBusy = true ∧ d.ds.hdrFresh = false

/-- The message m of type ty is the head of Docent's message queue, and Docent runs. -/
def Dev.docHead (d : Dev) (ty : Nat) (m : Msg) (rest : List Msg) : Prop :=
  d.ds.docentMsgs = m :: rest ∧ msgType m = ty ∧ d.docentRuns = true

/-- What is left of the sequencer's buffer, or of Docent's queue, once its head is taken. -/
def Dev.seqRest (d : Dev) (rest : List Msg) : Dev := { d with ds := { d.ds with seqMsgs := rest } }
def Dev.docRest (d : Dev) (rest : List Msg) : Dev := { d with ds := { d.ds with docentMsgs := rest } }

/-- A write of a register with staged fields goes to the register itself: its agent does not stage, no set being applied serves the bits
written, and no mirrored field of a sink is touched (R361, R370, R454). -/
def Dev.takesDirect (d : Dev) (off : Nat) (w : RegWr) : Prop :=
  d.staging w.agent = false ∧ d.applying off &&& w.bitMask = 0 ∧ d.sinkGuards off w = false

/-- A source sends the mirrored fields of the register just written (R453). -/
def Dev.mirrored (d : Dev) (off : Nat) (w : RegWr) : Dev :=
  if mirMask off &&& w.bitMask = 0 then d else (d.mirrorReg off).mirror [.changeEnd]

/-- The device in which the request r of kind k has its answer c: its tag is free, a waiting request of that initiator goes out, and an
answer other than DONE is counted (R471, R502, R504). -/
def Dev.answered (d : Dev) (k : FabKind) (r : FabReq) (c : Rsp) : Dev :=
  let d := ({ d with fab := { d.fab with out := d.fab.out.eraseP (fun r => r.kind == k) } } : Dev).fabPump r.write
  if c.ok then d else d.pmc 4 1 { priv := some r.priv, func := some r.func, master := some r.mstr, addr := some r.addr }

/-- Mailbox n holds a request of TYPE ty with len body octets that its firmware takes: Docent runs for MB0; Curator has reached stage 4, is
not HALTED and fetches no image for MB2 (R341, R342, R344, R349). -/
def Dev.mbHas (d : Dev) (n ty len : Nat) : Prop :=
  d.on 1 = true ∧ d.f F.MBX_STAT_OWNER n ≠ 0 ∧
    (if n = 0 then d.docentRuns = true
     else 4 ≤ d.f F.MBX_BOOT_STAGE ∧ d.f F.MBX_BOOT_STAGE ≤ 6 ∧ d.fw.load = none) ∧
    bits (d.f F.MBX_AREA_DATA n 0) 16 8 = ty ∧ bits (d.f F.MBX_AREA_DATA n 0) 32 12 = len

/-- The answer to a sealed request with VCMD v in MB2: STATUS st, VREASON why, the upper half of word 1, and the words after it (R385, R387). -/
def Dev.sealAnswered (d : Dev) (v st why hi : Nat) (ws : List Word) : Dev :=
  d.mbRespond 2 st ((v + why * 2 ^ 8 + hi % 2 ^ 32 * 2 ^ 32) :: ws.map BitVec.toNat)

/-- Docent may take the command e of function f (R273, R274): its pair has an entry, answers none and holds none, it is f's turn in the round
robin, and with HOST_IDX as read the completion queue has room. `a` is the pair as it then stands, and t the device with the entry taken. -/
def Dev.adminTaken (d : Dev) (f : Nat) (e : AdminIn) (a : AdminPair) (t : Dev) : Prop :=
  d.adminOpen f = true ∧ d.adminTurn f = true ∧ ∃ o h, d.hrg.admin.look f = some o ∧
    h = (({ d with hrg := { d.hrg with turn := f } } : Dev).docentAccess false f (o.cqHdr + 8) 8 true).adminHost f e.hostIdx ∧ h.hrg.admin.look f = some a ∧
    idxSub a.pi a.hostIdx < 2 ^ a.cqLog ∧
    t = (h.docentAccess false f (a.wqBase + 64 * (a.head % 2 ^ a.wqLog)) 64 true).adminPut f { a with head := (a.head + 1) % 2 ^ 18 }

/-- The instruction with words w0 and w1 is the next of Sluice channel c, which runs in native mode and may begin it (R281, R284). -/
def Dev.slcNext (d : Dev) (c op w0 w1 : Nat) : Prop :=
  d.slcReady c = some [w0, w1] ∧ d.slcRing c = false ∧ bits w0 60 4 = op

/-- No entry to Still or Off, no Watch and no exit is under way: nothing but the votes settles. -/
def Dev.steady (d : Dev) : Prop := d.pwr.entry = .none ∧ d.f F.PWR_WATCH_STAT_PHASE = 0

end Sys2Proof.Machine
end

