-- ==== Sys2Proof/Certificates/Slice0/Obligations.lean ====
section
/-! DEFINITION. The statements for the provers. In them `s.after e` is the state s with the device e, settled: the queue is as it was,
and every part of the device that e leaves as it was and that settling does not derive (SettlesOnly) is as it was. -/

open Sys2Proof Sys2Proof.Machine

/-- A step takes the command at the front of the queue and runs it with the queue's rest (the block's commands come one after another;
the order of the queue is the order of arrival, log entry 4). -/
def Obligations.StepRunsFrontCommand : Prop :=
  ∀ (c : Instr) (rest : List Instr) (d : Dev), step { pending := c :: rest, dev := d } = exec c { pending := rest, dev := d }

/-- An empty queue lets one core clock edge pass: OBS_CYCLE advances (R470) and the edge is an activity event of each powered domain
(R237). That the model ties an edge to an empty queue is its own choice, log entry 6. -/
def Obligations.IdleStepIsOneEdge : Prop :=
  ∀ d : Dev, step { pending := [], dev := d } =
    .next (({ pending := [], dev := d } : State).after (if d.inStill || d.inOff then d else d.coreEdges 1))

/-- No command of the block stops the machine: errors are states of the device. -/
def Obligations.EveryCommandAnswersNext : Prop :=
  ∀ (c : Instr) (s : State), ∃ t, exec c s = .next t ∧ t.pending = s.pending

/-- Every step, whatever the command, leaves the level outputs agreeing with the state: PHY_SLEEP with its causes, TX_EN with TUS_STAT,
US_VALID with the bursts on air, THERM_TRIP with PWR_THERM_STAT, IRQ_n with the queues, and the ports' words with their enables and idle. -/
def Obligations.StepsDriveThePins : Prop :=
  ∀ s t : State, step s = .next t → t.dev.pinsDriven

/-- The invariant of StepsDriveThePins holds at reset. -/
def Obligations.PinsDrivenAtReset : Prop := State.reset.dev.pinsDriven

/-- R511: IRQ_n[q] after any step. PI and CI are 18-bit fields, so that they differ is (PI − CI) mod 2^18 ≠ 0 (R311). -/
def Obligations.IrqLevelAfterEveryStep : Prop :=
  ∀ (s t : State) (q : Nat), step s = .next t → q < 8 →
    (bit t.dev.pins.irqN q = false ↔
      t.dev.f F.PWR_DOM_PSTATE 29 = 2 ∧ t.dev.f F.EVQ_Q_CFG_EN q ≠ 0 ∧ t.dev.f F.EVQ_Q_CFG_ASLEEP q = 0 ∧
        t.dev.f F.EVQ_Q_PI_PI q ≠ t.dev.f F.EVQ_Q_CI_CI q)

/-- What settling leaves as it was: with this, `exec c s = .next (s.after e)` says of every register and every part of the block outside
the power controller, the event unit, Sluice's view of event states and the level outputs that it is as `e` has it. -/
def Obligations.SettlesOnly : Prop :=
  ∀ d : Dev,
    (d.settle.fab = d.fab ∧ d.settle.clk = d.clk ∧ d.settle.ds = d.ds ∧ d.settle.us = d.us ∧ d.settle.term = d.term ∧
      d.settle.cls = d.cls ∧ d.settle.upm = d.upm ∧ d.settle.qsc = d.qsc ∧ d.settle.hrg = d.hrg ∧ d.settle.seq = d.seq ∧
      d.settle.fw = d.fw ∧ d.settle.stg = d.stg ∧ d.settle.vit = d.vit ∧ d.settle.twn = d.twn ∧ d.settle.obs = d.obs ∧
      d.settle.free = d.free) ∧
    ∀ (x : Fld) (i j : Nat), x.isAux = false → x.key i j / 64 ≠ 0x10020 → d.settle.f x i j = d.f x i j

/-- The state right after PORST_n (R489, row "Before 0" and row 0). -/
def Obligations.ResetLeaves : Prop :=
  State.reset.pending = [] ∧
  (∀ k, k ≤ 32 → 1 ≤ k → State.reset.dev.f F.PWR_DOM_PSTATE k = (if k = 1 ∨ k = 32 then 2 else if k = 2 then 1 else 0)) ∧
  State.reset.dev.f F.PWR_STATE_STATE = 1 ∧ State.reset.dev.f F.CKX_CORE_CTL_SRC = 0 ∧
  State.reset.dev.stored 0x10100 = 1 ∧ State.reset.dev.f F.PWR_POND_LVL_LEVEL = 32000000000 ∧
  State.reset.dev.f F.MBX_BOOT_STAGE = 0 ∧ State.reset.dev.settle = State.reset.dev

/-- An assignment to a field of width w keeps the low w bits (R13), and no other field changes. -/
def Obligations.FieldAssignment : Prop :=
  ∀ (d : Dev) (x : Fld) (i j v : Nat),
    (d.setIJ x i j v).f x i j = v % 2 ^ x.w ∧
    ∀ (y : Fld) (k l : Nat), (y.isAux ≠ x.isAux ∨ y.key k l ≠ x.key i j) → (d.setIJ x i j v).f y k l = d.f y k l

/-- The canonical form makes equal register contents equal data. -/
def Obligations.AssignmentKeepsCanonicalForm : Prop :=
  ∀ (d : Dev) (x : Fld) (i j v : Nat), d.filesWf = true → (d.setIJ x i j v).filesWf = true

/-- R495, sentence by sentence; code 3h is the host wake of R426. `level` and index of the dropped write: COUNT saturates, LAST_OFS holds
the offset. The doorbell registers are those at page offsets 0, 8, 10h and 18h. A host's access waits while crossing 7 is not open
(R53), and Docent's to a register it may not access stops Docent (R337): `reach`, `mpuWrite` and `mpuRead` set those aside. -/
def Obligations.UnpoweredDomainAccess : Prop :=
  (∀ (off : Nat) (w : RegWr) (s : State), busOffset off = true → (off < 0x110000 ∨ 0x114000 ≤ off) → fldsAt off ≠ [] →
    s.dev.reach w.agent = true → (w.agent == .docent && mpuWrite off) = false →
    s.dev.denied w.agent = false → s.dev.on (domainOf off) = false →
      let d := ((s.dev.count F.RST_REG_DROP_COUNT).set F.RST_REG_DROP_LAST_OFS off).respond .done
      exec (.registerWrite off w) s = .next (s.after ((if s.dev.pwr.dropRaised then d
        else { d.raise 1607 with pwr := { (d.raise 1607).pwr with dropRaised := true } }).accessed s.dev w.agent off))) ∧
  (∀ (off t : Nat) (a : Agent) (s : State), busOffset off = true → (off < 0x1FF000 ∨ 0x200000 ≤ off) → fldsAt off ≠ [] →
    s.dev.reach a = true → (a == .docent && mpuRead off) = false →
    s.dev.denied a = false → s.dev.on (domainOf off) = false →
      exec (.registerRead a off t) s = .next (s.after ((s.dev.respond .done 0).accessed s.dev a off))) ∧
  (∀ (f n : Nat) (w : RegWr) (s : State), f < 4 → n < 4 → s.dev.reach w.agent = true → s.dev.denied w.agent = false → s.dev.on 27 = false →
      let d := ((s.dev.wake 3).respond .done).accessed s.dev w.agent (0x110000 + 0x1000 * f + 8 * n)
      exec (.registerWrite (0x110000 + 0x1000 * f + 8 * n) w) s =
        .next (s.after { d with pwr := { d.pwr with heldDb := d.pwr.heldDb ++ [(f, n, w)] } })) ∧
  (∀ (off t : Nat) (a : Agent) (w : RegWr) (s : State), busOffset off = true → (s.dev.inStill = true ∨ s.dev.inOff = true) →
      ((off < 0x110000 ∨ 0x114000 ≤ off) → exec (.registerWrite off w) s = .next (s.after ((s.dev.wake 3).respond .deny))) ∧
      exec (.registerRead a off t) s = .next (s.after ((s.dev.wake 3).respond .deny)) ∧
      ∀ f n : Nat, f < 4 → n < 4 →
        exec (.registerWrite (0x110000 + 0x1000 * f + 8 * n) w) s = .next (s.after ((s.dev.wake 3).respond .deny)))

/-- R475: the page's content, who is served, and that every other unprivileged request is denied. -/
def Obligations.UserPage : Prop :=
  (∀ (o t : Nat) (a : Agent) (s : State), o % 8 = 0 → o < 0x1000 → s.dev.inStill = false → s.dev.inOff = false →
    s.dev.reach a = true →
    (match a with | .host f u => u = false ∨ bit (s.dev.f F.OBS_CTL_UACC) f.val = true | _ => True) →
      exec (.registerRead a (0x1FF000 + o) t) s = .next (s.after ((s.dev.respond .done
        (if o = 0 then s.dev.f F.OBS_CYCLE_CYCLE
         else if o ≤ 64 ∧ s.dev.f F.OBS_PMC_CFG_USER (o / 8 - 1) ≠ 0 then s.dev.f F.OBS_PMC_CNT_COUNT (o / 8 - 1)
         else 0)).accessed s.dev a (0x1FF000 + o)))) ∧
  (∀ (off t : Nat) (f : Fin 4) (s : State), busOffset off = true → s.dev.inStill = false → s.dev.inOff = false →
    s.dev.reach (.host f true) = true →
    (off < 0x1FF000 ∨ 0x200000 ≤ off ∨ bit (s.dev.f F.OBS_CTL_UACC) f.val = false) →
      exec (.registerRead (.host f true) off t) s = .next (s.after ((s.dev.respond .deny).accessed s.dev (.host f true) off))) ∧
  (∀ (off : Nat) (f : Fin 4) (m : BitVec 8) (v : Word) (s : State), busOffset off = true → s.dev.inStill = false →
    s.dev.inOff = false → s.dev.reach (.host f true) = true →
      exec (.registerWrite off ⟨.host f true, m, v⟩) s = .next (s.after ((s.dev.respond .deny).accessed s.dev (.host f true) off)))

/-- The access codes RW, W1C and RO of R8 under the octet enables of R508, bit by bit. -/
def Obligations.AccessCodesBitByBit : Prop :=
  ∀ (d : Dev) (x : Fld) (w : RegWr) (i j b : Nat), x.lo + x.w ≤ 64 → b < x.w → d.f x i j < 2 ^ x.w →
    let on := w.mask.getLsbD ((x.lo + b) / 8)
    let v := w.data.getLsbD (x.lo + b)
    (x.acc = .rw → bit ((d.put x w i j).f x i j) b = if on then v else bit (d.f x i j) b) ∧
    (x.acc = .w1c → bit ((d.put x w i j).f x i j) b = (bit (d.f x i j) b && !(on && v))) ∧
    (x.acc = .ro ∨ x.acc = .rc ∨ x.acc = .wo ∨ x.acc = .st ∨ x.acc = .se → d.put x w i j = d) ∧
    ∀ (y : Fld) (k l : Nat), (y.isAux ≠ x.isAux ∨ y.key k l ≠ x.key i j) → (d.put x w i j).f y k l = d.f y k l

/-- The register target at work: an RW register, an RC register, and an offset without one. -/
def Obligations.RegisterWriteAndReadComplete : Prop :=
  (∀ (w : RegWr) (s : State), s.dev.passes w.agent 0x10 → w.mask = 255 →
    exec (.registerWrite 0x10 w) s = .next (s.after (((s.dev.set F.ID_SCRATCH_DATA w.data.toNat).respond .done).accessed s.dev w.agent 0x10))) ∧
  (∀ (a : Agent) (t : Nat) (s : State), s.dev.passes a 0x10 →
    exec (.registerRead a 0x10 t) s = .next (s.after ((s.dev.respond .done (s.dev.f F.ID_SCRATCH_DATA)).accessed s.dev a 0x10))) ∧
  (∀ (a : Agent) (t : Nat) (s : State), s.dev.passes a 0x10018 →
    exec (.registerRead a 0x10018 t) s = .next (s.after
      (((((s.dev.set F.CKX_TICK_CNT_FLYWHEEL_CNT 0).set F.CKX_TICK_CNT_STEP_CNT 0).set F.CKX_TICK_CNT_HOLDOVER_CNT 0).respond .done
        (s.dev.f F.CKX_TICK_CNT_FLYWHEEL_CNT + s.dev.f F.CKX_TICK_CNT_STEP_CNT * 2 ^ 16 + s.dev.f F.CKX_TICK_CNT_HOLDOVER_CNT * 2 ^ 32)).accessed s.dev a 0x10018))) ∧
  (∀ (off t : Nat) (w : RegWr) (s : State), off = 0x28 ∨ off = 0x20100 ∨ off = 0x20108 ∨ off = 0x3FFFF8 →
    s.dev.reach w.agent = true → s.dev.denied w.agent = false →
    exec (.registerWrite off w) s = .next (s.after ((s.dev.respond .done).accessed s.dev w.agent off)) ∧
    exec (.registerRead w.agent off t) s = .next (s.after ((s.dev.respond .done 0).accessed s.dev w.agent off)))

/-- Two names of one access agree: the rows for particular registers, and the general register write. -/
def Obligations.RowsAreRegisterWrites : Prop :=
  ∀ (w : RegWr) (s : State),
    exec (.rxEnWrite w) s = exec (.registerWrite 0x40000 w) s ∧
    exec (.gateWrite w) s = exec (.registerWrite 0x50000 w) s ∧
    exec (.phyWakeWrite w) s = exec (.registerWrite 0x50010 w) s ∧
    exec (.activateWrite w) s = exec (.registerWrite 0x60008 w) s ∧
    exec (.timeAdjWrite w) s = exec (.registerWrite 0x60068 w) s ∧
    exec (.todRateWrite w) s = exec (.registerWrite 0x60050 w) s ∧
    exec (.qscFlush w) s = exec (.registerWrite 0xC0010 w) s ∧
    exec (.pwrPondCfgWrite w) s = exec (.registerWrite 0x20800 w) s ∧
    exec (.slcFlagSet w) s = exec (.registerWrite 0x140480 w) s ∧
    exec (.slcFlagClr w) s = exec (.registerWrite 0x140488 w) s ∧
    exec (.evqSwsrcWrite w) s = exec (.registerWrite 0x150208 w) s ∧
    exec (.seqPatchWrite w) s = exec (.registerWrite 0x160070 w) s ∧
    exec (.mb1Ack w) s = exec (.registerWrite 0x178008 w) s ∧
    exec (.wdogKick w) s = exec (.registerWrite 0x178098 w) s ∧
    exec (.stgSelWrite w) s = exec (.registerWrite 0x180000 w) s ∧
    exec (.pwrHvoteWrite w) s = exec (.registerWrite 0x20068 w) s ∧
    exec (.pwrCvoteWrite w) s = exec (.registerWrite 0x20070 w) s ∧
    exec (.pwrDvfsCtlWrite w) s = exec (.registerWrite 0x20010 w) s ∧
    exec (.pwrRegWrite w) s = exec (.registerWrite 0x20038 w) s ∧
    exec (.pwrWatchCtlWrite w) s = exec (.registerWrite 0x20040 w) s ∧
    exec (.twnEnWrite w) s = exec (.registerWrite 0x1E0000 w) s ∧
    exec (.obsSnapGo w) s = exec (.registerWrite 0x1F0400 w) s ∧
    exec (.pmcRunWrite w) s = exec (.registerWrite 0x1F0010 w) s ∧
    exec (.trcCfgWrite w) s = exec (.registerWrite 0x1F0200 w) s ∧
    exec (.trcSeedWrite w) s = exec (.registerWrite 0x1F0228 w) s ∧
    exec (.trcCiWrite w) s = exec (.registerWrite 0x1F0218 w) s ∧
    exec (.bwCfgWrite w) s = exec (.registerWrite 0x1F0300 w) s ∧
    ∀ f : Nat, f < 4 →
      exec (.hrgDbWq f w) s = exec (.registerWrite (0x110000 + 0x1000 * f) w) s ∧
      exec (.hrgDbCq f w) s = exec (.registerWrite (0x110008 + 0x1000 * f) w) s ∧
      exec (.hrgDbAwq f w) s = exec (.registerWrite (0x110010 + 0x1000 * f) w) s ∧
      exec (.hrgDbAcq f w) s = exec (.registerWrite (0x110018 + 0x1000 * f) w) s ∧
      exec (.hrgFuncRst f w) s = exec (.registerWrite (0x1100F0 + 0x1000 * f) w) s

/-- R505: taken as FAULT; the late response is discarded and frees the tag. -/
def Obligations.AcfTimeoutIsFault : Prop :=
  (∀ (k : FabKind) (r : FabReq) (s : State), s.dev.outstanding k = some r →
    exec (.acfTimeout k) s =
      .next (s.after (Dev.faultAnswer k { s.dev with fab := { s.dev.fab with late := s.dev.fab.late ++ [(k, r.bursts)] } }))) ∧
  (∀ (k : FabKind) (n : Nat) (c : Rsp) (g : FabReq → Dev → Dev) (d : Dev),
    d.outstanding k = none → (k, n) ∈ d.fab.late → d.xUp 6 = true →
    d.answer k c g = { d with fab := { d.fab with late := d.fab.late.eraseP (fun p => p.1 == k) } }.fabPump (kindWrites k))

/-- R41 with R36 to R38: the duties of a TICK, each a named operation on the device, in their order. The time from the last TICK's edge to
this one is the ideal instant of its source (R30, R32, R33, R37) and the lag. The activity of kind 14 in the tick is a free value (`draw`),
log entry 3; the lag is the command's, and the instant of the first TICK rests on when the core switched (log entry 32). -/
def Obligations.TickDutiesInOrder : Prop :=
  (∀ (cyc dt lag : Nat) (sens : List (Option Int)) (s : State),
    let src := s.dev.tickSource
    let stepped := src == 1 && s.dev.clk.relock
    let late : Int := (lag * 16 : Nat)
    let gone := s.dev.tickIdeal src dt + late
    s.dev.onPll = true → s.dev.inStill = false → s.dev.inOff = false → s.dev.lagOk lag = true → 0 < gone →
    let c := s.dev.tickCounted cyc src stepped gone late
    let ideal := shiftTime c.term.time (-late)
    exec (.tick cyc dt lag sens) s = .next (s.after ((c.tickLatched lag src stepped ideal).tickDuties src ideal sens))) ∧
  (∀ (d : Dev) (cyc src : Nat) (stepped : Bool) (gone late : Int),
    let a := (((d.profDone.tickRebase src gone late).coreEdges cyc).timeTick gone.toNat).onceTick
    let b := a.draw.2.act 14 a.draw.1
    d.tickCounted cyc src stepped gone late = { b with clk := { b.clk with
      sfc := if b.clk.first then 0 else (b.clk.sfc + 1) % 2 ^ 51
      ticks := b.clk.ticks + 1, first := false, relock := b.clk.relock && !stepped } }) ∧
  (∀ (d : Dev) (lag src ideal : Nat) (stepped : Bool),
    let e := (d.tickLatch src ideal lag stepped).rateTick src ideal d.tickTime
    d.tickLatched lag src stepped ideal = { e with pwr := { e.pwr with coarse := e.term.time } }) ∧
  ∀ (d : Dev) (src ideal : Nat) (sens : List (Option Int)),
    let m := d.pondForce.stgApply.twinTick.dsTick.decoderTick
    let u := (((m.vitTick m.clk.sfc src ideal (m.b F.TST_TOD_STAT_VALID)).seqTick).termTick).upstreamTick src
    let r := if u.on 26 then u.refill else u
    d.tickDuties src ideal sens =
      (((((((r.slcTick.thermTick sens).pondAdvance).profRetry).docentDrain).adminTick).docentReqTick).governor.watchTick.bwTick)

/-- R31 and R38 for the registers, R30, R32 and R37 for the sources and instants, R46. -/
def Obligations.TickLatches : Prop :=
  (∀ (d : Dev) (src ideal lag : Nat) (st : Bool), src < 4 →
    let e := d.tickLatch src ideal lag st
    e.f F.CKX_TICK_STAT_SRC = src ∧ e.f F.CKX_TICK_STAT_STEPPED = (if st then 1 else 0) ∧ e.f F.CKX_TICK_STAT_LAG = lag % 65536 ∧
    e.f F.CKX_TICK_STAT_SYNC_POS = (if src = 1 then d.ds.syncPos % 1024 else d.f F.CKX_TICK_STAT_SYNC_POS) ∧
    e.f F.CKX_TICK_STAT_SFC_LOW = d.clk.sfc % 2 ^ 32 ∧ e.f F.CKX_TICK_TIME_LO_FRAC = ideal % 65536 ∧
    e.f F.CKX_TICK_TIME_LO_NS = ideal / 65536 % 1000000000 ∧ e.f F.CKX_TICK_TIME_HI_SEC = ideal / (65536 * 1000000000) % 2 ^ 48 ∧
    e.f F.CKX_TICK_TIME_LO_SEQ = d.clk.sfc % 65536 ∧ e.f F.CKX_TICK_TIME_HI_SEQ = d.clk.sfc % 65536 ∧
    (src = 2 → e.f F.CKX_TICK_CNT_FLYWHEEL_CNT = min (d.f F.CKX_TICK_CNT_FLYWHEEL_CNT + 1) 0xFFFF) ∧
    (src = 3 → e.f F.CKX_TICK_CNT_HOLDOVER_CNT = min (d.f F.CKX_TICK_CNT_HOLDOVER_CNT + 1) 0xFFFFFFFF) ∧
    (st = true → e.f F.CKX_TICK_CNT_STEP_CNT = min (d.f F.CKX_TICK_CNT_STEP_CNT + 1) 0xFFFF)) ∧
  (∀ d : Dev, let h := d.clk.first = true ∨ d.f F.TDS_SYNC_STAT_STATE ≠ 2 ∨ d.pins.dsLos = true ∨ d.dsStopped = true
    (d.tickSource = 3 ↔ h) ∧ (d.tickSource = 1 ↔ ¬ h ∧ (d.clk.relock = true ∨ d.ds.frameOk = true)) ∧
    (d.tickSource = 2 ↔ ¬ h ∧ d.clk.relock = false ∧ d.ds.frameOk = false)) ∧
  (∀ (d : Dev) (since : Nat),
    (∀ t, d.clk.ref = some t → d.clk.relock = false → d.tickIdeal 1 since = t + 1600 * 65536 ∧ d.tickIdeal 2 since = t + 1600 * 65536) ∧
    (d.clk.ref = none → d.tickIdeal 2 since = 125000 * 65536 - d.clk.refAgo + 1600 * 65536) ∧
    (d.clk.first = false → d.tickIdeal 3 since = d.clk.hoAt + d.hoPeriod.1) ∧
    (d.clk.relock = true → let t := d.clk.relockRef + 1600 * 65536
      120000 * 65536 ≤ d.tickIdeal 1 since ∧ (∃ n : Nat, d.tickIdeal 1 since = t + n * (125000 * 65536)) ∧
      (t < d.tickIdeal 1 since → d.tickIdeal 1 since < 245000 * 65536))) ∧
  ∀ (cyc dt lag : Nat) (sens : List (Option Int)) (s : State), s.dev.onPll = false →
    exec (.tick cyc dt lag sens) s = .next (s.after s.dev)

/-- R44 and R45. That PLL_EN acts in a write whose SRC is refused is the model's choice, log entry 13. -/
def Obligations.CoreClockCommands : Prop :=
  (∀ (w : RegWr) (s : State), w.agent = .curator → s.dev.passes w.agent 0x10020 → w.fld F.CKX_CORE_CTL_SRC = 0 →
    w.fld F.CKX_CORE_CTL_PLL_EN = 1 →
    exec (.pllEnable w) s = .next (s.after ((((s.dev.put F.CKX_CORE_CTL_REFUSED w).set F.CKX_CORE_CTL_PLL_EN 1).respond .done).accessed s.dev w.agent 0x10020))) ∧
  (∀ s : State, s.dev.f F.CKX_CORE_CTL_PLL_EN ≠ 0 → exec .pllLock s = .next (s.after (s.dev.set F.CKX_CORE_CTL_LOCK 1))) ∧
  (∀ (w : RegWr) (s : State), w.agent = .curator → s.dev.passes w.agent 0x10020 → w.fld F.CKX_CORE_CTL_SRC = 1 →
    s.dev.onPll = false → w.fld F.CKX_CORE_CTL_PLL_EN = 1 →
    let r := s.dev.put F.CKX_CORE_CTL_REFUSED w
    (s.dev.f F.CKX_CORE_CTL_LOCK ≠ 0 →
      let d : Dev := { r.set F.CKX_CORE_CTL_SRC 1 with clk := { r.clk with first := true, hoN := 0, hoAt := 0, hoSlip := 0 } }
      let b := if d.f F.MBX_BOOT_STAGE = 3 then d.bootStage 4 else d
      exec (.coreClockSwitch w) s = .next (s.after (((b.set F.CKX_CORE_CTL_PLL_EN 1).respond .done).accessed s.dev w.agent 0x10020))) ∧
    (s.dev.f F.CKX_CORE_CTL_LOCK = 0 →
      exec (.coreClockSwitch w) s = .next (s.after ((((r.set F.CKX_CORE_CTL_REFUSED 1).set F.CKX_CORE_CTL_PLL_EN 1).respond .done).accessed s.dev w.agent 0x10020)))) ∧
  (∀ (w : RegWr) (s : State), w.agent ≠ .curator → s.dev.passes w.agent 0x10020 →
    (w.fld F.CKX_CORE_CTL_SRC = 1 → exec (.coreClockSwitch w) s = .next (s.after ((s.dev.respond .done).accessed s.dev w.agent 0x10020))) ∧
    (w.fld F.CKX_CORE_CTL_SRC = 0 → w.fld F.CKX_CORE_CTL_PLL_EN = 1 →
      exec (.pllEnable w) s = .next (s.after ((s.dev.respond .done).accessed s.dev w.agent 0x10020))))

/-- R47, R48, R501 and R516. That the stop of UP_CLK n shows as a link fall is read from R494 by inference (log entry 13). -/
def Obligations.ClocksStopAndReturn : Prop :=
  (∀ (c x words : Nat) (s : State), 1 ≤ c → c < 10 → bit s.dev.clk.stopped c = false →
    let d : Dev := { s.dev with clk := { s.dev.clk with stopped := withBit s.dev.clk.stopped c true } }
    let d := if x = 0 ∨ (2 ≤ x ∧ x ≤ 5) then d.xDrop x words else d
    let d := d.set F.CKX_CLKMON_STOPPED (withBit (d.f F.CKX_CLKMON_STOPPED) c true)
    let e := d.raise 1121
    exec (.clkStop c x words) s = .next (s.after
      (if d.clkUnwired c then d
       else if c = 3 then ({ e with clk := { e.clk with usBlocked := true } } : Dev).purge
       else if 5 ≤ c ∧ c ≤ 8 then (if (e.port (c - 5)).link then e.linkMoved (c - 5) false else e)
       else if c = 9 ∧ e.on 30 = true then e.peerReset
       else e))) ∧
  (∀ (c x words : Nat) (s : State), 1 ≤ c → c < 10 → bit s.dev.clk.stopped c = true →
    let d : Dev := { s.dev with clk := { s.dev.clk with stopped := withBit s.dev.clk.stopped c false } }
    let d := if x = 0 ∨ (2 ≤ x ∧ x ≤ 5) then d.xDrop x words else d
    let d := d.set F.CKX_CLKMON_STOPPED (withBit (d.f F.CKX_CLKMON_STOPPED) c true)
    let e := d.raise 1122
    exec (.clkReturn c x words) s = .next (s.after
      (if d.clkUnwired c then d
       else if 5 ≤ c ∧ c ≤ 8 ∧ (e.port (c - 5)).link = true then e.linkMoved (c - 5) true
       else if c = 4 then e.fabResume
       else e))) ∧
  (∀ s : State, bit s.dev.clk.stopped 0 = false →
    let d : Dev := { s.dev with clk := { s.dev.clk with stopped := withBit s.dev.clk.stopped 0 true } }
    exec .refclkAbsent s = .next (s.after
      (((d.set F.CKX_CLKMON_STOPPED (withBit (d.f F.CKX_CLKMON_STOPPED) 0 true)).raise 1121).aonSource true))) ∧
  (∀ s : State, bit s.dev.clk.stopped 0 = true →
    let d : Dev := { s.dev with clk := { s.dev.clk with stopped := withBit s.dev.clk.stopped 0 false } }
    exec .refclkRestored s = .next (s.after
      (((d.set F.CKX_CLKMON_STOPPED (withBit (d.f F.CKX_CLKMON_STOPPED) 0 true)).raise 1122).aonSource false))) ∧
  ∀ (d : Dev) (slow : Bool), (d.aonSource slow).f F.CKX_CLKMON_AON_SRC = (if slow then 1 else 0)

/-- R53, steps 1 to 4, and R54. -/
def Obligations.CrossingHandshake : Prop :=
  (∀ (x words : Nat) (s : State), x ≤ 10 → s.dev.on 1 = true →
    let d := s.dev.xDrop x words
    exec (.peerReset x words) s = .next (s.after
      (((d.set F.CKX_XSTAT_PEER_RESET (withBit (d.f F.CKX_XSTAT_PEER_RESET) x true)).set F.CKX_XSTAT_HANDSHAKE
        (withBit (d.f F.CKX_XSTAT_HANDSHAKE) x false)).raise 1123))) ∧
  (∀ (x words : Nat) (s : State), x ≤ 10 → s.dev.on 1 = true →
    (bit (s.dev.f F.CKX_XSTAT_PEER_RESET) x = true ∨ bit s.dev.clk.xRestart x = true) →
    let d := ({ s.dev with clk := { s.dev.clk with xRestart := withBit s.dev.clk.xRestart x false } } : Dev).xDrop x words
    exec (.crossingAlive x words) s = .next (s.after
      ((d.set F.CKX_XSTAT_PEER_RESET (withBit (d.f F.CKX_XSTAT_PEER_RESET) x false)).set F.CKX_XSTAT_HANDSHAKE
        (withBit (d.f F.CKX_XSTAT_HANDSHAKE) x true)))) ∧
  (∀ (x : Nat) (s : State), x ≤ 10 → bit (s.dev.f F.CKX_XSTAT_HANDSHAKE) x = true →
    let d := (s.dev.set F.CKX_XSTAT_PEER_RESET (withBit (s.dev.f F.CKX_XSTAT_PEER_RESET) x false)).set F.CKX_XSTAT_HANDSHAKE
      (withBit (s.dev.f F.CKX_XSTAT_HANDSHAKE) x false)
    exec (.crossingAck x) s = .next (s.after (if x = 6 then d.fabResume else d))) ∧
  ∀ (d : Dev) (x n : Nat), n ≠ 0 → x ≤ 10 →
    (d.xDrop x n).f F.CKX_XDROP_DROPS = min (d.f F.CKX_XDROP_DROPS + n) 0xFFFFFFFF ∧ (d.xDrop x n).f F.CKX_XDROP_LAST_XID = x

/-- R414, R416 and R417, and the halted block of R342. PSTATE codes: 0 off, 1 powering up, 2 on, 3 powering down. -/
def Obligations.DomainFollowsVotes : Prop :=
  ∀ (d : Dev) (k : Nat), 1 ≤ k → k ≤ 32 →
    let e := d.domainSettle k
    let p := d.f F.PWR_DOM_PSTATE k
    let want := d.votes k ≠ 0 ∧ ¬ (d.f F.MBX_BOOT_STAGE = 7 ∧ 2 ≤ k)
    e.f F.PWR_DOM_VOTES k = d.votes k % 2 ^ 7 ∧
    (p = 0 → want → d.mayRise k = true → e.f F.PWR_DOM_PSTATE k = 1) ∧
    (p = 2 → ¬ want → e.f F.PWR_DOM_PSTATE k = 3) ∧
    (p = 3 → want → e.f F.PWR_DOM_PSTATE k = 2 ∧ e.f F.PWR_DOM_CNT_ABORTS k = min (d.f F.PWR_DOM_CNT_ABORTS k + 1) 0xFFFF ∧
      e.f F.PWR_DOM_CNT_ABORT_SRC k = d.pwr.latched.getD 8 % 16) ∧
    ((p = 0 ∧ ¬ (want ∧ d.mayRise k = true)) ∨ (p = 2 ∧ want) ∨ (p = 3 ∧ ¬ want) ∨ p = 1 → e.f F.PWR_DOM_PSTATE k = p) ∧
    ∀ j, j ≤ 32 → j ≠ k → e.f F.PWR_DOM_PSTATE j = d.f F.PWR_DOM_PSTATE j

/-- R414 to R416. Bit k of the masks is PDk. Which of Curator's votes are refused is read from R29 and R415 by inference
(log entry 49). That a refused VOTE raises KEY_REFUSED is read from R353 by inference (log entry 14). -/
def Obligations.VoteCommands : Prop :=
  (∀ (w : RegWr) (s : State), w.agent.isHost = true → s.dev.passes w.agent 0x20068 →
    let old := 2 * s.dev.f F.PWR_HVOTE_VOTE
    let new := 2 * w.merged F.PWR_HVOTE_VOTE (s.dev.f F.PWR_HVOTE_VOTE)
    let up := domains.filter (fun k => bit new k && !bit old k)
    let no := up.filter (fun k => s.dev.voteRefused 2 k)
    let a := s.dev.set F.PWR_HVOTE_VOTE (no.foldl (fun m k => withBit m k false) new / 2)
    let b := no.foldl (fun d k => ((d.count F.PWR_DOM_CNT_REFUSALS k).setI F.PWR_DOM_CNT_REFUSER k 7).raise 1355) a
    let c := (up.filter (fun k => !no.contains k)).foldl Dev.voteWakes b
    exec (.pwrHvoteWrite w) s =
      .next (s.after ((((domains.filter (fun k => !bit new k && bit old k)).foldl Dev.withdrawn c).respond .done).accessed s.dev w.agent 0x20068))) ∧
  (∀ (w : RegWr) (s : State), w.agent = .curator → s.dev.passes w.agent 0x20070 →
    let held := if s.dev.pwr.held then 1 + 2 ^ 31 else 0
    let new := w.merged F.PWR_CVOTE_VOTE (s.dev.f F.PWR_CVOTE_VOTE)
    let was := 2 * (s.dev.f F.PWR_CVOTE_VOTE ||| held)
    let is := 2 * (new ||| held)
    let up := domains.filter (fun k => bit is k && !bit was k)
    let no := up.filter (fun k => s.dev.voteRefused 0 k)
    let a := s.dev.set F.PWR_CVOTE_VOTE (new &&& no.foldl (fun m k => withBit m k false) is / 2)
    let b := no.foldl (fun d k => ((d.count F.PWR_DOM_CNT_REFUSALS k).setI F.PWR_DOM_CNT_REFUSER k 7).raise 1355) a
    let c := (up.filter (fun k => !no.contains k)).foldl Dev.voteWakes b
    exec (.pwrCvoteWrite w) s =
      .next (s.after ((((domains.filter (fun k => !bit is k && bit was k)).foldl Dev.withdrawn c).respond .done).accessed s.dev w.agent 0x20070))) ∧
  (∀ (k : Nat) (v : Bool) (s : State), 1 ≤ k → k ≤ 32 → s.dev.docentRuns = true → s.dev.on 1 = true →
    let no := v && !bit s.dev.pwr.docentVotes k && s.dev.voteRefused 3 k
    exec (.vote k v) s = .next (s.after ((s.dev.castVotes 3 s.dev.pwr.docentVotes (withBit s.dev.pwr.docentVotes k v)
      (fun m d => { d with pwr := { d.pwr with docentVotes := m } })).raiseIf no 1447))) ∧
  ∀ (w : RegWr) (s : State),
    (w.agent.isHost = false → s.dev.passes w.agent 0x20068 → exec (.pwrHvoteWrite w) s = .next (s.after ((s.dev.respond .done).accessed s.dev w.agent 0x20068))) ∧
    (w.agent ≠ .curator → s.dev.passes w.agent 0x20070 → exec (.pwrCvoteWrite w) s = .next (s.after ((s.dev.respond .done).accessed s.dev w.agent 0x20070)))

/-- R417 and R418. -/
def Obligations.DomainSwitches : Prop :=
  (∀ (k : Nat) (s : State), 1 ≤ k → k ≤ 32 → s.dev.f F.PWR_DOM_PSTATE k = 3 →
    let d : Dev := if k = 11 then { s.dev with ds := { s.dev.ds with filterOpen := false } } else if k = 3 then s.dev.rxCut else s.dev
    exec (.domainPowerDownDone k) s = .next (s.after (((d.contentLost k).regsLost k).setI F.PWR_DOM_PSTATE k 0))) ∧
  (∀ (k : Nat) (up : List Upset) (s : State), 1 ≤ k → k ≤ 32 → s.dev.f F.PWR_DOM_PSTATE k = 1 →
    exec (.domainPowerUpDone k up) s = .next (s.after (((s.dev.restoreFaults k up).setI F.PWR_DOM_PSTATE k 2).domainReady k))) ∧
  (∀ (d : Dev) (k : Nat) (x : Fld) (i j : Nat), domainOf (x.key i j / 64) ≠ k → (d.regsLost k).f x i j = d.f x i j) ∧
  ∀ (d : Dev) (k : Nat) (x : Fld) (i j : Nat), domainOf (x.key i j / 64) = k → keyKeep (x.key i j) = .lost →
    (d.regsLost k).f x i j = x.rst

/-- R409 to R411. A higher point number is slower, so a permitted frequency point is at least the acknowledged voltage point. That AT_LIMIT
clears at the next evaluation not at the limit, and that a trim waits for AVS_ACK, are the model's readings (log entry 14). -/
def Obligations.FrequencyAndVoltage : Prop :=
  (∀ s : State, s.dev.onPll = true →
    let cur := s.dev.f F.PWR_DVFS_STAT_FPOINT
    let aim := s.dev.wantPoints.1
    let p := if cur ≤ aim then aim else max aim s.dev.pwr.ackPoint
    let d : Dev := { s.dev with pwr := { s.dev.pwr with fTarget := none } }
    exec .dvfsStep s = .next (s.after (Dev.pursue
      (if p = cur then d else ((d.set F.PWR_DVFS_STAT_FPOINT p).count F.PWR_DVFS_STAT_STEPS).raise 1345)))) ∧
  (∀ s : State, s.dev.pwr.avsWait = true →
    let d := s.dev.set F.PWR_DVFS_STAT_AVS_ACK 1
    let e : Dev := { d with pwr := { d.pwr with
      avsWait := false, ackPoint := d.f F.PWR_DVFS_STAT_VPOINT, ackCode := d.f F.PWR_DVFS_STAT_AVS_REQ } }
    exec .avsAck s = .next (s.after (if s.dev.pwr.exiting then e.exitDone else e.pursue)) ∧
    exec .avsTimeout s = .next (s.after ((s.dev.count F.PWR_AVS_STAT_TIMEOUTS).raise 1348))) ∧
  ∀ (margins : List Nat) (s : State), s.dev.f F.PWR_AVS_CTL_EN ≠ 0 → s.dev.onPll = true → margins ≠ [] →
    let m := minMargin (margins.map (fun x => x % 64))
    let d := (s.dev.set F.PWR_AVS_STAT_MIN_MARGIN m.1).set F.PWR_AVS_STAT_MIN_MON m.2
    let t := d.z F.PWR_DVFS_STAT_TRIM
    let c := d.set F.PWR_AVS_STAT_AT_LIMIT 0
    let l := (d.set F.PWR_AVS_STAT_AT_LIMIT 1).raise 1347
    exec (.avsLoop margins) s = .next (s.after
      (if m.1 < d.f F.PWR_AVS_CTL_MARGIN_LO then
        if trimTop (d.f F.PWR_DVFS_STAT_VPOINT) ≤ t then
          ({ l with pwr := { l.pwr with fTarget := some (min 4 (l.f F.PWR_DVFS_STAT_FPOINT + 1)), avsHold := 8000 } } : Dev).dvfsPending
        else if c.pwr.avsWait then c else c.trimTo (t + 1)
       else if d.f F.PWR_AVS_CTL_MARGIN_HI < m.1 ∧ -8 < t ∧ d.pwr.avsWait = false then c.trimTo (t - 1) else c))

/-- The four register rows of the power controller, each for the form that is accepted and the form that is refused. -/
def Obligations.PowerRegisterWrites : Prop :=
  (∀ (w : RegWr) (s : State), s.dev.passes w.agent 0x20010 →
    let d := s.dev
    let oldF := d.f F.PWR_DVFS_CTL_FPOINT
    let oldV := d.f F.PWR_DVFS_CTL_VPOINT
    let newF := w.merged F.PWR_DVFS_CTL_FPOINT oldF
    let newV := w.merged F.PWR_DVFS_CTL_VPOINT oldV
    let manual := w.merged F.PWR_DVFS_CTL_MANUAL (d.f F.PWR_DVFS_CTL_MANUAL) = 1
    let okF := newF = oldF ∨ (manual ∧ newF ≤ 4 ∧ d.pwr.ackPoint ≤ newF ∧ (d.f F.PWR_POND_LVL_STATE = 2 → newF = 4))
    let okV := newV = oldV ∨ (manual ∧ newV ≤ 4 ∧ newV ≤ d.f F.PWR_DVFS_STAT_FPOINT ∧ (d.f F.PWR_POND_LVL_STATE = 2 → newV = 4))
    let p := d.putAll (fldsAt 0x20010) w
    (okF → okV → exec (.pwrDvfsCtlWrite w) s = .next (s.after ((p.pursue.respond .done).accessed s.dev w.agent 0x20010))) ∧
    (¬ okF → okV → exec (.pwrDvfsCtlWrite w) s = .next (s.after
      (((((p.set F.PWR_DVFS_CTL_FPOINT oldF).set F.PWR_DVFS_CTL_REFUSED 1).raise 1346).pursue.respond .done).accessed s.dev w.agent 0x20010))) ∧
    (okF → ¬ okV → exec (.pwrDvfsCtlWrite w) s = .next (s.after
      (((((p.set F.PWR_DVFS_CTL_VPOINT oldV).set F.PWR_DVFS_CTL_REFUSED 1).raise 1346).pursue.respond .done).accessed s.dev w.agent 0x20010))) ∧
    (¬ okF → ¬ okV → exec (.pwrDvfsCtlWrite w) s = .next (s.after
      ((((((p.set F.PWR_DVFS_CTL_FPOINT oldF).set F.PWR_DVFS_CTL_VPOINT oldV).set F.PWR_DVFS_CTL_REFUSED 1).raise 1346).pursue.respond
        .done).accessed s.dev w.agent 0x20010)))) ∧
  (∀ (w : RegWr) (s : State), s.dev.passes w.agent 0x20038 →
    let on := w.merged F.PWR_REG_STILL_REFCLK (s.dev.f F.PWR_REG_STILL_REFCLK) = 1
    let load := 266 + (if on then 80 else 0) +
      5 * ((List.range 4).countP (fun n => bit (s.dev.f F.PWR_WAKE_CFG_LINK_PORTS) n))
    (load ≤ 360 ∨ load ≤ s.dev.load →
      exec (.pwrRegWrite w) s = .next (s.after (((s.dev.putAll (fldsAt 0x20038) w).respond .done).accessed s.dev w.agent 0x20038))) ∧
    (360 < load → s.dev.load < load →
      exec (.pwrRegWrite w) s = .next (s.after ((((s.dev.set F.PWR_REG_LOAD_REFUSED 1).raise 1360).respond .done).accessed s.dev w.agent 0x20038)))) ∧
  (∀ (w : RegWr) (s : State), s.dev.passes w.agent 0x20040 →
    let a := (s.dev.put F.PWR_WATCH_CTL_HOST_OK w).put F.PWR_WATCH_CTL_WLEAD w
    let b := if w.agent = .docent then a.put F.PWR_WATCH_CTL_DOCENT_REQ w else a
    let ends := w.mask.getLsbD 0 = true ∧ (b.f F.PWR_WATCH_CTL_HOST_OK = 0 ∨ b.f F.PWR_WATCH_CTL_DOCENT_REQ = 0) ∧
      b.f F.PWR_WATCH_STAT_PHASE ≠ 0
    (ends → exec (.pwrWatchCtlWrite w) s = .next (s.after (((b.wake 9).respond .done).accessed s.dev w.agent 0x20040))) ∧
    (¬ ends → exec (.pwrWatchCtlWrite w) s = .next (s.after ((b.respond .done).accessed s.dev w.agent 0x20040)))) ∧
  ∀ (w : RegWr) (s : State), s.dev.passes w.agent 0x20800 →
    let b := w.merged F.PWR_POND_CFG_BUDGET (s.dev.f F.PWR_POND_CFG_BUDGET)
    let lo := w.merged F.PWR_POND_CFG_LWM (s.dev.f F.PWR_POND_CFG_LWM)
    let hi := w.merged F.PWR_POND_CFG_HWM (s.dev.f F.PWR_POND_CFG_HWM)
    (128 ≤ b → b ≤ 1024 → lo < hi →
      exec (.pwrPondCfgWrite w) s = .next (s.after (((s.dev.putAll (fldsAt 0x20800) w).respond .done).accessed s.dev w.agent 0x20800))) ∧
    (b < 128 ∨ 1024 < b ∨ hi ≤ lo →
      exec (.pwrPondCfgWrite w) s = .next (s.after (((s.dev.set F.PWR_POND_CFG_REFUSED 1).respond .done).accessed s.dev w.agent 0x20800)))

/-- R237 for the level, R239 for the hysteresis. Capacity is 16,000 nominal refills. -/
def Obligations.MillpondAdvances : Prop :=
  (∀ d : Dev, d.f F.PWR_POND_CFG_BUDGET ≤ 1024 →
    let cap := pondCap (d.f F.PWR_POND_CFG_BUDGET)
    let level := max (min (d.z F.PWR_POND_LVL_LEVEL + d.pondRefill) cap - d.pondCharge) (-cap)
    d.pondAdvance.z F.PWR_POND_LVL_LEVEL = level ∧ -cap ≤ level ∧ level ≤ cap ∧
    d.pondAdvance.f F.PWR_POND_TICK_CHARGE = min d.pondCharge (2 ^ 32 - 1) ∧ d.pondAdvance.pwr.acts = List.replicate 16 0 ∧
    d.pondAdvance.f F.PWR_POND_LVL_STATE = d.f F.PWR_POND_LVL_STATE) ∧
  (∀ d : Dev, d.pondForce.f F.PWR_POND_LVL_STATE = d.pwr.pondNext % 4) ∧
  (∀ d : Dev, let t := d.z F.PWR_THERM_STAT_HOTTEST; let s := d.z F.PWR_POND_THERM_T_SOFT; let h := d.z F.PWR_POND_THERM_T_HARD
    let nom := refillNom (d.f F.PWR_POND_CFG_BUDGET)
    (t ≤ s → d.pondRefill = nom) ∧ (s < t → h ≤ t → d.pondRefill = 0) ∧
    (s < t → t < h → (d.pondRefill : Int) * (h - s) ≤ nom * (h - t) ∧ nom * (h - t) < ((d.pondRefill : Int) + 1) * (h - s))) ∧
  ∀ (old : Nat) (level cap : Int) (lwm hwm : Nat), old ≤ 2 →
    pondState true old level cap lwm hwm = 2 ∧
    (pondState false 0 level cap lwm hwm = 1 ↔ level * 256 < cap * lwm) ∧
    (old ≠ 0 → (pondState false old level cap lwm hwm = 0 ↔ cap * hwm ≤ level * 256))

/-- R422, R423 and R426. PHASE codes as PWR_WATCH_STAT gives them: 0 not in Watch, 1 front asleep, 2 sampling, 4 entering, 5 leaving. -/
def Obligations.WatchCommands : Prop :=
  (∀ s : State, s.dev.f F.PWR_WATCH_STAT_PHASE = 4 → (∀ k, k ∈ [2, 4, 8, 9, 10] → s.dev.f F.PWR_DOM_PSTATE k = 0) →
    exec .watchEnter s = .next (s.after
      ((((s.dev.wakeAborts.set F.PWR_STATE_ENTERING 0).set F.PWR_WATCH_STAT_PHASE 1).enterPower 2).raise 1357))) ∧
  (∀ s : State, s.dev.sampledFrame (s.dev.clk.sfc + 1) = true →
    let ph := s.dev.f F.PWR_WATCH_STAT_PHASE
    let d : Dev := { s.dev with pwr := { s.dev.pwr with watchVotes := 2 ^ 2 + 2 ^ 4 + 2 ^ 8 + 2 ^ 9 + 2 ^ 10, sample := none } }
    (ph = 1 → exec .watchSampleLead s = .next (s.after (d.set F.PWR_WATCH_STAT_PHASE 2))) ∧
    (ph = 2 ∨ ph = 4 → exec .watchSampleLead s = .next (s.after d))) ∧
  ∀ s : State, 2 ≤ s.dev.f F.PWR_STATE_STATE → s.dev.f F.PWR_WAKE_CFG_TIMER ≠ 0 →
    s.dev.f F.PWR_WAKE_CFG_TIMER ≤ s.dev.pwr.timer → bit (s.dev.f F.PWR_WAKE_CFG_EN) 7 = true →
    s.dev.pwr.exiting = false → s.dev.f F.PWR_WATCH_STAT_PHASE ≠ 5 →
    let d := s.dev.set F.PWR_WAKE_STAT_CAUSES (withBit (s.dev.f F.PWR_WAKE_STAT_CAUSES) 7 true)
    exec .wakeTimer s = .next (s.after
      { d with pwr := { d.pwr with latched := some (match d.pwr.latched with | none => 7 | some c => min c 7) } })

/-- R428 to R432. -/
def Obligations.StillAndOffCommands : Prop :=
  (∀ (t : Nat) (c : Instr) (w : RegWr) (s : State), (t = 3 ∧ c = .stillReq w) ∨ (t = 4 ∧ c = .offReq w) →
    w.agent.isHost = true ∨ w.agent = .curator → s.dev.passes w.agent 0x20008 → w.fld F.PWR_STATE_CTL_REQ = t →
    let d := s.dev.put F.PWR_STATE_CTL_REFUSED w
    let why := if d.f F.TST_STATE_STATE ≠ 0 ∧ d.f F.TST_STATE_STATE ≠ 6 then 1 else if 360 < d.load then 2
      else if d.pwr.entry ≠ .none ∨ d.f F.PWR_STATE_ENTERING ≠ 0 then 4 else 0
    let b := (d.set F.PWR_STATE_ENTERING 1).set F.PWR_HVOTE_VOTE 0
    let e := if b.f F.MBX_FW_STAT_DSTATE = 2 then b.set F.MBX_FW_STAT_DSTATE 3 else b
    (why = 0 → exec c s = .next (s.after ((({ e with pwr := { e.pwr with
      docentVotes := 0, twinVotes := 0, entry := .holds t, latched := none, keepNormal := false, entryMask := e.poweredMask } } :
      Dev).respond .done).accessed s.dev w.agent 0x20008))) ∧
    (why ≠ 0 → exec c s =
      .next (s.after ((((d.set F.PWR_STATE_CTL_REFUSED 1).set F.PWR_STATE_CTL_WHY why).respond .done).accessed s.dev w.agent 0x20008)))) ∧
  (∀ (t : Nat) (s : State), s.dev.pwr.entry = .holds t →
    let d := ((s.dev.set F.PWR_STATE_ENTERING 0).set F.PWR_STATE_CTL_REFUSED 1).set F.PWR_STATE_CTL_WHY 3
    exec .entryHoldTimeout s = .next (s.after { d with pwr := { d.pwr with entry := .none, latched := none } })) ∧
  (∀ (c : Nat) (s : State), s.dev.inStill = true ∨ s.dev.inOff = true → s.dev.pwr.latched = some c → s.dev.pwr.exiting = false →
    s.dev.pwr.avsWait = false →
    let d := (s.dev.set F.PWR_STATE_LAST_WAKE c).set F.PWR_WAKE_STAT_LAST c
    let e : Dev := { d with
      pwr := { d.pwr with latched := none, exiting := true, vitVote := true }
      pins := { d.pins with wakeReqs := d.pins.wakeReqs + 1 } }
    exec .lowPowerWake s = .next (s.after
      ((((e.set F.PWR_REG_MODE 0).set F.PWR_DVFS_STAT_VPOINT 4).set F.PWR_DVFS_STAT_TRIM 0).avsRequest 9))) ∧
  (∀ (sens : List (Option Int)) (s : State), s.dev.inStill = true →
    let h := s.dev.hoPeriod
    let d : Dev := { h.2 with
      clk := { h.2.clk with sfc := (s.dev.clk.sfc + 1) % 2 ^ 51, ticks := s.dev.clk.ticks + 1, hoN := (s.dev.clk.hoN + 1) % 500 }
      pwr := { s.dev.pwr with coarse := s.dev.pwr.coarse + h.1, timer := s.dev.pwr.timer + 1 } }
    let p := d.pondForce
    exec (.aonTick sens) s =
      .next (s.after ((p.vitTick d.clk.sfc 3 d.coarseTime (d.b F.TST_TOD_STAT_VALID)).thermTick sens).pondAdvance)) ∧
  ∀ (sens : List (Option Int)) (s : State), s.dev.inOff = true →
    let d := (List.range 6).foldl (fun (d : Dev) i => d.setB F.PWR_THERM_FAULT
      (match sens.getD i none with | none => true | some z => decide (z < -61440) || decide (z > 153600)) i) s.dev
    let e := d.faultedMask.thermTrip sens
    exec (.offSensorSample sens) s = .next (s.after { e with pwr := { e.pwr with
      coarse := e.pwr.coarse + 1000000000 * 65536, timer := e.pwr.timer + 1 } })

/-- R484 to R487, R407 and R490. -/
def Obligations.ResetCommands : Prop :=
  (∀ s : State, let r : Dev := Dev.reset
    exec .porst s = .next (s.after ({ r with
      regs := (0x10100 * 64, 1) :: s.dev.regs.filter (fun p => domainOf (p.1 / 64) == 32)
      clk := { stopped := s.dev.clk.stopped }, upm := s.dev.linkInputs
      fw := { floors := s.dev.fw.floors, draws := s.dev.fw.draws }, vit := s.dev.vit
      pins := s.dev.pinInputs, free := s.dev.free } : Dev).keptLevels)) ∧
  (∀ (held : Bool) (s : State), let r : Dev := Dev.reset
    exec (.aonBrownoutReset held) s = .next (s.after ({ r with
      regs := (0x10100 * 64 + 1, 1) :: (s.dev.vitLose held).regs.filter (fun p => domainOf (p.1 / 64) == 32 && keyKeep p.1 == .nv)
      clk := { stopped := s.dev.clk.stopped }, upm := s.dev.linkInputs
      fw := { floors := s.dev.fw.floors, draws := s.dev.fw.draws }, vit := (s.dev.vitLose held).vit
      pins := s.dev.pinInputs, free := s.dev.free } : Dev).keptLevels)) ∧
  (∀ s : State, (s.dev.inStill = false → s.dev.inOff = false →
      exec .blkrst s = .next (s.after (s.dev.blockReset F.RST_CAUSE_BLK_PIN))) ∧
    (s.dev.inStill = true ∨ s.dev.inOff = true → exec .blkrst s = .next (s.after (s.dev.wake 9)))) ∧
  (∀ (loc : Nat) (s : State), exec (.curatorEccReset [.curatorWord loc]) s =
    .next (s.after (s.dev.blockReset F.RST_CAUSE_CURATOR_ECC))) ∧
  (∀ (lowest : Nat) (s : State), s.dev.pwr.avsWait = false → s.dev.f F.PWR_DVFS_STAT_AVS_REQ ≠ 0 →
    let d := if s.dev.on 32 then s.dev.vitBrownOut 1 (lowest % 256) else s.dev
    let e := (d.blockReset F.RST_CAUSE_CORE_BO).set F.PWR_REG_BO_CORE 1
    exec (.vddCoreBrownout lowest) s = .next (s.after { e with pwr := { e.pwr with boPending := true } })) ∧
  ∀ (lowest : Nat) (s : State), s.dev.f F.PWR_REG_MODE ≠ 0 →
    let d := if s.dev.on 32 then s.dev.vitBrownOut 0 (lowest % 256) else s.dev
    let e := ((d.set F.PWR_REG_MODE 0).set F.PWR_REG_BO_AON 1).raise 1353
    exec (.vddAonLow lowest) s = .next (s.after { e with pwr := { e.pwr with keepNormal := true } })

/-- R484 and R485: what a block reset clears and what AON and PD32 keep. -/
def Obligations.BlockResetLeaves : Prop :=
  ∀ (d : Dev) (cause : Fld), cause ∈ [F.RST_CAUSE_BLK_PIN, F.RST_CAUSE_CURATOR_ECC, F.RST_CAUSE_CORE_BO, F.RST_CAUSE_STILL_EXIT,
      F.RST_CAUSE_OFF_EXIT] →
    let e := d.blockReset cause
    (∀ k, 1 ≤ k → k ≤ 31 → e.f F.PWR_DOM_PSTATE k = if k = 1 then 2 else 0) ∧
    e.f F.PWR_DOM_PSTATE 32 = d.f F.PWR_DOM_PSTATE 32 ∧ e.f F.PWR_STATE_STATE = 1 ∧ e.f F.PWR_STATE_ENTERING = 0 ∧
    e.f F.PWR_DVFS_STAT_FPOINT = 4 ∧ e.f F.CKX_CORE_CTL_SRC = 0 ∧ e.f cause = 1 ∧
    e.f F.RST_CAUSE_BLK_COUNT = min (d.f F.RST_CAUSE_BLK_COUNT + 1) (2 ^ F.RST_CAUSE_BLK_COUNT.w - 1) ∧
    (∀ (x : Fld) (i j : Nat), x.isAux = false → x.key i j / 64 ≠ 0x10100 → x.key i j ≠ F.TST_STATE_STATE.key 0 0 →
      x.key i j ≠ F.TUS_CTL_TX_INHIBIT.key 0 0 → x.key i j ≠ F.MBX_BOOT_STAGE.key 0 0 →
      e.f x i j = if domainOf (x.key i j / 64) = 32 ∨ keyKeep (x.key i j) = .aon then d.f x i j else x.rst) ∧
    (d.f F.TST_STATE_HALT_LATCH ≠ 0 → e.f F.TST_STATE_STATE = 6 ∧ e.f F.TUS_CTL_TX_INHIBIT = 1) ∧
    (d.f F.TST_STATE_HALT_LATCH = 0 → e.f F.TST_STATE_STATE = 0 ∧ e.f F.TUS_CTL_TX_INHIBIT = 0) ∧
    e.f F.MBX_BOOT_STAGE = (if d.f F.MBX_BOOT_STAGE = 7 then 7 else 0) ∧
    e.vit = d.vit ∧ e.fw.floors = d.fw.floors ∧ e.fab = {} ∧ e.ds = {} ∧ e.qsc = {} ∧ e.hrg = {} ∧ e.pins = d.pinInputs

/-- R58 to R62, state by state (TDS_SYNC_STAT.STATE: 0 HUNT, 1 PRESYNC, 2 SYNC). `watchSample` is what Watch records of a sampled frame and is
nothing outside Watch. That RX_EN = 0 counts in LOSSES is deduced (log entry 24). -/
def Obligations.SyncStateMachine : Prop :=
  (∀ (at' pos : Nat) (block : BitVec 256) (invalid : List Nat) (los : Bool) (s : State), s.dev.on 3 = true → s.dev.xUp 0 = true →
    let d : Dev := ({ s.dev with pins := { s.dev.pins with dsLos := los } } : Dev).countN F.TDS_CNT_SYNC_INVALID_WORDS invalid.length
    d.f F.TDS_CTL_RX_EN ≠ 0 → d.sampledFrame (d.clk.sfc + 1) = true →
    let p := if d.f F.TDS_SYNC_STAT_STATE = 0 then pos % 1024 else d.clk.expPos
    let dist := popCount 256 (zeroWords 256 (1023 - p) invalid block.toNat ^^^ syncPattern)
    let lost := los || d.dsStopped
    let good := dist ≤ d.f F.TDS_CTL_SYNC_THR ∧ lost = false
    let m : Dev := { d with clk := { d.clk with expPos := (p + 960) % 1024, ref := some (at' + (1023 - p) * 32768 / 100 : Nat) } }
    let x := m.set F.TDS_SYNC_STAT_DIST (min dist 255)
    let e : Dev := { x with ds := { x.ds with
      frameOk := decide good, syncPos := if good then p else x.ds.syncPos, ticking := true } }
    (d.f F.TDS_SYNC_STAT_STATE = 0 → lost = true → exec (.syncBlockCheck pos at' block invalid los) s = .next (s.after d)) ∧
    (d.f F.TDS_SYNC_STAT_STATE = 0 → lost = false → exec (.syncBlockCheck pos at' block invalid los) s = .next (s.after
      (if dist ≤ d.f F.TDS_CTL_HUNT_THR then (x.set F.TDS_SYNC_STAT_STATE 1).set F.TDS_SYNC_STAT_GOOD 1
       else d.set F.TDS_SYNC_STAT_DIST (min dist 255)))) ∧
    (d.f F.TDS_SYNC_STAT_STATE = 1 → good → exec (.syncBlockCheck pos at' block invalid los) s = .next (s.after
      (let g := e.set F.TDS_SYNC_STAT_GOOD (d.f F.TDS_SYNC_STAT_GOOD + 1)
       if g.f F.TDS_SYNC_STAT_GOOD = 3 then g.syncAcquired else g))) ∧
    (d.f F.TDS_SYNC_STAT_STATE = 1 → ¬ good → exec (.syncBlockCheck pos at' block invalid los) s =
      .next (s.after ((e.set F.TDS_SYNC_STAT_STATE 0).set F.TDS_SYNC_STAT_GOOD 0))) ∧
    (d.f F.TDS_SYNC_STAT_STATE = 2 → good →
      exec (.syncBlockCheck pos at' block invalid los) s = .next (s.after ((e.watchSample true).set F.TDS_SYNC_STAT_BAD 0))) ∧
    (d.f F.TDS_SYNC_STAT_STATE = 2 → ¬ good → exec (.syncBlockCheck pos at' block invalid los) s = .next (s.after
      (let w := e.watchSample false
       let b := w.set F.TDS_SYNC_STAT_BAD (w.f F.TDS_SYNC_STAT_BAD + 1)
       if b.f F.TDS_SYNC_STAT_BAD = 4 then b.syncLost else b)))) ∧
  ∀ (w : RegWr) (s : State), s.dev.passes w.agent 0x40000 →
    let d := (((s.dev.put F.TDS_CTL_RX_EN w).put F.TDS_CTL_HUNT_THR w).put F.TDS_CTL_SYNC_THR w).put F.TDS_CTL_RSM_TMO w
    let c := if d.f F.TDS_SYNC_STAT_STATE = 2 then d.count F.TDS_CNT_SYNC_LOSSES else d
    let h := ((c.rxCut.set F.TDS_SYNC_STAT_STATE 0).set F.TDS_SYNC_STAT_GOOD 0).set F.TDS_SYNC_STAT_BAD 0
    (d.f F.TDS_CTL_RX_EN ≠ 0 → exec (.rxEnWrite w) s = .next (s.after ((d.respond .done).accessed s.dev w.agent 0x40000))) ∧
    (d.f F.TDS_CTL_RX_EN = 0 → exec (.rxEnWrite w) s = .next (s.after
      ((({ h with clk := { h.clk with relock := false }, ds := { h.ds with frameOk := false } } : Dev).respond .done).accessed s.dev w.agent 0x40000)))

/-- R59, R63 to R67, R75, R76, R78, R83 and R93: each command where it has its effect. That a codeword outside SYNC is descrambled and not
entered is the model's choice (log entry 24). -/
def Obligations.ReceptionCommands : Prop :=
  (∀ (k : Nat) (invalid : List Nat) (raw : BitVec 18432) (s : State), s.dev.on 3 = true → s.dev.xUp 0 = true →
    let p := s.dev.cwPhase
    let z := s.dev.countN F.TDS_CNT_SYNC_INVALID_WORDS (invalid.filter (fun j => j != 0 || p == 0)).length
    z.sampledFrame z.rxSfc = true →
    let y := descramble z.ds.descr (BitVec.ofNat 18432 (zeroWords 18432 p invalid raw.toNat))
    let a : Dev := { z with ds := { z.ds with descr := y.2 } }
    (z.f F.TDS_SYNC_STAT_STATE ≠ 2 → exec (.codewordArrival k raw invalid) s = .next (s.after a)) ∧
    (z.f F.TDS_SYNC_STAT_STATE = 2 →
      let d := if k = 0 then a.rxBegin else a
      ∀ f : RxFrame, d.rxFrame d.ds.frameNum = some f → f.cut = false → f.next = k →
        let c : CwIn := { frame := f.num, k := k, word := y.1, cap := 0 }
        let r := d.rxSet f.num (fun g => { g with next := k + 1 })
        let ended0 := (r.rxFrame f.num).any (fun g => g.done 0)
        (k ≠ 0 → ended0 = false → exec (.codewordArrival k raw invalid) s = .next (s.after
          ({ r with ds := { r.ds with held := r.ds.held ++ [c] } } : Dev).assign)) ∧
        (k ≠ 0 → ended0 = true → exec (.codewordArrival k raw invalid) s = .next (s.after
          (match (r.rxFrame f.num).bind RxFrame.known with
           | some q => if k < q.1 + q.2 then r.cwBuffer c else r
           | none => r).assign)) ∧
        (k = 0 → exec (.codewordArrival k raw invalid) s = .next (s.after
          (if ((r.cwBuffer c).rxFrame f.num).any (fun g => g.done 0) then (r.cwBuffer c).cwRelease f.num else r.cwBuffer c).assign)))) ∧
  (∀ (d : Dev) (c : CwIn), d.cwBuffer c =
    if d.ds.inBuf.length < 32 then { d with ds := { d.ds with inBuf := d.ds.inBuf ++ [c] } }
    else ((d.rxSet c.frame (fun f => { f with cws := f.cws.put c.k (⟨.skipped, 0⟩ : CwOut) })).count F.TDS_CNT_DEC_SKIPPED).raise 1156) ∧
  (∀ (n iters : Nat) (word : BitVec 18432) (c : CwIn) (s : State), s.dev.ds.slices.getD n none = some c →
    let clean := ldpcValid c.word = true
    let ok := clean ∨ (1 ≤ iters ∧ iters ≤ c.cap ∧ ldpcValid word = true)
    let it := if clean then 0 else if ok then iters else c.cap
    let d : Dev := { s.dev with ds := { s.dev.ds with slices := s.dev.ds.slices.set n none } }
    let e := (((d.count F.TDS_CNT_CW_DECODED).act 1 it).pmc 0x16 it).rxSet c.frame (fun f => { f with
      cws := f.cws.put c.k (⟨if ok then .decoded else .uncorrectable, ldpcInfo (if clean then c.word else word)⟩ : CwOut) })
    let x := if ok then (if 1 ≤ it then e.count F.TDS_CNT_FEC_CORR_CW else e).windowAdd it
       else ((((e.count F.TDS_CNT_FEC_UNCORR).windowAdd 17).set F.TDS_EFFORT_CAP 16).set F.TDS_EFFORT_HOLD 1024).raise 1155
    exec (.codewordDecoded n iters word) s = .next (s.after (if c.k = 0 then x.cwRelease c.frame else x).assign)) ∧
  (∀ (f : RxFrame) (s : State), s.dev.ds.frames.find? (fun f => !f.judged) = some f → f.waits = false →
    f.done 0 = true → (f.useful = true → ∀ k, k < f.info.hcw → f.done k = true) →
    let ok := f.useful = true ∧ f.hdrOk = true
    let hcw := if f.useful then f.info.hcw else 0
    let pcw := if f.useful then f.info.pcw else 0
    let a := s.dev.rxSet f.num (fun g => { g with
      judged := true, valid := decide ok, hcw := hcw, pcw := pcw, ended := !f.useful, sfc := if ok then f.info.sfc else g.sfc })
    let b : Dev := { a with ds := { a.ds with loads := ((hcw, pcw) :: a.ds.loads).take 4, hdrJudged := true } }
    let e := (b.set F.TDS_SYNC_STAT_HCW hcw).set F.TDS_SYNC_STAT_PCW_USED pcw
    let h := if f.useful then e else e.count F.TDS_CNT_DEC_PAYLOAD_LOST
    exec .headerDecode s = .next (s.after (if ok then h.hdrValid f else h.hdrInvalid))) ∧
  (∀ (f : RxFrame) (h n : Nat) (up : List Upset) (s : State), (s.dev.containAll up).on 8 = true →
    (s.dev.containAll up).ds.frames.find? (fun f => f.judged && !f.ended) = some f → f.lock = true → f.pos + 8 ≤ f.area →
    f.resolved f.pos (f.pos + 8) = true → f.bad f.pos (f.pos + 8) = false → bchDecode (f.encHdr f.pos) = some (h, n) →
    encValid h = true →
    let next := f.pos + 8 + bits h 50 14
    next ≤ f.area → f.resolved f.pos next = true → f.bad (f.pos + 8) next = false →
    let d := s.dev.containAll up
    let e := (if 0 < n then d.count F.TDS_CNT_ENC_BCH_CORR else d).rxSet f.num (fun g => { g with pos := next })
    exec (.encapHeader up) s = .next (s.after
      (if bits h 32 32 = 0 ∧ bit h 31 = true then e
       else e.fragment f.keys f.sfc (f.hcw + f.pos / 1920) (f.pos % 1920) h (f.octets (f.pos + 8) (bits h 50 14)) (up.contains .obsParity)))) ∧
  (∀ (f : RxFrame) (s : State), s.dev.on 8 = true → s.dev.ds.frames.find? (fun f => f.judged && !f.ended) = some f → f.lock = false →
    f.pos + 8 ≤ f.area → f.resolved 0 f.area = true →
    exec (.encapHeader []) s = .next (s.after (match f.hunt (f.area + 1) f.pos with
      | some (h, q) => (s.dev.rxSet f.num (fun g => { g with lock := true, pos := q })).fragLost h
      | none => s.dev.rxSet f.num (fun g => { g with ended := true })))) ∧
  (∀ (m : Msg) (t : List Msg) (s : State), s.dev.ds.unknown = m :: t →
    exec .unknownMessage s =
      .next (s.after (({ s.dev with ds := { s.dev.ds with unknown := t } } : Dev).count F.TDS_CNT_MSG_UNKNOWN))) ∧
  ∀ (e : Nat) (r : Rsm) (s : State), s.dev.ds.rsm.look e = some r → max 1 (s.dev.f F.TDS_CTL_RSM_TMO) ≤ r.age →
    exec (.reassemblyTimeout e) s = .next (s.after ((s.dev.count F.TDS_CNT_RSM_TIMEOUT).poison e))

/-- R360 to R367 (`updSettle` brings the update engine's state up to date, which R364's rule 0Bh looks at), and the direct writes of the three staged tables (R85, R97, R178). A code of an agent is as STG_STAT.OWNER gives it. -/
def Obligations.StagingCommands : Prop :=
  (∀ (w : RegWr) (s : State), s.dev.passes w.agent 0x180000 →
    let v := if w.mask.getLsbD 0 then w.data.toNat % 8 else s.dev.selOf w.agent
    exec (.stgSelWrite w) s = .next (s.after
      ((({ s.dev with stg := { s.dev.stg with sel := SMap.store 0 w.agent.code v s.dev.stg.sel } } : Dev).respond .done).accessed s.dev w.agent 0x180000))) ∧
  (∀ (off : Nat) (w : RegWr) (s : State), s.dev.passes w.agent off → s.dev.staging w.agent = true → stMask off ≠ 0 →
    stCuratorOnly off = false → s.dev.sinkGuards off w = false →
    let t := s.dev.selOf w.agent % 4
    s.dev.stgState t = 1 → s.dev.f F.STG_STAT_OWNER t = w.agent.code →
    ((s.dev.stgSet t).look off).isSome = true ∨ (s.dev.stgSet t).length < stgCap t →
    let new := (w.val &&& w.bitMask) + (s.dev.stored off &&& (2 ^ 64 - 1 - w.bitMask))
    exec (.stagedWrite off w) s = .next (s.after
      (((s.dev.stgPut t ((s.dev.stgSet t).put off (⟨stMask off, new &&& stMask off⟩ : StgVal))).respond .done).accessed s.dev w.agent off))) ∧
  (∀ (n : Nat) (w : RegWr) (s : State), n < 3 → s.dev.passes w.agent (0x180100 + 0x40 * n) →
    (w.val % 8 = 1 → s.dev.stgState n = 0 → stgMayOpen n w.agent.code = true →
      exec (.stgOpen n w) s = .next (s.after (((((((s.dev.stgPut n []).setI F.STG_STAT_STATE n 1).setI F.STG_STAT_OWNER n
        w.agent.code).setI F.STG_STAT_LATE n 0).setI F.STG_STAT_FULL n 0).respond .done).accessed s.dev w.agent (0x180100 + 0x40 * n)))) ∧
    (w.val % 8 = 2 → s.dev.stgState n = 1 → s.dev.f F.STG_STAT_OWNER n = w.agent.code →
      let d := if s.dev.holdsCommit n then s.dev.updSettle else s.dev
      let r := d.stgCheck n
      let c := (d.setI F.STG_STAT_REASON n r.1).setI F.STG_RESULT_FAIL_OFS n r.2
      exec (.stgCheck n w) s = .next (s.after
        (((if r.1 = 0 then c else (c.count F.STG_CNT_CHECK_FAIL).raise 1474).respond .done).accessed s.dev w.agent (0x180100 + 0x40 * n)))) ∧
    (w.val % 8 = 3 → s.dev.stgState n = 1 → s.dev.f F.STG_STAT_OWNER n = w.agent.code →
      let d := if s.dev.holdsCommit n then s.dev.updSettle else s.dev
      (d.stgCheck n).1 = 0 →
      let c := ((d.setI F.STG_STAT_REASON n 0).setI F.STG_RESULT_FAIL_OFS n (d.stgCheck n).2).setI F.STG_STAT_STATE n 2
      exec (.stgCheckArm n w) s = .next (s.after
        (((if c.holdsCommit n then c.set F.CLS_ACC_STAT_STATE 2 else c).respond .done).accessed s.dev w.agent (0x180100 + 0x40 * n)))) ∧
    (w.val % 8 = 4 → s.dev.stgState n = 1 ∨ s.dev.stgState n = 2 →
      s.dev.f F.STG_STAT_OWNER n = w.agent.code ∨ w.agent = .curator →
      exec (.stgCancel n w) s = .next (s.after (((s.dev.stgCancel n).respond .done).accessed s.dev w.agent (0x180100 + 0x40 * n))))) ∧
  (∀ (n : Nat) (w : RegWr) (s : State), n < 4 → s.dev.passes w.agent (0x180108 + 0x40 * n) → s.dev.stgState n = 1 →
    s.dev.f F.STG_STAT_OWNER n = w.agent.code →
    exec (.stgApplyWrite n w) s =
      .next (s.after ((((s.dev.put F.STG_APPLY_FRAME w n).put F.STG_APPLY_NEXT w n).respond .done).accessed s.dev w.agent (0x180108 + 0x40 * n)))) ∧
  (∀ (n : Nat) (s : State), n < 4 → s.dev.stgState n = 3 →
    let d := ((s.dev.stgIdle n).raise 1472).pmc 0x17 (s.dev.stgSet n).length
    exec (.stagingDrainDone n) s = .next (s.after (match d.stg.held with
      | some (m, fr) => if n = 3 then ({ d with stg := { d.stg with held := none } } : Dev).stgAssistArm m fr else d
      | none => d))) ∧
  (∀ (n : Nat) (w : RegWr) (s : State), n < 4096 → s.dev.passes w.agent (0x48000 + 8 * n) → s.dev.takesDirect (0x48000 + 8 * n) w →
    let tag := w.merged F.TDS_FLT_FTAG (s.dev.f F.TDS_FLT_FTAG n)
    let valid := w.merged F.TDS_FLT_VALID (s.dev.f F.TDS_FLT_VALID n) == 1
    s.dev.idRefused fltTable n tag valid = false →
    exec (.tdsFltWrite n w) s = .next (s.after ((((s.dev.fltSet n tag valid
      (w.merged F.TDS_FLT_ENC_REQ (s.dev.f F.TDS_FLT_ENC_REQ n) == 1)
      (w.merged F.TDS_FLT_BCAST (s.dev.f F.TDS_FLT_BCAST n) == 1)).mirrored (0x48000 + 8 * n) w).respond .done).accessed s.dev w.agent (0x48000 + 8 * n)))) ∧
  (∀ (n : Nat) (w : RegWr) (s : State), n < 512 → s.dev.passes w.agent (0x51000 + 8 * n) → s.dev.takesDirect (0x51000 + 8 * n) w →
    let id := w.merged F.TUS_ALLOC_ALLOC_ID (s.dev.f F.TUS_ALLOC_ALLOC_ID n)
    let valid := w.merged F.TUS_ALLOC_VALID (s.dev.f F.TUS_ALLOC_VALID n)
    s.dev.idRefused allocTable n id (valid == 1) = false →
    let d := if n = 0 then s.dev else (s.dev.setI F.TUS_ALLOC_ALLOC_ID n id).setI F.TUS_ALLOC_VALID n valid
    exec (.tusAllocWrite n w) s =
      .next (s.after ((((d.put F.TUS_ALLOC_ENC w n).put F.TUS_ALLOC_DEFER w n).respond .done).accessed s.dev w.agent (0x51000 + 8 * n)))) ∧
  ∀ (n : Nat) (w : RegWr) (s : State), n < 8192 → s.dev.passes w.agent (0x90000 + 8 * n) → s.dev.takesDirect (0x90000 + 8 * n) w →
    let d := (s.dev.put F.CLS_POL_RATE w n).put F.CLS_POL_BURST w n
    exec (.clsPolWrite n w) s = .next (s.after ((((if (F.CLS_POL_RATE.maskBits ||| F.CLS_POL_BURST.maskBits) &&& w.bitMask = 0
      then d else d.polFill n).mirrored (0x90000 + 8 * n) w).respond .done).accessed s.dev w.agent (0x90000 + 8 * n)))

/-- R107, R114 and R119 to R121. -/
def Obligations.BurstCommands : Prop :=
  (∀ (up : List Upset) (b : Burst) (p : UsPage) (s : State), s.dev.on 9 = true → s.dev.us.bursts.find? (fun b => b.st == .waiting) = some b →
    s.dev.us.pages.look b.page = some p →
    let total := b.slots - (p.profile b.prof).lead
    let cells := up.filterMap (fun u => match u with | .bufferCell loc => some loc | _ => none)
    let y := Fill.shares p b total 0 b.grants ⟨s.dev.containAll up, [], 0, cells, up.contains .obsParity⟩
    let d := if b.fec then y.dev.act 2 (regionWords total) else y.dev
    exec (.burstAssembly up) s = .next (s.after (d.burstPut
      { b with st := .assembled, stream := y.out, pieces := y.pieces, sleepReq := d.b F.TST_SLEEP_REQ }))) ∧
  (∀ (b : Burst) (p : UsPage) (s : State), s.dev.us.bursts.find? (fun b => b.st == .assembled) = some b →
    s.dev.us.pages.look b.page = some p → s.dev.onAir = none →
    (s.dev.mayTransmit b = true →
      let n : Burst := { b with st := .onAir, hdr := s.dev.burstHdr p b }
      let first := b.start + 32 * (p.profile b.prof).g
      let pos := if s.dev.f F.TUS_STAT_TX_EN ≠ 0 then s.dev.pins.txEnPos else s.dev.usIndex (first - s.dev.f F.TUS_TXEN_LEAD)
      let d := s.dev.burstPut n
      let e := (((d.set F.TUS_STAT_BURST 1).set F.TUS_STAT_TX_EN 1).set F.TUS_STAT_TX_SD 1).set F.TUS_STAT_BSEQ
        (d.f F.TUS_STAT_BSEQ + 1)
      exec .burstStart s = .next (s.after { e with
        pins := { e.pins with txEnPos := pos }
        us := { e.us with txf := false, darkRaised := false, autoSleep := false, line := p.burstBits n } })) ∧
    (s.dev.mayTransmit b = false →
      let a := ((s.dev.burstStatus b 3).msgsBack b.id).burstGone b true
      exec .burstStart s = .next (s.after
        (((a.countN F.TUS_CNT_FILL_ABORT_FRAMES b.pieces).count F.TUS_CNT_DISC2_ABORTED).raise 1185)))) ∧
  ∀ (b : Burst) (s : State), s.dev.onAir = some b →
    let d := (((s.dev.act 15 (s.dev.burstWords b)).burstStatus b 2).msgsLeave b.id).burstGone b true
    let c := ((d.count F.TUS_CNT_BURST_BURSTS).countN F.TUS_CNT_BURST_GRANTS b.grants.length).set F.TUS_STAT_BURST 0
    let e : Dev := if b.sleepReq then { c with term := { c.term with sleepSent := true } } else c
    let fall := b.stop + s.dev.f F.TUS_TXEN_LAG
    ((∃ x p, e.us.bursts.find? (fun x => x.st == .assembled) = some x ∧ e.us.pages.look x.page = some p ∧
        e.riseTime p x ≤ fall ∧ e.mayTransmit x = true) →
      exec .burstEnd s = .next (s.after { e with us := { e.us with line := [] } })) ∧
    (e.us.bursts.find? (fun x => x.st == .assembled) = none → exec .burstEnd s = .next (s.after (e.txOff (e.usIndex fall))))

/-- R101 to R103, one grant: `r` is what the grants before it left. -/
def Obligations.GrantChecksInOrder : Prop :=
  ∀ (p : UsPage) (g : Nat) (ready : Int) (d : Dev) (fm : Forming) (e : Nat), g < 8 → e < 128 →
    let x := d.gtAt g e
    let r := Dev.checkGrant p g ready (d, fm) e
    let open' := gateAdmits p.gate x.entry = true
    let inRange := 1 ≤ x.len ∧ x.start + x.len ≤ 390625
    let pseqOk := p.gate = 3 → d.f F.TDS_HDR_PSEQ = p.pseq
    let free := fm.taken ≤ x.start ∧ ∀ t, d.earlierEnd g = some t → t ≤ p.slotTime x.start
    (¬ open' → r.1.f F.TUS_GT_STATUS g e = 4 ∧ r.2 = fm) ∧
    (open' → ¬ inRange → r.1.f F.TUS_GT_STATUS g e = 5 ∧ r.2 = fm) ∧
    (open' → inRange → ¬ pseqOk → r.1.f F.TUS_GT_STATUS g e = 6 ∧ r.2 = fm) ∧
    (open' → inRange → pseqOk → ¬ free → r.1.f F.TUS_GT_STATUS g e = 7 ∧ r.2 = fm) ∧
    (open' → inRange → pseqOk → free →
      (∀ b, fm.cur = some b → continues b (d.gtAt g (b.grants.getLastD 0)) x = true →
        r.1.f F.TUS_GT_STATUS g e = 1 ∧ r.2.taken = x.start + x.len ∧ r.2.done = fm.done ∧
          r.2.cur = some { b with grants := b.grants ++ [e], slots := b.slots + x.len, stop := p.slotTime (x.start + x.len) }) ∧
      ((∀ b, fm.cur = some b → continues b (d.gtAt g (b.grants.getLastD 0)) x = false) →
        (p.newBurst (d.us.nextId + fm.done.length + fm.cur.toList.length) g e x = none →
          r.1.f F.TUS_GT_STATUS g e = 8 ∧ r.2 = fm) ∧
        ∀ b, p.newBurst (d.us.nextId + fm.done.length + fm.cur.toList.length) g e x = some b →
          (b.start < ready + 800000 → r.1.f F.TUS_GT_STATUS g e = 9 ∧ r.2 = fm) ∧
          (ready + 800000 ≤ b.start → r.1.f F.TUS_GT_STATUS g e = 1 ∧ r.2.taken = x.start + x.len ∧ r.2.cur = some b ∧
            r.2.done = fm.done ++ fm.cur.toList)))

/-- R122 to R126. -/
def Obligations.LineCommands : Prop :=
  (∀ s : State, s.dev.f F.TUS_STAT_TX_FAULT = 0 → s.dev.on 9 = true →
    let d := (((s.dev.set F.TUS_STAT_TX_FAULT 1).set F.TUS_STAT_FAULT_HOLD 1).count F.TUS_CNT_PHY_TX_FAULT).raise 1186
    exec .txFaultAssert s = .next (s.after (({ d with us := { d.us with txf := true } } : Dev).txKill))) ∧
  (∀ s : State, s.dev.f F.TUS_STAT_TX_FAULT ≠ 0 →
    let d := s.dev.set F.TUS_STAT_TX_FAULT 0
    exec .txFaultDeassert s = .next (s.after (if d.f F.TUS_CTL_FAULT_AUTO ≠ 0 then d.faultRelease else d))) ∧
  (∀ (w : RegWr) (s : State), s.dev.passes w.agent 0x50000 →
    let d := ((s.dev.put F.TUS_CTL_FAULT_AUTO w).put F.TUS_CTL_ROGUE_SLEEP w).put F.TUS_CTL_AUTO_SLEEP w
    let e : Dev := if d.f F.TUS_CTL_AUTO_SLEEP ≠ 0 then d else { d with us := { d.us with autoSleep := false } }
    let g := if w.mask.getLsbD 0 = true ∧ w.agent.isHost = false then (e.setInhibit (bit w.val 2)).setGate (w.val % 4) else e
    (w.fld F.TUS_CTL_FAULT_CLR = 0 → exec (.gateWrite w) s = .next (s.after ((g.respond .done).accessed s.dev w.agent 0x50000)) ∧
      (bit w.val 2 = true → exec (.txInhibitWrite w) s = .next (s.after ((g.respond .done).accessed s.dev w.agent 0x50000)))) ∧
    (w.fld F.TUS_CTL_FAULT_CLR = 1 → bit w.val 4 = true →
      exec (.faultClr w) s = .next (s.after ((g.faultClear.respond .done).accessed s.dev w.agent 0x50000)))) ∧
  (∀ (bt : Nat) (s : State), s.dev.on 9 = true → s.dev.us.darkRaised = false →
    let d := s.dev.set F.TUS_STAT_TX_SD 0
    d.f F.TUS_STAT_TX_EN ≠ 0 → d.f F.TUS_TXEN_SD_DLY ≤ bt →
    let c := d.count F.TUS_CNT_PHY_DARK
    exec (.txDark bt) s = .next (s.after (({ c with us := { d.us with darkRaised := true } } : Dev).raise 1187))) ∧
  (∀ (bt : Nat) (s : State), s.dev.on 9 = true →
    let d := s.dev.set F.TUS_STAT_TX_SD 1
    d.f F.TUS_STAT_TX_EN = 0 → d.f F.TUS_TXEN_SD_OFF ≤ bt →
    let sleep := d.b F.TUS_CTL_ROGUE_SLEEP
    let e : Dev := { d with us := { d.us with
      rogueCond := true, rogueHold := d.us.rogueHold || sleep, rogueRaised := true
      rogueClr := if sleep then false else d.us.rogueClr } }
    exec (.txRogue bt) s = .next (s.after (if d.us.rogueRaised then e else (e.count F.TUS_CNT_PHY_ROGUE).raise 1188))) ∧
  (∀ s : State, let d := s.dev.set F.TUS_STAT_TX_SD 0
    exec .rogueConditionClear s = .next (s.after { d with us := { d.us with
      rogueCond := false, rogueHold := d.us.rogueHold && !d.us.rogueClr, rogueClr := false } })) ∧
  (∀ (t : Nat) (s : State), s.dev.on 9 = true →
    let need := s.dev.phyNeeded (s.dev.tickLine + t)
    let held := s.dev.us.phyHold || s.dev.phyBurst (s.dev.tickLine + t)
    (need = true → exec (.phySleepRelease t) s = .next (s.after
      { s.dev with us := { s.dev.us with autoSleep := false, phyHold := held } })) ∧
    (need = false → exec (.phySleepAssert t) s = .next (s.after
      { s.dev with us := { s.dev.us with autoSleep := s.dev.b F.TUS_CTL_AUTO_SLEEP, phyHold := false } }))) ∧
  ∀ (w : RegWr) (s : State), s.dev.passes w.agent 0x50010 →
    let d := (((s.dev.put F.TUS_TXEN_LEAD w).put F.TUS_TXEN_LAG w).put F.TUS_TXEN_SD_DLY w).put F.TUS_TXEN_SD_OFF w
    let v := w.merged F.TUS_TXEN_PHY_WAKE (d.f F.TUS_TXEN_PHY_WAKE)
    (v ≤ 16 → exec (.phyWakeWrite w) s = .next (s.after (((d.put F.TUS_TXEN_PHY_WAKE w).respond .done).accessed s.dev w.agent 0x50010))) ∧
    (16 < v → exec (.phyWakeWrite w) s = .next (s.after (((d.set F.TUS_STAT_REFUSED 1).respond .done).accessed s.dev w.agent 0x50010)))

/-- R140 with R129, R133, R145, R147 and R150, for the five types the sequencer handles. The divisions of R150 truncate toward zero (R13); the one
slot for a pending step is the model's choice (log entry 31). -/
def Obligations.SequencerMessages : Prop :=
  (∀ (m : Msg) (t : List Msg) (s : State), s.dev.seqHead 2 m t → let d := s.dev.seqRest t
    d.fresh m → d.f F.TST_STATE_STATE = 3 →
    let e := d.set F.TUS_TIMING_EQD (wf m 0 10 26)
    let l : LastMsg := ⟨msgSeq m, some { utype := 2, mseq := msgSeq m, useq := 0 }, e.clk.ticks⟩
    exec .rangingReq s = .next (s.after (if e.us.seqUq.any (fun x => x.utype == 2)
      then { e with term := { e.term with last := e.term.last.put 2 l } } else e.processed m (some (2, 0))))) ∧
  (∀ (m : Msg) (t : List Msg) (s : State), s.dev.seqHead 3 m t → let d := s.dev.seqRest t
    let rel := wf m 0 9 1 = 1
    d.fresh m → (d.f F.TST_STATE_STATE = 4 ∨ (d.f F.TST_STATE_STATE = 3 ∧ ¬ rel)) →
    let v : Int := if rel then d.f F.TUS_TIMING_EQD + signed 26 (wf m 0 10 26) else (wf m 0 10 26 : Nat)
    let e := d.set F.TUS_TIMING_EQD v.toNat
    (0 ≤ v → v ≤ 0x3FFFFFF → exec .rangingTime s = .next (s.after
      ((if e.f F.TST_STATE_STATE = 3 then (e.enterState 4).set F.TST_STATE_TIMER 0 else e).acked m 0))) ∧
    (v < 0 ∨ 0x3FFFFFF < v → exec .rangingTime s = .next (s.after (d.acked m 2)))) ∧
  (∀ (m : Msg) (t : List Msg) (s : State), s.dev.seqHead 6 m t → let d := s.dev.seqRest t
    d.fresh m → d.f F.TST_STATE_STATE = 4 →
    let slot := wf m 0 34 2
    let sw := wf m 2 0 51
    let same := wf m 0 26 8 = d.f F.TST_KEYSW_KSEQ
    let bad := slot = 0 ∨ slot = 3
    (same → exec .keySwitch s = .next (s.after (d.acked m 0))) ∧
    (¬ same → bad → exec .keySwitch s = .next (s.after (d.acked m 2))) ∧
    (¬ same → ¬ bad → d.slotValid slot = false → exec .keySwitch s = .next (s.after (d.acked m 3))) ∧
    (¬ same → ¬ bad → d.slotValid slot = true → sw ≤ msgFrame m → exec .keySwitch s = .next (s.after (d.acked m 4))) ∧
    (¬ same → ¬ bad → d.slotValid slot = true → msgFrame m + 65536 < sw → exec .keySwitch s = .next (s.after (d.acked m 2))) ∧
    (¬ same → ¬ bad → d.slotValid slot = true → msgFrame m < sw → sw ≤ msgFrame m + 65536 →
      let e := d.stgAssist [(0x50018, ⟨F.TUS_SEQSEL_KSEL.maskBits, slot * 2 ^ 8⟩)] sw
      exec .keySwitch s = .next (s.after (((((e.set F.TST_KEYSW_PEND_KSEQ (wf m 0 26 8)).set F.TST_KEYSW_PEND_SLOT slot).set
        F.TST_KEYSW_PEND_SFC (sw % 2 ^ 32)).set F.TST_KEYSW_PENDING 1).acked m 0)))) ∧
  (∀ (m : Msg) (t : List Msg) (s : State), s.dev.seqHead 9 m t → let d := s.dev.seqRest t
    d.fresh m → d.f F.TST_STATE_STATE = 4 → d.f F.CKX_TICK_STAT_SRC = 1 → d.f F.TST_TOD_CTL_TOD_EN ≠ 0 →
    let eqd := match d.pageNow with | some p => p.eqd | none => d.f F.TUS_TIMING_EQD
    let df : Int := (wf m 4 32 32 * 10 : Nat) - 35000000 - (eqd * 10 : Nat)
    let e := d.processed m none
    (df < 0 → exec .timeOfDay s = .next (s.after (e.count F.TST_CNT2_TOD_BAD))) ∧
    (0 ≤ df →
      let ts : Int := (wf m 2 0 48 * second + wf m 3 32 32 * 65536 + wf m 3 16 16 : Nat)
      let ps : Int := ((wf m 4 0 32 : Nat) * df).tdiv (2 ^ 32) + e.z F.TST_TOD_CTL_DS_LAT + 1600000
      let ofs := ts + (ps * 65536).tdiv 1000 - e.tickTime
      let c := (e.set F.TST_TOD_STAT_LAST_OFS (lastOfs (ofs.tdiv 256))).count F.TST_CNT2_TOD_APPLIED
      exec .timeOfDay s = .next (s.after
        (if c.f F.TST_TOD_STAT_VALID = 0 ∨ c.f F.TST_TOD_CTL_STEP_THR * 65536 ≤ ofs.natAbs
         then ({ c with term := { c.term with step := some (ofs, true) } } : Dev)
         else ({ c with term := { c.term with step := none, slew := some (ofs, 0) } } : Dev).set F.TST_TOD_STAT_SLEWING 1)))) ∧
  ∀ (m : Msg) (t : List Msg) (s : State), s.dev.seqHead 0x0B m t → let d := s.dev.seqRest t
    d.fresh m → d.f F.TST_STATE_STATE ≠ 6 → msgAddr m ≠ 1 →
    let early := fun (f p : Nat) => f == msgFrame m && p < msgPlace m
    let e := d.processed m none
    let c : Dev := { e with
      term := { e.term with cmd := match e.term.cmd with
        | some (3, _, some (f, p)) => if early f p then none else e.term.cmd
        | c => c }
      ds := { e.ds with docentMsgs := e.ds.docentMsgs.filter (fun x => !(msgType x == 0x0A && early (msgFrame x) (msgPlace x))) } }
    exec .halt s = .next (s.after ((((c.setInhibit true).enterState 6).set F.TST_STATE_HALT_LATCH 1).raise 1217))

/-- R140 for the seven types Docent handles, and R137 and R140 for what every message meets first. Fresh keys are free
values (log entry 3); their wrapping is RFC 3394 (log entry 12). -/
def Obligations.DocentMessages : Prop :=
  (∀ (m : Msg) (t : List Msg) (s : State), s.dev.docHead 1 m t → let d := s.dev.docRest t
    d.fresh m → d.f F.TST_STATE_STATE = 2 → msgAddr m = 2 →
    let e := d.processed m none
    exec .assignId s = .next (s.after
      (({ e with term := { e.term with cmd := some (1, wf m 0 26 10, some (msgFrame m, msgPlace m)) } } : Dev).tasor m))) ∧
  (∀ (m : Msg) (t : List Msg) (s : State), s.dev.docHead 4 m t → let d := s.dev.docRest t
    d.fresh m → 1 ≤ d.f F.TST_STATE_STATE → d.f F.TST_STATE_STATE ≤ 4 →
    let old : ProfSet := match d.term.collect with
      | some c => if c.pseq == wf m 0 28 8 then c else { pseq := wf m 0 28 8 }
      | none => { pseq := wf m 0 28 8 }
    let cfg := wf m 2 23 9 + wf m 2 13 10 * 2 ^ 9 + wf m 2 32 32 * 2 ^ 32
    let c : ProfSet := { old with got := old.got.put (wf m 0 26 2) (cfg, (m.getD 3 0).toNat, (m.getD 4 0).toNat) }
    let e := ({ d with term := { d.term with dspread := min 19 (wf m 0 21 5), collect := some c } } : Dev).tasor m
    let p := e.processed m none
    (c.got.length < 4 → exec .profile s = .next (s.after (if e.profAcks then e.acked m 0 else p))) ∧
    (4 ≤ c.got.length → exec .profile s = .next (s.after (({ p with term := { p.term with collect := none, full := some (wf m 0 28 8) } } : Dev).profTry
      { c with applySfc := wf m 5 0 51, mseq := msgSeq m, sfc := msgFrame m, tick := p.clk.ticks })))) ∧
  (∀ (m : Msg) (t : List Msg) (s : State), s.dev.docHead 5 m t → let d := s.dev.docRest t
    d.fresh m → d.f F.TST_STATE_STATE = 4 →
    let slot := wf m 0 34 2
    let used := slot = d.f F.TUS_SEQSEL_KSEL ∨ (d.f F.TST_KEYSW_PENDING ≠ 0 ∧ slot = d.f F.TST_KEYSW_PEND_SLOT)
    (slot = 0 ∨ slot = 3 → exec .keyReq s = .next (s.after (d.acked m 2))) ∧
    (slot = 1 ∨ slot = 2 → used → exec .keyReq s = .next (s.after ((d.raise 1447).acked m 5))) ∧
    (slot = 1 ∨ slot = 2 → ¬ used →
      let key := Config.freshKey d.fw.draws
      let k := ({ d with fw := { d.fw with draws := d.fw.draws + 1 } } : Dev).loadKey slot key
      let r := k.newMsg 4 (msgSeq m) 0
      let u := { r.1 with slot := slot, wkey := keyWrap d.kekNow key }
      exec .keyReq s = .next (s.after (({ r.2 with term := { r.2.term with
        last := r.2.term.last.put 5 (⟨msgSeq m, some u, k.clk.ticks⟩ : LastMsg)
        reports := r.2.term.reports ++ [(⟨u, 3, k.clk.ticks⟩ : KeyReport)] } } : Dev).pushDoc u)))) ∧
  (∀ (m : Msg) (t : List Msg) (s : State), s.dev.docHead 7 m t → let d := s.dev.docRest t
    d.fresh m → d.f F.TST_STATE_STATE = 4 →
    let k := wf m 0 30 5
    exec .sleepAllow s = .next (s.after (((if wf m 0 35 1 = 1
      then (d.set F.TST_SLEEP_ALLOWED 1).set F.TST_SLEEP_K (if 3 ≤ k ∧ k ≤ 16 then k else 16)
      else ((d.set F.TST_SLEEP_ALLOWED 0).sleepOff).watchCause).acked m 0).tasor m))) ∧
  (∀ (m : Msg) (t : List Msg) (s : State), s.dev.docHead 8 m t → let d := s.dev.docRest t
    d.fresh m → d.f F.TST_STATE_STATE = 4 → exec .wake s = .next (s.after ((d.sleepOff.acked m 0).tasor m))) ∧
  (∀ (m : Msg) (t : List Msg) (s : State), s.dev.docHead 0x0A m t → let d := s.dev.docRest t
    d.fresh m →
    let e := d.processed m none
    exec .deactivate s = .next (s.after
      (({ e with term := { e.term with cmd := some (3, 0, some (msgFrame m, msgPlace m)) } } : Dev).tasor m))) ∧
  (∀ (m : Msg) (t : List Msg) (s : State), s.dev.docHead 0x0C m t → let d := s.dev.docRest t
    d.fresh m → d.f F.TST_STATE_STATE = 3 ∨ d.f F.TST_STATE_STATE = 4 →
    let e := d.processed m none
    exec .ack s = .next (s.after
      { e with term := { e.term with reports := e.term.reports.filter (fun r => r.msg.useq != wf m 0 28 8) } })) ∧
  (∀ (m : Msg) (l : LastMsg) (ok : Bool) (g : Dev → Dev) (d : Dev), (msgAddr m = 2 → (m.getD 1 0).toNat = d.f F.TST_SERIAL_SN) →
    d.dupOf m = some l → let c := d.count F.TST_CNT_DUPLICATE
    d.process m ok g = match l.resp with | some r => c.again (msgType m) r | none => c) ∧
  ∀ (m : Msg) (g : Dev → Dev) (d : Dev), d.fresh m →
    let c := d.count F.TST_CNT_BAD_STATE
    d.process m false g = if msgType m ∈ [3, 4, 5, 6, 7, 8] ∧ c.f F.TUS_CTL_GATE ≠ 0 then c.ack (msgType m) (msgSeq m) 1 else c

/-- R129 to R134, R143, R146 and R151 to R154. -/
def Obligations.TerminalAndTimeCommands : Prop :=
  (∀ (w : RegWr) (s : State), s.dev.passes w.agent 0x60008 →
    let d := s.dev.put F.TST_CTL_TO_RANGE w
    let e := d.put F.TST_CTL_ACTIVATE w
    (d.f F.TST_STATE_STATE = 6 ∨ w.mask.getLsbD 0 = false → exec (.activateWrite w) s = .next (s.after ((d.respond .done).accessed s.dev w.agent 0x60008))) ∧
    (d.f F.TST_STATE_STATE ≠ 6 → w.mask.getLsbD 0 = true → exec (.activateWrite w) s = .next (s.after
      (((if e.f F.TST_CTL_ACTIVATE ≠ 0 ∨ e.f F.TST_STATE_STATE = 0 then e
        else { e with term := { e.term with activateOff := true } }).respond .done).accessed s.dev w.agent 0x60008)))) ∧
  (∀ (k : Nat) (c : Instr) (w : RegWr) (s : State), (k = 1 ∧ c = .tstCmdAssign w) ∨ (k = 2 ∧ c = .tstCmdProfileDone w) ∨
      (k = 3 ∧ c = .tstCmdDeactivate w) →
    w.agent = .docent ∨ w.agent = .curator → s.dev.passes w.agent 0x60010 → w.fld F.TST_CMD_CMD = k →
    exec c s = .next (s.after
      ((({ s.dev with term := { s.dev.term with cmd := some (k, w.fld F.TST_CMD_TID, none) } } : Dev).respond .done).accessed s.dev w.agent 0x60010))) ∧
  (∀ s : State, s.dev.f F.TST_STATE_STATE = 3 → s.dev.f F.TST_STATE_TIMER ≤ 1 →
    exec .rangingTimeout s = .next (s.after
      (((((s.dev.set F.TST_ID_VALID 0).set F.TUS_TIMING_EQD 0).count F.TST_CNT_RANGE_TMO).set F.TST_STATE_TIMER 0).enterSerial))) ∧
  (∀ s : State, s.dev.f F.TST_STATE_STATE = 5 → s.dev.f F.TST_STATE_TIMER ≤ 1 → s.dev.term.syncGot = false →
    exec .intermitTimeout s = .next (s.after ((s.dev.set F.TST_STATE_TIMER 0).enterInit))) ∧
  (∀ (p : ProfSet) (s : State), s.dev.term.complete.find? (fun p => s.dev.clk.ticks ≥ p.tick + 8) = some p → s.dev.docentRuns = true → s.dev.profAcks = true →
    exec .profileArmTimeout s = .next (s.after (s.dev.profEnd p 2))) ∧
  (∀ (r : KeyReport) (s : State),
    s.dev.term.reports.find? (fun r => r.left > 0 && s.dev.clk.ticks ≥ r.tick + 8) = some r → s.dev.docentRuns = true →
    exec .keyReportRepeat s = .next (s.after (({ s.dev with term := { s.dev.term with
      reports := s.dev.term.reports.map (fun x => if x == r then { x with left := x.left - 1, tick := s.dev.clk.ticks } else x) } } :
      Dev).pushDoc r.msg))) ∧
  (∀ (w : RegWr) (s : State), s.dev.passes w.agent 0x60068 →
    (s.dev.f F.TST_TOD_CTL_TOD_EN = 0 → exec (.timeAdjWrite w) s = .next (s.after
      ((({ s.dev with term := { s.dev.term with step := some (signed 64 w.val, false) } } : Dev).respond .done).accessed s.dev w.agent 0x60068))) ∧
    (s.dev.f F.TST_TOD_CTL_TOD_EN ≠ 0 →
      exec (.timeAdjWrite w) s = .next (s.after (((s.dev.set F.TST_TOD_STAT_REFUSED 1).respond .done).accessed s.dev w.agent 0x60068)))) ∧
  (∀ (w : RegWr) (s : State), s.dev.passes w.agent 0x60050 →
    (s.dev.f F.TST_TOD_CTL_DISC_EN = 0 →
      exec (.todRateWrite w) s = .next (s.after (((s.dev.put F.TST_TOD_RATE_RATE_ADJ w).respond .done).accessed s.dev w.agent 0x60050))) ∧
    (s.dev.f F.TST_TOD_CTL_DISC_EN ≠ 0 →
      exec (.todRateWrite w) s = .next (s.after (((s.dev.set F.TST_TOD_STAT_REFUSED 1).respond .done).accessed s.dev w.agent 0x60050)))) ∧
  (∀ (a : Agent) (t : Nat) (s : State), s.dev.passes a 0x60058 →
    let v := s.dev.timeAt t
    exec (.timeLoRead a t) s = .next (s.after ((({ s.dev with term := { s.dev.term with latched := v } } : Dev).respond .done
      (v % second / 65536 * 65536 + v % 65536)).accessed s.dev a 0x60058))) ∧
  (∀ (t : Nat) (s : State), s.dev.f F.TST_PPS_CTL_OUT_EN ≠ 0 → s.dev.f F.ID_INTEG_PPSOUT_WIRED ≠ 0 →
    s.dev.f F.TST_TOD_STAT_VALID ≠ 0 → s.dev.ppsWhole t = true →
    let sec := (s.dev.ppsNow t / (second : Int)).toNat
    let high : Int := (max 1 (min 999 (s.dev.f F.TST_PPS_CTL_WIDTH)) * 1000000 * 65536 : Nat)
    secIn sec s.dev.term.ppsDone = false → exec (.ppsOutRise t) s = .next (s.after
      { s.dev with
        term := { s.dev.term with ppsDone := secAdd sec s.dev.term.ppsDone, ppsEnd := some ((t : Int) + high) }
        pins := { s.dev.pins with ppsOut := true } })) ∧
  (∀ (t : Nat) (e : Int) (s : State), s.dev.term.ppsEnd = some e → e ≤ t → exec (.ppsOutFall t) s = .next (s.after
    { s.dev with pins := { s.dev.pins with ppsOut := false }, term := { s.dev.term with ppsEnd := none } })) ∧
  ∀ (t : Nat) (s : State), s.dev.f F.TST_PPS_CTL_IN_EN ≠ 0 → s.dev.f F.ID_INTEG_PPSIN_WIRED ≠ 0 → s.dev.on 1 = true →
    let v := s.dev.timeAt t
    let soon := ∃ p, s.dev.term.ppsIn = some p ∧ p ≤ v ∧ v < p + second / 2
    let n := s.dev.f F.TST_PPSIN_LO_SEQ + 1
    let d := ((s.dev.set F.TST_PPSIN_LO_FRAC v).set F.TST_PPSIN_LO_NS (v % second / 65536)).set F.TST_PPSIN_LO_SEQ n
    let e := (d.set F.TST_PPSIN_HI_SEC (v / second)).set F.TST_PPSIN_HI_SEQ n
    (soon → exec (.ppsInEdge t) s = .next (s.after (s.dev.count F.TST_CNT2_PPSIN_IGNORED))) ∧
    (¬ soon → exec (.ppsInEdge t) s =
      .next (s.after (({ e with term := { e.term with ppsIn := some v } } : Dev).raise 1221)))

/-- R159, R172, R175, R181, R184, R187 and R492. -/
def Obligations.ClassifierCommands : Prop :=
  (∀ (p at' : Nat) (up : List Upset) (f : Frame) (rest : List Frame) (s : State), s.dev.cls.fifo.getD p [] = f :: rest → p < 3 →
    s.dev.on (11 + p) = true →
    let g := { f with accession := s.dev.f F.CLS_ACC_CUR_CUR, ts := if p = 0 then s.dev.timeAt at' else f.ts }
    let x := parse g.data
    let t := ({ s.dev with cls := { s.dev.cls with fifo := s.dev.cls.fifo.set p rest } } : Dev).trcSample g g.inport g.keyCtx
    let h := { t.1 with l3Sum := x.l3Sum g.data, l4Sum := x.l4Sum g.data }
    let c := ((t.2.count F.CLS_CNT_FRM_FRAMES p).parseCount p x).act 4 1
    let d := (((c.bufWrite (beats h.len) h.cls).pathBeats p (beats h.len)).pmc (5 + p) 1 { cls := some h.cls }).containAll up
    let lost := up.any (fun u => match u with
      | .tableSlot loc => h.keys.any (fun k => Dev.probes k.1 k.2 (locSlot loc)) | _ => false)
    let r := d.lookup h.keys h.accession
    let act := match r with | some (_, i) => slotAction (d.slot i) | none => d.defAction p
    let e : Dev := { d with cls := { d.cls with flights := d.cls.flights.set p (d.cls.flights.getD p [] ++
      [({ frame := h, act := if lost then 0 else act, resolved := false, lost := lost } : Flight)]) } }
    exec (.classifyFrame p at' up) s = .next (s.after (if lost then e else e.lookupCount p h.cls r))) ∧
  (∀ (p : Nat) (x : Flight) (s : State), (s.dev.cls.flights.getD p []).find? (fun x => !x.resolved) = some x →
    let d := ({ s.dev with cls := { s.dev.cls with
      flights := s.dev.cls.flights.set p (resolveFirst (s.dev.cls.flights.getD p [])) } } : Dev).trcNote x.frame
        (fun t => { t with action := s.dev.f F.OBS_CYCLE_CYCLE })
    exec (.actionResolve p) s = .next (s.after (if d.f F.CLS_ACC_STAT_STATE = 3
      then d.set F.CLS_ACC_STAT_DRAIN (d.unresolved (d.f F.CLS_ACC_STAT_OLD)) else d))) ∧
  (∀ (p : Nat) (up : List Upset) (x : Flight) (rest : List Flight) (s : State), s.dev.cls.flights.getD p [] = x :: rest →
    x.resolved = true →
    let f := x.frame
    let a := ({ s.dev with cls := { s.dev.cls with flights := s.dev.cls.flights.set p rest } } : Dev).containAll up
    let b := if f.l3Sum = 2 then a.count F.CLS_CNT_CSUM_L3_BAD p else a
    let d := if f.l4Sum = 2 then b.count F.CLS_CNT_CSUM_L4_BAD p else b
    let drop := x.lost = true ∨ (bit (d.f F.CLS_CTL_CSUM_DROP) p = true ∧ (f.l3Sum = 2 ∨ f.l4Sum = 2))
    (drop → exec (.applyAction p up) s = .next (s.after ((d.count F.CLS_CNT_DROP_ACT_DROP p).trcClose f 4))) ∧
    (¬ drop → bit x.act 91 = false → exec (.applyAction p up) s = .next (s.after (d.actCopies p x.act f (cellUpset up)))) ∧
    (¬ drop → bit x.act 91 = true →
      let r := d.polTake (bits x.act 78 13) f.len
      exec (.applyAction p up) s = .next (s.after (if r.1 then r.2.actCopies p x.act f (cellUpset up)
        else (r.2.count F.CLS_CNT_DROP_POL_DROP p).trcClose f 3)))) ∧
  ∀ (up : List Upset) (s : State), s.dev.on 11 = true → s.dev.f F.RST_SCRUB_EN ≠ 0 →
    let k := s.dev.cls.scrub
    let d := ({ s.dev with cls := { s.dev.cls with scrub := (k + 1) % 8192 } } : Dev).containAll up
    exec (.tableScrub up) s = .next (s.after (if k = 8191 then d.count F.RST_SCRUB_PASSES else d))

/-- R189 and R190 for the engine, R183 and R187 for the accession states (CLS_ACC_STAT.STATE: 0 INIT, 1 READY, 3 DRAINING, 4 RETIRING). -/
def Obligations.TableUpdateCommands : Prop :=
  (∀ (op : Nat) (c : Instr) (w : RegWr) (s : State), (op = 1 ∧ c = .clsUpdRead w) ∨ (op = 2 ∧ c = .clsUpdWrite w) ∨
      (op = 3 ∧ c = .clsUpdMove w) ∨ (op = 4 ∧ c = .clsUpdSetvis w) ∨ (op = 5 ∧ c = .clsUpdHash w) →
    w.val % 16 = op → s.dev.passes w.agent 0x80060 →
    let busy := s.dev.f F.CLS_UPD_STAT_BUSY
    let late := s.dev.updSettle
    (busy ≠ 0 → exec c s = .next (s.after (((if late.b F.CLS_UPD_STAT_BUSY = true
      then ((late.set F.CLS_UPD_STAT_ERR 9).set F.CLS_UPD_STAT_ERR_SEEN 1).raise 1250
      else late.updTake w).respond .done).accessed s.dev w.agent 0x80060))) ∧
    (busy = 0 →
    let d := s.dev.set F.CLS_UPD_STAT_BUSY 0
    let t := bits w.val 4 1
    let i := cmdSlot t w.val
    let j := cmdSlot t s.dev.updDst
    let v := d.slot i
    let n := d.slot (i + 1)
    let sent := [Mir.tableOp w.val s.dev.updDst ((List.range 8).map (fun k => d.f F.CLS_UPD_DATA_DATA k))]
    let err := d.updError (s.dev.isSink && w.agent != .twin) op w.val s.dev.updDst
    let done := fun (e : Dev) =>
      ((({ e with cls := { e.cls with updAt := e.cycle } } : Dev).set F.CLS_UPD_STAT_BUSY 1).respond .done).accessed s.dev w.agent 0x80060
    (err ≠ 0 → exec c s = .next (s.after
      (((((d.set F.CLS_UPD_STAT_ERR err).set F.CLS_UPD_STAT_ERR_SEEN 1).raise 1250).respond .done).accessed s.dev w.agent 0x80060))) ∧
    (err = 0 →
      (op = 1 → exec c s = .next (s.after (done ((if slotLive v = true ∧ slotKtype v = 2 ∧ d.isCont i = false ∧ i % 2 = 0
          then (d.setUpdSlot 0 v).setUpdSlot 1 n else d.setUpdSlot 0 v).set F.CLS_UPD_STAT_ERR 0)))) ∧
      (op = 2 → exec c s = .next (s.after (done (((if slotKtype (d.updSlot 0) = 2
          then (d.setSlot i (d.updSlot 0)).setSlot (i + 1) (d.updSlot 1)
          else d.setSlot i (d.updSlot 0)).stashCount.set F.CLS_UPD_STAT_ERR 0).mirror sent)))) ∧
      (op = 3 → exec c s = .next (s.after (done (((if slotKtype v = 2
          then (((d.setSlot j v).setSlot (j + 1) n).setSlot i 0).setSlot (i + 1) 0
          else (d.setSlot j v).setSlot i 0).stashCount.set F.CLS_UPD_STAT_ERR 0).mirror sent)))) ∧
      (op = 4 →
        let v' := withBit v (if d.accNext % 2 = 0 then 254 else 255) (bit w.val 33)
        exec c s = .next (s.after (done (((if slotLive v' then d.setSlot i v'
          else if slotKtype v = 2 then (d.setSlot i 0).setSlot (i + 1) 0
          else d.setSlot i 0).stashCount.set F.CLS_UPD_STAT_ERR 0).mirror sent)))) ∧
      (op = 5 →
        let k := keyOf (d.updSlot 0) (d.updSlot 1)
        exec c s = .next (s.after (done (((d.set F.CLS_UPD_STAT_B0 (k.bucket 0)).set F.CLS_UPD_STAT_B1 (k.bucket 1)).set
          F.CLS_UPD_STAT_ERR 0))))))) ∧
  (∀ s : State, s.dev.f F.CLS_ACC_STAT_STATE = 3 → s.dev.f F.CLS_ACC_STAT_DRAIN = 0 →
    exec .accDrained s = .next (s.after (s.dev.set F.CLS_ACC_STAT_STATE 4))) ∧
  (∀ s : State, s.dev.f F.CLS_ACC_STAT_STATE = 4 →
    exec .accRetired s = .next (s.after (((s.dev.sweep.stashCount).set F.CLS_ACC_STAT_STATE 1).raise 1249))) ∧
  ∀ s : State, s.dev.f F.CLS_ACC_STAT_STATE = 0 → s.dev.on 11 = true →
    let up := s.dev.cls.initMask &&& ((List.range 4).foldl (fun a b => a + b2n (s.dev.on (14 + b)) * 2 ^ b) 0 + b2n (s.dev.on 14) * 16)
    up ≠ 0 → (s.dev.cls.boot = true → up = s.dev.cls.initMask) →
    exec .clsInitDone s = .next (s.after ((({ s.dev with cls := { s.dev.cls with
      slots := clearSlots up s.dev.cls.slots, initMask := s.dev.cls.initMask - up, boot := false } } : Dev).stashCount).set F.CLS_ACC_STAT_STATE 1))

/-- R192 to R194, R197 to R200, R204, R210 to R214 and R217 to R219. Times in units of 2^-16 ns; SMD values as R207 gives them. That an IDLE or
LPI lane within a frame is passed over, and how a verify mPacket with errors counts, are the model's choice (log entry 37). -/
def Obligations.PortReceiveCommands : Prop :=
  (∀ (n : Nat) (words : List PortWord) (rdy : List Bool) (s : State), s.dev.portUp n = true →
    let starts := wordStarts (s.dev.portLanes n) words
    let taken := fun (rdy : List Bool) => s.after (s.dev.flowLook n (fun d => words.foldl (fun d w => d.rxWord n rdy w) d))
    let l := laneOctets (s.dev.portLanes n) words
    ((∀ v ∈ starts, s.dev.kindAt n v = .express ∨ s.dev.kindAt n v = .unknown) → exec (.upmRxFrame n words) s = .next (taken [])) ∧
    ((∀ v ∈ starts, s.dev.kindAt n v ≠ .express ∧ s.dev.kindAt n v ≠ .unknown ∧ s.dev.kindAt n v ≠ .verify ∧ s.dev.kindAt n v ≠ .respond) →
      exec (.preemptFragmentRx n words) s = .next (taken [])) ∧
    ((∀ v ∈ starts, s.dev.kindAt n v = .verify) → exec (.verifyMpacketRx n words rdy) s = .next (taken rdy)) ∧
    ((∀ v ∈ starts, s.dev.kindAt n v = .respond) → exec (.respondMpacketRx n words) s = .next (taken [])) ∧
    (∀ v, starts = [v] → s.dev.kindAt n v = .express → u16 l 12 = 0x8808 →
      (u16 l 14 = 1 → exec (.pauseRx n words) s = .next (taken [])) ∧
      (u16 l 14 = 0x0101 → exec (.pfcRx n words) s = .next (taken [])))) ∧
  (∀ (d : Dev) (n at' c v : Nat) (rdy : List Bool) (w : PortWord),
    (w.valid = false → d.rxWord n rdy w = d) ∧
    (w.valid = true → d.f F.UPM_STAT_RX_LPI n = 0 → allLpi (d.portLanes n) w = false →
      d.rxWord n rdy w = (List.range (d.portLanes n)).foldl (fun d k => d.rxLane n (w.edge + k * 64 * 65536 / d.portGb n) rdy
        (bits w.codes (4 * k) 4, bits w.data (64 * k) 64)) d) ∧
    ((d.port n).rx = none → c ≠ 2 → d.rxLane n at' rdy (c, v) = d) ∧
    (c = 2 → d.rxLane n at' rdy (c, v) = d.laneStart n rdy (bits v 48 8 * 256 + bits v 56 8)) ∧
    ∀ f, (d.port n).rx = some f →
      (c = 1 → d.rxLane n at' rdy (c, v) = d.rxOctets n at' f (leBytes 8 v)) ∧
      (8 ≤ c → c < 16 → ∀ g, ((d.rxOctets n at' f (leBytes (c - 8) v)).port n).rx = some g →
        d.rxLane n at' rdy (c, v) = (d.rxOctets n at' f (leBytes (c - 8) v)).rxEnd n rdy g) ∧
      (c = 3 ∨ c = 5 ∨ c = 6 ∨ c = 7 → d.rxLane n at' rdy (c, v) = d.portPut n { d.port n with rx := some { f with bad := true } }) ∧
      (d.kindAt n f.smd = .express → d.rxEnd n rdy f =
        (d.portPut n { d.port n with rx := none }).macRxFrame n f.ts f.octets f.bad f.high f.full)) ∧
  (∀ (d : Dev) (n ts : Nat) (l : List Byte) (high full : Bool),
    (d.macRxFrame n ts l true high full = d.count F.UPM_CNT_RXE2_CODE_ERR n) ∧
    (l.length < 64 → d.macRxFrame n ts l false high full =
      if fcsOk l then d.count F.UPM_CNT_RXE_RUNT n else d.count F.UPM_CNT_RXE_FRAGMENT n) ∧
    (d.rxLimit n l < l.length → 64 ≤ l.length → d.macRxFrame n ts l false high full =
      if fcsOk l then d.count F.UPM_CNT_RXE_OVERSIZE n else d.count F.UPM_CNT_RXE2_JABBER n) ∧
    (64 ≤ l.length → l.length ≤ d.rxLimit n l → fcsOk l = false → d.macRxFrame n ts l false high full = d.count F.UPM_CNT_RXE_FCS_ERR n) ∧
    (64 ≤ l.length → l.length ≤ d.rxLimit n l → fcsOk l = true →
      let g := (d.rxGood n l).patterns n l
      let da := field l 0 6
      let mine := da = 0x0180C2000001 ∨ da = g.f F.UPM_MACADDR_ADDR n
      let power := d.on (12 + n / 2) = true
      let lossy := d.lossy n high (body4 l) = true
      (power → lossy → d.macRxFrame n ts l false high full = d.count F.UPM_CNT_RXP_LOSSY_DROP n) ∧
      (power → ¬ lossy → full = true → d.macRxFrame n ts l false high full = d.count F.UPM_CNT_RXP_OVERRUN n) ∧
      ((power → ¬ lossy ∧ full = false) →
        (u16 (body4 l) 12 = 0x8808 → l.length = 64 → mine → u16 l 14 = 1 → d.macRxFrame n ts l false high full =
          let c := g.count F.UPM_CNT_FC_PAUSE_RX n
          if c.f F.UPM_FC_CFG_RX_PAUSE_EN n ≠ 0 then c.quantaPut n (List.replicate 8 (u16 l 16)) else c) ∧
        (u16 (body4 l) 12 = 0x8808 → l.length = 64 → mine → u16 l 14 = 0x0101 → d.macRxFrame n ts l false high full =
          let c := g.count F.UPM_CNT_FC_PFC_RX n
          if c.f F.UPM_FC_CFG_RX_PFC_EN n ≠ 0 then c.quantaPut n ((List.range 8).map (fun i =>
            if bit (u16 l 16) i then u16 l (18 + 2 * i) else (c.port n).quanta.getD i 0)) else c) ∧
        (u16 (body4 l) 12 ≠ 0x8808 →
          (d.active = false → d.macRxFrame n ts l false high full = g.count F.TWN_CNT2_STBY_DROP) ∧
          (d.active = true → ¬ power → d.macRxFrame n ts l false high full = g.count F.UPM_CNT_TXE_WAKE_DISCARD n) ∧
          (d.active = true → power → d.macRxFrame n ts l false high full = g.fifoPush (1 + n / 2)
            { data := d.rxTag n (body4 l), path := 1 + n / 2, src := n, fcs := tail4 l, cls := d.rxClass n (body4 l)
              ts := timeMove ts (-latUnits (d.z F.UPM_TS_CFG_RX_LAT n)) }))))) ∧
  (∀ (d : Dev) (n x c : Nat) (f : RxNow), f.bad = false → 4 ≤ f.octets.length →
    let last := tail4 f.octets
    ((d.port n).asm = none → last ≠ fcs (body4 f.octets) → last = mcrc (body4 f.octets) →
      d.rxFragment n (.first x) f = d.portPut n { d.port n with
        asm := some { x := x, cnt := 0, octets := body4 f.octets, ts := f.ts, high := f.high, full := f.full } }) ∧
    ∀ a, (d.port n).asm = some a → a.x = x → a.cnt = c →
      let e := d.count F.UPM_CNT_RXP_FRAGS_RX n
      let all := a.octets ++ body4 f.octets
      (last ≠ fcs all → last = mcrc all → d.rxFragment n (.next x c) f = e.portPut n { e.port n with
        asm := some { a with cnt := (c + 1) % 4, octets := all, full := a.full || f.full } }) ∧
      (last = fcs all → d.rxFragment n (.next x c) f =
        (e.portPut n { e.port n with asm := none }).macRxFrame n a.ts (a.octets ++ f.octets) false a.high (a.full || f.full))) ∧
  (∀ (n i : Nat) (s : State), n < 4 →
    exec (.pauseTimerExpiry n i) s = .next (s.after (s.dev.quantaPut n ((s.dev.port n).quanta.set i 0)))) ∧
  (∀ (n : Nat) (rdy : List Bool) (f : RxNow) (d : Dev), d.f F.UPM_PRE_CFG_PRE_EN n ≠ 0 →
    let e := d.portPut n { d.port n with rx := none }
    f.bad = false → 64 ≤ f.octets.length → f.octets.length ≤ e.rxLimit n f.octets →
    tail4 f.octets = mcrc (body4 f.octets) →
    (f.smd = 0x5507 → d.rxEnd n rdy f = e.mPacket n 0x5519 rdy) ∧
    (f.smd = 0x5519 → d.rxEnd n rdy f = if e.f F.UPM_PRE_STAT_VSTATUS n = 2
      then (e.setI F.UPM_PRE_STAT_VSTATUS n 3).raise (1281 + 2 * n) else e)) ∧
  (∀ (n : Nat) (rdy : List Bool) (s : State), s.dev.portUp n = true →
    let sent := fun (d : Dev) => let e := d.mPacket n 0x5507 rdy; s.after (e.portPut n { e.port n with vTick := e.clk.ticks })
    (s.dev.f F.UPM_PRE_CFG_PRE_EN n ≠ 0 → s.dev.f F.UPM_PRE_CFG_VERIFY_DIS n = 0 → s.dev.f F.UPM_PRE_STAT_VSTATUS n = 1 →
      exec (.verifyStart n rdy) s = .next (sent ((s.dev.setI F.UPM_PRE_STAT_VSTATUS n 2).setI F.UPM_PRE_STAT_ATTEMPTS n 1))) ∧
    (s.dev.f F.UPM_PRE_STAT_VSTATUS n = 2 →
      (s.dev.port n).vTick + 8 * max 1 (min 128 (s.dev.f F.UPM_PRE_CFG_VERIFY_TIME n)) ≤ s.dev.clk.ticks →
      let k := s.dev.f F.UPM_PRE_STAT_ATTEMPTS n
      (k < 3 → exec (.verifyTimeout n rdy) s = .next (sent (s.dev.setI F.UPM_PRE_STAT_ATTEMPTS n (k + 1)))) ∧
      (3 ≤ k → exec (.verifyTimeout n rdy) s =
        .next (s.after ((s.dev.setI F.UPM_PRE_STAT_VSTATUS n 4).raise (1281 + 2 * n)))))) ∧
  (∀ (n : Nat) (s : State),
    (s.dev.portUp n = true → s.dev.f F.UPM_STAT_RX_LPI n = 0 → exec (.rxLpiEntry n) s =
      .next (s.after ((s.dev.setI F.UPM_STAT_RX_LPI n 1).count F.UPM_CNT_LPI_RX_LPI_ENTRIES n))) ∧
    (s.dev.portOn n = true → s.dev.f F.UPM_STAT_RX_LPI n ≠ 0 → exec (.rxLpiExit n) s =
      .next (s.after ((s.dev.setI F.UPM_STAT_RX_LPI n 0).linkSeen n)))) ∧
  ∀ (n : Nat) (s : State), n < 4 → s.dev.inStill = false → s.dev.inOff = false → s.dev.on (18 + n) = true →
    bit s.dev.clk.stopped (5 + n) = false →
    ((s.dev.port n).link = false → exec (.upmLinkChange n true) s = .next (s.after
      (((s.dev.portPut n { s.dev.port n with link := true }).linkMoved n true)))) ∧
    ((s.dev.port n).link = true → exec (.upmLinkChange n false) s = .next (s.after
      ((s.dev.portPut n { s.dev.port n with link := false }).linkMoved n false)))

/-- R195, R201 to R208, R211, R213, R215 and R216; the class selection of R243 is `egrNext`. -/
def Obligations.PortSendCommands : Prop :=
  (∀ (n edge gap cut i : Nat) (pre : Bool) (rdy : List Bool) (up : List Upset) (f : Frame) (d : Dev) (s : State),
    s.dev.portOn n = true → s.dev.xUp (2 + n) = true → (s.dev.containAll up).egrNext n = some (i, pre, f, d) →
    let a := (d.bufRead (beats f.len) i).pathBeats (4 + n / 2) (beats f.len)
    let go := exec (.upmTxFrame n edge gap cut rdy up) s
    (a.f F.UPM_CFG_EN n = 0 ∨ a.portLink n = false → go = .next (s.after ((a.count F.UPM_CNT_TXE_LINK_DROP n).macDrop f 0))) ∧
    (a.f F.UPM_CFG_EN n ≠ 0 → a.portLink n = true →
      let r := a.leave f
      let l := withFcs (r.2.txTag n r.1)
      let ts := r.2.txStamp n edge gap
      let e := (r.2.trcNote f (fun t => { t with leave := r.2.cycle, tsOut := ts })).sendLeft f 0 ts
      let x := (e.port n).x
      let moved := fun (d : Dev) => d.portPut n { d.port n with x := ((d.port n).x + 1) % 4 }
      (cellUpset up = none →
        (l.length ≤ 9600 → pre = false → go = .next (s.after (((e.drive n gap 0x55D5 l false rdy).txDone n l.length).trcClose f 0 ts))) ∧
        (l.length ≤ 9600 → pre = true → go = .next (s.after ((moved e).sendFrag n gap cut rdy
          { octets := l, done := 0, x := x, cnt := 0, cls := i, frame := f }))) ∧
        (9600 < l.length → go = .next (s.after ((r.2.count F.UPM_CNT_TXE_SIZE_DROP n).macDrop f 0)))) ∧
      ∀ loc, cellUpset up = some loc →
        (cut = 0 → go = .next (s.after ((a.bufDrop loc).macDrop f 0))) ∧
        (cut ≠ 0 → l.length ≤ 9600 →
          let o := e.drive n gap (if pre then smdStart x else 0x55D5) (l.take cut) true rdy
          go = .next (s.after (((if pre then moved o else o).bufDrop loc).trcClose f 7))))) ∧
  (∀ (n edge gap cut : Nat) (rdy : List Bool) (up : List Upset) (h : Held) (s : State), s.dev.portOn n = true → s.dev.xUp (2 + n) = true →
    let d := s.dev.containAll up
    d.egrNext n = none → (d.port n).held = some h →
    exec (.upmTxFrame n edge gap cut rdy up) s = .next (s.after (d.sendFrag n gap cut rdy h))) ∧
  (∀ (n : Nat) (rdy : List Bool) (s : State), s.dev.portUp n = true → s.dev.f F.UPM_FC_CFG_TX_MODE n = 1 ∨ s.dev.f F.UPM_FC_CFG_TX_MODE n = 2 →
    let q := s.dev.f F.UPM_FC_CFG_TX_QUANTA n
    let xon := min (s.dev.f F.UPM_FC_THR_XON_THR n) 1024
    let d := s.dev.portPut n { s.dev.port n with xoffDue := false }
    let sent := s.after ((d.setI F.UPM_STAT_XOFF n 1).pauseFrame n q rdy)
    (s.dev.f F.UPM_STAT_XOFF n = 0 → min (s.dev.f F.UPM_FC_THR_XOFF_THR n) 1024 ≤ s.dev.occupancy n →
      exec (.xoffSend n rdy) s = .next sent) ∧
    ((s.dev.port n).xoffDue = true → exec (.xoffSend n rdy) s = .next sent) ∧
    (s.dev.f F.UPM_STAT_XOFF n ≠ 0 → xon < s.dev.occupancy n → exec (.xoffRepeat n rdy) s = .next sent) ∧
    (s.dev.f F.UPM_STAT_XOFF n ≠ 0 → s.dev.occupancy n ≤ xon →
      exec (.xonSend n rdy) s = .next (s.after ((d.setI F.UPM_STAT_XOFF n 0).pauseFrame n 0 rdy)))) ∧
  (∀ (n us : Nat) (s : State), s.dev.portUp n = true → s.dev.f F.UPM_EEE_CFG_EEE_EN n ≠ 0 → s.dev.f F.UPM_STAT_TX_LPI n = 0 →
    (∀ i, i < 8 → (s.dev.egr n i).frames = []) → (s.dev.port n).held = none → s.dev.f F.UPM_PRE_STAT_VSTATUS n ≠ 2 →
    s.dev.verifyDue n = false → s.dev.xoffWanted n = false → s.dev.xonWanted n = false →
    (if s.dev.f F.PWR_POND_LVL_STATE = 0 then s.dev.f F.UPM_EEE_CFG_IDLE_HOLD n else s.dev.f F.UPM_EEE_CFG_IDLE_HOLD_POND n) ≤ us →
    exec (.lpiEntry n us) s = .next (s.after ((s.dev.setI F.UPM_STAT_TX_LPI n 1).count F.UPM_CNT_LPI_TX_LPI_ENTRIES n))) ∧
  (∀ (n : Nat) (w : RegWr) (s : State), n < 4 → s.dev.passes w.agent (0xA0000 + 0x4000 * n) →
    s.dev.takesDirect (0xA0000 + 0x4000 * n) w →
    let why := s.dev.upmWhy n (w.merged F.UPM_CFG_EN (s.dev.f F.UPM_CFG_EN n)) (w.merged F.UPM_CFG_RATE (s.dev.f F.UPM_CFG_RATE n))
    let a := if s.dev.f F.UPM_CFG_EN n = 0 ∧ w.merged F.UPM_CFG_EN (s.dev.f F.UPM_CFG_EN n) = 1
      then s.dev.portPut n { s.dev.port n with credit := 0, part := [] } else s.dev
    let a := if w.merged F.UPM_CFG_EN (s.dev.f F.UPM_CFG_EN n) = 0
      then (a.portPut n { a.port n with rx := none, asm := none }).setI F.UPM_STAT_TX_LPI n 0 else a
    (why = 0 → exec (.upmCfgWrite n w) s = .next (s.after
      ((((a.putAll (fldsAt (0xA0000 + 0x4000 * n)) w).mirrored (0xA0000 + 0x4000 * n) w).respond .done).accessed s.dev w.agent (0xA0000 + 0x4000 * n)))) ∧
    (why ≠ 0 → exec (.upmCfgWrite n w) s = .next (s.after
      (((((s.dev.setI F.UPM_STAT_REFUSED n 1).setI F.UPM_STAT_REFUSE_WHY n why).mirrored (0xA0000 + 0x4000 * n) w).respond .done).accessed s.dev w.agent (0xA0000 + 0x4000 * n))))) ∧
  (∀ (n : Nat) (w : RegWr) (s : State), n < 4 → s.dev.passes w.agent (0xA0020 + 0x4000 * n) →
    let xon := min (w.merged F.UPM_FC_THR_XON_THR (s.dev.f F.UPM_FC_THR_XON_THR n)) 1024
    let xoff := min (w.merged F.UPM_FC_THR_XOFF_THR (s.dev.f F.UPM_FC_THR_XOFF_THR n)) 1024
    (xon < xoff → exec (.upmFcThrWrite n w) s =
      .next (s.after (((s.dev.flowLook n (fun d => d.putAll (fldsAt (0xA0020 + 0x4000 * n)) w)).respond .done).accessed s.dev w.agent (0xA0020 + 0x4000 * n)))) ∧
    (xoff ≤ xon → exec (.upmFcThrWrite n w) s =
      .next (s.after ((((s.dev.setI F.UPM_STAT_REFUSED n 1).setI F.UPM_STAT_REFUSE_WHY n 5).respond .done).accessed s.dev w.agent (0xA0020 + 0x4000 * n))))) ∧
  ∀ (n : Nat) (w : RegWr) (s : State), n < 4 → s.dev.passes w.agent (0xA0030 + 0x4000 * n) → s.dev.takesDirect (0xA0030 + 0x4000 * n) w →
    let d := s.dev.putAll (fldsAt (0xA0030 + 0x4000 * n)) w
    exec (.preEnWrite n w) s = .next (s.after
      ((((if w.mask.getLsbD 0 then d.vRestart n else d).mirrored (0xA0030 + 0x4000 * n) w).respond .done).accessed s.dev w.agent (0xA0030 + 0x4000 * n)))

/-- R226 and R229 to R232, R244. -/
def Obligations.SpillAndFlushCommands : Prop :=
  (∀ (c : Nat) (r : SpillRec) (rest : List SpillRec) (s : State), s.dev.on 26 = true → s.dev.on 31 = true →
    let y := s.dev.ctxPut c { s.dev.ctx c with fetching := true }
    (s.dev.ctx c).spilled = r :: rest → (s.dev.ctx c).fetch = none → r.written = true →
    let lim := min (s.dev.f F.QSC_FC_CFG_QLIM c) 98304
    (s.dev.ctx c).cells ≤ lim / 2 → (s.dev.ctx c).cells + r.frame.cells ≤ min (y.f F.QSC_FC_CFG_QLIM c) 98304 → r.frame.cells ≤ y.freeCells →
    let d := y.ctxPut c { y.ctx c with spilled := rest, fetch := some (r, false) }
    exec (.spillFetchStart c) s = .next (s.after (d.request
      { kind := .spillRead c, write := false, mstr := 2, func := d.f F.MBX_ACL_CTRL_FN
        addr := d.segAddr r.pool r.seg + r.ofs, len := recordLen r.frame, data := [] }))) ∧
  (∀ (c : Nat) (r : Rsp) (q : FabReq) (x : SpillRec) (dead : Bool) (s : State), s.dev.outstanding (.spillRead c) = some q →
    let d := s.dev.answered (.spillRead c) q r
    (d.ctx c).fetch = some (x, dead) →
    (r = .done → dead = false → exec (.spillFetchDone c r) s = .next (s.after (((((d.ctxPut c { d.ctx c with
      fetch := none, frames := (d.ctx c).frames ++ [x.frame] }).bufWrite (beats x.frame.len) 0).pathBeats 6
      (beats x.frame.len)).recordsGone c [x]).fetchNext c))) ∧
    (r = .done → dead = true → exec (.spillFetchDone c r) s = .next (s.after
      (((((d.ctxPut c { d.ctx c with fetch := none }).count F.QSC_CNT_FLUSH_FLUSHED).trcClose x.frame 6).recordsGone c [x]).fetchNext c))) ∧
    (r ≠ .done →
      let gone := x :: (d.ctx c).spilled
      let e := gone.foldl (fun d g => d.trcClose g.frame 5)
        ((d.ctxPut c { d.ctx c with fetch := none, fetching := false, spilled := [] }).recordsGone c gone)
      exec (.spillFetchDone c r) s =
        .next (s.after (((e.countN F.QSC_CNT_SPILL_SPILL_RERR gone.length).setI F.QSC_FC_STAT_SPILL_ERR c 1).raise 1312)))) ∧
  (∀ (c num : Nat) (r : Rsp) (q : FabReq) (s : State), s.dev.outstanding (.spillWrite c num) = some q →
    let a := s.dev.answered (.spillWrite c num) q r
    let d := a.ctxPut c { a.ctx c with writes := (a.ctx c).writes.del num }
    let e := (d.setI F.QSC_POOL_SIZE_FAULT ((a.ctx c).writes.getD num 0) 1).raise 1312
    ((d.ctx c).spilled.find? (fun x => x.num == num) = none →
      exec (.spillWriteDone c num r) s = .next (s.after (if r = .done then d else e))) ∧
    ∀ x, (d.ctx c).spilled.find? (fun x => x.num == num) = some x →
      (r = .done → exec (.spillWriteDone c num r) s = .next (s.after (((d.ctxPut c { d.ctx c with
        spilled := (d.ctx c).spilled.map (fun x => if x.num == num then { x with written := true } else x) }).count
          F.QSC_CNT_SPILL2_SPILLED).fetchNext c))) ∧
      (r ≠ .done → exec (.spillWriteDone c num r) s = .next (s.after (((((e.ctxPut c { d.ctx c with
        spilled := (d.ctx c).spilled.erase x }).recordsGone c [x]).count F.QSC_CNT_SPILL_SPILL_WERR).trcClose x.frame 5).fetchNext c)))) ∧
  (∀ (w : RegWr) (s : State), s.dev.passes w.agent 0xC0010 → w.fld F.QSC_FLUSH_GO ≠ 0 → s.dev.f F.QSC_STAT_FLUSH_BUSY = 0 →
    let c := w.fld F.QSC_FLUSH_CTX
    let x := s.dev.ctx c
    let gone := x.frames ++ (match x.rem with | some r => [r.frame] | none => []) ++ x.spilled.map (·.frame)
    let d := s.dev.ctxPut c
      { x with frames := [], rem := none, spilled := [], deficit := 0, fetching := false, fetch := x.fetch.map (fun f => (f.1, true)) }
    let e := (gone.foldl (fun d f => d.trcClose f 6) (d.recordsGone c x.spilled)).countN F.QSC_CNT_FLUSH_FLUSHED gone.length
    exec (.qscFlush w) s = .next (s.after
      (((({ e with qsc := { e.qsc with flushing := some c } } : Dev).set F.QSC_STAT_FLUSH_BUSY 1).respond .done).accessed s.dev w.agent 0xC0010))) ∧
  (∀ (c : Nat) (s : State), s.dev.qsc.flushing = some c → exec .flushDone s =
    .next (s.after (({ s.dev with qsc := { s.dev.qsc with flushing := none } } : Dev).set F.QSC_STAT_FLUSH_BUSY 0))) ∧
  ∀ (k : Nat) (w : RegWr) (s : State), k < 16 → s.dev.passes w.agent (0xC0200 + 0x10 * k) →
    let en := w.merged F.QSC_POOL_CFG_EN (s.dev.f F.QSC_POOL_CFG_EN k)
    let base := w.merged F.QSC_POOL_CFG_BASE (s.dev.f F.QSC_POOL_CFG_BASE k)
    let nseg := s.dev.f F.QSC_POOL_SIZE_NSEG k
    let was := s.dev.f F.QSC_POOL_CFG_EN k ≠ 0
    (s.dev.f F.ID_INTEG_FAB_WIRED = 0 → en = 1 ∨ base ≠ s.dev.f F.QSC_POOL_CFG_BASE k → exec (.qscPoolCfgWrite k w) s = .next (s.after
      (((({ s.dev with free := s.dev.free + 1 } : Dev).qscRefuse (Config.freeValue s.dev.free)).respond .done).accessed s.dev
        w.agent (0xC0200 + 0x10 * k)))) ∧
    (s.dev.f F.ID_INTEG_FAB_WIRED ≠ 0 → (en = 1 → nseg ≠ 0) → (en = 1 → base * 65536 + nseg * 65536 ≤ 2 ^ 48) → (en = 1 → nseg + s.dev.otherSegs k ≤ 2 ^ 26) →
    (was → base = s.dev.f F.QSC_POOL_CFG_BASE k) → (was → en = 0 → s.dev.f F.QSC_POOL_SIZE_USED k = 0) →
    let d := (s.dev.setI F.QSC_POOL_CFG_EN k en).setI F.QSC_POOL_CFG_BASE k base
    (was → en = 0 → exec (.qscPoolCfgWrite k w) s = .next (s.after (((d.poolPut k {}).respond .done).accessed s.dev w.agent (0xC0200 + 0x10 * k)))) ∧
    (¬ (was ∧ en = 0) → exec (.qscPoolCfgWrite k w) s = .next (s.after ((d.respond .done).accessed s.dev w.agent (0xC0200 + 0x10 * k)))))

/-- R251, R252, R265, R269, R271, R272, R508 and R532. -/
def Obligations.DoorbellsAndQueueCommands : Prop :=
  (∀ (f : Nat) (w : RegWr) (s : State), f < 4 → s.dev.reach w.agent = true → s.dev.denied w.agent = false → s.dev.on 27 = true →
    let d := ((s.dev.wake 3).respond .done).accessed s.dev w.agent (0x110000 + 0x1000 * f)
    d.on 27 = true → d.resetting f = false →
    let q := w.fld F.HRG_DB_WQ_QNUM
    let i := w.fld F.HRG_DB_WQ_IDX
    (w.mask ≠ 255 → exec (.hrgDbWq f w) s = .next (s.after (d.dbBad f q 5 false))) ∧
    (w.mask = 255 → d.wqReady q = false ∨ d.f F.HRG_WQ_STAT_FUNC q ≠ f →
      exec (.hrgDbWq f w) s = .next (s.after (d.dbBad f q 1 false))) ∧
    (w.mask = 255 → d.wqReady q = true → d.f F.HRG_WQ_STAT_FUNC q = f → w.fld F.HRG_DB_WQ_INV = 1 →
      (d.wqSize q < idxSub (d.wqTail q) i → exec (.hrgDbWq f w) s = .next (s.after (d.dbBad f q 4 false))) ∧
      (idxSub (d.wqTail q) i ≤ d.wqSize q → exec (.hrgDbWq f w) s = .next (s.after (d.wqInvalidate q i)))) ∧
    (w.mask = 255 → d.wqReady q = true → d.f F.HRG_WQ_STAT_FUNC q = f → w.fld F.HRG_DB_WQ_INV ≠ 1 →
      let ahead := idxSub i (d.wqHead q)
      (d.wqSize q < ahead → exec (.hrgDbWq f w) s = .next (s.after (d.dbBad f q 2 false))) ∧
      (ahead ≤ d.wqSize q → ahead < idxSub (d.wqTail q) (d.wqHead q) →
        exec (.hrgDbWq f w) s = .next (s.after (d.dbBad f q 3 false))) ∧
      ∀ x, ahead ≤ d.wqSize q → idxSub (d.wqTail q) (d.wqHead q) ≤ ahead → d.hrg.wq.look q = some x →
        let e := if x.cache = [] ∧ x.fetch = none ∧ i ≠ d.wqTail q then d.pmc 15 1 { func := some f } else d
        exec (.hrgDbWq f w) s = .next (s.after ((e.setI F.HRG_WQ_STAT_TAIL q i).wqPump q)))) ∧
  (∀ (f : Nat) (w : RegWr) (s : State), f < 4 → s.dev.reach w.agent = true → s.dev.denied w.agent = false → s.dev.on 27 = true →
    let d := ((s.dev.wake 3).respond .done).accessed s.dev w.agent (0x110000 + 0x1000 * f + 8)
    d.on 27 = true → d.resetting f = false →
    let q := w.fld F.HRG_DB_CQ_QNUM
    (w.mask ≠ 255 → exec (.hrgDbCq f w) s = .next (s.after (d.dbBad f q 5 false))) ∧
    (w.mask = 255 → d.cqReady q = false ∨ d.f F.HRG_CQ_STAT_FUNC q ≠ f →
      exec (.hrgDbCq f w) s = .next (s.after (d.dbBad f q 1 false))) ∧
    (w.mask = 255 → d.cqReady q = true → d.f F.HRG_CQ_STAT_FUNC q = f →
      let e := d.hostReread q
      let a := ((e.setI F.HRG_CQ_STAT_NOTIFY q 0).setI F.HRG_CQ_STAT_ARMED q 1).level q false
      (w.fld F.HRG_DB_CQ_ARM = 0 → exec (.hrgDbCq f w) s = .next (s.after e)) ∧
      ∀ x, w.fld F.HRG_DB_CQ_ARM ≠ 0 → a.hrg.cq.look q = some x →
        exec (.hrgDbCq f w) s = .next (s.after (a.cqPut q { x with arming := a.rereads q })))) ∧
  (∀ (f : Nat) (w : RegWr) (a : AdminPair) (s : State), f < 4 → s.dev.reach w.agent = true → s.dev.denied w.agent = false → s.dev.on 27 = true →
    let d := ((s.dev.wake 3).respond .done).accessed s.dev w.agent (0x110000 + 0x1000 * f + 0x10)
    let g := ((s.dev.wake 3).respond .done).accessed s.dev w.agent (0x110000 + 0x1000 * f + 0x18)
    d.on 27 = true → d.resetting f = false → g.on 27 = true → g.resetting f = false → w.mask = 255 →
    s.dev.hrg.admin.look f = some a →
    let i := w.fld F.HRG_DB_AWQ_IDX
    (w.fld F.HRG_DB_AWQ_QNUM ≠ 0 → exec (.hrgDbAwq f w) s = .next (s.after (d.dbBad f (w.fld F.HRG_DB_AWQ_QNUM) 1 true))) ∧
    (w.fld F.HRG_DB_AWQ_QNUM = 0 → w.fld F.HRG_DB_AWQ_INV ≠ 1 → idxSub i a.head ≤ 2 ^ a.wqLog → idxSub a.tail a.head ≤ idxSub i a.head →
      exec (.hrgDbAwq f w) s = .next (s.after (d.adminPut f { a with tail := i }))) ∧
    (w.fld F.HRG_DB_ACQ_ARM = 0 → exec (.hrgDbAcq f w) s = .next (s.after g)) ∧
    (w.fld F.HRG_DB_ACQ_ARM ≠ 0 → exec (.hrgDbAcq f w) s = .next (s.after
      (((g.adminPut f { a with armed := true, notify := false }).level (1024 + f) false).request
        { kind := .hostIdx (2048 + f), write := false, mstr := 4, func := f, addr := a.cqHdr + 8, len := 8, data := [] })))) ∧
  (∀ (d : Dev) (f q why : Nat) (adm : Bool), d.dbBad f q why adm = ((((d.setI F.HRG_DB_ERR_QNUM f q).setI F.HRG_DB_ERR_REASON f
    why).setB F.HRG_DB_ERR_ADMIN adm f).count F.HRG_DB_ERR_COUNT f).raise 1028) ∧
  (∀ (f : Nat) (w : RegWr) (s : State), f < 4 → s.dev.reach w.agent = true → s.dev.denied w.agent = false → s.dev.on 27 = true →
    let d := ((s.dev.wake 3).respond .done).accessed s.dev w.agent (0x110000 + 0x1000 * f + 0xF0)
    (w.mask = 255 → w.fld F.HRG_FUNC_RST_GO = 1 → d.resetting f = false →
      exec (.hrgFuncRst f w) s = .next (s.after (d.funcReset f))) ∧
    (w.mask ≠ 255 → d.resetting f = false → exec (.hrgFuncRst f w) s = .next (s.after (d.dbBad f 0 5 false)))) ∧
  (∀ (f : Nat) (s : State), f < 4 → exec (.funcrstN f) s = .next (s.after (s.dev.funcReset f))) ∧
  (∀ (f : Nat) (s : State), f < 4 → s.dev.resetting f = true →
    let d := s.dev
    let wqs := (d.hrg.wq.map (·.1)).filter (fun q => d.f F.HRG_WQ_STAT_FUNC q == f)
    let cqs := (d.hrg.cq.map (·.1)).filter (fun q => d.f F.HRG_CQ_STAT_FUNC q == f)
    let e := cqs.foldl Dev.cqFree (wqs.foldl Dev.wqFree d)
    let a := (({ e with hrg := { e.hrg with admin := e.hrg.admin.del f } } : Dev).setI F.HRG_FUNC_STAT_ADMIN_READY f 0).level (1024 + f) false
    exec (.funcResetDone f) s = .next (s.after ((a.setI F.HRG_FUNC_STAT_RESETTING f 0).raise (1033 + f)))) ∧
  ∀ (w : RegWr) (s : State), s.dev.passes w.agent 0x100080 → w.agent.isHost = false →
    let fin := fun (e : Dev) => s.after ((e.respond .done).accessed s.dev w.agent 0x100080)
    let q := w.fld F.HRG_QCTX_CMD_QNUM
    let f := w.fld F.HRG_QCTX_CMD_FUNC
    let lg := w.fld F.HRG_QCTX_CMD_LOG2SIZE
    let cq := w.fld F.HRG_QCTX_CMD_CQ
    (s.dev.f F.HRG_QCTX_CMD_BUSY ≠ 0 → ∀ c, (w.fld F.HRG_QCTX_CMD_OP = 1 ∧ c = .qctxCreateWq w) ∨ (w.fld F.HRG_QCTX_CMD_OP = 2 ∧ c = .qctxCreateCq w) ∨
        (w.fld F.HRG_QCTX_CMD_OP = 3 ∧ c = .qctxDestroyWq w) ∨ (w.fld F.HRG_QCTX_CMD_OP = 4 ∧ c = .qctxDestroyCq w) →
      exec c s = .next (fin (s.dev.set F.HRG_QCTX_CMD_ERR 9))) ∧
    (s.dev.f F.HRG_QCTX_CMD_BUSY = 0 →
    (w.fld F.HRG_QCTX_CMD_OP = 1 →
      (∀ e, s.dev.createWqErr q f lg cq (w.fld F.HRG_QCTX_CMD_KIND == 1) = e → e ≠ 0 →
        exec (.qctxCreateWq w) s = .next (fin (s.dev.set F.HRG_QCTX_CMD_ERR e))) ∧
      (s.dev.createWqErr q f lg cq (w.fld F.HRG_QCTX_CMD_KIND == 1) = 0 →
        let d := ((s.dev.setI F.HRG_WQ_STAT_STATE q 1).setI F.HRG_WQ_STAT_FUNC q f).setB F.HRG_WQ_STAT_KIND (w.fld F.HRG_QCTX_CMD_KIND == 1) q
        let d := (((d.setI F.HRG_WQ_STAT_HEAD q 0).setI F.HRG_WQ_STAT_TAIL q 0).setI F.HRG_WQ_STAT_CQ q cq).setI F.HRG_WQ_STAT_LOG2SIZE q lg
        exec (.qctxCreateWq w) s = .next (s.after ((((d.wqPut q { base := s.dev.f F.HRG_QCTX_BASE_BASE, hdr := s.dev.f F.HRG_QCTX_HDR_HDR, qlim := w.fld F.HRG_QCTX_CMD_QLIM }).set
          F.HRG_QCTX_CMD_ERR 0).respond .done).accessed s.dev w.agent 0x100080)))) ∧
    (w.fld F.HRG_QCTX_CMD_OP = 2 →
      (∀ e, s.dev.createCqErr q lg = e → e ≠ 0 →
        exec (.qctxCreateCq w) s = .next (fin (s.dev.set F.HRG_QCTX_CMD_ERR e))) ∧
      (s.dev.createCqErr q lg = 0 →
        let d := (s.dev.setI F.HRG_CQ_STAT_STATE q 1).setI F.HRG_CQ_STAT_FUNC q f
        let d := ((d.setI F.HRG_CQ_STAT_PI q 0).setI F.HRG_CQ_STAT_HOST_IDX q 0).setI F.HRG_CQ_STAT_LOG2SIZE q lg
        let d := ((d.setI F.HRG_CQ_STAT_ARMED q 0).setI F.HRG_CQ_STAT_NOTIFY q 0).level q false
        exec (.qctxCreateCq w) s = .next (s.after ((((d.cqPut q { base := s.dev.f F.HRG_QCTX_BASE_BASE, hdr := s.dev.f F.HRG_QCTX_HDR_HDR }).set F.HRG_QCTX_CMD_ERR 0).respond .done).accessed s.dev w.agent 0x100080)))) ∧
    (w.fld F.HRG_QCTX_CMD_OP = 3 → s.dev.f F.ID_INTEG_FAB_WIRED ≠ 0 →
      (s.dev.f F.HRG_WQ_STAT_STATE q = 0 → exec (.qctxDestroyWq w) s = .next (fin (s.dev.set F.HRG_QCTX_CMD_ERR 1))) ∧
      (s.dev.f F.HRG_WQ_STAT_STATE q ≠ 0 → s.dev.wqDrained q = false → exec (.qctxDestroyWq w) s = .next (fin (s.dev.set F.HRG_QCTX_CMD_ERR 2))) ∧
      (s.dev.f F.HRG_WQ_STAT_STATE q ≠ 0 → s.dev.wqDrained q = true →
        let j : QctxJob := { wq := true, q := q, reads := 0 }
        let e := ({ s.dev with hrg := { s.dev.hrg with destroy := some j } } : Dev).set F.HRG_QCTX_CMD_BUSY 1
        (s.dev.fab.out.any (fun r => r.kind == .ringHeader q) = true → exec (.qctxDestroyWq w) s = .next (fin e)) ∧
        (s.dev.fab.out.any (fun r => r.kind == .ringHeader q) = false → e.wqDrained q = true → exec (.qctxDestroyWq w) s = .next (fin
          ((({ e with fab := { e.fab with queue := e.fab.queue.filter (fun r => r.kind != .ringHeader q && true) } } : Dev).wqFree q).destroyEnd 0))))) ∧
    (w.fld F.HRG_QCTX_CMD_OP = 4 → s.dev.f F.ID_INTEG_FAB_WIRED ≠ 0 →
      (s.dev.f F.HRG_CQ_STAT_STATE q = 0 → exec (.qctxDestroyCq w) s = .next (fin (s.dev.set F.HRG_QCTX_CMD_ERR 1))) ∧
      (s.dev.f F.HRG_CQ_STAT_STATE q ≠ 0 → s.dev.feeders q ≠ [] → exec (.qctxDestroyCq w) s = .next (fin (s.dev.set F.HRG_QCTX_CMD_ERR 7))) ∧
      (s.dev.f F.HRG_CQ_STAT_STATE q ≠ 0 → s.dev.feeders q = [] →
        let d := s.dev.hostReread q
        let j : QctxJob := { wq := false, q := q, reads := d.rereads q }
        d.rereads q ≠ 0 → exec (.qctxDestroyCq w) s = .next (fin
          (({ d with hrg := { d.hrg with destroy := some j } } : Dev).set F.HRG_QCTX_CMD_BUSY 1)))))

/-- R248, R253 to R255, R258 to R260, R266, R267 and R270. -/
def Obligations.WorkEntriesAndCompletions : Prop :=
  (∀ (q : Nat) (words : List Word) (c : Rsp) (r : FabReq) (x : WqCtx) (stale : Bool) (s : State),
    s.dev.outstanding (.wqFetch q) = some r →
    let d := s.dev.answered (.wqFetch q) r c
    d.hrg.wq.look q = some x → x.fetch = some stale →
    let e := d.wqPut q { x with fetch := none, again := false }
    (c ≠ .done → exec (.wqeFetchDone q words c) s = .next (s.after ((e.count F.HRG_CNT_ERR_FAB_ERR).wqStop q))) ∧
    (c = .done → stale = true ∨ e.wqReady q = false → exec (.wqeFetchDone q words c) s = .next (s.after (e.wqPump q))) ∧
    (c = .done → stale = false → e.wqReady q = true →
      let y : WqCtx := if x.again then { x with fetch := none, again := false, cache := x.cache ++ [words], past := x.past.drop 1 }
        else if e.wqIsRx q = true ∧ (8 ≤ x.cache.length ∨ x.past ≠ []) then { x with fetch := none, past := x.past ++ [scanOctets words] }
        else { x with fetch := none, cache := x.cache ++ [words] }
      exec (.wqeFetchDone q words c) s = .next (s.after ((e.wqPut q y).rxPump (e.f F.HRG_WQ_STAT_CQ q) q)))) ∧
  (∀ (q : Nat) (up : List Upset) (e : List Word) (rest : List (List Word)) (stored : Bool) (x : WqCtx) (d : Dev) (s : State),
    let c := if up.contains .corrected then s.dev.eccCorr else s.dev
    let b := (up.filterMap (fun u => match u with | .entryCache w loc => some (w, loc) | _ => none)).foldl (fun d b => d.cacheLost b.1 b.2) c
    b.on 27 = true → b.wqReady q = true → b.hrg.wq.look q = some x → x.cache = e :: rest →
    x.work.countP (fun k => k.reads != 0) < 8 → b.reserve (b.f F.HRG_WQ_STAT_CQ q) = some (stored, d) →
    (b.wqIsRx q = true → rxCheck e ≠ 0 → d.wqIsRx q = true → exec (.wqeTake q up) s = .next (s.after
      (((d.wqPop q { idx := d.wqHead q, words := e, stored := stored, status := some (rxCheck e) }).workFlush q 1024).wqPump q))) ∧
    (b.wqIsRx q = false → d.wqIsRx q = false →
      (d.txCheck e ≠ 0 ∨ weOp e = 2 → exec (.wqeTake q up) s = .next (s.after
        (((d.wqPop q { idx := d.wqHead q, words := e, stored := stored, status := some (d.txCheck e), word1 := (e.getD 1 0).toNat
                       len := if weOp e = 1 then weTotal e % 2 ^ 14 else 0 }).workFlush q 1024).wqPump q))) ∧
      (d.txCheck e = 0 → weOp e = 1 →
        let i := d.wqHead q
        let t := d.trcSample { data := List.replicate (weTotal e) 0, path := 3 } 0 0
        let a := t.2.wqPop q { idx := i, words := e, stored := stored, reads := weNseg e, trace := t.1.trace, status := none
                               word1 := (e.getD 1 0).toNat, len := weTotal e % 2 ^ 14 }
        exec (.wqeTake q up) s = .next (s.after ((((weSegs e).foldl (fun d g => d.request
          (ringReq (.sendData q i) false (d.f F.HRG_WQ_STAT_FUNC q) g.1 g.2 [])) a).workFlush q 1024).wqPump q))))) ∧
  (∀ (q idx : Nat) (data : List Byte) (c : Rsp) (r : FabReq) (k : Work) (s : State), s.dev.outstanding (.sendData q idx) = some r →
    let d := s.dev.answered (.sendData q idx) r c
    d.workAt q idx = some k → k.reads ≠ 0 →
    let bad := if c = .done then 0 else if c = .deny then 8 else 7
    let j := { k with reads := k.reads - 1, data := k.data ++ data, fail := if k.fail = 0 then bad else k.fail }
    let a := d.workSet q idx (fun _ => j)
    let e := if c = .done then a else a.count F.HRG_CNT_ERR_FAB_ERR
    exec (.sendDataReadDone q idx data c) s =
      .next (s.after (e.sendPump q (match e.hrg.wq.look q with | some x => x.work.length | none => 0)))) ∧
  (∀ (d : Dev) (q n : Nat) (x : WqCtx) (k : Work), d.hrg.wq.look q = some x →
    x.work.find? (fun k => k.status.isNone && k.send == 0) = some k →
    d.sendPump q (n + 1) = if k.reads = 0 then (d.sendReady q k).sendPump q n else d) ∧
  (∀ (d : Dev) (q : Nat) (k : Work), k.fail ≠ 0 →
    d.sendReady q k = (d.trcClose { data := [], trace := k.trace } 4).workSet q k.idx (fun k' => { k' with status := some k.fail })) ∧
  (∀ (d : Dev) (q : Nat) (k : Work) (b : List Byte) (d2 : Dev), k.fail = 0 →
    sendSums (wf k.words 0 59 1 == 1) (wf k.words 0 58 1 == 1) k.data = some b →
    let wants := wf k.words 0 57 1 = 1
    let f : Frame := { data := b, path := 3, src := q, send := if wants then d.hrg.sends + 1 else 0, trace := k.trace }
    let a := ({ d with hrg := { d.hrg with sends := d.hrg.sends + 1 } } : Dev).pathBeats 6 (beats f.len)
    (a.sendOffer (weDtype k.words) (weDest k.words) f = (true, d2) →
      d.sendReady q k = (d2.count F.HRG_CNT_TX_FRAMES).workSet q k.idx
        (fun k => if wants then { k with send := f.send } else { k with status := some 0 })) ∧
    (a.sendOffer (weDtype k.words) (weDest k.words) f = (false, d2) →
      d.sendReady q k = d2.workSet q k.idx (fun k => { k with status := some 9 }))) ∧
  (∀ (q idx i : Nat) (c : Rsp) (r : FabReq) (x : CqCtx) (s : State), s.dev.outstanding (.completion q idx) = some r → q < 1024 →
    let d := s.dev.answered (.completion q idx) r c
    d.hrg.cq.look q = some x → x.fly.findIdx? (fun e => e.idx == idx && !e.landed) = some i →
    (c = .done → exec (.completionWriteDone q idx c) s = .next (s.after
      ((((d.cqPut q { x with fly := x.fly.modify i (fun e => { e with landed := true }) }).pmc 16 1 { func := some r.func }).cqAdvance q
        x.fly.length).cqNotify q))) ∧
    (c ≠ .done → exec (.completionWriteDone q idx c) s = .next (s.after
      (((d.cqPut q { x with fly := x.fly.take i, stored := (x.fly.drop i).map (·.data) ++ x.stored }).count F.HRG_CNT_ERR_FAB_ERR).cqStop q)))) ∧
  ∀ (q : Nat) (up : List Upset) (s : State),
    let b := if up.contains .corrected then s.dev.eccCorr else s.dev
    let bad := up.filterMap (fun u => match u with | .storeEntry c loc both => if c == q then some (loc, both) else none | _ => none)
    let d := bad.foldl (fun d b => d.eccUncorr 4 b.1 1603) b
    (bad.any (·.2) = true → exec (.storeEntryWrite q up) s = .next (s.after (d.cqStop q))) ∧
    ∀ (data : List Byte) (rest : List (List Byte)) (x : CqCtx), bad.any (·.2) = false → d.on 27 = true → d.on 31 = true →
      d.cqReady q = true → d.hrg.cq.look q = some x → x.stored = data :: rest →
      idxSub (x.next + x.res) (d.f F.HRG_CQ_STAT_HOST_IDX q) < d.cqSize q →
      exec (.storeEntryWrite q up) s = .next (s.after ((d.cqPut q { x with stored := rest }).cqWrite q data))

/-- R248, R249, R261, R263 to R265, R269 and R270. -/
def Obligations.HeadersIndicesAndReceive : Prop :=
  (∀ (q : Nat) (x : WqCtx) (s : State), q < 1024 → s.dev.on 27 = true → s.dev.on 31 = true → s.dev.outstanding (.ringHeader q) = none →
    s.dev.hrg.wq.look q = some x → s.dev.wqReady q = true → s.dev.wqHead q ≠ x.hdrIdx →
    let i := s.dev.wqHead q
    exec (.ringHeaderWrite q) s = .next (s.after ((s.dev.wqPut q { x with hdrIdx := i }).request
      { kind := .ringHeader q, write := true, mstr := 0, func := s.dev.f F.HRG_WQ_STAT_FUNC q, addr := x.hdr, len := 8, data := leBytes 8 i }))) ∧
  (∀ (q : Nat) (x : CqCtx) (s : State), q < 1024 → s.dev.on 27 = true → s.dev.on 31 = true →
    s.dev.outstanding (.ringHeader (q + 1024)) = none →
    s.dev.hrg.cq.look q = some x → s.dev.cqReady q = true → s.dev.f F.HRG_CQ_STAT_PI q ≠ x.hdrIdx →
    let i := s.dev.f F.HRG_CQ_STAT_PI q
    exec (.ringHeaderWrite (q + 1024)) s = .next (s.after ((s.dev.cqPut q { x with hdrIdx := i }).request
      { kind := .ringHeader (q + 1024), write := true, mstr := 0, func := s.dev.f F.HRG_CQ_STAT_FUNC q, addr := x.hdr, len := 8
        data := leBytes 8 i }))) ∧
  (∀ (n : Nat) (c : Rsp) (r : FabReq) (s : State), s.dev.outstanding (.ringHeader n) = some r →
    let d := s.dev.answered (.ringHeader n) r c
    (c = .done → exec (.ringHeaderWriteDone n c) s = .next (s.after d.destroyTry)) ∧
    (c ≠ .done → n < 1024 → exec (.ringHeaderWriteDone n c) s = .next (s.after (((d.count F.HRG_CNT_ERR_FAB_ERR).wqStop n).destroyTry))) ∧
    (c ≠ .done → 1024 ≤ n → n < 2048 →
      exec (.ringHeaderWriteDone n c) s = .next (s.after (((d.count F.HRG_CNT_ERR_FAB_ERR).cqStop (n - 1024)).destroyTry))) ∧
    (c ≠ .done → 2048 ≤ n → exec (.ringHeaderWriteDone n c) s = .next (s.after (d.count F.HRG_CNT_ERR_FAB_ERR).destroyTry))) ∧
  (∀ (d : Dev) (q : Nat),
    (∀ x, d.wqReady q = true → d.hrg.wq.look q = some x →
      let e := ((d.setI F.HRG_WQ_STAT_STATE q 2).raise 1032).wqPut q { x with cache := [], past := [] }
      d.wqStop q = e.rxGiveUp (e.f F.HRG_WQ_STAT_CQ q) q) ∧
    (d.cqReady q = true → d.cqStop q = (d.setI F.HRG_CQ_STAT_STATE q 2).raise 1032)) ∧
  (∀ (q : Nat) (x : CqCtx) (s : State), s.dev.on 27 = true → s.dev.on 31 = true → s.dev.hrg.cq.look q = some x →
    x.sres ≠ 0 ∨ x.stored ≠ [] ∨ s.dev.cqSize q ≤ idxSub (s.dev.f F.HRG_CQ_STAT_PI q) (s.dev.f F.HRG_CQ_STAT_HOST_IDX q) →
    exec (.hostIdxReread q) s = .next (s.after (s.dev.request
      { kind := .hostIdx q, write := false, mstr := 0, func := s.dev.f F.HRG_CQ_STAT_FUNC q, addr := x.hdr + 8, len := 8, data := [] }))) ∧
  (∀ (q : Nat) (v : Word) (c : Rsp) (r : FabReq) (x : CqCtx) (s : State), q < 1024 → s.dev.outstanding (.hostIdx q) = some r →
    let d := s.dev.answered (.hostIdx q) r c
    d.hrg.cq.look q = some x →
    let e := d.cqPut q { x with arming := x.arming - 1 }
    let h := v.toNat % 2 ^ 18
    let back := idxSub (e.f F.HRG_CQ_STAT_PI q) h
    (c = .done → back ≤ e.cqSize q → back ≤ idxSub (e.f F.HRG_CQ_STAT_PI q) (e.f F.HRG_CQ_STAT_HOST_IDX q) →
      exec (.hostIdxReadDone q v c) s = .next (s.after (((e.setI F.HRG_CQ_STAT_HOST_IDX q h).cqNotify q).destroyRead q true))) ∧
    (c = .done → e.cqSize q < back ∨ idxSub (e.f F.HRG_CQ_STAT_PI q) (e.f F.HRG_CQ_STAT_HOST_IDX q) < back →
      exec (.hostIdxReadDone q v c) s = .next (s.after (((e.raise 1031).cqNotify q).destroyRead q true))) ∧
    (c ≠ .done → exec (.hostIdxReadDone q v c) s = .next (s.after ((((e.count F.HRG_CNT_ERR_FAB_ERR).raise 1031).cqNotify q).destroyRead q false)))) ∧
  (∀ (d : Dev) (q : Nat) (x : CqCtx), d.hrg.cq.look q = some x → d.f F.HRG_CQ_STAT_ARMED q ≠ 0 → x.arming = 0 →
    d.f F.HRG_CQ_STAT_PI q ≠ d.f F.HRG_CQ_STAT_HOST_IDX q →
    d.cqNotify q = ((d.setI F.HRG_CQ_STAT_ARMED q 0).setI F.HRG_CQ_STAT_NOTIFY q 1).level q true) ∧
  (∀ (d : Dev) (j : QctxJob), d.hrg.destroy = some j →
    (j.wq = false → j.reads ≠ 0 → ∀ ok, d.destroyRead j.q ok =
      ({ d with hrg := { d.hrg with destroy := some { j with reads := j.reads - 1, ok := ok } } } : Dev).destroyTry) ∧
    (j.reads = 0 → d.fab.out.any (fun r => r.kind == .ringHeader (if j.wq then j.q else 1024 + j.q)) = false →
      let drained := if j.wq then d.wqDrained j.q else d.cqDrained j.q
      (j.ok = false ∨ drained = false → d.destroyTry = d.destroyEnd 2) ∧
      (j.ok = true → drained = true →
        let e : Dev := { d with fab := { d.fab with queue := d.fab.queue.filter (fun r =>
          r.kind != .ringHeader (if j.wq then j.q else 1024 + j.q) && (j.wq || r.kind != .hostIdx j.q)) } }
        d.destroyTry = (if j.wq then e.wqFree j.q else e.cqFree j.q).destroyEnd 0))) ∧
  (∀ (q wq : Nat) (up : List Upset) (f : Frame) (rest : List Frame) (x : CqCtx) (w : WqCtx) (s : State),
    let b := if up.contains .corrected then s.dev.eccCorr else s.dev
    let cell := up.findSome? (fun u => match u with | .bufferCell loc => some loc | _ => none)
    b.hrg.cq.look q = some x → x.wait = f :: rest → x.job = none →
    (∀ loc, cell = some loc → exec (.rxDeliver q up) s = .next (s.after (((b.cqPut q { x with wait := rest }).bufDrop loc).trcClose f 5))) ∧
    (cell = none → b.on 27 = true → b.on 31 = true → b.rxQueue q = some wq → b.hrg.wq.look wq = some w →
      (w.octets < f.rxLen → b.wqUsed wq = b.wqSize wq → w.cache.length + w.past.length = b.wqUsed wq → exec (.rxDeliver q up) s = .next (s.after
        (((b.cqPut q { x with wait := rest }).count F.HRG_CNT_ERR_RX_DROP).trcClose f 5))) ∧
      ∀ (stored : Bool) (d : Dev) (x2 : CqCtx), f.rxLen ≤ w.octets → b.reserve q = some (stored, d) →
        let r := d.rxData f
        let a := (r.2.bufRead (beats f.len) 0).pathBeats 6 (beats f.len)
        a.hrg.cq.look q = some x2 →
        let comp : Work := { idx := 0, words := [], stored := stored, len := r.1.length, word1 := rxWord1 f
                             word2 := if f.wantTs then stampWord f.ts else 0 }
        let c := a.cqPut q { x2 with wait := rest, job := some { frame := f, wq := wq, stored := stored, comp := comp, data := r.1 } }
        exec (.rxDeliver q up) s = .next (s.after ((c.trcNote f (fun t => { t with leave := c.cycle })).rxPump q wq)))) ∧
  (∀ (d : Dev) (q : Nat) (x : CqCtx) (j : RxJob) (w : WqCtx) (e : List Word) (rest : List (List Word)), d.hrg.cq.look q = some x →
    x.job = some j → d.hrg.wq.look j.wq = some w → w.cache = e :: rest → j.data ≠ [] → j.held.length < 8 →
    let i := d.wqHead j.wq
    (∀ stored d2, rxCheck e ≠ 0 → d.reserve q = some (stored, d2) → d.rxStep q = some
      ((d2.wqPop j.wq { idx := i, words := e, stored := stored, status := some (rxCheck e) }).workFlush j.wq 1024)) ∧
    (rxCheck e = 0 →
      let pieces := rxPieces (weSegs e) j.data
      let fn := d.f F.HRG_WQ_STAT_FUNC j.wq
      let a := if j.first = none then d.wqPop j.wq { j.comp with idx := i, words := e, stored := j.stored }
        else ((d.wqPut j.wq { w with cache := rest }).setI F.HRG_WQ_STAT_HEAD j.wq (i + 1)).pmc 14 1 { func := some fn }
      let n := { j with first := some (j.first.getD i), nent := j.nent + 1, held := j.held ++ [(i, pieces.length)], data := j.data.drop (weTotal e) }
      d.rxStep q = some (pieces.foldl (fun d p => d.request (ringReq (.rxData q i) true fn p.1 p.2.length p.2)) (a.cqPut q { x with job := some n })))) ∧
  (∀ (q idx : Nat) (c : Rsp) (r : FabReq) (x : CqCtx) (j : RxJob) (s : State), s.dev.outstanding (.rxData q idx) = some r →
    let d := s.dev.answered (.rxData q idx) r c
    d.hrg.cq.look q = some x → x.job = some j →
    let e := if c = .done then d else d.count F.HRG_CNT_ERR_FAB_ERR
    let held := j.held.filterMap (fun p => if p.1 != idx then some p else if p.2 ≤ 1 then none else some (p.1, p.2 - 1))
    exec (.rxDataWriteDone q idx c) s = .next (s.after
      (((e.cqPut q { x with job := some { j with held := held, bad := j.bad || !c.ok } }).rxPump q j.wq).rxEndJob q))) ∧
  ∀ (d : Dev) (q i : Nat) (x : CqCtx) (j : RxJob), d.hrg.cq.look q = some x → x.job = some j →
    (j.data ≠ [] ∨ j.held ≠ [] → d.rxEndJob q = d) ∧
    (j.data = [] → j.held = [] → j.first = some i →
      let e := d.cqPut q { x with job := none }
      (j.bad = false → d.rxEndJob q = ((e.count F.HRG_CNT_RX_FRAMES).trcClose j.frame 2).workSet j.wq i
        (fun k => { k with status := some 0, nent := j.nent })) ∧
      (j.bad = true → d.rxEndJob q = (e.trcClose j.frame 2).workSet j.wq i (fun k => { k with status := some 11, nent := j.nent })))

/-- R261, R273 to R276 and R525. `t` is the device with the command taken, `a.head` the index of its entry. -/
def Obligations.AdminCommands : Prop :=
  (∀ (d : Dev) (f idx cookie : Nat) (x : AdminAns) (a : AdminPair), d.hrg.admin.look f = some a →
    d.adminAnswer f idx cookie x = (d.adminPut f { a with busy := true, hold := none }).request
      { kind := .completion (2048 + f) a.pi, write := true, mstr := 4, func := f, addr := a.cqBase + 32 * (a.pi % 2 ^ a.cqLog), len := 32
        data := leBytes 8 (2 * 2 ^ 60 + x.status * 2 ^ 52 + idx * 2 ^ 24 + 2 ^ 18) ++ leBytes 8 cookie ++ leBytes 8 x.r0 ++
          leBytes 8 x.r1 }) ∧
  ∀ (f : Nat) (e : AdminIn) (a : AdminPair) (t : Dev) (s : State), s.dev.adminTaken f e a t →
    let reply : Dev → AdminAns → State := fun d x => s.after (d.adminAnswer f a.head e.cookie x)
    (e.cmd = 0 → exec (.adminNop f e) s = .next (reply t {})) ∧
    (e.cmd = 1 → exec (.getInfo f e) s = .next (reply t
      { r0 := t.f F.MBX_DOCENT_VERSION + f * 2 ^ 16
        r1 := t.freeQueues F.HRG_WQ_STAT_STATE + t.freeQueues F.HRG_CQ_STAT_STATE * 2 ^ 16 })) ∧
    (e.cmd = 2 →
      let lg := bits (e.p 0) 0 5
      (lg < 4 ∨ 16 < lg → exec (.createCq f e) s = .next (reply t { status := 0x41 })) ∧
      (4 ≤ lg → lg ≤ 16 → t.freeQueue F.HRG_CQ_STAT_STATE = none → exec (.createCq f e) s = .next (reply t { status := 0x43 })) ∧
      ∀ q, 4 ≤ lg → lg ≤ 16 → t.freeQueue F.HRG_CQ_STAT_STATE = some q →
        let d := (t.qctxAddr (e.p 1) (e.p 2)).createCq q f lg
        (d.f F.HRG_QCTX_CMD_ERR = 0 → exec (.createCq f e) s = .next (reply d { r0 := q })) ∧
        (d.f F.HRG_QCTX_CMD_ERR = 4 → exec (.createCq f e) s = .next (reply d { status := 0x47, r0 := 4 }))) ∧
    (e.cmd = 3 →
      let q := bits (e.p 0) 0 10
      (t.cqReady q = false ∨ t.f F.HRG_CQ_STAT_FUNC q ≠ f → exec (.destroyCq f e) s = .next (reply t { status := 0x44 })) ∧
      (t.cqReady q = true → t.f F.HRG_CQ_STAT_FUNC q = f →
        let d := t.destroyCq q
        (d.f F.HRG_QCTX_CMD_BUSY = 0 → d.f F.HRG_QCTX_CMD_ERR = 0 → exec (.destroyCq f e) s = .next (reply d {})) ∧
        (d.f F.HRG_QCTX_CMD_BUSY = 0 → d.f F.HRG_QCTX_CMD_ERR = 2 ∨ d.f F.HRG_QCTX_CMD_ERR = 7 →
          exec (.destroyCq f e) s = .next (reply d { status := 0x42 })) ∧
        ∀ p, d.f F.HRG_QCTX_CMD_BUSY ≠ 0 → d.hrg.admin.look f = some p → exec (.destroyCq f e) s =
          .next (s.after (d.adminPut f { p with hold := some (.destroyCq a.head e.cookie none) })))) ∧
    (e.cmd = 4 →
      let lg := bits (e.p 0) 0 5
      let cq := bits (e.p 0) 16 10
      let mine := t.cqReady cq = true ∧ t.f F.HRG_CQ_STAT_FUNC cq = f
      let rx := bit (e.p 0) 5
      (lg < 4 ∨ 16 < lg → exec (.createWq f e) s = .next (reply t { status := 0x41 })) ∧
      (4 ≤ lg → lg ≤ 16 → ¬ mine → exec (.createWq f e) s = .next (reply t { status := 0x44 })) ∧
      (4 ≤ lg → lg ≤ 16 → mine → t.freeQueue F.HRG_WQ_STAT_STATE = none → exec (.createWq f e) s = .next (reply t { status := 0x43 })) ∧
      ∀ q, 4 ≤ lg → lg ≤ 16 → mine → t.freeQueue F.HRG_WQ_STAT_STATE = some q →
        let d := (t.qctxAddr (e.p 1) (e.p 2)).createWq q f lg cq (if rx then bits (e.p 3) 0 17 else 0) rx
        (d.f F.HRG_QCTX_CMD_ERR = 0 → exec (.createWq f e) s = .next (reply d { r0 := q })) ∧
        (d.f F.HRG_QCTX_CMD_ERR = 6 → exec (.createWq f e) s = .next (reply d { status := 0x45 })) ∧
        (d.f F.HRG_QCTX_CMD_ERR = 4 → exec (.createWq f e) s = .next (reply d { status := 0x47, r0 := 4 }))) ∧
    (e.cmd = 5 →
      let q := bits (e.p 0) 0 10
      (t.wqReady q = false ∨ t.f F.HRG_WQ_STAT_FUNC q ≠ f → exec (.destroyWq f e) s = .next (reply t { status := 0x44 })) ∧
      (t.wqReady q = true → t.f F.HRG_WQ_STAT_FUNC q = f →
        let d := t.destroyWq q
        (d.f F.HRG_QCTX_CMD_BUSY = 0 → d.f F.HRG_QCTX_CMD_ERR = 0 → exec (.destroyWq f e) s = .next (reply d {})) ∧
        (d.f F.HRG_QCTX_CMD_BUSY = 0 → d.f F.HRG_QCTX_CMD_ERR = 2 → exec (.destroyWq f e) s = .next (reply d { status := 0x42 })) ∧
        ∀ p, d.f F.HRG_QCTX_CMD_BUSY ≠ 0 → d.hrg.admin.look f = some p → exec (.destroyWq f e) s =
          .next (s.after (d.adminPut f { p with hold := some (.destroyCq a.head e.cookie none) })))) ∧
    (e.cmd = 6 →
      let q := bits (e.p 0) 0 10
      (bit (e.p 0) 10 = true → t.cqReady q = true → t.f F.HRG_CQ_STAT_FUNC q = f → exec (.queryQ f e) s = .next (reply t { r0 := t.cqWord q })) ∧
      (bit (e.p 0) 10 = false → t.wqReady q = true → t.f F.HRG_WQ_STAT_FUNC q = f → exec (.queryQ f e) s = .next (reply t { r0 := t.wqWord q })) ∧
      (bit (e.p 0) 10 = false → t.wqReady q = false ∨ t.f F.HRG_WQ_STAT_FUNC q ≠ f →
        exec (.queryQ f e) s = .next (reply t { status := 0x44 }))) ∧
    (∀ (record : List Word) (r : Rsp) (k : Nat) (key : Key), e.cmd = 7 →
      let d := t.docentAccess false f (e.p 0) 64 r.ok
      (r ≠ .done → exec (.tableWrite f e record r) s = .next (reply d { status := 0x46 })) ∧
      (r = .done → recordKey record = none → exec (.tableWrite f e record r) s = .next (reply d { status := 0x41 })) ∧
      (r = .done → recordKey record = some (k, key) → d.isSink = true ∨ d.on 11 = false ∨ d.accState = 0 ∨ d.accState = 2 →
        exec (.tableWrite f e record r) s = .next (reply d { status := 0x45 })) ∧
      (r = .done → recordKey record = some (k, key) → d.isSink = false → d.on 11 = true → d.accState = 1 →
        let g := d.updSettle
        let h := g.tableHide (b2n (k != 0)) key
        let x := h.2.tableInsert (b2n (k != 0)) key ((record.getD 6 0).toNat + (record.getD 7 0).toNat * 2 ^ 64)
        exec (.tableWrite f e record r) s =
          .next (if g.b F.CLS_UPD_STAT_BUSY = true then reply g { status := 0x48 } else reply x.2 x.1)) ∧
      ∀ p, r = .done → recordKey record = some (k, key) → d.isSink = false → d.on 11 = true → 3 ≤ d.accState →
        d.hrg.admin.look f = some p →
        exec (.tableWrite f e record r) s = .next (s.after (d.adminPut f { p with hold := some (.table false a.head e.cookie record true) }))) ∧
    (∀ (record : List Word) (r : Rsp) (k : Nat) (key : Key), e.cmd = 8 →
      let d := t.docentAccess false f (e.p 0) 64 r.ok
      (r ≠ .done → exec (.tableDelete f e record r) s = .next (reply d { status := 0x46 })) ∧
      (r = .done → recordKey record = none → exec (.tableDelete f e record r) s = .next (reply d { status := 0x41 })) ∧
      (r = .done → recordKey record = some (k, key) → d.isSink = true ∨ d.on 11 = false ∨ d.accState = 0 ∨ d.accState = 2 →
        exec (.tableDelete f e record r) s = .next (reply d { status := 0x45 })) ∧
      (r = .done → recordKey record = some (k, key) → d.isSink = false → d.on 11 = true → d.accState = 1 →
        let g := d.updSettle
        let h := g.tableHide (b2n (k != 0)) key
        exec (.tableDelete f e record r) s = .next (if g.b F.CLS_UPD_STAT_BUSY = true then reply g { status := 0x48 }
          else if h.1 = true then reply h.2 {} else reply h.2 { status := 0x49 })) ∧
      ∀ p, r = .done → recordKey record = some (k, key) → d.isSink = false → d.on 11 = true → 3 ≤ d.accState →
        d.hrg.admin.look f = some p →
        exec (.tableDelete f e record r) s = .next (s.after (d.adminPut f { p with hold := some (.table true a.head e.cookie record true) }))) ∧
    (e.cmd = 9 →
      let p := bits (e.p 0) 0 51
      let frame := if p = 0 then t.clk.sfc + 2 else p
      (t.isSink = true → exec (.accCommit f e) s = .next (reply t { status := 0x45 })) ∧
      (t.isSink = false → t.clk.sfc + 65536 < frame → exec (.accCommit f e) s = .next (reply t { status := 0x41 })) ∧
      (t.isSink = false → frame ≤ t.clk.sfc + 65536 → t.stgState 0 = 0 →
        let r := t.commitStage 0 frame t.accNext
        (r.1 ≠ 0 → exec (.accCommit f e) s = .next (reply r.2 { status := 0x47, r1 := r.1 })) ∧
        ∀ p, r.1 = 0 → r.2.hrg.admin.look f = some p → exec (.accCommit f e) s =
          .next (s.after (r.2.adminPut f { p with hold := some (.commit a.head e.cookie t.accNext) })))) ∧
    (e.cmd = 10 →
      let n := e.p 0 % 4
      let tw := bits (e.p 0) 16 16
      (bit (t.f F.ID_INTEG_PORT_WIRED) n = true → tw ≠ 0 → t.on (18 + n) = true →
        exec (.eeeWake f e) s = .next (reply (t.setI F.UPM_EEE_CFG_TW_SYS_TX n tw) {})) ∧
      (bit (t.f F.ID_INTEG_PORT_WIRED) n = false ∨ tw = 0 → exec (.eeeWake f e) s = .next (reply t { status := 0x41 }))) ∧
    (e.cmd = 11 →
      (bit (e.p 0) 0 = true → t.f F.TST_SLEEP_ALLOWED = 0 → exec (.sleepReq f e) s = .next (reply t { status := 0x45 })) ∧
      (bit (e.p 0) 0 = false ∨ t.f F.TST_SLEEP_ALLOWED ≠ 0 → exec (.sleepReq f e) s =
        .next (reply (t.writeTstSleep (RegWr.full .docent (64 * b2n (bit (e.p 0) 0)))) {}))) ∧
    (e.cmd = 12 → ∀ (r : Rsp) (rs : List Nat),
      (e.p 0 % 64 = 0 → snapGroup (e.p 1 % 256) = some rs →
        let n := 8 * (3 + rs.length)
        let x := t.snapTake 1 (e.p 1 % 256) false rs
        let d := x.docentWrite f (e.p 0) (((x.obs.snap.getD 1 []).take (3 + rs.length)).flatMap (fun w => leBytes 8 w.toNat)) r.ok
        (r = .done → exec (.statsSnap f e r) s = .next (reply d { r0 := n })) ∧
        (r ≠ .done → exec (.statsSnap f e r) s = .next (reply d { status := 0x46 }))) ∧
      (e.p 0 % 64 ≠ 0 ∨ snapGroup (e.p 1 % 256) = none → exec (.statsSnap f e r) s = .next (reply t { status := 0x41 }))) ∧
    (12 < e.cmd → exec (.adminUnknown f e) s = .next (reply t { status := 0x40 }))

/-- R29, R279, R281, R285, R286, R299 and R302. Channel states: 0 IDLE, 1 RUNNING, 2 WAITING, 3 PAUSED, 4 STOPPING, 5 STOPPED, 6 ERROR,
7 POLLING. -/
def Obligations.SluiceCommands : Prop :=
  (∀ (c v : Nat) (w : RegWr) (i : Instr) (s : State), c < 16 → s.dev.passes w.agent (0x140010 + 0x40 * c) → w.val % 32 = v →
    (v = 1 ∧ i = .slcGo c w) ∨ (v = 2 ∧ i = .slcStop c w) ∨ (v = 4 ∧ i = .slcResume c w) ∨ (v = 8 ∧ i = .slcKick c w) ∨
      (v = 16 ∧ i = .slcClear c w) →
    let x := s.dev.ch c
    let no := fun why => ((((s.dev.set F.SLC_REFUSE_REFUSED 1).set F.SLC_REFUSE_CH c).set F.SLC_REFUSE_WHY why).respond .done).accessed s.dev w.agent
      (0x140010 + 0x40 * c)
    let run := if s.dev.f F.SLC_CH_CFG_DEFER c = 0 ∨ s.dev.f F.PWR_POND_LVL_STATE = 0 then 1 else 3
    (s.dev.f F.ID_INTEG_FAB_WIRED = 0 → exec i s = .next (s.after (no 5))) ∧
    (s.dev.f F.ID_INTEG_FAB_WIRED ≠ 0 →
      (v = 1 → x.state = 0 ∨ x.state = 5 → s.dev.f F.SLC_CH_PROG_BASE c % (if s.dev.slcRing c then 64 else 16) = 0 →
        let d := s.dev.slcLoopClear c
        exec i s = .next (s.after ((((d.chPut c { burst := x.burst, prog := x.prog, state := if d.slcPond c then 1 else 3 }).slcFetch c).respond .done).accessed s.dev w.agent (0x140010 + 0x40 * c)))) ∧
      (v = 1 → x.state = 0 ∨ x.state = 5 → s.dev.f F.SLC_CH_PROG_BASE c % (if s.dev.slcRing c then 64 else 16) ≠ 0 →
        exec i s = .next (s.after (no 4))) ∧
      (v = 1 → x.state ≠ 0 → x.state ≠ 5 → exec i s = .next (s.after (no 2))) ∧
      (v = 2 → x.state = 7 ∨ x.state = 3 →
        let d := s.dev.slcDropAhead c
        exec i s = .next (s.after (((d.chPut c { d.ch c with state := 5, idx := x.next, octets := 0 }).respond .done).accessed s.dev w.agent (0x140010 + 0x40 * c)))) ∧
      (v = 2 → x.state = 1 ∨ x.state = 2 →
        let nx := match x.waiter with | some y => y.idx | none => x.next
        let d := s.dev.slcDropAhead c
        exec i s = .next (s.after ((((d.chPut c { d.ch c with
          state := 4, pausing := false, awaits := none, hit := false, next := nx
          prog := x.prog.filter (fun y => !y.hold) }).slcStand c).respond .done).accessed s.dev w.agent (0x140010 + 0x40 * c)))) ∧
      (v = 4 → x.state = 5 →
        exec i s = .next (s.after ((((s.dev.chPut c { x with state := run, pausing := false }).slcFetch c).respond .done).accessed s.dev w.agent (0x140010 + 0x40 * c)))) ∧
      (v = 4 → x.state ≠ 5 → exec i s = .next (s.after (no 3))) ∧
      (v = 8 → x.state = 7 → x.fetch = none → exec i s = .next (s.after
        ((((s.dev.chPut c { x with fetch := some x.burst, burst := x.burst + 1 }).slcReq c false x.burst (s.dev.slcAddr c x.next) 32
          []).respond .done).accessed s.dev w.agent (0x140010 + 0x40 * c)))) ∧
      (v = 16 → x.state = 6 →
        let ids := x.prog.flatMap (fun y => y.reads.map (·.1) ++ y.tblRead.toList)
        exec i s = .next (s.after ((((s.dev.fabAbandon (fun r => ids.any (fun b => r.kind == FabKind.slcRead c b))).chPut c
          { x with state := 0, prog := [] }).respond .done).accessed s.dev w.agent (0x140010 + 0x40 * c)))) ∧
      (v = 16 → x.state ≠ 6 → exec i s = .next (s.after (no 6))))) ∧
  (∀ (c : Nat) (d : Dev), (d.ch c).prog = [] → (d.ch c).state = 4 →
    let e := d.slcDropAhead c
    d.slcStand c = e.chPut c { e.ch c with
      state := if (d.ch c).pausing then 3 else 5, idx := (d.ch c).next, octets := 0, pausing := false }) ∧
  (∀ (c : Nat) (d : Dev),
    let x := d.ch c
    x.state = 1 → x.pausing = false → x.fetchBad = false → x.fetch = none → x.ahead = [] → d.slcRing c = false → x.next ≤ 65535 →
    d.slcFetch c = (d.chPut c { x with fetch := some x.burst, burst := x.burst + 1 }).request
      { kind := .slcRead c x.burst, write := false, mstr := 1
        func := (d.chPut c { x with fetch := some x.burst, burst := x.burst + 1 }).f F.SLC_CH_CFG_FUNC c
        addr := (d.f F.SLC_CH_PROG_BASE c + 16 * x.next) / 64 * 64, len := 64, data := [] }) ∧
  (∀ (c : Nat) (prog : Bool) (w : RegWr) (s : State),
    let off := (if prog then 0x140008 else 0x140000) + 0x40 * c
    let st := (s.dev.ch c).state
    c < 16 → s.dev.passes w.agent off → s.dev.f F.ID_INTEG_FAB_WIRED ≠ 0 →
    (st = 0 ∨ st = 5 ∨ st = 6 → exec (.slcCfgWrite c prog w) s = .next (s.after (((s.dev.putAll (fldsAt off) w).respond .done).accessed s.dev w.agent off))) ∧
    (st ≠ 0 → st ≠ 5 → st ≠ 6 → exec (.slcCfgWrite c prog w) s = .next (s.after (((s.dev.slcRefuse c 1).respond .done).accessed s.dev w.agent off)))) ∧
  (∀ (w : RegWr) (s : State), s.dev.f F.ID_INTEG_FAB_WIRED ≠ 0 →
    (s.dev.passes w.agent 0x140480 →
      let c := w.fld F.SLC_FLAG_SET_CH
      let mask := w.fld F.SLC_FLAG_SET_MASK
      let d := s.dev.setI F.SLC_FLAGS_FLAGS c (s.dev.f F.SLC_FLAGS_FLAGS c ||| mask)
      ((d.ch c).prog.any (fun y => y.hold && bit y.w0 56 && bit mask (bits y.w0 0 11)) = false →
        exec (.slcFlagSet w) s = .next (s.after ((d.respond .done).accessed s.dev w.agent 0x140480))) ∧
      ((d.ch c).prog.any (fun y => y.hold && bit y.w0 56 && bit mask (bits y.w0 0 11)) = true →
        exec (.slcFlagSet w) s = .next (s.after (((d.chPut c { d.ch c with hit := true }).respond .done).accessed s.dev w.agent 0x140480)))) ∧
    (s.dev.passes w.agent 0x140488 →
      let c := w.fld F.SLC_FLAG_CLR_CH
      exec (.slcFlagClr w) s = .next (s.after (((s.dev.setI F.SLC_FLAGS_FLAGS c
        (s.dev.f F.SLC_FLAGS_FLAGS c &&& (65535 - w.fld F.SLC_FLAG_CLR_MASK))).respond .done).accessed s.dev w.agent 0x140488)))) ∧
  ∀ (c : Nat) (s : State),
    let x := s.dev.ch c
    c < 16 → s.dev.on 28 = true → s.dev.f F.SLC_CH_CFG_POLL_US c ≠ 0 → x.state = 7 → x.fetch = none →
    exec (.slcPollReread c) s = .next (s.after
      ((s.dev.chPut c { x with fetch := some x.burst, burst := x.burst + 1 }).slcReq c false x.burst (s.dev.slcAddr c x.next) 32 []))

/-- R280, R284, R287 to R290, R292 to R296 and R299. -/
def Obligations.SluiceInstructions : Prop :=
  (∀ (c w0 w1 : Nat) (s : State), s.dev.slcNext c 1 w0 w1 →
    let x := s.dev.ch c
    let len := bits w0 48 9 * 65536 + bits w1 48 16
    let src := (bits w0 0 48 : Int) + x.soff
    let dst := (bits w1 0 48 : Int) + x.doff
    let e := blockErr [src, dst, len] [(src, len), (dst, len)]
    (e = 0 →
      let d := s.dev.slcBegin c { idx := x.next, w0 := w0, w1 := w1 }
      exec (.slcMove c) s = .next (s.after (d.slcReadBlock c ((d.ch c).prog.length - 1) src.toNat dst.toNat len))) ∧
    (e ≠ 0 → x.prog = [] → exec (.slcMove c) s = .next (s.after (s.dev.slcError c e x.next 0 false)))) ∧
  (∀ (c w0 w1 : Nat) (s : State), s.dev.slcNext c 2 w0 w1 →
    let x := s.dev.ch c
    let n := bits w1 48 16
    let base := (bits w1 0 48 : Int) + (if bit w0 56 then x.soff else x.doff)
    let tbl := bits w0 0 48
    let e := blockErr [base, tbl] [(base, 0), (tbl, 8 * n)]
    (e = 0 →
      let d := s.dev.slcBegin c { idx := x.next, w0 := w0, w1 := w1, src := base, tblLeft := n }
      exec (.slcGather c) s = .next (s.after (d.slcTable c ((d.ch c).prog.length - 1)))) ∧
    (e ≠ 0 → x.prog = [] → exec (.slcGather c) s = .next (s.after (s.dev.slcError c e x.next 0 false)))) ∧
  (∀ (c w0 w1 : Nat) (s : State), s.dev.slcNext c 3 w0 w1 →
    let x := s.dev.ch c
    let back := bits w0 36 12
    let count := bits w0 0 24
    let ss := signed 32 (bits w1 32 32)
    let ds := signed 32 (bits w1 0 32)
    let active := s.dev.f F.SLC_CH_LOOP_ACTIVE c ≠ 0
    let home := ¬ active ∨ x.next = s.dev.f F.SLC_CH_LOOP_HOME c
    let endless := if active then s.dev.f F.SLC_CH_LOOP_ENDLESS c ≠ 0 else count = 0
    let left := (if active then s.dev.f F.SLC_CH_LOOP_REMAINING c else count) - 1
    (back = 0 ∨ x.next < back → x.prog = [] → exec (.slcLoop c) s = .next (s.after (s.dev.slcError c 2 x.next 0 false))) ∧
    (back ≠ 0 → back ≤ x.next → ¬ home → x.prog = [] → exec (.slcLoop c) s = .next (s.after (s.dev.slcError c 7 x.next 0 false))) ∧
    (back ≠ 0 → back ≤ x.next → home → ¬ endless → left = 0 → ss % 64 = 0 → ds % 64 = 0 →
      let d := (((s.dev.setI F.SLC_CH_LOOP_REMAINING c 0).setI F.SLC_CH_LOOP_ACTIVE c 0).setI F.SLC_CH_LOOP_ENDLESS c 0).setI
        F.SLC_CH_LOOP_HOME c x.next
      exec (.slcLoop c) s = .next (s.after ((d.chPut c { d.ch c with soff := 0, doff := 0 }).slcBegin c
        { idx := x.next, w0 := w0, w1 := w1 }))) ∧
    (back ≠ 0 → back ≤ x.next → home → ss % 64 ≠ 0 ∨ ds % 64 ≠ 0 → x.prog = [] →
      exec (.slcLoop c) s = .next (s.after (s.dev.slcError c 1 x.next 0 false))) ∧
    (back ≠ 0 → back ≤ x.next → home → endless ∨ left ≠ 0 → ss % 64 = 0 → ds % 64 = 0 →
      let d := (((s.dev.setI F.SLC_CH_LOOP_REMAINING c (if endless then 0 else left)).setI F.SLC_CH_LOOP_ACTIVE c 1).setI
        F.SLC_CH_LOOP_ENDLESS c (if endless then 1 else 0)).setI F.SLC_CH_LOOP_HOME c x.next
      let d := d.slcDropAhead c
      exec (.slcLoop c) s = .next (s.after ((d.chPut c { d.ch c with soff := x.soff + ss, doff := x.doff + ds }).slcBeginTo c
        (x.next - back) { idx := x.next, w0 := w0, w1 := w1 })))) ∧
  (∀ (c w0 w1 : Nat) (s : State), s.dev.slcNext c 4 w0 w1 → bit w0 56 = false ∨ bits w0 0 11 ≤ 15 →
    let x := s.dev.ch c
    (s.dev.slcHolds c w0 = true →
      exec (.slcWait c) s = .next (s.after ((s.dev.slcWaitTake c w0).slcBegin c { idx := x.next, w0 := w0, w1 := w1 }))) ∧
    (s.dev.slcHolds c w0 = false →
      let d := s.dev.slcBegin c { idx := x.next, w0 := w0, w1 := w1, hold := true }
      exec (.slcWait c) s = .next (s.after (d.chPut c { d.ch c with
        state := 2, hit := false, awaits := if bit w0 56 then none else some (bits w0 0 11, bit w0 55) })))) ∧
  (∀ (c : Nat) (y : SlcIns) (s : State), c < 16 → s.dev.on 28 = true → (s.dev.ch c).waiter = some y → (s.dev.ch c).state = 2 →
    let x := s.dev.ch c
    (x.hit = true ∨ s.dev.slcHolds c y.w0 = true →
      exec (.slcWaitSatisfied c) s = .next (s.after ((s.dev.slcWaitTake c y.w0).slcUnhold c))) ∧
    (x.hit = false → s.dev.slcHolds c y.w0 = false → bits y.w1 0 32 ≠ 0 →
      (bit y.w0 53 = true → exec (.slcWaitTimeout c) s = .next (s.after ((s.dev.chPut c { x with tmo := true }).slcUnhold c))) ∧
      (bit y.w0 53 = false → exec (.slcWaitTimeout c) s = .next (s.after ((s.dev.chPut c { x with
        state := 1, awaits := none, prog := x.prog.map (fun z => { z with hold := false }) }).slcFail c (x.prog.length - 1) 0 6))))) ∧
  (∀ (c at' w0 w1 : Nat) (s : State), s.dev.slcNext c 5 w0 w1 → (s.dev.ch c).prog.all (fun y => y.writes.isEmpty) = true →
    let x := s.dev.ch c
    let a := bits w1 0 48
    let d := s.dev.slcBegin c { idx := x.next, w0 := w0, w1 := w1, pos := 64 }
    (bit w0 54 = false → exec (.slcSignal c at') s = .next (s.after (d.slcSignalled c w0))) ∧
    (bit w0 54 = true → blockErr [(a : Int)] [((a : Int), 64)] = 0 → exec (.slcSignal c at') s = .next (s.after
      (d.slcWriteBlock c ((d.ch c).prog.length - 1) 0 a (d.slcReport c x.next (d.timeAt at')))))) ∧
  (∀ (c w0 : Nat) (d : Dev), d.slcSignalled c w0 =
    let e := if bit w0 56 then d.slcFlagSet (bits w0 48 4) (2 ^ bits w0 0 4) else d
    if bit w0 55 then e.raise (1040 + 5 * c + 3) else e) ∧
  (∀ (c w0 w1 : Nat) (s : State), s.dev.slcNext c 6 w0 w1 → (s.dev.ch c).prog = [] →
    exec (.slcEnd c) s =
      .next (s.after (((s.dev.slcShow c (s.dev.ch c).next 0).slcRetired c (bit w0 58) (bit w0 57)).slcIdle c))) ∧
  (∀ (c : Nat) (l : List Nat) (rest : List (List Nat)) (s : State), c < 16 → s.dev.on 28 = true → s.dev.slcRing c = false →
    let x := s.dev.ch c
    x.state = 1 → x.pausing = false → x.prog = [] →
    (65535 < x.next → exec (.slcBadInstruction c) s = .next (s.after (s.dev.slcError c 2 x.next 0 false))) ∧
    (x.next ≤ 65535 → x.ahead = l :: rest → bits (l.getD 0 0) 60 4 = 0 ∨ 7 ≤ bits (l.getD 0 0) 60 4 →
      exec (.slcBadInstruction c) s = .next (s.after (s.dev.slcError c 2 x.next 0 false)))) ∧
  (∀ (c : Nat) (h : SlcIns) (s : State), c < 16 → s.dev.on 28 = true →
    let x := s.dev.ch c
    x.state ≠ 3 → x.state ≠ 5 → x.state ≠ 6 → x.state ≠ 7 → x.prog = [h] →
    (s.dev.slcRing c = false → h.back = 0 → h.finished false = true →
      let d := (s.dev.chPut c { x with prog := [], idx := h.idx, octets := h.written }).slcRetired c (bit h.w0 58) (bit h.w0 57)
      exec (.slcInstructionRetire c) s = .next (s.after (((d.slcStand c).slcBack c 0).slcFetch c))) ∧
    (s.dev.slcRing c = true → h.finished true = true → bit h.w0 61 = true →
      let d := (s.dev.chPut c { x with prog := [], idx := h.idx, octets := h.written }).slcRetired c false (bit h.w0 62)
      exec (.slcInstructionRetire c) s = .next (s.after (d.slcIdle c)))) ∧
  (∀ (c : Nat) (l : List Nat) (s : State), s.dev.slcReady c = some l → c < 16 → s.dev.slcRing c = true →
    let x := s.dev.ch c
    let len := bits (l.getD 0 0) 0 25
    let src := bits (l.getD 1 0) 0 48
    let dst := bits (l.getD 2 0) 0 48
    let y : SlcIns := { idx := x.next, w0 := l.getD 0 0, w1 := l.getD 1 0, w2 := l.getD 2 0 }
    let e := blockErr [(src : Int), (dst : Int), (len : Int)] [((src : Int), len), ((dst : Int), len)]
    (e = 0 →
      let d := s.dev.slcBegin c y
      exec (.slcDescriptor c) s = .next (s.after ((d.slcReadBlock c ((d.ch c).prog.length - 1) src dst len).slcBack c 0))) ∧
    (e ≠ 0 → exec (.slcDescriptor c) s = .next (s.after ((s.dev.slcBegin c { y with fail := some (0, e) }).slcBack c 0)))) ∧
  (∀ (c b : Nat) (data : List Byte) (codes : List Rsp) (r : FabReq) (s : State), s.dev.outstanding (.slcRead c b) = some r →
    let d := s.dev.answered (.slcRead c b) r ((codes.find? (fun r => r != .done)).getD .done)
    let bad := firstBad codes (fabBeats r.addr r.len)
    let x := d.ch c
    (x.fetch = some b → exec (.slcReadResponse c b data codes) s = .next (s.after ((d.slcFetched c r data bad.isNone).slcFetch c))) ∧
    (∀ k, x.fetch ≠ some b → x.prog.findIdx? (fun y => y.tblRead == some b) = some k →
      exec (.slcReadResponse c b data codes) s = .next (s.after ((d.slcTabled c k data bad.isNone).slcAfter c k))) ∧
    ∀ k y e, x.fetch ≠ some b → x.prog.findIdx? (fun y => y.tblRead == some b) = none →
      x.prog.findIdx? (fun y => y.reads.any (fun e => e.1 == b)) = some k → x.prog[k]? = some y → y.reads.find? (fun e => e.1 == b) = some e →
      exec (.slcReadResponse c b data codes) s = .next (s.after ((d.slcData c k e data bad).slcAfter c k))) ∧
  (∀ (c k : Nat) (e : Nat × Nat × Nat × Nat) (data : List Byte) (y : SlcIns) (d : Dev), (d.ch c).prog[k]? = some y →
    let z := { y with reads := y.reads.erase e, got := y.got ++ [{ pos := e.2.1, len := e.2.2.1, dst := e.2.2.2, data := data, bad := none }] }
    d.slcData c k e data none = (d.chPut c { d.ch c with prog := (d.ch c).prog.set k z }).slcPutDue c k z.got.length) ∧
  (∀ (c k n : Nat) (y : SlcIns) (g : SlcGot) (d : Dev), (d.ch c).prog[k]? = some y → y.fail = none → y.due = some g →
    g.bad = none → g.len ≠ 0 → g.data.length = g.len →
    d.slcPutDue c k (n + 1) = ((d.chPut c { d.ch c with prog := (d.ch c).prog.set k { y with got := y.got.erase g } }).slcWriteBlock c
      k g.pos g.dst g.data).slcPutDue c k n) ∧
  ∀ (c b fbeat : Nat) (code : Rsp) (r : FabReq) (k : Nat) (y : SlcIns) (e : Nat × Nat × Nat) (s : State),
    s.dev.outstanding (.slcWrite c b) = some r →
    let d := s.dev.answered (.slcWrite c b) r code
    let x := d.ch c
    x.prog.findIdx? (fun y => y.writes.any (fun e => e.1 == b)) = some k → x.prog[k]? = some y → y.writes.find? (fun e => e.1 == b) = some e →
    (code = .done → e.2.2 ≠ 0 → exec (.slcWriteResponse c b code fbeat) s = .next (s.after
      (((d.countN F.SLC_CH_OCT_OCTETS r.len c).slcWritten c k e code fbeat).slcAfter c k))) ∧
    (code ≠ .done → exec (.slcWriteResponse c b code fbeat) s = .next (s.after ((d.slcWritten c k e code fbeat).slcAfter c k)))

/-- R304, R306, R308, R309, R311 to R313, R315 to R317. -/
def Obligations.EventCommands : Prop :=
  (∀ (r : EvRec) (s : State), s.dev.on 29 = true → s.dev.on 31 = true → s.dev.evPick = some (r, none) →
    let d := s.dev
    let q := d.f F.EVQ_SRC_TARGET r.src
    let e : EvIssue := { q := q, idx := (d.f F.EVQ_Q_PI_PI q + (d.evBound q).length) % 2 ^ 18, seq := d.f F.EVQ_Q_STAT_SEQ q, record := r
                         st := .flying }
    let b : Dev := { d with evq := { d.evq with pend := d.evq.pend.erase r, issued := d.evq.issued ++ [e] } }
    exec .eventRecordWrite s = .next (s.after (((b.setI F.EVQ_Q_STAT_SEQ q (b.f F.EVQ_Q_STAT_SEQ q + 1)).evIssue e).evLevels q))) ∧
  (∀ (r : EvRec) (e : EvIssue) (s : State), s.dev.on 29 = true → s.dev.on 31 = true → s.dev.evPick = some (r, some e) →
    exec .eventRecordWrite s = .next (s.after (({ s.dev with evq := { s.dev.evq with
      issued := s.dev.evq.issued.map (fun i => if i == e then { i with st := .flying } else i) } } : Dev).evIssue e))) ∧
  (∀ (d : Dev) (e : EvIssue), d.evIssue e = d.request
    { kind := .eventRecord e.q e.idx, write := true, mstr := 3, func := d.f F.EVQ_Q_CFG_FUNC e.q
      addr := d.f F.EVQ_Q_BASE_BASE e.q + 16 * (e.idx % 2 ^ d.f F.EVQ_Q_CFG_LOG2SIZE e.q), len := 16, data := d.evBytes e }) ∧
  (∀ (q idx : Nat) (c : Rsp) (r : FabReq) (e : EvIssue) (s : State), s.dev.outstanding (.eventRecord q idx) = some r →
    let d := if c = .done then (s.dev.answered (.eventRecord q idx) r c).pmc 18 1 { func := some r.func }
      else s.dev.answered (.eventRecord q idx) r c
    d.evq.loose.find? (fun e => e.q == q && e.idx == idx) = none → (d.evBound q).find? (fun e => e.idx == idx && e.st == .flying) = some e →
    (c = .done →
      let b : Dev := { d with evq := { d.evq with issued := d.evq.issued.map (fun i => if i == e then { i with st := .landed } else i) } }
      let a := b.countN F.EVQ_Q_STAT_MERGED e.record.merges q
      exec (.eventRecordDone q idx c) s = .next (s.after ((a.evAdvance q (a.evBound q).length).evLevels q))) ∧
    (c ≠ .done →
      let a := (d.evReturn e).setI F.EVQ_Q_STAT_FAULT q 1
      (a.f F.EVQ_Q_CFG_EN q ≠ 0 → exec (.eventRecordDone q idx c) s = .next (s.after (a.evLevels q))) ∧
      (a.f F.EVQ_Q_CFG_EN q = 0 → exec (.eventRecordDone q idx c) s = .next (s.after ((a.evUnbind q).evLevels q))))) ∧
  (∀ (q idx : Nat) (c : Rsp) (r : FabReq) (e : EvIssue) (s : State), s.dev.outstanding (.eventRecord q idx) = some r → c ≠ .done →
    let d := s.dev.answered (.eventRecord q idx) r c
    d.evq.loose.find? (fun e => e.q == q && e.idx == idx) = some e →
    let a : Dev := { d with evq := { d.evq with loose := d.evq.loose.erase e } }
    exec (.eventRecordDone q idx c) s = .next (s.after (((a.evBack e.record).setI F.EVQ_Q_STAT_FAULT e.q 1).evLevels e.q))) ∧
  (∀ (d : Dev) (e : EvIssue), (∀ p ∈ d.evq.pend, p.src ≠ e.record.src) →
    d.evReturn e = { d with evq := { d.evq with
      issued := d.evq.issued.map (fun i => if i == e then { i with st := .returned } else i) } }) ∧
  (∀ (d : Dev) (e : EvIssue) (p : EvRec), d.evq.pend.find? (fun p => p.src == e.record.src) = some p →
    d.evReturn e = { d with evq := { d.evq with
      pend := d.evq.pend.filter (fun p => p.src != e.record.src)
      issued := d.evq.issued.map (fun i => if i == e then { i with
        st := .returned
        record := { (if p.before e.record then p else e.record) with mrg := true, merges := e.record.merges + p.merges + 1 } } else i) } }) ∧
  (∀ (d : Dev) (q n : Nat) (e : EvIssue), (d.evBound q).find? (fun e => e.idx == d.f F.EVQ_Q_PI_PI q) = some e → e.st = .landed →
    let a := ({ d with evq := { d.evq with issued := d.evq.issued.erase e } } : Dev).setI F.EVQ_Q_PI_PI q (d.f F.EVQ_Q_PI_PI q + 1)
    (d.f F.EVQ_Q_CFG_ASLEEP q ≠ 0 → d.f F.EVQ_Q_PI_PI q = d.f F.EVQ_Q_CI_CI q →
      d.evAdvance q (n + 1) = ({ a with pins := { a.pins with wakeReqs := a.pins.wakeReqs + 1 } } : Dev).evAdvance q n) ∧
    (d.f F.EVQ_Q_CFG_ASLEEP q = 0 ∨ d.f F.EVQ_Q_PI_PI q ≠ d.f F.EVQ_Q_CI_CI q → d.evAdvance q (n + 1) = a.evAdvance q n)) ∧
  (∀ (q : Nat) (w : RegWr) (s : State), q < 8 → s.dev.passes w.agent (0x150018 + 0x40 * q) →
    let c := w.merged F.EVQ_Q_CI_CI (s.dev.f F.EVQ_Q_CI_CI q)
    let pi := s.dev.f F.EVQ_Q_PI_PI q
    let ahead := (pi + 2 ^ 18 - c) % 2 ^ 18
    let room := ahead ≤ 2 ^ s.dev.f F.EVQ_Q_CFG_LOG2SIZE q ∧ ahead ≤ (pi + 2 ^ 18 - s.dev.f F.EVQ_Q_CI_CI q) % 2 ^ 18
    (room → exec (.evqCiWrite q w) s = .next (s.after ((((s.dev.setI F.EVQ_Q_CI_CI q c).evLevels q).respond .done).accessed s.dev w.agent (0x150018 + 0x40 * q)))) ∧
    (¬ room → exec (.evqCiWrite q w) s = .next (s.after (((s.dev.setI F.EVQ_Q_STAT_CI_BAD q 1).respond .done).accessed s.dev w.agent (0x150018 + 0x40 * q))))) ∧
  (∀ (n : Nat) (w : RegWr) (s : State), n < 2048 → s.dev.passes w.agent (0x158000 + 8 * n) → srcKind n ≠ 0 →
    let d := (((s.dev.put F.EVQ_SRC_SENSE w n).put F.EVQ_SRC_EN w n).put F.EVQ_SRC_TARGET w n).put F.EVQ_SRC_WAKE w n
    (w.fld F.EVQ_SRC_REARM ≠ 1 → exec (.evqSrcWrite n w) s = .next (s.after (((d.evLevelNow n).respond .done).accessed s.dev w.agent (0x158000 + 8 * n)))) ∧
    (w.fld F.EVQ_SRC_REARM = 1 → d.evPending n = false →
      exec (.evqRearm n w) s = .next (s.after ((((d.setI F.EVQ_SRC_ARMED n 1).evLevelNow n).respond .done).accessed s.dev w.agent (0x158000 + 8 * n)))) ∧
    (w.fld F.EVQ_SRC_REARM = 1 → d.evPending n = true → exec (.evqRearm n w) s =
      .next (s.after (((((d.set F.EVQ_STAT_REARM_EARLY 1).set F.EVQ_STAT_LAST_SRC n).evLevelNow n).respond .done).accessed s.dev w.agent (0x158000 + 8 * n))))) ∧
  (∀ (q : Nat) (w : RegWr) (s : State), q < 8 → s.dev.passes w.agent (0x150000 + 0x40 * q) →
    let en := w.merged F.EVQ_Q_CFG_EN (s.dev.f F.EVQ_Q_CFG_EN q)
    let sz := w.merged F.EVQ_Q_CFG_LOG2SIZE (s.dev.f F.EVQ_Q_CFG_LOG2SIZE q)
    let fn := w.merged F.EVQ_Q_CFG_FUNC (s.dev.f F.EVQ_Q_CFG_FUNC q)
    let base := s.dev.f F.EVQ_Q_BASE_BASE q
    let moved := s.dev.f F.EVQ_Q_CFG_EN q ≠ 0 ∧ (sz ≠ s.dev.f F.EVQ_Q_CFG_LOG2SIZE q ∨ fn ≠ s.dev.f F.EVQ_Q_CFG_FUNC q)
    let wrong := sz < 6 ∨ 16 < sz ∨ base % 64 ≠ 0 ∨ 2 ^ 48 < base + 16 * 2 ^ sz
    let no := fun why => ((((s.dev.set F.EVQ_STAT_REFUSED 1).set F.EVQ_STAT_WHY why).set F.EVQ_STAT_QUEUE q).respond .done).accessed s.dev
      w.agent (0x150000 + 0x40 * q)
    (moved → exec (.evqQCfgWrite q w) s = .next (s.after (no 1))) ∧
    (¬ moved → en = 1 → wrong → exec (.evqQCfgWrite q w) s = .next (s.after (no 2))) ∧
    (¬ moved → en = 1 → ¬ wrong → s.dev.f F.ID_INTEG_FAB_WIRED = 0 → exec (.evqQCfgWrite q w) s = .next (s.after (no 3))) ∧
    (¬ moved → en = 1 → ¬ wrong → s.dev.f F.ID_INTEG_FAB_WIRED ≠ 0 → s.dev.f F.EVQ_Q_CFG_EN q = 0 →
      let d := (((s.dev.setI F.EVQ_Q_CFG_EN q en).put F.EVQ_Q_CFG_ASLEEP w q).setI F.EVQ_Q_CFG_FUNC q fn).setI F.EVQ_Q_CFG_LOG2SIZE q sz
      let e := (({ d with evq := { d.evq with
        issued := d.evq.issued.filter (fun e => e.q != q)
        loose := d.evq.loose ++ (d.evBound q).filter (fun e => e.st == .flying) } } : Dev).setI F.EVQ_Q_PI_PI q 0).setI
        F.EVQ_Q_CI_CI q 0
      let sleeps := s.dev.f F.EVQ_Q_CFG_ASLEEP q = 0 ∧ e.f F.EVQ_Q_CFG_ASLEEP q ≠ 0 ∧ e.f F.EVQ_Q_PI_PI q ≠ e.f F.EVQ_Q_CI_CI q
      exec (.evqQCfgWrite q w) s = .next (s.after ((((if sleeps then e.wakeReq else e).evLevels q).respond .done).accessed s.dev w.agent (0x150000 + 0x40 * q))))) ∧
  (∀ (q : Nat) (w : RegWr) (s : State), q < 8 → s.dev.passes w.agent (0x150020 + 0x40 * q) → exec (.evqFaultClear q w) s =
    .next (s.after (((((s.dev.put F.EVQ_Q_STAT_FAULT w q).put F.EVQ_Q_STAT_CI_BAD w q).evLevels q).respond .done).accessed s.dev w.agent (0x150020 + 0x40 * q)))) ∧
  ∀ (w : RegWr) (s : State), s.dev.passes w.agent 0x150208 →
    let d := s.dev.put F.EVQ_SWSRC_STATE w
    exec (.evqSwsrcWrite w) s = .next (s.after
      ((((List.range 8).foldl (fun d k => d.level (2040 + k) (bit (d.f F.EVQ_SWSRC_STATE) k)) d).respond .done).accessed s.dev w.agent 0x150208))

/-- R98, R320, R323 to R329, R331 to R335. -/
def Obligations.SequencerCommands : Prop :=
  (∀ (a : Nat) (d : Dev),
    (∀ m, a < 0x1000 → d.seqMatch a = some m → d.seqFetch a =
      { at' := 0x1000 + d.f F.SEQ_MATCH_PADDR m, via := some m, word := some (SMap.getD d.seq.patch (d.f F.SEQ_MATCH_PADDR m) 0 % 2 ^ 144) }) ∧
    (a < 0x1000 → d.seqMatch a = none → d.seqFetch a = { at' := a, word := some (Config.seqRom a % 2 ^ 144) }) ∧
    (0x1000 ≤ a → a < 0x1200 → d.seqFetch a = { at' := a, word := some (SMap.getD d.seq.patch (a - 0x1000) 0 % 2 ^ 144) }) ∧
    (0x1200 ≤ a → d.seqFetch a = { at' := a, word := none })) ∧
  (∀ (up : SeqUpset) (s : State), s.dev.seqBusy = true → s.dev.on 2 = true →
    let f := s.dev.seqFetch s.dev.seq.pc
    let seen := fun d : Dev => match f.via with | some m => d.set F.SEQ_STAT_LAST_MATCH m | none => d
    let nx := (f.at' + 1) % 2 ^ 13
    (∀ w, f.word = some w → up ≠ .patchLost →
      let d := seen (s.dev.seqCharge (uwDuty w) 1)
      let e := match up with | .patchFlip n => if 0x1000 ≤ f.at' then d.seqCorrected n else d | _ => d
      (d.seqLimit ≤ d.seq.cycles → uwWait w = true ∨ uwMode w ≠ 6 → exec (.seqFrameRoutine [.words [up]]) s = .next (s.after d.seqOverrun)) ∧
      (d.seq.cycles < d.seqLimit → uwWait w = true → e.seqBadOp w = false → e.seqWaitMet (uwWaitSel w) = false →
        exec (.seqFrameRoutine [.words [up]]) s = .next (s.after
          (({ e with seq := { e.seq with pc := f.at' } } : Dev).set F.SEQ_STAT_STATE 2).seqLateCheck)) ∧
      (d.seq.cycles < d.seqLimit → uwWait w = false ∨ e.seqBadOp w = true ∨ e.seqWaitMet (uwWaitSel w) = true →
        exec (.seqFrameRoutine [.words [up]]) s = .next (s.after (e.seqIssue w f.at' up).seqLateCheck))) ∧
    (f.word = none →
      let d := seen (s.dev.seqCharge (s.dev.f F.SEQ_STAT_DUTY) 1)
      d.seq.cycles < d.seqLimit → exec (.seqFrameRoutine [.words [up]]) s = .next (s.after (d.seqAbandon false nx).seqLateCheck)) ∧
    (f.word ≠ none → up = .patchLost → 0x1000 ≤ f.at' →
      let d := seen (s.dev.seqCharge (s.dev.f F.SEQ_STAT_DUTY) 1)
      d.seq.cycles < d.seqLimit →
      exec (.seqFrameRoutine [.words [up]]) s = .next (s.after ((d.seqPatchLost (f.at' - 0x1000)).seqAbandon false nx).seqLateCheck))) ∧
  (∀ (skip : Bool) (nx : Nat) (r : SeqCall) (up : List SeqCall) (d : Dev), d.seq.stack = r :: up →
    let n := SMap.getD d.seq.aband r.entry 0 + 1
    let e : Dev := { d with seq := { d.seq with post := [], filer := none, aband := d.seq.aband.put r.entry n, pc := r.entry } }
    (r.committed = true → d.seqAbandon skip nx = { d with seq := { d.seq with deferred := true, pc := nx } }) ∧
    (r.committed = false → skip = false → n < 4 → d.seqAbandon skip nx = e.count F.SEQ_CNT2_RESTARTS) ∧
    (r.committed = false → skip = true ∨ 4 ≤ n → 2 ≤ up.length →
      d.seqAbandon skip nx = ((e.raise 1413).count F.SEQ_CNT_SKIPS).seqLeave)) ∧
  (∀ (k n last next : Nat) (s : State), s.dev.seqBusy = true → s.dev.on 2 = true → s.dev.seqMayStart k = true → k ≠ 1 → k ≠ 2 →
    let d := (s.dev.seqWorked.seqCharge k n).pmc 0x15 n
    (d.seqLimit ≤ d.seq.cycles → exec (.seqFrameRoutine [.duty k n last next]) s = .next (s.after d.seqOverrun)) ∧
    (d.seq.cycles < d.seqLimit →
      let e : Dev := { d with seq := { d.seq with stack := d.seq.stack.drop (d.seq.stack.length - 1), pc := next % 2 ^ 13 } }
      exec (.seqFrameRoutine [.duty k n last next]) s = .next (s.after
        (((e.set F.SEQ_STAT_STATE 1).set F.SEQ_STAT_PC (last % 2 ^ 12)).set F.SEQ_STAT_DUTY k).seqLateCheck))) ∧
  (∀ (s : State), s.dev.seqBusy = true → s.dev.on 2 = true →
    (s.dev.f F.SEQ_STAT_DUTY = 1 → exec (.seqFrameRoutine [.file]) s = .next (s.after s.dev.seqFiled.seqCommitted)) ∧
    (s.dev.f F.SEQ_STAT_DUTY = 4 → exec (.seqFrameRoutine [.finish]) s = .next (s.after (((s.dev.seqCharge 4 1).pmc 0x15 1).seqOver 3))) ∧
    (exec .seqOverrun s = .next (s.after
      (s.dev.seqCharge (s.dev.f F.SEQ_STAT_DUTY) (s.dev.seqLimit - s.dev.seq.cycles)).seqOverrun))) ∧
  (∀ (d : Dev), d.ds.hdrFresh = true → d.on 9 = true →
    d.seqFiled = d.fileGrants (d.seq.cycles * 25000000 / cycles2 (d.f F.PWR_DVFS_STAT_FPOINT))) ∧
  (∀ (st : Nat) (d : Dev), d.seqOver st =
    let a := ((d.set F.SEQ_STAT_STATE st).set F.SEQ_STAT_LAST_CYCLES d.seq.cycles).seqDuties
    let a : Dev := { a with seq := { a.seq with post := [], filer := none } }
    a.set F.SEQ_STAT_PEAK_CYCLES (max (a.f F.SEQ_STAT_PEAK_CYCLES) (a.f F.SEQ_STAT_LAST_CYCLES))) ∧
  (∀ (d : Dev),
    let o := d.seqOver 4
    let e : Dev := { o with ds := { o.ds with hdrFresh := false, seqMsgs := [] } }
    let e := e.countN F.SEQ_CNT2_MSG_LOST o.ds.seqMsgs.length
    (o.ds.seqMsgs = [] → d.seqOverrun = ((e.raise 1408).count F.SEQ_CNT_OVERRUNS).seqFailed) ∧
    (o.ds.seqMsgs ≠ [] → d.seqOverrun = (((e.raise 1416).raise 1408).count F.SEQ_CNT_OVERRUNS).seqFailed)) ∧
  (∀ (s : State), s.dev.ds.hdrFresh = true → s.dev.on 2 = true → 1 ≤ s.dev.f F.SEQ_STAT_STATE → s.dev.f F.SEQ_STAT_STATE ≤ 3 →
    let a := ((({ s.dev with ds := { s.dev.ds with hdrFresh := false } } : Dev).raise 1409).count F.SEQ_CNT_PAGE_LATE).seqFailed
    let e : Dev := { a with seq := { a.seq with post := [], filer := none } }
    (e.f F.SEQ_STAT_DUTY ≠ 1 → exec .seqPageLate s = .next (s.after e)) ∧
    (∀ p r up, e.f F.SEQ_STAT_DUTY = 1 → e.seq.stack.reverse = p :: r :: up →
      exec .seqPageLate s = .next (s.after { e with seq := { e.seq with stack := [p], pc := r.ret } }))) ∧
  (∀ (d : Dev),
    (d.seqPatched = false → d.seqFailed = { d with seq := { d.seq with fails := 0, failed := true } }) ∧
    (d.seqPatched = true → d.seq.failed = false →
      let e : Dev := { d with seq := { d.seq with fails := d.seq.fails + 1, failed := true } }
      (max 1 (e.f F.SEQ_CTL_QUAR_N) ≤ d.seq.fails + 1 → d.seqFailed =
        (((List.range 32).foldl (fun d m => d.setI F.SEQ_MATCH_EN m 0) e).set F.SEQ_STAT_QUARANTINE 1).raise 1414) ∧
      (d.seq.fails + 1 < max 1 (e.f F.SEQ_CTL_QUAR_N) → d.seqFailed = e))) ∧
  (∀ (w : RegWr) (s : State), s.dev.passes w.agent 0x160008 → w.agent = .curator → w.fld F.SEQ_CTL_RESTART = 1 →
    let d := (s.dev.put F.SEQ_CTL_BUDGET w).put F.SEQ_CTL_QUAR_N w
    (d.seqBusy = true →
      exec (.seqRestartRequest w) s = .next (s.after (((d.seqAbandon false d.seq.pc).respond .done).accessed s.dev w.agent 0x160008))) ∧
    (d.seqBusy = false → exec (.seqRestartRequest w) s = .next (s.after ((d.respond .done).accessed s.dev w.agent 0x160008)))) ∧
  (∀ (w : RegWr) (s : State), s.dev.passes w.agent 0x160070 → w.agent = .curator →
    let a := s.dev.f F.SEQ_PATCH_ADDR_WORD
    (s.dev.seqGuards a = true → exec (.seqPatchWrite w) s = .next (s.after (((s.dev.set F.SEQ_STAT_REFUSED 1).respond .done).accessed s.dev w.agent 0x160070))) ∧
    (s.dev.seqGuards a = false →
      let v := patchWord (s.dev.f F.SEQ_PATCH_DATA_DATA 0 + s.dev.f F.SEQ_PATCH_DATA_DATA 1 * 2 ^ 64 + w.val % 2 ^ 16 * 2 ^ 128)
      exec (.seqPatchWrite w) s = .next (s.after (((({ s.dev with seq := { s.dev.seq with
        patch := SMap.store 0 a v s.dev.seq.patch } } : Dev).set F.SEQ_PATCH_ADDR_WORD (a + 1)).respond .done).accessed s.dev w.agent 0x160070)))) ∧
  (∀ v, patchWord v % 2 ^ 144 = v % 2 ^ 144) ∧
  ∀ (m : Nat) (w : RegWr) (s : State), m < 32 → s.dev.passes w.agent (0x160100 + 8 * m) → w.agent = .curator →
    s.dev.staging .curator = false → s.dev.applying (0x160100 + 8 * m) &&& w.bitMask = 0 →
    let e := ((((s.dev.put F.SEQ_MATCH_ADDR w m).put F.SEQ_MATCH_PADDR w m).put F.SEQ_MATCH_LEN w m).put F.SEQ_MATCH_EN w m).put
      F.SEQ_MATCH_FAULTED w m
    (w.fld F.SEQ_MATCH_EN = 1 → exec (.seqMatchWrite m w) s = .next (s.after (((e.set F.SEQ_STAT_QUARANTINE 0).respond .done).accessed s.dev w.agent (0x160100 + 8 * m)))) ∧
    (w.fld F.SEQ_MATCH_EN ≠ 1 → exec (.seqMatchWrite m w) s = .next (s.after ((e.respond .done).accessed s.dev w.agent (0x160100 + 8 * m))))

/-- R466 to R468, R473, R474 and R476 to R480. -/
def Obligations.ObservationCommands : Prop :=
  (∀ (w : RegWr) (s : State), s.dev.passes w.agent 0x1F0400 → w.fld F.OBS_SNAP_CMD_GO = 1 →
    let g := w.fld F.OBS_SNAP_CMD_GROUP
    let b := snapBank w.agent
    let clear := w.fld F.OBS_SNAP_CMD_CLEAR == 1
    let bars := fun d : Dev => match w.agent with | .host f _ => !bit (d.f F.OBS_CTL_UACC) f.val | _ => false
    (∀ rs, bars s.dev = false → snapGroup g = some rs →
      let gaps := rs.any (fun off => !s.dev.on (domainOf off))
      let hdr := g + rs.length * 2 ^ 8 + b2n clear * 2 ^ 17 + b2n gaps * 2 ^ 18
      let val := fun off => if s.dev.on (domainOf off) || keptOff off then s.dev.stored off else 0
      let d := if clear = true then rs.foldl Dev.clearRc s.dev else s.dev
      exec (.obsSnapGo w) s = .next (s.after ((({ d with obs := { d.obs with
        snap := d.obs.snap.set b (([hdr, s.dev.cycle, s.dev.clk.sfc] ++ rs.map val).map (BitVec.ofNat 64)) } } : Dev).respond .done).accessed s.dev w.agent 0x1F0400))) ∧
    (bars s.dev = true ∨ snapGroup g = none → exec (.obsSnapGo w) s = .next (s.after
      ((({ s.dev with obs := { s.dev.obs with snapRefused := s.dev.obs.snapRefused.set b true } } : Dev).respond .done).accessed s.dev w.agent 0x1F0400)))) ∧
  (∀ (k : Nat) (w : RegWr) (s : State), k < 8 →
    (s.dev.passes w.agent 0x1F0010 → exec (.pmcRunWrite w) s = .next (s.after (((s.dev.put F.OBS_PMC_RUN_RUN w).respond .done).accessed s.dev w.agent 0x1F0010))) ∧
    (s.dev.passes w.agent (0x1F0100 + 0x20 * k) →
      exec (.pmcCfgWrite k w) s = .next (s.after (((s.dev.putAll (fldsAt (0x1F0100 + 0x20 * k)) w).respond .done).accessed s.dev w.agent (0x1F0100 + 0x20 * k)))) ∧
    (s.dev.passes w.agent (0x1F0118 + 0x20 * k) →
      exec (.pmcCntWrite k w) s = .next (s.after (((s.dev.put F.OBS_PMC_CNT_COUNT w k).respond .done).accessed s.dev w.agent (0x1F0118 + 0x20 * k))))) ∧
  (∀ (k past : Nat) (s : State), k < 8 → bit (s.dev.f F.OBS_PMC_RUN_RUN) k = true → s.dev.f F.OBS_PMC_CFG_EVENT k < 24 →
    exec (.pmcOvf k past) s = .next (s.after ((s.dev.setI F.OBS_PMC_CNT_COUNT k past).raise (1568 + k)))) ∧
  (∀ (n : Nat) (t : Trace) (s : State), s.dev.obs.traces.find? (fun t => t.num == n) = some t → t.start + 2 ^ 30 ≤ s.dev.cycle →
    exec (.traceTimeout n) s = .next (s.after ({ s.dev with obs := { s.dev.obs with
      traces := s.dev.obs.traces.erase t
      closed := s.dev.obs.closed ++ [{ t with fate := 10, fateCyc := s.dev.cycle, sfc := s.dev.clk.sfc, tsOut := 0 }] } }))) ∧
  (∀ (t : Trace) (rest : List Trace) (s : State), s.dev.obs.closed = t :: rest → s.dev.obs.writing = false → s.dev.on 29 = true →
    s.dev.on 31 = true → s.dev.f F.OBS_TRC_CFG_EN ≠ 0 → s.dev.f F.OBS_TRC_STAT_FAULT = 0 → s.dev.trcFull = false →
    let i := s.dev.f F.OBS_TRC_PI_IDX
    let n := 2 ^ s.dev.f F.OBS_TRC_CFG_LOG2SIZE
    exec .traceRecordWrite s = .next (s.after ((({ s.dev with obs := { s.dev.obs with writing := true } } : Dev).request
      { kind := .traceRecord (s.dev.f F.OBS_TRC_STAT_SEQ), write := true, mstr := 5, func := s.dev.f F.OBS_TRC_CFG_FUNC
        addr := s.dev.f F.OBS_TRC_BASE_BASE + 64 * (i % n), len := 64
        data := t.bytes (s.dev.f F.OBS_TRC_STAT_SEQ) (1 - i / n % 2) }).trcLevels))) ∧
  (∀ (seq : Nat) (c : Rsp) (r : FabReq) (s : State), s.dev.outstanding (.traceRecord seq) = some r →
    let d := s.dev.answered (.traceRecord seq) r c
    d.obs.stale = 0 → d.obs.writing = true →
    (c = .done → exec (.traceRecordDone seq c) s = .next (s.after
      (((({ d with obs := { d.obs with writing := false, closed := d.obs.closed.drop 1 } } : Dev).set F.OBS_TRC_PI_IDX
        (d.f F.OBS_TRC_PI_IDX + 1)).set F.OBS_TRC_STAT_SEQ (seq + 1)).trcLevels))) ∧
    (c ≠ .done → exec (.traceRecordDone seq c) s = .next (s.after
      ((({ d with obs := { d.obs with writing := false } } : Dev).set F.OBS_TRC_STAT_FAULT 1).trcLevels)))) ∧
  (∀ (w : RegWr) (s : State), s.dev.passes w.agent 0x1F0200 → s.dev.f F.OBS_TRC_CFG_EN = 0 →
    let sz := w.merged F.OBS_TRC_CFG_LOG2SIZE (s.dev.f F.OBS_TRC_CFG_LOG2SIZE)
    let en := w.merged F.OBS_TRC_CFG_EN (s.dev.f F.OBS_TRC_CFG_EN)
    let d := (((((s.dev.set F.OBS_TRC_CFG_LOG2SIZE sz).put F.OBS_TRC_CFG_FUNC w).set F.OBS_TRC_CFG_EN en).put F.OBS_TRC_CFG_N w).put
      F.OBS_TRC_CFG_PATHS w)
    (en = 1 → 6 ≤ sz → sz ≤ 16 → exec (.trcCfgWrite w) s =
      .next (s.after (((({ (d.set F.OBS_TRC_PI_IDX 0).set F.OBS_TRC_CI_IDX 0 with obs := { d.obs with
        writing := false, stale := d.obs.stale + b2n d.obs.writing } } : Dev).trcLevels.respond .done).accessed s.dev w.agent 0x1F0200)))) ∧
    (en = 0 → exec (.trcCfgWrite w) s = .next (s.after ((d.trcLevels.respond .done).accessed s.dev w.agent 0x1F0200))) ∧
    (en = 1 → sz < 6 ∨ 16 < sz → exec (.trcCfgWrite w) s = .next (s.after ((s.dev.respond .done).accessed s.dev w.agent 0x1F0200)))) ∧
  (∀ (w : RegWr) (s : State),
    (s.dev.passes w.agent 0x1F0228 →
      let v := w.fld F.OBS_TRC_SEED_SEED
      exec (.trcSeedWrite w) s =
        .next (s.after ((({ s.dev with obs := { s.dev.obs with lfsr := if v = 0 then 1 else v } } : Dev).respond .done).accessed s.dev w.agent 0x1F0228))) ∧
    (s.dev.passes w.agent 0x1F0218 →
      let c := w.merged F.OBS_TRC_CI_IDX (s.dev.f F.OBS_TRC_CI_IDX)
      let pi := s.dev.f F.OBS_TRC_PI_IDX
      let ahead := (pi + 2 ^ 18 - c) % 2 ^ 18
      let room := ahead ≤ 2 ^ s.dev.f F.OBS_TRC_CFG_LOG2SIZE ∧ ahead ≤ (pi + 2 ^ 18 - s.dev.f F.OBS_TRC_CI_IDX) % 2 ^ 18
      (room → exec (.trcCiWrite w) s = .next (s.after ((((s.dev.set F.OBS_TRC_CI_IDX c).trcLevels).respond .done).accessed s.dev w.agent 0x1F0218))) ∧
      (¬ room → exec (.trcCiWrite w) s = .next (s.after (((s.dev.set F.OBS_TRC_STAT_CI_BAD 1).respond .done).accessed s.dev w.agent 0x1F0218)))) ∧
    (s.dev.passes w.agent 0x1F0300 →
      let cur := s.dev.obs.bwNext.getD (s.dev.f F.OBS_BW_CFG_WM1, s.dev.f F.OBS_BW_CFG_EN)
      let next := some (w.merged F.OBS_BW_CFG_WM1 cur.1, w.merged F.OBS_BW_CFG_EN cur.2)
      exec (.bwCfgWrite w) s = .next (s.after ((({ s.dev with obs := { s.dev.obs with bwNext := next } } : Dev).respond .done).accessed s.dev w.agent 0x1F0300))))

/-- R344 to R347 and R349 to R352. -/
def Obligations.MailboxCommands : Prop :=
  (∀ (d : Dev) (n st : Nat) (body : List Nat),
    let w0 := d.f F.MBX_AREA_DATA n 0
    let e := d.mbFill n 0 ((w0 % 2 ^ 24 + st * 2 ^ 24 + 8 * body.length * 2 ^ 32 + bits w0 44 2 * 2 ^ 44) :: body)
    d.mbRespond n st body = ((e.setI F.MBX_STAT_OWNER n 0).setI F.MBX_STAT_RESP_SEQ n (w0 % 2 ^ 16)).raise (1440 + n)) ∧
  (∀ (n : Nat) (w : RegWr) (s : State), n = 0 ∨ n = 2 → s.dev.passes w.agent (0x178000 + 8 * n) →
    let q := w.fld F.MBX_DB_SEQ
    let next := (s.dev.f F.MBX_STAT_LAST_SEQ n + 1) % 65536
    let no := fun why => ((((s.dev.setI F.MBX_STAT_REFUSED n 1).setI F.MBX_STAT_WHY n why).raise 1443).respond .done).accessed s.dev
      w.agent (0x178000 + 8 * n)
    (q ≠ next → exec (.mbDoorbell n w) s = .next (s.after (no 1))) ∧
    (q = next → s.dev.f F.MBX_STAT_OWNER n ≠ 0 → exec (.mbDoorbell n w) s = .next (s.after (no 2))) ∧
    (q = next → s.dev.f F.MBX_STAT_OWNER n = 0 → s.dev.mbPermits n w.agent = false → exec (.mbDoorbell n w) s = .next (s.after (no 3))) ∧
    (q = next → s.dev.f F.MBX_STAT_OWNER n = 0 → s.dev.mbPermits n w.agent = true →
      let d := (s.dev.setI F.MBX_STAT_OWNER n 1).setI F.MBX_STAT_LAST_SEQ n q
      let w0 := d.f F.MBX_AREA_DATA n 0
      let e := d.mbFill n 0 [w0 - bits w0 44 2 * 2 ^ 44 + agentFn w.agent * 2 ^ 44]
      exec (.mbDoorbell n w) s = .next (s.after (((e.mbTaken n).respond .done).accessed s.dev w.agent (0x178000 + 8 * n))))) ∧
  (∀ (w : RegWr) (s : State), s.dev.passes w.agent 0x178008 → w.fld F.MBX_DB_ACK = 1 → s.dev.f F.MBX_STAT_OWNER 1 ≠ 0 →
    s.dev.mbPermits 1 w.agent = true →
    (w.fld F.MBX_DB_SEQ = s.dev.f F.MBX_STAT_RESP_SEQ 1 →
      exec (.mb1Ack w) s = .next (s.after (((s.dev.setI F.MBX_STAT_OWNER 1 0).respond .done).accessed s.dev w.agent 0x178008))) ∧
    (w.fld F.MBX_DB_SEQ ≠ s.dev.f F.MBX_STAT_RESP_SEQ 1 → exec (.mb1Ack w) s =
      .next (s.after (((((s.dev.setI F.MBX_STAT_REFUSED 1 1).setI F.MBX_STAT_WHY 1 1).raise 1443).respond .done).accessed s.dev w.agent 0x178008)))) ∧
  (∀ (text : Option (List Byte)) (ty : Nat) (body : List Word) (t : List (Nat × List Word)) (s : State),
    let d := match text with
      | some l => s.dev.notice 0x86 ((mbPack (l.take 4088)).map (BitVec.ofNat 64))
      | none => s.dev
    s.dev.docentRuns = true → d.f F.MBX_STAT_OWNER 1 = 0 → d.docentRuns = true → d.on 1 = true → d.fw.notices = (ty, body) :: t →
    exec (.mb1NoticePost text) s =
      .next (s.after (({ d with fw := { d.fw with notices := t } } : Dev).mbPost ty (body.map BitVec.toNat)))) ∧
  (∀ (d : Dev) (ty : Nat) (body : List Nat),
    let q := (d.f F.MBX_STAT_RESP_SEQ 1 + 1) % 65536
    let e := ({ d with fw := { d.fw with lost := 0 } } : Dev).mbFill 1 0
      ((q + ty * 2 ^ 16 + 8 * body.length * 2 ^ 32 + min d.fw.lost 65535 * 2 ^ 48) :: body)
    d.mbPost ty body = ((e.setI F.MBX_STAT_OWNER 1 1).setI F.MBX_STAT_RESP_SEQ 1 q).raise 1441) ∧
  (∀ (n ty len : Nat) (s : State), s.dev.mbHas n ty len →
    let a := fun k => s.dev.f F.MBX_AREA_DATA n k
    let reply : Dev → Nat → List Nat → State := fun d st body => s.after (d.mbRespond n st body)
    (∀ t q l, n = 0 ∨ n = 2 → mbKnown n ty = false → exec (.mbUnknownType n t q l) s = .next (reply s.dev 1 [])) ∧
    (n = 2 → ty = 0x41 → len = 0 → exec .curInfo s = .next (reply s.dev 0
      [curRelease s.dev + s.dev.f F.MBX_BOOT_CUR_PATCH_VER * 2 ^ 16 + s.dev.f F.MBX_BOOT_STAGE * 2 ^ 32, s.dev.f F.TST_SERIAL_SN])) ∧
    (n = 2 → ty = 0x42 → len = 16 →
      (s.dev.f F.MBX_BOOT_STAGE = 4 → s.dev.fw.patched = false → s.dev.fw.loaded = false →
        exec .curPatch s = .next (s.after (s.dev.imgFetch { type := 1, addr := a 1, len := a 2 }))) ∧
      (s.dev.f F.MBX_BOOT_STAGE ≠ 4 ∨ s.dev.fw.patched = true ∨ s.dev.fw.loaded = true → exec .curPatch s = .next (reply s.dev 4 []))) ∧
    (n = 2 → ty = 0x43 → len = 24 →
      let ms := if bits (a 3) 0 10 = 0 then 100 else bits (a 3) 0 10
      let auto := bit (a 3) 10
      (ms < 10 ∨ 1000 < ms → exec .docentLoad s = .next (reply s.dev 3 [])) ∧
      (10 ≤ ms → ms ≤ 1000 →
        let d := (s.dev.set F.MBX_WDOG_WD_MS ms).set F.MBX_FW_STAT_AUTO_LEFT (if auto then 3 else 0)
        let d : Dev := { d with fw := { d.fw with docAddr := a 1, docLen := a 2, auto := auto, restartDue := false } }
        (d.f F.MBX_FW_STAT_DSTATE = 2 ∨ d.f F.MBX_FW_STAT_DSTATE = 3 → exec .docentLoad s = .next (s.after
          (({ d with fw := { d.fw with load := some { type := 2, addr := a 1, len := a 2 } } } : Dev).set F.MBX_FW_STAT_DSTATE 3))) ∧
        (d.f F.MBX_FW_STAT_DSTATE ≠ 2 → d.f F.MBX_FW_STAT_DSTATE ≠ 3 →
          exec .docentLoad s = .next (s.after (d.docentFetch { type := 2, addr := a 1, len := a 2 }))))) ∧
    (n = 2 → ty = 0x44 → len = 0 →
      (s.dev.docentRuns = true → exec .docentStop s = .next (reply (s.dev.set F.MBX_FW_STAT_DSTATE 3) 0 [])) ∧
      (s.dev.docentRuns = false → exec .docentStop s = .next (reply s.dev 4 []))) ∧
    (n = 2 → ty = 0x45 → len = 24 → exec .seqPatch s =
      .next (s.after (s.dev.imgFetch { type := 3, addr := a 1, len := a 2, frame := bits (a 3) 0 51 }))) ∧
    (n = 2 → ty = 0x46 → len = 8 →
      let type := bits (a 1) 0 8
      let keyid := bits (a 1) 8 2
      let new := bits (a 1) 16 16
      let f := s.dev.floorOf type keyid
      (s.dev.fw.runs.find? (fun r => r.type == type && r.keyid == keyid && s.dev.imgInUse type) = none → exec .svnRaise s = .next (reply s.dev 4 [])) ∧
      ∀ r, s.dev.fw.runs.find? (fun r => r.type == type && r.keyid == keyid && s.dev.imgInUse type) = some r →
        (f.1 < new → new ≤ r.svn → f.2 < 255 → exec .svnRaise s = .next (reply { s.dev with fw := { s.dev.fw with
          floors := s.dev.fw.floors.put (4 * type + keyid) (new, f.2 + 1) } } 0 [new])) ∧
        (new ≤ f.1 ∨ r.svn < new → exec .svnRaise s = .next (reply s.dev 3 []))) ∧
    (n = 2 → ty = 0x48 → len = 8 →
      (a 1 < 64 → exec .aclSet s = .next (reply ((s.dev.set F.MBX_ACL_MB0_FN (a 1)).set F.MBX_ACL_CTRL_FN (a 1 / 16)) 0 [])) ∧
      (64 ≤ a 1 → exec .aclSet s = .next (reply s.dev 3 []))) ∧
    (n = 2 → ty = 0x49 → len = 8 → exec .funcReset s = .next (reply (s.dev.funcReset (a 1 % 4)) 0 [])) ∧
    (n = 0 → ty = 1 → len = 0 → exec .getVersion s = .next (reply s.dev 0
      [s.dev.f F.MBX_DOCENT_VERSION + s.dev.f F.MBX_DOCENT_SVN * 2 ^ 16, ofLe ((beBytes 32 s.dev.fw.digest).take 8)])) ∧
    (n = 0 → ty = 2 → len = 40 →
      let f := a 1 % 4
      let mine := bits (a 0) 44 2 = f ∨ bits (a 0) 44 2 = s.dev.f F.MBX_ACL_CTRL_FN
      let free := s.dev.f F.HRG_FUNC_STAT_ADMIN_READY f = 0 ∧ s.dev.resetting f = false
      let sizes := 4 ≤ bits (a 1) 8 4 ∧ bits (a 1) 8 4 ≤ 12 ∧ 4 ≤ bits (a 1) 12 4 ∧ bits (a 1) 12 4 ≤ 12
      let places := ∀ k, 2 ≤ k → k ≤ 5 → a k % 64 = 0 ∧ a k < 2 ^ 48
      (¬ mine → exec .adminSetup s = .next (reply s.dev 5 [])) ∧
      (mine → ¬ free → exec .adminSetup s = .next (reply s.dev 4 [])) ∧
      (mine → s.dev.f F.ID_INTEG_FAB_WIRED = 0 → exec .adminSetup s = .next (reply s.dev 4 [])) ∧
      (mine → free → s.dev.f F.ID_INTEG_FAB_WIRED ≠ 0 → ¬ (sizes ∧ places) → exec .adminSetup s = .next (reply s.dev 3 [])) ∧
      (mine → free → s.dev.f F.ID_INTEG_FAB_WIRED ≠ 0 → sizes → places → exec .adminSetup s = .next (reply ((s.dev.adminPut f
        { wqBase := a 2, wqHdr := a 3, wqLog := bits (a 1) 8 4, cqBase := a 4, cqHdr := a 5, cqLog := bits (a 1) 12 4 }).setI
          F.HRG_FUNC_STAT_ADMIN_READY f 1) 0 []))) ∧
    (∀ (v : Word) (p : AdminPair), n = 0 → ty = 3 → len = 8 →
      let f := a 1 % 4
      bits (a 0) 44 2 = f ∨ bits (a 0) 44 2 = s.dev.f F.MBX_ACL_CTRL_FN →
      let d := s.dev.adminHost f v
      d.hrg.admin.look f = some p →
      (p.head = p.tail → p.busy = false → p.hold = none → p.pi = p.hostIdx → exec (.adminTeardown v .done) s =
        .next (reply ((({ d with hrg := { d.hrg with admin := d.hrg.admin.del f } } : Dev).setI F.HRG_FUNC_STAT_ADMIN_READY f 0).level (1024 + f)
          false) 0 [])) ∧
      (p.head ≠ p.tail ∨ p.busy = true ∨ p.hold ≠ none ∨ p.pi ≠ p.hostIdx → exec (.adminTeardown v .done) s = .next (reply d 4 []))) ∧
    (n = 0 → ty = 4 → len = 8 → exec .noticeMask s = .next (reply { s.dev with fw := { s.dev.fw with mask := a 1 % 65536 } } 0 [])) ∧
    (n = 0 → ty = 5 → len = 8 → exec .mb0Ping s = .next (reply s.dev 0 [a 1])) ∧
    (n = 0 → ty = 7 → len = 0 →
      let ps := s.dev.f F.TUS_SEQSEL_PSEQ
      let done := decide (∃ q, s.dev.term.full = some q ∧ (s.dev.term.collect.all (fun c => c.pseq == q)) = true)
      let m := b2n (s.dev.b F.TST_ID_VALID) + (s.dev.listed F.TUS_ALLOC_VALID).countP (fun p => p.1 != 0 && p.2 == 1)
      exec .termInfo s = .next (reply s.dev 0 [s.dev.stored 0x60000, s.dev.stored 0x60018, ps + b2n done * 2 ^ 8 + m * 2 ^ 9])))

/-- R339, R341, R342, R350, R352 to R356 and R490. -/
def Obligations.FirmwareLife : Prop :=
  (∀ (s : State), s.dev.f F.MBX_BOOT_STAGE = 0 → s.dev.on 1 = true →
    let d := (s.dev.set F.MBX_BOOT_STAGE 1).raise 1444
    let e := (d.set F.MBX_BOOT_STAGE 2).raise 1444
    let e := (if d.pwr.boPending then e.raise 1354 else e).set F.TST_SERIAL_SN Config.serial
    let e : Dev := { e with pwr := { e.pwr with boPending := false } }
    let e := (List.range 16).foldl (fun d k => d.setI F.PWR_POND_COEF_PJ k (Config.calCoef k)) e
    let e := (List.range 33).foldl (fun d k => d.setI F.PWR_POND_STATIC_NJ k (Config.calStatic k)) e
    let e := (e.set F.PWR_POND_THERM_T_SOFT Config.calSoft).set F.PWR_POND_THERM_T_HARD Config.calHard
    let e := (((e.set F.MBX_ACL_MB0_FN 1).set F.MBX_ACL_CTRL_FN 0).set F.MBX_BOOT_STAGE 3).raise 1444
    exec (.boot true) s = .next (s.after e) ∧
    (((d.set F.MBX_BOOT_STAGE 7).raise 1444).f F.MBX_STAT_OWNER 2 = 0 →
      exec (.boot false) s = .next (s.after ((d.set F.MBX_BOOT_STAGE 7).raise 1444))) ∧
    (((d.set F.MBX_BOOT_STAGE 7).raise 1444).f F.MBX_STAT_OWNER 2 ≠ 0 →
      exec (.boot false) s = .next (s.after (((d.set F.MBX_BOOT_STAGE 7).raise 1444).mbRespond 2 4 [])))) ∧
  (∀ (image : List Byte) (c : Rsp) (r : FabReq) (l : ImgLoad) (s : State), s.dev.outstanding .image = some r →
    let d := s.dev.answered .image r c
    d.fw.load = some l →
    let e : Dev := { d with pwr := { d.pwr with imageVote := false } }
    let e : Dev := { e with fw := { e.fw with load := none } }
    let m := image.take r.len
    (c ≠ .done → exec (.imageFetchDone image c) s = .next (s.after (e.imgFailed l 9))) ∧
    (c = .done → exec (.imageFetchDone image c) s = .next (s.after
      (let g := if imgFits m l.type then e.imgPlace m l.type else e
       if e.imgStatus m l.type = 0 then g.imgAccepted l m else g.imgFailed l (e.imgStatus m l.type))))) ∧
  (∀ (m : List Byte) (d : Dev), d.imgPlace m 2 = { d with fw := { d.fw with docRam := imgBody m } }) ∧
  (∀ (d : Dev) (l : ImgLoad) (st : Nat), l.type ≠ 2 → l.auto = false →
    d.imgFailed l st = (d.set F.MBX_BOOT_LAST_ERR st).mbRespond 2 st []) ∧
  (∀ (d : Dev) (l : ImgLoad) (m : List Byte), l.type = 2 → l.auto = false →
    let a := ((d.set F.MBX_DOCENT_VERSION (imgVersion m)).set F.MBX_DOCENT_SVN (imgSvn m)).set F.MBX_DOCENT_DIGEST (imgWord m 3 % 2 ^ 32)
    d.imgAccepted l m = (({ a with fw := { a.fw with
      accepted := true, digest := imgBe m 24 32, restarted := false } } : Dev).imgRuns m 2).mbRespond 2 0 [imgVersion m + imgSvn m * 2 ^ 16]) ∧
  (∀ (s : State), s.dev.fw.accepted = true → s.dev.f F.MBX_FW_STAT_DSTATE = 1 → s.dev.fw.load = none → s.dev.on 1 = true →
    let d := ((((s.dev.set F.MBX_BOOT_STAGE 6).raise 1444).set F.MBX_FW_STAT_DSTATE 2).raise 1445)
    let e : Dev := { d with fw := { d.fw with
      mask := 0xFFFF, down := false, accepted := false, kickTick := d.clk.ticks, readyTick := d.clk.ticks } }
    let e := e.notice 0x81 [BitVec.ofNat 64 (e.f F.MBX_DOCENT_VERSION + b2n e.fw.restarted * 2 ^ 16)]
    exec .docentReady s = .next (s.after ((List.range 4).foldl Dev.adminBroken e))) ∧
  (∀ (cause : Nat) (i : Instr) (s : State),
    (cause = 2 ∧ i = .mpuViolation) ∨
      (cause = 1 ∧ i = .watchdogExpiry ∧ s.dev.fw.kickTick + 8 * s.dev.f F.MBX_WDOG_WD_MS ≤ s.dev.clk.ticks) ∨
      (cause = 4 ∧ i = .docentErrorReport []) →
    exec i s = .next (s.after (s.dev.docentDown cause))) ∧
  (∀ (s : State), s.dev.onPll = true → s.dev.clk.ticks < s.dev.fw.kickTick + 8 * s.dev.f F.MBX_WDOG_WD_MS →
    exec .watchdogExpiry s = .next (s.after s.dev)) ∧
  (∀ (off : Nat) (w : RegWr) (s : State), w.agent = .docent → busOffset off = true → off < 0x110000 ∨ 0x114000 ≤ off →
    fldsAt off ≠ [] → mpuWrite off = true → s.dev.reach .docent = true → s.dev.asleep = false →
    exec (.registerWrite off w) s = .next (s.after ((s.dev.respond .done).docentDown 2))) ∧
  (∀ (cause : Nat) (d : Dev), d.f F.MBX_FW_STAT_DSTATE = 2 ∨ d.f F.MBX_FW_STAT_DSTATE = 3 →
    let b := ((d.docentHalted cause).count F.MBX_FW_STAT_DOWN_COUNT).raise 1446
    let e := if b.fw.auto = true ∧ b.fw.readyTick + 480000 < b.clk.ticks then b.set F.MBX_FW_STAT_AUTO_LEFT 3 else b
    (e.loadWaits = none →
      d.docentDown cause = { e with fw := { e.fw with restartDue := e.fw.auto && e.f F.MBX_FW_STAT_AUTO_LEFT != 0 } }) ∧
    ∀ l, e.loadWaits = some l → d.docentDown cause = e.docentFetch l) ∧
  (∀ (s : State), s.dev.f F.MBX_FW_STAT_DSTATE = 3 →
    ((s.dev.docentHalted 3).loadWaits = none → exec .docentHalt s = .next (s.after (s.dev.docentHalted 3))) ∧
    ∀ l, (s.dev.docentHalted 3).loadWaits = some l → exec .docentHalt s = .next (s.after ((s.dev.docentHalted 3).docentFetch l))) ∧
  (∀ (s : State), s.dev.fw.restartDue = true → s.dev.f F.MBX_FW_STAT_AUTO_LEFT ≠ 0 → s.dev.fw.load = none →
    exec .autoRestart s = .next (s.after ((s.dev.set F.MBX_FW_STAT_AUTO_LEFT (s.dev.f F.MBX_FW_STAT_AUTO_LEFT - 1)).docentFetch
      { type := 2, addr := s.dev.fw.docAddr, len := s.dev.fw.docLen, auto := true }))) ∧
  (∀ (w : RegWr) (s : State), s.dev.passes w.agent 0x178098 → w.agent = .docent → w.fld F.MBX_WDOG_KICK = 1 →
    exec (.wdogKick w) s = .next (s.after
      ((({ s.dev with fw := { s.dev.fw with kickTick := s.dev.clk.ticks } } : Dev).respond .done).accessed s.dev w.agent 0x178098))) ∧
  (∀ (slot : Nat) (s : State), s.dev.docentRuns = true → s.dev.on 1 = true → slot = 1 ∨ slot = 2 →
    let used := slot = s.dev.f F.TUS_SEQSEL_KSEL ∨ (s.dev.f F.TST_KEYSW_PENDING ≠ 0 ∧ slot = s.dev.f F.TST_KEYSW_PEND_SLOT)
    (used → exec (.keyNew slot) s = .next (s.after (s.dev.raise 1447))) ∧
    (¬ used →
      let key := Config.freshKey s.dev.fw.draws
      let d := ({ s.dev with fw := { s.dev.fw with draws := s.dev.fw.draws + 1 } } : Dev).loadKey slot key
      exec (.keyNew slot) s = .next (s.after
        { d with fw := { d.fw with wrapped := keyWrap (s.dev.fw.kek.getD Config.factoryKek) key } }))) ∧
  (∀ (key : Nat) (d : Dev),
    let kept := fun (d : Dev) n => ({ d with ds := { d.ds with keys := d.ds.keys.set n key } } : Dev)
    d.loadKey 1 key = kept (d.set F.TDS_KEYSTAT_SLOT1_VALID 1) 0 ∧ d.loadKey 2 key = kept (d.set F.TDS_KEYSTAT_SLOT2_VALID 1) 1 ∧
    d.loadKey 3 key = kept { d with ds := { d.ds with bcastDue := true } } 2) ∧
  (∀ (gen wrapped : Nat) (s : State), s.dev.docentRuns = true → s.dev.on 1 = true →
    let key := keyUnwrap (s.dev.fw.kek.getD Config.factoryKek) wrapped
    let now := s.dev.f F.MBX_BOOT_KEK_GEN
    exec (.keyBcast gen wrapped) s = .next (s.after (match key with
      | some k => if gen = now then s.dev.loadKey 3 (k % 2 ^ 256) else s.dev.raise 1447
      | none => s.dev.raise 1447)) ∧
    exec (.kekRotate gen wrapped) s = .next (s.after (match key with
      | some k => if gen = (now + 1) % 256
          then ({ s.dev with fw := { s.dev.fw with kek := some (k % 2 ^ 256) } } : Dev).set F.MBX_BOOT_KEK_GEN gen
          else s.dev.raise 1447
      | none => s.dev.raise 1447))) ∧
  ∀ (cmd tid : Nat) (s : State), s.dev.docentRuns = true → s.dev.on 1 = true → 1 ≤ cmd → cmd ≤ 3 → tid < 1024 →
    exec (.tstWrite cmd tid) s = .next (s.after { s.dev with term := { s.dev.term with cmd := some (cmd, tid, none) } })

/-- R383, R385 to R387 and R397 to R400. Changes that wait for their TICK count as made when a later command is judged (DEDUCED, log entry 15). -/
def Obligations.SealedCommands : Prop :=
  ∀ (len v : Nat) (s : State), s.dev.mbHas 2 0x47 len → len ≠ 0 → len % 8 = 0 → s.dev.on 32 = true → s.dev.vit.lost = false →
    s.dev.f F.MBX_AREA_DATA 2 1 % 256 = v →
    let d := s.dev
    let w : Nat → Word := fun k => BitVec.ofNat 64 (d.f F.MBX_AREA_DATA 2 k)
    let p := fun k lo n => bits (w k).toNat lo n
    let bad := fun why => d.sealAnswered v 3 why 0 []
    let classC : Nat → Instr → Prop := fun k i => v = k ∧
      ((k = 1 ∧ i = .bindDs) ∨ (k = 2 ∧ i = .bindUs) ∨ (k = 3 ∧ i = .setInterval) ∨ (k = 4 ∧ i = .setPulse) ∨ (k = 5 ∧ i = .archiveClear) ∨
        (k = 7 ∧ i = .keyRotate) ∨ (k = 6 ∧ ∃ ns, i = .clockCheck ns))
    let counted : Dev → Dev := fun e => { e with vit := { e.vit with sealCmds := e.vit.sealCmds + 1 } }
    let sig := vitSign d.vit.signKey
    let tod := b2n d.vit.obsValid
    let head := fun rtype flags acct nonce => vitHeader d.vit rtype flags acct d.vit.readSeq d.vit.obsSfc nonce
    let zeros : List Word := [0, 0, 0, 0, 0]
    (∀ k i, classC k i → d.f F.VIT_SEAL_OPEN = 0 → exec i s = .next (s.after (d.sealAnswered v 0xA 6 0 []))) ∧
    (∀ k i, classC k i → k ≠ 5 → d.f F.VIT_SEAL_OPEN ≠ 0 → 2032 ≤ d.vit.log.length → exec i s = .next (s.after (d.sealAnswered v 0xB 7 0 []))) ∧
    (d.f F.VIT_SEAL_OPEN ≠ 0 → d.vit.log.length < 2032 →
      (v = 1 →
        let slot := p 1 8 12
        let o := d.vitBindAfter slot
        let taken := ∃ k ∈ d.vitSlots, k ≠ slot ∧ (d.vitBindAfter k).2.2 = true ∧ (d.vitBindAfter k).1 = p 1 20 16
        (p 1 48 1 = 1 → taken → exec .bindDs s = .next (s.after (bad 3))) ∧
        (p 1 48 1 ≠ 1 ∨ ¬ taken → exec .bindDs s = .next (s.after
          ((counted ((d.vitChange (.bindDs slot (p 1 20 16) (p 1 36 12) (p 1 48 1 == 1))).vitLog 3 true (w 1).toNat
            (o.1 + o.2.1 * 65536 + b2n o.2.2 * 2 ^ 28))).sealAnswered v 0 0 0 [])))) ∧
      (v = 2 →
        let o := d.vitBindUsAfter (p 1 8 12)
        exec .bindUs s = .next (s.after ((counted ((d.vitChange (.bindUs (p 1 8 12) (p 1 20 12) (p 1 32 1 == 1))).vitLog 4 true (w 1).toNat
          (o.1 + b2n o.2 * 4096))).sealAnswered v 0 0 0 []))) ∧
      (v = 3 →
        (p 1 8 6 = 0 ∨ 60 < p 1 8 6 → exec .setInterval s = .next (s.after (bad 2))) ∧
        (1 ≤ p 1 8 6 → p 1 8 6 ≤ 60 → exec .setInterval s = .next (s.after
          ((counted ((d.vitChange (.setInterval (p 1 8 6))).vitLog 5 true (p 1 8 6) d.vitLenAfter)).sealAnswered v 0 0 0 [])))) ∧
      (v = 4 →
        (9 < p 1 8 4 ∨ p 2 0 40 < 100000000 → exec .setPulse s = .next (s.after (bad 2))) ∧
        (p 1 8 4 ≤ 9 → 100000000 ≤ p 2 0 40 → exec .setPulse s = .next (s.after
          ((counted ((d.vitChange (.setPulse (p 1 8 4) (p 1 12 12) (p 2 0 40))).vitLog 6 true (w 1).toNat (w 2).toNat)).sealAnswered v 0 0 0 [])))) ∧
      (v = 6 → ∀ ns,
        let ref : Int := (p 2 0 48 * 1000000000 + p 3 0 32 : Nat)
        let diff := sat32 (ref - (d.vit.obsIdeal / 65536 + ns : Nat))
        exec (.clockCheck ns) s = .next (s.after ((counted (d.vitLog 8 true diff (p 2 0 48))).sealAnswered v 0 0 diff []))) ∧
      (v = 7 →
        let kgen := (d.f F.VIT_ID_KGEN + 1) % 256
        let key := d.vit.keyNo + 1
        let e := d.set F.VIT_ID_KGEN kgen
        let e : Dev := { e with vit := { e.vit with keyNo := key, readSeq := (d.vit.readSeq + 1) % 2 ^ 32 } }
        exec .keyRotate s = .next (s.after
          ((counted (e.vitLog 9 true kgen (ofLe ((beBytes 32 (vitPub key).1).take 8)))).sealAnswered v 0 0 0
            (vitSign d.vit.keyNo (head 7 tod 0 0 ++ vitIdentWords kgen key)))))) ∧
    (v = 5 → d.f F.VIT_SEAL_OPEN ≠ 0 →
      (d.vit.log = [] → exec .archiveClear s = .next (s.after (bad 5))) ∧
      ∀ old new mid, d.vit.log = mid ++ [new] → d.vit.log.head? = some old →
        let first := wf old 0 0 32
        let last := wf new 0 0 32
        let chain := ofBe (wordOctets [w 2, w 3, w 4, w 5])
        (p 1 32 32 ≠ last ∨ chain ≠ d.vit.chain → exec .archiveClear s = .next (s.after (bad 5))) ∧
        (p 1 32 32 = last → chain = d.vit.chain →
          let body := head 5 tod 0 0 ++ [pk [(first, 0), (last, 32)], pk [(d.vit.log.length % 4096, 0), (d.vit.ovf, 16)]] ++
            be256 d.vit.chain ++ zeros
          let e : Dev := { d with vit := { d.vit with
            readSeq := (d.vit.readSeq + 1) % 2 ^ 32, log := [], ovf := 0, chain := 0, accts := clearFaulted d.vit.accts } }
          exec .archiveClear s = .next (s.after
            ((counted (e.vitLog 7 true (first + last * 2 ^ 32) (ofLe ((beBytes 32 d.vit.chain).take 8)))).sealAnswered v 0 0 0 (sig body))))) ∧
    (v = 0x20 →
      let a := p 1 8 12
      let c := d.vitAcct a
      let nds := (d.listed F.VIT_BIND_DS_VALID).countP (fun q => d.f F.VIT_BIND_DS_ACCT q.1 == a)
      let nus := (d.listed F.VIT_BIND_US_VALID).countP (fun q => d.f F.VIT_BIND_US_ACCT q.1 == a)
      exec .readAccount s = .next (s.after
        (d.vitReadout.sealAnswered v 0 0 0 (sig (head 3 (tod + 8 * b2n c.faulted) a (p 1 32 32) ++ vitAcctWords c ++
        [pk [(nds, 0), (nus, 16), (b2n c.faulted, 29)], 0, 0, 0, 0]))))) ∧
    (v = 0x21 → exec .readTotals s = .next (s.after (d.vitReadout.sealAnswered v 0 0 0
      (sig (head 4 (tod + 8 * b2n (d.vit.accts.any (fun q => q.2.faulted))) 0 (p 1 32 32) ++
      [0, pk [(d.f F.VIT_CFG_LEN, 0), (d.vit.lseq, 32)]] ++ vitTotalWords d.vit.totals ++ [0, 0, 0, 0] ++ zeros))))) ∧
    (v = 0x26 → exec .readIdent s =
      .next (s.after (d.vitReadout.sealAnswered v 0 0 0 (sig (head 6 tod 0 (p 1 32 32) ++ vitIdentWords
        ((d.f F.VIT_ID_KGEN + 256 - (d.vit.keyNo - d.vit.signKey) % 256) % 256) d.vit.signKey))))) ∧
    (v = 0x22 →
      let held := d.vit.buffer.dropWhile (fun r => r.seq != p 1 32 32)
      let n := p 1 8 8
      (n = 0 ∨ 10 < n → exec .readIntervals s = .next (s.after (bad 2))) ∧
      (1 ≤ n → n ≤ 10 → held = [] → exec .readIntervals s = .next (s.after (bad 4))) ∧
      (1 ≤ n → n ≤ 10 → held ≠ [] → exec .readIntervals s = .next (s.after (d.sealAnswered v 0 0 0 ((held.take n).flatMap (fun r => r.words)))))) ∧
    (v = 0x23 →
      let keep := d.vit.buffer.filter (fun r => (p 1 32 32 + 2 ^ 32 - r.seq) % 2 ^ 32 ≥ 2 ^ 31)
      let kept := fun r : VitRec => decide ((p 1 32 32 + 2 ^ 32 - r.seq) % 2 ^ 32 ≥ 2 ^ 31)
      let stays := match d.vit.waiting, d.vit.buffer.getLast? with
        | some (false, _), _ => true
        | _, some r => kept r
        | _, none => true
      let waits := match d.vit.waiting with
        | some (true, r) => some (stays, r)
        | x => x
      exec .ackIntervals s = .next (s.after ((({ d with vit := { d.vit with
        buffer := keep, waiting := waits, gapOpen := d.vit.gapOpen && stays } } : Dev).level 1510 (keep.length ≥ 3072)).sealAnswered v 0 0 0 []))) ∧
    (v = 0x24 →
      let a := p 1 8 12
      let n := p 1 20 8
      (n = 0 ∨ 85 < n ∨ 4096 < a + n → exec .readSnapshot s = .next (s.after (bad 2))) ∧
      (1 ≤ n → n ≤ 85 → a + n ≤ 4096 →
        (d.vit.snapshot = none → exec .readSnapshot s = .next (s.after (bad 4))) ∧
        ∀ q m, d.vit.snapshot = some (q, m) → exec .readSnapshot s =
          .next (s.after (d.sealAnswered v 0 0 q ((List.range n).flatMap (fun i => vitAcctWords (m.getD (a + i) {}))))))) ∧
    (v = 0x25 →
      let held := d.vit.log.dropWhile (fun e => wf e 0 0 32 != p 1 32 32)
      let n := p 1 8 8
      (n = 0 ∨ 85 < n → exec .readLog s = .next (s.after (bad 2))) ∧
      (1 ≤ n → n ≤ 85 → held = [] → exec .readLog s = .next (s.after (bad 4))) ∧
      (1 ≤ n → n ≤ 85 → held ≠ [] → exec .readLog s = .next (s.after (d.sealAnswered v 0 0 0 (held.take n).flatten)))) ∧
    (¬ (1 ≤ v ∧ v ≤ 7) → ¬ (0x20 ≤ v ∧ v ≤ 0x26) → exec .vcmdUnknown s = .next (s.after (bad 1)))

/-- R384, R389, R390, R400 and R401. -/
def Obligations.VitrineLife : Prop :=
  (∀ (r : VitRec) (s : State),
    let signed : VitRec := { r with words := vitSign s.dev.vit.signKey r.words }
    let put := fun buf => (({ s.dev with vit := { s.dev.vit with waiting := none, buffer := buf } } : Dev).raise 1504)
    (s.dev.vit.waiting = some (true, r) →
      let buf := s.dev.vit.buffer.dropLast ++ [signed]
      exec .intervalRecordSigned s = .next (s.after ((put buf).level 1510 (buf.length ≥ 3072)))) ∧
    (s.dev.vit.waiting = some (false, r) →
      let buf := s.dev.vit.buffer ++ [signed]
      (r.gap = false → exec .intervalRecordSigned s = .next (s.after ((put buf).level 1510 (buf.length ≥ 3072)))) ∧
      (r.gap = true → exec .intervalRecordSigned s = .next (s.after (((put buf).raise 1505).level 1510 (buf.length ≥ 3072)))))) ∧
  (∀ s : State,
    let d := s.dev.wake 5
    let d : Dev := { d with pins := { d.pins with presence := false } }
    let e := d.set F.VIT_SEAL_PRESENT 1
    let o := (e.set F.VIT_SEAL_OPEN 1).set F.VIT_SEAL_REMAIN 600
    let o : Dev := { o with vit := { o.vit with sealTicks := 4800000, sealCmds := 0 } }
    (d.f F.ID_INTEG_PRESENCE_WIRED = 0 → exec .sealOpen s = .next (s.after d)) ∧
    (d.f F.ID_INTEG_PRESENCE_WIRED ≠ 0 → e.vit.mustRelease = true ∨ e.f F.VIT_SEAL_OPEN ≠ 0 → exec .sealOpen s = .next (s.after e)) ∧
    (d.f F.ID_INTEG_PRESENCE_WIRED ≠ 0 → e.vit.mustRelease = false → e.f F.VIT_SEAL_OPEN = 0 →
      exec .sealOpen s = .next (s.after ((o.vitLog 1 false 0 0).raise 1506)))) ∧
  (∀ s : State,
    let shut : Dev → Nat → Dev := fun d c =>
      ((((d.set F.VIT_SEAL_OPEN 0).set F.VIT_SEAL_LAST_CAUSE c).set F.VIT_SEAL_REMAIN 0).vitLog 2 false c d.vit.sealCmds).raise 1506
    let d : Dev := { s.dev with pins := { s.dev.pins with presence := true }, vit := { s.dev.vit with mustRelease := false } }
    let d := d.set F.VIT_SEAL_PRESENT 0
    let e := shut s.dev 2
    (d.f F.VIT_SEAL_OPEN ≠ 0 → exec .sealClose s = .next (s.after (shut d 1))) ∧
    (d.f F.VIT_SEAL_OPEN = 0 → exec .sealClose s = .next (s.after d)) ∧
    (s.dev.f F.VIT_SEAL_OPEN ≠ 0 → exec .sealWindowEnd s = .next (s.after { e with vit := { e.vit with mustRelease := true } }))) ∧
  (∀ s : State,
    (s.dev.pins.vitPulse = false → s.dev.vit.pulseOwed ≠ 0 → s.dev.on 32 = true → exec .vitPulseStart s = .next (s.after
      { s.dev with pins := { s.dev.pins with vitPulse := true }, vit := { s.dev.vit with pulseOwed := s.dev.vit.pulseOwed - 1 } })) ∧
    exec .vitPulseEnd s = .next (s.after { s.dev with pins := { s.dev.pins with vitPulse := false } })) ∧
  (∀ s : State, s.dev.vit.lost = true → s.dev.on 32 = true →
    let v := s.dev.vit
    let back : Nat → Nat → Nat → VitPart → Dev := fun cause ticks count v' =>
      let d : Dev := { s.dev with vit := { v' with lost := false, obsSeen := cause != 3 } }
      let d := (d.set F.VIT_PWR_LAST_CAUSE cause).set F.VIT_PWR_NV_COPY v'.nvNewest
      (d.vitLog 0x0A false (cause + ticks * 2 ^ 32) count).raise 1508
    let nv := v.nv.getD v.nvNewest none
    (∀ c, nv = some c → c.off = true → exec .vitRestore s = .next (s.after (back 1 0 c.sfc (v.resume c c.accts)))) ∧
    (∀ c a, nv = some c → c.off = false → v.aonCk = some a → exec .vitRestore s = .next (s.after (back 2 0 a.sfc (v.resume a c.accts)))) ∧
    (∀ c, nv = some c → c.off = false → v.aonCk = none → exec .vitRestore s = .next (s.after
      (back 3 0xFFFFFFFF c.sfc { v with accts := c.accts, totals := c.totals, ticks := c.ticks, ivl := { power := true } }))) ∧
    (∀ a, nv = none → v.aonCk = some a → exec .vitRestore s = .next (s.after (back 2 0 a.sfc (v.resume a [])))) ∧
    (nv = none → v.aonCk = none → exec .vitRestore s = .next (s.after (back 3 0xFFFFFFFF 0 { v with ivl := { power := true } })))) ∧
  ∀ s : State, s.dev.pwr.entry = .awaitAvs 4 → s.dev.pins.vitPulse = false → s.dev.pwr.vitVote = true →
    let d := s.dev.vitPlace
    exec .vitOffCheckpoint s = .next (s.after
      { d with vit := { d.vit.writeNv true with lost := true }, pwr := { d.pwr with vitVote := false } })

/-- R348, R351, R445, R446, R449 and R460. -/
def Obligations.TwinPairing : Prop :=
  (∀ (s : State), s.dev.mbHas 0 6 8 →
    let d := s.dev
    let op := bits (d.f F.MBX_AREA_DATA 0 1) 0 4
    let ok := d.mbRespond 0 0 []
    let wired := d.f F.ID_INTEG_TWIN_WIRED ≠ 0
    let st := d.f F.TWN_STAT_STATE
    (∀ i, (op = 1 ∧ i = .twinCtlAttach) ∨ (op = 2 ∧ i = .twinCtlDetach) ∨ (op = 3 ∧ i = .twinCtlSwitchover) → ¬ wired →
      exec i s = .next (s.after (d.mbRespond 0 0x0C []))) ∧
    (∀ i, i = .twinCtlAttach ∨ i = .twinCtlDetach ∨ i = .twinCtlSwitchover → op = 0 ∨ 3 < op → wired → exec i s = .next (s.after (d.mbRespond 0 3 []))) ∧
    (op = 1 → wired → st ≠ 2 → exec .twinCtlAttach s = .next (s.after (d.mbRespond 0 4 []))) ∧
    (op = 1 → wired → st = 2 → exec .twinCtlAttach s = .next (s.after ok.twnAttach)) ∧
    (op = 2 → wired → exec .twinCtlDetach s = .next (s.after ok.twnDetach)) ∧
    (op = 3 → wired →
      (d.mb3Open = false → exec .twinCtlSwitchover s = .next (s.after (d.mbRespond 0 0x0C []))) ∧
      (d.mb3Open = true → st ≠ 5 ∨ d.f F.TWN_STAT_SWITCH_PHASE ≠ 0 → exec .twinCtlSwitchover s = .next (s.after (d.mbRespond 0 4 []))) ∧
      (d.mb3Open = true → st = 5 → d.f F.TWN_STAT_SWITCH_PHASE = 0 → d.twn.mbReq ≠ none → exec .twinCtlSwitchover s = .next (s.after (d.mbRespond 0 6 []))) ∧
      (d.mb3Open = true → st = 5 → d.f F.TWN_STAT_SWITCH_PHASE = 0 → d.twn.mbReq = none →
        let h := d.f F.TWN_CTL_HOLD
        exec .twinCtlSwitchover s =
          .next (s.after (({ ok with twn := { d.twn with hold := h } } : Dev).mb3Request 3 [BitVec.ofNat 64 (h * 2 ^ 16)]))))) ∧
  (∀ (w : RegWr) (s : State), s.dev.passes w.agent 0x1E0000 →
    let was := s.dev.f F.TWN_CTL_EN ≠ 0
    let en := w.merged F.TWN_CTL_EN (s.dev.f F.TWN_CTL_EN) = 1
    let wired := s.dev.f F.ID_INTEG_TWIN_WIRED ≠ 0
    let d := s.dev.putAll ((fldsAt 0x1E0000).filter (fun p => p.1.lo != 0)) w
    let kept := fun v => exec (.twnEnWrite w) s = .next (s.after (((d.setB F.TWN_CTL_EN v).respond .done).accessed s.dev w.agent 0x1E0000))
    let e := d.setB F.TWN_CTL_EN true
    let g := (d.setB F.TWN_CTL_EN false).twnFlush.linkDown
    let g : Dev := { g with twn := { g.twn with sent := none, detected := false, yields := false } }
    s.dev.f F.TWN_CTL_EN ≤ 1 →
    (was → en → kept true) ∧ (¬ was → ¬ en → kept false) ∧ (¬ was → en → ¬ wired → kept false) ∧
    (¬ was → en → wired → e.on 30 = true →
      exec (.twnEnWrite w) s = .next (s.after (((e.linkDown.twnMove 1).roleNote.twinCast.respond .done).accessed s.dev w.agent 0x1E0000))) ∧
    (¬ was → en → wired → e.on 30 = false → exec (.twnEnWrite w) s = .next (s.after ((e.roleNote.twinCast.respond .done).accessed s.dev w.agent 0x1E0000))) ∧
    (was → ¬ en → g.f F.TWN_STAT_STATE ≠ 0 →
      exec (.twnEnWrite w) s = .next (s.after (((g.twnMove 0).roleNote.twinCast.respond .done).accessed s.dev w.agent 0x1E0000))) ∧
    (was → ¬ en → g.f F.TWN_STAT_STATE = 0 → exec (.twnEnWrite w) s = .next (s.after ((g.roleNote.twinCast.respond .done).accessed s.dev w.agent 0x1E0000)))) ∧
  (∀ (w : RegWr) (s : State), s.dev.passes w.agent 0x1E0008 → w.agent = .docent ∨ w.agent = .curator →
    (w.fld F.TWN_CMD_OP = 1 → exec (.twnCmdAttach w) s = .next (s.after ((s.dev.twnAttach.respond .done).accessed s.dev w.agent 0x1E0008))) ∧
    (w.fld F.TWN_CMD_OP = 2 → exec (.twnCmdDetach w) s = .next (s.after ((s.dev.twnDetach.respond .done).accessed s.dev w.agent 0x1E0008))) ∧
    (w.fld F.TWN_CMD_OP = 3 →
      (s.dev.f F.TWN_STAT_STATE = 5 → s.dev.f F.TWN_STAT_SWITCH_PHASE = 0 →
        exec (.twnCmdResync w) s = .next (s.after ((s.dev.startSync.respond .done).accessed s.dev w.agent 0x1E0008))) ∧
      (s.dev.f F.TWN_STAT_STATE ≠ 5 ∨ s.dev.f F.TWN_STAT_SWITCH_PHASE ≠ 0 →
        exec (.twnCmdResync w) s = .next (s.after ((s.dev.respond .done).accessed s.dev w.agent 0x1E0008))))) ∧
  (∀ d : Dev,
    let st := d.f F.TWN_STAT_STATE
    (st = 2 → d.twnAttach = (d.twnMove 3).mb3Request 1 d.helloOwn) ∧ (st ≠ 2 → d.twnAttach = d) ∧
    (st = 4 ∨ st = 5 → d.twnDetach = ((d.twnMove 6).twinCast).mb3Request 5 []) ∧ (st ≠ 4 → st ≠ 5 → d.twnDetach = d)) ∧
  (∀ (ty : Nat) (body : List Word) (s : State), ty < 256 → body.length ≤ 511 → s.dev.docentRuns = true →
    let ends := fun c => exec (.mb3Send ty body) s = .next (s.after { s.dev with twn := { s.dev.twn with mbDone := c } })
    (s.dev.mb3Open = false → ends 0x0C) ∧ (s.dev.mb3Open = true → s.dev.twn.mbReq ≠ none → ends 6) ∧
    (s.dev.mb3Open = true → s.dev.twn.mbReq = none →
      let q := (s.dev.twn.mbSeq + 1) % 65536
      exec (.mb3Send ty body) s = .next (s.after { s.dev with twn := { s.dev.twn with
        mbReq := some ty, mbSeq := q, mbTx := s.dev.twn.mbTx ++ mb3Octets q ty 0 body } }))) ∧
  (∀ (ty : Nat) (s : State), s.dev.twn.mbReq = some ty →
    exec .mb3Timeout s = .next (s.after { s.dev with twn := { s.dev.twn with mbReq := none, mbDone := 0x0E } })) ∧
  (∀ (ty seq : Nat) (body : List Word) (s : State), s.dev.on 30 = true → 2 ≤ s.dev.f F.TWN_STAT_STATE → s.dev.docentRuns = true →
    ty = 0 ∨ 6 < ty →
    let h := ({ s.dev with twn := { s.dev.twn with
      mbIn := BitVec.ofNat 64 (seq % 65536 + ty * 2 ^ 16 + 8 * body.length * 2 ^ 32) :: body } } : Dev).wake 4
    exec (.mbUnknownType 3 ty seq body) s = .next (s.after (h.mb3Answer ty 1 []))) ∧
  (∀ (seq status : Nat) (w1 w2 : Word) (s : State), s.dev.on 30 = true → 2 ≤ s.dev.f F.TWN_STAT_STATE →
    let heard : Nat → List Word → Dev := fun ty body => ({ s.dev with twn := { s.dev.twn with
      mbIn := BitVec.ofNat 64 (seq % 65536 + ty * 2 ^ 16 + status % 256 * 2 ^ 24 + 8 * body.length * 2 ^ 32) :: body } } : Dev).wake 4
    let ans : Nat → List Word → Dev := fun ty body =>
      { heard ty body with twn := { (heard ty body).twn with mbReq := none, mbDone := status % 256 } }
    let st := status % 256
    (s.dev.twn.mbReq = some 6 → exec (.mb3Ping true seq status w1) s = .next (s.after (ans 6 [w1]))) ∧
    (s.dev.twn.mbReq = some 2 → exec (.allocMap true seq status w1) s = .next (s.after (ans 2 [w1]))) ∧
    (s.dev.twn.mbReq = some 1 →
      (st = 0 → exec (.pairHello true seq status w1 w2) s = .next (s.after ((ans 1 [w1, w2]).helloTaken w1 w2))) ∧
      (st = 4 → exec (.pairHello true seq status w1 w2) s = .next (s.after (ans 1 [w1, w2]).helloRefused)) ∧
      (st ≠ 0 → st ≠ 4 → exec (.pairHello true seq status w1 w2) s = .next (s.after (ans 1 [w1, w2])))) ∧
    (s.dev.twn.mbReq = some 3 →
      (st = 0 → exec (.switchPropose true seq status w1) s = .next (s.after ((ans 3 [w1]).switchBegin (ans 3 [w1]).twn.hold))) ∧
      (st ≠ 0 → exec (.switchPropose true seq status w1) s = .next (s.after (ans 3 [w1])))) ∧
    (s.dev.twn.mbReq = some 4 →
      (st = 0 → exec (.switchDone true seq status) s = .next (s.after (ans 4 []).switchEnd)) ∧
      (st ≠ 0 → exec (.switchDone true seq status) s = .next (s.after (ans 4 [])))) ∧
    (s.dev.twn.mbReq = some 5 →
      ((ans 5 []).f F.TWN_STAT_STATE = 6 → exec (.mb3Detach true seq status) s = .next (s.after (ans 5 []).detached)) ∧
      ((ans 5 []).f F.TWN_STAT_STATE ≠ 6 → exec (.mb3Detach true seq status) s = .next (s.after (ans 5 [])))) ∧
    (s.dev.docentRuns = true →
      let h := fun ty => heard ty [w1]
      let o := heard 1 [w1, w2]
      exec (.mb3Ping false seq status w1) s = .next (s.after ((h 6).mb3Answer 6 0 [w1])) ∧
      exec (.allocMap false seq status w1) s = .next (s.after ((h 2).mb3Answer 2 (if (h 2).allocMapped w1 then 0 else 3) [])) ∧
      exec (.pairHello false seq status w1 w2) s = .next (s.after
        (if o.helloFits w1 then (o.mb3Answer 1 0 o.helloOwn).helloTaken w1 w2 else (o.mb3Answer 1 4 []).helloRefused)) ∧
      ((h 3).f F.TWN_STAT_STATE = 5 → exec (.switchPropose false seq status w1) s =
        .next (s.after (((h 3).mb3Answer 3 0 []).switchBegin (bits w1.toNat 16 16)))) ∧
      ((h 3).f F.TWN_STAT_STATE ≠ 5 → exec (.switchPropose false seq status w1) s = .next (s.after ((h 3).mb3Answer 3 4 []))) ∧
      exec (.switchDone false seq status) s = .next (s.after ((heard 4 []).mb3Answer 4 0 []).switchEnd) ∧
      ((heard 5 []).f F.TWN_STAT_STATE = 4 ∨ (heard 5 []).f F.TWN_STAT_STATE = 5 →
        exec (.mb3Detach false seq status) s = .next (s.after ((((heard 5 []).mb3Answer 5 0 []).twnMove 6).detached))) ∧
      ((heard 5 []).f F.TWN_STAT_STATE ≠ 4 → (heard 5 []).f F.TWN_STAT_STATE ≠ 5 →
        exec (.mb3Detach false seq status) s = .next (s.after ((heard 5 []).mb3Answer 5 0 []))))) ∧
  (∀ (d : Dev) (w0 : Word) (l body : List Word) (ty st : Nat), d.twn.mbIn = w0 :: l →
    d.mb3Answer ty st body = { d with twn := { d.twn with mbTx := d.twn.mbTx ++ mb3Octets (w0.toNat % 65536) ty st body } }) ∧
  (∀ d : Dev, d.detached = ((((({ d with twn := { d.twn with
    send := [], bulk := none, bulkEndSeq := none, recv := [], hello := none } } : Dev).set F.TWN_STAT_FO_ARMED 0).set
      F.TWN_MIRROR_PENDING 0).twnMove 2).twinCast)) ∧
  ∀ s : State, s.dev.f F.TWN_STAT_STATE = 6 → exec .detachTimeout s = .next (s.after s.dev.detached)

/-- R440 to R443, R445, R450, R452, R453, R455, R457, R459 and R460. -/
def Obligations.TwinLinkAndMirror : Prop :=
  (∀ s : State, s.dev.on 30 = true →
    let d : Dev := { s.dev with twn := { s.dev.twn with hbBlocks := s.dev.twn.hbBlocks + 1 } }
    d.xUp 8 = true →
    let st := d.f F.TWN_STAT_STATE
    let sends : Dev → Nat → Nat → List Byte → Dev := fun e ty flags c => ({ e with twn := { e.twn with
      sent := some (.framed (tlFrame ty e.twn.bseq flags c)), bseq := (e.twn.bseq + 1) % 65536 } } : Dev).act 12 1
    (st = 1 → d.f F.TWN_LINK_STAT_SYMLOCK ≠ 255 →
      exec .tlBlockTx s = .next (s.after (({ d with twn := { d.twn with sent := some .lock } } : Dev).act 12 1))) ∧
    (st = 1 → d.f F.TWN_LINK_STAT_SYMLOCK = 255 →
      let e := sends d 1 (1 + 2 * b2n d.twn.sawAlive) []
      let e : Dev := { e with twn := { e.twn with sentAck := e.twn.sentAck || d.twn.sawAlive } }
      exec .tlBlockTx s = .next (s.after e.tryAligned)) ∧
    (2 ≤ st →
      (d.twn.bseq % 16 = 0 → exec .tlBlockTx s = .next (s.after (sends d 2 0 d.heartbeat))) ∧
      (d.twn.bseq % 16 ≠ 0 → d.twn.mbTx ≠ [] → exec .tlBlockTx s =
        .next (s.after (sends { d with twn := { d.twn with mbTx := d.twn.mbTx.drop 500 } } 4 0 (d.twn.mbTx.take 500)))) ∧
      (d.twn.bseq % 16 ≠ 0 → d.twn.mbTx = [] →
        let r := Dev.mirTake 64 500 d
        exec .tlBlockTx s = .next (s.after (sends r.2 (if r.1 = [] then 0 else 3) 0 r.1))))) ∧
  (∀ (commas : BitVec 8) (codeOk : Bool) (octets : List Byte) (s : State), s.dev.on 30 = true → s.dev.f F.TWN_STAT_STATE ≠ 0 →
    s.dev.xUp 8 = true →
    let d := s.dev
    let ty := (octets.getD 1 0).toNat
    let seq := (octets.getD 2 0).toNat * 256 + (octets.getD 3 0).toNat
    let valid := octets.length = 512 ∧ commas.getLsbD 0 = true ∧ octets.getD 0 0 = 0xBC ∧ codeOk = true ∧ ty ≤ 4 ∧
      (d.twn.rxNext = none ∨ d.twn.rxNext = some seq)
    let a := d.act 12 1
    let bad : Dev := { a with twn := { d.twn with rxNext := d.twn.rxNext.map (fun n => (n + 1) % 65536) } }
    let n := min 7 (bad.f F.TWN_LINK_STAT_BAD + 1)
    let b := ((bad.count F.TWN_CNT_BAD_HDR).set F.TWN_LINK_STAT_GOOD 0).set F.TWN_LINK_STAT_BAD n
    let good := ({ a with twn := { d.twn with rxNext := some ((seq + 1) % 65536) } } : Dev).tlGood
    let crcOk := ofBe (octets.drop 508) = crc32Octets ((octets.drop 1).take 507)
    (d.f F.TWN_LINK_STAT_SYMLOCK ≠ 255 → exec (.tlBlockRx commas codeOk octets) s = .next (s.after ((d.laneStep commas).act 12 1))) ∧
    (d.f F.TWN_LINK_STAT_SYMLOCK = 255 → octets.length = 512 →
      (¬ valid → b.f F.TWN_LINK_STAT_ALIGNED ≠ 0 → n = 4 → exec (.tlBlockRx commas codeOk octets) s = .next (s.after b.alignLost)) ∧
      (¬ valid → b.f F.TWN_LINK_STAT_ALIGNED = 0 ∨ n ≠ 4 → exec (.tlBlockRx commas codeOk octets) s = .next (s.after b)) ∧
      (valid → ¬ crcOk → ty ≠ 3 → exec (.tlBlockRx commas codeOk octets) s = .next (s.after (good.count F.TWN_CNT2_BAD_BLOCK))) ∧
      (valid → ¬ crcOk → ty = 3 →
        let c := good.count F.TWN_CNT2_BAD_BLOCK
        exec (.tlBlockRx commas codeOk octets) s = .next (s.after { c with twn := { c.twn with rxRec := [] } })) ∧
      (valid → crcOk →
        exec (.tlBlockRx commas codeOk octets) s = .next (s.after (good.tlTake ty (octets.getD 4 0).toNat ((octets.drop 8).take 500)).tryAligned)))) ∧
  (∀ (w0 w1 w2 : Word) (s : State), s.dev.twn.hb = some [w0, w1, w2] →
    let v := w0.toNat
    let d := s.dev.countN F.TWN_CNT_HB_MISS ((s.dev.twn.hbBlocks - 1) / 16)
    let d : Dev := { d with twn := { s.dev.twn with hb := none, hbBlocks := 0, peerState := bits v 5 3 } }
    let d := (((d.set F.TWN_PEER_PEER_SFC (v / 2 ^ 13)).set F.TWN_STAT_PEER_TST (bits v 10 3)).set F.TWN_STAT_PEER_SYNC (bits v 8 2)).set
      F.TWN_STAT_PEER_ROLE (bits v 4 1)
    let d := ((d.set F.TWN_STAT_PEER_DOCENT (bits v 2 1)).set F.TWN_STAT_PEER_VALID 1).set F.TWN_PEER_SN_SN w2.toNat
    let e := ((d.sinkShows (bit v 3) (bits w1.toNat 32 32) (bits v 5 3)).rolesResolve).overlapSeen
    let yields := e.active && e.b F.TWN_CTL_EN && e.f F.TWN_STAT_SWITCH_PHASE == 0 && bit v 4 && bit v 3
    let e : Dev := if yields then { e with twn := { e.twn with yields := true } } else e
    (bit v 4 = true → bits v 8 2 = 0 → e.f F.TWN_CTL_SYNC_TAKEOVER ≠ 0 → exec .heartbeatRx s = .next (s.after (e.detect 1))) ∧
    (bit v 4 = false ∨ bits v 8 2 ≠ 0 ∨ e.f F.TWN_CTL_SYNC_TAKEOVER = 0 → exec .heartbeatRx s = .next (s.after e))) ∧
  (∀ s : State, s.dev.f F.TWN_CTL_EN ≠ 0 → s.dev.on 30 = true → 128 ≤ s.dev.twn.hbBlocks →
    let z : Dev := { s.dev with twn := { s.dev.twn with hbBlocks := 0 } }
    let saw := z.f F.TWN_STAT_PEER_VALID ≠ 0
    let d := (z.countN F.TWN_CNT_HB_MISS 8).set F.TWN_STAT_PEER_VALID 0
    let e := if saw ∧ d.active = true then d.raise 1542 else d
    (e.f F.TWN_CTL_HB_TAKEOVER ≠ 0 → exec .heartbeatTimeout s = .next (s.after (e.detect 2))) ∧
    (e.f F.TWN_CTL_HB_TAKEOVER = 0 → exec .heartbeatTimeout s = .next (s.after e))) ∧
  (∀ s : State, s.dev.twn.hbBlocks < 128 → exec .heartbeatTimeout s = .next (s.after s.dev)) ∧
  (∀ (d : Dev) (how : Nat),
    let open' := d.f F.TWN_STAT_SOURCE = 0 ∧ d.active = false ∧ d.f F.TWN_STAT_FO_ARMED ≠ 0 ∧ d.f F.TWN_STAT_STATE ≠ 4
    let ready := d.tst = 4 ∧ d.f F.TDS_SYNC_STAT_STATE = 2
    let e := d.set F.TWN_STAT_LAST_FO how
    (¬ open' → d.detect how = d) ∧ (open' → ¬ ready → d.detect how = (d.set F.TWN_STAT_LAST_FO 3).raise 1541) ∧
    (open' → ready → d.detect how = { e with twn := { e.twn with detected := true } })) ∧
  (∀ (q : Nat) (m : Mir) (s : State), s.dev.mirHead = some (q, m) →
    let d := s.dev.mirPassed q
    let mine := fun k => s.dev.stgState k = 1 ∧ s.dev.f F.STG_STAT_OWNER k = 6
    (∀ off val, m = .reg off val →
      (mirMask off = 0 → exec .mirrorReg s = .next (s.after d)) ∧
      (mirMask off ≠ 0 →
        (s.dev.twinSet = none → exec .mirrorReg s = .next (s.after s.dev)) ∧
        ∀ k e, s.dev.twinSet = some (k, e) →
          let full := (e.stgSet k).look off = none ∧ stgCap k ≤ (e.stgSet k).length
          (full → exec .mirrorReg s = .next (s.after (e.twinArm k))) ∧
          (¬ full → exec .mirrorReg s = .next (s.after ((e.stage 6 k off (mirMask off) val).mirPassed q))))) ∧
    (m = .changeEnd →
      (mine 0 → exec .mirrorChangeEnd s = .next (s.after (d.twinArm 0))) ∧
      (¬ mine 0 → mine 1 → exec .mirrorChangeEnd s = .next (s.after (d.twinArm 1))) ∧
      (¬ mine 0 → ¬ mine 1 → exec .mirrorChangeEnd s = .next (s.after d))) ∧
    (∀ cmd dst data, m = .tableOp cmd dst data →
      let e := data.zipIdx.foldl (fun d p => d.setI F.CLS_UPD_DATA_DATA p.2 p.1) d
      let r := e.updOp false (cmd % 16) cmd dst
      (r.1 = 0 → exec .mirrorTableOp s = .next (s.after r.2)) ∧ (r.1 ≠ 0 → exec .mirrorTableOp s = .next (s.after r.2.mirrorErr))) ∧
    (∀ a k, m = .commit a → s.dev.accState = 1 → (k = 0 ∧ s.dev.stgState 0 = 0) ∨ (k = 1 ∧ s.dev.stgState 0 ≠ 0 ∧ s.dev.stgState 1 = 0) →
      exec .mirrorCommit s = .next (s.after (((d.stgOpen k 6).stage 6 k accCurOff 4095 a).twinArm k))) ∧
    (∀ b i sl, m = .bucket b i sl → s.dev.on (bankDomain b) = true →
      exec .mirrorBucket s = .next (s.after (d.setSlots (b * 65536 + 8 * i) sl).stashCount)) ∧
    (∀ i sl, m = .stash i sl → s.dev.on 14 = true →
      exec .mirrorStash s = .next (s.after (d.setSlots (stashBase + i / 8 * 8) sl).stashCount)) ∧
    (m = .bulkEnd → s.dev.twinPending = false →
      (d.f F.TWN_STAT_STATE = 4 → d.twn.redo = false → exec .mirrorBulkEnd s = .next (s.after d.nowPaired)) ∧
      (d.f F.TWN_STAT_STATE ≠ 4 ∨ d.twn.redo = true → exec .mirrorBulkEnd s = .next (s.after d))) ∧
    (m = .swap → exec .mirrorSwap s = .next (s.after (d.set F.TWN_STAT_SOURCE 1).twinCast)) ∧
    ∀ a, m = .accession a →
      let e := d.set F.CLS_ACC_CUR_CUR a
      let e : Dev := { e with twn := { e.twn with redo := false } }
      (e.f F.TWN_STAT_STATE = 5 → exec .mirrorAccession s = .next (s.after e.startSync)) ∧
      (e.f F.TWN_STAT_STATE ≠ 5 → exec .mirrorAccession s = .next (s.after e)))
end

