-- ==== Sys2Proof/Laws/Store.lean ====
section
/-! SUPPORT. Laws of sparse stores and of register fields: what a read gives after a write, and that a write keeps the canonical
form. -/

namespace Sys2Proof

/-! Reads of a sparse store after a write. -/

theorem SMap.look_put_same {α : Type} (k : Nat) (v : α) (m : SMap α) : SMap.look k (SMap.put k v m) = some v := by
  induction m with
  | nil => simp [SMap.put, SMap.look]
  | cons p t ih =>
    obtain ⟨k', v'⟩ := p
    simp only [SMap.put]
    split
    · simp [SMap.look]
    · split
      · simp [SMap.look]
      · simp [SMap.look, *]

theorem SMap.look_put_ne {α : Type} {k j : Nat} (h : j ≠ k) (v : α) (m : SMap α) :
    SMap.look j (SMap.put k v m) = SMap.look j m := by
  induction m with
  | nil => simp [SMap.put, SMap.look, Ne.symm h]
  | cons p t ih =>
    obtain ⟨k', v'⟩ := p
    simp only [SMap.put]
    split
    · simp [SMap.look, Ne.symm h]
    · split
      · next e => subst e; simp [SMap.look, Ne.symm h]
      · simp [SMap.look, ih]

theorem SMap.look_del_same {α : Type} (k : Nat) (m : SMap α) : SMap.look k (SMap.del k m) = none := by
  induction m with
  | nil => simp [SMap.del, SMap.look]
  | cons p t ih =>
    obtain ⟨k', v'⟩ := p
    by_cases e : k' = k
    · subst e; simpa [SMap.del] using ih
    · have : SMap.del k ((k', v') :: t) = (k', v') :: SMap.del k t := by simp [SMap.del, e]
      rw [this]; simp [SMap.look, e, ih]

theorem SMap.look_del_ne {α : Type} {k j : Nat} (h : j ≠ k) (m : SMap α) : SMap.look j (SMap.del k m) = SMap.look j m := by
  induction m with
  | nil => simp [SMap.del, SMap.look]
  | cons p t ih =>
    obtain ⟨k', v'⟩ := p
    by_cases e : k' = k
    · subst e
      have : SMap.del k' ((k', v') :: t) = SMap.del k' t := by simp [SMap.del]
      rw [this]; simp [SMap.look, Ne.symm h, ih]
    · have : SMap.del k ((k', v') :: t) = (k', v') :: SMap.del k t := by simp [SMap.del, e]
      rw [this]; simp [SMap.look, ih]

theorem SMap.getD_store_same {α : Type} [DecidableEq α] (dflt : α) (k : Nat) (v : α) (m : SMap α) :
    SMap.getD (SMap.store dflt k v m) k dflt = v := by
  unfold SMap.getD SMap.store
  split
  · next e => simp [SMap.look_del_same, e]
  · simp [SMap.look_put_same]

theorem SMap.getD_store_ne {α : Type} [DecidableEq α] {k j : Nat} (h : j ≠ k) (dflt dflt' : α) (v : α) (m : SMap α) :
    SMap.getD (SMap.store dflt k v m) j dflt' = SMap.getD m j dflt' := by
  unfold SMap.getD SMap.store
  split
  · simp [SMap.look_del_ne h]
  · simp [SMap.look_put_ne h]

/-! The canonical form. -/

theorem SMap.wf_tail {α : Type} {p : Nat × α} {t : SMap α} (h : SMap.wf (p :: t) = true) : SMap.wf t = true := by
  cases t with
  | nil => rfl
  | cons q u => obtain ⟨k, v⟩ := p; obtain ⟨k', v'⟩ := q; simp [SMap.wf] at h; exact h.2

theorem SMap.wf_cons {α : Type} {k : Nat} {v : α} {t : SMap α} (h : SMap.wf t = true)
    (hk : ∀ p ∈ t, k < p.1) : SMap.wf ((k, v) :: t) = true := by
  cases t with
  | nil => rfl
  | cons q u => obtain ⟨k', v'⟩ := q; simp [SMap.wf, h, hk (k', v') (by simp)]

theorem SMap.wf_head {α : Type} {k : Nat} {v : α} {t : SMap α} (h : SMap.wf ((k, v) :: t) = true) : ∀ p ∈ t, k < p.1 := by
  induction t generalizing k v with
  | nil => simp
  | cons q u ih =>
    obtain ⟨k', v'⟩ := q
    simp [SMap.wf] at h
    intro p hp
    cases hp with
    | head => exact h.1
    | tail _ hp => exact Nat.lt_trans h.1 (ih h.2 p hp)

theorem SMap.mem_put {α : Type} {k : Nat} {v : α} {m : SMap α} {p : Nat × α} (h : p ∈ SMap.put k v m) : p = (k, v) ∨ p ∈ m := by
  induction m with
  | nil => simpa [SMap.put] using h
  | cons q t ih =>
    obtain ⟨k', v'⟩ := q
    simp only [SMap.put] at h
    split at h
    · simpa using h
    · split at h
      · rcases List.mem_cons.mp h with h | h
        · exact .inl h
        · exact .inr (List.mem_cons_of_mem _ h)
      · rcases List.mem_cons.mp h with h | h
        · exact .inr (by simp [h])
        · rcases ih h with h | h
          · exact .inl h
          · exact .inr (List.mem_cons_of_mem _ h)

theorem SMap.wf_put {α : Type} (k : Nat) (v : α) {m : SMap α} (h : SMap.wf m = true) : SMap.wf (SMap.put k v m) = true := by
  induction m with
  | nil => rfl
  | cons q t ih =>
    obtain ⟨k', v'⟩ := q
    have hh := SMap.wf_head h
    have ht := SMap.wf_tail h
    simp only [SMap.put]
    split
    · next e =>
      refine SMap.wf_cons h (fun p hp => ?_)
      rcases List.mem_cons.mp hp with hp | hp
      · simpa [hp] using e
      · exact Nat.lt_trans e (hh p hp)
    · split
      · next e => subst e; exact SMap.wf_cons ht hh
      · next e1 e2 =>
        refine SMap.wf_cons (ih ht) (fun p hp => ?_)
        rcases SMap.mem_put hp with hp | hp
        · rw [hp]; exact Nat.lt_of_le_of_ne (Nat.le_of_not_lt e1) e2
        · exact hh p hp

theorem SMap.wf_del {α : Type} (k : Nat) {m : SMap α} (h : SMap.wf m = true) : SMap.wf (SMap.del k m) = true := by
  induction m with
  | nil => rfl
  | cons q t ih =>
    obtain ⟨k', v'⟩ := q
    have hh := SMap.wf_head h
    have ht := ih (SMap.wf_tail h)
    by_cases e : k' = k
    · have : SMap.del k ((k', v') :: t) = SMap.del k t := by simp [SMap.del, e]
      rw [this]; exact ht
    · have : SMap.del k ((k', v') :: t) = (k', v') :: SMap.del k t := by simp [SMap.del, e]
      rw [this]
      exact SMap.wf_cons ht (fun p hp => hh p (List.mem_filter.mp hp).1)

theorem SMap.wf_store {α : Type} [DecidableEq α] (dflt : α) (k : Nat) (v : α) {m : SMap α} (h : SMap.wf m = true) :
    SMap.wf (SMap.store dflt k v m) = true := by
  unfold SMap.store
  split
  · exact SMap.wf_del k h
  · exact SMap.wf_put k v h

namespace Machine

/-! Register fields. -/

theorem Dev.f_setIJ_same (d : Dev) (x : Fld) (i j v : Nat) : (d.setIJ x i j v).f x i j = v % 2 ^ x.w := by
  unfold Dev.f Dev.setIJ
  split <;> simp [SMap.getD_store_same]

theorem Dev.f_setIJ_ne (d : Dev) (x y : Fld) (i j k l v : Nat) (h : y.isAux ≠ x.isAux ∨ y.key k l ≠ x.key i j) :
    (d.setIJ x i j v).f y k l = d.f y k l := by
  unfold Dev.f Dev.setIJ
  by_cases hx : x.isAux <;> by_cases hy : y.isAux <;> simp [hx, hy] at h ⊢
  · rw [SMap.getD_store_ne h]
  · rw [SMap.getD_store_ne h]

@[simp] theorem Dev.f_set_same (d : Dev) (x : Fld) (v : Nat) : (d.set x v).f x = v % 2 ^ x.w := Dev.f_setIJ_same d x 0 0 v
@[simp] theorem Dev.f_setI_same (d : Dev) (x : Fld) (i v : Nat) : (d.setI x i v).f x i = v % 2 ^ x.w := Dev.f_setIJ_same d x i 0 v

theorem Dev.f_set_ne (d : Dev) (x y : Fld) (v k l : Nat) (h : y.isAux ≠ x.isAux ∨ y.key k l ≠ x.key 0 0) :
    (d.set x v).f y k l = d.f y k l := Dev.f_setIJ_ne d x y 0 0 k l v h
theorem Dev.f_setI_ne (d : Dev) (x y : Fld) (i v k l : Nat) (h : y.isAux ≠ x.isAux ∨ y.key k l ≠ x.key i 0) :
    (d.setI x i v).f y k l = d.f y k l := Dev.f_setIJ_ne d x y i 0 k l v h
theorem Dev.f_setB_ne (d : Dev) (x y : Fld) (b : Bool) (i k l : Nat) (h : y.isAux ≠ x.isAux ∨ y.key k l ≠ x.key i 0) :
    (d.setB x b i).f y k l = d.f y k l := Dev.f_setIJ_ne d x y i 0 k l _ h

/-- The value of a field depends on the file it stands in alone. -/
theorem Dev.f_congr {d e : Dev} (x : Fld) (i j : Nat) (hr : x.isAux = false → e.regs = d.regs) (ha : x.isAux = true → e.aux = d.aux) :
    e.f x i j = d.f x i j := by
  unfold Dev.f
  by_cases h : x.isAux
  · simp [h, ha h]
  · simp only [Bool.not_eq_true] at h; simp [h, hr h]

end Machine
end Sys2Proof
end

