-- ==== Sys2Proof/Laws/State.lean ====
section
/-! SUPPORT. What each shared update of the device leaves as it was: one theorem per operation, its parts as simp lemmas; and what
settling leaves. -/

namespace Sys2Proof.Machine

@[simp] theorem State.run_next (s : State) (g : Dev → Dev) : s.run g = .next { s with dev := (g s.dev).settle } := rfl

/-! Register fields: everything but the two files stands. -/

@[simp] theorem Dev.setIJ_parts (d : Dev) (x : Fld) (i j v : Nat) :
    (d.setIJ x i j v).fab = d.fab ∧ (d.setIJ x i j v).clk = d.clk ∧ (d.setIJ x i j v).ds = d.ds ∧ (d.setIJ x i j v).us = d.us ∧
    (d.setIJ x i j v).term = d.term ∧ (d.setIJ x i j v).cls = d.cls ∧ (d.setIJ x i j v).upm = d.upm ∧ (d.setIJ x i j v).qsc = d.qsc ∧
    (d.setIJ x i j v).hrg = d.hrg ∧ (d.setIJ x i j v).slc = d.slc ∧ (d.setIJ x i j v).evq = d.evq ∧ (d.setIJ x i j v).seq = d.seq ∧
    (d.setIJ x i j v).fw = d.fw ∧ (d.setIJ x i j v).stg = d.stg ∧ (d.setIJ x i j v).vit = d.vit ∧ (d.setIJ x i j v).pwr = d.pwr ∧
    (d.setIJ x i j v).twn = d.twn ∧ (d.setIJ x i j v).obs = d.obs ∧ (d.setIJ x i j v).pins = d.pins ∧ (d.setIJ x i j v).free = d.free := by
  unfold Dev.setIJ; split <;> simp

@[simp] theorem Dev.set_parts (d : Dev) (x : Fld) (v : Nat) :
    (d.set x v).fab = d.fab ∧ (d.set x v).clk = d.clk ∧ (d.set x v).ds = d.ds ∧ (d.set x v).us = d.us ∧
    (d.set x v).term = d.term ∧ (d.set x v).cls = d.cls ∧ (d.set x v).upm = d.upm ∧ (d.set x v).qsc = d.qsc ∧
    (d.set x v).hrg = d.hrg ∧ (d.set x v).slc = d.slc ∧ (d.set x v).evq = d.evq ∧ (d.set x v).seq = d.seq ∧
    (d.set x v).fw = d.fw ∧ (d.set x v).stg = d.stg ∧ (d.set x v).vit = d.vit ∧ (d.set x v).pwr = d.pwr ∧
    (d.set x v).twn = d.twn ∧ (d.set x v).obs = d.obs ∧ (d.set x v).pins = d.pins ∧ (d.set x v).free = d.free := Dev.setIJ_parts d x 0 0 v

@[simp] theorem Dev.setI_parts (d : Dev) (x : Fld) (i v : Nat) :
    (d.setI x i v).fab = d.fab ∧ (d.setI x i v).clk = d.clk ∧ (d.setI x i v).ds = d.ds ∧ (d.setI x i v).us = d.us ∧
    (d.setI x i v).term = d.term ∧ (d.setI x i v).cls = d.cls ∧ (d.setI x i v).upm = d.upm ∧ (d.setI x i v).qsc = d.qsc ∧
    (d.setI x i v).hrg = d.hrg ∧ (d.setI x i v).slc = d.slc ∧ (d.setI x i v).evq = d.evq ∧ (d.setI x i v).seq = d.seq ∧
    (d.setI x i v).fw = d.fw ∧ (d.setI x i v).stg = d.stg ∧ (d.setI x i v).vit = d.vit ∧ (d.setI x i v).pwr = d.pwr ∧
    (d.setI x i v).twn = d.twn ∧ (d.setI x i v).obs = d.obs ∧ (d.setI x i v).pins = d.pins ∧ (d.setI x i v).free = d.free := Dev.setIJ_parts d x i 0 v

@[simp] theorem Dev.setB_parts (d : Dev) (x : Fld) (b : Bool) (i : Nat) :
    (d.setB x b i).fab = d.fab ∧ (d.setB x b i).clk = d.clk ∧ (d.setB x b i).ds = d.ds ∧ (d.setB x b i).us = d.us ∧
    (d.setB x b i).term = d.term ∧ (d.setB x b i).cls = d.cls ∧ (d.setB x b i).upm = d.upm ∧ (d.setB x b i).qsc = d.qsc ∧
    (d.setB x b i).hrg = d.hrg ∧ (d.setB x b i).slc = d.slc ∧ (d.setB x b i).evq = d.evq ∧ (d.setB x b i).seq = d.seq ∧
    (d.setB x b i).fw = d.fw ∧ (d.setB x b i).stg = d.stg ∧ (d.setB x b i).vit = d.vit ∧ (d.setB x b i).pwr = d.pwr ∧
    (d.setB x b i).twn = d.twn ∧ (d.setB x b i).obs = d.obs ∧ (d.setB x b i).pins = d.pins ∧ (d.setB x b i).free = d.free := Dev.setIJ_parts d x i 0 _

@[simp] theorem Dev.countIJ_parts (d : Dev) (x : Fld) (i j n : Nat) :
    (d.countIJ x i j n).fab = d.fab ∧ (d.countIJ x i j n).clk = d.clk ∧ (d.countIJ x i j n).ds = d.ds ∧ (d.countIJ x i j n).us = d.us ∧
    (d.countIJ x i j n).term = d.term ∧ (d.countIJ x i j n).cls = d.cls ∧ (d.countIJ x i j n).upm = d.upm ∧ (d.countIJ x i j n).qsc = d.qsc ∧
    (d.countIJ x i j n).hrg = d.hrg ∧ (d.countIJ x i j n).slc = d.slc ∧ (d.countIJ x i j n).evq = d.evq ∧ (d.countIJ x i j n).seq = d.seq ∧
    (d.countIJ x i j n).fw = d.fw ∧ (d.countIJ x i j n).stg = d.stg ∧ (d.countIJ x i j n).vit = d.vit ∧ (d.countIJ x i j n).pwr = d.pwr ∧
    (d.countIJ x i j n).twn = d.twn ∧ (d.countIJ x i j n).obs = d.obs ∧ (d.countIJ x i j n).pins = d.pins ∧ (d.countIJ x i j n).free = d.free := Dev.setIJ_parts d x i j _

@[simp] theorem Dev.count_parts (d : Dev) (x : Fld) (i : Nat) :
    (d.count x i).fab = d.fab ∧ (d.count x i).clk = d.clk ∧ (d.count x i).ds = d.ds ∧ (d.count x i).us = d.us ∧
    (d.count x i).term = d.term ∧ (d.count x i).cls = d.cls ∧ (d.count x i).upm = d.upm ∧ (d.count x i).qsc = d.qsc ∧
    (d.count x i).hrg = d.hrg ∧ (d.count x i).slc = d.slc ∧ (d.count x i).evq = d.evq ∧ (d.count x i).seq = d.seq ∧
    (d.count x i).fw = d.fw ∧ (d.count x i).stg = d.stg ∧ (d.count x i).vit = d.vit ∧ (d.count x i).pwr = d.pwr ∧
    (d.count x i).twn = d.twn ∧ (d.count x i).obs = d.obs ∧ (d.count x i).pins = d.pins ∧ (d.count x i).free = d.free := Dev.setIJ_parts d x i 0 _

@[simp] theorem Dev.countN_parts (d : Dev) (x : Fld) (n i : Nat) :
    (d.countN x n i).fab = d.fab ∧ (d.countN x n i).clk = d.clk ∧ (d.countN x n i).ds = d.ds ∧ (d.countN x n i).us = d.us ∧
    (d.countN x n i).term = d.term ∧ (d.countN x n i).cls = d.cls ∧ (d.countN x n i).upm = d.upm ∧ (d.countN x n i).qsc = d.qsc ∧
    (d.countN x n i).hrg = d.hrg ∧ (d.countN x n i).slc = d.slc ∧ (d.countN x n i).evq = d.evq ∧ (d.countN x n i).seq = d.seq ∧
    (d.countN x n i).fw = d.fw ∧ (d.countN x n i).stg = d.stg ∧ (d.countN x n i).vit = d.vit ∧ (d.countN x n i).pwr = d.pwr ∧
    (d.countN x n i).twn = d.twn ∧ (d.countN x n i).obs = d.obs ∧ (d.countN x n i).pins = d.pins ∧ (d.countN x n i).free = d.free := Dev.setIJ_parts d x i 0 _

/-- A field of the main file leaves the power and event file as it was, and the other way round. -/
theorem Dev.setIJ_aux {x : Fld} (h : x.isAux = false) (d : Dev) (i j v : Nat) : (d.setIJ x i j v).aux = d.aux := by
  simp [Dev.setIJ, h]
theorem Dev.setIJ_regs {x : Fld} (h : x.isAux = true) (d : Dev) (i j v : Nat) : (d.setIJ x i j v).regs = d.regs := by
  simp [Dev.setIJ, h]

@[simp] theorem Dev.setB_wake_regs (d : Dev) (s v : Nat) : (d.setI F.EVQ_SRC_ARMED s v).regs = d.regs := Dev.setIJ_regs rfl d s 0 v
@[simp] theorem Dev.setB_state_regs (d : Dev) (s : Nat) (b : Bool) : (d.setB F.EVQ_SRC_STATE b s).regs = d.regs :=
  Dev.setIJ_regs rfl d s 0 _
@[simp] theorem Dev.setCauses_regs (d : Dev) (v : Nat) : (d.set F.PWR_WAKE_STAT_CAUSES v).regs = d.regs := Dev.setIJ_regs rfl d 0 0 v

/-! Events and wakes. -/

@[simp] theorem Dev.wake_parts (d : Dev) (c : Nat) :
    (d.wake c).regs = d.regs ∧ (d.wake c).fab = d.fab ∧ (d.wake c).clk = d.clk ∧ (d.wake c).ds = d.ds ∧
    (d.wake c).us = d.us ∧ (d.wake c).term = d.term ∧ (d.wake c).cls = d.cls ∧ (d.wake c).upm = d.upm ∧
    (d.wake c).qsc = d.qsc ∧ (d.wake c).hrg = d.hrg ∧ (d.wake c).slc = d.slc ∧ (d.wake c).evq = d.evq ∧
    (d.wake c).seq = d.seq ∧ (d.wake c).fw = d.fw ∧ (d.wake c).stg = d.stg ∧ (d.wake c).vit = d.vit ∧
    (d.wake c).twn = d.twn ∧ (d.wake c).obs = d.obs ∧ (d.wake c).pins = d.pins ∧ (d.wake c).free = d.free := by
  unfold Dev.wake; dsimp only; split
  · simp
  · split <;> simp

@[simp] theorem Dev.capture_parts (d : Dev) (s : Nat) (b : Bool) :
    (d.capture s b).regs = d.regs ∧ (d.capture s b).fab = d.fab ∧ (d.capture s b).clk = d.clk ∧ (d.capture s b).ds = d.ds ∧
    (d.capture s b).us = d.us ∧ (d.capture s b).term = d.term ∧ (d.capture s b).cls = d.cls ∧ (d.capture s b).upm = d.upm ∧
    (d.capture s b).qsc = d.qsc ∧ (d.capture s b).hrg = d.hrg ∧ (d.capture s b).slc = d.slc ∧ (d.capture s b).seq = d.seq ∧
    (d.capture s b).fw = d.fw ∧ (d.capture s b).stg = d.stg ∧ (d.capture s b).vit = d.vit ∧ (d.capture s b).twn = d.twn ∧
    (d.capture s b).obs = d.obs ∧ (d.capture s b).pins = d.pins ∧ (d.capture s b).free = d.free := by
  unfold Dev.capture; dsimp only; split <;> split <;> split <;> simp

@[simp] theorem Dev.slcSaw_parts (d : Dev) (s : Nat) (b : Bool) :
    (d.slcSaw s b).regs = d.regs ∧ (d.slcSaw s b).aux = d.aux ∧ (d.slcSaw s b).fab = d.fab ∧ (d.slcSaw s b).clk = d.clk ∧
    (d.slcSaw s b).ds = d.ds ∧ (d.slcSaw s b).us = d.us ∧ (d.slcSaw s b).term = d.term ∧ (d.slcSaw s b).cls = d.cls ∧
    (d.slcSaw s b).upm = d.upm ∧ (d.slcSaw s b).qsc = d.qsc ∧ (d.slcSaw s b).hrg = d.hrg ∧ (d.slcSaw s b).evq = d.evq ∧
    (d.slcSaw s b).seq = d.seq ∧ (d.slcSaw s b).fw = d.fw ∧ (d.slcSaw s b).stg = d.stg ∧ (d.slcSaw s b).vit = d.vit ∧
    (d.slcSaw s b).pwr = d.pwr ∧ (d.slcSaw s b).twn = d.twn ∧ (d.slcSaw s b).obs = d.obs ∧ (d.slcSaw s b).pins = d.pins ∧
    (d.slcSaw s b).free = d.free := by
  unfold Dev.slcSaw; split <;> simp

@[simp] theorem Dev.raise_parts (d : Dev) (s : Nat) :
    (d.raise s).regs = d.regs ∧ (d.raise s).fab = d.fab ∧ (d.raise s).clk = d.clk ∧ (d.raise s).ds = d.ds ∧
    (d.raise s).us = d.us ∧ (d.raise s).term = d.term ∧ (d.raise s).cls = d.cls ∧ (d.raise s).upm = d.upm ∧
    (d.raise s).qsc = d.qsc ∧ (d.raise s).hrg = d.hrg ∧ (d.raise s).seq = d.seq ∧ (d.raise s).fw = d.fw ∧
    (d.raise s).stg = d.stg ∧ (d.raise s).vit = d.vit ∧ (d.raise s).twn = d.twn ∧ (d.raise s).obs = d.obs ∧
    (d.raise s).pins = d.pins ∧ (d.raise s).free = d.free := by
  unfold Dev.raise; dsimp only; split <;> simp

@[simp] theorem Dev.raiseIf_parts (d : Dev) (c : Bool) (s : Nat) :
    (d.raiseIf c s).regs = d.regs ∧ (d.raiseIf c s).fab = d.fab ∧ (d.raiseIf c s).clk = d.clk ∧ (d.raiseIf c s).ds = d.ds ∧
    (d.raiseIf c s).us = d.us ∧ (d.raiseIf c s).term = d.term ∧ (d.raiseIf c s).cls = d.cls ∧ (d.raiseIf c s).upm = d.upm ∧
    (d.raiseIf c s).qsc = d.qsc ∧ (d.raiseIf c s).hrg = d.hrg ∧ (d.raiseIf c s).seq = d.seq ∧ (d.raiseIf c s).fw = d.fw ∧
    (d.raiseIf c s).stg = d.stg ∧ (d.raiseIf c s).vit = d.vit ∧ (d.raiseIf c s).twn = d.twn ∧ (d.raiseIf c s).obs = d.obs ∧
    (d.raiseIf c s).pins = d.pins ∧ (d.raiseIf c s).free = d.free := by
  unfold Dev.raiseIf; split <;> simp

@[simp] theorem Dev.level_parts (d : Dev) (s : Nat) (b : Bool) :
    (d.level s b).regs = d.regs ∧ (d.level s b).fab = d.fab ∧ (d.level s b).clk = d.clk ∧ (d.level s b).ds = d.ds ∧
    (d.level s b).us = d.us ∧ (d.level s b).term = d.term ∧ (d.level s b).cls = d.cls ∧ (d.level s b).upm = d.upm ∧
    (d.level s b).qsc = d.qsc ∧ (d.level s b).hrg = d.hrg ∧ (d.level s b).seq = d.seq ∧ (d.level s b).fw = d.fw ∧
    (d.level s b).stg = d.stg ∧ (d.level s b).vit = d.vit ∧ (d.level s b).twn = d.twn ∧ (d.level s b).obs = d.obs ∧
    (d.level s b).pins = d.pins ∧ (d.level s b).free = d.free := by
  unfold Dev.level; dsimp only; split <;> simp

/-! Activity and answers. -/

@[simp] theorem Dev.act_parts (d : Dev) (k n : Nat) :
    (d.act k n).regs = d.regs ∧ (d.act k n).aux = d.aux ∧ (d.act k n).fab = d.fab ∧ (d.act k n).clk = d.clk ∧
    (d.act k n).ds = d.ds ∧ (d.act k n).us = d.us ∧ (d.act k n).term = d.term ∧ (d.act k n).cls = d.cls ∧
    (d.act k n).upm = d.upm ∧ (d.act k n).qsc = d.qsc ∧ (d.act k n).hrg = d.hrg ∧ (d.act k n).slc = d.slc ∧
    (d.act k n).evq = d.evq ∧ (d.act k n).seq = d.seq ∧ (d.act k n).fw = d.fw ∧ (d.act k n).stg = d.stg ∧
    (d.act k n).vit = d.vit ∧ (d.act k n).twn = d.twn ∧ (d.act k n).obs = d.obs ∧ (d.act k n).pins = d.pins ∧
    (d.act k n).free = d.free := by simp [Dev.act]

@[simp] theorem Dev.respond_parts (d : Dev) (c : Rsp) (v : Nat) :
    (d.respond c v).regs = d.regs ∧ (d.respond c v).aux = d.aux ∧ (d.respond c v).clk = d.clk ∧ (d.respond c v).ds = d.ds ∧
    (d.respond c v).us = d.us ∧ (d.respond c v).term = d.term ∧ (d.respond c v).cls = d.cls ∧ (d.respond c v).upm = d.upm ∧
    (d.respond c v).qsc = d.qsc ∧ (d.respond c v).hrg = d.hrg ∧ (d.respond c v).slc = d.slc ∧ (d.respond c v).evq = d.evq ∧
    (d.respond c v).seq = d.seq ∧ (d.respond c v).fw = d.fw ∧ (d.respond c v).stg = d.stg ∧ (d.respond c v).vit = d.vit ∧
    (d.respond c v).pwr = d.pwr ∧ (d.respond c v).twn = d.twn ∧ (d.respond c v).obs = d.obs ∧ (d.respond c v).pins = d.pins ∧
    (d.respond c v).free = d.free := by simp [Dev.respond]

end Sys2Proof.Machine
end

