-- ==== Sys2Proof/Laws/Settle.lean ====
section
/-! SUPPORT. What settling leaves: everything but the power and event file, the power and event state, Sluice's view of event
states and the level outputs; the main file too, unless the core PLL stops at the entry to Still or Off. -/

namespace Sys2Proof.Machine

@[simp] theorem setPwrDomVotes_regs (d : Dev) (k v : Nat) : (d.setI F.PWR_DOM_VOTES k v).regs = d.regs := Dev.setIJ_regs rfl d k 0 v
@[simp] theorem set_PWR_DOM_PSTATE_regs (d : Dev) (k v : Nat) : (d.setI F.PWR_DOM_PSTATE k v).regs = d.regs := Dev.setIJ_regs rfl d k 0 v
@[simp] theorem set_PWR_DOM_CNT_ABORT_SRC_regs (d : Dev) (k v : Nat) : (d.setI F.PWR_DOM_CNT_ABORT_SRC k v).regs = d.regs := Dev.setIJ_regs rfl d k 0 v
@[simp] theorem count_PWR_DOM_CNT_ABORTS_regs (d : Dev) (k : Nat) : (d.count F.PWR_DOM_CNT_ABORTS k).regs = d.regs := Dev.setIJ_regs rfl d k 0 _
@[simp] theorem set_PWR_STATE_PREV_regs (d : Dev) (v : Nat) : (d.set F.PWR_STATE_PREV v).regs = d.regs := Dev.setIJ_regs rfl d 0 0 v
@[simp] theorem set_PWR_STATE_STATE_regs (d : Dev) (v : Nat) : (d.set F.PWR_STATE_STATE v).regs = d.regs := Dev.setIJ_regs rfl d 0 0 v
@[simp] theorem set_PWR_STATE_ENTERING_regs (d : Dev) (v : Nat) : (d.set F.PWR_STATE_ENTERING v).regs = d.regs := Dev.setIJ_regs rfl d 0 0 v
@[simp] theorem set_PWR_WATCH_STAT_PHASE_regs (d : Dev) (v : Nat) : (d.set F.PWR_WATCH_STAT_PHASE v).regs = d.regs := Dev.setIJ_regs rfl d 0 0 v
@[simp] theorem set_PWR_CVOTE_VOTE_regs (d : Dev) (v : Nat) : (d.set F.PWR_CVOTE_VOTE v).regs = d.regs := Dev.setIJ_regs rfl d 0 0 v
@[simp] theorem set_PWR_REG_MODE_regs (d : Dev) (v : Nat) : (d.set F.PWR_REG_MODE v).regs = d.regs := Dev.setIJ_regs rfl d 0 0 v
@[simp] theorem set_PWR_DVFS_STAT_TRIM_regs (d : Dev) (v : Nat) : (d.set F.PWR_DVFS_STAT_TRIM v).regs = d.regs := Dev.setIJ_regs rfl d 0 0 v
@[simp] theorem set_PWR_DVFS_STAT_AVS_REQ_regs (d : Dev) (v : Nat) : (d.set F.PWR_DVFS_STAT_AVS_REQ v).regs = d.regs := Dev.setIJ_regs rfl d 0 0 v
@[simp] theorem set_PWR_DVFS_STAT_AVS_ACK_regs (d : Dev) (v : Nat) : (d.set F.PWR_DVFS_STAT_AVS_ACK v).regs = d.regs := Dev.setIJ_regs rfl d 0 0 v

theorem foldl_parts {α β : Type} (g : Dev → α → Dev) (p : Dev → β) (h : ∀ d a, p (g d a) = p d) (l : List α) (d : Dev) :
    p (l.foldl g d) = p d := by
  induction l generalizing d with
  | nil => rfl
  | cons a t ih => simp [ih, h]

@[simp] theorem Dev.evLevelNow_parts (d : Dev) (n : Nat) :
    (d.evLevelNow n).regs = d.regs ∧ (d.evLevelNow n).fab = d.fab ∧ (d.evLevelNow n).clk = d.clk ∧ (d.evLevelNow n).ds = d.ds ∧
    (d.evLevelNow n).us = d.us ∧ (d.evLevelNow n).term = d.term ∧ (d.evLevelNow n).cls = d.cls ∧ (d.evLevelNow n).upm = d.upm ∧
    (d.evLevelNow n).qsc = d.qsc ∧ (d.evLevelNow n).hrg = d.hrg ∧ (d.evLevelNow n).seq = d.seq ∧ (d.evLevelNow n).fw = d.fw ∧
    (d.evLevelNow n).stg = d.stg ∧ (d.evLevelNow n).vit = d.vit ∧ (d.evLevelNow n).twn = d.twn ∧ (d.evLevelNow n).obs = d.obs ∧
    (d.evLevelNow n).free = d.free := by
  unfold Dev.evLevelNow; split <;> simp

@[simp] theorem Dev.evLevelAll_parts (d : Dev) :
    (d.evLevelAll).regs = d.regs ∧ (d.evLevelAll).fab = d.fab ∧ (d.evLevelAll).clk = d.clk ∧ (d.evLevelAll).ds = d.ds ∧
    (d.evLevelAll).us = d.us ∧ (d.evLevelAll).term = d.term ∧ (d.evLevelAll).cls = d.cls ∧ (d.evLevelAll).upm = d.upm ∧
    (d.evLevelAll).qsc = d.qsc ∧ (d.evLevelAll).hrg = d.hrg ∧ (d.evLevelAll).seq = d.seq ∧ (d.evLevelAll).fw = d.fw ∧
    (d.evLevelAll).stg = d.stg ∧ (d.evLevelAll).vit = d.vit ∧ (d.evLevelAll).twn = d.twn ∧ (d.evLevelAll).obs = d.obs ∧
    (d.evLevelAll).free = d.free := by
  unfold Dev.evLevelAll
  exact ⟨foldl_parts _ (·.regs) (by intro d k; simp) _ _,
    foldl_parts _ (·.fab) (by intro d k; simp) _ _,
    foldl_parts _ (·.clk) (by intro d k; simp) _ _,
    foldl_parts _ (·.ds) (by intro d k; simp) _ _,
    foldl_parts _ (·.us) (by intro d k; simp) _ _,
    foldl_parts _ (·.term) (by intro d k; simp) _ _,
    foldl_parts _ (·.cls) (by intro d k; simp) _ _,
    foldl_parts _ (·.upm) (by intro d k; simp) _ _,
    foldl_parts _ (·.qsc) (by intro d k; simp) _ _,
    foldl_parts _ (·.hrg) (by intro d k; simp) _ _,
    foldl_parts _ (·.seq) (by intro d k; simp) _ _,
    foldl_parts _ (·.fw) (by intro d k; simp) _ _,
    foldl_parts _ (·.stg) (by intro d k; simp) _ _,
    foldl_parts _ (·.vit) (by intro d k; simp) _ _,
    foldl_parts _ (·.twn) (by intro d k; simp) _ _,
    foldl_parts _ (·.obs) (by intro d k; simp) _ _,
    foldl_parts _ (·.free) (by intro d k; simp) _ _⟩

@[simp] theorem setB_PWR_REG_MODE_regs (d : Dev) (b : Bool) : (d.setB F.PWR_REG_MODE b).regs = d.regs := Dev.setIJ_regs rfl d 0 0 _

@[simp] theorem Dev.regSettle_parts (d : Dev) :
    (d.regSettle).regs = d.regs ∧ (d.regSettle).fab = d.fab ∧ (d.regSettle).clk = d.clk ∧ (d.regSettle).ds = d.ds ∧
    (d.regSettle).us = d.us ∧ (d.regSettle).term = d.term ∧ (d.regSettle).cls = d.cls ∧ (d.regSettle).upm = d.upm ∧
    (d.regSettle).qsc = d.qsc ∧ (d.regSettle).hrg = d.hrg ∧ (d.regSettle).seq = d.seq ∧ (d.regSettle).fw = d.fw ∧
    (d.regSettle).stg = d.stg ∧ (d.regSettle).vit = d.vit ∧ (d.regSettle).twn = d.twn ∧ (d.regSettle).obs = d.obs ∧
    (d.regSettle).free = d.free := by
  unfold Dev.regSettle; split <;> simp

@[simp] theorem Dev.domainSettle_parts (d : Dev) (k : Nat) :
    (d.domainSettle k).regs = d.regs ∧ (d.domainSettle k).fab = d.fab ∧ (d.domainSettle k).clk = d.clk ∧ (d.domainSettle k).ds = d.ds ∧
    (d.domainSettle k).us = d.us ∧ (d.domainSettle k).term = d.term ∧ (d.domainSettle k).cls = d.cls ∧ (d.domainSettle k).upm = d.upm ∧
    (d.domainSettle k).qsc = d.qsc ∧ (d.domainSettle k).hrg = d.hrg ∧ (d.domainSettle k).seq = d.seq ∧ (d.domainSettle k).fw = d.fw ∧
    (d.domainSettle k).stg = d.stg ∧ (d.domainSettle k).vit = d.vit ∧ (d.domainSettle k).twn = d.twn ∧ (d.domainSettle k).obs = d.obs ∧
    (d.domainSettle k).free = d.free := by
  unfold Dev.domainSettle; dsimp only; split <;> (try split) <;> (try split) <;> simp

@[simp] theorem Dev.domainsSettle_parts (d : Dev) :
    (d.domainsSettle).regs = d.regs ∧ (d.domainsSettle).fab = d.fab ∧ (d.domainsSettle).clk = d.clk ∧ (d.domainsSettle).ds = d.ds ∧
    (d.domainsSettle).us = d.us ∧ (d.domainsSettle).term = d.term ∧ (d.domainsSettle).cls = d.cls ∧ (d.domainsSettle).upm = d.upm ∧
    (d.domainsSettle).qsc = d.qsc ∧ (d.domainsSettle).hrg = d.hrg ∧ (d.domainsSettle).seq = d.seq ∧ (d.domainsSettle).fw = d.fw ∧
    (d.domainsSettle).stg = d.stg ∧ (d.domainsSettle).vit = d.vit ∧ (d.domainsSettle).twn = d.twn ∧ (d.domainsSettle).obs = d.obs ∧
    (d.domainsSettle).free = d.free := ⟨foldl_parts Dev.domainSettle (·.regs) (by intro d k; simp) domains d,
    foldl_parts Dev.domainSettle (·.fab) (by intro d k; simp) domains d,
    foldl_parts Dev.domainSettle (·.clk) (by intro d k; simp) domains d,
    foldl_parts Dev.domainSettle (·.ds) (by intro d k; simp) domains d,
    foldl_parts Dev.domainSettle (·.us) (by intro d k; simp) domains d,
    foldl_parts Dev.domainSettle (·.term) (by intro d k; simp) domains d,
    foldl_parts Dev.domainSettle (·.cls) (by intro d k; simp) domains d,
    foldl_parts Dev.domainSettle (·.upm) (by intro d k; simp) domains d,
    foldl_parts Dev.domainSettle (·.qsc) (by intro d k; simp) domains d,
    foldl_parts Dev.domainSettle (·.hrg) (by intro d k; simp) domains d,
    foldl_parts Dev.domainSettle (·.seq) (by intro d k; simp) domains d,
    foldl_parts Dev.domainSettle (·.fw) (by intro d k; simp) domains d,
    foldl_parts Dev.domainSettle (·.stg) (by intro d k; simp) domains d,
    foldl_parts Dev.domainSettle (·.vit) (by intro d k; simp) domains d,
    foldl_parts Dev.domainSettle (·.twn) (by intro d k; simp) domains d,
    foldl_parts Dev.domainSettle (·.obs) (by intro d k; simp) domains d,
    foldl_parts Dev.domainSettle (·.free) (by intro d k; simp) domains d⟩

@[simp] theorem count_PWR_DOM_CNT_REFUSALS_regs (d : Dev) (k : Nat) : (d.count F.PWR_DOM_CNT_REFUSALS k).regs = d.regs := Dev.setIJ_regs rfl d k 0 _
@[simp] theorem set_PWR_DOM_CNT_REFUSER_regs (d : Dev) (k v : Nat) : (d.setI F.PWR_DOM_CNT_REFUSER k v).regs = d.regs := Dev.setIJ_regs rfl d k 0 v

@[simp] theorem Dev.refusal_parts (d : Dev) (k w : Nat) :
    (d.refusal k w).regs = d.regs ∧ (d.refusal k w).fab = d.fab ∧ (d.refusal k w).clk = d.clk ∧ (d.refusal k w).ds = d.ds ∧
    (d.refusal k w).us = d.us ∧ (d.refusal k w).term = d.term ∧ (d.refusal k w).cls = d.cls ∧ (d.refusal k w).upm = d.upm ∧
    (d.refusal k w).qsc = d.qsc ∧ (d.refusal k w).hrg = d.hrg ∧ (d.refusal k w).seq = d.seq ∧ (d.refusal k w).fw = d.fw ∧
    (d.refusal k w).stg = d.stg ∧ (d.refusal k w).vit = d.vit ∧ (d.refusal k w).twn = d.twn ∧ (d.refusal k w).obs = d.obs ∧
    (d.refusal k w).free = d.free := by
  simp [Dev.refusal]

@[simp] theorem Dev.schedRefusals_parts (d : Dev) :
    (d.schedRefusals).regs = d.regs ∧ (d.schedRefusals).fab = d.fab ∧ (d.schedRefusals).clk = d.clk ∧ (d.schedRefusals).ds = d.ds ∧
    (d.schedRefusals).us = d.us ∧ (d.schedRefusals).term = d.term ∧ (d.schedRefusals).cls = d.cls ∧ (d.schedRefusals).upm = d.upm ∧
    (d.schedRefusals).qsc = d.qsc ∧ (d.schedRefusals).hrg = d.hrg ∧ (d.schedRefusals).seq = d.seq ∧ (d.schedRefusals).fw = d.fw ∧
    (d.schedRefusals).stg = d.stg ∧ (d.schedRefusals).vit = d.vit ∧ (d.schedRefusals).twn = d.twn ∧ (d.schedRefusals).obs = d.obs ∧
    (d.schedRefusals).free = d.free := by
  unfold Dev.schedRefusals
  exact ⟨foldl_parts _ (·.regs) (by intro d k; simp) _ _,
    foldl_parts _ (·.fab) (by intro d k; simp) _ _,
    foldl_parts _ (·.clk) (by intro d k; simp) _ _,
    foldl_parts _ (·.ds) (by intro d k; simp) _ _,
    foldl_parts _ (·.us) (by intro d k; simp) _ _,
    foldl_parts _ (·.term) (by intro d k; simp) _ _,
    foldl_parts _ (·.cls) (by intro d k; simp) _ _,
    foldl_parts _ (·.upm) (by intro d k; simp) _ _,
    foldl_parts _ (·.qsc) (by intro d k; simp) _ _,
    foldl_parts _ (·.hrg) (by intro d k; simp) _ _,
    foldl_parts _ (·.seq) (by intro d k; simp) _ _,
    foldl_parts _ (·.fw) (by intro d k; simp) _ _,
    foldl_parts _ (·.stg) (by intro d k; simp) _ _,
    foldl_parts _ (·.vit) (by intro d k; simp) _ _,
    foldl_parts _ (·.twn) (by intro d k; simp) _ _,
    foldl_parts _ (·.obs) (by intro d k; simp) _ _,
    foldl_parts _ (·.free) (by intro d k; simp) _ _⟩

@[simp] theorem Dev.startupSettle_parts (d : Dev) :
    (d.startupSettle).regs = d.regs ∧ (d.startupSettle).fab = d.fab ∧ (d.startupSettle).clk = d.clk ∧ (d.startupSettle).ds = d.ds ∧
    (d.startupSettle).us = d.us ∧ (d.startupSettle).term = d.term ∧ (d.startupSettle).cls = d.cls ∧ (d.startupSettle).upm = d.upm ∧
    (d.startupSettle).qsc = d.qsc ∧ (d.startupSettle).hrg = d.hrg ∧ (d.startupSettle).seq = d.seq ∧ (d.startupSettle).fw = d.fw ∧
    (d.startupSettle).stg = d.stg ∧ (d.startupSettle).vit = d.vit ∧ (d.startupSettle).twn = d.twn ∧ (d.startupSettle).obs = d.obs ∧
    (d.startupSettle).free = d.free := by
  unfold Dev.startupSettle; split <;> simp

@[simp] theorem Dev.enterPower_parts (d : Dev) (c : Nat) :
    (d.enterPower c).regs = d.regs ∧ (d.enterPower c).fab = d.fab ∧ (d.enterPower c).clk = d.clk ∧ (d.enterPower c).ds = d.ds ∧
    (d.enterPower c).us = d.us ∧ (d.enterPower c).term = d.term ∧ (d.enterPower c).cls = d.cls ∧ (d.enterPower c).upm = d.upm ∧
    (d.enterPower c).qsc = d.qsc ∧ (d.enterPower c).hrg = d.hrg ∧ (d.enterPower c).seq = d.seq ∧ (d.enterPower c).fw = d.fw ∧
    (d.enterPower c).stg = d.stg ∧ (d.enterPower c).vit = d.vit ∧ (d.enterPower c).twn = d.twn ∧ (d.enterPower c).obs = d.obs ∧
    (d.enterPower c).free = d.free := by
  simp [Dev.enterPower]

@[simp] theorem Dev.stateSettle_parts (d : Dev) :
    (d.stateSettle).regs = d.regs ∧ (d.stateSettle).fab = d.fab ∧ (d.stateSettle).clk = d.clk ∧ (d.stateSettle).ds = d.ds ∧
    (d.stateSettle).us = d.us ∧ (d.stateSettle).term = d.term ∧ (d.stateSettle).cls = d.cls ∧ (d.stateSettle).upm = d.upm ∧
    (d.stateSettle).qsc = d.qsc ∧ (d.stateSettle).hrg = d.hrg ∧ (d.stateSettle).seq = d.seq ∧ (d.stateSettle).fw = d.fw ∧
    (d.stateSettle).stg = d.stg ∧ (d.stateSettle).vit = d.vit ∧ (d.stateSettle).twn = d.twn ∧ (d.stateSettle).obs = d.obs ∧
    (d.stateSettle).free = d.free := by
  unfold Dev.stateSettle; dsimp only; repeat' split
  all_goals simp

@[simp] theorem Dev.watchSettle_parts (d : Dev) :
    (d.watchSettle).regs = d.regs ∧ (d.watchSettle).fab = d.fab ∧ (d.watchSettle).clk = d.clk ∧ (d.watchSettle).ds = d.ds ∧
    (d.watchSettle).us = d.us ∧ (d.watchSettle).term = d.term ∧ (d.watchSettle).cls = d.cls ∧ (d.watchSettle).upm = d.upm ∧
    (d.watchSettle).qsc = d.qsc ∧ (d.watchSettle).hrg = d.hrg ∧ (d.watchSettle).seq = d.seq ∧ (d.watchSettle).fw = d.fw ∧
    (d.watchSettle).stg = d.stg ∧ (d.watchSettle).vit = d.vit ∧ (d.watchSettle).twn = d.twn ∧ (d.watchSettle).obs = d.obs ∧
    (d.watchSettle).free = d.free := by
  unfold Dev.watchSettle; dsimp only; split
  · simp
  · split
    · split
      · simp
      · split <;> simp
    · simp

@[simp] theorem Dev.drivePins_parts (d : Dev) :
    (d.drivePins).regs = d.regs ∧ (d.drivePins).aux = d.aux ∧ (d.drivePins).fab = d.fab ∧ (d.drivePins).clk = d.clk ∧
    (d.drivePins).ds = d.ds ∧ (d.drivePins).us = d.us ∧ (d.drivePins).term = d.term ∧ (d.drivePins).cls = d.cls ∧
    (d.drivePins).upm = d.upm ∧ (d.drivePins).qsc = d.qsc ∧ (d.drivePins).hrg = d.hrg ∧ (d.drivePins).slc = d.slc ∧
    (d.drivePins).evq = d.evq ∧ (d.drivePins).seq = d.seq ∧ (d.drivePins).fw = d.fw ∧ (d.drivePins).stg = d.stg ∧
    (d.drivePins).vit = d.vit ∧ (d.drivePins).pwr = d.pwr ∧ (d.drivePins).twn = d.twn ∧ (d.drivePins).obs = d.obs ∧
    (d.drivePins).free = d.free := by
  simp [Dev.drivePins]

theorem Dev.wakeAborts_parts (d : Dev) :
    (d.wakeAborts).regs = d.regs ∧ (d.wakeAborts).fab = d.fab ∧ (d.wakeAborts).clk = d.clk ∧ (d.wakeAborts).ds = d.ds ∧
    (d.wakeAborts).us = d.us ∧ (d.wakeAborts).term = d.term ∧ (d.wakeAborts).cls = d.cls ∧ (d.wakeAborts).upm = d.upm ∧
    (d.wakeAborts).qsc = d.qsc ∧ (d.wakeAborts).hrg = d.hrg ∧ (d.wakeAborts).seq = d.seq ∧ (d.wakeAborts).fw = d.fw ∧
    (d.wakeAborts).stg = d.stg ∧ (d.wakeAborts).vit = d.vit ∧ (d.wakeAborts).twn = d.twn ∧ (d.wakeAborts).obs = d.obs ∧
    (d.wakeAborts).free = d.free := by
  unfold Dev.wakeAborts; split
  · simp
  · next c _ =>
    exact ⟨foldl_parts _ (·.regs) (by intro d k; split <;> simp) domains d,
    foldl_parts _ (·.fab) (by intro d k; split <;> simp) domains d,
    foldl_parts _ (·.clk) (by intro d k; split <;> simp) domains d,
    foldl_parts _ (·.ds) (by intro d k; split <;> simp) domains d,
    foldl_parts _ (·.us) (by intro d k; split <;> simp) domains d,
    foldl_parts _ (·.term) (by intro d k; split <;> simp) domains d,
    foldl_parts _ (·.cls) (by intro d k; split <;> simp) domains d,
    foldl_parts _ (·.upm) (by intro d k; split <;> simp) domains d,
    foldl_parts _ (·.qsc) (by intro d k; split <;> simp) domains d,
    foldl_parts _ (·.hrg) (by intro d k; split <;> simp) domains d,
    foldl_parts _ (·.seq) (by intro d k; split <;> simp) domains d,
    foldl_parts _ (·.fw) (by intro d k; split <;> simp) domains d,
    foldl_parts _ (·.stg) (by intro d k; split <;> simp) domains d,
    foldl_parts _ (·.vit) (by intro d k; split <;> simp) domains d,
    foldl_parts _ (·.twn) (by intro d k; split <;> simp) domains d,
    foldl_parts _ (·.obs) (by intro d k; split <;> simp) domains d,
    foldl_parts _ (·.free) (by intro d k; split <;> simp) domains d⟩

@[simp] theorem Dev.avsRequest_parts (d : Dev) (c : Nat) :
    (d.avsRequest c).regs = d.regs ∧ (d.avsRequest c).fab = d.fab ∧ (d.avsRequest c).clk = d.clk ∧ (d.avsRequest c).ds = d.ds ∧
    (d.avsRequest c).us = d.us ∧ (d.avsRequest c).term = d.term ∧ (d.avsRequest c).cls = d.cls ∧ (d.avsRequest c).upm = d.upm ∧
    (d.avsRequest c).qsc = d.qsc ∧ (d.avsRequest c).hrg = d.hrg ∧ (d.avsRequest c).seq = d.seq ∧ (d.avsRequest c).fw = d.fw ∧
    (d.avsRequest c).stg = d.stg ∧ (d.avsRequest c).vit = d.vit ∧ (d.avsRequest c).twn = d.twn ∧ (d.avsRequest c).obs = d.obs ∧
    (d.avsRequest c).free = d.free := by
  simp [Dev.avsRequest]

@[simp] theorem Dev.pllStop_parts (d : Dev) :
    (d.pllStop).fab = d.fab ∧ (d.pllStop).clk = d.clk ∧ (d.pllStop).ds = d.ds ∧ (d.pllStop).us = d.us ∧
    (d.pllStop).term = d.term ∧ (d.pllStop).cls = d.cls ∧ (d.pllStop).upm = d.upm ∧ (d.pllStop).qsc = d.qsc ∧
    (d.pllStop).hrg = d.hrg ∧ (d.pllStop).slc = d.slc ∧ (d.pllStop).evq = d.evq ∧ (d.pllStop).seq = d.seq ∧
    (d.pllStop).fw = d.fw ∧ (d.pllStop).stg = d.stg ∧ (d.pllStop).vit = d.vit ∧ (d.pllStop).pwr = d.pwr ∧
    (d.pllStop).twn = d.twn ∧ (d.pllStop).obs = d.obs ∧ (d.pllStop).pins = d.pins ∧ (d.pllStop).free = d.free := by
  simp [Dev.pllStop]

@[simp] theorem Dev.entrySettle_parts (d : Dev) :
    (d.entrySettle).fab = d.fab ∧ (d.entrySettle).clk = d.clk ∧ (d.entrySettle).ds = d.ds ∧ (d.entrySettle).us = d.us ∧
    (d.entrySettle).term = d.term ∧ (d.entrySettle).cls = d.cls ∧ (d.entrySettle).upm = d.upm ∧ (d.entrySettle).qsc = d.qsc ∧
    (d.entrySettle).hrg = d.hrg ∧ (d.entrySettle).seq = d.seq ∧ (d.entrySettle).fw = d.fw ∧ (d.entrySettle).stg = d.stg ∧
    (d.entrySettle).vit = d.vit ∧ (d.entrySettle).twn = d.twn ∧ (d.entrySettle).obs = d.obs ∧ (d.entrySettle).free = d.free := by
  have hw := Dev.wakeAborts_parts d
  unfold Dev.entrySettle; dsimp only; split
  · simp
  · split <;> simp
  · split
    · simp
    · split <;> simp
  · split
    · simp
    · simp [hw]

@[simp] theorem Dev.settle_parts (d : Dev) :
    (d.settle).fab = d.fab ∧ (d.settle).clk = d.clk ∧ (d.settle).ds = d.ds ∧ (d.settle).us = d.us ∧
    (d.settle).term = d.term ∧ (d.settle).cls = d.cls ∧ (d.settle).upm = d.upm ∧ (d.settle).qsc = d.qsc ∧
    (d.settle).hrg = d.hrg ∧ (d.settle).seq = d.seq ∧ (d.settle).fw = d.fw ∧ (d.settle).stg = d.stg ∧
    (d.settle).vit = d.vit ∧ (d.settle).twn = d.twn ∧ (d.settle).obs = d.obs ∧ (d.settle).free = d.free := by
  simp [Dev.settle]

/-- Settling leaves the main file as it is unless the core PLL stops on the way to Still or Off. -/
theorem Dev.settle_regs (d : Dev) (h : ∀ t, d.watchSettle.pwr.entry ≠ .dropping t) : d.settle.regs = d.regs := by
  have hw := Dev.wakeAborts_parts d.watchSettle
  have : d.watchSettle.entrySettle.regs = d.watchSettle.regs := by
    unfold Dev.entrySettle; dsimp only; split
    · rfl
    · split <;> simp
    · next t e => exact absurd e (h t)
    · split
      · rfl
      · simp [hw]
  simp [Dev.settle, this]

/-- The Watch controller does not touch an entry. -/
@[simp] theorem Dev.watchSettle_entry (d : Dev) : d.watchSettle.pwr.entry = d.pwr.entry := by
  unfold Dev.watchSettle; dsimp only; split
  · rfl
  · split
    · split
      · rfl
      · split <;> simp
    · rfl

/-- A field of the main file outside CKX_CORE_CTL keeps its value when the device settles. -/
theorem Dev.settle_f (d : Dev) (x : Fld) (i j : Nat) (hx : x.isAux = false) (hk : x.key i j / 64 ≠ 0x10020) :
    d.settle.f x i j = d.f x i j := by
  have h1 : d.settle.f x i j = d.watchSettle.entrySettle.f x i j := Dev.f_congr x i j (by simp [Dev.settle]) (by simp [hx])
  have h2 : d.watchSettle.f x i j = d.f x i j := Dev.f_congr x i j (by simp) (by simp [hx])
  rw [h1, ← h2]
  generalize d.watchSettle = e
  have hw := Dev.wakeAborts_parts e
  have hpll : ∀ e : Dev, e.pllStop.f x i j = e.f x i j := by
    intro e
    have k1 : x.key i j ≠ F.CKX_CORE_CTL_SRC.key 0 0 := by intro h; apply hk; rw [h]; rfl
    have k2 : x.key i j ≠ F.CKX_CORE_CTL_PLL_EN.key 0 0 := by intro h; apply hk; rw [h]; rfl
    have k3 : x.key i j ≠ F.CKX_CORE_CTL_LOCK.key 0 0 := by intro h; apply hk; rw [h]; rfl
    unfold Dev.pllStop
    rw [Dev.f_set_ne _ _ _ _ _ _ (.inr k3), Dev.f_set_ne _ _ _ _ _ _ (.inr k2), Dev.f_set_ne _ _ _ _ _ _ (.inr k1)]
  unfold Dev.entrySettle; dsimp only; split
  · rfl
  · split
    · rfl
    · exact Dev.f_congr x i j (by simp) (by simp [hx])
  · split
    · rfl
    · split
      · exact Dev.f_congr x i j (by simp) (by simp [hx])
      · exact (Dev.f_congr (d := ({ e with pwr := { e.pwr with held := false } } : Dev).pllStop) x i j (by simp)
          (by simp [hx])).trans (hpll _)
  · split
    · rfl
    · exact Dev.f_congr x i j (by simp [hw]) (by simp [hx])

end Sys2Proof.Machine
end

