-- ==== Sys2Proof/Laws/Count.lean ====
section
/-! SUPPORT. What counting leaves: the performance counters change OBS_PMC_CNT, and raise PMC_OVF; nothing else. -/

namespace Sys2Proof.Machine

@[simp] theorem Dev.pmcAdd_parts (d : Dev) (k n : Nat) :
    (d.pmcAdd k n).fab = d.fab ∧ (d.pmcAdd k n).clk = d.clk ∧ (d.pmcAdd k n).ds = d.ds ∧ (d.pmcAdd k n).us = d.us ∧ (d.pmcAdd k
    n).term = d.term ∧ (d.pmcAdd k n).cls = d.cls ∧ (d.pmcAdd k n).upm = d.upm ∧ (d.pmcAdd k n).qsc = d.qsc ∧ (d.pmcAdd k n).hrg =
    d.hrg ∧ (d.pmcAdd k n).seq = d.seq ∧ (d.pmcAdd k n).fw = d.fw ∧ (d.pmcAdd k n).stg = d.stg ∧ (d.pmcAdd k n).vit = d.vit ∧
    (d.pmcAdd k n).twn = d.twn ∧ (d.pmcAdd k n).obs = d.obs ∧ (d.pmcAdd k n).pins = d.pins ∧ (d.pmcAdd k n).free = d.free := by
  simp [Dev.pmcAdd]

@[simp] theorem Dev.pmc_parts (d : Dev) (ev n : Nat) (a : PmcAttr) :
    (d.pmc ev n a).fab = d.fab ∧ (d.pmc ev n a).clk = d.clk ∧ (d.pmc ev n a).ds = d.ds ∧ (d.pmc ev n a).us = d.us ∧ (d.pmc ev n
    a).term = d.term ∧ (d.pmc ev n a).cls = d.cls ∧ (d.pmc ev n a).upm = d.upm ∧ (d.pmc ev n a).qsc = d.qsc ∧ (d.pmc ev n a).hrg =
    d.hrg ∧ (d.pmc ev n a).seq = d.seq ∧ (d.pmc ev n a).fw = d.fw ∧ (d.pmc ev n a).stg = d.stg ∧ (d.pmc ev n a).vit = d.vit ∧ (d.pmc
    ev n a).twn = d.twn ∧ (d.pmc ev n a).obs = d.obs ∧ (d.pmc ev n a).pins = d.pins ∧ (d.pmc ev n a).free = d.free :=
  ⟨foldl_parts _ (·.fab) (by intro d k; split <;> simp) _ _,
    foldl_parts _ (·.clk) (by intro d k; split <;> simp) _ _,
    foldl_parts _ (·.ds) (by intro d k; split <;> simp) _ _,
    foldl_parts _ (·.us) (by intro d k; split <;> simp) _ _,
    foldl_parts _ (·.term) (by intro d k; split <;> simp) _ _,
    foldl_parts _ (·.cls) (by intro d k; split <;> simp) _ _,
    foldl_parts _ (·.upm) (by intro d k; split <;> simp) _ _,
    foldl_parts _ (·.qsc) (by intro d k; split <;> simp) _ _,
    foldl_parts _ (·.hrg) (by intro d k; split <;> simp) _ _,
    foldl_parts _ (·.seq) (by intro d k; split <;> simp) _ _,
    foldl_parts _ (·.fw) (by intro d k; split <;> simp) _ _,
    foldl_parts _ (·.stg) (by intro d k; split <;> simp) _ _,
    foldl_parts _ (·.vit) (by intro d k; split <;> simp) _ _,
    foldl_parts _ (·.twn) (by intro d k; split <;> simp) _ _,
    foldl_parts _ (·.obs) (by intro d k; split <;> simp) _ _,
    foldl_parts _ (·.pins) (by intro d k; split <;> simp) _ _,
    foldl_parts _ (·.free) (by intro d k; split <;> simp) _ _⟩

/-- An access counts, and changes nothing else. -/
@[simp] theorem Dev.accessed_parts (d old : Dev) (a : Agent) (off : Nat) :
    (d.accessed old a off).fab = d.fab ∧ (d.accessed old a off).clk = d.clk ∧ (d.accessed old a off).ds = d.ds ∧ (d.accessed old a
    off).us = d.us ∧ (d.accessed old a off).term = d.term ∧ (d.accessed old a off).cls = d.cls ∧ (d.accessed old a off).upm = d.upm ∧
    (d.accessed old a off).qsc = d.qsc ∧ (d.accessed old a off).hrg = d.hrg ∧ (d.accessed old a off).seq = d.seq ∧ (d.accessed old a
    off).fw = d.fw ∧ (d.accessed old a off).stg = d.stg ∧ (d.accessed old a off).vit = d.vit ∧ (d.accessed old a off).twn = d.twn ∧
    (d.accessed old a off).obs = d.obs ∧ (d.accessed old a off).pins = d.pins ∧ (d.accessed old a off).free = d.free := by
  unfold Dev.accessed; split
  · simp
  · exact ⟨foldl_parts _ (·.fab) (by intro d k; split <;> simp) _ _,
    foldl_parts _ (·.clk) (by intro d k; split <;> simp) _ _,
    foldl_parts _ (·.ds) (by intro d k; split <;> simp) _ _,
    foldl_parts _ (·.us) (by intro d k; split <;> simp) _ _,
    foldl_parts _ (·.term) (by intro d k; split <;> simp) _ _,
    foldl_parts _ (·.cls) (by intro d k; split <;> simp) _ _,
    foldl_parts _ (·.upm) (by intro d k; split <;> simp) _ _,
    foldl_parts _ (·.qsc) (by intro d k; split <;> simp) _ _,
    foldl_parts _ (·.hrg) (by intro d k; split <;> simp) _ _,
    foldl_parts _ (·.seq) (by intro d k; split <;> simp) _ _,
    foldl_parts _ (·.fw) (by intro d k; split <;> simp) _ _,
    foldl_parts _ (·.stg) (by intro d k; split <;> simp) _ _,
    foldl_parts _ (·.vit) (by intro d k; split <;> simp) _ _,
    foldl_parts _ (·.twn) (by intro d k; split <;> simp) _ _,
    foldl_parts _ (·.obs) (by intro d k; split <;> simp) _ _,
    foldl_parts _ (·.pins) (by intro d k; split <;> simp) _ _,
    foldl_parts _ (·.free) (by intro d k; split <;> simp) _ _⟩

/-- Counting writes the counter alone into the main file. -/
theorem Dev.pmcAdd_regs (d : Dev) (k n : Nat) :
    (d.pmcAdd k n).regs = (d.setI F.OBS_PMC_CNT_COUNT k (d.f F.OBS_PMC_CNT_COUNT k + n)).regs := by
  unfold Dev.pmcAdd; exact (Dev.raiseIf_parts _ _ _).1

/-- A field of the main file outside OBS_PMC_CNT is not touched by counting. -/
theorem Dev.pmcAdd_f (d : Dev) (k n : Nat) (x : Fld) (i j : Nat) (hx : x.isAux = false)
    (hk : ∀ k, x.key i j ≠ F.OBS_PMC_CNT_COUNT.key k 0) : (d.pmcAdd k n).f x i j = d.f x i j := by
  have h := (Dev.pmcAdd_regs d k n)
  have e : (d.pmcAdd k n).f x i j = (d.setI F.OBS_PMC_CNT_COUNT k (d.f F.OBS_PMC_CNT_COUNT k + n)).f x i j :=
    Dev.f_congr x i j (fun _ => h) (by simp [hx])
  exact e.trans (Dev.f_setI_ne _ _ _ _ _ _ _ (.inr (hk k)))

theorem Dev.accessed_f (d old : Dev) (a : Agent) (off : Nat) (x : Fld) (i j : Nat) (hx : x.isAux = false)
    (hk : ∀ k, x.key i j ≠ F.OBS_PMC_CNT_COUNT.key k 0) : (d.accessed old a off).f x i j = d.f x i j := by
  unfold Dev.accessed; split
  · rfl
  · exact foldl_parts _ (fun d => d.f x i j) (by intro d k; split <;> simp [Dev.pmcAdd_f, hx, hk]) _ _

end Sys2Proof.Machine
end

