-- ==== Sys2Proof/Laws/Exec.lean ====
section
/-! SUPPORT. Every meaning is an effect on the device, settled, with the queue as it is: one equation per command, and the theorem over
all of them. A proof about a command starts with its equation, never by unfolding `exec`. -/

namespace Sys2Proof.Machine

/-- A command whose effect gives the device e answers the state after e. -/
theorem run_after (s : State) (g : Dev → Dev) (e : Dev) (h : g s.dev = e) :
    s.run g = .next { s with dev := e.settle } := by
  subst h; rfl

/-- An agent that is not denied finds the core awake. -/
theorem not_asleep {d : Dev} {a : Agent} (h : d.denied a = false) : d.asleep = false := by
  unfold Dev.denied at h; unfold Dev.asleep
  revert h; cases d.inStill || d.inOff <;> simp

/-- A register write that passes the gates has its own effect and is answered DONE. -/
theorem gated_passes (d : Dev) (off : Nat) (w : RegWr) (g : Dev → Dev) (h : d.passes w.agent off) :
    d.gated off w g = ((g d).respond .done).accessed d w.agent off := by
  obtain ⟨h1, h2, h3, h4⟩ := h
  unfold Dev.gated; simp only [h1, h2, h3, h4, not_asleep h3, Bool.not_true, Bool.false_eq_true, if_false]

theorem exec_tick (cyc dt lag : Nat) (sens : List (Option Int)) (s : State) :
    exec (.tick cyc dt lag sens) s = s.run (Dev.tick cyc dt lag sens) := rfl
theorem exec_pllEnable (w : RegWr) (s : State) :
    exec (.pllEnable w) s = s.run (fun d => if w.fld F.CKX_CORE_CTL_PLL_EN == 1 && w.fld F.CKX_CORE_CTL_SRC == 0 then d.gated 0x10020 w (Dev.writeCoreCtl w) else d) := rfl
theorem exec_pllLock (s : State) :
    exec (.pllLock) s = s.run (fun d => if d.b F.CKX_CORE_CTL_PLL_EN then d.set F.CKX_CORE_CTL_LOCK 1 else d) := rfl
theorem exec_coreClockSwitch (w : RegWr) (s : State) :
    exec (.coreClockSwitch w) s = s.run (fun d => if w.fld F.CKX_CORE_CTL_SRC == 1 then d.gated 0x10020 w (Dev.writeCoreCtl w) else d) := rfl
theorem exec_clkStop (c xid words : Nat) (s : State) :
    exec (.clkStop c xid words) s = s.run (fun d => if c == 0 then d else d.clkStop c xid words) := rfl
theorem exec_clkReturn (c xid words : Nat) (s : State) :
    exec (.clkReturn c xid words) s = s.run (fun d => if c == 0 then d else d.clkReturn c xid words) := rfl
theorem exec_refclkAbsent (s : State) :
    exec (.refclkAbsent) s = s.run (fun d => (d.clkStop 0 0 0).aonSource true) := rfl
theorem exec_refclkRestored (s : State) :
    exec (.refclkRestored) s = s.run (fun d => (d.clkReturn 0 0 0).aonSource false) := rfl
theorem exec_peerReset (x words : Nat) (s : State) :
    exec (.peerReset x words) s = s.run (Dev.crossReset x words) := rfl
theorem exec_crossingAlive (x words : Nat) (s : State) :
    exec (.crossingAlive x words) s = s.run (Dev.crossAlive x words) := rfl
theorem exec_crossingAck (x : Nat) (s : State) :
    exec (.crossingAck x) s = s.run (Dev.crossUp x) := rfl
theorem exec_syncBlockCheck (pos at' : Nat) (block : BitVec 256) (invalid : List Nat) (los : Bool) (s : State) :
    exec (.syncBlockCheck pos at' block invalid los) s = s.run (fun d => d.syncCheck pos at' block invalid los) := rfl
theorem exec_rxEnWrite (w : RegWr) (s : State) :
    exec (.rxEnWrite w) s = s.run (fun d => d.gated 0x40000 w (Dev.writeTdsCtl w)) := rfl
theorem exec_codewordArrival (k : Nat) (raw : BitVec 18432) (invalid : List Nat) (s : State) :
    exec (.codewordArrival k raw invalid) s = s.run (fun d => d.cwArrival k raw invalid) := rfl
theorem exec_codewordDecoded (slice iters : Nat) (word : BitVec 18432) (s : State) :
    exec (.codewordDecoded slice iters word) s = s.run (fun d => d.cwDecoded slice iters word) := rfl
theorem exec_headerDecode (s : State) :
    exec (.headerDecode) s = s.run Dev.headerDecode := rfl
theorem exec_unknownMessage (s : State) :
    exec (.unknownMessage) s = s.run Dev.unknownMsg := rfl
theorem exec_assignId (s : State) :
    exec (.assignId) s = s.run (fun d => d.docMsg 1 Dev.msgAssignId) := rfl
theorem exec_rangingReq (s : State) :
    exec (.rangingReq) s = s.run (fun d => d.seqMsg 2 Dev.msgRangingReq) := rfl
theorem exec_rangingTime (s : State) :
    exec (.rangingTime) s = s.run (fun d => d.seqMsg 3 Dev.msgRangingTime) := rfl
theorem exec_profile (s : State) :
    exec (.profile) s = s.run (fun d => d.docMsg 4 Dev.msgProfile) := rfl
theorem exec_keyReq (s : State) :
    exec (.keyReq) s = s.run (fun d => d.docMsg 5 Dev.msgKeyReq) := rfl
theorem exec_keySwitch (s : State) :
    exec (.keySwitch) s = s.run (fun d => d.seqMsg 6 Dev.msgKeySwitch) := rfl
theorem exec_sleepAllow (s : State) :
    exec (.sleepAllow) s = s.run (fun d => d.docMsg 7 Dev.msgSleepAllow) := rfl
theorem exec_wake (s : State) :
    exec (.wake) s = s.run (fun d => d.docMsg 8 Dev.msgWake) := rfl
theorem exec_timeOfDay (s : State) :
    exec (.timeOfDay) s = s.run (fun d => d.seqMsg 9 Dev.msgTimeOfDay) := rfl
theorem exec_deactivate (s : State) :
    exec (.deactivate) s = s.run (fun d => d.docMsg 0x0A Dev.msgDeactivate) := rfl
theorem exec_halt (s : State) :
    exec (.halt) s = s.run (fun d => d.seqMsg 0x0B Dev.msgHalt) := rfl
theorem exec_ack (s : State) :
    exec (.ack) s = s.run (fun d => d.docMsg 0x0C Dev.msgAck) := rfl
theorem exec_encapHeader (up : List Upset) (s : State) :
    exec (.encapHeader up) s = s.run (fun d => (d.containAll up).encapStep (up.contains .obsParity)) := rfl
theorem exec_reassemblyTimeout (n : Nat) (s : State) :
    exec (.reassemblyTimeout n) s = s.run (fun d => d.rsmTimeout n) := rfl
theorem exec_tdsFltWrite (n : Nat) (w : RegWr) (s : State) :
    exec (.tdsFltWrite n w) s = s.run (fun d => if n ≥ 4096 then d else d.gated (0x48000 + 8 * n) w (Dev.writeFlt n w)) := rfl
theorem exec_seqFrameRoutine (l : List SeqSeg) (s : State) :
    exec (.seqFrameRoutine l) s = s.run (fun d => l.foldl Dev.seqStretch d) := rfl
theorem exec_seqOverrun (s : State) :
    exec (.seqOverrun) s = s.run (fun d => if d.seqBusy && d.on 2 then (d.seqCharge (d.f F.SEQ_STAT_DUTY) (d.seqLimit - d.seq.cycles)).seqOverrun else d) := rfl
theorem exec_seqPageLate (s : State) :
    exec (.seqPageLate) s = s.run (fun d => if d.ds.hdrFresh && d.on 2 && 1 ≤ d.f F.SEQ_STAT_STATE && d.f F.SEQ_STAT_STATE ≤ 3 then d.seqLate else d) := rfl
theorem exec_seqRestartRequest (w : RegWr) (s : State) :
    exec (.seqRestartRequest w) s = s.run (fun d => if w.fld F.SEQ_CTL_RESTART == 1 then d.gated 0x160008 w (Dev.writeSeqCtl w) else d) := rfl
theorem exec_seqPatchWrite (w : RegWr) (s : State) :
    exec (.seqPatchWrite w) s = s.run (fun d => d.gated 0x160070 w (Dev.writePatchData 2 w)) := rfl
theorem exec_seqMatchWrite (m : Nat) (w : RegWr) (s : State) :
    exec (.seqMatchWrite m w) s = s.run (fun d => if m ≥ 32 then d else d.gated (0x160100 + 8 * m) w (Dev.writeMatch m w)) := rfl
theorem exec_burstAssembly (up : List Upset) (s : State) :
    exec (.burstAssembly up) s = s.run (fun d => d.burstAssemble up) := rfl
theorem exec_burstStart (s : State) :
    exec (.burstStart) s = s.run Dev.burstStart := rfl
theorem exec_burstEnd (s : State) :
    exec (.burstEnd) s = s.run Dev.burstEnd := rfl
theorem exec_txFaultAssert (s : State) :
    exec (.txFaultAssert) s = s.run Dev.txFault := rfl
theorem exec_txFaultDeassert (s : State) :
    exec (.txFaultDeassert) s = s.run Dev.txFaultEnd := rfl
theorem exec_txInhibitWrite (w : RegWr) (s : State) :
    exec (.txInhibitWrite w) s = s.run (fun d => if bit w.val 2 then d.gated 0x50000 w (Dev.writeTusCtl w) else d) := rfl
theorem exec_gateWrite (w : RegWr) (s : State) :
    exec (.gateWrite w) s = s.run (fun d => d.gated 0x50000 w (Dev.writeTusCtl w)) := rfl
theorem exec_faultClr (w : RegWr) (s : State) :
    exec (.faultClr w) s = s.run (fun d => if bit w.val 4 then d.gated 0x50000 w (Dev.writeTusCtl w) else d) := rfl
theorem exec_txDark (bt : Nat) (s : State) :
    exec (.txDark bt) s = s.run (fun d => d.txDark bt) := rfl
theorem exec_txRogue (bt : Nat) (s : State) :
    exec (.txRogue bt) s = s.run (fun d => d.txRogue bt) := rfl
theorem exec_phySleepRelease (t : Nat) (s : State) :
    exec (.phySleepRelease t) s = s.run (fun d => d.phyRelease t) := rfl
theorem exec_phySleepAssert (t : Nat) (s : State) :
    exec (.phySleepAssert t) s = s.run (fun d => d.phyAssert t) := rfl
theorem exec_phyWakeWrite (w : RegWr) (s : State) :
    exec (.phyWakeWrite w) s = s.run (fun d => d.gated 0x50010 w (Dev.writeTxen w)) := rfl
theorem exec_tusAllocWrite (n : Nat) (w : RegWr) (s : State) :
    exec (.tusAllocWrite n w) s = s.run (fun d => if n ≥ 512 then d else d.gated (0x51000 + 8 * n) w (Dev.writeAlloc n w)) := rfl
theorem exec_activateWrite (w : RegWr) (s : State) :
    exec (.activateWrite w) s = s.run (fun d => d.gated 0x60008 w (Dev.writeTstCtl w)) := rfl
theorem exec_tstCmdAssign (w : RegWr) (s : State) :
    exec (.tstCmdAssign w) s = s.run (Dev.tstCmdRow 1 w) := rfl
theorem exec_tstCmdProfileDone (w : RegWr) (s : State) :
    exec (.tstCmdProfileDone w) s = s.run (Dev.tstCmdRow 2 w) := rfl
theorem exec_tstCmdDeactivate (w : RegWr) (s : State) :
    exec (.tstCmdDeactivate w) s = s.run (Dev.tstCmdRow 3 w) := rfl
theorem exec_rangingTimeout (s : State) :
    exec (.rangingTimeout) s = s.run Dev.rangingTimeout := rfl
theorem exec_intermitTimeout (s : State) :
    exec (.intermitTimeout) s = s.run Dev.intermitTimeout := rfl
theorem exec_keyReportRepeat (s : State) :
    exec (.keyReportRepeat) s = s.run Dev.keyRepeat := rfl
theorem exec_profileArmTimeout (s : State) :
    exec (.profileArmTimeout) s = s.run Dev.profTimeout := rfl
theorem exec_timeAdjWrite (w : RegWr) (s : State) :
    exec (.timeAdjWrite w) s = s.run (fun d => d.gated 0x60068 w (Dev.writeTimeAdj w)) := rfl
theorem exec_todRateWrite (w : RegWr) (s : State) :
    exec (.todRateWrite w) s = s.run (fun d => d.gated 0x60050 w (Dev.writeTodRate w)) := rfl
theorem exec_timeLoRead (a : Agent) (at' : Nat) (s : State) :
    exec (.timeLoRead a at') s = s.run (fun d => d.gatedRead a 0x60058 (Dev.readTimeLo at')) := rfl
theorem exec_ppsOutRise (at' : Nat) (s : State) :
    exec (.ppsOutRise at') s = s.run (fun d => d.ppsRise at') := rfl
theorem exec_ppsOutFall (at' : Nat) (s : State) :
    exec (.ppsOutFall at') s = s.run (fun d => d.ppsFall at') := rfl
theorem exec_ppsInEdge (at' : Nat) (s : State) :
    exec (.ppsInEdge at') s = s.run (fun d => d.ppsEdge at') := rfl
theorem exec_classifyFrame (p at' : Nat) (up : List Upset) (s : State) :
    exec (.classifyFrame p at' up) s = s.run (fun d => d.classify p at' up) := rfl
theorem exec_actionResolve (p : Nat) (s : State) :
    exec (.actionResolve p) s = s.run (fun d => d.resolve p) := rfl
theorem exec_applyAction (p : Nat) (up : List Upset) (s : State) :
    exec (.applyAction p up) s = s.run (fun d => d.applyAction p up) := rfl
theorem exec_clsUpdRead (w : RegWr) (s : State) :
    exec (.clsUpdRead w) s = s.run (Dev.updRow 1 w) := rfl
theorem exec_clsUpdWrite (w : RegWr) (s : State) :
    exec (.clsUpdWrite w) s = s.run (Dev.updRow 2 w) := rfl
theorem exec_clsUpdMove (w : RegWr) (s : State) :
    exec (.clsUpdMove w) s = s.run (Dev.updRow 3 w) := rfl
theorem exec_clsUpdSetvis (w : RegWr) (s : State) :
    exec (.clsUpdSetvis w) s = s.run (Dev.updRow 4 w) := rfl
theorem exec_clsUpdHash (w : RegWr) (s : State) :
    exec (.clsUpdHash w) s = s.run (Dev.updRow 5 w) := rfl
theorem exec_accDrained (s : State) :
    exec (.accDrained) s = s.run Dev.accDrained := rfl
theorem exec_accRetired (s : State) :
    exec (.accRetired) s = s.run Dev.accRetired := rfl
theorem exec_clsInitDone (s : State) :
    exec (.clsInitDone) s = s.run Dev.initDone := rfl
theorem exec_clsPolWrite (n : Nat) (w : RegWr) (s : State) :
    exec (.clsPolWrite n w) s = s.run (fun d => if n ≥ 8192 then d else d.gated (0x90000 + 8 * n) w (Dev.writePol n w)) := rfl
theorem exec_tableScrub (up : List Upset) (s : State) :
    exec (.tableScrub up) s = s.run (fun d => d.scrubStep up) := rfl
theorem exec_upmRxFrame (n : Nat) (words : List PortWord) (s : State) :
    exec (.upmRxFrame n words) s = s.run (fun d => d.rxRow n [] words (fun k => k == .express || k == .unknown)) := rfl
theorem exec_pauseRx (n : Nat) (words : List PortWord) (s : State) :
    exec (.pauseRx n words) s = s.run (fun d => d.rxOpcode n 1 words) := rfl
theorem exec_pfcRx (n : Nat) (words : List PortWord) (s : State) :
    exec (.pfcRx n words) s = s.run (fun d => d.rxOpcode n 0x0101 words) := rfl
theorem exec_pauseTimerExpiry (n i : Nat) (s : State) :
    exec (.pauseTimerExpiry n i) s = s.run (fun d => d.pauseExpire n i) := rfl
theorem exec_preemptFragmentRx (n : Nat) (words : List PortWord) (s : State) :
    exec (.preemptFragmentRx n words) s = s.run (fun d => d.rxRow n [] words (fun k => match k with | .first _ => true | .next _ _ => true | _ => false)) := rfl
theorem exec_verifyMpacketRx (n : Nat) (words : List PortWord) (rdy : List Bool) (s : State) :
    exec (.verifyMpacketRx n words rdy) s = s.run (fun d => d.rxRow n rdy words (· == .verify)) := rfl
theorem exec_respondMpacketRx (n : Nat) (words : List PortWord) (s : State) :
    exec (.respondMpacketRx n words) s = s.run (fun d => d.rxRow n [] words (· == .respond)) := rfl
theorem exec_verifyStart (n : Nat) (rdy : List Bool) (s : State) :
    exec (.verifyStart n rdy) s = s.run (fun d => d.verifyStart n rdy) := rfl
theorem exec_verifyTimeout (n : Nat) (rdy : List Bool) (s : State) :
    exec (.verifyTimeout n rdy) s = s.run (fun d => d.verifyTimeout n rdy) := rfl
theorem exec_upmTxFrame (n edge gap cut : Nat) (rdy : List Bool) (up : List Upset) (s : State) :
    exec (.upmTxFrame n edge gap cut rdy up) s = s.run (fun d => d.txNext n edge gap cut rdy up) := rfl
theorem exec_xoffSend (n : Nat) (rdy : List Bool) (s : State) :
    exec (.xoffSend n rdy) s = s.run (fun d => d.xoffSend n rdy) := rfl
theorem exec_xoffRepeat (n : Nat) (rdy : List Bool) (s : State) :
    exec (.xoffRepeat n rdy) s = s.run (fun d => d.xoffRepeat n rdy) := rfl
theorem exec_xonSend (n : Nat) (rdy : List Bool) (s : State) :
    exec (.xonSend n rdy) s = s.run (fun d => d.xonSend n rdy) := rfl
theorem exec_lpiEntry (n us : Nat) (s : State) :
    exec (.lpiEntry n us) s = s.run (fun d => d.lpiEntry n us) := rfl
theorem exec_rxLpiEntry (n : Nat) (s : State) :
    exec (.rxLpiEntry n) s = s.run (fun d => d.rxLpiEntry n) := rfl
theorem exec_rxLpiExit (n : Nat) (s : State) :
    exec (.rxLpiExit n) s = s.run (fun d => d.rxLpiExit n) := rfl
theorem exec_upmLinkChange (n : Nat) (level : Bool) (s : State) :
    exec (.upmLinkChange n level) s = s.run (fun d => d.linkChange n level) := rfl
theorem exec_upmCfgWrite (n : Nat) (w : RegWr) (s : State) :
    exec (.upmCfgWrite n w) s = s.run (fun d => if n ≥ 4 then d else d.gated (0xA0000 + 0x4000 * n) w (Dev.writeUpmCfg n w)) := rfl
theorem exec_upmFcThrWrite (n : Nat) (w : RegWr) (s : State) :
    exec (.upmFcThrWrite n w) s = s.run (fun d => if n ≥ 4 then d else d.gated (0xA0020 + 0x4000 * n) w (Dev.writeFcThr n w)) := rfl
theorem exec_preEnWrite (n : Nat) (w : RegWr) (s : State) :
    exec (.preEnWrite n w) s = s.run (fun d => if n ≥ 4 then d else d.gated (0xA0030 + 0x4000 * n) w (Dev.writePreCfg n w)) := rfl
theorem exec_qscFlush (w : RegWr) (s : State) :
    exec (.qscFlush w) s = s.run (fun d => d.gated 0xC0010 w (Dev.writeFlush w)) := rfl
theorem exec_spillWriteDone (c num : Nat) (r : Rsp) (s : State) :
    exec (.spillWriteDone c num r) s = s.run (Dev.spillWritten c num r) := rfl
theorem exec_spillFetchStart (c : Nat) (s : State) :
    exec (.spillFetchStart c) s = s.run (fun d => if d.on 26 && d.on 31 then d.fetchStart c else d) := rfl
theorem exec_spillFetchDone (c : Nat) (r : Rsp) (s : State) :
    exec (.spillFetchDone c r) s = s.run (Dev.fetched c r) := rfl
theorem exec_qscPoolCfgWrite (k : Nat) (w : RegWr) (s : State) :
    exec (.qscPoolCfgWrite k w) s = s.run (fun d => if k ≥ 16 then d else d.gated (0xC0200 + 0x10 * k) w (Dev.writePoolCfg k w)) := rfl
theorem exec_pwrPondCfgWrite (w : RegWr) (s : State) :
    exec (.pwrPondCfgWrite w) s = s.run (fun d => d.gated 0x20800 w (Dev.writePondCfg w)) := rfl
theorem exec_hrgDbWq (f : Nat) (w : RegWr) (s : State) :
    exec (.hrgDbWq f w) s = s.run (Dev.doorbellRow f 0 w) := rfl
theorem exec_hrgDbCq (f : Nat) (w : RegWr) (s : State) :
    exec (.hrgDbCq f w) s = s.run (Dev.doorbellRow f 1 w) := rfl
theorem exec_hrgDbAwq (f : Nat) (w : RegWr) (s : State) :
    exec (.hrgDbAwq f w) s = s.run (Dev.doorbellRow f 2 w) := rfl
theorem exec_hrgDbAcq (f : Nat) (w : RegWr) (s : State) :
    exec (.hrgDbAcq f w) s = s.run (Dev.doorbellRow f 3 w) := rfl
theorem exec_hrgFuncRst (f : Nat) (w : RegWr) (s : State) :
    exec (.hrgFuncRst f w) s = s.run (fun d => if f ≥ 4 then d else d.funcRstRow f w) := rfl
theorem exec_funcrstN (f : Nat) (s : State) :
    exec (.funcrstN f) s = s.run (fun d => if f ≥ 4 then d else d.funcReset f) := rfl
theorem exec_funcResetDone (f : Nat) (s : State) :
    exec (.funcResetDone f) s = s.run (fun d => if f ≥ 4 then d else d.ringsResetDone f) := rfl
theorem exec_wqeFetchDone (q : Nat) (words : List Word) (c : Rsp) (s : State) :
    exec (.wqeFetchDone q words c) s = s.run (Dev.wqFetched q words c) := rfl
theorem exec_wqeTake (q : Nat) (up : List Upset) (s : State) :
    exec (.wqeTake q up) s =
  s.run (fun d =>
    let d := if up.contains .corrected then d.eccCorr else d
    let bad := up.filterMap (fun u => match u with | .entryCache w loc => some (w, loc) | _ => none)
    (bad.foldl (fun d b => d.cacheLost b.1 b.2) d).wqTake q) :=
  rfl
theorem exec_sendDataReadDone (q idx : Nat) (data : List Byte) (c : Rsp) (s : State) :
    exec (.sendDataReadDone q idx data c) s = s.run (Dev.sendRead q idx data c) := rfl
theorem exec_completionWriteDone (q idx : Nat) (c : Rsp) (s : State) :
    exec (.completionWriteDone q idx c) s = s.run (Dev.cqWritten q idx c) := rfl
theorem exec_ringHeaderWrite (n : Nat) (s : State) :
    exec (.ringHeaderWrite n) s = s.run (fun d => d.headerWrite n) := rfl
theorem exec_hostIdxReread (q : Nat) (s : State) :
    exec (.hostIdxReread q) s = s.run (fun d => d.reread q) := rfl
theorem exec_hostIdxReadDone (q : Nat) (v : Word) (c : Rsp) (s : State) :
    exec (.hostIdxReadDone q v c) s = s.run (Dev.hostIdxDone q v c) := rfl
theorem exec_rxDeliver (q : Nat) (up : List Upset) (s : State) :
    exec (.rxDeliver q up) s =
  s.run (fun d =>
    let d := if up.contains .corrected then d.eccCorr else d
    match up.findSome? (fun u => match u with | .bufferCell loc => some loc | _ => none) with
    | some loc => d.rxCellLost q loc
    | none => d.rxDeliver q) :=
  rfl
theorem exec_rxDataWriteDone (q idx : Nat) (c : Rsp) (s : State) :
    exec (.rxDataWriteDone q idx c) s = s.run (Dev.rxWritten q idx c) := rfl
theorem exec_storeEntryWrite (q : Nat) (up : List Upset) (s : State) :
    exec (.storeEntryWrite q up) s = s.run (fun d => (if up.contains .corrected then d.eccCorr else d).storeWrite q up) := rfl
theorem exec_qctxCreateWq (w : RegWr) (s : State) :
    exec (.qctxCreateWq w) s = s.run (Dev.qctxRow 1 w) := rfl
theorem exec_qctxCreateCq (w : RegWr) (s : State) :
    exec (.qctxCreateCq w) s = s.run (Dev.qctxRow 2 w) := rfl
theorem exec_qctxDestroyWq (w : RegWr) (s : State) :
    exec (.qctxDestroyWq w) s = s.run (Dev.qctxRow 3 w) := rfl
theorem exec_qctxDestroyCq (w : RegWr) (s : State) :
    exec (.qctxDestroyCq w) s = s.run (Dev.qctxRow 4 w) := rfl
theorem exec_adminNop (f : Nat) (e : AdminIn) (s : State) :
    exec (.adminNop f e) s = s.run (Dev.adminCmd f 0 e (fun d => ({}, d))) := rfl
theorem exec_getInfo (f : Nat) (e : AdminIn) (s : State) :
    exec (.getInfo f e) s =
  s.run (Dev.adminCmd f 1 e (fun d =>
    ({ r0 := d.f F.MBX_DOCENT_VERSION + f * 2 ^ 16
       r1 := d.freeQueues F.HRG_WQ_STAT_STATE + d.freeQueues F.HRG_CQ_STAT_STATE * 2 ^ 16 }, d))) :=
  rfl
theorem exec_createCq (f : Nat) (e : AdminIn) (s : State) :
    exec (.createCq f e) s = s.run (Dev.adminCmd f 2 e (Dev.adminCreateCq f e)) := rfl
theorem exec_destroyCq (f : Nat) (e : AdminIn) (s : State) :
    exec (.destroyCq f e) s = s.run (Dev.adminDestroy f 3 e (fun q d => d.cqReady q && d.f F.HRG_CQ_STAT_FUNC q == f) (fun q d => d.destroyCq q)) := rfl
theorem exec_createWq (f : Nat) (e : AdminIn) (s : State) :
    exec (.createWq f e) s = s.run (Dev.adminCmd f 4 e (Dev.adminCreateWq f e)) := rfl
theorem exec_destroyWq (f : Nat) (e : AdminIn) (s : State) :
    exec (.destroyWq f e) s = s.run (Dev.adminDestroy f 5 e (fun q d => d.wqReady q && d.f F.HRG_WQ_STAT_FUNC q == f) (fun q d => d.destroyWq q)) := rfl
theorem exec_queryQ (f : Nat) (e : AdminIn) (s : State) :
    exec (.queryQ f e) s = s.run (Dev.adminCmd f 6 e (Dev.adminQuery f e)) := rfl
theorem exec_tableWrite (f : Nat) (e : AdminIn) (record : List Word) (r : Rsp) (s : State) :
    exec (.tableWrite f e record r) s = s.run (Dev.adminTable f e false record r) := rfl
theorem exec_tableDelete (f : Nat) (e : AdminIn) (record : List Word) (r : Rsp) (s : State) :
    exec (.tableDelete f e record r) s = s.run (Dev.adminTable f e true record r) := rfl
theorem exec_accCommit (f : Nat) (e : AdminIn) (s : State) :
    exec (.accCommit f e) s = s.run (Dev.adminCommit f e) := rfl
theorem exec_eeeWake (f : Nat) (e : AdminIn) (s : State) :
    exec (.eeeWake f e) s = s.run (Dev.adminCmd f 0xA e (Dev.eeeWake (e.p 0 % 4) (bits (e.p 0) 16 16))) := rfl
theorem exec_sleepReq (f : Nat) (e : AdminIn) (s : State) :
    exec (.sleepReq f e) s = s.run (Dev.adminCmd f 0xB e (Dev.sleepReq (bit (e.p 0) 0))) := rfl
theorem exec_statsSnap (f : Nat) (e : AdminIn) (r : Rsp) (s : State) :
    exec (.statsSnap f e r) s = s.run (Dev.adminCmd f 0xC e (Dev.statsSnap f (e.p 0) (e.p 1 % 256) r)) := rfl
theorem exec_adminUnknown (f : Nat) (e : AdminIn) (s : State) :
    exec (.adminUnknown f e) s = s.run (Dev.adminTake f e (fun c => 0xC < c) (fun idx d => d.adminAnswer f idx e.cookie { status := 0x40 })) := rfl
theorem exec_slcGo (c : Nat) (w : RegWr) (s : State) :
    exec (.slcGo c w) s = s.run (Dev.slcRow 1 c w) := rfl
theorem exec_slcStop (c : Nat) (w : RegWr) (s : State) :
    exec (.slcStop c w) s = s.run (Dev.slcRow 2 c w) := rfl
theorem exec_slcResume (c : Nat) (w : RegWr) (s : State) :
    exec (.slcResume c w) s = s.run (Dev.slcRow 4 c w) := rfl
theorem exec_slcKick (c : Nat) (w : RegWr) (s : State) :
    exec (.slcKick c w) s = s.run (Dev.slcRow 8 c w) := rfl
theorem exec_slcClear (c : Nat) (w : RegWr) (s : State) :
    exec (.slcClear c w) s = s.run (Dev.slcRow 16 c w) := rfl
theorem exec_slcCfgWrite (c : Nat) (prog : Bool) (w : RegWr) (s : State) :
    exec (.slcCfgWrite c prog w) s = s.run (fun d => if c ≥ 16 then d else d.gated ((if prog then 0x140008 else 0x140000) + 0x40 * c) w (Dev.writeSlcCfg c prog w)) := rfl
theorem exec_slcMove (c : Nat) (s : State) :
    exec (.slcMove c) s = s.run (fun d => d.slcMove c) := rfl
theorem exec_slcGather (c : Nat) (s : State) :
    exec (.slcGather c) s = s.run (fun d => d.slcGather c) := rfl
theorem exec_slcLoop (c : Nat) (s : State) :
    exec (.slcLoop c) s = s.run (fun d => d.slcLoop c) := rfl
theorem exec_slcWait (c : Nat) (s : State) :
    exec (.slcWait c) s = s.run (fun d => d.slcWait c) := rfl
theorem exec_slcSignal (c at' : Nat) (s : State) :
    exec (.slcSignal c at') s = s.run (fun d => d.slcSignal c at') := rfl
theorem exec_slcEnd (c : Nat) (s : State) :
    exec (.slcEnd c) s = s.run (fun d => d.slcEnd c) := rfl
theorem exec_slcBadInstruction (c : Nat) (s : State) :
    exec (.slcBadInstruction c) s = s.run (fun d => d.slcBad c) := rfl
theorem exec_slcInstructionRetire (c : Nat) (s : State) :
    exec (.slcInstructionRetire c) s = s.run (fun d => if c < 16 && d.on 28 then d.slcRetire c else d) := rfl
theorem exec_slcReadResponse (c burst : Nat) (data : List Byte) (codes : List Rsp) (s : State) :
    exec (.slcReadResponse c burst data codes) s = s.run (Dev.slcReadDone c burst data codes) := rfl
theorem exec_slcWriteResponse (c burst : Nat) (r : Rsp) (fbeat : Nat) (s : State) :
    exec (.slcWriteResponse c burst r fbeat) s = s.run (Dev.slcWriteDone c burst r fbeat) := rfl
theorem exec_slcWaitSatisfied (c : Nat) (s : State) :
    exec (.slcWaitSatisfied c) s = s.run (fun d => if c < 16 && d.on 28 then d.slcSatisfied c else d) := rfl
theorem exec_slcWaitTimeout (c : Nat) (s : State) :
    exec (.slcWaitTimeout c) s = s.run (fun d => if c < 16 && d.on 28 then d.slcTimeout c else d) := rfl
theorem exec_slcDescriptor (c : Nat) (s : State) :
    exec (.slcDescriptor c) s = s.run (fun d => let d := d.slcDescriptor c; if c < 16 then d.slcBack c 0 else d) := rfl
theorem exec_slcPollReread (c : Nat) (s : State) :
    exec (.slcPollReread c) s = s.run (fun d => if c < 16 && d.on 28 && d.f F.SLC_CH_CFG_POLL_US c != 0 then d.slcReread c else d) := rfl
theorem exec_slcFlagSet (w : RegWr) (s : State) :
    exec (.slcFlagSet w) s = s.run (fun d => d.gated 0x140480 w (Dev.writeFlagSet w)) := rfl
theorem exec_slcFlagClr (w : RegWr) (s : State) :
    exec (.slcFlagClr w) s = s.run (fun d => d.gated 0x140488 w (Dev.writeFlagClr w)) := rfl
theorem exec_eventRecordWrite (s : State) :
    exec (.eventRecordWrite) s = s.run Dev.evWrite := rfl
theorem exec_eventRecordDone (q idx : Nat) (c : Rsp) (s : State) :
    exec (.eventRecordDone q idx c) s = s.run (Dev.evDone q idx c) := rfl
theorem exec_evqCiWrite (q : Nat) (w : RegWr) (s : State) :
    exec (.evqCiWrite q w) s = s.run (fun d => if q ≥ 8 then d else d.gated (0x150018 + 0x40 * q) w (Dev.writeEvqCi q w)) := rfl
theorem exec_evqRearm (n : Nat) (w : RegWr) (s : State) :
    exec (.evqRearm n w) s = s.run (Dev.evSrcRow true n w) := rfl
theorem exec_evqQCfgWrite (q : Nat) (w : RegWr) (s : State) :
    exec (.evqQCfgWrite q w) s = s.run (fun d => if q ≥ 8 then d else d.gated (0x150000 + 0x40 * q) w (Dev.writeEvqCfg q w)) := rfl
theorem exec_evqFaultClear (q : Nat) (w : RegWr) (s : State) :
    exec (.evqFaultClear q w) s = s.run (fun d => if q ≥ 8 then d else d.gated (0x150020 + 0x40 * q) w (Dev.writeEvqStat q w)) := rfl
theorem exec_evqSwsrcWrite (w : RegWr) (s : State) :
    exec (.evqSwsrcWrite w) s = s.run (fun d => d.gated 0x150208 w (Dev.writeEvqSwsrc w)) := rfl
theorem exec_evqSrcWrite (n : Nat) (w : RegWr) (s : State) :
    exec (.evqSrcWrite n w) s = s.run (Dev.evSrcRow false n w) := rfl
theorem exec_mbDoorbell (n : Nat) (w : RegWr) (s : State) :
    exec (.mbDoorbell n w) s = s.run (fun d => if n == 0 || n == 2 then d.gated (0x178000 + 8 * n) w (Dev.writeMbDb n w) else d) := rfl
theorem exec_mb1Ack (w : RegWr) (s : State) :
    exec (.mb1Ack w) s = s.run (fun d => d.gated 0x178008 w (Dev.writeMbDb 1 w)) := rfl
theorem exec_mb1NoticePost (text : Option (List Byte)) (s : State) :
    exec (.mb1NoticePost text) s = s.run (Dev.noticePost text) := rfl
theorem exec_mbUnknownType (n ty seq : Nat) (body : List Word) (s : State) :
    exec (.mbUnknownType n ty seq body) s =
  s.run (fun d =>
    if n == 3 then (if 1 ≤ ty && ty ≤ 6 then d else d.mb3In ty false seq 0 body id (fun d => d.mb3Answer ty 1 [])) else d.mbUnknown n) :=
  rfl
theorem exec_curInfo (s : State) :
    exec (.curInfo) s =
  s.run (fun d => d.mbReq 2 0x41 0 (fun d =>
    d.mbRespond 2 0 [curRelease d + d.f F.MBX_BOOT_CUR_PATCH_VER * 2 ^ 16 + d.f F.MBX_BOOT_STAGE * 2 ^ 32, d.f F.TST_SERIAL_SN])) :=
  rfl
theorem exec_curPatch (s : State) :
    exec (.curPatch) s =
  s.run (fun d => d.mbReq 2 0x42 16 (fun d =>
    if d.f F.MBX_BOOT_STAGE != 4 || d.fw.patched || d.fw.loaded then d.mbRespond 2 4 []
    else d.imgFetch { type := 1, addr := d.mbWord 2 1, len := d.mbWord 2 2 })) :=
  rfl
theorem exec_docentLoad (s : State) :
    exec (.docentLoad) s = s.run (fun d => d.mbReq 2 0x43 24 Dev.docentLoad) := rfl
theorem exec_docentStop (s : State) :
    exec (.docentStop) s =
  s.run (fun d => d.mbReq 2 0x44 0 (fun d =>
    if d.docentRuns then (d.set F.MBX_FW_STAT_DSTATE 3).mbRespond 2 0 [] else d.mbRespond 2 4 [])) :=
  rfl
theorem exec_seqPatch (s : State) :
    exec (.seqPatch) s =
  s.run (fun d => d.mbReq 2 0x45 24 (fun d =>
    d.imgFetch { type := 3, addr := d.mbWord 2 1, len := d.mbWord 2 2, frame := bits (d.mbWord 2 3) 0 51 })) :=
  rfl
theorem exec_svnRaise (s : State) :
    exec (.svnRaise) s = s.run (fun d => d.mbReq 2 0x46 8 Dev.svnRaise) := rfl
theorem exec_aclSet (s : State) :
    exec (.aclSet) s =
  s.run (fun d => d.mbReq 2 0x48 8 (fun d =>
    let w := d.mbWord 2 1
    if w / 64 != 0 then d.mbRespond 2 3 []
    else ((d.set F.MBX_ACL_MB0_FN w).set F.MBX_ACL_CTRL_FN (w / 16)).mbRespond 2 0 [])) :=
  rfl
theorem exec_funcReset (s : State) :
    exec (.funcReset) s = s.run (fun d => d.mbReq 2 0x49 8 (fun d => (d.funcReset (d.mbWord 2 1 % 4)).mbRespond 2 0 [])) := rfl
theorem exec_imageFetchDone (image : List Byte) (r : Rsp) (s : State) :
    exec (.imageFetchDone image r) s = s.run (Dev.imgDone image r) := rfl
theorem exec_boot (romOk : Bool) (s : State) :
    exec (.boot romOk) s = s.run (Dev.boot romOk) := rfl
theorem exec_docentReady (s : State) :
    exec (.docentReady) s = s.run Dev.docentStart := rfl
theorem exec_getVersion (s : State) :
    exec (.getVersion) s =
  s.run (fun d => d.mbReq 0 1 0 (fun d =>
    d.mbRespond 0 0 [d.f F.MBX_DOCENT_VERSION + d.f F.MBX_DOCENT_SVN * 2 ^ 16, ofLe ((beBytes 32 d.fw.digest).take 8)])) :=
  rfl
theorem exec_adminSetup (s : State) :
    exec (.adminSetup) s = s.run (fun d => d.mbReq 0 2 40 Dev.adminSetup) := rfl
theorem exec_adminTeardown (v : Word) (r : Rsp) (s : State) :
    exec (.adminTeardown v r) s = s.run (fun d => d.mbReq 0 3 8 (Dev.adminTeardown v r)) := rfl
theorem exec_noticeMask (s : State) :
    exec (.noticeMask) s = s.run (fun d => d.mbReq 0 4 8 (fun d => { d with fw := { d.fw with mask := d.mbWord 0 1 % 65536 } }.mbRespond 0 0 [])) := rfl
theorem exec_mb0Ping (s : State) :
    exec (.mb0Ping) s = s.run (fun d => d.mbReq 0 5 8 (fun d => d.mbRespond 0 0 [d.mbWord 0 1])) := rfl
theorem exec_twinCtlAttach (s : State) :
    exec (.twinCtlAttach) s = s.run (Dev.twinCtl 1) := rfl
theorem exec_twinCtlDetach (s : State) :
    exec (.twinCtlDetach) s = s.run (Dev.twinCtl 2) := rfl
theorem exec_twinCtlSwitchover (s : State) :
    exec (.twinCtlSwitchover) s = s.run (Dev.twinCtl 3) := rfl
theorem exec_termInfo (s : State) :
    exec (.termInfo) s = s.run (fun d => d.mbReq 0 7 0 Dev.termInfo) := rfl
theorem exec_keyNew (slot : Nat) (s : State) :
    exec (.keyNew slot) s = s.run (fun d => d.service (Dev.keyNewService slot)) := rfl
theorem exec_keyBcast (gen wrapped : Nat) (s : State) :
    exec (.keyBcast gen wrapped) s = s.run (fun d => d.service (Dev.keyBcast gen wrapped)) := rfl
theorem exec_kekRotate (gen wrapped : Nat) (s : State) :
    exec (.kekRotate gen wrapped) s = s.run (fun d => d.service (Dev.kekRotate gen wrapped)) := rfl
theorem exec_tstWrite (cmd tid : Nat) (s : State) :
    exec (.tstWrite cmd tid) s = s.run (fun d => d.service (fun d => d.tstCmd cmd (tid % 1024) none)) := rfl
theorem exec_vote (dom : Nat) (vote : Bool) (s : State) :
    exec (.vote dom vote) s = s.run (fun d => d.service (Dev.docentVote dom vote)) := rfl
theorem exec_mpuViolation (s : State) :
    exec (.mpuViolation) s = s.run (fun d => d.docentDown 2) := rfl
theorem exec_wdogKick (w : RegWr) (s : State) :
    exec (.wdogKick w) s = s.run (fun d => d.gated 0x178098 w (Dev.writeWdog w)) := rfl
theorem exec_watchdogExpiry (s : State) :
    exec (.watchdogExpiry) s = s.run (fun d => if d.wdogOver then d.docentDown 1 else d) := rfl
theorem exec_autoRestart (s : State) :
    exec (.autoRestart) s = s.run Dev.autoRestart := rfl
theorem exec_mb3Send (ty : Nat) (body : List Word) (s : State) :
    exec (.mb3Send ty body) s = s.run (fun d => if ty ≥ 256 || body.length > 511 then d else d.mb3Request ty body) := rfl
theorem exec_mb3Timeout (s : State) :
    exec (.mb3Timeout) s = s.run (fun d => d.mb3Complete 0x0E) := rfl
theorem exec_pairHello (resp : Bool) (seq status : Nat) (w1 w2 : Word) (s : State) :
    exec (.pairHello resp seq status w1 w2) s =
  s.run (fun d => d.mb3In 1 resp seq status [w1, w2]
    (fun d => if status % 256 == 0 then d.helloTaken w1 w2 else if status % 256 == 4 then d.helloRefused else d)
    (fun d => if d.helloFits w1 then (d.mb3Answer 1 0 d.helloOwn).helloTaken w1 w2 else (d.mb3Answer 1 4 []).helloRefused)) :=
  rfl
theorem exec_allocMap (resp : Bool) (seq status : Nat) (w1 : Word) (s : State) :
    exec (.allocMap resp seq status w1) s = s.run (fun d => d.mb3In 2 resp seq status [w1] id (fun d => d.mb3Answer 2 (if d.allocMapped w1 then 0 else 3) [])) := rfl
theorem exec_switchPropose (resp : Bool) (seq status : Nat) (w1 : Word) (s : State) :
    exec (.switchPropose resp seq status w1) s =
  s.run (fun d => d.mb3In 3 resp seq status [w1]
    (fun d => if status % 256 == 0 then d.switchBegin d.twn.hold else d)
    (fun d => if d.f F.TWN_STAT_STATE == 5 then (d.mb3Answer 3 0 []).switchBegin (bits w1.toNat 16 16) else d.mb3Answer 3 4 [])) :=
  rfl
theorem exec_switchDone (resp : Bool) (seq status : Nat) (s : State) :
    exec (.switchDone resp seq status) s =
  s.run (fun d => d.mb3In 4 resp seq status [] (fun d => if status % 256 == 0 then d.switchEnd else d)
    (fun d => (d.mb3Answer 4 0 []).switchEnd)) :=
  rfl
theorem exec_mb3Detach (resp : Bool) (seq status : Nat) (s : State) :
    exec (.mb3Detach resp seq status) s = s.run (fun d => d.mb3In 5 resp seq status [] (fun d => if d.f F.TWN_STAT_STATE == 6 then d.detached else d) Dev.peerDetach) := rfl
theorem exec_mb3Ping (resp : Bool) (seq status : Nat) (w1 : Word) (s : State) :
    exec (.mb3Ping resp seq status w1) s = s.run (fun d => d.mb3In 6 resp seq status [w1] id (fun d => d.mb3Answer 6 0 [w1])) := rfl
theorem exec_stgSelWrite (w : RegWr) (s : State) :
    exec (.stgSelWrite w) s = s.run (fun d => d.gated 0x180000 w (Dev.writeStgSel w)) := rfl
theorem exec_stagedWrite (off : Nat) (w : RegWr) (s : State) :
    exec (.stagedWrite off w) s = s.run (Dev.stagedRow off w) := rfl
theorem exec_stgOpen (n : Nat) (w : RegWr) (s : State) :
    exec (.stgOpen n w) s = s.run (Dev.stgRow 1 n w) := rfl
theorem exec_stgCheck (n : Nat) (w : RegWr) (s : State) :
    exec (.stgCheck n w) s = s.run (Dev.stgRow 2 n w) := rfl
theorem exec_stgCheckArm (n : Nat) (w : RegWr) (s : State) :
    exec (.stgCheckArm n w) s = s.run (Dev.stgRow 3 n w) := rfl
theorem exec_stgCancel (n : Nat) (w : RegWr) (s : State) :
    exec (.stgCancel n w) s = s.run (Dev.stgRow 4 n w) := rfl
theorem exec_stgApplyWrite (n : Nat) (w : RegWr) (s : State) :
    exec (.stgApplyWrite n w) s = s.run (fun d => if n ≥ 4 then d else d.gated (0x180108 + 0x40 * n) w (Dev.writeStgApply n w)) := rfl
theorem exec_stagingDrainDone (n : Nat) (s : State) :
    exec (.stagingDrainDone n) s = s.run (fun d => d.stgDrained n) := rfl
theorem exec_intervalRecordSigned (s : State) :
    exec (.intervalRecordSigned) s = s.run Dev.vitPlace := rfl
theorem exec_bindDs (s : State) :
    exec (.bindDs) s = s.run (fun d => d.sealedReq (· == 1) vitBindDs) := rfl
theorem exec_bindUs (s : State) :
    exec (.bindUs) s = s.run (fun d => d.sealedReq (· == 2) vitBindUs) := rfl
theorem exec_setInterval (s : State) :
    exec (.setInterval) s = s.run (fun d => d.sealedReq (· == 3) vitSetInterval) := rfl
theorem exec_setPulse (s : State) :
    exec (.setPulse) s = s.run (fun d => d.sealedReq (· == 4) vitSetPulse) := rfl
theorem exec_archiveClear (s : State) :
    exec (.archiveClear) s = s.run (fun d => d.sealedReq (· == 5) vitArchive) := rfl
theorem exec_clockCheck (aonNs : Nat) (s : State) :
    exec (.clockCheck aonNs) s = s.run (fun d => d.sealedReq (· == 6) (vitClockCheck aonNs)) := rfl
theorem exec_keyRotate (s : State) :
    exec (.keyRotate) s = s.run (fun d => d.sealedReq (· == 7) vitKeyRotate) := rfl
theorem exec_readAccount (s : State) :
    exec (.readAccount) s = s.run (fun d => d.sealedReq (· == 0x20) vitReadAccount) := rfl
theorem exec_readTotals (s : State) :
    exec (.readTotals) s = s.run (fun d => d.sealedReq (· == 0x21) vitReadTotals) := rfl
theorem exec_readIntervals (s : State) :
    exec (.readIntervals) s = s.run (fun d => d.sealedReq (· == 0x22) vitReadIntervals) := rfl
theorem exec_ackIntervals (s : State) :
    exec (.ackIntervals) s = s.run (fun d => d.sealedReq (· == 0x23) vitAckIntervals) := rfl
theorem exec_readSnapshot (s : State) :
    exec (.readSnapshot) s = s.run (fun d => d.sealedReq (· == 0x24) vitReadSnapshot) := rfl
theorem exec_readLog (s : State) :
    exec (.readLog) s = s.run (fun d => d.sealedReq (· == 0x25) vitReadLog) := rfl
theorem exec_readIdent (s : State) :
    exec (.readIdent) s = s.run (fun d => d.sealedReq (· == 0x26) vitReadIdent) := rfl
theorem exec_vcmdUnknown (s : State) :
    exec (.vcmdUnknown) s = s.run (fun d => d.sealedReq vcmdUnknown (fun _ d => ({ why := 1 }, d))) := rfl
theorem exec_sealOpen (s : State) :
    exec (.sealOpen) s = s.run Dev.vitPresent := rfl
theorem exec_sealClose (s : State) :
    exec (.sealClose) s = s.run Dev.vitAbsent := rfl
theorem exec_sealWindowEnd (s : State) :
    exec (.sealWindowEnd) s = s.run Dev.vitWindowEnd := rfl
theorem exec_vitPulseStart (s : State) :
    exec (.vitPulseStart) s = s.run Dev.vitPulseStart := rfl
theorem exec_vitPulseEnd (s : State) :
    exec (.vitPulseEnd) s = s.run Dev.vitPulseEnd := rfl
theorem exec_vitRestore (s : State) :
    exec (.vitRestore) s = s.run Dev.vitRestore := rfl
theorem exec_vitOffCheckpoint (s : State) :
    exec (.vitOffCheckpoint) s = s.run Dev.vitOffCheckpoint := rfl
theorem exec_pwrHvoteWrite (w : RegWr) (s : State) :
    exec (.pwrHvoteWrite w) s = s.run (fun d => d.gated 0x20068 w (Dev.writeHvote w)) := rfl
theorem exec_pwrCvoteWrite (w : RegWr) (s : State) :
    exec (.pwrCvoteWrite w) s = s.run (fun d => d.gated 0x20070 w (Dev.writeCvote w)) := rfl
theorem exec_domainPowerDownDone (k : Nat) (s : State) :
    exec (.domainPowerDownDone k) s = s.run (Dev.domainOff k) := rfl
theorem exec_domainPowerUpDone (k : Nat) (up : List Upset) (s : State) :
    exec (.domainPowerUpDone k up) s = s.run (Dev.domainOn k up) := rfl
theorem exec_dvfsStep (s : State) :
    exec (.dvfsStep) s = s.run Dev.dvfsStep := rfl
theorem exec_avsAck (s : State) :
    exec (.avsAck) s = s.run Dev.avsAck := rfl
theorem exec_avsTimeout (s : State) :
    exec (.avsTimeout) s = s.run Dev.avsTimeout := rfl
theorem exec_avsLoop (margins : List Nat) (s : State) :
    exec (.avsLoop margins) s = s.run (Dev.avsLoop margins) := rfl
theorem exec_pwrDvfsCtlWrite (w : RegWr) (s : State) :
    exec (.pwrDvfsCtlWrite w) s = s.run (fun d => d.gated 0x20010 w (Dev.writeDvfsCtl w)) := rfl
theorem exec_pwrRegWrite (w : RegWr) (s : State) :
    exec (.pwrRegWrite w) s = s.run (fun d => d.gated 0x20038 w (Dev.writePwrReg w)) := rfl
theorem exec_pwrWatchCtlWrite (w : RegWr) (s : State) :
    exec (.pwrWatchCtlWrite w) s = s.run (fun d => d.gated 0x20040 w (Dev.writeWatchCtl w)) := rfl
theorem exec_watchEnter (s : State) :
    exec (.watchEnter) s = s.run Dev.watchEnter := rfl
theorem exec_watchSampleLead (s : State) :
    exec (.watchSampleLead) s = s.run Dev.watchLead := rfl
theorem exec_stillReq (w : RegWr) (s : State) :
    exec (.stillReq w) s = s.run (Dev.stateRow 3 w) := rfl
theorem exec_offReq (w : RegWr) (s : State) :
    exec (.offReq w) s = s.run (Dev.stateRow 4 w) := rfl
theorem exec_entryHoldTimeout (s : State) :
    exec (.entryHoldTimeout) s = s.run Dev.entryAbandon := rfl
theorem exec_aonTick (sens : List (Option Int)) (s : State) :
    exec (.aonTick sens) s = s.run (Dev.aonTick sens) := rfl
theorem exec_lowPowerWake (s : State) :
    exec (.lowPowerWake) s = s.run Dev.lowPowerWake := rfl
theorem exec_wakeTimer (s : State) :
    exec (.wakeTimer) s = s.run Dev.wakeTimer := rfl
theorem exec_vddAonLow (lowest : Nat) (s : State) :
    exec (.vddAonLow lowest) s = s.run (Dev.aonLow lowest) := rfl
theorem exec_aonBrownoutReset (saveHeld : Bool) (s : State) :
    exec (.aonBrownoutReset saveHeld) s = s.run (fun d => d.powerOn true saveHeld) := rfl
theorem exec_vddCoreBrownout (lowest : Nat) (s : State) :
    exec (.vddCoreBrownout lowest) s = s.run (Dev.coreBrownout lowest) := rfl
theorem exec_twnEnWrite (w : RegWr) (s : State) :
    exec (.twnEnWrite w) s = s.run (fun d => d.gated 0x1E0000 w (Dev.writeTwnCtl w)) := rfl
theorem exec_twnCmdAttach (w : RegWr) (s : State) :
    exec (.twnCmdAttach w) s = s.run (Dev.twnCmdRow 1 w) := rfl
theorem exec_twnCmdDetach (w : RegWr) (s : State) :
    exec (.twnCmdDetach w) s = s.run (Dev.twnCmdRow 2 w) := rfl
theorem exec_twnCmdResync (w : RegWr) (s : State) :
    exec (.twnCmdResync w) s = s.run (Dev.twnCmdRow 3 w) := rfl
theorem exec_tlBlockTx (s : State) :
    exec (.tlBlockTx) s = s.run Dev.tlTx := rfl
theorem exec_tlBlockRx (commas : BitVec 8) (codeOk : Bool) (octets : List Byte) (s : State) :
    exec (.tlBlockRx commas codeOk octets) s = s.run (Dev.tlRx commas codeOk octets) := rfl
theorem exec_heartbeatRx (s : State) :
    exec (.heartbeatRx) s = s.run Dev.heartbeatRx := rfl
theorem exec_heartbeatTimeout (s : State) :
    exec (.heartbeatTimeout) s = s.run Dev.heartbeatLost := rfl
theorem exec_detachTimeout (s : State) :
    exec (.detachTimeout) s = s.run (fun d => if d.f F.TWN_STAT_STATE == 6 then d.detached else d) := rfl
theorem exec_mirrorReg (s : State) :
    exec (.mirrorReg) s = s.run Dev.mirReg := rfl
theorem exec_mirrorTableOp (s : State) :
    exec (.mirrorTableOp) s = s.run Dev.mirTableOp := rfl
theorem exec_mirrorCommit (s : State) :
    exec (.mirrorCommit) s = s.run Dev.mirCommit := rfl
theorem exec_mirrorBucket (s : State) :
    exec (.mirrorBucket) s = s.run Dev.mirBucket := rfl
theorem exec_mirrorStash (s : State) :
    exec (.mirrorStash) s = s.run Dev.mirStash := rfl
theorem exec_mirrorChangeEnd (s : State) :
    exec (.mirrorChangeEnd) s = s.run Dev.mirChangeEnd := rfl
theorem exec_mirrorBulkEnd (s : State) :
    exec (.mirrorBulkEnd) s = s.run Dev.mirBulkEnd := rfl
theorem exec_mirrorSwap (s : State) :
    exec (.mirrorSwap) s = s.run Dev.mirSwap := rfl
theorem exec_mirrorAccession (s : State) :
    exec (.mirrorAccession) s = s.run Dev.mirAccession := rfl
theorem exec_obsSnapGo (w : RegWr) (s : State) :
    exec (.obsSnapGo w) s = s.run (fun d => d.gated 0x1F0400 w (Dev.writeSnapCmd w)) := rfl
theorem exec_pmcRunWrite (w : RegWr) (s : State) :
    exec (.pmcRunWrite w) s = s.run (fun d => d.gated 0x1F0010 w (Dev.writePmcRun w)) := rfl
theorem exec_pmcCfgWrite (n : Nat) (w : RegWr) (s : State) :
    exec (.pmcCfgWrite n w) s = s.run (fun d => if n ≥ 8 then d else d.gated (0x1F0100 + 0x20 * n) w (Dev.writePmcCfg n w)) := rfl
theorem exec_pmcCntWrite (n : Nat) (w : RegWr) (s : State) :
    exec (.pmcCntWrite n w) s = s.run (fun d => if n ≥ 8 then d else d.gated (0x1F0118 + 0x20 * n) w (Dev.writePmcCnt n w)) := rfl
theorem exec_pmcOvf (n past : Nat) (s : State) :
    exec (.pmcOvf n past) s = s.run (Dev.pmcOverflow n past) := rfl
theorem exec_traceTimeout (n : Nat) (s : State) :
    exec (.traceTimeout n) s = s.run (Dev.trcTimeout n) := rfl
theorem exec_traceRecordWrite (s : State) :
    exec (.traceRecordWrite) s = s.run Dev.trcWrite := rfl
theorem exec_traceRecordDone (seq : Nat) (c : Rsp) (s : State) :
    exec (.traceRecordDone seq c) s = s.run (Dev.trcDone seq c) := rfl
theorem exec_trcCfgWrite (w : RegWr) (s : State) :
    exec (.trcCfgWrite w) s = s.run (fun d => d.gated 0x1F0200 w (Dev.writeTrcCfg w)) := rfl
theorem exec_trcSeedWrite (w : RegWr) (s : State) :
    exec (.trcSeedWrite w) s = s.run (fun d => d.gated 0x1F0228 w (Dev.writeTrcSeed w)) := rfl
theorem exec_trcCiWrite (w : RegWr) (s : State) :
    exec (.trcCiWrite w) s = s.run (fun d => d.gated 0x1F0218 w (Dev.writeTrcCi w)) := rfl
theorem exec_bwCfgWrite (w : RegWr) (s : State) :
    exec (.bwCfgWrite w) s = s.run (fun d => d.gated 0x1F0300 w (Dev.writeBwCfg w)) := rfl
theorem exec_porst (s : State) :
    exec (.porst) s = s.run (fun d => d.powerOn false true) := rfl
theorem exec_blkrst (s : State) :
    exec (.blkrst) s = s.run Dev.blkrst := rfl
theorem exec_curatorEccReset (up : List Upset) (s : State) :
    exec (.curatorEccReset up) s = s.run (Dev.curatorEcc up) := rfl
theorem exec_acfTimeout (kind : FabKind) (s : State) :
    exec (.acfTimeout kind) s = s.run (Dev.acfTimeout kind) := rfl
theorem exec_registerWrite (off : Nat) (w : RegWr) (s : State) :
    exec (.registerWrite off w) s = s.run (Dev.busWrite off w) := rfl
theorem exec_docentHalt (s : State) :
    exec (.docentHalt) s = s.run Dev.docentHalt := rfl
theorem exec_docentErrorReport (up : List Upset) (s : State) :
    exec (.docentErrorReport up) s = s.run (Dev.docentError up) := rfl
theorem exec_offSensorSample (sens : List (Option Int)) (s : State) :
    exec (.offSensorSample sens) s = s.run (Dev.offSample sens) := rfl
theorem exec_ringHeaderWriteDone (n : Nat) (c : Rsp) (s : State) :
    exec (.ringHeaderWriteDone n c) s = s.run (Dev.headerWritten n c) := rfl
theorem exec_flushDone (s : State) :
    exec (.flushDone) s = s.run Dev.flushDone := rfl
theorem exec_registerRead (a : Agent) (off at' : Nat) (s : State) :
    exec (.registerRead a off at') s = s.run (Dev.busRead a off at') := rfl
theorem exec_rogueConditionClear (s : State) :
    exec (.rogueConditionClear) s = s.run Dev.rogueEnd := rfl

/-- Every command completes: its effect on the device, settled. -/
theorem exec_run (i : Instr) (s : State) : ∃ g, exec i s = s.run g :=
  match i with
  | .tick cyc dt lag sens => ⟨_, exec_tick cyc dt lag sens s⟩
  | .pllEnable w => ⟨_, exec_pllEnable w s⟩
  | .pllLock => ⟨_, exec_pllLock s⟩
  | .coreClockSwitch w => ⟨_, exec_coreClockSwitch w s⟩
  | .clkStop c xid words => ⟨_, exec_clkStop c xid words s⟩
  | .clkReturn c xid words => ⟨_, exec_clkReturn c xid words s⟩
  | .refclkAbsent => ⟨_, exec_refclkAbsent s⟩
  | .refclkRestored => ⟨_, exec_refclkRestored s⟩
  | .peerReset x words => ⟨_, exec_peerReset x words s⟩
  | .crossingAlive x words => ⟨_, exec_crossingAlive x words s⟩
  | .crossingAck x => ⟨_, exec_crossingAck x s⟩
  | .syncBlockCheck pos at' block invalid los => ⟨_, exec_syncBlockCheck pos at' block invalid los s⟩
  | .rxEnWrite w => ⟨_, exec_rxEnWrite w s⟩
  | .codewordArrival k raw invalid => ⟨_, exec_codewordArrival k raw invalid s⟩
  | .codewordDecoded slice iters word => ⟨_, exec_codewordDecoded slice iters word s⟩
  | .headerDecode => ⟨_, exec_headerDecode s⟩
  | .unknownMessage => ⟨_, exec_unknownMessage s⟩
  | .assignId => ⟨_, exec_assignId s⟩
  | .rangingReq => ⟨_, exec_rangingReq s⟩
  | .rangingTime => ⟨_, exec_rangingTime s⟩
  | .profile => ⟨_, exec_profile s⟩
  | .keyReq => ⟨_, exec_keyReq s⟩
  | .keySwitch => ⟨_, exec_keySwitch s⟩
  | .sleepAllow => ⟨_, exec_sleepAllow s⟩
  | .wake => ⟨_, exec_wake s⟩
  | .timeOfDay => ⟨_, exec_timeOfDay s⟩
  | .deactivate => ⟨_, exec_deactivate s⟩
  | .halt => ⟨_, exec_halt s⟩
  | .ack => ⟨_, exec_ack s⟩
  | .encapHeader up => ⟨_, exec_encapHeader up s⟩
  | .reassemblyTimeout n => ⟨_, exec_reassemblyTimeout n s⟩
  | .tdsFltWrite n w => ⟨_, exec_tdsFltWrite n w s⟩
  | .seqFrameRoutine l => ⟨_, exec_seqFrameRoutine l s⟩
  | .seqOverrun => ⟨_, exec_seqOverrun s⟩
  | .seqPageLate => ⟨_, exec_seqPageLate s⟩
  | .seqRestartRequest w => ⟨_, exec_seqRestartRequest w s⟩
  | .seqPatchWrite w => ⟨_, exec_seqPatchWrite w s⟩
  | .seqMatchWrite m w => ⟨_, exec_seqMatchWrite m w s⟩
  | .burstAssembly up => ⟨_, exec_burstAssembly up s⟩
  | .burstStart => ⟨_, exec_burstStart s⟩
  | .burstEnd => ⟨_, exec_burstEnd s⟩
  | .txFaultAssert => ⟨_, exec_txFaultAssert s⟩
  | .txFaultDeassert => ⟨_, exec_txFaultDeassert s⟩
  | .txInhibitWrite w => ⟨_, exec_txInhibitWrite w s⟩
  | .gateWrite w => ⟨_, exec_gateWrite w s⟩
  | .faultClr w => ⟨_, exec_faultClr w s⟩
  | .txDark bt => ⟨_, exec_txDark bt s⟩
  | .txRogue bt => ⟨_, exec_txRogue bt s⟩
  | .phySleepRelease t => ⟨_, exec_phySleepRelease t s⟩
  | .phySleepAssert t => ⟨_, exec_phySleepAssert t s⟩
  | .phyWakeWrite w => ⟨_, exec_phyWakeWrite w s⟩
  | .tusAllocWrite n w => ⟨_, exec_tusAllocWrite n w s⟩
  | .activateWrite w => ⟨_, exec_activateWrite w s⟩
  | .tstCmdAssign w => ⟨_, exec_tstCmdAssign w s⟩
  | .tstCmdProfileDone w => ⟨_, exec_tstCmdProfileDone w s⟩
  | .tstCmdDeactivate w => ⟨_, exec_tstCmdDeactivate w s⟩
  | .rangingTimeout => ⟨_, exec_rangingTimeout s⟩
  | .intermitTimeout => ⟨_, exec_intermitTimeout s⟩
  | .keyReportRepeat => ⟨_, exec_keyReportRepeat s⟩
  | .profileArmTimeout => ⟨_, exec_profileArmTimeout s⟩
  | .timeAdjWrite w => ⟨_, exec_timeAdjWrite w s⟩
  | .todRateWrite w => ⟨_, exec_todRateWrite w s⟩
  | .timeLoRead a at' => ⟨_, exec_timeLoRead a at' s⟩
  | .ppsOutRise at' => ⟨_, exec_ppsOutRise at' s⟩
  | .ppsOutFall at' => ⟨_, exec_ppsOutFall at' s⟩
  | .ppsInEdge at' => ⟨_, exec_ppsInEdge at' s⟩
  | .classifyFrame p at' up => ⟨_, exec_classifyFrame p at' up s⟩
  | .actionResolve p => ⟨_, exec_actionResolve p s⟩
  | .applyAction p up => ⟨_, exec_applyAction p up s⟩
  | .clsUpdRead w => ⟨_, exec_clsUpdRead w s⟩
  | .clsUpdWrite w => ⟨_, exec_clsUpdWrite w s⟩
  | .clsUpdMove w => ⟨_, exec_clsUpdMove w s⟩
  | .clsUpdSetvis w => ⟨_, exec_clsUpdSetvis w s⟩
  | .clsUpdHash w => ⟨_, exec_clsUpdHash w s⟩
  | .accDrained => ⟨_, exec_accDrained s⟩
  | .accRetired => ⟨_, exec_accRetired s⟩
  | .clsInitDone => ⟨_, exec_clsInitDone s⟩
  | .clsPolWrite n w => ⟨_, exec_clsPolWrite n w s⟩
  | .tableScrub up => ⟨_, exec_tableScrub up s⟩
  | .upmRxFrame n words => ⟨_, exec_upmRxFrame n words s⟩
  | .pauseRx n words => ⟨_, exec_pauseRx n words s⟩
  | .pfcRx n words => ⟨_, exec_pfcRx n words s⟩
  | .pauseTimerExpiry n cls => ⟨_, exec_pauseTimerExpiry n cls s⟩
  | .preemptFragmentRx n words => ⟨_, exec_preemptFragmentRx n words s⟩
  | .verifyMpacketRx n words rdy => ⟨_, exec_verifyMpacketRx n words rdy s⟩
  | .respondMpacketRx n words => ⟨_, exec_respondMpacketRx n words s⟩
  | .verifyStart n rdy => ⟨_, exec_verifyStart n rdy s⟩
  | .verifyTimeout n rdy => ⟨_, exec_verifyTimeout n rdy s⟩
  | .upmTxFrame n edge gap cut rdy up => ⟨_, exec_upmTxFrame n edge gap cut rdy up s⟩
  | .xoffSend n rdy => ⟨_, exec_xoffSend n rdy s⟩
  | .xoffRepeat n rdy => ⟨_, exec_xoffRepeat n rdy s⟩
  | .xonSend n rdy => ⟨_, exec_xonSend n rdy s⟩
  | .lpiEntry n us => ⟨_, exec_lpiEntry n us s⟩
  | .rxLpiEntry n => ⟨_, exec_rxLpiEntry n s⟩
  | .rxLpiExit n => ⟨_, exec_rxLpiExit n s⟩
  | .upmLinkChange n level => ⟨_, exec_upmLinkChange n level s⟩
  | .upmCfgWrite n w => ⟨_, exec_upmCfgWrite n w s⟩
  | .upmFcThrWrite n w => ⟨_, exec_upmFcThrWrite n w s⟩
  | .preEnWrite n w => ⟨_, exec_preEnWrite n w s⟩
  | .qscFlush w => ⟨_, exec_qscFlush w s⟩
  | .spillWriteDone c num r => ⟨_, exec_spillWriteDone c num r s⟩
  | .spillFetchStart c => ⟨_, exec_spillFetchStart c s⟩
  | .spillFetchDone c r => ⟨_, exec_spillFetchDone c r s⟩
  | .qscPoolCfgWrite k w => ⟨_, exec_qscPoolCfgWrite k w s⟩
  | .pwrPondCfgWrite w => ⟨_, exec_pwrPondCfgWrite w s⟩
  | .hrgDbWq f w => ⟨_, exec_hrgDbWq f w s⟩
  | .hrgDbCq f w => ⟨_, exec_hrgDbCq f w s⟩
  | .hrgDbAwq f w => ⟨_, exec_hrgDbAwq f w s⟩
  | .hrgDbAcq f w => ⟨_, exec_hrgDbAcq f w s⟩
  | .hrgFuncRst f w => ⟨_, exec_hrgFuncRst f w s⟩
  | .funcrstN f => ⟨_, exec_funcrstN f s⟩
  | .funcResetDone f => ⟨_, exec_funcResetDone f s⟩
  | .wqeFetchDone q words c => ⟨_, exec_wqeFetchDone q words c s⟩
  | .wqeTake q up => ⟨_, exec_wqeTake q up s⟩
  | .sendDataReadDone q idx data c => ⟨_, exec_sendDataReadDone q idx data c s⟩
  | .completionWriteDone q idx c => ⟨_, exec_completionWriteDone q idx c s⟩
  | .ringHeaderWrite n => ⟨_, exec_ringHeaderWrite n s⟩
  | .hostIdxReread q => ⟨_, exec_hostIdxReread q s⟩
  | .hostIdxReadDone q v c => ⟨_, exec_hostIdxReadDone q v c s⟩
  | .rxDeliver q up => ⟨_, exec_rxDeliver q up s⟩
  | .rxDataWriteDone q idx c => ⟨_, exec_rxDataWriteDone q idx c s⟩
  | .storeEntryWrite q up => ⟨_, exec_storeEntryWrite q up s⟩
  | .qctxCreateWq w => ⟨_, exec_qctxCreateWq w s⟩
  | .qctxCreateCq w => ⟨_, exec_qctxCreateCq w s⟩
  | .qctxDestroyWq w => ⟨_, exec_qctxDestroyWq w s⟩
  | .qctxDestroyCq w => ⟨_, exec_qctxDestroyCq w s⟩
  | .adminNop f e => ⟨_, exec_adminNop f e s⟩
  | .getInfo f e => ⟨_, exec_getInfo f e s⟩
  | .createCq f e => ⟨_, exec_createCq f e s⟩
  | .destroyCq f e => ⟨_, exec_destroyCq f e s⟩
  | .createWq f e => ⟨_, exec_createWq f e s⟩
  | .destroyWq f e => ⟨_, exec_destroyWq f e s⟩
  | .queryQ f e => ⟨_, exec_queryQ f e s⟩
  | .tableWrite f e record r => ⟨_, exec_tableWrite f e record r s⟩
  | .tableDelete f e record r => ⟨_, exec_tableDelete f e record r s⟩
  | .accCommit f e => ⟨_, exec_accCommit f e s⟩
  | .eeeWake f e => ⟨_, exec_eeeWake f e s⟩
  | .sleepReq f e => ⟨_, exec_sleepReq f e s⟩
  | .statsSnap f e r => ⟨_, exec_statsSnap f e r s⟩
  | .adminUnknown f e => ⟨_, exec_adminUnknown f e s⟩
  | .slcGo c w => ⟨_, exec_slcGo c w s⟩
  | .slcStop c w => ⟨_, exec_slcStop c w s⟩
  | .slcResume c w => ⟨_, exec_slcResume c w s⟩
  | .slcKick c w => ⟨_, exec_slcKick c w s⟩
  | .slcClear c w => ⟨_, exec_slcClear c w s⟩
  | .slcCfgWrite c prog w => ⟨_, exec_slcCfgWrite c prog w s⟩
  | .slcMove c => ⟨_, exec_slcMove c s⟩
  | .slcGather c => ⟨_, exec_slcGather c s⟩
  | .slcLoop c => ⟨_, exec_slcLoop c s⟩
  | .slcWait c => ⟨_, exec_slcWait c s⟩
  | .slcSignal c at' => ⟨_, exec_slcSignal c at' s⟩
  | .slcEnd c => ⟨_, exec_slcEnd c s⟩
  | .slcBadInstruction c => ⟨_, exec_slcBadInstruction c s⟩
  | .slcInstructionRetire c => ⟨_, exec_slcInstructionRetire c s⟩
  | .slcReadResponse c burst data codes => ⟨_, exec_slcReadResponse c burst data codes s⟩
  | .slcWriteResponse c burst r fbeat => ⟨_, exec_slcWriteResponse c burst r fbeat s⟩
  | .slcWaitSatisfied c => ⟨_, exec_slcWaitSatisfied c s⟩
  | .slcWaitTimeout c => ⟨_, exec_slcWaitTimeout c s⟩
  | .slcDescriptor c => ⟨_, exec_slcDescriptor c s⟩
  | .slcPollReread c => ⟨_, exec_slcPollReread c s⟩
  | .slcFlagSet w => ⟨_, exec_slcFlagSet w s⟩
  | .slcFlagClr w => ⟨_, exec_slcFlagClr w s⟩
  | .eventRecordWrite => ⟨_, exec_eventRecordWrite s⟩
  | .eventRecordDone q idx c => ⟨_, exec_eventRecordDone q idx c s⟩
  | .evqCiWrite q w => ⟨_, exec_evqCiWrite q w s⟩
  | .evqRearm n w => ⟨_, exec_evqRearm n w s⟩
  | .evqQCfgWrite q w => ⟨_, exec_evqQCfgWrite q w s⟩
  | .evqFaultClear q w => ⟨_, exec_evqFaultClear q w s⟩
  | .evqSwsrcWrite w => ⟨_, exec_evqSwsrcWrite w s⟩
  | .evqSrcWrite n w => ⟨_, exec_evqSrcWrite n w s⟩
  | .mbDoorbell n w => ⟨_, exec_mbDoorbell n w s⟩
  | .mb1Ack w => ⟨_, exec_mb1Ack w s⟩
  | .mb1NoticePost text => ⟨_, exec_mb1NoticePost text s⟩
  | .mbUnknownType n ty seq body => ⟨_, exec_mbUnknownType n ty seq body s⟩
  | .curInfo => ⟨_, exec_curInfo s⟩
  | .curPatch => ⟨_, exec_curPatch s⟩
  | .docentLoad => ⟨_, exec_docentLoad s⟩
  | .docentStop => ⟨_, exec_docentStop s⟩
  | .seqPatch => ⟨_, exec_seqPatch s⟩
  | .svnRaise => ⟨_, exec_svnRaise s⟩
  | .aclSet => ⟨_, exec_aclSet s⟩
  | .funcReset => ⟨_, exec_funcReset s⟩
  | .imageFetchDone image r => ⟨_, exec_imageFetchDone image r s⟩
  | .boot romOk => ⟨_, exec_boot romOk s⟩
  | .docentReady => ⟨_, exec_docentReady s⟩
  | .getVersion => ⟨_, exec_getVersion s⟩
  | .adminSetup => ⟨_, exec_adminSetup s⟩
  | .adminTeardown v r => ⟨_, exec_adminTeardown v r s⟩
  | .noticeMask => ⟨_, exec_noticeMask s⟩
  | .mb0Ping => ⟨_, exec_mb0Ping s⟩
  | .twinCtlAttach => ⟨_, exec_twinCtlAttach s⟩
  | .twinCtlDetach => ⟨_, exec_twinCtlDetach s⟩
  | .twinCtlSwitchover => ⟨_, exec_twinCtlSwitchover s⟩
  | .termInfo => ⟨_, exec_termInfo s⟩
  | .keyNew slot => ⟨_, exec_keyNew slot s⟩
  | .keyBcast gen wrapped => ⟨_, exec_keyBcast gen wrapped s⟩
  | .kekRotate gen wrapped => ⟨_, exec_kekRotate gen wrapped s⟩
  | .tstWrite cmd tid => ⟨_, exec_tstWrite cmd tid s⟩
  | .vote dom vote => ⟨_, exec_vote dom vote s⟩
  | .mpuViolation => ⟨_, exec_mpuViolation s⟩
  | .wdogKick w => ⟨_, exec_wdogKick w s⟩
  | .watchdogExpiry => ⟨_, exec_watchdogExpiry s⟩
  | .autoRestart => ⟨_, exec_autoRestart s⟩
  | .mb3Send ty body => ⟨_, exec_mb3Send ty body s⟩
  | .mb3Timeout => ⟨_, exec_mb3Timeout s⟩
  | .pairHello resp seq status w1 w2 => ⟨_, exec_pairHello resp seq status w1 w2 s⟩
  | .allocMap resp seq status w1 => ⟨_, exec_allocMap resp seq status w1 s⟩
  | .switchPropose resp seq status w1 => ⟨_, exec_switchPropose resp seq status w1 s⟩
  | .switchDone resp seq status => ⟨_, exec_switchDone resp seq status s⟩
  | .mb3Detach resp seq status => ⟨_, exec_mb3Detach resp seq status s⟩
  | .mb3Ping resp seq status w1 => ⟨_, exec_mb3Ping resp seq status w1 s⟩
  | .stgSelWrite w => ⟨_, exec_stgSelWrite w s⟩
  | .stagedWrite off w => ⟨_, exec_stagedWrite off w s⟩
  | .stgOpen n w => ⟨_, exec_stgOpen n w s⟩
  | .stgCheck n w => ⟨_, exec_stgCheck n w s⟩
  | .stgCheckArm n w => ⟨_, exec_stgCheckArm n w s⟩
  | .stgCancel n w => ⟨_, exec_stgCancel n w s⟩
  | .stgApplyWrite n w => ⟨_, exec_stgApplyWrite n w s⟩
  | .stagingDrainDone n => ⟨_, exec_stagingDrainDone n s⟩
  | .intervalRecordSigned => ⟨_, exec_intervalRecordSigned s⟩
  | .bindDs => ⟨_, exec_bindDs s⟩
  | .bindUs => ⟨_, exec_bindUs s⟩
  | .setInterval => ⟨_, exec_setInterval s⟩
  | .setPulse => ⟨_, exec_setPulse s⟩
  | .archiveClear => ⟨_, exec_archiveClear s⟩
  | .clockCheck aonNs => ⟨_, exec_clockCheck aonNs s⟩
  | .keyRotate => ⟨_, exec_keyRotate s⟩
  | .readAccount => ⟨_, exec_readAccount s⟩
  | .readTotals => ⟨_, exec_readTotals s⟩
  | .readIntervals => ⟨_, exec_readIntervals s⟩
  | .ackIntervals => ⟨_, exec_ackIntervals s⟩
  | .readSnapshot => ⟨_, exec_readSnapshot s⟩
  | .readLog => ⟨_, exec_readLog s⟩
  | .readIdent => ⟨_, exec_readIdent s⟩
  | .vcmdUnknown => ⟨_, exec_vcmdUnknown s⟩
  | .sealOpen => ⟨_, exec_sealOpen s⟩
  | .sealClose => ⟨_, exec_sealClose s⟩
  | .sealWindowEnd => ⟨_, exec_sealWindowEnd s⟩
  | .vitPulseStart => ⟨_, exec_vitPulseStart s⟩
  | .vitPulseEnd => ⟨_, exec_vitPulseEnd s⟩
  | .vitRestore => ⟨_, exec_vitRestore s⟩
  | .vitOffCheckpoint => ⟨_, exec_vitOffCheckpoint s⟩
  | .pwrHvoteWrite w => ⟨_, exec_pwrHvoteWrite w s⟩
  | .pwrCvoteWrite w => ⟨_, exec_pwrCvoteWrite w s⟩
  | .domainPowerDownDone k => ⟨_, exec_domainPowerDownDone k s⟩
  | .domainPowerUpDone k up => ⟨_, exec_domainPowerUpDone k up s⟩
  | .dvfsStep => ⟨_, exec_dvfsStep s⟩
  | .avsAck => ⟨_, exec_avsAck s⟩
  | .avsTimeout => ⟨_, exec_avsTimeout s⟩
  | .avsLoop margins => ⟨_, exec_avsLoop margins s⟩
  | .pwrDvfsCtlWrite w => ⟨_, exec_pwrDvfsCtlWrite w s⟩
  | .pwrRegWrite w => ⟨_, exec_pwrRegWrite w s⟩
  | .pwrWatchCtlWrite w => ⟨_, exec_pwrWatchCtlWrite w s⟩
  | .watchEnter => ⟨_, exec_watchEnter s⟩
  | .watchSampleLead => ⟨_, exec_watchSampleLead s⟩
  | .stillReq w => ⟨_, exec_stillReq w s⟩
  | .offReq w => ⟨_, exec_offReq w s⟩
  | .entryHoldTimeout => ⟨_, exec_entryHoldTimeout s⟩
  | .aonTick sens => ⟨_, exec_aonTick sens s⟩
  | .lowPowerWake => ⟨_, exec_lowPowerWake s⟩
  | .wakeTimer => ⟨_, exec_wakeTimer s⟩
  | .vddAonLow lowest => ⟨_, exec_vddAonLow lowest s⟩
  | .aonBrownoutReset saveHeld => ⟨_, exec_aonBrownoutReset saveHeld s⟩
  | .vddCoreBrownout lowest => ⟨_, exec_vddCoreBrownout lowest s⟩
  | .twnEnWrite w => ⟨_, exec_twnEnWrite w s⟩
  | .twnCmdAttach w => ⟨_, exec_twnCmdAttach w s⟩
  | .twnCmdDetach w => ⟨_, exec_twnCmdDetach w s⟩
  | .twnCmdResync w => ⟨_, exec_twnCmdResync w s⟩
  | .tlBlockTx => ⟨_, exec_tlBlockTx s⟩
  | .tlBlockRx commas codeOk octets => ⟨_, exec_tlBlockRx commas codeOk octets s⟩
  | .heartbeatRx => ⟨_, exec_heartbeatRx s⟩
  | .heartbeatTimeout => ⟨_, exec_heartbeatTimeout s⟩
  | .detachTimeout => ⟨_, exec_detachTimeout s⟩
  | .mirrorReg => ⟨_, exec_mirrorReg s⟩
  | .mirrorTableOp => ⟨_, exec_mirrorTableOp s⟩
  | .mirrorCommit => ⟨_, exec_mirrorCommit s⟩
  | .mirrorBucket => ⟨_, exec_mirrorBucket s⟩
  | .mirrorStash => ⟨_, exec_mirrorStash s⟩
  | .mirrorChangeEnd => ⟨_, exec_mirrorChangeEnd s⟩
  | .mirrorBulkEnd => ⟨_, exec_mirrorBulkEnd s⟩
  | .mirrorSwap => ⟨_, exec_mirrorSwap s⟩
  | .mirrorAccession => ⟨_, exec_mirrorAccession s⟩
  | .obsSnapGo w => ⟨_, exec_obsSnapGo w s⟩
  | .pmcRunWrite w => ⟨_, exec_pmcRunWrite w s⟩
  | .pmcCfgWrite n w => ⟨_, exec_pmcCfgWrite n w s⟩
  | .pmcCntWrite n w => ⟨_, exec_pmcCntWrite n w s⟩
  | .pmcOvf n past => ⟨_, exec_pmcOvf n past s⟩
  | .traceTimeout n => ⟨_, exec_traceTimeout n s⟩
  | .traceRecordWrite => ⟨_, exec_traceRecordWrite s⟩
  | .traceRecordDone seq c => ⟨_, exec_traceRecordDone seq c s⟩
  | .trcCfgWrite w => ⟨_, exec_trcCfgWrite w s⟩
  | .trcSeedWrite w => ⟨_, exec_trcSeedWrite w s⟩
  | .trcCiWrite w => ⟨_, exec_trcCiWrite w s⟩
  | .bwCfgWrite w => ⟨_, exec_bwCfgWrite w s⟩
  | .porst => ⟨_, exec_porst s⟩
  | .blkrst => ⟨_, exec_blkrst s⟩
  | .curatorEccReset up => ⟨_, exec_curatorEccReset up s⟩
  | .acfTimeout kind => ⟨_, exec_acfTimeout kind s⟩
  | .registerWrite off w => ⟨_, exec_registerWrite off w s⟩
  | .docentHalt => ⟨_, exec_docentHalt s⟩
  | .docentErrorReport up => ⟨_, exec_docentErrorReport up s⟩
  | .offSensorSample sens => ⟨_, exec_offSensorSample sens s⟩
  | .ringHeaderWriteDone n c => ⟨_, exec_ringHeaderWriteDone n c s⟩
  | .flushDone => ⟨_, exec_flushDone s⟩
  | .registerRead a off at' => ⟨_, exec_registerRead a off at' s⟩
  | .rogueConditionClear => ⟨_, exec_rogueConditionClear s⟩

end Sys2Proof.Machine
end

