-- ==== Sys2Proof/Tests/Slice0.lean ====
section
/-! SUPPORT. The model's own tests: for each statement of Certificates/Slice0/Obligations.lean with premises a named theorem
`witness_<statement>` that shows concrete states and operands that meet them together, one or more for each of its clauses; terms that
WellFormed refuses; and the values that the spec's own worked examples give. The expected values come from the spec, or, where a comment
says so, from the standards it names. -/

namespace Sys2Proof.Tests
open Machine
set_option Elab.async false
set_option linter.unusedVariables false

/-- Every domain on. -/
def awake : Dev := (List.range 32).foldl (fun d i => d.setI F.PWR_DOM_PSTATE (i + 1) 2) Dev.reset
/-- A state with an empty queue. -/
def S (d : Dev) : Machine.State := { pending := [], dev := d }
/-- A full write by host function 0; by Curator; by Docent. -/
def host (v : Nat) : RegWr := ⟨.host 0 false, 255, BitVec.ofNat 64 v⟩
def cur (v : Nat) : RegWr := ⟨.curator, 255, BitVec.ofNat 64 v⟩
def doc (v : Nat) : RegWr := ⟨.docent, 255, BitVec.ofNat 64 v⟩
/-- Every domain on, the core on the PLL. -/
def upPll : Dev := awake.set F.CKX_CORE_CTL_SRC 1
/-- A full write of the fields given. -/
def wr (a : Agent) (l : List (Fld × Nat)) : RegWr := ⟨a, 255, BitVec.ofNat 64 (l.foldl (fun n p => n + p.2 * 2 ^ p.1.lo) 0)⟩
def h0 : Agent := .host 0 false
/-- Every domain on, reception enabled. -/
def rx : Dev := awake.set F.TDS_CTL_RX_EN 1
/-- Information bits that begin with the octets given; zeros follow. -/
def infoOf (l : List Byte) : BitVec 15360 := BitVec.ofNat 15360 (ofBe l * 2 ^ (8 * (1920 - l.length)))
/-- A header with HCW = 1, TREV = 3, PCW_USED = 1, PSEQ 7, no grants and no messages, and its CRC. -/
def hdrInfo : BitVec 15360 :=
  let w : List Word := [BitVec.ofNat 64 (9 * 2 ^ 13 + 1 * 2 ^ 9 + 3 * 2 ^ 6), BitVec.ofNat 64 (1 * 2 ^ 35 + 7 * 2 ^ 27)]
  infoOf ((w.flatMap (fun x => beBytes 8 x.toNat)) ++ beBytes 4 (crc32Words w))
/-- A received frame with its header judged, and a payload codeword that begins with the octets given. -/
def rxf (l : List Byte) : RxFrame := { num := 1, cws := [(0, ⟨.decoded, hdrInfo⟩), (1, ⟨.decoded, infoOf l⟩)], hcw := 1, pcw := 1, judged := true, valid := true, sfc := 9 }
/-- Reception with the frame given as the one in work. -/
def dsOf (f : RxFrame) : Dev := { rx with ds := { rx.ds with frames := [f], frameNum := 1 } }
/-- An encapsulation header of 64 bits with LEN and the unfragmented-idle bit. -/
def encOf (len idle : Nat) : Nat := bchEncode ((len * 2 ^ 50 + idle * 2 ^ 31) / 2 ^ 26)
/-- An upstream page, a burst of it, and upstream with such bursts. -/
def page0 : UsPage := { sfc := 5, eqd := 0, gate := 3, prof := [⟨128, 256, 0x55555555, 0⟩], pseq := 0, ksel := 0, dly := 0, low := false, shed := false, origin := 0, ready := true }
def burst0 (st : BurstSt) : Burst := { id := 1, page := 0, grants := [0], first := 100, slots := 500, start := 3200, stop := 19200, disc := false, ranging := false, fec := false, prof := 0, st := st }
def usOf (l : List Burst) : Dev := { awake with us := { awake.us with pages := [(0, page0)], bursts := l, nextId := 2, holdover := false } }
/-- Grants 2 and 3 of page 0: grant 2 is slots 50 to 99, grant 3 as given. -/
def gts (entry start len : Nat) : Dev :=
  [2, 3, 127].foldl (fun d e => ((d.setIJ F.TUS_GT_START 0 e (if e = 2 then 50 else start)).setIJ F.TUS_GT_LEN 0 e (if e = 2 then 50 else len)).setIJ F.TUS_GT_ENTRY 0 e entry) awake
/-- A control message: its type, MSEQ 9, broadcast or by serial number (addr), the fields of words 0 and the words after it; received in frame 40, place 2. -/
def msg (ty addr w0 : Nat) (ws : List Word) : Msg :=
  (BitVec.ofNat 64 (addr * 2 ^ 62 + ty * 2 ^ 44 + 9 * 2 ^ 36 + w0) :: (ws ++ List.replicate 7 0).take 7) ++ [40, 2]
/-- A message at the head of the sequencer's buffer, in a terminal state; of Docent's queue. -/
def seqOf (st : Nat) (m : Msg) : Dev :=
  let d := (awake.set F.TST_STATE_STATE st).set F.SEQ_STAT_STATE 1
  { d with ds := { d.ds with seqMsgs := [m] } }
def docOf (st : Nat) (m : Msg) : Dev :=
  let d := (awake.set F.TST_STATE_STATE st).set F.MBX_FW_STAT_DSTATE 2
  { d with ds := { d.ds with docentMsgs := [m] } }
/-- A frame of 64 octets inside the block. -/
def frame0 (path : Nat) : Frame := { data := List.replicate 64 7, path := path }
/-- A port with its link awake, enabled. -/
def port0 : Dev := (awake.setI F.UPM_CFG_EN 0 1).portPut 0 { awake.port 0 with link := true }
/-- A flow-control frame with the opcode and the octets after it, and its FCS. -/
def macCtl (op : Nat) (l : List Byte) : List Byte :=
  withFcs ([0x01, 0x80, 0xC2, 0, 0, 1, 2, 2, 2, 2, 2, 2, 0x88, 8] ++ beBytes 2 op ++ l)
/-- The words of a frame or mPacket on the one lane of a port at 25 Gb/s. -/
def laneOf1 (smd : Nat) (l : List Byte) : List PortWord := (frameLanes smd l false).map (fun x => ⟨true, x.2, x.1, 5⟩)
/-- Port 0 with preemption received; octets followed by their mCRC. -/
def pre0 : Dev := port0.setI F.UPM_PRE_CFG_PRE_EN 0 1
def withMcrc (l : List Byte) : List Byte := l ++ leBytes 4 (mcrc l)
/-- Frames put into an egress class of port 0. -/
def egrIn (d : Dev) (i : Nat) (l : List Frame) : Dev := { d with qsc := { d.qsc with egr := d.qsc.egr.put i { frames := l } } }
/-- A data frame with n octets of payload, and its FCS. -/
def dataFrame (n : Nat) : List Byte := withFcs ([2, 1, 1, 1, 1, 1, 2, 2, 2, 2, 2, 2, 8, 0] ++ List.replicate n 5)
/-- Work queue 3 (TX) and 7 (RX), completion queue 5 and the admin pair of function 0, all of 16 places; PD27 on, the fabric wired. -/
def rings : Dev :=
  let d := (awake.set F.ID_INTEG_FAB_WIRED 1).set F.ID_INTEG_PORT_WIRED 15
  let d := [3, 7].foldl (fun d q => ((d.setI F.HRG_WQ_STAT_STATE q 1).setI F.HRG_WQ_STAT_CQ q 5).setI F.HRG_WQ_STAT_LOG2SIZE q 4) d
  let d := ((d.setI F.HRG_WQ_STAT_KIND 7 1).setI F.HRG_CQ_STAT_STATE 5 1).setI F.HRG_CQ_STAT_LOG2SIZE 5 4
  { d with hrg := { d.hrg with
    wq := [(3, { base := 0x1000, hdr := 0x2000, qlim := 0 }), (7, { base := 0x3000, hdr := 0x4000, qlim := 100 })]
    cq := [(5, { base := 0x5000, hdr := 0x6000 })]
    admin := [(0, { wqBase := 0x7000, wqHdr := 0x8000, wqLog := 4, cqBase := 0x9000, cqHdr := 0xA000, cqLog := 4 })] } }
/-- The rings with another content of queue 3; of completion queue 5. -/
def wq3 (x : WqCtx) : Dev := rings.wqPut 3 x
def wqc : WqCtx := { base := 0x1000, hdr := 0x2000, qlim := 0 }
def cq5 (x : CqCtx) : Dev := rings.cqPut 5 x
def cqc : CqCtx := { base := 0x5000, hdr := 0x6000 }
/-- A work entry: its operation, segments of 256 octets, and other fields of word 0. -/
def entry (op nseg w0 : Nat) : List Word :=
  [BitVec.ofNat 64 (op * 2 ^ 60 + nseg * 2 ^ 37 + w0), 1, 2, 3] ++ List.replicate 4 (BitVec.ofNat 64 (256 * 2 ^ 50 + 0x10000))
/-- A device that has issued a request of a kind, and that request. -/
def ask (d : Dev) (k : FabKind) : Dev := d.request { kind := k, write := kindWrites k, mstr := 0, func := 0, addr := 64, len := 64, data := [] }
def req0 (k : FabKind) : FabReq := { kind := k, write := kindWrites k, mstr := 0, func := 0, addr := 64, len := 64, data := [] }
/-- The rings with Docent running and an entry in the admin work queue of function 0. -/
def adm (d : Dev) : Dev :=
  let d := d.set F.MBX_FW_STAT_DSTATE 2
  { d with hrg := { d.hrg with admin := [(0, { wqBase := 0x7000, wqHdr := 0x8000, wqLog := 4, cqBase := 0x9000, cqHdr := 0xA000, cqLog := 4, tail := 1 })] } }
/-- The pair as it stands, and the device, once Docent has taken the command e. -/
def admPair : AdminPair := { wqBase := 0x7000, wqHdr := 0x8000, wqLog := 4, cqBase := 0x9000, cqHdr := 0xA000, cqLog := 4, tail := 1 }
def admT (d : Dev) (e : AdminIn) : Dev :=
  let h := (({ adm d with hrg := { (adm d).hrg with turn := 0 } } : Dev).docentAccess false 0 (0xA000 + 8) 8 true).adminHost 0 e.hostIdx
  (h.docentAccess false 0 0x7000 64 true).adminPut 0 { admPair with head := 1 }
/-- An admin command with its parameters P0 to P3. -/
def admE (cmd : Nat) (p : List Word) : AdminIn := { words := [BitVec.ofNat 64 (cmd * 2 ^ 56), 77] ++ p, hostIdx := 0 }
/-- Every queue of a kind taken: the words of 1,024 status registers. -/
def full (off : Nat) (d : Dev) : Dev :=
  { d with regs := d.regs.filter (fun p => p.1 < off * 64) ++ (List.range 1024).map (fun q => ((off + 8 * q) * 64, 1)) ++ d.regs.filter (fun p => (off + 8 * 1024) * 64 ≤ p.1) }
/-- Mailbox n with a request of a type, of function 0, with body words; Curator at stage 5, Docent running. -/
def mb (d : Dev) (n ty : Nat) (ws : List Nat) : Dev :=
  let d := (((d.set F.MBX_BOOT_STAGE 5).set F.MBX_FW_STAT_DSTATE 2).setI F.MBX_STAT_OWNER n 1).setIJ F.MBX_AREA_DATA n 0 (ty * 2 ^ 16 + 8 * ws.length * 2 ^ 32)
  ws.zipIdx.foldl (fun d p => d.setIJ F.MBX_AREA_DATA n (p.2 + 1) p.1) d
/-- A checkpoint of the Vitrine, not one of an entry to Off; and one of such an entry. -/
def ckOn : VitCk := { accts := [], totals := Dev.reset.vit.totals, ticks := 5, sfc := 6, ivl := {}, pulseAcc := 0, pulseOwed := 0, off := false }
def ckOff : VitCk := { ckOn with off := true }
/-- Docent takes the command e from the pair of adm (the premise of AdminCommands). -/
theorem admTaken {d : Dev} {e : AdminIn} (h : (adm d).adminOpen 0 = true) (n : (adm d).adminTurn 0 = true)
    (k : ((({ adm d with hrg := { (adm d).hrg with turn := 0 } } : Dev).docentAccess false 0 (0xA000 + 8) 8 true).adminHost 0 e.hostIdx).hrg.admin.look 0 = some admPair) :
    (adm d).adminTaken 0 e admPair (admT d e) :=
  ⟨h, n, admPair, _, rfl, rfl, k, by decide, rfl⟩
/-- A mailbox command of the type and length waits for its owner. -/
abbrev mbHyp (s : Machine.State) (n ty len : Nat) : Prop :=
  s.dev.on 1 = true ∧ s.dev.f F.MBX_STAT_OWNER n ≠ 0 ∧
  (if n = 0 then s.dev.docentRuns = true else 4 ≤ s.dev.f F.MBX_BOOT_STAGE ∧ s.dev.f F.MBX_BOOT_STAGE ≤ 6 ∧ s.dev.fw.load = none) ∧
  bits (s.dev.f F.MBX_AREA_DATA n) 16 8 = ty ∧ bits (s.dev.f F.MBX_AREA_DATA n) 32 12 = len
/-- A sealed command reaches the Vitrine. -/
abbrev sealHyp (s : Machine.State) (len v : Nat) : Prop :=
  len ≠ 0 ∧ len % 8 = 0 ∧ s.dev.on 32 = true ∧ s.dev.vit.lost = false ∧ s.dev.f F.MBX_AREA_DATA 2 1 % 256 = v
/-- The row is the sealed command of the code. -/
abbrev sealRow (k : Nat) (i : Instr) : Prop :=
  k = 1 ∧ i = .bindDs ∨ k = 2 ∧ i = .bindUs ∨ k = 3 ∧ i = .setInterval ∨ k = 4 ∧ i = .setPulse ∨ k = 5 ∧ i = .archiveClear ∨ k = 7 ∧ i = .keyRotate
/-- A message is addressed here and is no duplicate. -/
abbrev msgHyp (d : Dev) (m : Msg) : Prop :=
  (msgAddr m = 2 → BitVec.toNat (List.getD m 1 0) = d.f F.TST_SERIAL_SN) ∧ d.dupOf m = none

/-- A CRC-32 register over bits, each step's value computed before the next (as the kernel evaluates it). -/
def crcNow : List Bool → Nat → Nat
  | [], a => a
  | b :: bs, 0 => crcNow bs (crcStep 32 poly32 0 b)
  | b :: bs, a + 1 => crcNow bs (crcStep 32 poly32 (a + 1) b)
theorem crcNow_eq (bs : List Bool) (a : Nat) : crcRun 32 poly32 a bs = crcNow bs a := by
  induction bs generalizing a with
  | nil => simp [crcRun, crcNow]
  | cons b bs h => cases a <;> simp only [crcNow, ← h] <;> rfl
theorem crc_now (l : List Byte) : crc32Octets l = 0xFFFFFFFF - crcNow (octetBits l) 0xFFFFFFFF := by
  rw [← crcNow_eq]; rfl

/-- The octets of a frame of the longest length. -/
def longest : List Byte := List.replicate 9600 0
theorem longest_length : longest.length = 9600 := List.length_replicate
theorem some_getD {α : Type} {o : Option α} {x : α} (h : o.isSome = true) : o = some (o.getD x) := by
  cases o with
  | none => simp at h
  | some y => rfl
theorem leaves_long (d : Dev) (f : Frame) (n : Nat) (h : f.data = longest) (e : tagEdit f.edit longest = some longest) :
    let r := d.leave f
    9600 < (withFcs (r.2.txTag n r.1)).length := by
  have t : isTpid (u16 longest 12) = false := by decide +kernel
  simp only [Dev.leave, h, e, Dev.txTag, t, withFcs, leBytes, List.length_append, List.length_cons, Bool.false_and]
  simp [longest_length]

theorem look_skip {A B : SMap Nat} {k : Nat} (h : ∀ p ∈ A, p.1 ≠ k) : SMap.look k (A ++ B) = SMap.look k B := by
  induction A with
  | nil => rfl
  | cons p A ih =>
    have := h p (by simp)
    simp only [List.cons_append, SMap.look, if_neg this]
    exact ih fun q hq => h q (by simp [hq])
theorem look_row (off : Nat) (B : SMap Nat) (n a q : Nat) (h : a ≤ q) (k : q < a + n) :
    SMap.look ((off + 8 * q) * 64) ((List.range' a n).map (fun q => ((off + 8 * q) * 64, 1)) ++ B) = some 1 := by
  induction n generalizing a with
  | zero => omega
  | succ n ih =>
    simp only [List.range'_succ, List.map_cons, List.cons_append, SMap.look]
    split
    · rfl
    · exact ih (a + 1) (by omega) (by omega)
/-- No queue is free where every status register of a kind reads STATE 1. -/
theorem full_none {d : Dev} {x : Fld} {off : Nat} {A B : SMap Nat} (aux : x.isAux = false)
    (key : ∀ q, x.key q 0 = (off + 8 * q) * 64) (low : ∀ p ∈ A, p.1 < off * 64)
    (h : d.regs = A ++ ((List.range 1024).map (fun q => ((off + 8 * q) * 64, 1)) ++ B)) : d.freeQueue x = none := by
  simp only [Dev.freeQueue, List.find?_eq_none, List.mem_range]
  intro q hq
  have e : d.f x q = 1 := by
    rw [Dev.f, aux, key, h]
    simp only [SMap.getD, Bool.false_eq_true, if_false]
    rw [look_skip fun p hp => by have := low p hp; omega, List.range_eq_range', look_row off B 1024 0 q (by omega) (by omega)]
    rfl
  simp [e]

/-- A twin link that is wired, the peer's Docent running; in a TSTATE; with the twin mirror enabled; and as the sink that is armed. -/
def twin : Dev := (awake.set F.ID_INTEG_TWIN_WIRED 1).set F.TWN_STAT_PEER_DOCENT 1
def twinAt (n : Nat) : Dev := twin.set F.TWN_STAT_STATE n
def twinOn : Dev := (twinAt 5).set F.TWN_CTL_EN 1
def twinSink : Dev := (twinOn.set F.TWN_STAT_FO_ARMED 1).set F.TWN_ROLE_ROLE 0

/-! Commands with an operand outside its range, one for each check of WellFormed. -/

theorem test_wf_refuses :
    ([.tick 0 0 16384 (List.replicate 6 none), .tick 0 0 0 [none], .clkStop 0 0 0, .clkStop 10 0 0, .clkStop 9 1 0, .clkReturn 1 6 0,
      .crossingAck 11, .codewordArrival 1356 0 [], .codewordArrival 0 0 [19], .codewordDecoded 4 0 0, .codewordDecoded 0 17 0,
      .reassemblyTimeout 4096, .seqMatchWrite 32 (host 0), .tusAllocWrite 512 (host 0), .classifyFrame 3 0 [], .clsPolWrite 8192 (host 0),
      .pauseTimerExpiry 4 0, .pauseTimerExpiry 0 8, .upmRxFrame 0 [⟨true, 0, 2 ^ 32, 5⟩], .spillFetchStart 4096,
      .qscPoolCfgWrite 16 (host 0), .hrgDbWq 4 (host 0), .wqeTake 1024 [], .wqeTake 0 [.keySlot 0 0]] : List Instr).all
      (fun c => !c.wf) = true := by
  decide +kernel

theorem test_wf_refuses_more :
    ([.domainPowerUpDone 0 [], .domainPowerUpDone 33 [], .hostIdxReread 1024, .hostIdxReread 2052, .slcGo 16 (host 0),
      .registerRead h0 4 0, .registerRead h0 0x400000 0, .keyNew 3, .evqCiWrite 8 (host 0), .evqRearm 2048 (host 0),
      .mbDoorbell 1 (host 0), .mbUnknownType 3 256 0 [], .stgOpen 4 (host 0), .vote 33 true, .offSensorSample [],
      .pmcCntWrite 8 (host 0)] : List Instr).all (fun c => !c.wf) = true := by
  decide

theorem test_wf_admits :
    ([.tick 0 0 16383 (List.replicate 6 none), .clkStop 9 5 0, .clkReturn 1 0 0, .codewordArrival 1355 0 [18], .codewordDecoded 3 16 0,
      .pauseTimerExpiry 3 7, .upmRxFrame 3 [⟨true, 2 ^ 512 - 1, 2 ^ 32 - 1, 5⟩], .domainPowerUpDone 32 [], .hostIdxReread 2051,
      .mbUnknownType 3 255 0 [], .registerRead h0 0x3FFFF8 0] : List Instr).all (fun c => c.wf) = true := by
  decide +kernel

/-! The premise of the statements about a step. -/

theorem witness_StepsDriveThePins :
    ∃ t, Machine.step { pending := [.pwrHvoteWrite (wr h0 [(F.PWR_HVOTE_VOTE, 0x7C7F800)])], dev := awake } = .next t := ⟨_, rfl⟩

theorem witness_IrqLevelAfterEveryStep :
    ∃ t, Machine.step { pending := [.evqRearm 2047 (host 0x80)], dev := awake } = .next t ∧ 7 < 8 := ⟨_, rfl, by decide⟩

/-! Values that the spec works out. -/

/-- The device after one command, from a device with an empty queue. -/
def ran (c : Instr) (d : Dev) : Dev :=
  match Machine.exec c (S d) with
  | .next t => t.dev
  | _ => d

/-- R73's example: p is 7, the cap 12 and S is 2. -/
theorem test_effort : effortP [[0, 64216, 0, 0, 0, 0, 29, 6, 3, 2]] = 7 := by decide

theorem test_slices :
    let d : Dev := (awake.set F.TDS_EFFORT_CAP 12).set F.PWR_DVFS_STAT_FPOINT 3
    ({ d with ds := { d.ds with loads := [(4, 1000)] } } : Dev).sliceCount = 2 := by decide

/-- R108's example: C(1,732) = 1,444 and C(3,032) = 2,456. -/
theorem test_infoSlots : infoSlots true 3032 1732 = 1444 ∧ infoSlots true 3032 3032 = 2456 := by decide

/-- R150's example: −3.5 ns over 64 ticks is −54.6875 ps a tick. -/
theorem test_slew : slewStep (-229376) * 10000 * 1000 = -546875 * 65536 := by decide

/-- R202's example: after 64 octets the gap is 16 with no credit and 8 with a credit of 4. -/
theorem test_gaps : gapFrom 64 12 = 16 ∧ gapFrom 64 (12 - 4) = 8 := by decide

/-- R237's example. -/
theorem test_pond :
    let d : Dev := (awake.set F.PWR_POND_CFG_BUDGET 608).set F.PWR_THERM_STAT_HOTTEST 117248
    refillNom 608 = 1187500 ∧ pondCap 608 = 19000000000 ∧ d.pondRefill = 653125 := by decide

theorem test_pond_low :
    pondState false 0 2375150000 19000000000 32 64 = 0 ∧ pondState false 0 2374703125 19000000000 32 64 = 1 ∧
    pondState false 1 4749999999 19000000000 32 64 = 1 ∧ pondState false 1 4750000000 19000000000 32 64 = 0 := by decide

/-- R250's example: the tail of a ring of 16 that wraps. -/
theorem test_ring_indices : idxSub 8 0x3FFF8 = 16 ∧ idxSub 9 0x3FFF8 = 17 ∧ idxSub 8 1 = 7 := by decide

/-- R250's example: tail 0_0008h is valid on the empty ring at 3_FFF8h, and 0_0009h is malformed. -/
theorem test_doorbell :
    let d : Dev := (rings.setI F.HRG_WQ_STAT_HEAD 3 0x3FFF8).setI F.HRG_WQ_STAT_TAIL 3 0x3FFF8
    (ran (.hrgDbWq 0 (wr h0 [(F.HRG_DB_WQ_QNUM, 3), (F.HRG_DB_WQ_IDX, 8)])) d).f F.HRG_WQ_STAT_TAIL 3 = 8 ∧
    (ran (.hrgDbWq 0 (wr h0 [(F.HRG_DB_WQ_QNUM, 3), (F.HRG_DB_WQ_IDX, 9)])) d).f F.HRG_WQ_STAT_TAIL 3 = 0x3FFF8 := by
  decide +kernel

/-- The addresses that chapter 21 works out. -/
theorem test_addresses :
    F.UPM_WPAT_CRC_CRC.key 2 9 / 64 = 0xA8230 ∧ F.TUS_GT_START.key 5 17 / 64 = 0x55488 ∧ F.QSC_FC_SHP_RATE.key 4095 0 / 64 = 0xD7FF8 ∧
    F.VIT_BIND_US_VALID.key 4095 0 / 64 = 0x1D0FF8 := by decide

/-- R524's writes: PWR_HVOTE votes on PD11 to PD18 and PD22 to PD26. -/
theorem test_hvote :
    let d : Dev := ran (.pwrHvoteWrite ⟨h0, 255, 0x7C7F800⟩) (Dev.reset.set F.ID_INTEG_PORT_WIRED 1)
    ((List.range 33).filter (fun k => k ≠ 0 ∧ bit (d.f F.PWR_HVOTE_VOTE) (k - 1))) = [11, 12, 13, 14, 15, 16, 17, 18, 22, 23, 24, 25, 26] := by
  decide +kernel

/-- R524's writes: UPM_CFG[0] = 5EE7h is EN, RATE 3 and the reset MAX_LEN. -/
theorem test_upm_cfg :
    let d : Dev := rings.set F.ID_INTEG_PORT0_MAXRATE 3
    let a : Dev := ran (.upmCfgWrite 0 ⟨h0, 255, 0x5EE6⟩) d
    let b : Dev := ran (.upmCfgWrite 0 ⟨h0, 255, 0x5EE7⟩) d
    a.f F.UPM_CFG_EN 0 = 0 ∧ a.f F.UPM_CFG_RATE 0 = 3 ∧ a.f F.UPM_CFG_MAX_LEN 0 = 0x5EE ∧ b.f F.UPM_CFG_EN 0 = 1 := by decide +kernel

/-- R524's writes: TDS_FLT[1] = 1_0123h, TDS_CTL = 1_0811h and TST_CTL = A1h keep the reset values of the other fields. -/
theorem test_filter :
    let d : Dev := ran (.tdsFltWrite 1 ⟨h0, 255, 0x10123⟩) awake
    d.f F.TDS_FLT_FTAG 1 = 0x123 ∧ d.f F.TDS_FLT_VALID 1 = 1 ∧ d.f F.TDS_FLT_ENC_REQ 1 = 0 ∧ d.f F.TDS_FLT_BCAST 1 = 0 := by
  decide +kernel

theorem test_rx_en :
    let d : Dev := ran (.rxEnWrite ⟨h0, 255, 0x10811⟩) awake
    d.f F.TDS_CTL_RX_EN = 1 ∧ d.f F.TDS_CTL_HUNT_THR = Dev.reset.f F.TDS_CTL_HUNT_THR ∧
    d.f F.TDS_CTL_SYNC_THR = Dev.reset.f F.TDS_CTL_SYNC_THR ∧ d.f F.TDS_CTL_RSM_TMO = Dev.reset.f F.TDS_CTL_RSM_TMO := by
  decide +kernel

theorem test_activate :
    let d : Dev := ran (.registerWrite 0x60008 ⟨h0, 255, 0xA1⟩) awake
    d.f F.TST_CTL_ACTIVATE = 1 ∧ d.f F.TST_CTL_TO_RANGE = 80 := by decide +kernel

/-- PWR_WATCH_CTL = 51h sets HOST_OK and keeps WLEAD at 20 µs (chapter 22). -/
theorem test_watch_ctl :
    let d : Dev := ran (.pwrWatchCtlWrite ⟨h0, 255, 0x51⟩) awake
    d.f F.PWR_WATCH_CTL_HOST_OK = 1 ∧ d.f F.PWR_WATCH_CTL_WLEAD = 20 := by decide +kernel

/-- EVQ_Q_CFG[0] = 61h gives EN, function 0 and LOG2SIZE 6 (chapter 22). -/
theorem test_evq_cfg :
    let d : Dev := ran (.evqQCfgWrite 0 ⟨h0, 255, 0x61⟩) rings
    d.f F.EVQ_Q_CFG_EN 0 = 1 ∧ d.f F.EVQ_Q_CFG_FUNC 0 = 0 ∧ d.f F.EVQ_Q_CFG_LOG2SIZE 0 = 6 := by decide +kernel

/-- A set of domains is off at reset but PD01 and PD32, and PD02 powers up (R489). -/
theorem test_reset_domains : Dev.reset.on 1 = true ∧ Dev.reset.on 32 = true ∧ Dev.reset.on 2 = false ∧ Dev.reset.on 27 = false := by decide

/-! Check values known from outside the spec: FCS and CRC-32C of the octets "123456789" (IEEE 802.3, RFC 3720), SHA-256 of
"abc" (FIPS 180-4), the AES-256 example of FIPS 197, and two of the GCM submission's examples under a zero key. -/

def digits : List Byte := [0x31, 0x32, 0x33, 0x34, 0x35, 0x36, 0x37, 0x38, 0x39]

theorem test_fcs : fcs digits = 0xCBF43926 := by decide +kernel
theorem test_crc32c : crc32c digits = 0xE3069283 := by decide +kernel
theorem test_sha256 :
    sha256 [0x61, 0x62, 0x63] = 0xBA7816BF8F01CFEA414140DE5DAE2223B00361A396177A9CB410FF61F20015AD := by decide +kernel

theorem test_aes :
    aesEnc (aesKeys 0x000102030405060708090A0B0C0D0E0F101112131415161718191A1B1C1D1E1F) 0x00112233445566778899AABBCCDDEEFF =
      0x8EA2B7CA516745BFEAFC49904B496089 := by decide +kernel
theorem test_gcm :
    gcmTag 0 0 [] [] = 0x530F8AFBC74536B9 ∧
    (gcmCrypt 0 0 (List.replicate 16 0)).map (·.toNat) = natOctets 16 0xCEA7403D4D606B6E074EC5D3BAF39D18 := by decide +kernel

/-- The BCH code of R82 corrects two errors. -/
theorem test_bch :
    let x : Nat := bchEncode 32
    bchDecode x = some (x, 0) ∧ bchDecode (x ^^^ 2 ^ 63 ^^^ 2 ^ 5) = some (x, 2) := by decide +kernel

/-! Premises of the statements, clause by clause. Each conjunct is one choice of states and operands; what a clause leaves free is not
mentioned. -/

theorem witness_SettlesOnly :
  (let x : Fld := F.ID_SCRATCH_DATA; let i : Nat := 0; let j : Nat := 0
   (x.isAux = false ∧ x.key i j / 64 ≠ 65568)) :=
  by decide +kernel

theorem witness_ResetLeaves :
  (let k : Nat := 32
   (k ≤ 32 ∧ 1 ≤ k)) :=
  by decide +kernel

theorem witness_FieldAssignment :
  (let x : Fld := F.PWR_DOM_PSTATE; let i : Nat := 3; let j : Nat := 0; let y : Fld := F.PWR_DOM_VOTES
   let k : Nat := 3; let l : Nat := 0
   ((y.isAux ≠ x.isAux ∨ y.key k l ≠ x.key i j))) :=
  by decide +kernel

theorem witness_AssignmentKeepsCanonicalForm :
  (let d : Dev := awake
   d.filesWf = true) :=
  by decide +kernel

theorem witness_UnpoweredDomainAccess :
  (let off : Nat := 0x80000
   let w : RegWr := host 5
   let s : Machine.State := S Dev.reset; let a : Agent := .docent; let f : Nat := 0; let n : Nat := 1
   (busOffset off = true ∧ (off < 1114112 ∨ 1130496 ≤ off) ∧ fldsAt off ≠ [] ∧ s.dev.reach w.agent = true ∧ (w.agent == Agent.docent && mpuWrite off) = false ∧ s.dev.denied w.agent = false ∧ s.dev.on (domainOf off) = false) ∧
   (busOffset off = true ∧ (off < 2093056 ∨ 2097152 ≤ off) ∧ fldsAt off ≠ [] ∧ s.dev.reach a = true ∧ (a == Agent.docent && mpuRead off) = false ∧ s.dev.denied a = false ∧ s.dev.on (domainOf off) = false) ∧
   (f < 4 ∧ n < 4 ∧ s.dev.reach w.agent = true ∧ s.dev.denied w.agent = false ∧ s.dev.on 27 = false)) ∧
  (let off : Nat := 0x80000
   let s : Machine.State := S (Dev.reset.set F.PWR_STATE_STATE 3); let f : Nat := 3; let n : Nat := 3
   busOffset off = true ∧ (s.dev.inStill = true ∨ s.dev.inOff = true) ∧ ((off < 1114112 ∨ 1130496 ≤ off)) ∧
   (f < 4 ∧ n < 4)) :=
  ⟨by decide +kernel,
   by decide +kernel⟩

theorem witness_UserPage :
  (let o : Nat := 0xFF8; let a : Agent := .docent
   let s : Machine.State := S awake; let off : Nat := 0x10
   let f : Fin 4 := 0
   (o % 8 = 0 ∧ o < 4096 ∧ s.dev.inStill = false ∧ s.dev.inOff = false ∧ s.dev.reach a = true ∧ match a with | Agent.host f u => u = false ∨ bit (s.dev.f F.OBS_CTL_UACC) ↑f = true | x => True) ∧
   (busOffset off = true ∧ s.dev.inStill = false ∧ s.dev.inOff = false ∧ s.dev.reach (Agent.host f true) = true ∧ (off < 2093056 ∨ 2097152 ≤ off ∨ bit (s.dev.f F.OBS_CTL_UACC) ↑f = false)) ∧
   (busOffset off = true ∧ s.dev.inStill = false ∧ s.dev.inOff = false ∧ s.dev.reach (Agent.host f true) = true)) :=
  by decide +kernel

theorem witness_AccessCodesBitByBit :
  (let d : Dev := awake; let x : Fld := F.ID_SCRATCH_DATA; let i : Nat := 0; let j : Nat := 0; let b : Nat := 63
   x.lo + x.w ≤ 64 ∧ b < x.w ∧ d.f x i j < 2 ^ x.w ∧ x.acc = Acc.rw) ∧
  (let d : Dev := awake.set F.PWR_STATE_CTL_REFUSED 1; let x : Fld := F.PWR_STATE_CTL_REFUSED; let i : Nat := 0
   let j : Nat := 0; let b : Nat := 0; let y : Fld := F.ID_SCRATCH_DATA; let k : Nat := 1; let l : Nat := 0
   x.lo + x.w ≤ 64 ∧ b < x.w ∧ d.f x i j < 2 ^ x.w ∧ (x.acc = Acc.w1c) ∧ ((y.isAux ≠ x.isAux ∨ y.key k l ≠ x.key i j))) ∧
  (let d : Dev := awake; let x : Fld := F.PWR_STATE_STATE; let i : Nat := 0; let j : Nat := 0; let b : Nat := 0
   x.lo + x.w ≤ 64 ∧ b < x.w ∧ d.f x i j < 2 ^ x.w ∧
   (x.acc = Acc.ro ∨ x.acc = Acc.rc ∨ x.acc = Acc.wo ∨ x.acc = Acc.st ∨ x.acc = Acc.se)) :=
  ⟨by decide +kernel,
   by decide +kernel,
   by decide +kernel⟩

theorem witness_RegisterWriteAndReadComplete :
  (let w : RegWr := host 5
   let s : Machine.State := S awake; let a : Agent := .docent; let off : Nat := 0x28
   (s.dev.reach w.agent = true ∧ (w.agent == Agent.docent && mpuWrite 16) = false ∧ s.dev.denied w.agent = false ∧ s.dev.on (domainOf 16) = true ∧ w.mask = 255) ∧
   (s.dev.reach a = true ∧ (a == Agent.docent && mpuWrite 16) = false ∧ s.dev.denied a = false ∧ s.dev.on (domainOf 16) = true) ∧
   (s.dev.reach a = true ∧ (a == Agent.docent && mpuWrite 65560) = false ∧ s.dev.denied a = false ∧ s.dev.on (domainOf 65560) = true) ∧
   ((off = 40 ∨ off = 131328 ∨ off = 131336 ∨ off = 4194296) ∧ s.dev.reach w.agent = true ∧ s.dev.denied w.agent = false)) :=
  by decide +kernel

theorem witness_RowsAreRegisterWrites :
  (let f : Nat := 3
   (f < 4)) :=
  by decide +kernel

theorem witness_AcfTimeoutIsFault :
  (let k : FabKind := .wqFetch 3
   let r : FabReq := { kind := .wqFetch 3, write := false, mstr := 0, func := 1, addr := 64, len := 64, data := [] }
   let s : Machine.State := S (awake.request { kind := .wqFetch 3, write := false, mstr := 0, func := 1, addr := 64, len := 64, data := [] })
   let d : Dev := { awake with fab := { awake.fab with late := [(.wqFetch 3, 1)] } }
   (s.dev.outstanding k = some r) ∧ (d.outstanding k = none ∧ (k, 1) ∈ d.fab.late ∧ d.xUp 6 = true)) :=
  by decide +kernel

theorem witness_TickDutiesInOrder :
  (let dt : Nat := 125000 * 65536; let lag : Nat := 3
   let s : Machine.State := S (upPll.set F.TDS_SYNC_STAT_STATE 2); let src : Nat := s.dev.tickSource
   let late : ℤ := ↑(lag * 16)
   let gone : ℤ := s.dev.tickIdeal src dt + late
   s.dev.onPll = true ∧ s.dev.inStill = false ∧ s.dev.inOff = false ∧ s.dev.lagOk lag = true ∧ 0 < gone) :=
  by decide +kernel

theorem witness_TickLatches :
  (let src : Nat := 1; let st : Bool := true
   let s : Machine.State := S awake
   (src < 4 ∧ (st = true)) ∧ (s.dev.onPll = false)) ∧
  (let src : Nat := 2
   src < 4 ∧ src = 2) ∧
  (let src : Nat := 3
   src < 4 ∧ src = 3) ∧
  (let d : Dev := { upPll with clk := { upPll.clk with ref := some 5, first := false, relock := false } }
   let t : ℤ := 5
   (d.clk.ref = some t ∧ d.clk.relock = false) ∧ (d.clk.first = false)) ∧
  (let d : Dev := { upPll with clk := { upPll.clk with ref := none, refAgo := 7 } }
   d.clk.ref = none) ∧
  (let d : Dev := { upPll with clk := { upPll.clk with relock := true, relockRef := 5 } }; let since : Nat := 5
   d.clk.relock = true ∧
   let t : ℤ := d.clk.relockRef + 1600 * 65536
   (t < d.tickIdeal 1 since)) :=
  ⟨by decide +kernel,
   by decide +kernel,
   by decide +kernel,
   by decide +kernel,
   by decide +kernel,
   by decide +kernel⟩

theorem witness_CoreClockCommands :
  (let w : RegWr := cur 0x1
   let s : Machine.State := S awake
   w.agent = Agent.curator ∧ s.dev.reach w.agent = true ∧ (w.agent == Agent.docent && mpuWrite 65568) = false ∧
   s.dev.denied w.agent = false ∧ s.dev.on (domainOf 65568) = true ∧ w.fld F.CKX_CORE_CTL_SRC = 0 ∧
   w.fld F.CKX_CORE_CTL_PLL_EN = 1) ∧
  (let s : Machine.State := S (awake.set F.CKX_CORE_CTL_PLL_EN 1)
   s.dev.f F.CKX_CORE_CTL_PLL_EN ≠ 0) ∧
  (let w : RegWr := cur 0x3
   let s : Machine.State := S ((awake.set F.CKX_CORE_CTL_PLL_EN 1).set F.CKX_CORE_CTL_LOCK 1)
   w.agent = Agent.curator ∧ s.dev.reach w.agent = true ∧ (w.agent == Agent.docent && mpuWrite 65568) = false ∧
   s.dev.denied w.agent = false ∧ s.dev.on (domainOf 65568) = true ∧ w.fld F.CKX_CORE_CTL_SRC = 1 ∧
   s.dev.onPll = false ∧ w.fld F.CKX_CORE_CTL_PLL_EN = 1 ∧ s.dev.f F.CKX_CORE_CTL_LOCK ≠ 0) ∧
  (let w : RegWr := cur 0x3
   let s : Machine.State := S (awake.set F.CKX_CORE_CTL_PLL_EN 1)
   w.agent = Agent.curator ∧ s.dev.reach w.agent = true ∧ (w.agent == Agent.docent && mpuWrite 65568) = false ∧
   s.dev.denied w.agent = false ∧ s.dev.on (domainOf 65568) = true ∧ w.fld F.CKX_CORE_CTL_SRC = 1 ∧
   s.dev.onPll = false ∧ w.fld F.CKX_CORE_CTL_PLL_EN = 1 ∧ s.dev.f F.CKX_CORE_CTL_LOCK = 0) ∧
  (let w : RegWr := host 0x3
   let s : Machine.State := S (awake.set F.CKX_CORE_CTL_PLL_EN 1)
   w.agent ≠ Agent.curator ∧ s.dev.reach w.agent = true ∧ (w.agent == Agent.docent && mpuWrite 65568) = false ∧
   s.dev.denied w.agent = false ∧ s.dev.on (domainOf 65568) = true ∧ w.fld F.CKX_CORE_CTL_SRC = 1) ∧
  (let w : RegWr := host 0x1
   let s : Machine.State := S (awake.set F.CKX_CORE_CTL_PLL_EN 1)
   w.agent ≠ Agent.curator ∧ s.dev.reach w.agent = true ∧ (w.agent == Agent.docent && mpuWrite 65568) = false ∧
   s.dev.denied w.agent = false ∧ s.dev.on (domainOf 65568) = true ∧ w.fld F.CKX_CORE_CTL_SRC = 0 ∧
   w.fld F.CKX_CORE_CTL_PLL_EN = 1) :=
  ⟨by decide +kernel,
   by decide +kernel,
   by decide +kernel,
   by decide +kernel,
   by decide +kernel,
   by decide +kernel⟩

theorem witness_ClocksStopAndReturn :
  (let c : Nat := 9
   let s : Machine.State := S (awake.set F.ID_INTEG_TWIN_WIRED 1)
   (1 ≤ c ∧ c < 10 ∧ bit s.dev.clk.stopped c = false) ∧ (bit s.dev.clk.stopped 0 = false)) ∧
  (let c : Nat := 9
   let s : Machine.State := S { awake with clk := { awake.clk with stopped := 0x201 } }
   (1 ≤ c ∧ c < 10 ∧ bit s.dev.clk.stopped c = true) ∧ (bit s.dev.clk.stopped 0 = true)) :=
  ⟨by decide +kernel,
   by decide +kernel⟩

theorem witness_CrossingHandshake :
  (let x : Nat := 10
   let s : Machine.State := S awake; let n : Nat := 1
   (x ≤ 10 ∧ s.dev.on 1 = true) ∧ (n ≠ 0 ∧ x ≤ 10)) ∧
  (let x : Nat := 10
   let s : Machine.State := S ((awake.set F.CKX_XSTAT_PEER_RESET 1024).set F.CKX_XSTAT_HANDSHAKE 1024)
   (x ≤ 10 ∧ s.dev.on 1 = true ∧ (bit (s.dev.f F.CKX_XSTAT_PEER_RESET) x = true ∨ bit s.dev.clk.xRestart x = true)) ∧
   (x ≤ 10 ∧ bit (s.dev.f F.CKX_XSTAT_HANDSHAKE) x = true)) :=
  ⟨by decide +kernel,
   by decide +kernel⟩

theorem witness_DomainFollowsVotes :
  (let d : Dev := awake; let k : Nat := 32
   1 ≤ k ∧ k ≤ 32 ∧
   let p : Nat := d.f F.PWR_DOM_PSTATE k
   ((p = 0 ∧ ¬((d.votes k ≠ 0 ∧ ¬(d.f F.MBX_BOOT_STAGE = 7 ∧ 2 ≤ k)) ∧ d.mayRise k = true) ∨ p = 2 ∧ d.votes k ≠ 0 ∧ ¬(d.f F.MBX_BOOT_STAGE = 7 ∧ 2 ≤ k) ∨ p = 3 ∧ ¬(d.votes k ≠ 0 ∧ ¬(d.f F.MBX_BOOT_STAGE = 7 ∧ 2 ≤ k)) ∨ p = 1))) ∧
  (let d : Dev := awake; let k : Nat := 20; let j : Nat := 32
   1 ≤ k ∧ k ≤ 32 ∧
   let p : Nat := d.f F.PWR_DOM_PSTATE k
   (p = 2 ∧ ¬(d.votes k ≠ 0 ∧ ¬(d.f F.MBX_BOOT_STAGE = 7 ∧ 2 ≤ k))) ∧ (j ≤ 32 ∧ j ≠ k)) ∧
  (let d : Dev := Dev.reset.setI F.PWR_DOM_PSTATE 1 3; let k : Nat := 1
   1 ≤ k ∧ k ≤ 32 ∧
   let p : Nat := d.f F.PWR_DOM_PSTATE k
   p = 3 ∧ d.votes k ≠ 0 ∧ ¬(d.f F.MBX_BOOT_STAGE = 7 ∧ 2 ≤ k)) ∧
  (let d : Dev := (Dev.reset.set F.PWR_HVOTE_VOTE 0x2).setI F.PWR_DOM_PSTATE 2 0; let k : Nat := 2
   1 ≤ k ∧ k ≤ 32 ∧
   let p : Nat := d.f F.PWR_DOM_PSTATE k
   p = 0 ∧ d.votes k ≠ 0 ∧ ¬(d.f F.MBX_BOOT_STAGE = 7 ∧ 2 ≤ k) ∧ d.mayRise k = true) :=
  ⟨by decide +kernel,
   by decide +kernel,
   by decide +kernel,
   by decide +kernel⟩

theorem witness_VoteCommands :
  (let w : RegWr := host 0x80000002
   let s : Machine.State := S awake
   (w.agent.isHost = true ∧ s.dev.reach w.agent = true ∧ (w.agent == Agent.docent && mpuWrite 131176) = false ∧ s.dev.denied w.agent = false ∧ s.dev.on (domainOf 131176) = true) ∧
   (w.agent ≠ Agent.curator ∧ s.dev.reach w.agent = true ∧ (w.agent == Agent.docent && mpuWrite 131184) = false ∧ s.dev.denied w.agent = false ∧ s.dev.on (domainOf 131184) = true)) ∧
  (let w : RegWr := cur 0x80000002
   let s : Machine.State := S (awake.set F.PWR_CVOTE_VOTE 0xF)
   (w.agent = Agent.curator ∧ s.dev.reach w.agent = true ∧ (w.agent == Agent.docent && mpuWrite 131184) = false ∧ s.dev.denied w.agent = false ∧ s.dev.on (domainOf 131184) = true) ∧
   (w.agent.isHost = false ∧ s.dev.reach w.agent = true ∧ (w.agent == Agent.docent && mpuWrite 131176) = false ∧ s.dev.denied w.agent = false ∧ s.dev.on (domainOf 131176) = true)) ∧
  (let k : Nat := 32
   let s : Machine.State := S (awake.set F.MBX_FW_STAT_DSTATE 2)
   1 ≤ k ∧ k ≤ 32 ∧ s.dev.docentRuns = true ∧ s.dev.on 1 = true) :=
  ⟨by decide +kernel,
   by decide +kernel,
   by decide +kernel⟩

theorem witness_DomainSwitches :
  (let k : Nat := 31
   let s : Machine.State := S (awake.setI F.PWR_DOM_PSTATE 31 3); let x : Fld := F.PWR_STATE_STATE; let i : Nat := 0
   let j : Nat := 0
   (1 ≤ k ∧ k ≤ 32 ∧ s.dev.f F.PWR_DOM_PSTATE k = 3) ∧ (domainOf (x.key i j / 64) ≠ k)) ∧
  (let k : Nat := 11
   let s : Machine.State := S (awake.setI F.PWR_DOM_PSTATE 11 1); let x : Fld := F.CLS_UPD_STAT_ERR; let i : Nat := 0
   let j : Nat := 0
   (1 ≤ k ∧ k ≤ 32 ∧ s.dev.f F.PWR_DOM_PSTATE k = 1) ∧
   (domainOf (x.key i j / 64) = k ∧ keyKeep (x.key i j) = Keep.lost)) :=
  ⟨by decide +kernel,
   by decide +kernel⟩

theorem witness_FrequencyAndVoltage :
  (let s : Machine.State := S upPll
   let margins : List Nat := [64]
   (s.dev.onPll = true) ∧ (s.dev.f F.PWR_AVS_CTL_EN ≠ 0 ∧ s.dev.onPll = true ∧ margins ≠ [])) ∧
  (let s : Machine.State := S { (upPll.set F.PWR_AVS_CTL_EN 1) with pwr := { awake.pwr with avsWait := true } }
   s.dev.pwr.avsWait = true) :=
  ⟨by decide +kernel,
   by decide +kernel⟩

theorem witness_PowerRegisterWrites :
  (let w : RegWr := wr h0 [(F.PWR_DVFS_CTL_MANUAL, 1), (F.PWR_DVFS_CTL_FPOINT, 4), (F.PWR_DVFS_CTL_VPOINT, 4)]
   let s : Machine.State := S upPll
   (s.dev.reach w.agent = true ∧ (w.agent == Agent.docent && mpuWrite 131088) = false ∧ s.dev.denied w.agent = false ∧ s.dev.on (domainOf 131088) = true ∧ let d : Dev := s.dev; let oldF : Nat := d.f F.PWR_DVFS_CTL_FPOINT; let oldV : Nat := d.f F.PWR_DVFS_CTL_VPOINT; let newF : Nat := w.merged F.PWR_DVFS_CTL_FPOINT oldF; let newV : Nat := w.merged F.PWR_DVFS_CTL_VPOINT oldV; (newF = oldF ∨ w.merged F.PWR_DVFS_CTL_MANUAL (d.f F.PWR_DVFS_CTL_MANUAL) = 1 ∧ newF ≤ 4 ∧ d.pwr.ackPoint ≤ newF ∧ (d.f F.PWR_POND_LVL_STATE = 2 → newF = 4)) ∧ (newV = oldV ∨ w.merged F.PWR_DVFS_CTL_MANUAL (d.f F.PWR_DVFS_CTL_MANUAL) = 1 ∧ newV ≤ 4 ∧ newV ≤ d.f F.PWR_DVFS_STAT_FPOINT ∧ (d.f F.PWR_POND_LVL_STATE = 2 → newV = 4))) ∧
   (s.dev.reach w.agent = true ∧ (w.agent == Agent.docent && mpuWrite 131128) = false ∧ s.dev.denied w.agent = false ∧ s.dev.on (domainOf 131128) = true ∧ let load : Nat := (266 + if w.merged F.PWR_REG_STILL_REFCLK (s.dev.f F.PWR_REG_STILL_REFCLK) = 1 then 80 else 0) + 5 * List.countP (fun n => bit (s.dev.f F.PWR_WAKE_CFG_LINK_PORTS) n) (List.range 4); (load ≤ 360 ∨ load ≤ s.dev.load)) ∧
   (s.dev.reach w.agent = true ∧ (w.agent == Agent.docent && mpuWrite 131136) = false ∧ s.dev.denied w.agent = false ∧ s.dev.on (domainOf 131136) = true ∧ let a : Dev := (s.dev.put F.PWR_WATCH_CTL_HOST_OK w).put F.PWR_WATCH_CTL_WLEAD w; let b : Dev := (if w.agent = Agent.docent then a.put F.PWR_WATCH_CTL_DOCENT_REQ w else a); ¬(w.mask.getLsbD 0 = true ∧ (b.f F.PWR_WATCH_CTL_HOST_OK = 0 ∨ b.f F.PWR_WATCH_CTL_DOCENT_REQ = 0) ∧ b.f F.PWR_WATCH_STAT_PHASE ≠ 0)) ∧
   (s.dev.reach w.agent = true ∧ (w.agent == Agent.docent && mpuWrite 133120) = false ∧ s.dev.denied w.agent = false ∧ s.dev.on (domainOf 133120) = true ∧ let b : Nat := w.merged F.PWR_POND_CFG_BUDGET (s.dev.f F.PWR_POND_CFG_BUDGET); let lo : Nat := w.merged F.PWR_POND_CFG_LWM (s.dev.f F.PWR_POND_CFG_LWM); let hi : Nat := w.merged F.PWR_POND_CFG_HWM (s.dev.f F.PWR_POND_CFG_HWM); (b < 128 ∨ 1024 < b ∨ hi ≤ lo))) ∧
  (let w : RegWr := wr h0 [(F.PWR_DVFS_CTL_MANUAL, 1), (F.PWR_DVFS_CTL_FPOINT, 3), (F.PWR_DVFS_CTL_VPOINT, 4)]
   let s : Machine.State := S upPll
   s.dev.reach w.agent = true ∧ (w.agent == Agent.docent && mpuWrite 131088) = false ∧ s.dev.denied w.agent = false ∧
   s.dev.on (domainOf 131088) = true ∧
   let d : Dev := s.dev
   let oldF : Nat := d.f F.PWR_DVFS_CTL_FPOINT
   let oldV : Nat := d.f F.PWR_DVFS_CTL_VPOINT
   let newF : Nat := w.merged F.PWR_DVFS_CTL_FPOINT oldF
   let newV : Nat := w.merged F.PWR_DVFS_CTL_VPOINT oldV
   ¬(newF = oldF ∨ w.merged F.PWR_DVFS_CTL_MANUAL (d.f F.PWR_DVFS_CTL_MANUAL) = 1 ∧ newF ≤ 4 ∧ d.pwr.ackPoint ≤ newF ∧ (d.f F.PWR_POND_LVL_STATE = 2 → newF = 4)) ∧
   (newV = oldV ∨ w.merged F.PWR_DVFS_CTL_MANUAL (d.f F.PWR_DVFS_CTL_MANUAL) = 1 ∧ newV ≤ 4 ∧ newV ≤ d.f F.PWR_DVFS_STAT_FPOINT ∧ (d.f F.PWR_POND_LVL_STATE = 2 → newV = 4))) ∧
  (let w : RegWr := wr h0 [(F.PWR_DVFS_CTL_MANUAL, 1), (F.PWR_DVFS_CTL_FPOINT, 4), (F.PWR_DVFS_CTL_VPOINT, 5)]
   let s : Machine.State := S upPll
   s.dev.reach w.agent = true ∧ (w.agent == Agent.docent && mpuWrite 131088) = false ∧ s.dev.denied w.agent = false ∧
   s.dev.on (domainOf 131088) = true ∧
   let d : Dev := s.dev
   let oldF : Nat := d.f F.PWR_DVFS_CTL_FPOINT
   let oldV : Nat := d.f F.PWR_DVFS_CTL_VPOINT
   let newF : Nat := w.merged F.PWR_DVFS_CTL_FPOINT oldF
   let newV : Nat := w.merged F.PWR_DVFS_CTL_VPOINT oldV
   (newF = oldF ∨ w.merged F.PWR_DVFS_CTL_MANUAL (d.f F.PWR_DVFS_CTL_MANUAL) = 1 ∧ newF ≤ 4 ∧ d.pwr.ackPoint ≤ newF ∧ (d.f F.PWR_POND_LVL_STATE = 2 → newF = 4)) ∧
   ¬(newV = oldV ∨ w.merged F.PWR_DVFS_CTL_MANUAL (d.f F.PWR_DVFS_CTL_MANUAL) = 1 ∧ newV ≤ 4 ∧ newV ≤ d.f F.PWR_DVFS_STAT_FPOINT ∧ (d.f F.PWR_POND_LVL_STATE = 2 → newV = 4))) ∧
  (let w : RegWr := wr h0 [(F.PWR_DVFS_CTL_MANUAL, 1), (F.PWR_DVFS_CTL_FPOINT, 3), (F.PWR_DVFS_CTL_VPOINT, 5)]
   let s : Machine.State := S upPll
   s.dev.reach w.agent = true ∧ (w.agent == Agent.docent && mpuWrite 131088) = false ∧ s.dev.denied w.agent = false ∧
   s.dev.on (domainOf 131088) = true ∧
   let d : Dev := s.dev
   let oldF : Nat := d.f F.PWR_DVFS_CTL_FPOINT
   let oldV : Nat := d.f F.PWR_DVFS_CTL_VPOINT
   let newF : Nat := w.merged F.PWR_DVFS_CTL_FPOINT oldF
   let newV : Nat := w.merged F.PWR_DVFS_CTL_VPOINT oldV
   ¬(newF = oldF ∨ w.merged F.PWR_DVFS_CTL_MANUAL (d.f F.PWR_DVFS_CTL_MANUAL) = 1 ∧ newF ≤ 4 ∧ d.pwr.ackPoint ≤ newF ∧ (d.f F.PWR_POND_LVL_STATE = 2 → newF = 4)) ∧
   ¬(newV = oldV ∨ w.merged F.PWR_DVFS_CTL_MANUAL (d.f F.PWR_DVFS_CTL_MANUAL) = 1 ∧ newV ≤ 4 ∧ newV ≤ d.f F.PWR_DVFS_STAT_FPOINT ∧ (d.f F.PWR_POND_LVL_STATE = 2 → newV = 4))) ∧
  (let w : RegWr := wr h0 [(F.PWR_REG_STILL_REFCLK, 1)]
   let s : Machine.State := S (awake.set F.PWR_WAKE_CFG_LINK_PORTS 7)
   s.dev.reach w.agent = true ∧ (w.agent == Agent.docent && mpuWrite 131128) = false ∧ s.dev.denied w.agent = false ∧
   s.dev.on (domainOf 131128) = true ∧
   let load : Nat := (266 + if w.merged F.PWR_REG_STILL_REFCLK (s.dev.f F.PWR_REG_STILL_REFCLK) = 1 then 80 else 0) + 5 * List.countP (fun n => bit (s.dev.f F.PWR_WAKE_CFG_LINK_PORTS) n) (List.range 4)
   360 < load ∧ s.dev.load < load) ∧
  (let w : RegWr := wr h0 [(F.PWR_WATCH_CTL_HOST_OK, 1)]
   let s : Machine.State := S (awake.set F.PWR_WATCH_STAT_PHASE 1)
   s.dev.reach w.agent = true ∧ (w.agent == Agent.docent && mpuWrite 131136) = false ∧ s.dev.denied w.agent = false ∧
   s.dev.on (domainOf 131136) = true ∧
   let a : Dev := (s.dev.put F.PWR_WATCH_CTL_HOST_OK w).put F.PWR_WATCH_CTL_WLEAD w
   let b : Dev := (if w.agent = Agent.docent then a.put F.PWR_WATCH_CTL_DOCENT_REQ w else a)
   w.mask.getLsbD 0 = true ∧ (b.f F.PWR_WATCH_CTL_HOST_OK = 0 ∨ b.f F.PWR_WATCH_CTL_DOCENT_REQ = 0) ∧
   b.f F.PWR_WATCH_STAT_PHASE ≠ 0) ∧
  (let w : RegWr := wr h0 [(F.PWR_POND_CFG_BUDGET, 128), (F.PWR_POND_CFG_LWM, 0), (F.PWR_POND_CFG_HWM, 1)]
   let s : Machine.State := S awake
   s.dev.reach w.agent = true ∧ (w.agent == Agent.docent && mpuWrite 133120) = false ∧ s.dev.denied w.agent = false ∧
   s.dev.on (domainOf 133120) = true ∧
   let b : Nat := w.merged F.PWR_POND_CFG_BUDGET (s.dev.f F.PWR_POND_CFG_BUDGET)
   let lo : Nat := w.merged F.PWR_POND_CFG_LWM (s.dev.f F.PWR_POND_CFG_LWM)
   let hi : Nat := w.merged F.PWR_POND_CFG_HWM (s.dev.f F.PWR_POND_CFG_HWM)
   128 ≤ b ∧ b ≤ 1024 ∧ lo < hi) :=
  ⟨by decide +kernel,
   by decide +kernel,
   by decide +kernel,
   by decide +kernel,
   by decide +kernel,
   by decide +kernel,
   by decide +kernel⟩

theorem witness_MillpondAdvances :
  (let d : Dev := awake; let old : Nat := 0
   (d.f F.PWR_POND_CFG_BUDGET ≤ 1024) ∧
   (let t : ℤ := d.z F.PWR_THERM_STAT_HOTTEST; let s : ℤ := d.z F.PWR_POND_THERM_T_SOFT; t ≤ s) ∧ (old ≤ 2)) ∧
  (let d : Dev := awake.set F.PWR_THERM_STAT_HOTTEST 0x1E000; let old : Nat := 1
   (let t : ℤ := d.z F.PWR_THERM_STAT_HOTTEST; let s : ℤ := d.z F.PWR_POND_THERM_T_SOFT; let h : ℤ := d.z F.PWR_POND_THERM_T_HARD; s < t ∧ h ≤ t) ∧
   (old ≤ 2 ∧ old ≠ 0)) ∧
  (let d : Dev := awake.set F.PWR_THERM_STAT_HOTTEST 0x1C123
   let t : ℤ := d.z F.PWR_THERM_STAT_HOTTEST
   let s : ℤ := d.z F.PWR_POND_THERM_T_SOFT
   let h : ℤ := d.z F.PWR_POND_THERM_T_HARD
   s < t ∧ t < h) :=
  ⟨by decide +kernel,
   by decide +kernel,
   by decide +kernel⟩

theorem witness_WatchCommands :
  (let s : Machine.State := S ([2, 4, 8, 9, 10].foldl (fun d k => d.setI F.PWR_DOM_PSTATE k 0) (awake.set F.PWR_WATCH_STAT_PHASE 4))
   (s.dev.f F.PWR_WATCH_STAT_PHASE = 4 ∧ (∀ k ∈ [2, 4, 8, 9, 10], s.dev.f F.PWR_DOM_PSTATE k = 0)) ∧
   (s.dev.sampledFrame (s.dev.clk.sfc + 1) = true ∧ let ph : Nat := s.dev.f F.PWR_WATCH_STAT_PHASE; (ph = 2 ∨ ph = 4))) ∧
  (let s : Machine.State := S (awake.set F.PWR_WATCH_STAT_PHASE 1)
   s.dev.sampledFrame (s.dev.clk.sfc + 1) = true ∧
   let ph : Nat := s.dev.f F.PWR_WATCH_STAT_PHASE
   ph = 1) ∧
  (let s : Machine.State := S { (((awake.set F.PWR_STATE_STATE 2).set F.PWR_WAKE_CFG_TIMER 1).set F.PWR_WAKE_CFG_EN 128) with pwr := { awake.pwr with timer := 1 } }
   2 ≤ s.dev.f F.PWR_STATE_STATE ∧ s.dev.f F.PWR_WAKE_CFG_TIMER ≠ 0 ∧ s.dev.f F.PWR_WAKE_CFG_TIMER ≤ s.dev.pwr.timer ∧
   bit (s.dev.f F.PWR_WAKE_CFG_EN) 7 = true ∧ s.dev.pwr.exiting = false ∧ s.dev.f F.PWR_WATCH_STAT_PHASE ≠ 5) :=
  ⟨by decide +kernel,
   by decide +kernel,
   by decide +kernel⟩

theorem witness_StillAndOffCommands :
  (let t : Nat := 3
   let w : RegWr := wr h0 [(F.PWR_STATE_CTL_REQ, 3)]
   let s : Machine.State := S awake
   (t = 3 ∧ Instr.stillReq (wr h0 [(F.PWR_STATE_CTL_REQ, 3)]) = Instr.stillReq w ∨ t = 4 ∧ Instr.stillReq (wr h0 [(F.PWR_STATE_CTL_REQ, 3)]) = Instr.offReq w) ∧
   (w.agent.isHost = true ∨ w.agent = Agent.curator) ∧ s.dev.reach w.agent = true ∧
   (w.agent == Agent.docent && mpuWrite 131080) = false ∧ s.dev.denied w.agent = false ∧
   s.dev.on (domainOf 131080) = true ∧ w.fld F.PWR_STATE_CTL_REQ = t ∧
   let d : Dev := s.dev.put F.PWR_STATE_CTL_REFUSED w
   let why : Nat := (if d.f F.TST_STATE_STATE ≠ 0 ∧ d.f F.TST_STATE_STATE ≠ 6 then 1 else if 360 < d.load then 2 else if d.pwr.entry ≠ EntrySt.none ∨ d.f F.PWR_STATE_ENTERING ≠ 0 then 4 else 0)
   why = 0) ∧
  (let t : Nat := 4
   let w : RegWr := wr .curator [(F.PWR_STATE_CTL_REQ, 4)]
   let s : Machine.State := S { ((awake.set F.TST_STATE_STATE 1).set F.MBX_FW_STAT_DSTATE 2) with pwr := { awake.pwr with entry := .holds 4 } }
   ((t = 3 ∧ Instr.offReq (wr Agent.curator [(F.PWR_STATE_CTL_REQ, 4)]) = Instr.stillReq w ∨ t = 4 ∧ Instr.offReq (wr Agent.curator [(F.PWR_STATE_CTL_REQ, 4)]) = Instr.offReq w) ∧ (w.agent.isHost = true ∨ w.agent = Agent.curator) ∧ s.dev.reach w.agent = true ∧ (w.agent == Agent.docent && mpuWrite 131080) = false ∧ s.dev.denied w.agent = false ∧ s.dev.on (domainOf 131080) = true ∧ w.fld F.PWR_STATE_CTL_REQ = t ∧ let d : Dev := s.dev.put F.PWR_STATE_CTL_REFUSED w; let why : Nat := (if d.f F.TST_STATE_STATE ≠ 0 ∧ d.f F.TST_STATE_STATE ≠ 6 then 1 else if 360 < d.load then 2 else if d.pwr.entry ≠ EntrySt.none ∨ d.f F.PWR_STATE_ENTERING ≠ 0 then 4 else 0); why ≠ 0) ∧
   (s.dev.pwr.entry = EntrySt.holds t)) ∧
  (let c : Nat := 9
   let s : Machine.State := S { (awake.set F.PWR_STATE_STATE 3) with pwr := { awake.pwr with latched := some 9 } }
   ((s.dev.inStill = true ∨ s.dev.inOff = true) ∧ s.dev.pwr.latched = some c ∧ s.dev.pwr.exiting = false ∧ s.dev.pwr.avsWait = false) ∧
   (s.dev.inStill = true)) ∧
  (let s : Machine.State := S (awake.set F.PWR_STATE_STATE 4)
   s.dev.inOff = true) :=
  ⟨by decide +kernel,
   by decide +kernel,
   by decide +kernel,
   by decide +kernel⟩

theorem witness_ResetCommands :
  (let s : Machine.State := S ((awake.set F.PWR_REG_MODE 1).set F.VIT_CFG_LEN 7)
   (s.dev.inStill = false ∧ s.dev.inOff = false) ∧ (s.dev.pwr.avsWait = false ∧ s.dev.f F.PWR_DVFS_STAT_AVS_REQ ≠ 0) ∧
   (s.dev.f F.PWR_REG_MODE ≠ 0)) ∧
  (let s : Machine.State := S ((awake.set F.PWR_STATE_STATE 3).set F.PWR_DVFS_STAT_AVS_REQ 9)
   (s.dev.inStill = true ∨ s.dev.inOff = true)) :=
  ⟨by decide +kernel,
   by decide +kernel⟩

theorem witness_BlockResetLeaves :
  (let d : Dev := (awake.set F.RST_CAUSE_BLK_COUNT 255).set F.VIT_CFG_LEN 7; let cause : Fld := F.RST_CAUSE_STILL_EXIT
   let k : Nat := 31; let x : Fld := F.VIT_CFG_LEN; let i : Nat := 0; let j : Nat := 0
   cause ∈ [F.RST_CAUSE_BLK_PIN, F.RST_CAUSE_CURATOR_ECC, F.RST_CAUSE_CORE_BO, F.RST_CAUSE_STILL_EXIT, F.RST_CAUSE_OFF_EXIT] ∧
   (1 ≤ k ∧ k ≤ 31) ∧
   (x.isAux = false ∧ x.key i j / 64 ≠ 65792 ∧ x.key i j ≠ F.TST_STATE_STATE.key 0 0 ∧ x.key i j ≠ F.TUS_CTL_TX_INHIBIT.key 0 0 ∧ x.key i j ≠ F.MBX_BOOT_STAGE.key 0 0) ∧
   (d.f F.TST_STATE_HALT_LATCH = 0)) ∧
  (let d : Dev := awake.set F.TST_STATE_HALT_LATCH 1; let cause : Fld := F.RST_CAUSE_BLK_PIN
   cause ∈ [F.RST_CAUSE_BLK_PIN, F.RST_CAUSE_CURATOR_ECC, F.RST_CAUSE_CORE_BO, F.RST_CAUSE_STILL_EXIT, F.RST_CAUSE_OFF_EXIT] ∧
   d.f F.TST_STATE_HALT_LATCH ≠ 0) :=
  ⟨by decide +kernel,
   by decide +kernel⟩

theorem witness_SyncStateMachine :
  (let at' : Nat := 1000; let pos : Nat := 5
   let block : BitVec 256 := 0
   let invalid : List Nat := []; let los : Bool := true
   let s : Machine.State := S rx
   let w : RegWr := wr h0 []
   (s.dev.on 3 = true ∧ s.dev.xUp 0 = true ∧ let d : Dev := { s.dev with pins := { s.dev.pins with dsLos := los } }.countN F.TDS_CNT_SYNC_INVALID_WORDS invalid.length; d.f F.TDS_CTL_RX_EN ≠ 0 ∧ d.sampledFrame (d.clk.sfc + 1) = true ∧ let p : Nat := (if d.f F.TDS_SYNC_STAT_STATE = 0 then pos % 1024 else d.clk.expPos); let dist : Nat := popCount 256 (zeroWords 256 (1023 - p) invalid block.toNat ^^^ syncPattern); let lost : Bool := los || d.dsStopped; let m : Dev := { d with clk := { d.clk with ref := some ↑(at' + (1023 - p) * 32768 / 100), expPos := (p + 960) % 1024 } }; d.f F.TDS_SYNC_STAT_STATE = 0 ∧ lost = true) ∧
   (s.dev.reach w.agent = true ∧ (w.agent == Agent.docent && mpuWrite 262144) = false ∧ s.dev.denied w.agent = false ∧ s.dev.on (domainOf 262144) = true ∧ let d : Dev := (((s.dev.put F.TDS_CTL_RX_EN w).put F.TDS_CTL_HUNT_THR w).put F.TDS_CTL_SYNC_THR w).put F.TDS_CTL_RSM_TMO w; d.f F.TDS_CTL_RX_EN = 0)) ∧
  (let at' : Nat := 1000; let pos : Nat := 5
   let block : BitVec 256 := BitVec.ofNat 256 syncPattern
   let invalid : List Nat := []; let los : Bool := false
   let s : Machine.State := S rx
   let w : RegWr := wr h0 [(F.TDS_CTL_RX_EN, 1), (F.TDS_CTL_RSM_TMO, 5)]
   (s.dev.on 3 = true ∧ s.dev.xUp 0 = true ∧ let d : Dev := { s.dev with pins := { s.dev.pins with dsLos := los } }.countN F.TDS_CNT_SYNC_INVALID_WORDS invalid.length; d.f F.TDS_CTL_RX_EN ≠ 0 ∧ d.sampledFrame (d.clk.sfc + 1) = true ∧ let p : Nat := (if d.f F.TDS_SYNC_STAT_STATE = 0 then pos % 1024 else d.clk.expPos); let dist : Nat := popCount 256 (zeroWords 256 (1023 - p) invalid block.toNat ^^^ syncPattern); let lost : Bool := los || d.dsStopped; let m : Dev := { d with clk := { d.clk with ref := some ↑(at' + (1023 - p) * 32768 / 100), expPos := (p + 960) % 1024 } }; d.f F.TDS_SYNC_STAT_STATE = 0 ∧ lost = false) ∧
   (s.dev.reach w.agent = true ∧ (w.agent == Agent.docent && mpuWrite 262144) = false ∧ s.dev.denied w.agent = false ∧ s.dev.on (domainOf 262144) = true ∧ let d : Dev := (((s.dev.put F.TDS_CTL_RX_EN w).put F.TDS_CTL_HUNT_THR w).put F.TDS_CTL_SYNC_THR w).put F.TDS_CTL_RSM_TMO w; d.f F.TDS_CTL_RX_EN ≠ 0)) ∧
  (let pos : Nat := 5
   let block : BitVec 256 := BitVec.ofNat 256 syncPattern
   let invalid : List Nat := []; let los : Bool := false
   let s : Machine.State := S ((rx.set F.TDS_SYNC_STAT_STATE 1).set F.TDS_SYNC_STAT_GOOD 2)
   s.dev.on 3 = true ∧ s.dev.xUp 0 = true ∧
   let d : Dev := { s.dev with pins := { s.dev.pins with dsLos := los } }.countN F.TDS_CNT_SYNC_INVALID_WORDS invalid.length
   d.f F.TDS_CTL_RX_EN ≠ 0 ∧ d.sampledFrame (d.clk.sfc + 1) = true ∧
   let p : Nat := (if d.f F.TDS_SYNC_STAT_STATE = 0 then pos % 1024 else d.clk.expPos)
   let dist : Nat := popCount 256 (zeroWords 256 (1023 - p) invalid block.toNat ^^^ syncPattern)
   let lost : Bool := los || d.dsStopped
   d.f F.TDS_SYNC_STAT_STATE = 1 ∧ dist ≤ d.f F.TDS_CTL_SYNC_THR ∧ lost = false) ∧
  (let pos : Nat := 5
   let block : BitVec 256 := BitVec.ofNat 256 syncPattern
   let invalid : List Nat := []; let los : Bool := true
   let s : Machine.State := S ((rx.set F.TDS_SYNC_STAT_STATE 1).set F.TDS_SYNC_STAT_GOOD 2)
   s.dev.on 3 = true ∧ s.dev.xUp 0 = true ∧
   let d : Dev := { s.dev with pins := { s.dev.pins with dsLos := los } }.countN F.TDS_CNT_SYNC_INVALID_WORDS invalid.length
   d.f F.TDS_CTL_RX_EN ≠ 0 ∧ d.sampledFrame (d.clk.sfc + 1) = true ∧
   let p : Nat := (if d.f F.TDS_SYNC_STAT_STATE = 0 then pos % 1024 else d.clk.expPos)
   let dist : Nat := popCount 256 (zeroWords 256 (1023 - p) invalid block.toNat ^^^ syncPattern)
   let lost : Bool := los || d.dsStopped
   d.f F.TDS_SYNC_STAT_STATE = 1 ∧ ¬(dist ≤ d.f F.TDS_CTL_SYNC_THR ∧ lost = false)) ∧
  (let pos : Nat := 5
   let block : BitVec 256 := BitVec.ofNat 256 syncPattern
   let invalid : List Nat := []; let los : Bool := false
   let s : Machine.State := S ((rx.set F.TDS_SYNC_STAT_STATE 2).set F.TDS_SYNC_STAT_BAD 2)
   s.dev.on 3 = true ∧ s.dev.xUp 0 = true ∧
   let d : Dev := { s.dev with pins := { s.dev.pins with dsLos := los } }.countN F.TDS_CNT_SYNC_INVALID_WORDS invalid.length
   d.f F.TDS_CTL_RX_EN ≠ 0 ∧ d.sampledFrame (d.clk.sfc + 1) = true ∧
   let p : Nat := (if d.f F.TDS_SYNC_STAT_STATE = 0 then pos % 1024 else d.clk.expPos)
   let dist : Nat := popCount 256 (zeroWords 256 (1023 - p) invalid block.toNat ^^^ syncPattern)
   let lost : Bool := los || d.dsStopped
   d.f F.TDS_SYNC_STAT_STATE = 2 ∧ dist ≤ d.f F.TDS_CTL_SYNC_THR ∧ lost = false) ∧
  (let pos : Nat := 5
   let block : BitVec 256 := BitVec.ofNat 256 syncPattern
   let invalid : List Nat := []; let los : Bool := true
   let s : Machine.State := S ((rx.set F.TDS_SYNC_STAT_STATE 2).set F.TDS_SYNC_STAT_BAD 3)
   s.dev.on 3 = true ∧ s.dev.xUp 0 = true ∧
   let d : Dev := { s.dev with pins := { s.dev.pins with dsLos := los } }.countN F.TDS_CNT_SYNC_INVALID_WORDS invalid.length
   d.f F.TDS_CTL_RX_EN ≠ 0 ∧ d.sampledFrame (d.clk.sfc + 1) = true ∧
   let p : Nat := (if d.f F.TDS_SYNC_STAT_STATE = 0 then pos % 1024 else d.clk.expPos)
   let dist : Nat := popCount 256 (zeroWords 256 (1023 - p) invalid block.toNat ^^^ syncPattern)
   let lost : Bool := los || d.dsStopped
   d.f F.TDS_SYNC_STAT_STATE = 2 ∧ ¬(dist ≤ d.f F.TDS_CTL_SYNC_THR ∧ lost = false)) :=
  ⟨by decide +kernel,
   by decide +kernel,
   by decide +kernel,
   by decide +kernel,
   by decide +kernel,
   by decide +kernel⟩

theorem witness_ReceptionCommands :
  (let n : Nat := 3
   let word : BitVec 18432 := 0
   let c : CwIn := { frame := 1, k := 1, word := 1, cap := 2 }
   let s : Machine.State := S { (rx.set F.TDS_SYNC_STAT_STATE 2) with ds := { rx.ds with slices := [none, none, none, some { frame := 1, k := 1, word := 1, cap := 2 }], unknown := [[5]], rsm := [(3, ⟨[1, 2], 8⟩)] } }
   let m : Msg := [5]
   let t : List Msg := []; let e : Nat := 3
   let r : Rsm := ⟨[1, 2], 8⟩
   (s.dev.ds.slices.getD n none = some c) ∧ (s.dev.ds.unknown = m :: t) ∧
   (SMap.look e s.dev.ds.rsm = some r ∧ max 1 (s.dev.f F.TDS_CTL_RSM_TMO) ≤ r.age)) ∧
  (let f : RxFrame := { rxf [] with judged := false, valid := false, hcw := 0, pcw := 0 }
   let s : Machine.State := S (dsOf { rxf [] with judged := false, valid := false, hcw := 0, pcw := 0 })
   List.find? (fun f => !f.judged) s.dev.ds.frames = some f ∧ f.waits = false ∧ f.done 0 = true ∧
   (f.useful = true → ∀ k < f.info.hcw, f.done k = true)) ∧
  (let f : RxFrame := rxf (beBytes 8 (encOf 4 0) ++ [1, 2, 3, 4])
   let h : Nat := encOf 4 0; let n : Nat := 0
   let up : List Upset := []
   let s : Machine.State := S (dsOf (rxf (beBytes 8 (encOf 4 0) ++ [1, 2, 3, 4])))
   (s.dev.containAll up).on 8 = true ∧
   List.find? (fun f => f.judged && !f.ended) (s.dev.containAll up).ds.frames = some f ∧ f.lock = true ∧
   f.pos + 8 ≤ f.area ∧ f.resolved f.pos (f.pos + 8) = true ∧ f.bad f.pos (f.pos + 8) = false ∧
   bchDecode (f.encHdr f.pos) = some (h, n) ∧ encValid h = true ∧
   let next : Nat := f.pos + 8 + bits h 50 14
   next ≤ f.area ∧ f.resolved f.pos next = true ∧ f.bad (f.pos + 8) next = false) ∧
  (let f : RxFrame := { rxf (beBytes 8 (encOf 4 0) ++ [1, 2, 3, 4] ++ beBytes 8 (encOf 0 1)) with lock := false }
   let s : Machine.State := S (dsOf { rxf (beBytes 8 (encOf 4 0) ++ [1, 2, 3, 4] ++ beBytes 8 (encOf 0 1)) with lock := false })
   s.dev.on 8 = true ∧ List.find? (fun f => f.judged && !f.ended) s.dev.ds.frames = some f ∧ f.lock = false ∧
   f.pos + 8 ≤ f.area ∧ f.resolved 0 f.area = true) ∧
  (let invalid : List Nat := [3]
   let raw : BitVec 18432 := 1
   let s : Machine.State := S rx
   (s.dev.on 3 = true ∧ s.dev.xUp 0 = true ∧ let p : Nat := s.dev.cwPhase; let z : Dev := s.dev.countN F.TDS_CNT_SYNC_INVALID_WORDS (List.filter (fun j => j != 0 || p == 0) invalid).length; z.sampledFrame z.rxSfc = true ∧ z.f F.TDS_SYNC_STAT_STATE ≠ 2)) ∧
  (let k : Nat := 1
   let invalid : List Nat := []
   let raw : BitVec 18432 := 5
   let s : Machine.State := S { (rx.set F.TDS_SYNC_STAT_STATE 2) with ds := { rx.ds with frames := [{ num := 1, next := 1, cws := [] }], frameNum := 1 } }
   let f : RxFrame := { num := 1, next := 1, cws := [] }
   s.dev.on 3 = true ∧ s.dev.xUp 0 = true ∧
   let p : Nat := s.dev.cwPhase
   let z : Dev := s.dev.countN F.TDS_CNT_SYNC_INVALID_WORDS (List.filter (fun j => j != 0 || p == 0) invalid).length
   z.sampledFrame z.rxSfc = true ∧
   let y : BitVec 18432 × BitVec 58 := descramble z.ds.descr (BitVec.ofNat 18432 (zeroWords 18432 p invalid raw.toNat))
   let a : Dev := { z with ds := { z.ds with descr := y.2 } }
   z.f F.TDS_SYNC_STAT_STATE = 2 ∧
   let d : Dev := (if k = 0 then a.rxBegin else a)
   d.rxFrame d.ds.frameNum = some f ∧ f.cut = false ∧ f.next = k ∧
   let r : Dev := d.rxSet f.num fun g => { g with next := k + 1 }
   let ended0 : Bool := Option.any (fun g => g.done 0) (r.rxFrame f.num)
   k ≠ 0 ∧ ended0 = false) ∧
  (let k : Nat := 1
   let invalid : List Nat := []
   let raw : BitVec 18432 := 5
   let s : Machine.State := S { (rx.set F.TDS_SYNC_STAT_STATE 2) with ds := { rx.ds with frames := [{ num := 1, next := 1, cws := [(0, ⟨.decoded, hdrInfo⟩)] }], frameNum := 1 } }
   let f : RxFrame := { num := 1, next := 1, cws := [(0, ⟨.decoded, hdrInfo⟩)] }
   s.dev.on 3 = true ∧ s.dev.xUp 0 = true ∧
   let p : Nat := s.dev.cwPhase
   let z : Dev := s.dev.countN F.TDS_CNT_SYNC_INVALID_WORDS (List.filter (fun j => j != 0 || p == 0) invalid).length
   z.sampledFrame z.rxSfc = true ∧
   let y : BitVec 18432 × BitVec 58 := descramble z.ds.descr (BitVec.ofNat 18432 (zeroWords 18432 p invalid raw.toNat))
   let a : Dev := { z with ds := { z.ds with descr := y.2 } }
   z.f F.TDS_SYNC_STAT_STATE = 2 ∧
   let d : Dev := (if k = 0 then a.rxBegin else a)
   d.rxFrame d.ds.frameNum = some f ∧ f.cut = false ∧ f.next = k ∧
   let r : Dev := d.rxSet f.num fun g => { g with next := k + 1 }
   let ended0 : Bool := Option.any (fun g => g.done 0) (r.rxFrame f.num)
   k ≠ 0 ∧ ended0 = true) ∧
  (let k : Nat := 0
   let invalid : List Nat := []
   let raw : BitVec 18432 := 5
   let s : Machine.State := S (rx.set F.TDS_SYNC_STAT_STATE 2)
   let f : RxFrame := (S (rx.set F.TDS_SYNC_STAT_STATE 2)).dev.rxBegin.ds.frames.getD 0 { num := 0 }
   s.dev.on 3 = true ∧ s.dev.xUp 0 = true ∧
   let p : Nat := s.dev.cwPhase
   let z : Dev := s.dev.countN F.TDS_CNT_SYNC_INVALID_WORDS (List.filter (fun j => j != 0 || p == 0) invalid).length
   z.sampledFrame z.rxSfc = true ∧
   let y : BitVec 18432 × BitVec 58 := descramble z.ds.descr (BitVec.ofNat 18432 (zeroWords 18432 p invalid raw.toNat))
   let a : Dev := { z with ds := { z.ds with descr := y.2 } }
   z.f F.TDS_SYNC_STAT_STATE = 2 ∧
   let d : Dev := (if k = 0 then a.rxBegin else a)
   d.rxFrame d.ds.frameNum = some f ∧ f.cut = false ∧ f.next = k ∧ k = 0) :=
  ⟨by decide +kernel,
   by decide +kernel,
   by decide +kernel,
   by decide +kernel,
   by decide +kernel,
   by decide +kernel,
   by decide +kernel,
   by decide +kernel⟩

theorem witness_StagingCommands :
  (let w : RegWr := wr h0 [(F.TDS_FLT_FTAG, 5), (F.TDS_FLT_VALID, 1)]
   let s : Machine.State := S awake; let n : Nat := 2
   (s.dev.reach w.agent = true ∧ (w.agent == Agent.docent && mpuWrite 1572864) = false ∧ s.dev.denied w.agent = false ∧ s.dev.on (domainOf 1572864) = true) ∧
   (n < 4096 ∧ s.dev.reach w.agent = true ∧ (w.agent == Agent.docent && mpuWrite (294912 + 8 * n)) = false ∧ s.dev.denied w.agent = false ∧ s.dev.on (domainOf (294912 + 8 * n)) = true ∧ s.dev.staging w.agent = false ∧ s.dev.applying (294912 + 8 * n) &&& w.bitMask = 0 ∧ s.dev.sinkGuards (294912 + 8 * n) w = false ∧ let tag : Nat := w.merged F.TDS_FLT_FTAG (s.dev.f F.TDS_FLT_FTAG n); let valid : Bool := w.merged F.TDS_FLT_VALID (s.dev.f F.TDS_FLT_VALID n) == 1; s.dev.idRefused fltTable n tag valid = false) ∧
   (n < 512 ∧ s.dev.reach w.agent = true ∧ (w.agent == Agent.docent && mpuWrite (331776 + 8 * n)) = false ∧ s.dev.denied w.agent = false ∧ s.dev.on (domainOf (331776 + 8 * n)) = true ∧ s.dev.staging w.agent = false ∧ s.dev.applying (331776 + 8 * n) &&& w.bitMask = 0 ∧ s.dev.sinkGuards (331776 + 8 * n) w = false ∧ let id : Nat := w.merged F.TUS_ALLOC_ALLOC_ID (s.dev.f F.TUS_ALLOC_ALLOC_ID n); let valid : Nat := w.merged F.TUS_ALLOC_VALID (s.dev.f F.TUS_ALLOC_VALID n); s.dev.idRefused allocTable n id (valid == 1) = false) ∧
   (n < 8192 ∧ s.dev.reach w.agent = true ∧ (w.agent == Agent.docent && mpuWrite (589824 + 8 * n)) = false ∧ s.dev.denied w.agent = false ∧ s.dev.on (domainOf (589824 + 8 * n)) = true ∧ s.dev.staging w.agent = false ∧ s.dev.applying (589824 + 8 * n) &&& w.bitMask = 0 ∧ s.dev.sinkGuards (589824 + 8 * n) w = false)) ∧
  (let off : Nat := 0x48000
   let w : RegWr := wr h0 [(F.TDS_FLT_FTAG, 5), (F.TDS_FLT_VALID, 1)]
   let s : Machine.State := S { ((awake.setI F.STG_STAT_STATE 1 1).setI F.STG_STAT_OWNER 1 2) with stg := { awake.stg with sel := [(2, 5)] } }
   s.dev.reach w.agent = true ∧ (w.agent == Agent.docent && mpuWrite off) = false ∧ s.dev.denied w.agent = false ∧
   s.dev.on (domainOf off) = true ∧ s.dev.staging w.agent = true ∧ stMask off ≠ 0 ∧ stCuratorOnly off = false ∧
   s.dev.sinkGuards off w = false ∧
   let t : Nat := s.dev.selOf w.agent % 4
   s.dev.stgState t = 1 ∧ s.dev.f F.STG_STAT_OWNER t = w.agent.code ∧
   ((SMap.look off (s.dev.stgSet t)).isSome = true ∨ List.length (s.dev.stgSet t) < stgCap t)) ∧
  (let n : Nat := 1
   let w : RegWr := wr h0 [(F.STG_CMD_OP, 1)]
   let s : Machine.State := S awake
   n < 3 ∧ s.dev.reach w.agent = true ∧ (w.agent == Agent.docent && mpuWrite (1573120 + 64 * n)) = false ∧
   s.dev.denied w.agent = false ∧ s.dev.on (domainOf (1573120 + 64 * n)) = true ∧ w.val % 8 = 1 ∧
   s.dev.stgState n = 0 ∧ stgMayOpen n w.agent.code = true) ∧
  (let n : Nat := 2
   let w : RegWr := wr .curator [(F.STG_CMD_OP, 2)]
   let s : Machine.State := S ((awake.setI F.STG_STAT_STATE 2 1).setI F.STG_APPLY_FRAME 2 70000)
   (n < 3 ∧ s.dev.reach w.agent = true ∧ (w.agent == Agent.docent && mpuWrite (1573120 + 64 * n)) = false ∧ s.dev.denied w.agent = false ∧ s.dev.on (domainOf (1573120 + 64 * n)) = true ∧ w.val % 8 = 2 ∧ s.dev.stgState n = 1 ∧ s.dev.f F.STG_STAT_OWNER n = w.agent.code) ∧
   (n < 4 ∧ s.dev.reach w.agent = true ∧ (w.agent == Agent.docent && mpuWrite (1573128 + 64 * n)) = false ∧ s.dev.denied w.agent = false ∧ s.dev.on (domainOf (1573128 + 64 * n)) = true ∧ s.dev.stgState n = 1 ∧ s.dev.f F.STG_STAT_OWNER n = w.agent.code)) ∧
  (let n : Nat := 0
   let w : RegWr := wr .curator [(F.STG_CMD_OP, 3)]
   let s : Machine.State := S ((awake.setI F.STG_STAT_STATE 0 1).setI F.STG_APPLY_FRAME 0 7000)
   n < 3 ∧ s.dev.reach w.agent = true ∧ (w.agent == Agent.docent && mpuWrite (1573120 + 64 * n)) = false ∧
   s.dev.denied w.agent = false ∧ s.dev.on (domainOf (1573120 + 64 * n)) = true ∧ w.val % 8 = 3 ∧
   s.dev.stgState n = 1 ∧ s.dev.f F.STG_STAT_OWNER n = w.agent.code ∧
   let d : Dev := (if s.dev.holdsCommit n = true then s.dev.updSettle else s.dev)
   (d.stgCheck n).1 = 0) ∧
  (let n : Nat := 0
   let w : RegWr := wr .curator [(F.STG_CMD_OP, 4)]
   let s : Machine.State := S (((awake.setI F.STG_STAT_STATE 0 2).setI F.STG_APPLY_FRAME 0 7000).setI F.STG_STAT_OWNER 0 3)
   n < 3 ∧ s.dev.reach w.agent = true ∧ (w.agent == Agent.docent && mpuWrite (1573120 + 64 * n)) = false ∧
   s.dev.denied w.agent = false ∧ s.dev.on (domainOf (1573120 + 64 * n)) = true ∧ w.val % 8 = 4 ∧
   (s.dev.stgState n = 1 ∨ s.dev.stgState n = 2) ∧
   (s.dev.f F.STG_STAT_OWNER n = w.agent.code ∨ w.agent = Agent.curator)) ∧
  (let n : Nat := 3
   let s : Machine.State := S (awake.setI F.STG_STAT_STATE 3 3)
   n < 4 ∧ s.dev.stgState n = 3) :=
  ⟨by decide +kernel,
   by decide +kernel,
   by decide +kernel,
   by decide +kernel,
   by decide +kernel,
   by decide +kernel,
   by decide +kernel⟩

theorem witness_BurstCommands :
  (let b : Burst := burst0 .waiting; let p : UsPage := page0
   let s : Machine.State := S (usOf [burst0 .waiting])
   s.dev.on 9 = true ∧ List.find? (fun b => b.st == BurstSt.waiting) s.dev.us.bursts = some b ∧
   SMap.look b.page s.dev.us.pages = some p) ∧
  (let b : Burst := burst0 .assembled; let p : UsPage := page0
   let s : Machine.State := S (usOf [burst0 .assembled])
   List.find? (fun b => b.st == BurstSt.assembled) s.dev.us.bursts = some b ∧
   SMap.look b.page s.dev.us.pages = some p ∧ s.dev.onAir = none ∧ s.dev.mayTransmit b = true) ∧
  (let b : Burst := { burst0 .assembled with dead := true }; let p : UsPage := page0
   let s : Machine.State := S (usOf [{ burst0 .assembled with dead := true }])
   List.find? (fun b => b.st == BurstSt.assembled) s.dev.us.bursts = some b ∧
   SMap.look b.page s.dev.us.pages = some p ∧ s.dev.onAir = none ∧ s.dev.mayTransmit b = false) ∧
  (let b : Burst := burst0 .onAir
   let s : Machine.State := S (usOf [burst0 .onAir])
   s.dev.onAir = some b ∧
   let d : Dev := (((s.dev.act 15 (s.dev.burstWords b)).burstStatus b 2).msgsLeave b.id).burstGone b true
   let c : Dev := ((d.count F.TUS_CNT_BURST_BURSTS).countN F.TUS_CNT_BURST_GRANTS b.grants.length).set F.TUS_STAT_BURST 0
   let e : Dev := (if b.sleepReq = true then { c with term := { c.term with sleepSent := true } } else c)
   List.find? (fun x => x.st == BurstSt.assembled) e.us.bursts = none) ∧
  (let b : Burst := { burst0 .onAir with sleepReq := true }
   let s : Machine.State := S (usOf [{ burst0 .onAir with sleepReq := true }, { burst0 .assembled with id := 2, start := 15104, stop := 40000 }])
   s.dev.onAir = some b ∧
   let d : Dev := (((s.dev.act 15 (s.dev.burstWords b)).burstStatus b 2).msgsLeave b.id).burstGone b true
   let c : Dev := ((d.count F.TUS_CNT_BURST_BURSTS).countN F.TUS_CNT_BURST_GRANTS b.grants.length).set F.TUS_STAT_BURST 0
   let e : Dev := (if b.sleepReq = true then { c with term := { c.term with sleepSent := true } } else c)
   let fall : ℤ := b.stop + ↑(s.dev.f F.TUS_TXEN_LAG)
   Option.any (fun x => decide (Option.any (fun p => decide (e.riseTime p x ≤ fall ∧ e.mayTransmit x = true)) (SMap.look x.page e.us.pages) = true)) (List.find? (fun x => x.st == BurstSt.assembled) e.us.bursts) = true) :=
  ⟨by decide +kernel,
   by decide +kernel,
   by decide +kernel,
   by decide +kernel,
   by decide +kernel⟩

theorem witness_LineCommands :
  (let s : Machine.State := S (awake.set F.TUS_CTL_AUTO_SLEEP 1)
   let w : RegWr := wr h0 []; let t : Nat := 0
   (s.dev.f F.TUS_STAT_TX_FAULT = 0 ∧ s.dev.on 9 = true) ∧
   (s.dev.reach w.agent = true ∧ (w.agent == Agent.docent && mpuWrite 327680) = false ∧ s.dev.denied w.agent = false ∧ s.dev.on (domainOf 327680) = true ∧ let d : Dev := ((s.dev.put F.TUS_CTL_FAULT_AUTO w).put F.TUS_CTL_ROGUE_SLEEP w).put F.TUS_CTL_AUTO_SLEEP w; w.fld F.TUS_CTL_FAULT_CLR = 0) ∧
   (s.dev.on 9 = true ∧ let need : Bool := s.dev.phyNeeded (s.dev.tickLine + ↑t); need = false) ∧
   (s.dev.reach w.agent = true ∧ (w.agent == Agent.docent && mpuWrite 327696) = false ∧ s.dev.denied w.agent = false ∧ s.dev.on (domainOf 327696) = true ∧ let d : Dev := (((s.dev.put F.TUS_TXEN_LEAD w).put F.TUS_TXEN_LAG w).put F.TUS_TXEN_SD_DLY w).put F.TUS_TXEN_SD_OFF w; let v : Nat := w.merged F.TUS_TXEN_PHY_WAKE (d.f F.TUS_TXEN_PHY_WAKE); v ≤ 16)) ∧
  (let s : Machine.State := S (awake.set F.TUS_STAT_TX_FAULT 1)
   let w : RegWr := wr .docent [(F.TUS_CTL_TX_INHIBIT, 1), (F.TUS_CTL_GATE, 2)]; let bt : Nat := 1000000
   (s.dev.f F.TUS_STAT_TX_FAULT ≠ 0) ∧
   (s.dev.reach w.agent = true ∧ (w.agent == Agent.docent && mpuWrite 327680) = false ∧ s.dev.denied w.agent = false ∧ s.dev.on (domainOf 327680) = true ∧ let d : Dev := ((s.dev.put F.TUS_CTL_FAULT_AUTO w).put F.TUS_CTL_ROGUE_SLEEP w).put F.TUS_CTL_AUTO_SLEEP w; w.fld F.TUS_CTL_FAULT_CLR = 0 ∧ bit w.val 2 = true) ∧
   (s.dev.on 9 = true ∧ let d : Dev := s.dev.set F.TUS_STAT_TX_SD 1; d.f F.TUS_STAT_TX_EN = 0 ∧ d.f F.TUS_TXEN_SD_OFF ≤ bt)) ∧
  (let w : RegWr := wr h0 [(F.TUS_CTL_FAULT_CLR, 1)]
   let s : Machine.State := S (awake.set F.TUS_STAT_TX_EN 1); let bt : Nat := 1000000
   (s.dev.reach w.agent = true ∧ (w.agent == Agent.docent && mpuWrite 327680) = false ∧ s.dev.denied w.agent = false ∧ s.dev.on (domainOf 327680) = true ∧ let d : Dev := ((s.dev.put F.TUS_CTL_FAULT_AUTO w).put F.TUS_CTL_ROGUE_SLEEP w).put F.TUS_CTL_AUTO_SLEEP w; w.fld F.TUS_CTL_FAULT_CLR = 1 ∧ bit w.val 4 = true) ∧
   (s.dev.on 9 = true ∧ s.dev.us.darkRaised = false ∧ let d : Dev := s.dev.set F.TUS_STAT_TX_SD 0; d.f F.TUS_STAT_TX_EN ≠ 0 ∧ d.f F.TUS_TXEN_SD_DLY ≤ bt)) ∧
  (let t : Nat := 0
   let s : Machine.State := S ((usOf [burst0 .assembled]).set F.TUS_CTL_AUTO_SLEEP 1)
   let w : RegWr := wr h0 [(F.TUS_TXEN_PHY_WAKE, 17)]
   (s.dev.on 9 = true ∧ let need : Bool := s.dev.phyNeeded (s.dev.tickLine + ↑t); need = true) ∧
   (s.dev.reach w.agent = true ∧ (w.agent == Agent.docent && mpuWrite 327696) = false ∧ s.dev.denied w.agent = false ∧ s.dev.on (domainOf 327696) = true ∧ let d : Dev := (((s.dev.put F.TUS_TXEN_LEAD w).put F.TUS_TXEN_LAG w).put F.TUS_TXEN_SD_DLY w).put F.TUS_TXEN_SD_OFF w; let v : Nat := w.merged F.TUS_TXEN_PHY_WAKE (d.f F.TUS_TXEN_PHY_WAKE); 16 < v)) :=
  ⟨by decide +kernel,
   by decide +kernel,
   by decide +kernel,
   by decide +kernel⟩

theorem witness_GrantChecksInOrder :
  (let p : UsPage := page0; let g : Nat := 0
   let d : Dev := gts 0x3FF 100 500; let e : Nat := 3
   g < 8 ∧ e < 128 ∧
   let x : Grant := d.gtAt g e
   ¬gateAdmits p.gate x.entry = true) ∧
  (let p : UsPage := page0; let g : Nat := 0
   let d : Dev := gts 0 100 0; let e : Nat := 3
   g < 8 ∧ e < 128 ∧
   let x : Grant := d.gtAt g e
   gateAdmits p.gate x.entry = true ∧ ¬(1 ≤ x.len ∧ x.start + x.len ≤ 390625)) ∧
  (let p : UsPage := { page0 with pseq := 5 }; let g : Nat := 0
   let d : Dev := gts 0 390624 1; let e : Nat := 3
   g < 8 ∧ e < 128 ∧
   let x : Grant := d.gtAt g e
   gateAdmits p.gate x.entry = true ∧ 1 ≤ x.len ∧ x.start + x.len ≤ 390625 ∧
   ¬(p.gate = 3 → d.f F.TDS_HDR_PSEQ = p.pseq)) ∧
  (let p : UsPage := page0; let g : Nat := 0
   let d : Dev := gts 0 100 500
   let fm : Forming := { taken := 101 }; let e : Nat := 3
   g < 8 ∧ e < 128 ∧
   let x : Grant := d.gtAt g e
   gateAdmits p.gate x.entry = true ∧ 1 ≤ x.len ∧ x.start + x.len ≤ 390625 ∧
   (p.gate = 3 → d.f F.TDS_HDR_PSEQ = p.pseq) ∧
   ¬(fm.taken ≤ x.start ∧ ∀ (t : ℤ), d.earlierEnd g = some t → t ≤ p.slotTime x.start)) ∧
  (let p : UsPage := page0; let g : Nat := 0
   let d : Dev := gts 0 100 500
   let fm : Forming := { taken := 100, cur := some { burst0 .waiting with grants := [2], prof := 0 } }
   let e : Nat := 3
   let b : Burst := { burst0 .waiting with grants := [2], prof := 0 }
   g < 8 ∧ e < 128 ∧
   let x : Grant := d.gtAt g e
   gateAdmits p.gate x.entry = true ∧ 1 ≤ x.len ∧ x.start + x.len ≤ 390625 ∧
   (p.gate = 3 → d.f F.TDS_HDR_PSEQ = p.pseq) ∧ fm.taken ≤ x.start ∧
   ∀ (t : ℤ), d.earlierEnd g = some t → t ≤ p.slotTime x.start ∧ fm.cur = some b ∧
   continues b (d.gtAt g (b.grants.getLastD 0)) x = true) ∧
  (let p : UsPage := page0; let g : Nat := 0
   let d : Dev := gts 0 200000 100; let fm : Forming := {}; let e : Nat := 3
   g < 8 ∧ e < 128 ∧
   let x : Grant := d.gtAt g e
   gateAdmits p.gate x.entry = true ∧ 1 ≤ x.len ∧ x.start + x.len ≤ 390625 ∧
   (p.gate = 3 → d.f F.TDS_HDR_PSEQ = p.pseq) ∧ fm.taken ≤ x.start ∧
   ∀ (t : ℤ), d.earlierEnd g = some t → t ≤ p.slotTime x.start ∧
   Option.all (fun b => decide (continues b (d.gtAt g (b.grants.getLastD 0)) x = false)) fm.cur = true ∧
   p.newBurst (d.us.nextId + fm.done.length + fm.cur.toList.length) g e x = none) ∧
  (let p : UsPage := page0; let g : Nat := 0; let ready : ℤ := 0
   let d : Dev := gts 0 100 2000; let fm : Forming := {}; let e : Nat := 3
   let b : Burst := (page0.newBurst awake.us.nextId 0 3 ((gts 0 100 2000).gtAt 0 3)).getD (burst0 .waiting)
   g < 8 ∧ e < 128 ∧
   let x : Grant := d.gtAt g e
   gateAdmits p.gate x.entry = true ∧ 1 ≤ x.len ∧ x.start + x.len ≤ 390625 ∧
   (p.gate = 3 → d.f F.TDS_HDR_PSEQ = p.pseq) ∧ fm.taken ≤ x.start ∧
   ∀ (t : ℤ), d.earlierEnd g = some t → t ≤ p.slotTime x.start ∧
   Option.all (fun b => decide (continues b (d.gtAt g (b.grants.getLastD 0)) x = false)) fm.cur = true ∧
   p.newBurst (d.us.nextId + fm.done.length + fm.cur.toList.length) g e x = some b ∧ b.start < ready + 800000) ∧
  (let p : UsPage := page0; let g : Nat := 0; let ready : ℤ := 0
   let d : Dev := gts 0 200000 2000; let fm : Forming := {}; let e : Nat := 3
   let b : Burst := (page0.newBurst awake.us.nextId 0 3 ((gts 0 200000 2000).gtAt 0 3)).getD (burst0 .waiting)
   g < 8 ∧ e < 128 ∧
   let x : Grant := d.gtAt g e
   gateAdmits p.gate x.entry = true ∧ 1 ≤ x.len ∧ x.start + x.len ≤ 390625 ∧
   (p.gate = 3 → d.f F.TDS_HDR_PSEQ = p.pseq) ∧ fm.taken ≤ x.start ∧
   ∀ (t : ℤ), d.earlierEnd g = some t → t ≤ p.slotTime x.start ∧
   Option.all (fun b => decide (continues b (d.gtAt g (b.grants.getLastD 0)) x = false)) fm.cur = true ∧
   p.newBurst (d.us.nextId + fm.done.length + fm.cur.toList.length) g e x = some b ∧ ready + 800000 ≤ b.start) :=
  ⟨by decide +kernel,
   by decide +kernel,
   by decide +kernel,
   by decide +kernel,
   by decide +kernel,
   by decide +kernel,
   by decide +kernel,
   by decide +kernel⟩

theorem witness_SequencerMessages :
  (let m : Msg := msg 2 2 (77 * 2 ^ 10) [0]
   let t : List Msg := []
   let s : Machine.State := S ((seqOf 3 (msg 2 2 (77 * 2 ^ 10) [0])))
   s.dev.ds.seqMsgs = m :: t ∧ msgType m = 2 ∧ s.dev.on 2 = true ∧ s.dev.seqBusy = true ∧ s.dev.ds.hdrFresh = false ∧
   let d : Dev := s.dev.seqRest t
   msgHyp d m ∧ d.f F.TST_STATE_STATE = 3) ∧
  (let m : Msg := msg 3 0 (77 * 2 ^ 10) []
   let t : List Msg := []
   let s : Machine.State := S ((seqOf 3 (msg 3 0 (77 * 2 ^ 10) [])))
   s.dev.ds.seqMsgs = m :: t ∧ msgType m = 3 ∧ s.dev.on 2 = true ∧ s.dev.seqBusy = true ∧ s.dev.ds.hdrFresh = false ∧
   let d : Dev := s.dev.seqRest t
   msgHyp d m ∧ (d.f F.TST_STATE_STATE = 4 ∨ d.f F.TST_STATE_STATE = 3 ∧ ¬wf m 0 9 1 = 1) ∧
   let v : ℤ := (if wf m 0 9 1 = 1 then ↑(d.f F.TUS_TIMING_EQD) + signed 26 (wf m 0 10 26) else ↑(wf m 0 10 26))
   0 ≤ v ∧ v ≤ 67108863) ∧
  (let m : Msg := msg 3 0 (0x2000000 * 2 ^ 10 + 512) []
   let t : List Msg := []
   let s : Machine.State := S ((seqOf 4 (msg 3 0 (0x2000000 * 2 ^ 10 + 512) [])))
   s.dev.ds.seqMsgs = m :: t ∧ msgType m = 3 ∧ s.dev.on 2 = true ∧ s.dev.seqBusy = true ∧ s.dev.ds.hdrFresh = false ∧
   let d : Dev := s.dev.seqRest t
   msgHyp d m ∧ (d.f F.TST_STATE_STATE = 4 ∨ d.f F.TST_STATE_STATE = 3 ∧ ¬wf m 0 9 1 = 1) ∧
   let v : ℤ := (if wf m 0 9 1 = 1 then ↑(d.f F.TUS_TIMING_EQD) + signed 26 (wf m 0 10 26) else ↑(wf m 0 10 26))
   (v < 0 ∨ 67108863 < v)) ∧
  (let m : Msg := msg 6 0 (1 * 2 ^ 34) []
   let t : List Msg := []
   let s : Machine.State := S ((seqOf 4 (msg 6 0 (1 * 2 ^ 34) [])))
   s.dev.ds.seqMsgs = m :: t ∧ msgType m = 6 ∧ s.dev.on 2 = true ∧ s.dev.seqBusy = true ∧ s.dev.ds.hdrFresh = false ∧
   let d : Dev := s.dev.seqRest t
   msgHyp d m ∧ d.f F.TST_STATE_STATE = 4 ∧ wf m 0 26 8 = d.f F.TST_KEYSW_KSEQ) ∧
  (let m : Msg := msg 6 0 (5 * 2 ^ 26) []
   let t : List Msg := []
   let s : Machine.State := S ((seqOf 4 (msg 6 0 (5 * 2 ^ 26) [])))
   s.dev.ds.seqMsgs = m :: t ∧ msgType m = 6 ∧ s.dev.on 2 = true ∧ s.dev.seqBusy = true ∧ s.dev.ds.hdrFresh = false ∧
   let d : Dev := s.dev.seqRest t
   msgHyp d m ∧ d.f F.TST_STATE_STATE = 4 ∧
   let slot : Nat := wf m 0 34 2
   ¬wf m 0 26 8 = d.f F.TST_KEYSW_KSEQ ∧ (slot = 0 ∨ slot = 3)) ∧
  (let m : Msg := msg 6 0 (1 * 2 ^ 34 + 5 * 2 ^ 26) []
   let t : List Msg := []
   let s : Machine.State := S ((seqOf 4 (msg 6 0 (1 * 2 ^ 34 + 5 * 2 ^ 26) [])))
   s.dev.ds.seqMsgs = m :: t ∧ msgType m = 6 ∧ s.dev.on 2 = true ∧ s.dev.seqBusy = true ∧ s.dev.ds.hdrFresh = false ∧
   let d : Dev := s.dev.seqRest t
   msgHyp d m ∧ d.f F.TST_STATE_STATE = 4 ∧
   let slot : Nat := wf m 0 34 2
   ¬wf m 0 26 8 = d.f F.TST_KEYSW_KSEQ ∧ ¬(slot = 0 ∨ slot = 3) ∧ d.slotValid slot = false) ∧
  (let m : Msg := msg 6 0 (1 * 2 ^ 34 + 5 * 2 ^ 26) [0, 40]
   let t : List Msg := []
   let s : Machine.State := S { ((seqOf 4 (msg 6 0 (1 * 2 ^ 34 + 5 * 2 ^ 26) [0, 40])).set F.TDS_KEYSTAT_SLOT1_VALID 1) with ds := { (seqOf 4 (msg 6 0 (1 * 2 ^ 34 + 5 * 2 ^ 26) [0, 40])).ds with keys := [7, 0, 0], keysNow := [(true, 7), (false, 0), (false, 0)] } }
   s.dev.ds.seqMsgs = m :: t ∧ msgType m = 6 ∧ s.dev.on 2 = true ∧ s.dev.seqBusy = true ∧ s.dev.ds.hdrFresh = false ∧
   let d : Dev := s.dev.seqRest t
   msgHyp d m ∧ d.f F.TST_STATE_STATE = 4 ∧
   let slot : Nat := wf m 0 34 2
   let sw : Nat := wf m 2 0 51
   ¬wf m 0 26 8 = d.f F.TST_KEYSW_KSEQ ∧ ¬(slot = 0 ∨ slot = 3) ∧ d.slotValid slot = true ∧ sw ≤ msgFrame m) ∧
  (let m : Msg := msg 6 0 (1 * 2 ^ 34 + 5 * 2 ^ 26) [0, 65577]
   let t : List Msg := []
   let s : Machine.State := S { ((seqOf 4 (msg 6 0 (1 * 2 ^ 34 + 5 * 2 ^ 26) [0, 65577])).set F.TDS_KEYSTAT_SLOT1_VALID 1) with ds := { (seqOf 4 (msg 6 0 (1 * 2 ^ 34 + 5 * 2 ^ 26) [0, 65577])).ds with keys := [7, 0, 0], keysNow := [(true, 7), (false, 0), (false, 0)] } }
   s.dev.ds.seqMsgs = m :: t ∧ msgType m = 6 ∧ s.dev.on 2 = true ∧ s.dev.seqBusy = true ∧ s.dev.ds.hdrFresh = false ∧
   let d : Dev := s.dev.seqRest t
   msgHyp d m ∧ d.f F.TST_STATE_STATE = 4 ∧
   let slot : Nat := wf m 0 34 2
   let sw : Nat := wf m 2 0 51
   ¬wf m 0 26 8 = d.f F.TST_KEYSW_KSEQ ∧ ¬(slot = 0 ∨ slot = 3) ∧ d.slotValid slot = true ∧ msgFrame m + 65536 < sw) ∧
  (let m : Msg := msg 6 0 (1 * 2 ^ 34 + 5 * 2 ^ 26) [0, 65576]
   let t : List Msg := []
   let s : Machine.State := S { ((seqOf 4 (msg 6 0 (1 * 2 ^ 34 + 5 * 2 ^ 26) [0, 65576])).set F.TDS_KEYSTAT_SLOT1_VALID 1) with ds := { (seqOf 4 (msg 6 0 (1 * 2 ^ 34 + 5 * 2 ^ 26) [0, 65576])).ds with keys := [7, 0, 0], keysNow := [(true, 7), (false, 0), (false, 0)] } }
   s.dev.ds.seqMsgs = m :: t ∧ msgType m = 6 ∧ s.dev.on 2 = true ∧ s.dev.seqBusy = true ∧ s.dev.ds.hdrFresh = false ∧
   let d : Dev := s.dev.seqRest t
   msgHyp d m ∧ d.f F.TST_STATE_STATE = 4 ∧
   let slot : Nat := wf m 0 34 2
   let sw : Nat := wf m 2 0 51
   ¬wf m 0 26 8 = d.f F.TST_KEYSW_KSEQ ∧ ¬(slot = 0 ∨ slot = 3) ∧ d.slotValid slot = true ∧ msgFrame m < sw ∧
   sw ≤ msgFrame m + 65536) ∧
  (let m : Msg := msg 9 0 0 [0, 100, 0, 34 * 2 ^ 32]
   let t : List Msg := []
   let s : Machine.State := S ((seqOf 4 (msg 9 0 0 [0, 100, 0, 34 * 2 ^ 32])).set F.CKX_TICK_STAT_SRC 1)
   s.dev.ds.seqMsgs = m :: t ∧ msgType m = 9 ∧ s.dev.on 2 = true ∧ s.dev.seqBusy = true ∧ s.dev.ds.hdrFresh = false ∧
   let d : Dev := s.dev.seqRest t
   msgHyp d m ∧ d.f F.TST_STATE_STATE = 4 ∧ d.f F.CKX_TICK_STAT_SRC = 1 ∧ d.f F.TST_TOD_CTL_TOD_EN ≠ 0 ∧
   let eqd : Nat := (match d.pageNow with | some p => p.eqd | none => d.f F.TUS_TIMING_EQD)
   let df : ℤ := ↑(wf m 4 32 32 * 10) - 35000000 - ↑(eqd * 10)
   df < 0) ∧
  (let m : Msg := msg 9 0 0 [0, 100, 0, 3500000 * 2 ^ 32 + 5]
   let t : List Msg := []
   let s : Machine.State := S ((seqOf 4 (msg 9 0 0 [0, 100, 0, 3500000 * 2 ^ 32 + 5])).set F.CKX_TICK_STAT_SRC 1)
   s.dev.ds.seqMsgs = m :: t ∧ msgType m = 9 ∧ s.dev.on 2 = true ∧ s.dev.seqBusy = true ∧ s.dev.ds.hdrFresh = false ∧
   let d : Dev := s.dev.seqRest t
   msgHyp d m ∧ d.f F.TST_STATE_STATE = 4 ∧ d.f F.CKX_TICK_STAT_SRC = 1 ∧ d.f F.TST_TOD_CTL_TOD_EN ≠ 0 ∧
   let eqd : Nat := (match d.pageNow with | some p => p.eqd | none => d.f F.TUS_TIMING_EQD)
   let df : ℤ := ↑(wf m 4 32 32 * 10) - 35000000 - ↑(eqd * 10)
   0 ≤ df) ∧
  (let m : Msg := msg 0x0B 0 0 []
   let t : List Msg := []
   let s : Machine.State := S (seqOf 4 (msg 0x0B 0 0 []))
   s.dev.ds.seqMsgs = m :: t ∧ msgType m = 11 ∧ s.dev.on 2 = true ∧ s.dev.seqBusy = true ∧ s.dev.ds.hdrFresh = false ∧
   let d : Dev := s.dev.seqRest t
   msgHyp d m ∧ d.f F.TST_STATE_STATE ≠ 6 ∧ msgAddr m ≠ 1) :=
  ⟨by decide +kernel,
   by decide +kernel,
   by decide +kernel,
   by decide +kernel,
   by decide +kernel,
   by decide +kernel,
   by decide +kernel,
   by decide +kernel,
   by decide +kernel,
   by decide +kernel,
   by decide +kernel,
   by decide +kernel⟩

theorem witness_DocentMessages :
  (let m : Msg := msg 1 2 (77 * 2 ^ 26) [0]
   let t : List Msg := []
   let s : Machine.State := S (docOf 2 (msg 1 2 (77 * 2 ^ 26) [0]))
   s.dev.ds.docentMsgs = m :: t ∧ msgType m = 1 ∧ s.dev.docentRuns = true ∧
   let d : Dev := s.dev.docRest t
   msgHyp d m ∧ d.f F.TST_STATE_STATE = 2 ∧ msgAddr m = 2) ∧
  (let m : Msg := msg 4 0 (3 * 2 ^ 28 + 2 * 2 ^ 26) [0, 5, 6, 7, 100]
   let t : List Msg := []
   let s : Machine.State := S (docOf 1 (msg 4 0 (3 * 2 ^ 28 + 2 * 2 ^ 26) [0, 5, 6, 7, 100]))
   s.dev.ds.docentMsgs = m :: t ∧ msgType m = 4 ∧ s.dev.docentRuns = true ∧
   let d : Dev := s.dev.docRest t
   msgHyp d m ∧ 1 ≤ d.f F.TST_STATE_STATE ∧ d.f F.TST_STATE_STATE ≤ 4 ∧
   let old : ProfSet := (match d.term.collect with | some c => if (c.pseq == wf m 0 28 8) = true then c else { pseq := wf m 0 28 8 } | none => { pseq := wf m 0 28 8 })
   let cfg : Nat := wf m 2 23 9 + wf m 2 13 10 * 2 ^ 9 + wf m 2 32 32 * 2 ^ 32
   let c : ProfSet := { old with got := SMap.put (wf m 0 26 2) (cfg, BitVec.toNat (List.getD m 3 0), BitVec.toNat (List.getD m 4 0)) old.got }
   List.length c.got < 4) ∧
  (let m : Msg := msg 4 0 (3 * 2 ^ 28 + 2 * 2 ^ 26) [0, 5, 6, 7, 100]
   let t : List Msg := []
   let s : Machine.State := S ({ docOf 4 (msg 4 0 (3 * 2 ^ 28 + 2 * 2 ^ 26) [0, 5, 6, 7, 100]) with term := { awake.term with collect := some { pseq := 3, got := [(0, (1, 2, 3)), (1, (1, 2, 3)), (3, (1, 2, 3))] } } })
   s.dev.ds.docentMsgs = m :: t ∧ msgType m = 4 ∧ s.dev.docentRuns = true ∧
   let d : Dev := s.dev.docRest t
   msgHyp d m ∧ 1 ≤ d.f F.TST_STATE_STATE ∧ d.f F.TST_STATE_STATE ≤ 4 ∧
   let old : ProfSet := (match d.term.collect with | some c => if (c.pseq == wf m 0 28 8) = true then c else { pseq := wf m 0 28 8 } | none => { pseq := wf m 0 28 8 })
   let cfg : Nat := wf m 2 23 9 + wf m 2 13 10 * 2 ^ 9 + wf m 2 32 32 * 2 ^ 32
   let c : ProfSet := { old with got := SMap.put (wf m 0 26 2) (cfg, BitVec.toNat (List.getD m 3 0), BitVec.toNat (List.getD m 4 0)) old.got }
   4 ≤ List.length c.got) ∧
  (let m : Msg := msg 5 0 0 []
   let t : List Msg := []
   let s : Machine.State := S (docOf 4 (msg 5 0 0 []))
   s.dev.ds.docentMsgs = m :: t ∧ msgType m = 5 ∧ s.dev.docentRuns = true ∧
   let d : Dev := s.dev.docRest t
   msgHyp d m ∧ d.f F.TST_STATE_STATE = 4 ∧
   let slot : Nat := wf m 0 34 2
   (slot = 0 ∨ slot = 3)) ∧
  (let m : Msg := msg 5 0 (2 * 2 ^ 34) []
   let t : List Msg := []
   let s : Machine.State := S ((docOf 4 (msg 5 0 (2 * 2 ^ 34) [])).set F.TUS_SEQSEL_KSEL 2)
   s.dev.ds.docentMsgs = m :: t ∧ msgType m = 5 ∧ s.dev.docentRuns = true ∧
   let d : Dev := s.dev.docRest t
   msgHyp d m ∧ d.f F.TST_STATE_STATE = 4 ∧
   let slot : Nat := wf m 0 34 2
   (slot = 1 ∨ slot = 2) ∧
   (slot = d.f F.TUS_SEQSEL_KSEL ∨ d.f F.TST_KEYSW_PENDING ≠ 0 ∧ slot = d.f F.TST_KEYSW_PEND_SLOT)) ∧
  (let m : Msg := msg 5 0 (2 * 2 ^ 34) []
   let t : List Msg := []
   let s : Machine.State := S (docOf 4 (msg 5 0 (2 * 2 ^ 34) []))
   s.dev.ds.docentMsgs = m :: t ∧ msgType m = 5 ∧ s.dev.docentRuns = true ∧
   let d : Dev := s.dev.docRest t
   msgHyp d m ∧ d.f F.TST_STATE_STATE = 4 ∧
   let slot : Nat := wf m 0 34 2
   (slot = 1 ∨ slot = 2) ∧
   ¬(slot = d.f F.TUS_SEQSEL_KSEL ∨ d.f F.TST_KEYSW_PENDING ≠ 0 ∧ slot = d.f F.TST_KEYSW_PEND_SLOT)) ∧
  (let m : Msg := msg 7 0 (2 ^ 35 + 17 * 2 ^ 30) []
   let t : List Msg := []
   let s : Machine.State := S (docOf 4 (msg 7 0 (2 ^ 35 + 17 * 2 ^ 30) []))
   s.dev.ds.docentMsgs = m :: t ∧ msgType m = 7 ∧ s.dev.docentRuns = true ∧
   let d : Dev := s.dev.docRest t
   msgHyp d m ∧ d.f F.TST_STATE_STATE = 4) ∧
  (let m : Msg := msg 8 0 0 []
   let t : List Msg := []
   let s : Machine.State := S (docOf 4 (msg 8 0 0 []))
   s.dev.ds.docentMsgs = m :: t ∧ msgType m = 8 ∧ s.dev.docentRuns = true ∧
   let d : Dev := s.dev.docRest t
   msgHyp d m ∧ d.f F.TST_STATE_STATE = 4) ∧
  (let m : Msg := msg 0x0A 0 0 []
   let t : List Msg := []
   let s : Machine.State := S (docOf 4 (msg 0x0A 0 0 []))
   s.dev.ds.docentMsgs = m :: t ∧ msgType m = 10 ∧ s.dev.docentRuns = true ∧
   let d : Dev := s.dev.docRest t
   msgHyp d m) ∧
  (let m : Msg := msg 0x0C 0 (5 * 2 ^ 28) []
   let t : List Msg := []
   let s : Machine.State := S ({ docOf 3 (msg 0x0C 0 (5 * 2 ^ 28) []) with term := { awake.term with reports := [⟨⟨4, 1, 5, 0, 1, 0, none, 0⟩, 3, 0⟩] } })
   s.dev.ds.docentMsgs = m :: t ∧ msgType m = 12 ∧ s.dev.docentRuns = true ∧
   let d : Dev := s.dev.docRest t
   msgHyp d m ∧ (d.f F.TST_STATE_STATE = 3 ∨ d.f F.TST_STATE_STATE = 4)) ∧
  (let m : Msg := msg 4 0 0 []
   let l : LastMsg := ⟨9, some ⟨2, 9, 0, 0, 0, 0, none, 0⟩, 0⟩
   let d : Dev := { awake with term := { awake.term with last := [(4, ⟨9, some ⟨2, 9, 0, 0, 0, 0, none, 0⟩, 0⟩)] } }
   (msgAddr m = 2 → BitVec.toNat (List.getD m 1 0) = d.f F.TST_SERIAL_SN) ∧ d.dupOf m = some l) ∧
  (let m : Msg := msg 4 0 0 []
   let d : Dev := awake.set F.TUS_CTL_GATE 1
   msgHyp d m) :=
  ⟨by decide +kernel,
   by decide +kernel,
   by decide +kernel,
   by decide +kernel,
   by decide +kernel,
   by decide +kernel,
   by decide +kernel,
   by decide +kernel,
   by decide +kernel,
   by decide +kernel,
   by decide +kernel,
   by decide +kernel⟩

theorem witness_TerminalAndTimeCommands :
  (let w : RegWr := wr h0 [(F.TST_CTL_ACTIVATE, 1), (F.TST_CTL_TO_RANGE, 3)]
   let s : Machine.State := S ((awake.set F.TST_STATE_STATE 6).set F.TST_PPS_CTL_OUT_EN 1); let a : Agent := .docent
   (s.dev.reach w.agent = true ∧ (w.agent == Agent.docent && mpuWrite 393224) = false ∧ s.dev.denied w.agent = false ∧ s.dev.on (domainOf 393224) = true ∧ let d : Dev := s.dev.put F.TST_CTL_TO_RANGE w; (d.f F.TST_STATE_STATE = 6 ∨ w.mask.getLsbD 0 = false)) ∧
   (s.dev.reach w.agent = true ∧ (w.agent == Agent.docent && mpuWrite 393320) = false ∧ s.dev.denied w.agent = false ∧ s.dev.on (domainOf 393320) = true ∧ s.dev.f F.TST_TOD_CTL_TOD_EN ≠ 0) ∧
   (s.dev.reach w.agent = true ∧ (w.agent == Agent.docent && mpuWrite 393296) = false ∧ s.dev.denied w.agent = false ∧ s.dev.on (domainOf 393296) = true ∧ s.dev.f F.TST_TOD_CTL_DISC_EN ≠ 0) ∧
   (s.dev.reach a = true ∧ (a == Agent.docent && mpuWrite 393304) = false ∧ s.dev.denied a = false ∧ s.dev.on (domainOf 393304) = true)) ∧
  (let w : RegWr := wr h0 [(F.TST_CTL_ACTIVATE, 0), (F.TST_CTL_TO_RANGE, 3)]
   let s : Machine.State := S ((((awake.set F.TST_STATE_STATE 3).set F.TST_STATE_TIMER 1).set F.TST_TOD_CTL_TOD_EN 0).set F.TST_TOD_CTL_DISC_EN 0)
   (s.dev.reach w.agent = true ∧ (w.agent == Agent.docent && mpuWrite 393224) = false ∧ s.dev.denied w.agent = false ∧ s.dev.on (domainOf 393224) = true ∧ let d : Dev := s.dev.put F.TST_CTL_TO_RANGE w; d.f F.TST_STATE_STATE ≠ 6 ∧ w.mask.getLsbD 0 = true) ∧
   (s.dev.f F.TST_STATE_STATE = 3 ∧ s.dev.f F.TST_STATE_TIMER ≤ 1) ∧
   (s.dev.reach w.agent = true ∧ (w.agent == Agent.docent && mpuWrite 393320) = false ∧ s.dev.denied w.agent = false ∧ s.dev.on (domainOf 393320) = true ∧ s.dev.f F.TST_TOD_CTL_TOD_EN = 0) ∧
   (s.dev.reach w.agent = true ∧ (w.agent == Agent.docent && mpuWrite 393296) = false ∧ s.dev.denied w.agent = false ∧ s.dev.on (domainOf 393296) = true ∧ s.dev.f F.TST_TOD_CTL_DISC_EN = 0)) ∧
  (let k : Nat := 1
   let w : RegWr := wr .docent [(F.TST_CMD_CMD, 1), (F.TST_CMD_TID, 1023)]
   let s : Machine.State := S awake
   (k = 1 ∧ Instr.tstCmdAssign (wr Agent.docent [(F.TST_CMD_CMD, 1), (F.TST_CMD_TID, 1023)]) = Instr.tstCmdAssign w ∨ k = 2 ∧ Instr.tstCmdAssign (wr Agent.docent [(F.TST_CMD_CMD, 1), (F.TST_CMD_TID, 1023)]) = Instr.tstCmdProfileDone w ∨ k = 3 ∧ Instr.tstCmdAssign (wr Agent.docent [(F.TST_CMD_CMD, 1), (F.TST_CMD_TID, 1023)]) = Instr.tstCmdDeactivate w) ∧
   (w.agent = Agent.docent ∨ w.agent = Agent.curator) ∧ s.dev.reach w.agent = true ∧
   (w.agent == Agent.docent && mpuWrite 393232) = false ∧ s.dev.denied w.agent = false ∧
   s.dev.on (domainOf 393232) = true ∧ w.fld F.TST_CMD_CMD = k) ∧
  (let s : Machine.State := S { (awake.set F.TST_STATE_STATE 5) with term := { awake.term with syncGot := false } }
   s.dev.f F.TST_STATE_STATE = 5 ∧ s.dev.f F.TST_STATE_TIMER ≤ 1 ∧ s.dev.term.syncGot = false) ∧
  (let p : ProfSet := { pseq := 3, got := [], applySfc := 9, mseq := 9, sfc := 40, tick := 0 }
   let s : Machine.State := S { (((awake.set F.TST_STATE_STATE 3).set F.MBX_FW_STAT_DSTATE 2).set F.TUS_CTL_GATE 3) with clk := { awake.clk with ticks := 8 }, term := { awake.term with complete := [{ pseq := 3, got := [], applySfc := 9, mseq := 9, sfc := 40, tick := 0 }] } }
   List.find? (fun p => decide (s.dev.clk.ticks ≥ p.tick + 8)) s.dev.term.complete = some p ∧
   s.dev.docentRuns = true ∧ s.dev.profAcks = true) ∧
  (let r : KeyReport := ⟨⟨4, 1, 5, 0, 1, 0, none, 0⟩, 1, 0⟩
   let s : Machine.State := S { (awake.set F.MBX_FW_STAT_DSTATE 2) with clk := { awake.clk with ticks := 8 }, term := { awake.term with reports := [⟨⟨4, 1, 5, 0, 1, 0, none, 0⟩, 1, 0⟩] } }
   List.find? (fun r => decide (r.left > 0) && decide (s.dev.clk.ticks ≥ r.tick + 8)) s.dev.term.reports = some r ∧
   s.dev.docentRuns = true) ∧
  (let t : Nat := 0
   let s : Machine.State := S { (((awake.set F.TST_PPS_CTL_OUT_EN 1).set F.ID_INTEG_PPSOUT_WIRED 1).set F.TST_TOD_STAT_VALID 1) with term := { awake.term with time := 5 * second } }
   s.dev.f F.TST_PPS_CTL_OUT_EN ≠ 0 ∧ s.dev.f F.ID_INTEG_PPSOUT_WIRED ≠ 0 ∧ s.dev.f F.TST_TOD_STAT_VALID ≠ 0 ∧
   s.dev.ppsWhole t = true ∧
   let sec : Nat := (s.dev.ppsNow t / ↑second).toNat
   secIn sec s.dev.term.ppsDone = false) ∧
  (let t : Nat := 9; let e : ℤ := 7
   let s : Machine.State := S { awake with term := { awake.term with ppsEnd := some 7 } }
   s.dev.term.ppsEnd = some e ∧ e ≤ ↑t) ∧
  (let t : Nat := 5
   let s : Machine.State := S { ((awake.set F.ID_INTEG_PPSIN_WIRED 1).set F.TST_PPS_CTL_IN_EN 1) with term := { awake.term with ppsIn := some 0 } }
   s.dev.f F.TST_PPS_CTL_IN_EN ≠ 0 ∧ s.dev.f F.ID_INTEG_PPSIN_WIRED ≠ 0 ∧ s.dev.on 1 = true ∧
   let v : Nat := s.dev.timeAt t
   Option.any (fun p => decide (p ≤ v ∧ v < p + second / 2)) s.dev.term.ppsIn = true) ∧
  (let t : Nat := 5
   let s : Machine.State := S { ((awake.set F.ID_INTEG_PPSIN_WIRED 1).set F.TST_PPS_CTL_IN_EN 1) with term := { awake.term with ppsIn := some (10 * second), time := 5 * second } }
   s.dev.f F.TST_PPS_CTL_IN_EN ≠ 0 ∧ s.dev.f F.ID_INTEG_PPSIN_WIRED ≠ 0 ∧ s.dev.on 1 = true ∧
   let v : Nat := s.dev.timeAt t
   ¬∃ p, s.dev.term.ppsIn = some p ∧ p ≤ v ∧ v < p + second / 2) :=
  ⟨by decide +kernel,
   by decide +kernel,
   by decide +kernel,
   by decide +kernel,
   by decide +kernel,
   by decide +kernel,
   by decide +kernel,
   by decide +kernel,
   by decide +kernel,
   by decide +kernel⟩

theorem witness_ClassifierCommands :
  (let p : Nat := 0
   let f : Frame := frame0 0
   let rest : List Frame := []
   let s : Machine.State := S { ((awake.set F.CLS_ACC_STAT_STATE 3).set F.RST_SCRUB_EN 1) with cls := { awake.cls with scrub := 8191, fifo := [[frame0 0], [], []], flights := [[{ frame := frame0 0, act := 0, resolved := false, lost := false }], [], []] } }
   let x : Flight := { frame := frame0 0, act := 0, resolved := false, lost := false }
   (s.dev.cls.fifo.getD p [] = f :: rest ∧ p < 3 ∧ s.dev.on (11 + p) = true) ∧
   (List.find? (fun x => !x.resolved) (s.dev.cls.flights.getD p []) = some x) ∧
   (s.dev.on 11 = true ∧ s.dev.f F.RST_SCRUB_EN ≠ 0)) ∧
  (let p : Nat := 1
   let up : List Upset := []
   let x : Flight := { frame := frame0 0, act := 0, resolved := true, lost := true }
   let rest : List Flight := []
   let s : Machine.State := S { awake with cls := { awake.cls with flights := [[], [{ frame := frame0 0, act := 0, resolved := true, lost := true }], []] } }
   s.dev.cls.flights.getD p [] = x :: rest ∧ x.resolved = true ∧
   let f : Frame := x.frame
   let a : Dev := { s.dev with cls := { s.dev.cls with flights := s.dev.cls.flights.set p rest } }.containAll up
   let b : Dev := (if f.l3Sum = 2 then a.count F.CLS_CNT_CSUM_L3_BAD p else a)
   let d : Dev := (if f.l4Sum = 2 then b.count F.CLS_CNT_CSUM_L4_BAD p else b)
   (x.lost = true ∨ bit (d.f F.CLS_CTL_CSUM_DROP) p = true ∧ (f.l3Sum = 2 ∨ f.l4Sum = 2))) ∧
  (let p : Nat := 1
   let up : List Upset := []
   let x : Flight := { frame := frame0 0, act := 0, resolved := true, lost := false }
   let rest : List Flight := []
   let s : Machine.State := S { awake with cls := { awake.cls with flights := [[], [{ frame := frame0 0, act := 0, resolved := true, lost := false }], []] } }
   s.dev.cls.flights.getD p [] = x :: rest ∧ x.resolved = true ∧
   let f : Frame := x.frame
   let a : Dev := { s.dev with cls := { s.dev.cls with flights := s.dev.cls.flights.set p rest } }.containAll up
   let b : Dev := (if f.l3Sum = 2 then a.count F.CLS_CNT_CSUM_L3_BAD p else a)
   let d : Dev := (if f.l4Sum = 2 then b.count F.CLS_CNT_CSUM_L4_BAD p else b)
   ¬(x.lost = true ∨ bit (d.f F.CLS_CTL_CSUM_DROP) p = true ∧ (f.l3Sum = 2 ∨ f.l4Sum = 2)) ∧ bit x.act 91 = false) ∧
  (let p : Nat := 1
   let up : List Upset := []
   let x : Flight := { frame := frame0 0, act := 2^91, resolved := true, lost := false }
   let rest : List Flight := []
   let s : Machine.State := S { awake with cls := { awake.cls with flights := [[], [{ frame := frame0 0, act := 2^91, resolved := true, lost := false }], []] } }
   s.dev.cls.flights.getD p [] = x :: rest ∧ x.resolved = true ∧
   let f : Frame := x.frame
   let a : Dev := { s.dev with cls := { s.dev.cls with flights := s.dev.cls.flights.set p rest } }.containAll up
   let b : Dev := (if f.l3Sum = 2 then a.count F.CLS_CNT_CSUM_L3_BAD p else a)
   let d : Dev := (if f.l4Sum = 2 then b.count F.CLS_CNT_CSUM_L4_BAD p else b)
   ¬(x.lost = true ∨ bit (d.f F.CLS_CTL_CSUM_DROP) p = true ∧ (f.l3Sum = 2 ∨ f.l4Sum = 2)) ∧ bit x.act 91 = true) :=
  ⟨by decide +kernel,
   by decide +kernel,
   by decide +kernel,
   by decide +kernel⟩

theorem witness_TableUpdateCommands :
  (let op : Nat := 1
   let w : RegWr := host (1 + 32)
   let s : Machine.State := S (awake.set F.CLS_ACC_STAT_STATE 1)
   (op = 1 ∧ Instr.clsUpdRead (host (1 + 32)) = Instr.clsUpdRead w ∨ op = 2 ∧ Instr.clsUpdRead (host (1 + 32)) = Instr.clsUpdWrite w ∨ op = 3 ∧ Instr.clsUpdRead (host (1 + 32)) = Instr.clsUpdMove w ∨ op = 4 ∧ Instr.clsUpdRead (host (1 + 32)) = Instr.clsUpdSetvis w ∨ op = 5 ∧ Instr.clsUpdRead (host (1 + 32)) = Instr.clsUpdHash w) ∧
   w.val % 16 = op ∧ s.dev.reach w.agent = true ∧ (w.agent == Agent.docent && mpuWrite 524384) = false ∧
   s.dev.denied w.agent = false ∧ s.dev.on (domainOf 524384) = true ∧
   let busy : Nat := s.dev.f F.CLS_UPD_STAT_BUSY
   busy = 0 ∧
   let d : Dev := s.dev.set F.CLS_UPD_STAT_BUSY 0
   let err : Nat := d.updError (s.dev.isSink && w.agent != Agent.twin) op w.val s.dev.updDst
   err = 0 ∧ op = 1) ∧
  (let op : Nat := 2
   let w : RegWr := host (2 + 32)
   let s : Machine.State := S (((awake.set F.CLS_ACC_STAT_STATE 1).setI F.CLS_UPD_DATA_DATA 3 (2 ^ 63)).setI F.CLS_UPD_DATA_DATA 0 5)
   (op = 1 ∧ Instr.clsUpdWrite (host (2 + 32)) = Instr.clsUpdRead w ∨ op = 2 ∧ Instr.clsUpdWrite (host (2 + 32)) = Instr.clsUpdWrite w ∨ op = 3 ∧ Instr.clsUpdWrite (host (2 + 32)) = Instr.clsUpdMove w ∨ op = 4 ∧ Instr.clsUpdWrite (host (2 + 32)) = Instr.clsUpdSetvis w ∨ op = 5 ∧ Instr.clsUpdWrite (host (2 + 32)) = Instr.clsUpdHash w) ∧
   w.val % 16 = op ∧ s.dev.reach w.agent = true ∧ (w.agent == Agent.docent && mpuWrite 524384) = false ∧
   s.dev.denied w.agent = false ∧ s.dev.on (domainOf 524384) = true ∧
   let busy : Nat := s.dev.f F.CLS_UPD_STAT_BUSY
   busy = 0 ∧
   let d : Dev := s.dev.set F.CLS_UPD_STAT_BUSY 0
   let err : Nat := d.updError (s.dev.isSink && w.agent != Agent.twin) op w.val s.dev.updDst
   err = 0 ∧ op = 2) ∧
  (let op : Nat := 3
   let w : RegWr := host (3 + 32)
   let s : Machine.State := S (({ (awake.set F.CLS_ACC_STAT_STATE 1) with cls := { awake.cls with slots := [(stashBase, 5 + 3 * 2 ^ 254)] } } : Dev).set F.CLS_UPD_DST_STASH 1 |>.set F.CLS_UPD_DST_SIDX 1023)
   (op = 1 ∧ Instr.clsUpdMove (host (3 + 32)) = Instr.clsUpdRead w ∨ op = 2 ∧ Instr.clsUpdMove (host (3 + 32)) = Instr.clsUpdWrite w ∨ op = 3 ∧ Instr.clsUpdMove (host (3 + 32)) = Instr.clsUpdMove w ∨ op = 4 ∧ Instr.clsUpdMove (host (3 + 32)) = Instr.clsUpdSetvis w ∨ op = 5 ∧ Instr.clsUpdMove (host (3 + 32)) = Instr.clsUpdHash w) ∧
   w.val % 16 = op ∧ s.dev.reach w.agent = true ∧ (w.agent == Agent.docent && mpuWrite 524384) = false ∧
   s.dev.denied w.agent = false ∧ s.dev.on (domainOf 524384) = true ∧
   let busy : Nat := s.dev.f F.CLS_UPD_STAT_BUSY
   busy = 0 ∧
   let d : Dev := s.dev.set F.CLS_UPD_STAT_BUSY 0
   let err : Nat := d.updError (s.dev.isSink && w.agent != Agent.twin) op w.val s.dev.updDst
   err = 0 ∧ op = 3) ∧
  (let op : Nat := 4
   let w : RegWr := host (4 + 32)
   let s : Machine.State := S ({ (awake.set F.CLS_ACC_STAT_STATE 1) with cls := { awake.cls with slots := [(stashBase, 5 + 3 * 2 ^ 254)] } })
   (op = 1 ∧ Instr.clsUpdSetvis (host (4 + 32)) = Instr.clsUpdRead w ∨ op = 2 ∧ Instr.clsUpdSetvis (host (4 + 32)) = Instr.clsUpdWrite w ∨ op = 3 ∧ Instr.clsUpdSetvis (host (4 + 32)) = Instr.clsUpdMove w ∨ op = 4 ∧ Instr.clsUpdSetvis (host (4 + 32)) = Instr.clsUpdSetvis w ∨ op = 5 ∧ Instr.clsUpdSetvis (host (4 + 32)) = Instr.clsUpdHash w) ∧
   w.val % 16 = op ∧ s.dev.reach w.agent = true ∧ (w.agent == Agent.docent && mpuWrite 524384) = false ∧
   s.dev.denied w.agent = false ∧ s.dev.on (domainOf 524384) = true ∧
   let busy : Nat := s.dev.f F.CLS_UPD_STAT_BUSY
   busy = 0 ∧
   let d : Dev := s.dev.set F.CLS_UPD_STAT_BUSY 0
   let err : Nat := d.updError (s.dev.isSink && w.agent != Agent.twin) op w.val s.dev.updDst
   err = 0 ∧ op = 4) ∧
  (let op : Nat := 5
   let w : RegWr := host (5 + 0)
   let s : Machine.State := S (awake.set F.CLS_ACC_STAT_STATE 1)
   (op = 1 ∧ Instr.clsUpdHash (host (5 + 0)) = Instr.clsUpdRead w ∨ op = 2 ∧ Instr.clsUpdHash (host (5 + 0)) = Instr.clsUpdWrite w ∨ op = 3 ∧ Instr.clsUpdHash (host (5 + 0)) = Instr.clsUpdMove w ∨ op = 4 ∧ Instr.clsUpdHash (host (5 + 0)) = Instr.clsUpdSetvis w ∨ op = 5 ∧ Instr.clsUpdHash (host (5 + 0)) = Instr.clsUpdHash w) ∧
   w.val % 16 = op ∧ s.dev.reach w.agent = true ∧ (w.agent == Agent.docent && mpuWrite 524384) = false ∧
   s.dev.denied w.agent = false ∧ s.dev.on (domainOf 524384) = true ∧
   let busy : Nat := s.dev.f F.CLS_UPD_STAT_BUSY
   busy = 0 ∧
   let d : Dev := s.dev.set F.CLS_UPD_STAT_BUSY 0
   let err : Nat := d.updError (s.dev.isSink && w.agent != Agent.twin) op w.val s.dev.updDst
   err = 0 ∧ op = 5) ∧
  (let op : Nat := 4
   let w : RegWr := host (4 + 32)
   let s : Machine.State := S (awake.set F.CLS_ACC_STAT_STATE 1)
   (op = 1 ∧ Instr.clsUpdSetvis (host (4 + 32)) = Instr.clsUpdRead w ∨ op = 2 ∧ Instr.clsUpdSetvis (host (4 + 32)) = Instr.clsUpdWrite w ∨ op = 3 ∧ Instr.clsUpdSetvis (host (4 + 32)) = Instr.clsUpdMove w ∨ op = 4 ∧ Instr.clsUpdSetvis (host (4 + 32)) = Instr.clsUpdSetvis w ∨ op = 5 ∧ Instr.clsUpdSetvis (host (4 + 32)) = Instr.clsUpdHash w) ∧
   w.val % 16 = op ∧ s.dev.reach w.agent = true ∧ (w.agent == Agent.docent && mpuWrite 524384) = false ∧
   s.dev.denied w.agent = false ∧ s.dev.on (domainOf 524384) = true ∧
   let busy : Nat := s.dev.f F.CLS_UPD_STAT_BUSY
   busy = 0 ∧
   let d : Dev := s.dev.set F.CLS_UPD_STAT_BUSY 0
   let err : Nat := d.updError (s.dev.isSink && w.agent != Agent.twin) op w.val s.dev.updDst
   err ≠ 0) ∧
  (let op : Nat := 1
   let w : RegWr := host (1 + 32)
   let s : Machine.State := S ({ ((awake.set F.CLS_ACC_STAT_STATE 1).set F.CLS_UPD_STAT_BUSY 1) with cls := { awake.cls with updAt := 5 } })
   (op = 1 ∧ Instr.clsUpdRead (host (1 + 32)) = Instr.clsUpdRead w ∨ op = 2 ∧ Instr.clsUpdRead (host (1 + 32)) = Instr.clsUpdWrite w ∨ op = 3 ∧ Instr.clsUpdRead (host (1 + 32)) = Instr.clsUpdMove w ∨ op = 4 ∧ Instr.clsUpdRead (host (1 + 32)) = Instr.clsUpdSetvis w ∨ op = 5 ∧ Instr.clsUpdRead (host (1 + 32)) = Instr.clsUpdHash w) ∧
   w.val % 16 = op ∧ s.dev.reach w.agent = true ∧ (w.agent == Agent.docent && mpuWrite 524384) = false ∧
   s.dev.denied w.agent = false ∧ s.dev.on (domainOf 524384) = true ∧
   let busy : Nat := s.dev.f F.CLS_UPD_STAT_BUSY
   busy ≠ 0) ∧
  (let s : Machine.State := S (awake.set F.CLS_ACC_STAT_STATE 3)
   s.dev.f F.CLS_ACC_STAT_STATE = 3 ∧ s.dev.f F.CLS_ACC_STAT_DRAIN = 0) ∧
  (let s : Machine.State := S { (awake.set F.CLS_ACC_STAT_STATE 4) with cls := { awake.cls with slots := [(7, 5 + 1 * 2 ^ 254), (stashBase, 5 + 2 * 2 ^ 254)] } }
   s.dev.f F.CLS_ACC_STAT_STATE = 4) ∧
  (let s : Machine.State := S { awake with cls := { awake.cls with initMask := 17, slots := [(7, 5 + 1 * 2 ^ 254), (70000, 5)] } }
   s.dev.f F.CLS_ACC_STAT_STATE = 0 ∧ s.dev.on 11 = true ∧
   let up : Nat := s.dev.cls.initMask &&& List.foldl (fun a b => a + b2n (s.dev.on (14 + b)) * 2 ^ b) 0 (List.range 4) + b2n (s.dev.on 14) * 16
   up ≠ 0 ∧ (s.dev.cls.boot = true → up = s.dev.cls.initMask)) :=
  ⟨by decide +kernel,
   by decide +kernel,
   by decide +kernel,
   by decide +kernel,
   by decide +kernel,
   by decide +kernel,
   by decide +kernel,
   by decide +kernel,
   by decide +kernel,
   by decide +kernel⟩

theorem witness_PortReceiveCommands_1 :
  (let n : Nat := 0
   let words : List PortWord := laneOf1 0x55D5 (macCtl 1 [0, 9])
   let s : Machine.State := S port0; let v : Nat := 0x55D5
   (s.dev.portUp n = true ∧ let starts : List Nat := wordStarts (s.dev.portLanes n) words; let l : List Byte := laneOctets (s.dev.portLanes n) words; ((∀ v ∈ starts, s.dev.kindAt n v = SmdKind.express ∨ s.dev.kindAt n v = SmdKind.unknown)) ∧ (starts = [v] ∧ s.dev.kindAt n v = SmdKind.express ∧ u16 l 12 = 34824 ∧ u16 l 14 = 1)) ∧
   (s.dev.portUp n = true ∧ s.dev.f F.UPM_STAT_RX_LPI n = 0) ∧
   (n < 4 ∧ s.dev.inStill = false ∧ s.dev.inOff = false ∧ s.dev.on (18 + n) = true ∧ bit s.dev.clk.stopped (5 + n) = false ∧ (s.dev.port n).link = true)) ∧
  (let n : Nat := 0
   let words : List PortWord := laneOf1 0x55D5 (macCtl 0x0101 [0, 5, 0, 1, 0, 2, 0, 3, 0, 4, 0, 5, 0, 6, 0, 7, 0, 8])
   let s : Machine.State := S port0; let v : Nat := 0x55D5
   s.dev.portUp n = true ∧
   let starts : List Nat := wordStarts (s.dev.portLanes n) words
   let l : List Byte := laneOctets (s.dev.portLanes n) words
   starts = [v] ∧ s.dev.kindAt n v = SmdKind.express ∧ u16 l 12 = 34824 ∧ u16 l 14 = 257) ∧
  (let n : Nat := 0
   let words : List PortWord := laneOf1 (smdStart 2) (withMcrc [1, 2, 3, 4, 5, 6, 7, 8, 9, 10])
   let s : Machine.State := S (pre0)
   s.dev.portUp n = true ∧
   let starts : List Nat := wordStarts (s.dev.portLanes n) words
   (∀ v ∈ starts, s.dev.kindAt n v ≠ SmdKind.express ∧ s.dev.kindAt n v ≠ SmdKind.unknown ∧ s.dev.kindAt n v ≠ SmdKind.verify ∧ s.dev.kindAt n v ≠ SmdKind.respond)) ∧
  (let n : Nat := 0
   let words : List PortWord := laneOf1 0x5507 (withMcrc [1, 2, 3, 4, 5, 6, 7, 8, 9, 10])
   let s : Machine.State := S (pre0)
   s.dev.portUp n = true ∧
   let starts : List Nat := wordStarts (s.dev.portLanes n) words
   (∀ v ∈ starts, s.dev.kindAt n v = SmdKind.verify)) ∧
  (let n : Nat := 0
   let words : List PortWord := laneOf1 0x5519 (withMcrc [1, 2, 3, 4, 5, 6, 7, 8, 9, 10])
   let s : Machine.State := S (pre0)
   s.dev.portUp n = true ∧
   let starts : List Nat := wordStarts (s.dev.portLanes n) words
   (∀ v ∈ starts, s.dev.kindAt n v = SmdKind.respond)) ∧
  (let d : Dev := port0; let n : Nat := 0; let c : Nat := 0
   let w : PortWord := ⟨false, 0, 0, 5⟩
   (w.valid = false) ∧ ((d.port n).rx = none ∧ c ≠ 2)) ∧
  (let d : Dev := port0; let n : Nat := 0
   let w : PortWord := ⟨true, 5, 1, 5⟩
   w.valid = true ∧ d.f F.UPM_STAT_RX_LPI n = 0 ∧ allLpi (d.portLanes n) w = false) ∧
  (let c : Nat := 2
   c = 2) ∧
  (let d : Dev := (port0.portPut 0 { port0.port 0 with rx := some { smd := 0x55D5, octets := [1, 2, 3], ts := 4 } })
   let n : Nat := 0; let c : Nat := 1
   let f : RxNow := ({ smd := 0x55D5, octets := [1, 2, 3], ts := 4 } : RxNow)
   (d.port n).rx = some f ∧ (c = 1) ∧ (d.kindAt n f.smd = SmdKind.express)) ∧
  (let d : Dev := (port0.portPut 0 { port0.port 0 with rx := some { smd := 0x55D5, octets := [1, 2, 3], ts := 4 } })
   let n : Nat := 0; let at' : Nat := 9; let c : Nat := 11; let v : Nat := 0x0807060504030201
   let f : RxNow := ({ smd := 0x55D5, octets := [1, 2, 3], ts := 4 } : RxNow)
   let g : RxNow := { smd := 0x55D5, octets := [1, 2, 3, 1, 2, 3], ts := 4 }
   (d.port n).rx = some f ∧ 8 ≤ c ∧ c < 16 ∧ ((d.rxOctets n at' f (leBytes (c - 8) v)).port n).rx = some g) ∧
  (let d : Dev := (port0.portPut 0 { port0.port 0 with rx := some { smd := 0x55D5, octets := [1, 2, 3], ts := 4 } })
   let n : Nat := 0; let c : Nat := 3
   let f : RxNow := ({ smd := 0x55D5, octets := [1, 2, 3], ts := 4 } : RxNow)
   (d.port n).rx = some f ∧ (c = 3 ∨ c = 5 ∨ c = 6 ∨ c = 7)) ∧
  (let d : Dev := port0; let n : Nat := 0
   let l : List Byte := dataFrame 50; let high : Bool := false; let full : Bool := false
   (64 ≤ l.length ∧ l.length ≤ d.rxLimit n l ∧ fcsOk l = true ∧ (d.on (12 + n / 2) = true → ¬d.lossy n high (body4 l) = true ∧ full = false) ∧ u16 (body4 l) 12 ≠ 34824 ∧ d.active = true ∧ d.on (12 + n / 2) = true)) ∧
  (let l : List Byte := (dataFrame 50).take 63
   l.length < 64) ∧
  (let d : Dev := port0; let n : Nat := 0
   let l : List Byte := dataFrame 1600
   d.rxLimit n l < l.length ∧ 64 ≤ l.length) :=
  ⟨by decide +kernel,
   by decide +kernel,
   by decide +kernel,
   by decide +kernel,
   by decide +kernel,
   by decide +kernel,
   by decide +kernel,
   by decide +kernel,
   by decide +kernel,
   by decide +kernel,
   by decide +kernel,
   by decide +kernel,
   by decide +kernel,
   by decide +kernel⟩

theorem witness_PortReceiveCommands_2 :
  (let d : Dev := port0; let n : Nat := 0
   let l : List Byte := (dataFrame 50).map (· + 1)
   64 ≤ l.length ∧ l.length ≤ d.rxLimit n l ∧ fcsOk l = false) ∧
  (let d : Dev := port0; let n : Nat := 0
   let l : List Byte := dataFrame 50; let high : Bool := false; let full : Bool := true
   64 ≤ l.length ∧ l.length ≤ d.rxLimit n l ∧ fcsOk l = true ∧ d.on (12 + n / 2) = true ∧
   ¬d.lossy n high (body4 l) = true ∧ full = true) ∧
  (let d : Dev := port0; let n : Nat := 0
   let l : List Byte := macCtl 1 [0, 9]; let high : Bool := false; let full : Bool := false
   64 ≤ l.length ∧ l.length ≤ d.rxLimit n l ∧ fcsOk l = true ∧
   let g : Dev := (d.rxGood n l).patterns n l
   let da : Nat := field l 0 6
   (d.on (12 + n / 2) = true → ¬d.lossy n high (body4 l) = true ∧ full = false) ∧ u16 (body4 l) 12 = 34824 ∧
   l.length = 64 ∧ (da = 1652522221569 ∨ da = g.f F.UPM_MACADDR_ADDR n) ∧ u16 l 14 = 1) ∧
  (let d : Dev := port0.setI F.UPM_FC_CFG_RX_PFC_EN 0 1; let n : Nat := 0
   let l : List Byte := macCtl 0x0101 [0, 5, 0, 1, 0, 2, 0, 3, 0, 4, 0, 5, 0, 6, 0, 7, 0, 8]; let high : Bool := false
   let full : Bool := false
   64 ≤ l.length ∧ l.length ≤ d.rxLimit n l ∧ fcsOk l = true ∧
   let g : Dev := (d.rxGood n l).patterns n l
   let da : Nat := field l 0 6
   (d.on (12 + n / 2) = true → ¬d.lossy n high (body4 l) = true ∧ full = false) ∧ u16 (body4 l) 12 = 34824 ∧
   l.length = 64 ∧ (da = 1652522221569 ∨ da = g.f F.UPM_MACADDR_ADDR n) ∧ u16 l 14 = 257) ∧
  (let d : Dev := port0.setI F.UPM_FC_CFG_PFC_MASK 0 0; let n : Nat := 0
   let l : List Byte := dataFrame 50; let high : Bool := true
   64 ≤ l.length ∧ l.length ≤ d.rxLimit n l ∧ fcsOk l = true ∧ d.on (12 + n / 2) = true ∧
   d.lossy n high (body4 l) = true) ∧
  (let d : Dev := ((port0.set F.TWN_CTL_EN 1).set F.TWN_ROLE_ROLE 0); let n : Nat := 0
   let l : List Byte := dataFrame 50; let high : Bool := false; let full : Bool := false
   64 ≤ l.length ∧ l.length ≤ d.rxLimit n l ∧ fcsOk l = true ∧
   (d.on (12 + n / 2) = true → ¬d.lossy n high (body4 l) = true ∧ full = false) ∧ u16 (body4 l) 12 ≠ 34824 ∧
   d.active = false) ∧
  (let d : Dev := (port0.setI F.PWR_DOM_PSTATE 12 0); let n : Nat := 0
   let l : List Byte := dataFrame 50; let high : Bool := false; let full : Bool := false
   64 ≤ l.length ∧ l.length ≤ d.rxLimit n l ∧ fcsOk l = true ∧
   (d.on (12 + n / 2) = true → ¬d.lossy n high (body4 l) = true ∧ full = false) ∧ u16 (body4 l) 12 ≠ 34824 ∧
   d.active = true ∧ ¬d.on (12 + n / 2) = true) ∧
  (let d : Dev := pre0; let n : Nat := 0
   let f : RxNow := { smd := smdStart 2, octets := withMcrc [1, 2, 3, 4, 5, 6, 7, 8, 9, 10] }
   f.bad = false ∧ 4 ≤ f.octets.length ∧
   let last : Nat := tail4 f.octets
   (d.port n).asm = none ∧ last ≠ fcs (body4 f.octets) ∧ last = mcrc (body4 f.octets)) ∧
  (let d : Dev := (pre0.portPut 0 { pre0.port 0 with asm := some { x := 2, cnt := 3, octets := [9, 9], ts := 4 } })
   let n : Nat := 0; let x : Nat := 2; let c : Nat := 3
   let f : RxNow := { smd := smdCont 2 3, octets := [1, 2, 3, 4, 5, 6, 7, 8, 9, 10] ++ leBytes 4 (mcrc ([9, 9] ++ [1, 2, 3, 4, 5, 6, 7, 8, 9, 10])) }
   let a : Asm := { x := 2, cnt := 3, octets := [9, 9], ts := 4 }
   f.bad = false ∧ 4 ≤ f.octets.length ∧
   let last : Nat := tail4 f.octets
   (d.port n).asm = some a ∧ a.x = x ∧ a.cnt = c ∧
   let all : List Byte := a.octets ++ body4 f.octets
   last ≠ fcs all ∧ last = mcrc all) ∧
  (let d : Dev := (pre0.portPut 0 { pre0.port 0 with asm := some { x := 2, cnt := 3, octets := [9, 9], ts := 4 } })
   let n : Nat := 0; let x : Nat := 2; let c : Nat := 3
   let f : RxNow := { smd := smdCont 2 3, octets := [1, 2, 3, 4, 5, 6, 7, 8, 9, 10] ++ leBytes 4 (fcs ([9, 9] ++ [1, 2, 3, 4, 5, 6, 7, 8, 9, 10])) }
   let a : Asm := { x := 2, cnt := 3, octets := [9, 9], ts := 4 }
   f.bad = false ∧ 4 ≤ f.octets.length ∧
   let last : Nat := tail4 f.octets
   (d.port n).asm = some a ∧ a.x = x ∧ a.cnt = c ∧
   let all : List Byte := a.octets ++ body4 f.octets
   last = fcs all) ∧
  (let n : Nat := 0
   n < 4) ∧
  (let n : Nat := 0
   let f : RxNow := { smd := 0x5507, octets := withMcrc (List.replicate 60 (5 : Byte)) }; let d : Dev := pre0
   d.f F.UPM_PRE_CFG_PRE_EN n ≠ 0 ∧
   let e : Dev := d.portPut n { d.port n with rx := none }
   f.bad = false ∧ 64 ≤ f.octets.length ∧ f.octets.length ≤ e.rxLimit n f.octets ∧
   tail4 f.octets = mcrc (body4 f.octets) ∧ f.smd = 21767) ∧
  (let n : Nat := 0
   let f : RxNow := { smd := 0x5519, octets := withMcrc (List.replicate 60 (5 : Byte)) }
   let d : Dev := (pre0.setI F.UPM_PRE_STAT_VSTATUS 0 2)
   d.f F.UPM_PRE_CFG_PRE_EN n ≠ 0 ∧
   let e : Dev := d.portPut n { d.port n with rx := none }
   f.bad = false ∧ 64 ≤ f.octets.length ∧ f.octets.length ≤ e.rxLimit n f.octets ∧
   tail4 f.octets = mcrc (body4 f.octets) ∧ f.smd = 21785) ∧
  (let n : Nat := 0
   let s : Machine.State := S (pre0.setI F.UPM_PRE_STAT_VSTATUS 0 1)
   s.dev.portUp n = true ∧ s.dev.f F.UPM_PRE_CFG_PRE_EN n ≠ 0 ∧ s.dev.f F.UPM_PRE_CFG_VERIFY_DIS n = 0 ∧
   s.dev.f F.UPM_PRE_STAT_VSTATUS n = 1) :=
  ⟨by decide +kernel,
   by decide +kernel,
   by decide +kernel,
   by decide +kernel,
   by decide +kernel,
   by decide +kernel,
   by decide +kernel,
   by decide +kernel,
   by decide +kernel,
   by decide +kernel,
   by decide +kernel,
   by decide +kernel,
   by decide +kernel,
   by decide +kernel⟩

theorem witness_PortReceiveCommands_3 :
  (let n : Nat := 0
   let s : Machine.State := S { ((pre0.setI F.UPM_PRE_STAT_VSTATUS 0 2).setI F.UPM_PRE_STAT_ATTEMPTS 0 2) with clk := { awake.clk with ticks := 1024 } }
   s.dev.portUp n = true ∧ s.dev.f F.UPM_PRE_STAT_VSTATUS n = 2 ∧
   (s.dev.port n).vTick + 8 * max 1 (min 128 (s.dev.f F.UPM_PRE_CFG_VERIFY_TIME n)) ≤ s.dev.clk.ticks ∧
   let k : Nat := s.dev.f F.UPM_PRE_STAT_ATTEMPTS n
   k < 3) ∧
  (let n : Nat := 0
   let s : Machine.State := S { (((pre0.setI F.UPM_PRE_STAT_VSTATUS 0 2).setI F.UPM_PRE_STAT_ATTEMPTS 0 3).setI F.UPM_STAT_RX_LPI 0 1) with clk := { awake.clk with ticks := 1024 } }
   (s.dev.portUp n = true ∧ s.dev.f F.UPM_PRE_STAT_VSTATUS n = 2 ∧ (s.dev.port n).vTick + 8 * max 1 (min 128 (s.dev.f F.UPM_PRE_CFG_VERIFY_TIME n)) ≤ s.dev.clk.ticks ∧ let k : Nat := s.dev.f F.UPM_PRE_STAT_ATTEMPTS n; 3 ≤ k) ∧
   (s.dev.portOn n = true ∧ s.dev.f F.UPM_STAT_RX_LPI n ≠ 0)) ∧
  (let n : Nat := 3
   let s : Machine.State := S awake
   n < 4 ∧ s.dev.inStill = false ∧ s.dev.inOff = false ∧ s.dev.on (18 + n) = true ∧
   bit s.dev.clk.stopped (5 + n) = false ∧ (s.dev.port n).link = false) :=
  ⟨by decide +kernel,
   by decide +kernel,
   by decide +kernel⟩

theorem witness_PortSendCommands :
  (let n : Nat := 0; let edge : Nat := 5; let gap : Nat := 12
   let i : Nat := (((egrIn port0 7 [frame0 1]).egrNext 0).getD (0, false, frame0 1, awake)).1
   let pre : Bool := (((egrIn port0 7 [frame0 1]).egrNext 0).getD (0, false, frame0 1, awake)).2.1
   let up : List Upset := []
   let f : Frame := (((egrIn port0 7 [frame0 1]).egrNext 0).getD (0, false, frame0 1, awake)).2.2.1
   let d : Dev := (((egrIn port0 7 [frame0 1]).egrNext 0).getD (0, false, frame0 1, awake)).2.2.2
   let s : Machine.State := S (egrIn port0 7 [frame0 1])
   let w : RegWr := wr h0 [(F.UPM_CFG_EN, 1)]
   (s.dev.portOn n = true ∧ s.dev.xUp (2 + n) = true ∧ (s.dev.containAll up).egrNext n = some (i, pre, f, d) ∧ let a : Dev := (d.bufRead (beats f.len) i).pathBeats (4 + n / 2) (beats f.len); a.f F.UPM_CFG_EN n ≠ 0 ∧ a.portLink n = true ∧ let r : List Byte × Dev := a.leave f; let l : List Byte := withFcs (r.2.txTag n r.1); let ts : Nat := r.2.txStamp n edge gap; cellUpset up = none ∧ l.length ≤ 9600 ∧ pre = false) ∧
   (n < 4 ∧ s.dev.reach w.agent = true ∧ (w.agent == Agent.docent && mpuWrite (655360 + 16384 * n)) = false ∧ s.dev.denied w.agent = false ∧ s.dev.on (domainOf (655360 + 16384 * n)) = true ∧ s.dev.staging w.agent = false ∧ s.dev.applying (655360 + 16384 * n) &&& w.bitMask = 0 ∧ s.dev.sinkGuards (655360 + 16384 * n) w = false ∧ let why : Nat := s.dev.upmWhy n (w.merged F.UPM_CFG_EN (s.dev.f F.UPM_CFG_EN n)) (w.merged F.UPM_CFG_RATE (s.dev.f F.UPM_CFG_RATE n)); why ≠ 0) ∧
   (n < 4 ∧ s.dev.reach w.agent = true ∧ (w.agent == Agent.docent && mpuWrite (655392 + 16384 * n)) = false ∧ s.dev.denied w.agent = false ∧ s.dev.on (domainOf (655392 + 16384 * n)) = true ∧ let xon : Nat := min (w.merged F.UPM_FC_THR_XON_THR (s.dev.f F.UPM_FC_THR_XON_THR n)) 1024; let xoff : Nat := min (w.merged F.UPM_FC_THR_XOFF_THR (s.dev.f F.UPM_FC_THR_XOFF_THR n)) 1024; xon < xoff) ∧
   (n < 4 ∧ s.dev.reach w.agent = true ∧ (w.agent == Agent.docent && mpuWrite (655408 + 16384 * n)) = false ∧ s.dev.denied w.agent = false ∧ s.dev.on (domainOf (655408 + 16384 * n)) = true ∧ s.dev.staging w.agent = false ∧ s.dev.applying (655408 + 16384 * n) &&& w.bitMask = 0 ∧ s.dev.sinkGuards (655408 + 16384 * n) w = false)) ∧
  (let n : Nat := 0
   let i : Nat := (((egrIn ((pre0.setI F.UPM_PRE_STAT_VSTATUS 0 3).setI F.UPM_PRE_CFG_EXPRESS 0 0) 7 [frame0 1]).egrNext 0).getD (0, false, frame0 1, awake)).1
   let pre : Bool := (((egrIn ((pre0.setI F.UPM_PRE_STAT_VSTATUS 0 3).setI F.UPM_PRE_CFG_EXPRESS 0 0) 7 [frame0 1]).egrNext 0).getD (0, false, frame0 1, awake)).2.1
   let up : List Upset := []
   let f : Frame := (((egrIn ((pre0.setI F.UPM_PRE_STAT_VSTATUS 0 3).setI F.UPM_PRE_CFG_EXPRESS 0 0) 7 [frame0 1]).egrNext 0).getD (0, false, frame0 1, awake)).2.2.1
   let d : Dev := (((egrIn ((pre0.setI F.UPM_PRE_STAT_VSTATUS 0 3).setI F.UPM_PRE_CFG_EXPRESS 0 0) 7 [frame0 1]).egrNext 0).getD (0, false, frame0 1, awake)).2.2.2
   let s : Machine.State := S (egrIn ((pre0.setI F.UPM_PRE_STAT_VSTATUS 0 3).setI F.UPM_PRE_CFG_EXPRESS 0 0) 7 [frame0 1])
   s.dev.portOn n = true ∧ s.dev.xUp (2 + n) = true ∧ (s.dev.containAll up).egrNext n = some (i, pre, f, d) ∧
   let a : Dev := (d.bufRead (beats f.len) i).pathBeats (4 + n / 2) (beats f.len)
   a.f F.UPM_CFG_EN n ≠ 0 ∧ a.portLink n = true ∧
   let r : List Byte × Dev := a.leave f
   let l : List Byte := withFcs (r.2.txTag n r.1)
   cellUpset up = none ∧ l.length ≤ 9600 ∧ pre = true) ∧
  (let n : Nat := 0; let cut : Nat := 0
   let i : Nat := (((egrIn port0 7 [frame0 1]).egrNext 0).getD (0, false, frame0 1, awake)).1
   let pre : Bool := (((egrIn port0 7 [frame0 1]).egrNext 0).getD (0, false, frame0 1, awake)).2.1
   let up : List Upset := [.bufferCell 3]
   let f : Frame := (((egrIn port0 7 [frame0 1]).egrNext 0).getD (0, false, frame0 1, awake)).2.2.1
   let d : Dev := (((egrIn port0 7 [frame0 1]).egrNext 0).getD (0, false, frame0 1, awake)).2.2.2
   let s : Machine.State := S (egrIn port0 7 [frame0 1]); let loc : Nat := 3
   s.dev.portOn n = true ∧ s.dev.xUp (2 + n) = true ∧ (s.dev.containAll up).egrNext n = some (i, pre, f, d) ∧
   let a : Dev := (d.bufRead (beats f.len) i).pathBeats (4 + n / 2) (beats f.len)
   a.f F.UPM_CFG_EN n ≠ 0 ∧ a.portLink n = true ∧ cellUpset up = some loc ∧ cut = 0) ∧
  (let n : Nat := 0; let cut : Nat := 20
   let i : Nat := (((egrIn port0 7 [frame0 1]).egrNext 0).getD (0, false, frame0 1, awake)).1
   let pre : Bool := (((egrIn port0 7 [frame0 1]).egrNext 0).getD (0, false, frame0 1, awake)).2.1
   let up : List Upset := [.bufferCell 3]
   let f : Frame := (((egrIn port0 7 [frame0 1]).egrNext 0).getD (0, false, frame0 1, awake)).2.2.1
   let d : Dev := (((egrIn port0 7 [frame0 1]).egrNext 0).getD (0, false, frame0 1, awake)).2.2.2
   let s : Machine.State := S (egrIn port0 7 [frame0 1]); let loc : Nat := 3
   s.dev.portOn n = true ∧ s.dev.xUp (2 + n) = true ∧ (s.dev.containAll up).egrNext n = some (i, pre, f, d) ∧
   let a : Dev := (d.bufRead (beats f.len) i).pathBeats (4 + n / 2) (beats f.len)
   a.f F.UPM_CFG_EN n ≠ 0 ∧ a.portLink n = true ∧
   let r : List Byte × Dev := a.leave f
   let l : List Byte := withFcs (r.2.txTag n r.1)
   cellUpset up = some loc ∧ cut ≠ 0 ∧ l.length ≤ 9600) ∧
  (let n : Nat := 0
   let i : Nat := (((egrIn ((port0.setI F.UPM_CFG_EN 0 0)) 7 [frame0 1]).egrNext 0).getD (0, false, frame0 1, awake)).1
   let pre : Bool := (((egrIn ((port0.setI F.UPM_CFG_EN 0 0)) 7 [frame0 1]).egrNext 0).getD (0, false, frame0 1, awake)).2.1
   let up : List Upset := []
   let f : Frame := (((egrIn ((port0.setI F.UPM_CFG_EN 0 0)) 7 [frame0 1]).egrNext 0).getD (0, false, frame0 1, awake)).2.2.1
   let d : Dev := (((egrIn ((port0.setI F.UPM_CFG_EN 0 0)) 7 [frame0 1]).egrNext 0).getD (0, false, frame0 1, awake)).2.2.2
   let s : Machine.State := S (egrIn ((port0.setI F.UPM_CFG_EN 0 0)) 7 [frame0 1])
   s.dev.portOn n = true ∧ s.dev.xUp (2 + n) = true ∧ (s.dev.containAll up).egrNext n = some (i, pre, f, d) ∧
   let a : Dev := (d.bufRead (beats f.len) i).pathBeats (4 + n / 2) (beats f.len)
   (a.f F.UPM_CFG_EN n = 0 ∨ a.portLink n = false)) ∧
  (let n : Nat := 0
   let i : Nat := (((egrIn port0 7 [{ frame0 1 with data := longest }]).egrNext 0).getD (0, false, frame0 1, awake)).1
   let pre : Bool := (((egrIn port0 7 [{ frame0 1 with data := longest }]).egrNext 0).getD (0, false, frame0 1, awake)).2.1
   let up : List Upset := []
   let f : Frame := (((egrIn port0 7 [{ frame0 1 with data := longest }]).egrNext 0).getD (0, false, frame0 1, awake)).2.2.1
   let d : Dev := (((egrIn port0 7 [{ frame0 1 with data := longest }]).egrNext 0).getD (0, false, frame0 1, awake)).2.2.2
   let s : Machine.State := S (egrIn port0 7 [{ frame0 1 with data := longest }])
   s.dev.portOn n = true ∧ s.dev.xUp (2 + n) = true ∧ (s.dev.containAll up).egrNext n = some (i, pre, f, d) ∧
   let a : Dev := (d.bufRead (beats f.len) i).pathBeats (4 + n / 2) (beats f.len)
   a.f F.UPM_CFG_EN n ≠ 0 ∧ a.portLink n = true ∧
   let r : List Byte × Dev := a.leave f
   let l : List Byte := withFcs (r.2.txTag n r.1)
   cellUpset up = none ∧ 9600 < l.length) ∧
  (let n : Nat := 0
   let up : List Upset := []
   let h : Held := { octets := List.replicate 300 5, done := 0, x := 1, cnt := 0, cls := 0, frame := frame0 1 }
   let s : Machine.State := S ((((port0.portPut 0 { port0.port 0 with held := some { octets := List.replicate 300 5, done := 0, x := 1, cnt := 0, cls := 0, frame := frame0 1 } }).setI F.UPM_FC_CFG_TX_MODE 0 1).setI F.UPM_FC_THR_XOFF_THR 0 0).setI F.UPM_PRE_CFG_PRE_EN 0 1)
   (s.dev.portOn n = true ∧ s.dev.xUp (2 + n) = true ∧ let d : Dev := s.dev.containAll up; d.egrNext n = none ∧ (d.port n).held = some h) ∧
   (s.dev.portUp n = true ∧ (s.dev.f F.UPM_FC_CFG_TX_MODE n = 1 ∨ s.dev.f F.UPM_FC_CFG_TX_MODE n = 2) ∧ s.dev.f F.UPM_STAT_XOFF n = 0 ∧ min (s.dev.f F.UPM_FC_THR_XOFF_THR n) 1024 ≤ s.dev.occupancy n)) ∧
  (let n : Nat := 0
   let s : Machine.State := S ((((port0.setI F.UPM_FC_CFG_TX_MODE 0 2).setI F.UPM_STAT_XOFF 0 1).setI F.UPM_EEE_CFG_EEE_EN 0 1).set F.ID_INTEG_PORT_WIRED 15)
   let w : RegWr := wr h0 [(F.UPM_FC_THR_XOFF_THR, 2000), (F.UPM_FC_THR_XON_THR, 1024)]
   (s.dev.portUp n = true ∧ (s.dev.f F.UPM_FC_CFG_TX_MODE n = 1 ∨ s.dev.f F.UPM_FC_CFG_TX_MODE n = 2) ∧ let xon : Nat := min (s.dev.f F.UPM_FC_THR_XON_THR n) 1024; s.dev.f F.UPM_STAT_XOFF n ≠ 0 ∧ s.dev.occupancy n ≤ xon) ∧
   (n < 4 ∧ s.dev.reach w.agent = true ∧ (w.agent == Agent.docent && mpuWrite (655360 + 16384 * n)) = false ∧ s.dev.denied w.agent = false ∧ s.dev.on (domainOf (655360 + 16384 * n)) = true ∧ s.dev.staging w.agent = false ∧ s.dev.applying (655360 + 16384 * n) &&& w.bitMask = 0 ∧ s.dev.sinkGuards (655360 + 16384 * n) w = false ∧ let why : Nat := s.dev.upmWhy n (w.merged F.UPM_CFG_EN (s.dev.f F.UPM_CFG_EN n)) (w.merged F.UPM_CFG_RATE (s.dev.f F.UPM_CFG_RATE n)); why = 0) ∧
   (n < 4 ∧ s.dev.reach w.agent = true ∧ (w.agent == Agent.docent && mpuWrite (655392 + 16384 * n)) = false ∧ s.dev.denied w.agent = false ∧ s.dev.on (domainOf (655392 + 16384 * n)) = true ∧ let xon : Nat := min (w.merged F.UPM_FC_THR_XON_THR (s.dev.f F.UPM_FC_THR_XON_THR n)) 1024; let xoff : Nat := min (w.merged F.UPM_FC_THR_XOFF_THR (s.dev.f F.UPM_FC_THR_XOFF_THR n)) 1024; xoff ≤ xon)) ∧
  (let n : Nat := 0
   let s : Machine.State := S (((({ port0 with cls := { awake.cls with fifo := [[], [frame0 1], []] } } : Dev).setI F.UPM_FC_CFG_TX_MODE 0 1).setI F.UPM_STAT_XOFF 0 1).setI F.UPM_FC_THR_XON_THR 0 0)
   s.dev.portUp n = true ∧ (s.dev.f F.UPM_FC_CFG_TX_MODE n = 1 ∨ s.dev.f F.UPM_FC_CFG_TX_MODE n = 2) ∧
   let xon : Nat := min (s.dev.f F.UPM_FC_THR_XON_THR n) 1024
   s.dev.f F.UPM_STAT_XOFF n ≠ 0 ∧ xon < s.dev.occupancy n) ∧
  (let n : Nat := 0; let us : Nat := 300
   let s : Machine.State := S (port0.setI F.UPM_EEE_CFG_EEE_EN 0 1)
   s.dev.portUp n = true ∧ s.dev.f F.UPM_EEE_CFG_EEE_EN n ≠ 0 ∧ s.dev.f F.UPM_STAT_TX_LPI n = 0 ∧
   (∀ i < 8, (s.dev.egr n i).frames = []) ∧ (s.dev.port n).held = none ∧ s.dev.f F.UPM_PRE_STAT_VSTATUS n ≠ 2 ∧
   s.dev.verifyDue n = false ∧ s.dev.xoffWanted n = false ∧ s.dev.xonWanted n = false ∧
   (if s.dev.f F.PWR_POND_LVL_STATE = 0 then s.dev.f F.UPM_EEE_CFG_IDLE_HOLD n else s.dev.f F.UPM_EEE_CFG_IDLE_HOLD_POND n) ≤ us) ∧
  (let n : Nat := 0
   let s : Machine.State := S ((port0.setI F.UPM_FC_CFG_TX_MODE 0 1).portPut 0 { port0.port 0 with xoffDue := true })
   s.dev.portUp n = true ∧ (s.dev.f F.UPM_FC_CFG_TX_MODE n = 1 ∨ s.dev.f F.UPM_FC_CFG_TX_MODE n = 2) ∧
   (s.dev.port n).xoffDue = true) :=
  ⟨by decide +kernel,
   by decide +kernel,
   by decide +kernel,
   by decide +kernel,
   by decide +kernel,
   ⟨by decide +kernel, by decide +kernel, some_getD (x := (0, false, frame0 1, awake)) (by decide +kernel), by decide +kernel, by decide +kernel, by decide +kernel, leaves_long _ _ _ rfl rfl⟩,
   by decide +kernel,
   by decide +kernel,
   by decide +kernel,
   by decide +kernel,
   by decide +kernel⟩

theorem witness_SpillAndFlushCommands :
  (let c : Nat := 4095
   let r : SpillRec := { frame := frame0 1, num := 5, pool := 15, seg := 0, ofs := 0, written := true }
   let rest : List SpillRec := []
   let s : Machine.State := S (((awake.setI F.QSC_FC_CFG_QLIM 4095 256).ctxPut 4095 { awake.ctx 4095 with spilled := [{ frame := frame0 1, num := 5, pool := 15, seg := 0, ofs := 0, written := true }] }))
   let w : RegWr := wr h0 [(F.QSC_FLUSH_CTX, 4095), (F.QSC_FLUSH_GO, 1), (F.QSC_POOL_CFG_EN, 0)]; let k : Nat := 15
   (s.dev.on 26 = true ∧ s.dev.on 31 = true ∧ let y : Dev := s.dev.ctxPut c { s.dev.ctx c with fetching := true }; (s.dev.ctx c).spilled = r :: rest ∧ (s.dev.ctx c).fetch = none ∧ r.written = true ∧ let lim : Nat := min (s.dev.f F.QSC_FC_CFG_QLIM c) 98304; (s.dev.ctx c).cells ≤ lim / 2 ∧ (s.dev.ctx c).cells + r.frame.cells ≤ min (y.f F.QSC_FC_CFG_QLIM c) 98304 ∧ r.frame.cells ≤ y.freeCells) ∧
   (s.dev.reach w.agent = true ∧ (w.agent == Agent.docent && mpuWrite 786448) = false ∧ s.dev.denied w.agent = false ∧ s.dev.on (domainOf 786448) = true ∧ w.fld F.QSC_FLUSH_GO ≠ 0 ∧ s.dev.f F.QSC_STAT_FLUSH_BUSY = 0) ∧
   (k < 16 ∧ s.dev.reach w.agent = true ∧ (w.agent == Agent.docent && mpuWrite (786944 + 16 * k)) = false ∧ s.dev.denied w.agent = false ∧ s.dev.on (domainOf (786944 + 16 * k)) = true ∧ let en : Nat := w.merged F.QSC_POOL_CFG_EN (s.dev.f F.QSC_POOL_CFG_EN k); let base : Nat := w.merged F.QSC_POOL_CFG_BASE (s.dev.f F.QSC_POOL_CFG_BASE k); s.dev.f F.ID_INTEG_FAB_WIRED = 0 ∧ (en = 1 ∨ base ≠ s.dev.f F.QSC_POOL_CFG_BASE k))) ∧
  (let c : Nat := 4095; let r : Rsp := .done
   let q : FabReq := req0 (.spillRead 4095)
   let x : SpillRec := { frame := frame0 1, num := 5, pool := 15, seg := 0, ofs := 0, written := true }
   let dead : Bool := false
   let s : Machine.State := S (ask (awake.ctxPut 4095 { awake.ctx 4095 with spilled := [{ frame := frame0 1, num := 5, pool := 15, seg := 0, ofs := 0, written := true }], fetch := some ({ frame := frame0 1, num := 5, pool := 15, seg := 0, ofs := 0, written := true }, false) }) (.spillRead 4095))
   s.dev.outstanding (FabKind.spillRead c) = some q ∧
   let d : Dev := s.dev.answered (FabKind.spillRead c) q r
   (d.ctx c).fetch = some (x, dead) ∧ r = Rsp.done ∧ dead = false) ∧
  (let c : Nat := 4095; let r : Rsp := .done
   let q : FabReq := req0 (.spillRead 4095)
   let x : SpillRec := { frame := frame0 1, num := 5, pool := 15, seg := 0, ofs := 0, written := true }
   let dead : Bool := true
   let s : Machine.State := S (ask (awake.ctxPut 4095 { awake.ctx 4095 with spilled := [{ frame := frame0 1, num := 5, pool := 15, seg := 0, ofs := 0, written := true }], fetch := some ({ frame := frame0 1, num := 5, pool := 15, seg := 0, ofs := 0, written := true }, true) }) (.spillRead 4095))
   s.dev.outstanding (FabKind.spillRead c) = some q ∧
   let d : Dev := s.dev.answered (FabKind.spillRead c) q r
   (d.ctx c).fetch = some (x, dead) ∧ r = Rsp.done ∧ dead = true) ∧
  (let c : Nat := 4095; let r : Rsp := .fault
   let q : FabReq := req0 (.spillRead 4095)
   let x : SpillRec := { frame := frame0 1, num := 5, pool := 15, seg := 0, ofs := 0, written := true }
   let dead : Bool := false
   let s : Machine.State := S (ask (awake.ctxPut 4095 { awake.ctx 4095 with spilled := [{ frame := frame0 1, num := 5, pool := 15, seg := 0, ofs := 0, written := true }], fetch := some ({ frame := frame0 1, num := 5, pool := 15, seg := 0, ofs := 0, written := true }, false) }) (.spillRead 4095))
   s.dev.outstanding (FabKind.spillRead c) = some q ∧
   let d : Dev := s.dev.answered (FabKind.spillRead c) q r
   (d.ctx c).fetch = some (x, dead) ∧ r ≠ Rsp.done) ∧
  (let c : Nat := 4095; let num : Nat := 5; let r : Rsp := .done
   let q : FabReq := req0 (.spillWrite 4095 5)
   let s : Machine.State := S (ask (awake.ctxPut 4095 { awake.ctx 4095 with spilled := [{ frame := frame0 1, num := 5, pool := 15, seg := 0, ofs := 0, written := false }], writes := [(5, 15)] }) (.spillWrite 4095 5))
   let x : SpillRec := { frame := frame0 1, num := 5, pool := 15, seg := 0, ofs := 0, written := false }
   s.dev.outstanding (FabKind.spillWrite c num) = some q ∧
   let a : Dev := s.dev.answered (FabKind.spillWrite c num) q r
   let d : Dev := a.ctxPut c { a.ctx c with writes := SMap.del num (a.ctx c).writes }
   List.find? (fun x => x.num == num) (d.ctx c).spilled = some x ∧ r = Rsp.done) ∧
  (let c : Nat := 4095; let num : Nat := 5; let r : Rsp := .deny
   let q : FabReq := req0 (.spillWrite 4095 5)
   let s : Machine.State := S (ask (awake.ctxPut 4095 { awake.ctx 4095 with spilled := [{ frame := frame0 1, num := 5, pool := 15, seg := 0, ofs := 0, written := false }], writes := [(5, 15)] }) (.spillWrite 4095 5))
   let x : SpillRec := { frame := frame0 1, num := 5, pool := 15, seg := 0, ofs := 0, written := false }
   s.dev.outstanding (FabKind.spillWrite c num) = some q ∧
   let a : Dev := s.dev.answered (FabKind.spillWrite c num) q r
   let d : Dev := a.ctxPut c { a.ctx c with writes := SMap.del num (a.ctx c).writes }
   List.find? (fun x => x.num == num) (d.ctx c).spilled = some x ∧ r ≠ Rsp.done) ∧
  (let c : Nat := 4095; let num : Nat := 5; let r : Rsp := .done
   let q : FabReq := req0 (.spillWrite 4095 5)
   let s : Machine.State := S (ask (awake.ctxPut 4095 { awake.ctx 4095 with writes := [(5, 15)] }) (.spillWrite 4095 5))
   s.dev.outstanding (FabKind.spillWrite c num) = some q ∧
   let a : Dev := s.dev.answered (FabKind.spillWrite c num) q r
   let d : Dev := a.ctxPut c { a.ctx c with writes := SMap.del num (a.ctx c).writes }
   List.find? (fun x => x.num == num) (d.ctx c).spilled = none) ∧
  (let c : Nat := 4095
   let s : Machine.State := S { awake with qsc := { awake.qsc with flushing := some 4095 } }
   s.dev.qsc.flushing = some c) ∧
  (let k : Nat := 15
   let w : RegWr := wr h0 [(F.QSC_POOL_CFG_EN, 1), (F.QSC_POOL_CFG_BASE, 2 ^ 32 - 1)]
   let s : Machine.State := S ((awake.set F.ID_INTEG_FAB_WIRED 1).setI F.QSC_POOL_SIZE_NSEG 15 1)
   k < 16 ∧ s.dev.reach w.agent = true ∧ (w.agent == Agent.docent && mpuWrite (786944 + 16 * k)) = false ∧
   s.dev.denied w.agent = false ∧ s.dev.on (domainOf (786944 + 16 * k)) = true ∧
   let en : Nat := w.merged F.QSC_POOL_CFG_EN (s.dev.f F.QSC_POOL_CFG_EN k)
   let base : Nat := w.merged F.QSC_POOL_CFG_BASE (s.dev.f F.QSC_POOL_CFG_BASE k)
   let nseg : Nat := s.dev.f F.QSC_POOL_SIZE_NSEG k
   s.dev.f F.ID_INTEG_FAB_WIRED ≠ 0 ∧ (en = 1 → nseg ≠ 0) ∧ (en = 1 → base * 65536 + nseg * 65536 ≤ 2 ^ 48) ∧
   (en = 1 → nseg + s.dev.otherSegs k ≤ 2 ^ 26) ∧
   (s.dev.f F.QSC_POOL_CFG_EN k ≠ 0 → base = s.dev.f F.QSC_POOL_CFG_BASE k) ∧
   (s.dev.f F.QSC_POOL_CFG_EN k ≠ 0 → en = 0 → s.dev.f F.QSC_POOL_SIZE_USED k = 0) ∧
   ¬(s.dev.f F.QSC_POOL_CFG_EN k ≠ 0 ∧ en = 0)) ∧
  (let k : Nat := 15
   let w : RegWr := wr h0 [(F.QSC_POOL_CFG_EN, 0), (F.QSC_POOL_CFG_BASE, 7)]
   let s : Machine.State := S ((((awake.set F.ID_INTEG_FAB_WIRED 1).setI F.QSC_POOL_SIZE_NSEG 15 1).setI F.QSC_POOL_CFG_BASE 15 7).setI F.QSC_POOL_CFG_EN 15 1)
   k < 16 ∧ s.dev.reach w.agent = true ∧ (w.agent == Agent.docent && mpuWrite (786944 + 16 * k)) = false ∧
   s.dev.denied w.agent = false ∧ s.dev.on (domainOf (786944 + 16 * k)) = true ∧
   let en : Nat := w.merged F.QSC_POOL_CFG_EN (s.dev.f F.QSC_POOL_CFG_EN k)
   let base : Nat := w.merged F.QSC_POOL_CFG_BASE (s.dev.f F.QSC_POOL_CFG_BASE k)
   let nseg : Nat := s.dev.f F.QSC_POOL_SIZE_NSEG k
   s.dev.f F.ID_INTEG_FAB_WIRED ≠ 0 ∧ (en = 1 → nseg ≠ 0) ∧ (en = 1 → base * 65536 + nseg * 65536 ≤ 2 ^ 48) ∧
   (en = 1 → nseg + s.dev.otherSegs k ≤ 2 ^ 26) ∧
   (s.dev.f F.QSC_POOL_CFG_EN k ≠ 0 → base = s.dev.f F.QSC_POOL_CFG_BASE k) ∧
   (s.dev.f F.QSC_POOL_CFG_EN k ≠ 0 → en = 0 → s.dev.f F.QSC_POOL_SIZE_USED k = 0) ∧ s.dev.f F.QSC_POOL_CFG_EN k ≠ 0 ∧
   en = 0) :=
  ⟨by decide +kernel,
   by decide +kernel,
   by decide +kernel,
   by decide +kernel,
   by decide +kernel,
   by decide +kernel,
   by decide +kernel,
   by decide +kernel,
   by decide +kernel,
   by decide +kernel⟩

theorem witness_DoorbellsAndQueueCommands_1 :
  (let f : Nat := 0
   let w : RegWr := wr h0 [(F.HRG_DB_WQ_QNUM, 9), (F.HRG_DB_WQ_IDX, 0), (F.HRG_DB_WQ_INV, 0)]
   let s : Machine.State := S rings
   (f < 4 ∧ s.dev.reach w.agent = true ∧ s.dev.denied w.agent = false ∧ s.dev.on 27 = true ∧ let d : Dev := ((s.dev.wake 3).respond Rsp.done).accessed s.dev w.agent (1114112 + 4096 * f); d.on 27 = true ∧ d.resetting f = false ∧ let q : Nat := w.fld F.HRG_DB_WQ_QNUM; w.mask = 255 ∧ (d.wqReady q = false ∨ d.f F.HRG_WQ_STAT_FUNC q ≠ f)) ∧
   (f < 4 ∧ s.dev.reach w.agent = true ∧ s.dev.denied w.agent = false ∧ s.dev.on 27 = true ∧ let d : Dev := ((s.dev.wake 3).respond Rsp.done).accessed s.dev w.agent (1114112 + 4096 * f + 8); d.on 27 = true ∧ d.resetting f = false ∧ let q : Nat := w.fld F.HRG_DB_CQ_QNUM; w.mask = 255 ∧ (d.cqReady q = false ∨ d.f F.HRG_CQ_STAT_FUNC q ≠ f)) ∧
   (f < 4 ∧ s.dev.reach w.agent = true ∧ s.dev.denied w.agent = false ∧ s.dev.on 27 = true ∧ let d : Dev := ((s.dev.wake 3).respond Rsp.done).accessed s.dev w.agent (1114112 + 4096 * f + 240); w.mask = 255 ∧ w.fld F.HRG_FUNC_RST_GO = 1 ∧ d.resetting f = false) ∧
   (f < 4)) ∧
  (let f : Nat := 0
   let w : RegWr := { wr h0 [(F.HRG_DB_WQ_QNUM, 3)] with mask := 127 }
   let s : Machine.State := S rings
   (f < 4 ∧ s.dev.reach w.agent = true ∧ s.dev.denied w.agent = false ∧ s.dev.on 27 = true ∧ let d : Dev := ((s.dev.wake 3).respond Rsp.done).accessed s.dev w.agent (1114112 + 4096 * f); d.on 27 = true ∧ d.resetting f = false ∧ w.mask ≠ 255) ∧
   (f < 4 ∧ s.dev.reach w.agent = true ∧ s.dev.denied w.agent = false ∧ s.dev.on 27 = true ∧ let d : Dev := ((s.dev.wake 3).respond Rsp.done).accessed s.dev w.agent (1114112 + 4096 * f + 8); d.on 27 = true ∧ d.resetting f = false ∧ w.mask ≠ 255) ∧
   (f < 4 ∧ s.dev.reach w.agent = true ∧ s.dev.denied w.agent = false ∧ s.dev.on 27 = true ∧ let d : Dev := ((s.dev.wake 3).respond Rsp.done).accessed s.dev w.agent (1114112 + 4096 * f + 240); w.mask ≠ 255 ∧ d.resetting f = false)) ∧
  (let f : Nat := 0
   let w : RegWr := wr h0 [(F.HRG_DB_WQ_QNUM, 3), (F.HRG_DB_WQ_IDX, 16), (F.HRG_DB_WQ_INV, 0)]
   let s : Machine.State := S rings; let x : WqCtx := wqc
   f < 4 ∧ s.dev.reach w.agent = true ∧ s.dev.denied w.agent = false ∧ s.dev.on 27 = true ∧
   let d : Dev := ((s.dev.wake 3).respond Rsp.done).accessed s.dev w.agent (1114112 + 4096 * f)
   d.on 27 = true ∧ d.resetting f = false ∧
   let q : Nat := w.fld F.HRG_DB_WQ_QNUM
   let i : Nat := w.fld F.HRG_DB_WQ_IDX
   w.mask = 255 ∧ d.wqReady q = true ∧ d.f F.HRG_WQ_STAT_FUNC q = f ∧ w.fld F.HRG_DB_WQ_INV ≠ 1 ∧
   let ahead : Nat := idxSub i (d.wqHead q)
   ahead ≤ d.wqSize q ∧ idxSub (d.wqTail q) (d.wqHead q) ≤ ahead ∧ SMap.look q d.hrg.wq = some x) ∧
  (let f : Nat := 0
   let w : RegWr := wr h0 [(F.HRG_DB_WQ_QNUM, 3), (F.HRG_DB_WQ_IDX, 17), (F.HRG_DB_WQ_INV, 0)]
   let s : Machine.State := S rings
   f < 4 ∧ s.dev.reach w.agent = true ∧ s.dev.denied w.agent = false ∧ s.dev.on 27 = true ∧
   let d : Dev := ((s.dev.wake 3).respond Rsp.done).accessed s.dev w.agent (1114112 + 4096 * f)
   d.on 27 = true ∧ d.resetting f = false ∧
   let q : Nat := w.fld F.HRG_DB_WQ_QNUM
   let i : Nat := w.fld F.HRG_DB_WQ_IDX
   w.mask = 255 ∧ d.wqReady q = true ∧ d.f F.HRG_WQ_STAT_FUNC q = f ∧ w.fld F.HRG_DB_WQ_INV ≠ 1 ∧
   let ahead : Nat := idxSub i (d.wqHead q)
   d.wqSize q < ahead) ∧
  (let f : Nat := 0
   let w : RegWr := wr h0 [(F.HRG_DB_WQ_QNUM, 3), (F.HRG_DB_WQ_IDX, 2), (F.HRG_DB_WQ_INV, 0)]
   let s : Machine.State := S (rings.setI F.HRG_WQ_STAT_TAIL 3 3)
   f < 4 ∧ s.dev.reach w.agent = true ∧ s.dev.denied w.agent = false ∧ s.dev.on 27 = true ∧
   let d : Dev := ((s.dev.wake 3).respond Rsp.done).accessed s.dev w.agent (1114112 + 4096 * f)
   d.on 27 = true ∧ d.resetting f = false ∧
   let q : Nat := w.fld F.HRG_DB_WQ_QNUM
   let i : Nat := w.fld F.HRG_DB_WQ_IDX
   w.mask = 255 ∧ d.wqReady q = true ∧ d.f F.HRG_WQ_STAT_FUNC q = f ∧ w.fld F.HRG_DB_WQ_INV ≠ 1 ∧
   let ahead : Nat := idxSub i (d.wqHead q)
   ahead ≤ d.wqSize q ∧ ahead < idxSub (d.wqTail q) (d.wqHead q)) ∧
  (let f : Nat := 0
   let w : RegWr := wr h0 [(F.HRG_DB_WQ_QNUM, 3), (F.HRG_DB_WQ_IDX, 2), (F.HRG_DB_WQ_INV, 1)]
   let s : Machine.State := S (rings.setI F.HRG_WQ_STAT_TAIL 3 3)
   f < 4 ∧ s.dev.reach w.agent = true ∧ s.dev.denied w.agent = false ∧ s.dev.on 27 = true ∧
   let d : Dev := ((s.dev.wake 3).respond Rsp.done).accessed s.dev w.agent (1114112 + 4096 * f)
   d.on 27 = true ∧ d.resetting f = false ∧
   let q : Nat := w.fld F.HRG_DB_WQ_QNUM
   let i : Nat := w.fld F.HRG_DB_WQ_IDX
   w.mask = 255 ∧ d.wqReady q = true ∧ d.f F.HRG_WQ_STAT_FUNC q = f ∧ w.fld F.HRG_DB_WQ_INV = 1 ∧
   idxSub (d.wqTail q) i ≤ d.wqSize q) ∧
  (let f : Nat := 0
   let w : RegWr := wr h0 [(F.HRG_DB_WQ_QNUM, 3), (F.HRG_DB_WQ_IDX, 4), (F.HRG_DB_WQ_INV, 1)]
   let s : Machine.State := S (rings.setI F.HRG_WQ_STAT_TAIL 3 3)
   f < 4 ∧ s.dev.reach w.agent = true ∧ s.dev.denied w.agent = false ∧ s.dev.on 27 = true ∧
   let d : Dev := ((s.dev.wake 3).respond Rsp.done).accessed s.dev w.agent (1114112 + 4096 * f)
   d.on 27 = true ∧ d.resetting f = false ∧
   let q : Nat := w.fld F.HRG_DB_WQ_QNUM
   let i : Nat := w.fld F.HRG_DB_WQ_IDX
   w.mask = 255 ∧ d.wqReady q = true ∧ d.f F.HRG_WQ_STAT_FUNC q = f ∧ w.fld F.HRG_DB_WQ_INV = 1 ∧
   d.wqSize q < idxSub (d.wqTail q) i) ∧
  (let f : Nat := 0
   let w : RegWr := wr h0 [(F.HRG_DB_CQ_QNUM, 5), (F.HRG_DB_CQ_ARM, 0)]
   let s : Machine.State := S rings
   f < 4 ∧ s.dev.reach w.agent = true ∧ s.dev.denied w.agent = false ∧ s.dev.on 27 = true ∧
   let d : Dev := ((s.dev.wake 3).respond Rsp.done).accessed s.dev w.agent (1114112 + 4096 * f + 8)
   d.on 27 = true ∧ d.resetting f = false ∧
   let q : Nat := w.fld F.HRG_DB_CQ_QNUM
   w.mask = 255 ∧ d.cqReady q = true ∧ d.f F.HRG_CQ_STAT_FUNC q = f ∧ w.fld F.HRG_DB_CQ_ARM = 0) ∧
  (let f : Nat := 0
   let w : RegWr := wr h0 [(F.HRG_DB_CQ_QNUM, 5), (F.HRG_DB_CQ_ARM, 1)]
   let s : Machine.State := S rings; let x : CqCtx := cqc
   f < 4 ∧ s.dev.reach w.agent = true ∧ s.dev.denied w.agent = false ∧ s.dev.on 27 = true ∧
   let d : Dev := ((s.dev.wake 3).respond Rsp.done).accessed s.dev w.agent (1114112 + 4096 * f + 8)
   d.on 27 = true ∧ d.resetting f = false ∧
   let q : Nat := w.fld F.HRG_DB_CQ_QNUM
   w.mask = 255 ∧ d.cqReady q = true ∧ d.f F.HRG_CQ_STAT_FUNC q = f ∧
   let e : Dev := d.hostReread q
   let a : Dev := ((e.setI F.HRG_CQ_STAT_NOTIFY q 0).setI F.HRG_CQ_STAT_ARMED q 1).level q false
   w.fld F.HRG_DB_CQ_ARM ≠ 0 ∧ SMap.look q a.hrg.cq = some x) ∧
  (let f : Nat := 0
   let w : RegWr := wr h0 [(F.HRG_DB_AWQ_QNUM, 1)]
   let a : AdminPair := { wqBase := 0x7000, wqHdr := 0x8000, wqLog := 4, cqBase := 0x9000, cqHdr := 0xA000, cqLog := 4 }
   let s : Machine.State := S rings
   f < 4 ∧ s.dev.reach w.agent = true ∧ s.dev.denied w.agent = false ∧ s.dev.on 27 = true ∧
   let d : Dev := ((s.dev.wake 3).respond Rsp.done).accessed s.dev w.agent (1114112 + 4096 * f + 16)
   let g : Dev := ((s.dev.wake 3).respond Rsp.done).accessed s.dev w.agent (1114112 + 4096 * f + 24)
   d.on 27 = true ∧ d.resetting f = false ∧ g.on 27 = true ∧ g.resetting f = false ∧ w.mask = 255 ∧
   SMap.look f s.dev.hrg.admin = some a ∧ (w.fld F.HRG_DB_AWQ_QNUM ≠ 0) ∧ (w.fld F.HRG_DB_ACQ_ARM = 0)) ∧
  (let f : Nat := 0
   let w : RegWr := wr h0 [(F.HRG_DB_AWQ_IDX, 16)]
   let a : AdminPair := { wqBase := 0x7000, wqHdr := 0x8000, wqLog := 4, cqBase := 0x9000, cqHdr := 0xA000, cqLog := 4 }
   let s : Machine.State := S rings
   f < 4 ∧ s.dev.reach w.agent = true ∧ s.dev.denied w.agent = false ∧ s.dev.on 27 = true ∧
   let d : Dev := ((s.dev.wake 3).respond Rsp.done).accessed s.dev w.agent (1114112 + 4096 * f + 16)
   let g : Dev := ((s.dev.wake 3).respond Rsp.done).accessed s.dev w.agent (1114112 + 4096 * f + 24)
   d.on 27 = true ∧ d.resetting f = false ∧ g.on 27 = true ∧ g.resetting f = false ∧ w.mask = 255 ∧
   SMap.look f s.dev.hrg.admin = some a ∧
   let i : Nat := w.fld F.HRG_DB_AWQ_IDX
   w.fld F.HRG_DB_AWQ_QNUM = 0 ∧ w.fld F.HRG_DB_AWQ_INV ≠ 1 ∧ idxSub i a.head ≤ 2 ^ a.wqLog ∧
   idxSub a.tail a.head ≤ idxSub i a.head) ∧
  (let f : Nat := 0
   let w : RegWr := wr h0 [(F.HRG_DB_ACQ_ARM, 1)]
   let a : AdminPair := { wqBase := 0x7000, wqHdr := 0x8000, wqLog := 4, cqBase := 0x9000, cqHdr := 0xA000, cqLog := 4 }
   let s : Machine.State := S rings
   f < 4 ∧ s.dev.reach w.agent = true ∧ s.dev.denied w.agent = false ∧ s.dev.on 27 = true ∧
   let d : Dev := ((s.dev.wake 3).respond Rsp.done).accessed s.dev w.agent (1114112 + 4096 * f + 16)
   let g : Dev := ((s.dev.wake 3).respond Rsp.done).accessed s.dev w.agent (1114112 + 4096 * f + 24)
   d.on 27 = true ∧ d.resetting f = false ∧ g.on 27 = true ∧ g.resetting f = false ∧ w.mask = 255 ∧
   SMap.look f s.dev.hrg.admin = some a ∧ w.fld F.HRG_DB_ACQ_ARM ≠ 0) ∧
  (let f : Nat := 0
   let s : Machine.State := S (rings.setI F.HRG_FUNC_STAT_RESETTING 0 1)
   f < 4 ∧ s.dev.resetting f = true) ∧
  (let w : RegWr := wr .curator [(F.HRG_QCTX_CMD_OP, 1), (F.HRG_QCTX_CMD_QNUM, 1023), (F.HRG_QCTX_CMD_LOG2SIZE, 4), (F.HRG_QCTX_CMD_CQ, 5), (F.HRG_QCTX_CMD_KIND, 0)]
   let s : Machine.State := S rings
   s.dev.reach w.agent = true ∧ (w.agent == Agent.docent && mpuWrite 1048704) = false ∧ s.dev.denied w.agent = false ∧
   s.dev.on (domainOf 1048704) = true ∧ w.agent.isHost = false ∧
   let q : Nat := w.fld F.HRG_QCTX_CMD_QNUM
   let f : Nat := w.fld F.HRG_QCTX_CMD_FUNC
   let lg : Nat := w.fld F.HRG_QCTX_CMD_LOG2SIZE
   let cq : Nat := w.fld F.HRG_QCTX_CMD_CQ
   s.dev.f F.HRG_QCTX_CMD_BUSY = 0 ∧ w.fld F.HRG_QCTX_CMD_OP = 1 ∧
   s.dev.createWqErr q f lg cq (w.fld F.HRG_QCTX_CMD_KIND == 1) = 0) :=
  ⟨by decide +kernel,
   by decide +kernel,
   by decide +kernel,
   by decide +kernel,
   by decide +kernel,
   by decide +kernel,
   by decide +kernel,
   by decide +kernel,
   by decide +kernel,
   by decide +kernel,
   by decide +kernel,
   by decide +kernel,
   by decide +kernel,
   by decide +kernel⟩

theorem witness_DoorbellsAndQueueCommands_2 :
  (let w : RegWr := wr .curator [(F.HRG_QCTX_CMD_OP, 1), (F.HRG_QCTX_CMD_QNUM, 3), (F.HRG_QCTX_CMD_LOG2SIZE, 4), (F.HRG_QCTX_CMD_CQ, 5), (F.HRG_QCTX_CMD_KIND, 0)]
   let s : Machine.State := S rings; let e : Nat := 1
   s.dev.reach w.agent = true ∧ (w.agent == Agent.docent && mpuWrite 1048704) = false ∧ s.dev.denied w.agent = false ∧
   s.dev.on (domainOf 1048704) = true ∧ w.agent.isHost = false ∧
   let q : Nat := w.fld F.HRG_QCTX_CMD_QNUM
   let f : Nat := w.fld F.HRG_QCTX_CMD_FUNC
   let lg : Nat := w.fld F.HRG_QCTX_CMD_LOG2SIZE
   let cq : Nat := w.fld F.HRG_QCTX_CMD_CQ
   s.dev.f F.HRG_QCTX_CMD_BUSY = 0 ∧ w.fld F.HRG_QCTX_CMD_OP = 1 ∧
   s.dev.createWqErr q f lg cq (w.fld F.HRG_QCTX_CMD_KIND == 1) = e ∧ e ≠ 0) ∧
  (let w : RegWr := wr .curator [(F.HRG_QCTX_CMD_OP, 2), (F.HRG_QCTX_CMD_QNUM, 1023), (F.HRG_QCTX_CMD_LOG2SIZE, 16), (F.HRG_QCTX_CMD_CQ, 0), (F.HRG_QCTX_CMD_KIND, 0)]
   let s : Machine.State := S rings
   s.dev.reach w.agent = true ∧ (w.agent == Agent.docent && mpuWrite 1048704) = false ∧ s.dev.denied w.agent = false ∧
   s.dev.on (domainOf 1048704) = true ∧ w.agent.isHost = false ∧
   let q : Nat := w.fld F.HRG_QCTX_CMD_QNUM
   let lg : Nat := w.fld F.HRG_QCTX_CMD_LOG2SIZE
   s.dev.f F.HRG_QCTX_CMD_BUSY = 0 ∧ w.fld F.HRG_QCTX_CMD_OP = 2 ∧ s.dev.createCqErr q lg = 0) ∧
  (let w : RegWr := wr .curator [(F.HRG_QCTX_CMD_OP, 2), (F.HRG_QCTX_CMD_QNUM, 1023), (F.HRG_QCTX_CMD_LOG2SIZE, 17), (F.HRG_QCTX_CMD_CQ, 0), (F.HRG_QCTX_CMD_KIND, 0)]
   let s : Machine.State := S rings
   let e : Nat := (rings.createCqErr 1023 17)
   s.dev.reach w.agent = true ∧ (w.agent == Agent.docent && mpuWrite 1048704) = false ∧ s.dev.denied w.agent = false ∧
   s.dev.on (domainOf 1048704) = true ∧ w.agent.isHost = false ∧
   let q : Nat := w.fld F.HRG_QCTX_CMD_QNUM
   let lg : Nat := w.fld F.HRG_QCTX_CMD_LOG2SIZE
   s.dev.f F.HRG_QCTX_CMD_BUSY = 0 ∧ w.fld F.HRG_QCTX_CMD_OP = 2 ∧ s.dev.createCqErr q lg = e ∧ e ≠ 0) ∧
  (let w : RegWr := wr .curator [(F.HRG_QCTX_CMD_OP, 3), (F.HRG_QCTX_CMD_QNUM, 4), (F.HRG_QCTX_CMD_LOG2SIZE, 0), (F.HRG_QCTX_CMD_CQ, 0), (F.HRG_QCTX_CMD_KIND, 0)]
   let s : Machine.State := S rings
   s.dev.reach w.agent = true ∧ (w.agent == Agent.docent && mpuWrite 1048704) = false ∧ s.dev.denied w.agent = false ∧
   s.dev.on (domainOf 1048704) = true ∧ w.agent.isHost = false ∧
   let q : Nat := w.fld F.HRG_QCTX_CMD_QNUM
   s.dev.f F.HRG_QCTX_CMD_BUSY = 0 ∧ w.fld F.HRG_QCTX_CMD_OP = 3 ∧ s.dev.f F.ID_INTEG_FAB_WIRED ≠ 0 ∧
   s.dev.f F.HRG_WQ_STAT_STATE q = 0) ∧
  (let w : RegWr := wr .curator [(F.HRG_QCTX_CMD_OP, 3), (F.HRG_QCTX_CMD_QNUM, 3), (F.HRG_QCTX_CMD_LOG2SIZE, 0), (F.HRG_QCTX_CMD_CQ, 0), (F.HRG_QCTX_CMD_KIND, 0)]
   let s : Machine.State := S rings
   s.dev.reach w.agent = true ∧ (w.agent == Agent.docent && mpuWrite 1048704) = false ∧ s.dev.denied w.agent = false ∧
   s.dev.on (domainOf 1048704) = true ∧ w.agent.isHost = false ∧
   let q : Nat := w.fld F.HRG_QCTX_CMD_QNUM
   s.dev.f F.HRG_QCTX_CMD_BUSY = 0 ∧ w.fld F.HRG_QCTX_CMD_OP = 3 ∧ s.dev.f F.ID_INTEG_FAB_WIRED ≠ 0 ∧
   s.dev.f F.HRG_WQ_STAT_STATE q ≠ 0 ∧ s.dev.wqDrained q = true ∧
   let j : QctxJob := { wq := true, q := q, reads := 0 }
   let e : Dev := { s.dev with hrg := { s.dev.hrg with destroy := some j } }.set F.HRG_QCTX_CMD_BUSY 1
   (s.dev.fab.out.any fun r => r.kind == FabKind.ringHeader q) = false ∧ e.wqDrained q = true) ∧
  (let w : RegWr := wr .curator [(F.HRG_QCTX_CMD_OP, 3), (F.HRG_QCTX_CMD_QNUM, 3), (F.HRG_QCTX_CMD_LOG2SIZE, 0), (F.HRG_QCTX_CMD_CQ, 0), (F.HRG_QCTX_CMD_KIND, 0)]
   let s : Machine.State := S (rings.setI F.HRG_WQ_STAT_TAIL 3 1)
   s.dev.reach w.agent = true ∧ (w.agent == Agent.docent && mpuWrite 1048704) = false ∧ s.dev.denied w.agent = false ∧
   s.dev.on (domainOf 1048704) = true ∧ w.agent.isHost = false ∧
   let q : Nat := w.fld F.HRG_QCTX_CMD_QNUM
   s.dev.f F.HRG_QCTX_CMD_BUSY = 0 ∧ w.fld F.HRG_QCTX_CMD_OP = 3 ∧ s.dev.f F.ID_INTEG_FAB_WIRED ≠ 0 ∧
   s.dev.f F.HRG_WQ_STAT_STATE q ≠ 0 ∧ s.dev.wqDrained q = false) ∧
  (let w : RegWr := wr .curator [(F.HRG_QCTX_CMD_OP, 4), (F.HRG_QCTX_CMD_QNUM, 6), (F.HRG_QCTX_CMD_LOG2SIZE, 0), (F.HRG_QCTX_CMD_CQ, 0), (F.HRG_QCTX_CMD_KIND, 0)]
   let s : Machine.State := S rings
   s.dev.reach w.agent = true ∧ (w.agent == Agent.docent && mpuWrite 1048704) = false ∧ s.dev.denied w.agent = false ∧
   s.dev.on (domainOf 1048704) = true ∧ w.agent.isHost = false ∧
   let q : Nat := w.fld F.HRG_QCTX_CMD_QNUM
   s.dev.f F.HRG_QCTX_CMD_BUSY = 0 ∧ w.fld F.HRG_QCTX_CMD_OP = 4 ∧ s.dev.f F.ID_INTEG_FAB_WIRED ≠ 0 ∧
   s.dev.f F.HRG_CQ_STAT_STATE q = 0) ∧
  (let w : RegWr := wr .curator [(F.HRG_QCTX_CMD_OP, 4), (F.HRG_QCTX_CMD_QNUM, 5), (F.HRG_QCTX_CMD_LOG2SIZE, 0), (F.HRG_QCTX_CMD_CQ, 0), (F.HRG_QCTX_CMD_KIND, 0)]
   let s : Machine.State := S rings
   s.dev.reach w.agent = true ∧ (w.agent == Agent.docent && mpuWrite 1048704) = false ∧ s.dev.denied w.agent = false ∧
   s.dev.on (domainOf 1048704) = true ∧ w.agent.isHost = false ∧
   let q : Nat := w.fld F.HRG_QCTX_CMD_QNUM
   s.dev.f F.HRG_QCTX_CMD_BUSY = 0 ∧ w.fld F.HRG_QCTX_CMD_OP = 4 ∧ s.dev.f F.ID_INTEG_FAB_WIRED ≠ 0 ∧
   s.dev.f F.HRG_CQ_STAT_STATE q ≠ 0 ∧ s.dev.feeders q ≠ []) ∧
  (let w : RegWr := wr .curator [(F.HRG_QCTX_CMD_OP, 4), (F.HRG_QCTX_CMD_QNUM, 5), (F.HRG_QCTX_CMD_LOG2SIZE, 0), (F.HRG_QCTX_CMD_CQ, 0), (F.HRG_QCTX_CMD_KIND, 0)]
   let s : Machine.State := S ({ rings with hrg := { rings.hrg with wq := [] } })
   s.dev.reach w.agent = true ∧ (w.agent == Agent.docent && mpuWrite 1048704) = false ∧ s.dev.denied w.agent = false ∧
   s.dev.on (domainOf 1048704) = true ∧ w.agent.isHost = false ∧
   let q : Nat := w.fld F.HRG_QCTX_CMD_QNUM
   s.dev.f F.HRG_QCTX_CMD_BUSY = 0 ∧ w.fld F.HRG_QCTX_CMD_OP = 4 ∧ s.dev.f F.ID_INTEG_FAB_WIRED ≠ 0 ∧
   s.dev.f F.HRG_CQ_STAT_STATE q ≠ 0 ∧ s.dev.feeders q = [] ∧
   let d : Dev := s.dev.hostReread q
   d.rereads q ≠ 0) ∧
  (let w : RegWr := wr .curator [(F.HRG_QCTX_CMD_OP, 1)]
   let s : Machine.State := S (rings.set F.HRG_QCTX_CMD_BUSY 1)
   s.dev.reach w.agent = true ∧ (w.agent == Agent.docent && mpuWrite 1048704) = false ∧ s.dev.denied w.agent = false ∧
   s.dev.on (domainOf 1048704) = true ∧ w.agent.isHost = false ∧ s.dev.f F.HRG_QCTX_CMD_BUSY ≠ 0 ∧
   (w.fld F.HRG_QCTX_CMD_OP = 1 ∧ Instr.qctxCreateWq (wr Agent.curator [(F.HRG_QCTX_CMD_OP, 1)]) = Instr.qctxCreateWq w ∨ w.fld F.HRG_QCTX_CMD_OP = 2 ∧ Instr.qctxCreateWq (wr Agent.curator [(F.HRG_QCTX_CMD_OP, 1)]) = Instr.qctxCreateCq w ∨ w.fld F.HRG_QCTX_CMD_OP = 3 ∧ Instr.qctxCreateWq (wr Agent.curator [(F.HRG_QCTX_CMD_OP, 1)]) = Instr.qctxDestroyWq w ∨ w.fld F.HRG_QCTX_CMD_OP = 4 ∧ Instr.qctxCreateWq (wr Agent.curator [(F.HRG_QCTX_CMD_OP, 1)]) = Instr.qctxDestroyCq w)) ∧
  (let w : RegWr := wr .curator [(F.HRG_QCTX_CMD_OP, 3), (F.HRG_QCTX_CMD_QNUM, 3), (F.HRG_QCTX_CMD_LOG2SIZE, 0), (F.HRG_QCTX_CMD_CQ, 0), (F.HRG_QCTX_CMD_KIND, 0)]
   let s : Machine.State := S (ask rings (.ringHeader 3))
   s.dev.reach w.agent = true ∧ (w.agent == Agent.docent && mpuWrite 1048704) = false ∧ s.dev.denied w.agent = false ∧
   s.dev.on (domainOf 1048704) = true ∧ w.agent.isHost = false ∧
   let q : Nat := w.fld F.HRG_QCTX_CMD_QNUM
   s.dev.f F.HRG_QCTX_CMD_BUSY = 0 ∧ w.fld F.HRG_QCTX_CMD_OP = 3 ∧ s.dev.f F.ID_INTEG_FAB_WIRED ≠ 0 ∧
   s.dev.f F.HRG_WQ_STAT_STATE q ≠ 0 ∧ s.dev.wqDrained q = true ∧
   (s.dev.fab.out.any fun r => r.kind == FabKind.ringHeader q) = true) :=
  ⟨by decide +kernel,
   by decide +kernel,
   by decide +kernel,
   by decide +kernel,
   by decide +kernel,
   by decide +kernel,
   by decide +kernel,
   by decide +kernel,
   by decide +kernel,
   by decide +kernel,
   by decide +kernel⟩

theorem witness_WorkEntriesAndCompletions :
  (let q : Nat := 3; let c : Rsp := .fault
   let r : FabReq := req0 (.wqFetch 3)
   let x : WqCtx := { wqc with fetch := some false }; let stale : Bool := false
   let s : Machine.State := S (ask (wq3 { wqc with fetch := some false }) (.wqFetch 3))
   s.dev.outstanding (FabKind.wqFetch q) = some r ∧
   let d : Dev := s.dev.answered (FabKind.wqFetch q) r c
   SMap.look q d.hrg.wq = some x ∧ x.fetch = some stale ∧ c ≠ Rsp.done) ∧
  (let q : Nat := 3; let c : Rsp := .done
   let r : FabReq := req0 (.wqFetch 3)
   let x : WqCtx := { wqc with fetch := some true }; let stale : Bool := true
   let s : Machine.State := S (ask (wq3 { wqc with fetch := some true }) (.wqFetch 3))
   s.dev.outstanding (FabKind.wqFetch q) = some r ∧
   let d : Dev := s.dev.answered (FabKind.wqFetch q) r c
   SMap.look q d.hrg.wq = some x ∧ x.fetch = some stale ∧
   let e : Dev := d.wqPut q { x with fetch := none, again := false }
   c = Rsp.done ∧ (stale = true ∨ e.wqReady q = false)) ∧
  (let q : Nat := 3; let c : Rsp := .done
   let r : FabReq := req0 (.wqFetch 3)
   let x : WqCtx := { wqc with fetch := some false }; let stale : Bool := false
   let s : Machine.State := S (ask (wq3 { wqc with fetch := some false }) (.wqFetch 3))
   s.dev.outstanding (FabKind.wqFetch q) = some r ∧
   let d : Dev := s.dev.answered (FabKind.wqFetch q) r c
   SMap.look q d.hrg.wq = some x ∧ x.fetch = some stale ∧
   let e : Dev := d.wqPut q { x with fetch := none, again := false }
   c = Rsp.done ∧ stale = false ∧ e.wqReady q = true) ∧
  (let q : Nat := 7
   let up : List Upset := []
   let e : List Word := entry 3 5 0
   let rest : List (List Word) := []; let stored : Bool := false
   let x : WqCtx := { base := 0x3000, hdr := 0x4000, qlim := 100, cache := [entry 3 5 0] }
   let d : Dev := (((rings.wqPut 7 { base := 0x3000, hdr := 0x4000, qlim := 100, cache := [entry 3 5 0] }).reserve 5).getD (false, awake)).2
   let s : Machine.State := S (rings.wqPut 7 { base := 0x3000, hdr := 0x4000, qlim := 100, cache := [entry 3 5 0] })
   let c : Dev := (if up.contains Upset.corrected = true then s.dev.eccCorr else s.dev)
   let b : Dev := List.foldl (fun d b => d.cacheLost b.1 b.2) c (List.filterMap (fun u => match u with | Upset.entryCache w loc => some (w, loc) | x => none) up)
   b.on 27 = true ∧ b.wqReady q = true ∧ SMap.look q b.hrg.wq = some x ∧ x.cache = e :: rest ∧
   List.countP (fun k => k.reads != 0) x.work < 8 ∧ b.reserve (b.f F.HRG_WQ_STAT_CQ q) = some (stored, d) ∧
   b.wqIsRx q = true ∧ rxCheck e ≠ 0 ∧ d.wqIsRx q = true) ∧
  (let q : Nat := 3
   let up : List Upset := []
   let e : List Word := entry 2 0 0
   let rest : List (List Word) := []; let stored : Bool := false
   let x : WqCtx := { wqc with cache := [entry 2 0 0] }
   let d : Dev := (((wq3 { wqc with cache := [entry 2 0 0] }).reserve 5).getD (false, awake)).2
   let s : Machine.State := S (wq3 { wqc with cache := [entry 2 0 0] })
   let c : Dev := (if up.contains Upset.corrected = true then s.dev.eccCorr else s.dev)
   let b : Dev := List.foldl (fun d b => d.cacheLost b.1 b.2) c (List.filterMap (fun u => match u with | Upset.entryCache w loc => some (w, loc) | x => none) up)
   b.on 27 = true ∧ b.wqReady q = true ∧ SMap.look q b.hrg.wq = some x ∧ x.cache = e :: rest ∧
   List.countP (fun k => k.reads != 0) x.work < 8 ∧ b.reserve (b.f F.HRG_WQ_STAT_CQ q) = some (stored, d) ∧
   b.wqIsRx q = false ∧ d.wqIsRx q = false ∧ (d.txCheck e ≠ 0 ∨ weOp e = 2)) ∧
  (let q : Nat := 3
   let up : List Upset := []
   let e : List Word := entry 1 4 (1 * 2 ^ 52)
   let rest : List (List Word) := []; let stored : Bool := false
   let x : WqCtx := { wqc with cache := [entry 1 4 (1 * 2 ^ 52)] }
   let d : Dev := (((wq3 { wqc with cache := [entry 1 4 (1 * 2 ^ 52)] }).reserve 5).getD (false, awake)).2
   let s : Machine.State := S (wq3 { wqc with cache := [entry 1 4 (1 * 2 ^ 52)] })
   let c : Dev := (if up.contains Upset.corrected = true then s.dev.eccCorr else s.dev)
   let b : Dev := List.foldl (fun d b => d.cacheLost b.1 b.2) c (List.filterMap (fun u => match u with | Upset.entryCache w loc => some (w, loc) | x => none) up)
   b.on 27 = true ∧ b.wqReady q = true ∧ SMap.look q b.hrg.wq = some x ∧ x.cache = e :: rest ∧
   List.countP (fun k => k.reads != 0) x.work < 8 ∧ b.reserve (b.f F.HRG_WQ_STAT_CQ q) = some (stored, d) ∧
   b.wqIsRx q = false ∧ d.wqIsRx q = false ∧ d.txCheck e = 0 ∧ weOp e = 1) ∧
  (let q : Nat := 3; let idx : Nat := 0
   let data : List Byte := [1, 2, 3, 4]; let c : Rsp := .done
   let r : FabReq := req0 (.sendData 3 0)
   let k : Work := { idx := 0, words := entry 1 1 (2 * 2 ^ 52), stored := false, reads := 2, fail := 0, data := List.replicate 60 7 }
   let s : Machine.State := S (ask (wq3 { wqc with work := [{ idx := 0, words := entry 1 1 (2 * 2 ^ 52), stored := false, reads := 2, fail := 0, data := List.replicate 60 7 }] }) (.sendData 3 0))
   let d : Dev := (wq3 { wqc with work := [{ idx := 0, words := entry 1 1 (2 * 2 ^ 52), stored := false, reads := 2, fail := 0, data := List.replicate 60 7 }] })
   let x : WqCtx := { wqc with work := [{ idx := 0, words := entry 1 1 (2 * 2 ^ 52), stored := false, reads := 2, fail := 0, data := List.replicate 60 7 }] }
   (s.dev.outstanding (FabKind.sendData q idx) = some r ∧ let d' : Dev := s.dev.answered (FabKind.sendData q idx) r c; d'.workAt q idx = some k ∧ k.reads ≠ 0) ∧
   (SMap.look q d.hrg.wq = some x ∧ List.find? (fun k => k.status.isNone && k.send == 0) x.work = some k)) ∧
  (let k : Work := { idx := 0, words := entry 1 1 (2 * 2 ^ 52), stored := false, reads := 1, fail := 3, data := List.replicate 60 7 }
   k.fail ≠ 0) ∧
  (let d : Dev := wq3 { wqc with work := [{ idx := 0, words := entry 1 1 (2 * 2 ^ 52), stored := false, reads := 1, fail := 0, data := List.replicate 60 7 }] }
   let q : Nat := 3
   let k : Work := { idx := 0, words := entry 1 1 (2 * 2 ^ 52), stored := false, reads := 1, fail := 0, data := List.replicate 60 7 }
   let b : List Byte := List.replicate 60 7
   let d2 : Dev := ((({ (wq3 { wqc with work := [{ idx := 0, words := entry 1 1 (2 * 2 ^ 52), stored := false, reads := 1, fail := 0, data := List.replicate 60 7 }] }) with hrg := { (wq3 { wqc with work := [{ idx := 0, words := entry 1 1 (2 * 2 ^ 52), stored := false, reads := 1, fail := 0, data := List.replicate 60 7 }] }).hrg with sends := (wq3 { wqc with work := [{ idx := 0, words := entry 1 1 (2 * 2 ^ 52), stored := false, reads := 1, fail := 0, data := List.replicate 60 7 }] }).hrg.sends + 1 } } : Dev).pathBeats 6 (beats 60)).sendOffer 2 0 { data := List.replicate 60 7, path := 3, src := 3, send := 0, trace := 0 }).2
   k.fail = 0 ∧ sendSums (wf k.words 0 59 1 == 1) (wf k.words 0 58 1 == 1) k.data = some b ∧
   let f : Frame := { data := b, path := 3, src := q, trace := k.trace, send := if wf k.words 0 57 1 = 1 then d.hrg.sends + 1 else 0 }
   let a : Dev := { d with hrg := { d.hrg with sends := d.hrg.sends + 1 } }.pathBeats 6 (beats f.len)
   a.sendOffer (weDtype k.words) (weDest k.words) f = (true, d2)) ∧
  (let d : Dev := (wq3 { wqc with work := [{ idx := 0, words := entry 1 1 (2 * 2 ^ 52), stored := false, reads := 1, fail := 0, data := List.replicate 60 7 }] }).setI F.QSC_FC_CFG_EN 0 0
   let q : Nat := 3
   let k : Work := { idx := 0, words := entry 1 1 (1 * 2 ^ 52), stored := false, reads := 1, fail := 0, data := List.replicate 60 7 }
   let b : List Byte := List.replicate 60 7
   let d2 : Dev := ((({ ((wq3 { wqc with work := [{ idx := 0, words := entry 1 1 (2 * 2 ^ 52), stored := false, reads := 1, fail := 0, data := List.replicate 60 7 }] }).setI F.QSC_FC_CFG_EN 0 0) with hrg := { ((wq3 { wqc with work := [{ idx := 0, words := entry 1 1 (2 * 2 ^ 52), stored := false, reads := 1, fail := 0, data := List.replicate 60 7 }] }).setI F.QSC_FC_CFG_EN 0 0).hrg with sends := ((wq3 { wqc with work := [{ idx := 0, words := entry 1 1 (2 * 2 ^ 52), stored := false, reads := 1, fail := 0, data := List.replicate 60 7 }] }).setI F.QSC_FC_CFG_EN 0 0).hrg.sends + 1 } } : Dev).pathBeats 6 (beats 60)).sendOffer 1 0 { data := List.replicate 60 7, path := 3, src := 3, send := 0, trace := 0 }).2
   k.fail = 0 ∧ sendSums (wf k.words 0 59 1 == 1) (wf k.words 0 58 1 == 1) k.data = some b ∧
   let f : Frame := { data := b, path := 3, src := q, trace := k.trace, send := if wf k.words 0 57 1 = 1 then d.hrg.sends + 1 else 0 }
   let a : Dev := { d with hrg := { d.hrg with sends := d.hrg.sends + 1 } }.pathBeats 6 (beats f.len)
   a.sendOffer (weDtype k.words) (weDest k.words) f = (false, d2)) ∧
  (let q : Nat := 5; let idx : Nat := 0; let i : Nat := 0; let c : Rsp := .done
   let r : FabReq := req0 (.completion 5 0)
   let x : CqCtx := { cqc with fly := [{ idx := 0, data := [9, 9], landed := false }] }
   let s : Machine.State := S (ask (cq5 { cqc with fly := [{ idx := 0, data := [9, 9], landed := false }] }) (.completion 5 0))
   s.dev.outstanding (FabKind.completion q idx) = some r ∧ q < 1024 ∧
   let d : Dev := s.dev.answered (FabKind.completion q idx) r c
   SMap.look q d.hrg.cq = some x ∧ List.findIdx? (fun e => e.idx == idx && !e.landed) x.fly = some i ∧ c = Rsp.done) ∧
  (let q : Nat := 5; let idx : Nat := 0; let i : Nat := 0; let c : Rsp := .fault
   let r : FabReq := req0 (.completion 5 0)
   let x : CqCtx := { cqc with fly := [{ idx := 0, data := [9, 9], landed := false }] }
   let s : Machine.State := S (ask (cq5 { cqc with fly := [{ idx := 0, data := [9, 9], landed := false }] }) (.completion 5 0))
   s.dev.outstanding (FabKind.completion q idx) = some r ∧ q < 1024 ∧
   let d : Dev := s.dev.answered (FabKind.completion q idx) r c
   SMap.look q d.hrg.cq = some x ∧ List.findIdx? (fun e => e.idx == idx && !e.landed) x.fly = some i ∧ c ≠ Rsp.done) ∧
  (let q : Nat := 5
   let up : List Upset := [.storeEntry 5 7 true]
   let bad : List (Nat × Bool) := List.filterMap (fun u => match u with | Upset.storeEntry c loc both => if (c == q) = true then some (loc, both) else none | x => none) up
   (bad.any fun x => x.2) = true) ∧
  (let q : Nat := 5
   let up : List Upset := []
   let s : Machine.State := S (cq5 { cqc with stored := [[9, 9]] })
   let data : List Byte := [9, 9]
   let rest : List (List Byte) := []
   let x : CqCtx := { cqc with stored := [[9, 9]] }
   let b : Dev := (if up.contains Upset.corrected = true then s.dev.eccCorr else s.dev)
   let bad : List (Nat × Bool) := List.filterMap (fun u => match u with | Upset.storeEntry c loc both => if (c == q) = true then some (loc, both) else none | x => none) up
   let d : Dev := List.foldl (fun d b => d.eccUncorr 4 b.1 1603) b bad
   (bad.any fun x => x.2) = false ∧ d.on 27 = true ∧ d.on 31 = true ∧ d.cqReady q = true ∧
   SMap.look q d.hrg.cq = some x ∧ x.stored = data :: rest ∧
   idxSub (x.next + x.res) (d.f F.HRG_CQ_STAT_HOST_IDX q) < d.cqSize q) :=
  ⟨by decide +kernel,
   by decide +kernel,
   by decide +kernel,
   by decide +kernel,
   by decide +kernel,
   by decide +kernel,
   by decide +kernel,
   by decide +kernel,
   by decide +kernel,
   by decide +kernel,
   by decide +kernel,
   by decide +kernel,
   by decide +kernel,
   by decide +kernel⟩

theorem witness_HeadersIndicesAndReceive_1 :
  (let q : Nat := 3; let x : WqCtx := wqc
   let s : Machine.State := S (rings.setI F.HRG_WQ_STAT_HEAD 3 5)
   q < 1024 ∧ s.dev.on 27 = true ∧ s.dev.on 31 = true ∧ s.dev.outstanding (FabKind.ringHeader q) = none ∧
   SMap.look q s.dev.hrg.wq = some x ∧ s.dev.wqReady q = true ∧ s.dev.wqHead q ≠ x.hdrIdx) ∧
  (let q : Nat := 5; let x : CqCtx := cqc
   let s : Machine.State := S (rings.setI F.HRG_CQ_STAT_PI 5 16)
   (q < 1024 ∧ s.dev.on 27 = true ∧ s.dev.on 31 = true ∧ s.dev.outstanding (FabKind.ringHeader (q + 1024)) = none ∧ SMap.look q s.dev.hrg.cq = some x ∧ s.dev.cqReady q = true ∧ s.dev.f F.HRG_CQ_STAT_PI q ≠ x.hdrIdx) ∧
   (s.dev.on 27 = true ∧ s.dev.on 31 = true ∧ SMap.look q s.dev.hrg.cq = some x ∧ (x.sres ≠ 0 ∨ x.stored ≠ [] ∨ s.dev.cqSize q ≤ idxSub (s.dev.f F.HRG_CQ_STAT_PI q) (s.dev.f F.HRG_CQ_STAT_HOST_IDX q)))) ∧
  (let n : Nat := 3; let c : Rsp := .done
   let r : FabReq := req0 (.ringHeader 3)
   let s : Machine.State := S (ask rings (.ringHeader 3))
   s.dev.outstanding (FabKind.ringHeader n) = some r ∧ c = Rsp.done) ∧
  (let n : Nat := 3; let c : Rsp := .deny
   let r : FabReq := req0 (.ringHeader 3)
   let s : Machine.State := S (ask rings (.ringHeader 3))
   s.dev.outstanding (FabKind.ringHeader n) = some r ∧ c ≠ Rsp.done ∧ n < 1024) ∧
  (let n : Nat := 1029; let c : Rsp := .fault
   let r : FabReq := req0 (.ringHeader 1029)
   let s : Machine.State := S (ask rings (.ringHeader 1029))
   s.dev.outstanding (FabKind.ringHeader n) = some r ∧ c ≠ Rsp.done ∧ 1024 ≤ n ∧ n < 2048) ∧
  (let d : Dev := rings; let q : Nat := 3; let x : WqCtx := wqc
   d.wqReady q = true ∧ SMap.look q d.hrg.wq = some x) ∧
  (let d : Dev := rings; let q : Nat := 5
   d.cqReady q = true) ∧
  (let q : Nat := 5; let v : Word := 3; let c : Rsp := .done
   let r : FabReq := req0 (.hostIdx 5); let x : CqCtx := cqc
   let s : Machine.State := S (ask (rings.setI F.HRG_CQ_STAT_PI 5 5) (.hostIdx 5))
   q < 1024 ∧ s.dev.outstanding (FabKind.hostIdx q) = some r ∧
   let d : Dev := s.dev.answered (FabKind.hostIdx q) r c
   SMap.look q d.hrg.cq = some x ∧
   let e : Dev := d.cqPut q { x with arming := x.arming - 1 }
   let h : Nat := BitVec.toNat v % 2 ^ 18
   let back : Nat := idxSub (e.f F.HRG_CQ_STAT_PI q) h
   c = Rsp.done ∧ back ≤ e.cqSize q ∧ back ≤ idxSub (e.f F.HRG_CQ_STAT_PI q) (e.f F.HRG_CQ_STAT_HOST_IDX q)) ∧
  (let q : Nat := 5; let v : Word := 9; let c : Rsp := .done
   let r : FabReq := req0 (.hostIdx 5); let x : CqCtx := cqc
   let s : Machine.State := S (ask (rings.setI F.HRG_CQ_STAT_PI 5 5) (.hostIdx 5))
   q < 1024 ∧ s.dev.outstanding (FabKind.hostIdx q) = some r ∧
   let d : Dev := s.dev.answered (FabKind.hostIdx q) r c
   SMap.look q d.hrg.cq = some x ∧
   let e : Dev := d.cqPut q { x with arming := x.arming - 1 }
   let h : Nat := BitVec.toNat v % 2 ^ 18
   let back : Nat := idxSub (e.f F.HRG_CQ_STAT_PI q) h
   c = Rsp.done ∧ (e.cqSize q < back ∨ idxSub (e.f F.HRG_CQ_STAT_PI q) (e.f F.HRG_CQ_STAT_HOST_IDX q) < back)) ∧
  (let q : Nat := 5; let c : Rsp := .deny
   let r : FabReq := req0 (.hostIdx 5); let x : CqCtx := cqc
   let s : Machine.State := S (ask (rings.setI F.HRG_CQ_STAT_PI 5 5) (.hostIdx 5))
   q < 1024 ∧ s.dev.outstanding (FabKind.hostIdx q) = some r ∧
   let d : Dev := s.dev.answered (FabKind.hostIdx q) r c
   SMap.look q d.hrg.cq = some x ∧ c ≠ Rsp.done) ∧
  (let d : Dev := (rings.setI F.HRG_CQ_STAT_ARMED 5 1).setI F.HRG_CQ_STAT_PI 5 1; let q : Nat := 5
   let x : CqCtx := cqc
   SMap.look q d.hrg.cq = some x ∧ d.f F.HRG_CQ_STAT_ARMED q ≠ 0 ∧ x.arming = 0 ∧
   d.f F.HRG_CQ_STAT_PI q ≠ d.f F.HRG_CQ_STAT_HOST_IDX q) ∧
  (let q : Nat := 5; let wq : Nat := 7
   let up : List Upset := []
   let f : Frame := { data := List.replicate 300 7, path := 3 }
   let rest : List Frame := []
   let x : CqCtx := { cqc with wait := [{ data := List.replicate 300 7, path := 3 }] }
   let w : WqCtx := { base := 0x3000, hdr := 0x4000, qlim := 100, cache := [entry 1 1 0, entry 3 2 0] }
   let s : Machine.State := S ((cq5 { cqc with wait := [{ data := List.replicate 300 7, path := 3 }] }).wqPut 7 { base := 0x3000, hdr := 0x4000, qlim := 100, cache := [entry 1 1 0, entry 3 2 0] })
   let stored : Bool := ((((cq5 { cqc with wait := [{ data := List.replicate 300 7, path := 3 }] }).wqPut 7 { base := 0x3000, hdr := 0x4000, qlim := 100, cache := [entry 1 1 0, entry 3 2 0] }).reserve 5).getD (false, awake)).1
   let d : Dev := ((((cq5 { cqc with wait := [{ data := List.replicate 300 7, path := 3 }] }).wqPut 7 { base := 0x3000, hdr := 0x4000, qlim := 100, cache := [entry 1 1 0, entry 3 2 0] }).reserve 5).getD (false, awake)).2
   let x2 : CqCtx := ((((((cq5 { cqc with wait := [{ data := List.replicate 300 7, path := 3 }] }).wqPut 7 { base := 0x3000, hdr := 0x4000, qlim := 100, cache := [entry 1 1 0, entry 3 2 0] }).reserve 5).getD (false, awake)).2).hrg.cq.look 5).getD cqc
   let b : Dev := (if up.contains Upset.corrected = true then s.dev.eccCorr else s.dev)
   let cell : Option Nat := List.findSome? (fun u => match u with | Upset.bufferCell loc => some loc | x => none) up
   SMap.look q b.hrg.cq = some x ∧ x.wait = f :: rest ∧ x.job = none ∧ cell = none ∧ b.on 27 = true ∧ b.on 31 = true ∧
   b.rxQueue q = some wq ∧ SMap.look wq b.hrg.wq = some w ∧ f.rxLen ≤ w.octets ∧ b.reserve q = some (stored, d) ∧
   let r : List Byte × Dev := d.rxData f
   let a : Dev := (r.2.bufRead (beats f.len) 0).pathBeats 6 (beats f.len)
   SMap.look q a.hrg.cq = some x2) ∧
  (let q : Nat := 5
   let up : List Upset := [.bufferCell 3]
   let f : Frame := { data := List.replicate 300 7, path := 3 }
   let rest : List Frame := []
   let x : CqCtx := { cqc with wait := [{ data := List.replicate 300 7, path := 3 }] }
   let s : Machine.State := S ((cq5 { cqc with wait := [{ data := List.replicate 300 7, path := 3 }] }).wqPut 7 { base := 0x3000, hdr := 0x4000, qlim := 100, cache := [entry 1 1 0, entry 3 2 0] })
   let loc : Nat := 3
   let b : Dev := (if up.contains Upset.corrected = true then s.dev.eccCorr else s.dev)
   let cell : Option Nat := List.findSome? (fun u => match u with | Upset.bufferCell loc => some loc | x => none) up
   SMap.look q b.hrg.cq = some x ∧ x.wait = f :: rest ∧ x.job = none ∧ cell = some loc) ∧
  (let q : Nat := 5; let wq : Nat := 7
   let up : List Upset := []
   let f : Frame := { data := List.replicate 300 7, path := 3 }
   let rest : List Frame := []
   let x : CqCtx := { cqc with wait := [{ data := List.replicate 300 7, path := 3 }] }
   let w : WqCtx := { base := 0x3000, hdr := 0x4000, qlim := 100, cache := [entry 1 1 0] }
   let s : Machine.State := S ((((cq5 { cqc with wait := [{ data := List.replicate 300 7, path := 3 }] }).wqPut 7 { base := 0x3000, hdr := 0x4000, qlim := 100, cache := [entry 1 1 0] }).setI F.HRG_WQ_STAT_TAIL 7 1).setI F.HRG_WQ_STAT_LOG2SIZE 7 0)
   let b : Dev := (if up.contains Upset.corrected = true then s.dev.eccCorr else s.dev)
   let cell : Option Nat := List.findSome? (fun u => match u with | Upset.bufferCell loc => some loc | x => none) up
   SMap.look q b.hrg.cq = some x ∧ x.wait = f :: rest ∧ x.job = none ∧ cell = none ∧ b.on 27 = true ∧ b.on 31 = true ∧
   b.rxQueue q = some wq ∧ SMap.look wq b.hrg.wq = some w ∧ w.octets < f.rxLen ∧ b.wqUsed wq = b.wqSize wq ∧
   w.cache.length + w.past.length = b.wqUsed wq) :=
  ⟨by decide +kernel,
   by decide +kernel,
   by decide +kernel,
   by decide +kernel,
   by decide +kernel,
   by decide +kernel,
   by decide +kernel,
   by decide +kernel,
   by decide +kernel,
   by decide +kernel,
   by decide +kernel,
   by decide +kernel,
   by decide +kernel,
   by decide +kernel⟩

theorem witness_HeadersIndicesAndReceive_2 :
  (let d : Dev := ((cq5 { cqc with wait := [], job := some { frame := { data := List.replicate 300 7, path := 3 }, wq := 7, stored := false, comp := { idx := 0, words := [], stored := false, len := 300 }, data := List.replicate 300 7, held := [], first := none, bad := false } }).wqPut 7 { base := 0x3000, hdr := 0x4000, qlim := 100, cache := [entry 1 1 0] })
   let q : Nat := 5
   let x : CqCtx := { cqc with job := some { frame := { data := List.replicate 300 7, path := 3 }, wq := 7, stored := false, comp := { idx := 0, words := [], stored := false, len := 300 }, data := List.replicate 300 7, held := [], first := none, bad := false } }
   let j : RxJob := { frame := { data := List.replicate 300 7, path := 3 }, wq := 7, stored := false, comp := { idx := 0, words := [], stored := false, len := 300 }, data := List.replicate 300 7, held := [], first := none, bad := false }
   let w : WqCtx := { base := 0x3000, hdr := 0x4000, qlim := 100, cache := [entry 1 1 0] }
   let e : List Word := entry 1 1 0
   let rest : List (List Word) := []
   let stored : Bool := ((((cq5 { cqc with wait := [], job := some { frame := { data := List.replicate 300 7, path := 3 }, wq := 7, stored := false, comp := { idx := 0, words := [], stored := false, len := 300 }, data := List.replicate 300 7, held := [], first := none, bad := false } }).wqPut 7 { base := 0x3000, hdr := 0x4000, qlim := 100, cache := [entry 1 1 0] }).reserve 5).getD (false, awake)).1
   let d2 : Dev := ((((cq5 { cqc with wait := [], job := some { frame := { data := List.replicate 300 7, path := 3 }, wq := 7, stored := false, comp := { idx := 0, words := [], stored := false, len := 300 }, data := List.replicate 300 7, held := [], first := none, bad := false } }).wqPut 7 { base := 0x3000, hdr := 0x4000, qlim := 100, cache := [entry 1 1 0] }).reserve 5).getD (false, awake)).2
   SMap.look q d.hrg.cq = some x ∧ x.job = some j ∧ SMap.look j.wq d.hrg.wq = some w ∧ w.cache = e :: rest ∧
   j.data ≠ [] ∧ j.held.length < 8 ∧ rxCheck e ≠ 0 ∧ d.reserve q = some (stored, d2)) ∧
  (let d : Dev := ((cq5 { cqc with wait := [], job := some { frame := { data := List.replicate 300 7, path := 3 }, wq := 7, stored := false, comp := { idx := 0, words := [], stored := false, len := 300 }, data := List.replicate 300 7, held := [], first := none, bad := false } }).wqPut 7 { base := 0x3000, hdr := 0x4000, qlim := 100, cache := [entry 3 2 0] })
   let q : Nat := 5
   let x : CqCtx := { cqc with job := some { frame := { data := List.replicate 300 7, path := 3 }, wq := 7, stored := false, comp := { idx := 0, words := [], stored := false, len := 300 }, data := List.replicate 300 7, held := [], first := none, bad := false } }
   let j : RxJob := { frame := { data := List.replicate 300 7, path := 3 }, wq := 7, stored := false, comp := { idx := 0, words := [], stored := false, len := 300 }, data := List.replicate 300 7, held := [], first := none, bad := false }
   let w : WqCtx := { base := 0x3000, hdr := 0x4000, qlim := 100, cache := [entry 3 2 0] }
   let e : List Word := entry 3 2 0
   let rest : List (List Word) := []
   SMap.look q d.hrg.cq = some x ∧ x.job = some j ∧ SMap.look j.wq d.hrg.wq = some w ∧ w.cache = e :: rest ∧
   j.data ≠ [] ∧ j.held.length < 8 ∧ rxCheck e = 0) ∧
  (let q : Nat := 5; let idx : Nat := 0; let c : Rsp := .done
   let r : FabReq := req0 (.rxData 5 0)
   let x : CqCtx := { cqc with job := some { frame := { data := List.replicate 300 7, path := 3 }, wq := 7, stored := false, comp := { idx := 0, words := [], stored := false, len := 300 }, data := [], held := [(0, 2)], first := some 0, bad := false } }
   let j : RxJob := { frame := { data := List.replicate 300 7, path := 3 }, wq := 7, stored := false, comp := { idx := 0, words := [], stored := false, len := 300 }, data := [], held := [(0, 2)], first := some 0, bad := false }
   let s : Machine.State := S (ask (cq5 { cqc with job := some { frame := { data := List.replicate 300 7, path := 3 }, wq := 7, stored := false, comp := { idx := 0, words := [], stored := false, len := 300 }, data := [], held := [(0, 2)], first := some 0, bad := false } }) (.rxData 5 0))
   s.dev.outstanding (FabKind.rxData q idx) = some r ∧
   let d : Dev := s.dev.answered (FabKind.rxData q idx) r c
   SMap.look q d.hrg.cq = some x ∧ x.job = some j) ∧
  (let d : Dev := (cq5 { cqc with job := some { frame := { data := List.replicate 300 7, path := 3 }, wq := 7, stored := false, comp := { idx := 0, words := [], stored := false, len := 300 }, data := [], held := [(0, 2)], first := some 0, bad := false } })
   let q : Nat := 5
   let x : CqCtx := { cqc with job := some { frame := { data := List.replicate 300 7, path := 3 }, wq := 7, stored := false, comp := { idx := 0, words := [], stored := false, len := 300 }, data := [], held := [(0, 2)], first := some 0, bad := false } }
   let j : RxJob := { frame := { data := List.replicate 300 7, path := 3 }, wq := 7, stored := false, comp := { idx := 0, words := [], stored := false, len := 300 }, data := [], held := [(0, 2)], first := some 0, bad := false }
   SMap.look q d.hrg.cq = some x ∧ x.job = some j ∧ (j.data ≠ [] ∨ j.held ≠ [])) ∧
  (let d : Dev := (cq5 { cqc with job := some { frame := { data := List.replicate 300 7, path := 3 }, wq := 7, stored := false, comp := { idx := 0, words := [], stored := false, len := 300 }, data := [], held := [], first := some 0, bad := false } })
   let q : Nat := 5; let i : Nat := 0
   let x : CqCtx := { cqc with job := some { frame := { data := List.replicate 300 7, path := 3 }, wq := 7, stored := false, comp := { idx := 0, words := [], stored := false, len := 300 }, data := [], held := [], first := some 0, bad := false } }
   let j : RxJob := { frame := { data := List.replicate 300 7, path := 3 }, wq := 7, stored := false, comp := { idx := 0, words := [], stored := false, len := 300 }, data := [], held := [], first := some 0, bad := false }
   SMap.look q d.hrg.cq = some x ∧ x.job = some j ∧ j.data = [] ∧ j.held = [] ∧ j.first = some i ∧ j.bad = false) ∧
  (let d : Dev := (cq5 { cqc with job := some { frame := { data := List.replicate 300 7, path := 3 }, wq := 7, stored := false, comp := { idx := 0, words := [], stored := false, len := 300 }, data := [], held := [], first := some 0, bad := true } })
   let q : Nat := 5; let i : Nat := 0
   let x : CqCtx := { cqc with job := some { frame := { data := List.replicate 300 7, path := 3 }, wq := 7, stored := false, comp := { idx := 0, words := [], stored := false, len := 300 }, data := [], held := [], first := some 0, bad := true } }
   let j : RxJob := { frame := { data := List.replicate 300 7, path := 3 }, wq := 7, stored := false, comp := { idx := 0, words := [], stored := false, len := 300 }, data := [], held := [], first := some 0, bad := true }
   SMap.look q d.hrg.cq = some x ∧ x.job = some j ∧ j.data = [] ∧ j.held = [] ∧ j.first = some i ∧ j.bad = true) ∧
  (let n : Nat := 2050; let c : Rsp := .fault
   let r : FabReq := req0 (.ringHeader 2050)
   let s : Machine.State := S (ask rings (.ringHeader 2050))
   s.dev.outstanding (FabKind.ringHeader n) = some r ∧ c ≠ Rsp.done ∧ 2048 ≤ n) ∧
  (let d : Dev := { rings with hrg := { rings.hrg with destroy := some { wq := false, q := 5, reads := 1, ok := true } } }
   let j : QctxJob := { wq := false, q := 5, reads := 1, ok := true }
   d.hrg.destroy = some j ∧ j.wq = false ∧ j.reads ≠ 0) ∧
  (let d : Dev := { rings with hrg := { rings.hrg with destroy := some { wq := false, q := 5, reads := 0, ok := false } } }
   let j : QctxJob := { wq := false, q := 5, reads := 0, ok := false }
   d.hrg.destroy = some j ∧ j.reads = 0 ∧
   (d.fab.out.any fun r => r.kind == FabKind.ringHeader (if j.wq = true then j.q else 1024 + j.q)) = false ∧
   let drained : Bool := (if j.wq = true then d.wqDrained j.q else d.cqDrained j.q)
   (j.ok = false ∨ drained = false)) ∧
  (let d : Dev := { rings with hrg := { rings.hrg with destroy := some { wq := true, q := 3, reads := 0, ok := true } } }
   let j : QctxJob := { wq := true, q := 3, reads := 0, ok := true }
   d.hrg.destroy = some j ∧ j.reads = 0 ∧
   (d.fab.out.any fun r => r.kind == FabKind.ringHeader (if j.wq = true then j.q else 1024 + j.q)) = false ∧
   let drained : Bool := (if j.wq = true then d.wqDrained j.q else d.cqDrained j.q)
   j.ok = true ∧ drained = true) :=
  ⟨by decide +kernel,
   by decide +kernel,
   by decide +kernel,
   by decide +kernel,
   by decide +kernel,
   by decide +kernel,
   by decide +kernel,
   by decide +kernel,
   by decide +kernel,
   by decide +kernel⟩

theorem witness_AdminCommands_1 :
  (let d : Dev := rings; let f : Nat := 0
   let a : AdminPair := { wqBase := 0x7000, wqHdr := 0x8000, wqLog := 4, cqBase := 0x9000, cqHdr := 0xA000, cqLog := 4 }
   SMap.look f d.hrg.admin = some a) ∧
  (let f : Nat := 0
   let e : AdminIn := admE 0 []; let a : AdminPair := admPair
   let t : Dev := admT rings (admE 0 [])
   let s : Machine.State := S (adm rings)
   s.dev.adminTaken f e a t ∧ e.cmd = 0) ∧
  (let f : Nat := 0
   let e : AdminIn := admE 1 []; let a : AdminPair := admPair
   let t : Dev := admT rings (admE 1 [])
   let s : Machine.State := S (adm rings)
   s.dev.adminTaken f e a t ∧ e.cmd = 1) ∧
  (let f : Nat := 0
   let e : AdminIn := admE 2 [17]; let a : AdminPair := admPair
   let t : Dev := admT rings (admE 2 [17])
   let s : Machine.State := S (adm rings)
   s.dev.adminTaken f e a t ∧ e.cmd = 2 ∧
   let lg : Nat := bits (e.p 0) 0 5
   (lg < 4 ∨ 16 < lg)) ∧
  (let f : Nat := 0
   let e : AdminIn := admE 2 [4, 0x10000, 0x20000]; let a : AdminPair := admPair
   let t : Dev := admT rings (admE 2 [4, 0x10000, 0x20000])
   let s : Machine.State := S (adm rings); let q : Nat := 0
   s.dev.adminTaken f e a t ∧ e.cmd = 2 ∧
   let lg : Nat := bits (e.p 0) 0 5
   4 ≤ lg ∧ lg ≤ 16 ∧ t.freeQueue F.HRG_CQ_STAT_STATE = some q ∧
   let d : Dev := (t.qctxAddr (e.p 1) (e.p 2)).createCq q f lg
   d.f F.HRG_QCTX_CMD_ERR = 0) ∧
  (let f : Nat := 0
   let e : AdminIn := admE 2 [4, 3, 0x20000]; let a : AdminPair := admPair
   let t : Dev := admT rings (admE 2 [4, 3, 0x20000])
   let s : Machine.State := S (adm rings); let q : Nat := 0
   s.dev.adminTaken f e a t ∧ e.cmd = 2 ∧
   let lg : Nat := bits (e.p 0) 0 5
   4 ≤ lg ∧ lg ≤ 16 ∧ t.freeQueue F.HRG_CQ_STAT_STATE = some q ∧
   let d : Dev := (t.qctxAddr (e.p 1) (e.p 2)).createCq q f lg
   d.f F.HRG_QCTX_CMD_ERR = 4) ∧
  (let f : Nat := 0
   let e : AdminIn := admE 2 [16, 0x10000, 0x20000]; let a : AdminPair := admPair
   let t : Dev := admT (full 0x104000 rings) (admE 2 [16, 0x10000, 0x20000])
   let s : Machine.State := S (adm (full 0x104000 rings))
   s.dev.adminTaken f e a t ∧ e.cmd = 2 ∧
   let lg : Nat := bits (e.p 0) 0 5
   4 ≤ lg ∧ lg ≤ 16 ∧ t.freeQueue F.HRG_CQ_STAT_STATE = none) ∧
  (let f : Nat := 0
   let e : AdminIn := admE 3 [5]; let a : AdminPair := admPair
   let t : Dev := admT ({ rings with hrg := { rings.hrg with wq := [], cq := [] } }) (admE 3 [5])
   let s : Machine.State := S (adm ({ rings with hrg := { rings.hrg with wq := [], cq := [] } }))
   s.dev.adminTaken f e a t ∧ e.cmd = 3 ∧
   let q : Nat := bits (e.p 0) 0 10
   t.cqReady q = true ∧ t.f F.HRG_CQ_STAT_FUNC q = f ∧
   let d : Dev := t.destroyCq q
   d.f F.HRG_QCTX_CMD_BUSY = 0 ∧ d.f F.HRG_QCTX_CMD_ERR = 0) ∧
  (let f : Nat := 0
   let e : AdminIn := admE 3 [5]; let a : AdminPair := admPair
   let t : Dev := admT ({ rings with hrg := { rings.hrg with wq := [] } }) (admE 3 [5])
   let s : Machine.State := S (adm ({ rings with hrg := { rings.hrg with wq := [] } }))
   let p : AdminPair := { admPair with head := 1 }
   s.dev.adminTaken f e a t ∧ e.cmd = 3 ∧
   let q : Nat := bits (e.p 0) 0 10
   t.cqReady q = true ∧ t.f F.HRG_CQ_STAT_FUNC q = f ∧
   let d : Dev := t.destroyCq q
   d.f F.HRG_QCTX_CMD_BUSY ≠ 0 ∧ SMap.look f d.hrg.admin = some p) ∧
  (let f : Nat := 0
   let e : AdminIn := admE 5 [3]; let a : AdminPair := admPair
   let t : Dev := admT (ask rings (.ringHeader 3)) (admE 5 [3])
   let s : Machine.State := S (adm (ask rings (.ringHeader 3)))
   let p : AdminPair := { admPair with head := 1 }
   s.dev.adminTaken f e a t ∧ e.cmd = 5 ∧
   let q : Nat := bits (e.p 0) 0 10
   t.wqReady q = true ∧ t.f F.HRG_WQ_STAT_FUNC q = f ∧
   let d : Dev := t.destroyWq q
   d.f F.HRG_QCTX_CMD_BUSY ≠ 0 ∧ SMap.look f d.hrg.admin = some p) ∧
  (let f : Nat := 0
   let e : AdminIn := admE 3 [6]; let a : AdminPair := admPair
   let t : Dev := admT rings (admE 3 [6])
   let s : Machine.State := S (adm rings)
   s.dev.adminTaken f e a t ∧ e.cmd = 3 ∧
   let q : Nat := bits (e.p 0) 0 10
   (t.cqReady q = false ∨ t.f F.HRG_CQ_STAT_FUNC q ≠ f)) ∧
  (let f : Nat := 0
   let e : AdminIn := admE 3 [5]; let a : AdminPair := admPair
   let t : Dev := admT rings (admE 3 [5])
   let s : Machine.State := S (adm rings)
   s.dev.adminTaken f e a t ∧ e.cmd = 3 ∧
   let q : Nat := bits (e.p 0) 0 10
   t.cqReady q = true ∧ t.f F.HRG_CQ_STAT_FUNC q = f ∧
   let d : Dev := t.destroyCq q
   d.f F.HRG_QCTX_CMD_BUSY = 0 ∧ (d.f F.HRG_QCTX_CMD_ERR = 2 ∨ d.f F.HRG_QCTX_CMD_ERR = 7)) ∧
  (let f : Nat := 0
   let e : AdminIn := admE 4 [3]; let a : AdminPair := admPair
   let t : Dev := admT rings (admE 4 [3])
   let s : Machine.State := S (adm rings)
   s.dev.adminTaken f e a t ∧ e.cmd = 4 ∧
   let lg : Nat := bits (e.p 0) 0 5
   (lg < 4 ∨ 16 < lg)) ∧
  (let f : Nat := 0
   let e : AdminIn := admE 4 [16 + 6 * 2 ^ 16, 0x10000, 0x20000]; let a : AdminPair := admPair
   let t : Dev := admT rings (admE 4 [16 + 6 * 2 ^ 16, 0x10000, 0x20000])
   let s : Machine.State := S (adm rings)
   s.dev.adminTaken f e a t ∧ e.cmd = 4 ∧
   let lg : Nat := bits (e.p 0) 0 5
   let cq : Nat := bits (e.p 0) 16 10
   4 ≤ lg ∧ lg ≤ 16 ∧ ¬(t.cqReady cq = true ∧ t.f F.HRG_CQ_STAT_FUNC cq = f)) :=
  ⟨by decide +kernel,
   ⟨admTaken (by decide +kernel) (by decide +kernel) (by decide +kernel), by decide +kernel⟩,
   ⟨admTaken (by decide +kernel) (by decide +kernel) (by decide +kernel), by decide +kernel⟩,
   ⟨admTaken (by decide +kernel) (by decide +kernel) (by decide +kernel), by decide +kernel⟩,
   ⟨admTaken (by decide +kernel) (by decide +kernel) (by decide +kernel), by decide +kernel⟩,
   ⟨admTaken (by decide +kernel) (by decide +kernel) (by decide +kernel), by decide +kernel⟩,
   ⟨admTaken (by decide +kernel) (by decide +kernel) (by decide +kernel), rfl, by decide, by decide,
    full_none (off := 0x104000) (A := (rings.set F.MBX_FW_STAT_DSTATE 2).regs.filter (fun p => p.1 < 0x104000 * 64))
      (B := (rings.set F.MBX_FW_STAT_DSTATE 2).regs.filter (fun p => (0x104000 + 8 * 1024) * 64 ≤ p.1)) rfl
      (fun _ => rfl) (by decide +kernel) (by decide +kernel)⟩,
   ⟨admTaken (by decide +kernel) (by decide +kernel) (by decide +kernel), by decide +kernel⟩,
   ⟨admTaken (by decide +kernel) (by decide +kernel) (by decide +kernel), by decide +kernel⟩,
   ⟨admTaken (by decide +kernel) (by decide +kernel) (by decide +kernel), by decide +kernel⟩,
   ⟨admTaken (by decide +kernel) (by decide +kernel) (by decide +kernel), by decide +kernel⟩,
   ⟨admTaken (by decide +kernel) (by decide +kernel) (by decide +kernel), by decide +kernel⟩,
   ⟨admTaken (by decide +kernel) (by decide +kernel) (by decide +kernel), by decide +kernel⟩,
   ⟨admTaken (by decide +kernel) (by decide +kernel) (by decide +kernel), by decide +kernel⟩⟩

theorem witness_AdminCommands_2 :
  (let f : Nat := 0
   let e : AdminIn := admE 4 [4 + 5 * 2 ^ 16, 0x10000, 0x20000]; let a : AdminPair := admPair
   let t : Dev := admT rings (admE 4 [4 + 5 * 2 ^ 16, 0x10000, 0x20000])
   let s : Machine.State := S (adm rings); let q : Nat := 0
   s.dev.adminTaken f e a t ∧ e.cmd = 4 ∧
   let lg : Nat := bits (e.p 0) 0 5
   let cq : Nat := bits (e.p 0) 16 10
   let rx : Bool := bit (e.p 0) 5
   4 ≤ lg ∧ lg ≤ 16 ∧ t.cqReady cq = true ∧ t.f F.HRG_CQ_STAT_FUNC cq = f ∧ t.freeQueue F.HRG_WQ_STAT_STATE = some q ∧
   let d : Dev := (t.qctxAddr (e.p 1) (e.p 2)).createWq q f lg cq (if rx = true then bits (e.p 3) 0 17 else 0) rx
   d.f F.HRG_QCTX_CMD_ERR = 0) ∧
  (let f : Nat := 0
   let e : AdminIn := admE 4 [4 + 5 * 2 ^ 16, 3, 0x20000]; let a : AdminPair := admPair
   let t : Dev := admT rings (admE 4 [4 + 5 * 2 ^ 16, 3, 0x20000])
   let s : Machine.State := S (adm rings); let q : Nat := 0
   s.dev.adminTaken f e a t ∧ e.cmd = 4 ∧
   let lg : Nat := bits (e.p 0) 0 5
   let cq : Nat := bits (e.p 0) 16 10
   let rx : Bool := bit (e.p 0) 5
   4 ≤ lg ∧ lg ≤ 16 ∧ t.cqReady cq = true ∧ t.f F.HRG_CQ_STAT_FUNC cq = f ∧ t.freeQueue F.HRG_WQ_STAT_STATE = some q ∧
   let d : Dev := (t.qctxAddr (e.p 1) (e.p 2)).createWq q f lg cq (if rx = true then bits (e.p 3) 0 17 else 0) rx
   d.f F.HRG_QCTX_CMD_ERR = 4) ∧
  (let f : Nat := 0
   let e : AdminIn := admE 4 [4 + 32 + 5 * 2 ^ 16, 0x10000, 0x20000]; let a : AdminPair := admPair
   let t : Dev := admT rings (admE 4 [4 + 32 + 5 * 2 ^ 16, 0x10000, 0x20000])
   let s : Machine.State := S (adm rings); let q : Nat := 0
   s.dev.adminTaken f e a t ∧ e.cmd = 4 ∧
   let lg : Nat := bits (e.p 0) 0 5
   let cq : Nat := bits (e.p 0) 16 10
   let rx : Bool := bit (e.p 0) 5
   4 ≤ lg ∧ lg ≤ 16 ∧ t.cqReady cq = true ∧ t.f F.HRG_CQ_STAT_FUNC cq = f ∧ t.freeQueue F.HRG_WQ_STAT_STATE = some q ∧
   let d : Dev := (t.qctxAddr (e.p 1) (e.p 2)).createWq q f lg cq (if rx = true then bits (e.p 3) 0 17 else 0) rx
   d.f F.HRG_QCTX_CMD_ERR = 6) ∧
  (let f : Nat := 0
   let e : AdminIn := admE 4 [4 + 5 * 2 ^ 16, 0x10000, 0x20000]; let a : AdminPair := admPair
   let t : Dev := admT (full 0x102000 rings) (admE 4 [4 + 5 * 2 ^ 16, 0x10000, 0x20000])
   let s : Machine.State := S (adm (full 0x102000 rings))
   s.dev.adminTaken f e a t ∧ e.cmd = 4 ∧
   let lg : Nat := bits (e.p 0) 0 5
   let cq : Nat := bits (e.p 0) 16 10
   4 ≤ lg ∧ lg ≤ 16 ∧ t.cqReady cq = true ∧ t.f F.HRG_CQ_STAT_FUNC cq = f ∧ t.freeQueue F.HRG_WQ_STAT_STATE = none) ∧
  (let f : Nat := 0
   let e : AdminIn := admE 5 [4]; let a : AdminPair := admPair
   let t : Dev := admT rings (admE 5 [4])
   let s : Machine.State := S (adm rings)
   s.dev.adminTaken f e a t ∧ e.cmd = 5 ∧
   let q : Nat := bits (e.p 0) 0 10
   (t.wqReady q = false ∨ t.f F.HRG_WQ_STAT_FUNC q ≠ f)) ∧
  (let f : Nat := 0
   let e : AdminIn := admE 5 [3]; let a : AdminPair := admPair
   let t : Dev := admT rings (admE 5 [3])
   let s : Machine.State := S (adm rings)
   s.dev.adminTaken f e a t ∧ e.cmd = 5 ∧
   let q : Nat := bits (e.p 0) 0 10
   t.wqReady q = true ∧ t.f F.HRG_WQ_STAT_FUNC q = f ∧
   let d : Dev := t.destroyWq q
   d.f F.HRG_QCTX_CMD_BUSY = 0 ∧ d.f F.HRG_QCTX_CMD_ERR = 0) ∧
  (let f : Nat := 0
   let e : AdminIn := admE 5 [3]; let a : AdminPair := admPair
   let t : Dev := admT (rings.setI F.HRG_WQ_STAT_TAIL 3 1) (admE 5 [3])
   let s : Machine.State := S (adm (rings.setI F.HRG_WQ_STAT_TAIL 3 1))
   s.dev.adminTaken f e a t ∧ e.cmd = 5 ∧
   let q : Nat := bits (e.p 0) 0 10
   t.wqReady q = true ∧ t.f F.HRG_WQ_STAT_FUNC q = f ∧
   let d : Dev := t.destroyWq q
   d.f F.HRG_QCTX_CMD_BUSY = 0 ∧ d.f F.HRG_QCTX_CMD_ERR = 2) ∧
  (let f : Nat := 0
   let e : AdminIn := admE 6 [5 + 1024]; let a : AdminPair := admPair
   let t : Dev := admT rings (admE 6 [5 + 1024])
   let s : Machine.State := S (adm rings)
   s.dev.adminTaken f e a t ∧ e.cmd = 6 ∧
   let q : Nat := bits (e.p 0) 0 10
   bit (e.p 0) 10 = true ∧ t.cqReady q = true ∧ t.f F.HRG_CQ_STAT_FUNC q = f) ∧
  (let f : Nat := 0
   let e : AdminIn := admE 6 [3]; let a : AdminPair := admPair
   let t : Dev := admT rings (admE 6 [3])
   let s : Machine.State := S (adm rings)
   s.dev.adminTaken f e a t ∧ e.cmd = 6 ∧
   let q : Nat := bits (e.p 0) 0 10
   bit (e.p 0) 10 = false ∧ t.wqReady q = true ∧ t.f F.HRG_WQ_STAT_FUNC q = f) ∧
  (let f : Nat := 0
   let e : AdminIn := admE 6 [4]; let a : AdminPair := admPair
   let t : Dev := admT rings (admE 6 [4])
   let s : Machine.State := S (adm rings)
   s.dev.adminTaken f e a t ∧ e.cmd = 6 ∧
   let q : Nat := bits (e.p 0) 0 10
   bit (e.p 0) 10 = false ∧ (t.wqReady q = false ∨ t.f F.HRG_WQ_STAT_FUNC q ≠ f)) ∧
  (let f : Nat := 0
   let e : AdminIn := admE 7 [0x10000]; let a : AdminPair := admPair
   let t : Dev := admT rings (admE 7 [0x10000])
   let s : Machine.State := S (adm rings); let r : Rsp := .deny
   s.dev.adminTaken f e a t ∧ e.cmd = 7 ∧ r ≠ Rsp.done) ∧
  (let f : Nat := 0
   let e : AdminIn := admE 7 [0x10000]; let a : AdminPair := admPair
   let t : Dev := admT rings (admE 7 [0x10000])
   let s : Machine.State := S (adm rings)
   let record : List Word := [5, 0, 0, 0, 0, 1, 9, 0]; let r : Rsp := .done
   s.dev.adminTaken f e a t ∧ e.cmd = 7 ∧ r = Rsp.done ∧ recordKey record = none) ∧
  (let f : Nat := 0
   let e : AdminIn := admE 7 [0x10000]; let a : AdminPair := admPair
   let t : Dev := admT (rings.set F.CLS_ACC_STAT_STATE 0) (admE 7 [0x10000])
   let s : Machine.State := S (adm (rings.set F.CLS_ACC_STAT_STATE 0))
   let record : List Word := [5, 0, 0, 0, 0, 0, 9, 0]; let r : Rsp := .done; let k : Nat := 0
   let key : Key := ⟨5, false⟩
   s.dev.adminTaken f e a t ∧ e.cmd = 7 ∧
   let d : Dev := t.docentAccess false f (e.p 0) 64 r.ok
   r = Rsp.done ∧ recordKey record = some (k, key) ∧
   (d.isSink = true ∨ d.on 11 = false ∨ d.accState = 0 ∨ d.accState = 2)) ∧
  (let f : Nat := 0
   let e : AdminIn := admE 7 [0x10000]; let a : AdminPair := admPair
   let t : Dev := admT (rings.set F.CLS_ACC_STAT_STATE 1) (admE 7 [0x10000])
   let s : Machine.State := S (adm (rings.set F.CLS_ACC_STAT_STATE 1))
   let record : List Word := [5, 0, 0, 0, 0, 0, 9, 0]; let r : Rsp := .done; let k : Nat := 0
   let key : Key := ⟨5, false⟩
   s.dev.adminTaken f e a t ∧ e.cmd = 7 ∧
   let d : Dev := t.docentAccess false f (e.p 0) 64 r.ok
   r = Rsp.done ∧ recordKey record = some (k, key) ∧ d.isSink = false ∧ d.on 11 = true ∧ d.accState = 1) :=
  ⟨⟨admTaken (by decide +kernel) (by decide +kernel) (by decide +kernel), by decide +kernel⟩,
   ⟨admTaken (by decide +kernel) (by decide +kernel) (by decide +kernel), by decide +kernel⟩,
   ⟨admTaken (by decide +kernel) (by decide +kernel) (by decide +kernel), by decide +kernel⟩,
   ⟨admTaken (by decide +kernel) (by decide +kernel) (by decide +kernel), rfl, by decide, by decide, by decide +kernel, by decide +kernel,
    full_none (off := 0x102000) (A := (rings.set F.MBX_FW_STAT_DSTATE 2).regs.filter (fun p => p.1 < 0x102000 * 64))
      (B := (rings.set F.MBX_FW_STAT_DSTATE 2).regs.filter (fun p => (0x102000 + 8 * 1024) * 64 ≤ p.1)) rfl
      (fun _ => rfl) (by decide +kernel) (by decide +kernel)⟩,
   ⟨admTaken (by decide +kernel) (by decide +kernel) (by decide +kernel), by decide +kernel⟩,
   ⟨admTaken (by decide +kernel) (by decide +kernel) (by decide +kernel), by decide +kernel⟩,
   ⟨admTaken (by decide +kernel) (by decide +kernel) (by decide +kernel), by decide +kernel⟩,
   ⟨admTaken (by decide +kernel) (by decide +kernel) (by decide +kernel), by decide +kernel⟩,
   ⟨admTaken (by decide +kernel) (by decide +kernel) (by decide +kernel), by decide +kernel⟩,
   ⟨admTaken (by decide +kernel) (by decide +kernel) (by decide +kernel), by decide +kernel⟩,
   ⟨admTaken (by decide +kernel) (by decide +kernel) (by decide +kernel), by decide +kernel⟩,
   ⟨admTaken (by decide +kernel) (by decide +kernel) (by decide +kernel), by decide +kernel⟩,
   ⟨admTaken (by decide +kernel) (by decide +kernel) (by decide +kernel), by decide +kernel⟩,
   ⟨admTaken (by decide +kernel) (by decide +kernel) (by decide +kernel), by decide +kernel⟩⟩

theorem witness_AdminCommands_3 :
  (let f : Nat := 0
   let e : AdminIn := admE 7 [0x10000]; let a : AdminPair := admPair
   let t : Dev := admT (rings.set F.CLS_ACC_STAT_STATE 3) (admE 7 [0x10000])
   let s : Machine.State := S (adm (rings.set F.CLS_ACC_STAT_STATE 3))
   let record : List Word := [5, 0, 0, 0, 0, 0, 9, 0]; let r : Rsp := .done; let k : Nat := 0
   let key : Key := ⟨5, false⟩
   let p : AdminPair := { admPair with head := 1 }
   s.dev.adminTaken f e a t ∧ e.cmd = 7 ∧
   let d : Dev := t.docentAccess false f (e.p 0) 64 r.ok
   r = Rsp.done ∧ recordKey record = some (k, key) ∧ d.isSink = false ∧ d.on 11 = true ∧ 3 ≤ d.accState ∧
   SMap.look f d.hrg.admin = some p) ∧
  (let f : Nat := 0
   let e : AdminIn := admE 8 [0x10000]; let a : AdminPair := admPair
   let t : Dev := admT rings (admE 8 [0x10000])
   let s : Machine.State := S (adm rings); let r : Rsp := .deny
   s.dev.adminTaken f e a t ∧ e.cmd = 8 ∧ r ≠ Rsp.done) ∧
  (let f : Nat := 0
   let e : AdminIn := admE 8 [0x10000]; let a : AdminPair := admPair
   let t : Dev := admT rings (admE 8 [0x10000])
   let s : Machine.State := S (adm rings)
   let record : List Word := [5, 0, 0, 0, 0, 1, 9, 0]; let r : Rsp := .done
   s.dev.adminTaken f e a t ∧ e.cmd = 8 ∧ r = Rsp.done ∧ recordKey record = none) ∧
  (let f : Nat := 0
   let e : AdminIn := admE 8 [0x10000]; let a : AdminPair := admPair
   let t : Dev := admT (rings.set F.CLS_ACC_STAT_STATE 0) (admE 8 [0x10000])
   let s : Machine.State := S (adm (rings.set F.CLS_ACC_STAT_STATE 0))
   let record : List Word := [5, 0, 0, 0, 0, 0, 9, 0]; let r : Rsp := .done; let k : Nat := 0
   let key : Key := ⟨5, false⟩
   s.dev.adminTaken f e a t ∧ e.cmd = 8 ∧
   let d : Dev := t.docentAccess false f (e.p 0) 64 r.ok
   r = Rsp.done ∧ recordKey record = some (k, key) ∧
   (d.isSink = true ∨ d.on 11 = false ∨ d.accState = 0 ∨ d.accState = 2)) ∧
  (let f : Nat := 0
   let e : AdminIn := admE 8 [0x10000]; let a : AdminPair := admPair
   let t : Dev := admT (rings.set F.CLS_ACC_STAT_STATE 1) (admE 8 [0x10000])
   let s : Machine.State := S (adm (rings.set F.CLS_ACC_STAT_STATE 1))
   let record : List Word := [5, 0, 0, 0, 0, 0, 9, 0]; let r : Rsp := .done; let k : Nat := 0
   let key : Key := ⟨5, false⟩
   s.dev.adminTaken f e a t ∧ e.cmd = 8 ∧
   let d : Dev := t.docentAccess false f (e.p 0) 64 r.ok
   r = Rsp.done ∧ recordKey record = some (k, key) ∧ d.isSink = false ∧ d.on 11 = true ∧ d.accState = 1) ∧
  (let f : Nat := 0
   let e : AdminIn := admE 8 [0x10000]; let a : AdminPair := admPair
   let t : Dev := admT (rings.set F.CLS_ACC_STAT_STATE 3) (admE 8 [0x10000])
   let s : Machine.State := S (adm (rings.set F.CLS_ACC_STAT_STATE 3))
   let record : List Word := [5, 0, 0, 0, 0, 0, 9, 0]; let r : Rsp := .done; let k : Nat := 0
   let key : Key := ⟨5, false⟩
   let p : AdminPair := { admPair with head := 1 }
   s.dev.adminTaken f e a t ∧ e.cmd = 8 ∧
   let d : Dev := t.docentAccess false f (e.p 0) 64 r.ok
   r = Rsp.done ∧ recordKey record = some (k, key) ∧ d.isSink = false ∧ d.on 11 = true ∧ 3 ≤ d.accState ∧
   SMap.look f d.hrg.admin = some p) ∧
  (let f : Nat := 0
   let e : AdminIn := admE 9 [0]; let a : AdminPair := admPair
   let t : Dev := admT (((rings.set F.ID_INTEG_TWIN_WIRED 1).set F.TWN_CTL_EN 1).set F.TWN_STAT_STATE 5) (admE 9 [0])
   let s : Machine.State := S (adm (((rings.set F.ID_INTEG_TWIN_WIRED 1).set F.TWN_CTL_EN 1).set F.TWN_STAT_STATE 5))
   s.dev.adminTaken f e a t ∧ e.cmd = 9 ∧ t.isSink = true) ∧
  (let f : Nat := 0
   let e : AdminIn := admE 9 [70000]; let a : AdminPair := admPair
   let t : Dev := admT rings (admE 9 [70000])
   let s : Machine.State := S (adm rings)
   s.dev.adminTaken f e a t ∧ e.cmd = 9 ∧
   let p : Nat := bits (e.p 0) 0 51
   let frame : Nat := (if p = 0 then t.clk.sfc + 2 else p)
   t.isSink = false ∧ t.clk.sfc + 65536 < frame) ∧
  (let f : Nat := 0
   let e : AdminIn := admE 9 [0]; let a : AdminPair := admPair
   let t : Dev := admT rings (admE 9 [0])
   let s : Machine.State := S (adm rings)
   s.dev.adminTaken f e a t ∧ e.cmd = 9 ∧
   let p : Nat := bits (e.p 0) 0 51
   let frame : Nat := (if p = 0 then t.clk.sfc + 2 else p)
   t.isSink = false ∧ frame ≤ t.clk.sfc + 65536 ∧ t.stgState 0 = 0 ∧
   let r : Nat × Dev := t.commitStage 0 frame t.accNext
   r.1 ≠ 0) ∧
  (let f : Nat := 0
   let e : AdminIn := admE 9 [65536]; let a : AdminPair := admPair
   let t : Dev := admT (rings.set F.CLS_ACC_STAT_STATE 1) (admE 9 [65536])
   let s : Machine.State := S (adm (rings.set F.CLS_ACC_STAT_STATE 1))
   let p : AdminPair := { admPair with head := 1 }
   s.dev.adminTaken f e a t ∧ e.cmd = 9 ∧
   let p' : Nat := bits (e.p 0) 0 51
   let frame : Nat := (if p' = 0 then t.clk.sfc + 2 else p')
   t.isSink = false ∧ frame ≤ t.clk.sfc + 65536 ∧ t.stgState 0 = 0 ∧
   let r : Nat × Dev := t.commitStage 0 frame t.accNext
   r.1 = 0 ∧ SMap.look f r.2.hrg.admin = some p) ∧
  (let f : Nat := 0
   let e : AdminIn := admE 10 [3 + 9 * 2 ^ 16]; let a : AdminPair := admPair
   let t : Dev := admT rings (admE 10 [3 + 9 * 2 ^ 16])
   let s : Machine.State := S (adm rings)
   s.dev.adminTaken f e a t ∧ e.cmd = 10 ∧
   let n : Nat := e.p 0 % 4
   let tw : Nat := bits (e.p 0) 16 16
   bit (t.f F.ID_INTEG_PORT_WIRED) n = true ∧ tw ≠ 0 ∧ t.on (18 + n) = true) ∧
  (let f : Nat := 0
   let e : AdminIn := admE 10 [3]; let a : AdminPair := admPair
   let t : Dev := admT rings (admE 10 [3])
   let s : Machine.State := S (adm rings)
   s.dev.adminTaken f e a t ∧ e.cmd = 10 ∧
   let n : Nat := e.p 0 % 4
   let tw : Nat := bits (e.p 0) 16 16
   (bit (t.f F.ID_INTEG_PORT_WIRED) n = false ∨ tw = 0)) ∧
  (let f : Nat := 0
   let e : AdminIn := admE 11 [1]; let a : AdminPair := admPair
   let t : Dev := admT rings (admE 11 [1])
   let s : Machine.State := S (adm rings)
   s.dev.adminTaken f e a t ∧ e.cmd = 11 ∧ bit (e.p 0) 0 = true ∧ t.f F.TST_SLEEP_ALLOWED = 0) ∧
  (let f : Nat := 0
   let e : AdminIn := admE 11 [0]; let a : AdminPair := admPair
   let t : Dev := admT rings (admE 11 [0])
   let s : Machine.State := S (adm rings)
   s.dev.adminTaken f e a t ∧ e.cmd = 11 ∧ (bit (e.p 0) 0 = false ∨ t.f F.TST_SLEEP_ALLOWED ≠ 0)) :=
  ⟨⟨admTaken (by decide +kernel) (by decide +kernel) (by decide +kernel), by decide +kernel⟩,
   ⟨admTaken (by decide +kernel) (by decide +kernel) (by decide +kernel), by decide +kernel⟩,
   ⟨admTaken (by decide +kernel) (by decide +kernel) (by decide +kernel), by decide +kernel⟩,
   ⟨admTaken (by decide +kernel) (by decide +kernel) (by decide +kernel), by decide +kernel⟩,
   ⟨admTaken (by decide +kernel) (by decide +kernel) (by decide +kernel), by decide +kernel⟩,
   ⟨admTaken (by decide +kernel) (by decide +kernel) (by decide +kernel), by decide +kernel⟩,
   ⟨admTaken (by decide +kernel) (by decide +kernel) (by decide +kernel), by decide +kernel⟩,
   ⟨admTaken (by decide +kernel) (by decide +kernel) (by decide +kernel), by decide +kernel⟩,
   ⟨admTaken (by decide +kernel) (by decide +kernel) (by decide +kernel), by decide +kernel⟩,
   ⟨admTaken (by decide +kernel) (by decide +kernel) (by decide +kernel), by decide +kernel⟩,
   ⟨admTaken (by decide +kernel) (by decide +kernel) (by decide +kernel), by decide +kernel⟩,
   ⟨admTaken (by decide +kernel) (by decide +kernel) (by decide +kernel), by decide +kernel⟩,
   ⟨admTaken (by decide +kernel) (by decide +kernel) (by decide +kernel), by decide +kernel⟩,
   ⟨admTaken (by decide +kernel) (by decide +kernel) (by decide +kernel), by decide +kernel⟩⟩

theorem witness_AdminCommands_4 :
  (let f : Nat := 0
   let e : AdminIn := admE 12 [0x10000, 0]; let a : AdminPair := admPair
   let t : Dev := admT rings (admE 12 [0x10000, 0])
   let s : Machine.State := S (adm rings); let r : Rsp := .done
   let rs : List Nat := (snapGroup 0).getD []
   s.dev.adminTaken f e a t ∧ e.cmd = 12 ∧ e.p 0 % 64 = 0 ∧ snapGroup (e.p 1 % 256) = some rs ∧ r = Rsp.done) ∧
  (let f : Nat := 0
   let e : AdminIn := admE 12 [0x10000, 12]; let a : AdminPair := admPair
   let t : Dev := admT rings (admE 12 [0x10000, 12])
   let s : Machine.State := S (adm rings); let r : Rsp := .deny
   let rs : List Nat := (snapGroup 12).getD []
   s.dev.adminTaken f e a t ∧ e.cmd = 12 ∧ e.p 0 % 64 = 0 ∧ snapGroup (e.p 1 % 256) = some rs ∧ r ≠ Rsp.done) ∧
  (let f : Nat := 0
   let e : AdminIn := admE 12 [0x10001, 0]; let a : AdminPair := admPair
   let t : Dev := admT rings (admE 12 [0x10001, 0])
   let s : Machine.State := S (adm rings)
   s.dev.adminTaken f e a t ∧ e.cmd = 12 ∧ (e.p 0 % 64 ≠ 0 ∨ snapGroup (e.p 1 % 256) = none)) ∧
  (let f : Nat := 0
   let e : AdminIn := admE 13 []; let a : AdminPair := admPair
   let t : Dev := admT rings (admE 13 [])
   let s : Machine.State := S (adm rings)
   s.dev.adminTaken f e a t ∧ 12 < e.cmd) :=
  ⟨⟨admTaken (by decide +kernel) (by decide +kernel) (by decide +kernel), by decide +kernel⟩,
   ⟨admTaken (by decide +kernel) (by decide +kernel) (by decide +kernel), by decide +kernel⟩,
   ⟨admTaken (by decide +kernel) (by decide +kernel) (by decide +kernel), by decide +kernel⟩,
   ⟨admTaken (by decide +kernel) (by decide +kernel) (by decide +kernel), by decide +kernel⟩⟩

theorem witness_SluiceCommands_1 :
  (let c : Nat := 15; let v : Nat := 1
   let w : RegWr := host 1
   let s : Machine.State := S (awake.chPut 15 {})
   c < 16 ∧ s.dev.reach w.agent = true ∧ (w.agent == Agent.docent && mpuWrite (1310736 + 64 * c)) = false ∧
   s.dev.denied w.agent = false ∧ s.dev.on (domainOf (1310736 + 64 * c)) = true ∧ w.val % 32 = v ∧
   (v = 1 ∧ Instr.slcGo 15 (host 1) = Instr.slcGo c w ∨ v = 2 ∧ Instr.slcGo 15 (host 1) = Instr.slcStop c w ∨ v = 4 ∧ Instr.slcGo 15 (host 1) = Instr.slcResume c w ∨ v = 8 ∧ Instr.slcGo 15 (host 1) = Instr.slcKick c w ∨ v = 16 ∧ Instr.slcGo 15 (host 1) = Instr.slcClear c w) ∧
   s.dev.f F.ID_INTEG_FAB_WIRED = 0) ∧
  (let c : Nat := 15; let v : Nat := 1
   let w : RegWr := host 1
   let s : Machine.State := S (rings.chPut 15 {})
   (c < 16 ∧ s.dev.reach w.agent = true ∧ (w.agent == Agent.docent && mpuWrite (1310736 + 64 * c)) = false ∧ s.dev.denied w.agent = false ∧ s.dev.on (domainOf (1310736 + 64 * c)) = true ∧ w.val % 32 = v ∧ (v = 1 ∧ Instr.slcGo 15 (host 1) = Instr.slcGo c w ∨ v = 2 ∧ Instr.slcGo 15 (host 1) = Instr.slcStop c w ∨ v = 4 ∧ Instr.slcGo 15 (host 1) = Instr.slcResume c w ∨ v = 8 ∧ Instr.slcGo 15 (host 1) = Instr.slcKick c w ∨ v = 16 ∧ Instr.slcGo 15 (host 1) = Instr.slcClear c w) ∧ let x : SlcCh := s.dev.ch c; s.dev.f F.ID_INTEG_FAB_WIRED ≠ 0 ∧ v = 1 ∧ (x.state = 0 ∨ x.state = 5) ∧ (s.dev.f F.SLC_CH_PROG_BASE c % if s.dev.slcRing c = true then 64 else 16) = 0) ∧
   (s.dev.f F.ID_INTEG_FAB_WIRED ≠ 0 ∧ (s.dev.reach w.agent = true ∧ (w.agent == Agent.docent && mpuWrite 1311872) = false ∧ s.dev.denied w.agent = false ∧ s.dev.on (domainOf 1311872) = true ∧ let c' : Nat := w.fld F.SLC_FLAG_SET_CH; let mask : Nat := w.fld F.SLC_FLAG_SET_MASK; let d : Dev := s.dev.setI F.SLC_FLAGS_FLAGS c' (s.dev.f F.SLC_FLAGS_FLAGS c' ||| mask); ((d.ch c').prog.any fun y => y.hold && bit y.w0 56 && bit mask (bits y.w0 0 11)) = false) ∧ (s.dev.reach w.agent = true ∧ (w.agent == Agent.docent && mpuWrite 1311880) = false ∧ s.dev.denied w.agent = false ∧ s.dev.on (domainOf 1311880) = true))) ∧
  (let c : Nat := 15; let v : Nat := 1
   let w : RegWr := host 1
   let s : Machine.State := S ((rings.setI F.SLC_CH_PROG_BASE 15 8).chPut 15 {})
   c < 16 ∧ s.dev.reach w.agent = true ∧ (w.agent == Agent.docent && mpuWrite (1310736 + 64 * c)) = false ∧
   s.dev.denied w.agent = false ∧ s.dev.on (domainOf (1310736 + 64 * c)) = true ∧ w.val % 32 = v ∧
   (v = 1 ∧ Instr.slcGo 15 (host 1) = Instr.slcGo c w ∨ v = 2 ∧ Instr.slcGo 15 (host 1) = Instr.slcStop c w ∨ v = 4 ∧ Instr.slcGo 15 (host 1) = Instr.slcResume c w ∨ v = 8 ∧ Instr.slcGo 15 (host 1) = Instr.slcKick c w ∨ v = 16 ∧ Instr.slcGo 15 (host 1) = Instr.slcClear c w) ∧
   let x : SlcCh := s.dev.ch c
   s.dev.f F.ID_INTEG_FAB_WIRED ≠ 0 ∧ v = 1 ∧ (x.state = 0 ∨ x.state = 5) ∧
   (s.dev.f F.SLC_CH_PROG_BASE c % if s.dev.slcRing c = true then 64 else 16) ≠ 0) ∧
  (let c : Nat := 15; let v : Nat := 1
   let w : RegWr := host 1
   let s : Machine.State := S (rings.chPut 15 { state := 1 })
   c < 16 ∧ s.dev.reach w.agent = true ∧ (w.agent == Agent.docent && mpuWrite (1310736 + 64 * c)) = false ∧
   s.dev.denied w.agent = false ∧ s.dev.on (domainOf (1310736 + 64 * c)) = true ∧ w.val % 32 = v ∧
   (v = 1 ∧ Instr.slcGo 15 (host 1) = Instr.slcGo c w ∨ v = 2 ∧ Instr.slcGo 15 (host 1) = Instr.slcStop c w ∨ v = 4 ∧ Instr.slcGo 15 (host 1) = Instr.slcResume c w ∨ v = 8 ∧ Instr.slcGo 15 (host 1) = Instr.slcKick c w ∨ v = 16 ∧ Instr.slcGo 15 (host 1) = Instr.slcClear c w) ∧
   let x : SlcCh := s.dev.ch c
   s.dev.f F.ID_INTEG_FAB_WIRED ≠ 0 ∧ v = 1 ∧ x.state ≠ 0 ∧ x.state ≠ 5) ∧
  (let c : Nat := 15; let v : Nat := 2
   let w : RegWr := host 2
   let s : Machine.State := S (rings.chPut 15 { state := 7, next := 4 })
   c < 16 ∧ s.dev.reach w.agent = true ∧ (w.agent == Agent.docent && mpuWrite (1310736 + 64 * c)) = false ∧
   s.dev.denied w.agent = false ∧ s.dev.on (domainOf (1310736 + 64 * c)) = true ∧ w.val % 32 = v ∧
   (v = 1 ∧ Instr.slcStop 15 (host 2) = Instr.slcGo c w ∨ v = 2 ∧ Instr.slcStop 15 (host 2) = Instr.slcStop c w ∨ v = 4 ∧ Instr.slcStop 15 (host 2) = Instr.slcResume c w ∨ v = 8 ∧ Instr.slcStop 15 (host 2) = Instr.slcKick c w ∨ v = 16 ∧ Instr.slcStop 15 (host 2) = Instr.slcClear c w) ∧
   let x : SlcCh := s.dev.ch c
   s.dev.f F.ID_INTEG_FAB_WIRED ≠ 0 ∧ v = 2 ∧ (x.state = 7 ∨ x.state = 3)) ∧
  (let c : Nat := 15; let v : Nat := 2
   let w : RegWr := host 2
   let s : Machine.State := S (rings.chPut 15 { state := 1, next := 4, ahead := [[1, 2]], prog := [{ idx := 3, w0 := 0, w1 := 0, hold := true }] })
   c < 16 ∧ s.dev.reach w.agent = true ∧ (w.agent == Agent.docent && mpuWrite (1310736 + 64 * c)) = false ∧
   s.dev.denied w.agent = false ∧ s.dev.on (domainOf (1310736 + 64 * c)) = true ∧ w.val % 32 = v ∧
   (v = 1 ∧ Instr.slcStop 15 (host 2) = Instr.slcGo c w ∨ v = 2 ∧ Instr.slcStop 15 (host 2) = Instr.slcStop c w ∨ v = 4 ∧ Instr.slcStop 15 (host 2) = Instr.slcResume c w ∨ v = 8 ∧ Instr.slcStop 15 (host 2) = Instr.slcKick c w ∨ v = 16 ∧ Instr.slcStop 15 (host 2) = Instr.slcClear c w) ∧
   let x : SlcCh := s.dev.ch c
   s.dev.f F.ID_INTEG_FAB_WIRED ≠ 0 ∧ v = 2 ∧ (x.state = 1 ∨ x.state = 2)) ∧
  (let c : Nat := 15; let v : Nat := 4
   let w : RegWr := host 4
   let s : Machine.State := S (rings.chPut 15 { state := 5, next := 4 })
   c < 16 ∧ s.dev.reach w.agent = true ∧ (w.agent == Agent.docent && mpuWrite (1310736 + 64 * c)) = false ∧
   s.dev.denied w.agent = false ∧ s.dev.on (domainOf (1310736 + 64 * c)) = true ∧ w.val % 32 = v ∧
   (v = 1 ∧ Instr.slcResume 15 (host 4) = Instr.slcGo c w ∨ v = 2 ∧ Instr.slcResume 15 (host 4) = Instr.slcStop c w ∨ v = 4 ∧ Instr.slcResume 15 (host 4) = Instr.slcResume c w ∨ v = 8 ∧ Instr.slcResume 15 (host 4) = Instr.slcKick c w ∨ v = 16 ∧ Instr.slcResume 15 (host 4) = Instr.slcClear c w) ∧
   let x : SlcCh := s.dev.ch c
   s.dev.f F.ID_INTEG_FAB_WIRED ≠ 0 ∧ v = 4 ∧ x.state = 5) ∧
  (let c : Nat := 15; let v : Nat := 4
   let w : RegWr := host 4
   let s : Machine.State := S (rings.chPut 15 { state := 7, next := 4 })
   c < 16 ∧ s.dev.reach w.agent = true ∧ (w.agent == Agent.docent && mpuWrite (1310736 + 64 * c)) = false ∧
   s.dev.denied w.agent = false ∧ s.dev.on (domainOf (1310736 + 64 * c)) = true ∧ w.val % 32 = v ∧
   (v = 1 ∧ Instr.slcResume 15 (host 4) = Instr.slcGo c w ∨ v = 2 ∧ Instr.slcResume 15 (host 4) = Instr.slcStop c w ∨ v = 4 ∧ Instr.slcResume 15 (host 4) = Instr.slcResume c w ∨ v = 8 ∧ Instr.slcResume 15 (host 4) = Instr.slcKick c w ∨ v = 16 ∧ Instr.slcResume 15 (host 4) = Instr.slcClear c w) ∧
   let x : SlcCh := s.dev.ch c
   s.dev.f F.ID_INTEG_FAB_WIRED ≠ 0 ∧ v = 4 ∧ x.state ≠ 5) ∧
  (let c : Nat := 15; let v : Nat := 8
   let w : RegWr := host 8
   let s : Machine.State := S (rings.chPut 15 { state := 7, next := 4 })
   c < 16 ∧ s.dev.reach w.agent = true ∧ (w.agent == Agent.docent && mpuWrite (1310736 + 64 * c)) = false ∧
   s.dev.denied w.agent = false ∧ s.dev.on (domainOf (1310736 + 64 * c)) = true ∧ w.val % 32 = v ∧
   (v = 1 ∧ Instr.slcKick 15 (host 8) = Instr.slcGo c w ∨ v = 2 ∧ Instr.slcKick 15 (host 8) = Instr.slcStop c w ∨ v = 4 ∧ Instr.slcKick 15 (host 8) = Instr.slcResume c w ∨ v = 8 ∧ Instr.slcKick 15 (host 8) = Instr.slcKick c w ∨ v = 16 ∧ Instr.slcKick 15 (host 8) = Instr.slcClear c w) ∧
   let x : SlcCh := s.dev.ch c
   s.dev.f F.ID_INTEG_FAB_WIRED ≠ 0 ∧ v = 8 ∧ x.state = 7 ∧ x.fetch = none) ∧
  (let c : Nat := 15; let v : Nat := 16
   let w : RegWr := host 16
   let s : Machine.State := S (rings.chPut 15 { state := 6, prog := [{ idx := 3, w0 := 0, w1 := 0, reads := [(1, 0, 64, 0)] }] })
   c < 16 ∧ s.dev.reach w.agent = true ∧ (w.agent == Agent.docent && mpuWrite (1310736 + 64 * c)) = false ∧
   s.dev.denied w.agent = false ∧ s.dev.on (domainOf (1310736 + 64 * c)) = true ∧ w.val % 32 = v ∧
   (v = 1 ∧ Instr.slcClear 15 (host 16) = Instr.slcGo c w ∨ v = 2 ∧ Instr.slcClear 15 (host 16) = Instr.slcStop c w ∨ v = 4 ∧ Instr.slcClear 15 (host 16) = Instr.slcResume c w ∨ v = 8 ∧ Instr.slcClear 15 (host 16) = Instr.slcKick c w ∨ v = 16 ∧ Instr.slcClear 15 (host 16) = Instr.slcClear c w) ∧
   let x : SlcCh := s.dev.ch c
   s.dev.f F.ID_INTEG_FAB_WIRED ≠ 0 ∧ v = 16 ∧ x.state = 6) ∧
  (let c : Nat := 15; let v : Nat := 16
   let w : RegWr := host 16
   let s : Machine.State := S (rings.chPut 15 { state := 5 })
   c < 16 ∧ s.dev.reach w.agent = true ∧ (w.agent == Agent.docent && mpuWrite (1310736 + 64 * c)) = false ∧
   s.dev.denied w.agent = false ∧ s.dev.on (domainOf (1310736 + 64 * c)) = true ∧ w.val % 32 = v ∧
   (v = 1 ∧ Instr.slcClear 15 (host 16) = Instr.slcGo c w ∨ v = 2 ∧ Instr.slcClear 15 (host 16) = Instr.slcStop c w ∨ v = 4 ∧ Instr.slcClear 15 (host 16) = Instr.slcResume c w ∨ v = 8 ∧ Instr.slcClear 15 (host 16) = Instr.slcKick c w ∨ v = 16 ∧ Instr.slcClear 15 (host 16) = Instr.slcClear c w) ∧
   let x : SlcCh := s.dev.ch c
   s.dev.f F.ID_INTEG_FAB_WIRED ≠ 0 ∧ v = 16 ∧ x.state ≠ 6) ∧
  (let c : Nat := 15
   let d : Dev := awake.chPut 15 { state := 4, next := 3 }
   (d.ch c).prog = [] ∧ (d.ch c).state = 4) ∧
  (let c : Nat := 15
   let d : Dev := rings.chPut 15 { state := 1, next := 65535 }
   let x : SlcCh := d.ch c
   x.state = 1 ∧ x.pausing = false ∧ x.fetchBad = false ∧ x.fetch = none ∧ x.ahead = [] ∧ d.slcRing c = false ∧
   x.next ≤ 65535) ∧
  (let c : Nat := 15; let prog : Bool := true
   let w : RegWr := host 0x10000
   let s : Machine.State := S (rings.chPut 15 { state := 0 })
   let off : Nat := (if prog = true then 1310728 else 1310720) + 64 * c
   let st : Nat := (s.dev.ch c).state
   c < 16 ∧ s.dev.reach w.agent = true ∧ (w.agent == Agent.docent && mpuWrite off) = false ∧
   s.dev.denied w.agent = false ∧ s.dev.on (domainOf off) = true ∧ s.dev.f F.ID_INTEG_FAB_WIRED ≠ 0 ∧
   (st = 0 ∨ st = 5 ∨ st = 6)) :=
  ⟨by decide +kernel,
   by decide +kernel,
   by decide +kernel,
   by decide +kernel,
   by decide +kernel,
   by decide +kernel,
   by decide +kernel,
   by decide +kernel,
   by decide +kernel,
   by decide +kernel,
   by decide +kernel,
   by decide +kernel,
   by decide +kernel,
   by decide +kernel⟩

theorem witness_SluiceCommands_2 :
  (let c : Nat := 15; let prog : Bool := true
   let w : RegWr := host 0x10000
   let s : Machine.State := S (rings.chPut 15 { state := 2 })
   let off : Nat := (if prog = true then 1310728 else 1310720) + 64 * c
   let st : Nat := (s.dev.ch c).state
   c < 16 ∧ s.dev.reach w.agent = true ∧ (w.agent == Agent.docent && mpuWrite off) = false ∧
   s.dev.denied w.agent = false ∧ s.dev.on (domainOf off) = true ∧ s.dev.f F.ID_INTEG_FAB_WIRED ≠ 0 ∧ st ≠ 0 ∧
   st ≠ 5 ∧ st ≠ 6) ∧
  (let w : RegWr := wr h0 [(F.SLC_FLAG_SET_CH, 15), (F.SLC_FLAG_SET_MASK, 5)]
   let s : Machine.State := S (rings.chPut 15 { state := 2, prog := [{ idx := 0, w0 := 2 ^ 56 + 2, w1 := 0, hold := true }] })
   s.dev.f F.ID_INTEG_FAB_WIRED ≠ 0 ∧ s.dev.reach w.agent = true ∧
   (w.agent == Agent.docent && mpuWrite 1311872) = false ∧ s.dev.denied w.agent = false ∧
   s.dev.on (domainOf 1311872) = true ∧
   let c : Nat := w.fld F.SLC_FLAG_SET_CH
   let mask : Nat := w.fld F.SLC_FLAG_SET_MASK
   let d : Dev := s.dev.setI F.SLC_FLAGS_FLAGS c (s.dev.f F.SLC_FLAGS_FLAGS c ||| mask)
   ((d.ch c).prog.any fun y => y.hold && bit y.w0 56 && bit mask (bits y.w0 0 11)) = true) ∧
  (let c : Nat := 15
   let s : Machine.State := S ((rings.setI F.SLC_CH_CFG_POLL_US 15 1).chPut 15 { state := 7, next := 3 })
   let x : SlcCh := s.dev.ch c
   c < 16 ∧ s.dev.on 28 = true ∧ s.dev.f F.SLC_CH_CFG_POLL_US c ≠ 0 ∧ x.state = 7 ∧ x.fetch = none) :=
  ⟨by decide +kernel,
   by decide +kernel,
   by decide +kernel⟩

theorem witness_SluiceInstructions_1 :
  (let c : Nat := 2
   let w0 : Nat := 1 * 2 ^ 60 + 0x1000
   let w1 : Nat := 5 * 2 ^ 48 * 64 + 0x2000
   let s : Machine.State := S (rings.chPut 2 { state := 1, next := 3, ahead := [[1 * 2 ^ 60 + 0x1000, 5 * 2 ^ 48 * 64 + 0x2000]] })
   s.dev.slcReady c = some [w0, w1] ∧ s.dev.slcRing c = false ∧ bits w0 60 4 = 1 ∧
   let x : SlcCh := s.dev.ch c
   let len : Nat := bits w0 48 9 * 65536 + bits w1 48 16
   let src : ℤ := ↑(bits w0 0 48) + x.soff
   let dst : ℤ := ↑(bits w1 0 48) + x.doff
   let e : Nat := blockErr [src, dst, ↑len] [(src, len), (dst, len)]
   e = 0) ∧
  (let c : Nat := 2
   let w0 : Nat := 1 * 2 ^ 60 + 0x1000
   let w1 : Nat := 5 * 2 ^ 48 + 0x2000
   let s : Machine.State := S (rings.chPut 2 { state := 1, next := 3, ahead := [[1 * 2 ^ 60 + 0x1000, 5 * 2 ^ 48 + 0x2000]] })
   s.dev.slcReady c = some [w0, w1] ∧ s.dev.slcRing c = false ∧ bits w0 60 4 = 1 ∧
   let x : SlcCh := s.dev.ch c
   let len : Nat := bits w0 48 9 * 65536 + bits w1 48 16
   let src : ℤ := ↑(bits w0 0 48) + x.soff
   let dst : ℤ := ↑(bits w1 0 48) + x.doff
   let e : Nat := blockErr [src, dst, ↑len] [(src, len), (dst, len)]
   e ≠ 0 ∧ x.prog = []) ∧
  (let c : Nat := 2
   let w0 : Nat := 2 * 2 ^ 60 + 0x1000
   let w1 : Nat := 2 * 2 ^ 48 + 0x2000
   let s : Machine.State := S (rings.chPut 2 { state := 1, next := 3, ahead := [[2 * 2 ^ 60 + 0x1000, 2 * 2 ^ 48 + 0x2000]] })
   s.dev.slcReady c = some [w0, w1] ∧ s.dev.slcRing c = false ∧ bits w0 60 4 = 2 ∧
   let x : SlcCh := s.dev.ch c
   let n : Nat := bits w1 48 16
   let base : ℤ := ↑(bits w1 0 48) + if bit w0 56 = true then x.soff else x.doff
   let tbl : Nat := bits w0 0 48
   let e : Nat := blockErr [base, ↑tbl] [(base, 0), (↑tbl, 8 * n)]
   e = 0) ∧
  (let c : Nat := 2
   let w0 : Nat := 2 * 2 ^ 60 + 0x1001
   let w1 : Nat := 2 * 2 ^ 48 + 0x2000
   let s : Machine.State := S (rings.chPut 2 { state := 1, next := 3, ahead := [[2 * 2 ^ 60 + 0x1001, 2 * 2 ^ 48 + 0x2000]] })
   s.dev.slcReady c = some [w0, w1] ∧ s.dev.slcRing c = false ∧ bits w0 60 4 = 2 ∧
   let x : SlcCh := s.dev.ch c
   let n : Nat := bits w1 48 16
   let base : ℤ := ↑(bits w1 0 48) + if bit w0 56 = true then x.soff else x.doff
   let tbl : Nat := bits w0 0 48
   let e : Nat := blockErr [base, ↑tbl] [(base, 0), (↑tbl, 8 * n)]
   e ≠ 0 ∧ x.prog = []) ∧
  (let c : Nat := 2
   let w0 : Nat := 3 * 2 ^ 60 + 4 * 2 ^ 36; let w1 : Nat := 0
   let s : Machine.State := S (rings.chPut 2 { state := 1, next := 3, ahead := [[3 * 2 ^ 60 + 4 * 2 ^ 36, 0]] })
   s.dev.slcReady c = some [w0, w1] ∧ s.dev.slcRing c = false ∧ bits w0 60 4 = 3 ∧
   let x : SlcCh := s.dev.ch c
   let back : Nat := bits w0 36 12
   (back = 0 ∨ x.next < back) ∧ x.prog = []) ∧
  (let c : Nat := 2
   let w0 : Nat := 3 * 2 ^ 60 + 1 * 2 ^ 36; let w1 : Nat := 0
   let s : Machine.State := S (((rings.setI F.SLC_CH_LOOP_ACTIVE 2 1).setI F.SLC_CH_LOOP_HOME 2 2).chPut 2 { state := 1, next := 3, ahead := [[3 * 2 ^ 60 + 1 * 2 ^ 36, 0]] })
   s.dev.slcReady c = some [w0, w1] ∧ s.dev.slcRing c = false ∧ bits w0 60 4 = 3 ∧
   let x : SlcCh := s.dev.ch c
   let back : Nat := bits w0 36 12
   back ≠ 0 ∧ back ≤ x.next ∧ ¬(¬s.dev.f F.SLC_CH_LOOP_ACTIVE c ≠ 0 ∨ x.next = s.dev.f F.SLC_CH_LOOP_HOME c) ∧
   x.prog = []) ∧
  (let c : Nat := 2
   let w0 : Nat := 3 * 2 ^ 60 + 1 * 2 ^ 36 + 1; let w1 : Nat := 0
   let s : Machine.State := S (rings.chPut 2 { state := 1, next := 3, ahead := [[3 * 2 ^ 60 + 1 * 2 ^ 36 + 1, 0]] })
   s.dev.slcReady c = some [w0, w1] ∧ s.dev.slcRing c = false ∧ bits w0 60 4 = 3 ∧
   let x : SlcCh := s.dev.ch c
   let back : Nat := bits w0 36 12
   let count : Nat := bits w0 0 24
   let ss : ℤ := signed 32 (bits w1 32 32)
   let ds : ℤ := signed 32 (bits w1 0 32)
   let left : Nat := (if s.dev.f F.SLC_CH_LOOP_ACTIVE c ≠ 0 then s.dev.f F.SLC_CH_LOOP_REMAINING c else count) - 1
   back ≠ 0 ∧ back ≤ x.next ∧ (¬s.dev.f F.SLC_CH_LOOP_ACTIVE c ≠ 0 ∨ x.next = s.dev.f F.SLC_CH_LOOP_HOME c) ∧
   ¬if s.dev.f F.SLC_CH_LOOP_ACTIVE c ≠ 0 then s.dev.f F.SLC_CH_LOOP_ENDLESS c ≠ 0 else count = 0 ∧ left = 0 ∧
   ss % 64 = 0 ∧ ds % 64 = 0) ∧
  (let c : Nat := 2
   let w0 : Nat := 3 * 2 ^ 60 + 1 * 2 ^ 36 + 2; let w1 : Nat := 8
   let s : Machine.State := S (rings.chPut 2 { state := 1, next := 3, ahead := [[3 * 2 ^ 60 + 1 * 2 ^ 36 + 2, 8]] })
   s.dev.slcReady c = some [w0, w1] ∧ s.dev.slcRing c = false ∧ bits w0 60 4 = 3 ∧
   let x : SlcCh := s.dev.ch c
   let back : Nat := bits w0 36 12
   let ss : ℤ := signed 32 (bits w1 32 32)
   let ds : ℤ := signed 32 (bits w1 0 32)
   back ≠ 0 ∧ back ≤ x.next ∧ (¬s.dev.f F.SLC_CH_LOOP_ACTIVE c ≠ 0 ∨ x.next = s.dev.f F.SLC_CH_LOOP_HOME c) ∧
   (ss % 64 ≠ 0 ∨ ds % 64 ≠ 0) ∧ x.prog = []) ∧
  (let c : Nat := 2
   let w0 : Nat := 3 * 2 ^ 60 + 3 * 2 ^ 36 + 2
   let w1 : Nat := 64 * 2 ^ 32
   let s : Machine.State := S (rings.chPut 2 { state := 1, next := 3, ahead := [[3 * 2 ^ 60 + 3 * 2 ^ 36 + 2, 64 * 2 ^ 32]] })
   s.dev.slcReady c = some [w0, w1] ∧ s.dev.slcRing c = false ∧ bits w0 60 4 = 3 ∧
   let x : SlcCh := s.dev.ch c
   let back : Nat := bits w0 36 12
   let count : Nat := bits w0 0 24
   let ss : ℤ := signed 32 (bits w1 32 32)
   let ds : ℤ := signed 32 (bits w1 0 32)
   let left : Nat := (if s.dev.f F.SLC_CH_LOOP_ACTIVE c ≠ 0 then s.dev.f F.SLC_CH_LOOP_REMAINING c else count) - 1
   back ≠ 0 ∧ back ≤ x.next ∧ (¬s.dev.f F.SLC_CH_LOOP_ACTIVE c ≠ 0 ∨ x.next = s.dev.f F.SLC_CH_LOOP_HOME c) ∧
   ((if s.dev.f F.SLC_CH_LOOP_ACTIVE c ≠ 0 then s.dev.f F.SLC_CH_LOOP_ENDLESS c ≠ 0 else count = 0) ∨ left ≠ 0) ∧
   ss % 64 = 0 ∧ ds % 64 = 0) ∧
  (let c : Nat := 2
   let w0 : Nat := 4 * 2 ^ 60 + 2 ^ 56 + 15; let w1 : Nat := 0
   let s : Machine.State := S ((rings.setI F.SLC_FLAGS_FLAGS 2 0x8000).chPut 2 { state := 1, next := 3, ahead := [[4 * 2 ^ 60 + 2 ^ 56 + 15, 0]] })
   s.dev.slcReady c = some [w0, w1] ∧ s.dev.slcRing c = false ∧ bits w0 60 4 = 4 ∧
   (bit w0 56 = false ∨ bits w0 0 11 ≤ 15) ∧ s.dev.slcHolds c w0 = true) ∧
  (let c : Nat := 2
   let w0 : Nat := 4 * 2 ^ 60 + 2 ^ 56 + 15; let w1 : Nat := 0
   let s : Machine.State := S (rings.chPut 2 { state := 1, next := 3, ahead := [[4 * 2 ^ 60 + 2 ^ 56 + 15, 0]] })
   s.dev.slcReady c = some [w0, w1] ∧ s.dev.slcRing c = false ∧ bits w0 60 4 = 4 ∧
   (bit w0 56 = false ∨ bits w0 0 11 ≤ 15) ∧ s.dev.slcHolds c w0 = false) ∧
  (let c : Nat := 2
   let y : SlcIns := { idx := 3, w0 := 4 * 2 ^ 60 + 2 ^ 56 + 3, w1 := 0, hold := true }
   let s : Machine.State := S (rings.chPut 2 { state := 2, next := 4, hit := true, prog := [{ idx := 3, w0 := 4 * 2 ^ 60 + 2 ^ 56 + 3, w1 := 0, hold := true }] })
   c < 16 ∧ s.dev.on 28 = true ∧ (s.dev.ch c).waiter = some y ∧ (s.dev.ch c).state = 2 ∧
   let x : SlcCh := s.dev.ch c
   (x.hit = true ∨ s.dev.slcHolds c y.w0 = true)) ∧
  (let c : Nat := 2
   let y : SlcIns := { idx := 3, w0 := 4 * 2 ^ 60 + 2 ^ 56 + 2 ^ 53 + 3, w1 := 1, hold := true }
   let s : Machine.State := S (rings.chPut 2 { state := 2, next := 4, hit := false, prog := [{ idx := 3, w0 := 4 * 2 ^ 60 + 2 ^ 56 + 2 ^ 53 + 3, w1 := 1, hold := true }] })
   c < 16 ∧ s.dev.on 28 = true ∧ (s.dev.ch c).waiter = some y ∧ (s.dev.ch c).state = 2 ∧
   let x : SlcCh := s.dev.ch c
   x.hit = false ∧ s.dev.slcHolds c y.w0 = false ∧ bits y.w1 0 32 ≠ 0 ∧ bit y.w0 53 = true) ∧
  (let c : Nat := 2
   let y : SlcIns := { idx := 3, w0 := 4 * 2 ^ 60 + 2 ^ 56 + 3, w1 := 1, hold := true }
   let s : Machine.State := S (rings.chPut 2 { state := 2, next := 4, hit := false, prog := [{ idx := 3, w0 := 4 * 2 ^ 60 + 2 ^ 56 + 3, w1 := 1, hold := true }] })
   c < 16 ∧ s.dev.on 28 = true ∧ (s.dev.ch c).waiter = some y ∧ (s.dev.ch c).state = 2 ∧
   let x : SlcCh := s.dev.ch c
   x.hit = false ∧ s.dev.slcHolds c y.w0 = false ∧ bits y.w1 0 32 ≠ 0 ∧ bit y.w0 53 = false) :=
  ⟨by decide +kernel,
   by decide +kernel,
   by decide +kernel,
   by decide +kernel,
   by decide +kernel,
   by decide +kernel,
   by decide +kernel,
   by decide +kernel,
   by decide +kernel,
   by decide +kernel,
   by decide +kernel,
   by decide +kernel,
   by decide +kernel,
   by decide +kernel⟩

theorem witness_SluiceInstructions_2 :
  (let c : Nat := 2
   let w0 : Nat := 5 * 2 ^ 60 + 2 ^ 56 + 3; let w1 : Nat := 0
   let s : Machine.State := S (rings.chPut 2 { state := 1, next := 3, ahead := [[5 * 2 ^ 60 + 2 ^ 56 + 3, 0]] })
   s.dev.slcReady c = some [w0, w1] ∧ s.dev.slcRing c = false ∧ bits w0 60 4 = 5 ∧
   ((s.dev.ch c).prog.all fun y => y.writes.isEmpty) = true ∧ bit w0 54 = false) ∧
  (let c : Nat := 2
   let w0 : Nat := 5 * 2 ^ 60 + 2 ^ 54 + 3; let w1 : Nat := 0x1000
   let s : Machine.State := S (rings.chPut 2 { state := 1, next := 3, ahead := [[5 * 2 ^ 60 + 2 ^ 54 + 3, 0x1000]] })
   s.dev.slcReady c = some [w0, w1] ∧ s.dev.slcRing c = false ∧ bits w0 60 4 = 5 ∧
   ((s.dev.ch c).prog.all fun y => y.writes.isEmpty) = true ∧
   let a : Nat := bits w1 0 48
   bit w0 54 = true ∧ blockErr [↑a] [(↑a, 64)] = 0) ∧
  (let c : Nat := 2
   let w0 : Nat := 6 * 2 ^ 60; let w1 : Nat := 0
   let s : Machine.State := S (rings.chPut 2 { state := 1, next := 3, ahead := [[6 * 2 ^ 60, 0]] })
   s.dev.slcReady c = some [w0, w1] ∧ s.dev.slcRing c = false ∧ bits w0 60 4 = 6 ∧ (s.dev.ch c).prog = []) ∧
  (let c : Nat := 2
   let s : Machine.State := S (rings.chPut 2 { state := 1, next := 65536 })
   c < 16 ∧ s.dev.on 28 = true ∧ s.dev.slcRing c = false ∧
   let x : SlcCh := s.dev.ch c
   x.state = 1 ∧ x.pausing = false ∧ x.prog = [] ∧ 65535 < x.next) ∧
  (let c : Nat := 2
   let l : List Nat := [7 * 2 ^ 60, 0]
   let rest : List (List Nat) := []
   let s : Machine.State := S (rings.chPut 2 { state := 1, next := 65535, ahead := [[7 * 2 ^ 60, 0]] })
   c < 16 ∧ s.dev.on 28 = true ∧ s.dev.slcRing c = false ∧
   let x : SlcCh := s.dev.ch c
   x.state = 1 ∧ x.pausing = false ∧ x.prog = [] ∧ x.next ≤ 65535 ∧ x.ahead = l :: rest ∧
   (bits (l.getD 0 0) 60 4 = 0 ∨ 7 ≤ bits (l.getD 0 0) 60 4)) ∧
  (let c : Nat := 2
   let h : SlcIns := { idx := 3, w0 := 1 * 2 ^ 60 + 2 ^ 58 + 2 ^ 57, w1 := 0, written := 64, pos := 64 }
   let s : Machine.State := S (rings.chPut 2 { state := 1, next := 4, prog := [{ idx := 3, w0 := 1 * 2 ^ 60 + 2 ^ 58 + 2 ^ 57, w1 := 0, written := 64, pos := 64 }] })
   c < 16 ∧ s.dev.on 28 = true ∧
   let x : SlcCh := s.dev.ch c
   x.state ≠ 3 ∧ x.state ≠ 5 ∧ x.state ≠ 6 ∧ x.state ≠ 7 ∧ x.prog = [h] ∧ s.dev.slcRing c = false ∧ h.back = 0 ∧
   h.finished false = true) ∧
  (let c : Nat := 2
   let h : SlcIns := { idx := 3, w0 := 2 ^ 61 + 2 ^ 62, w1 := 0, w2 := 0, written := 0, back := 3 }
   let s : Machine.State := S ((rings.setI F.SLC_CH_CFG_MODE 2 1).chPut 2 { state := 1, next := 4, prog := [{ idx := 3, w0 := 2 ^ 61 + 2 ^ 62, w1 := 0, w2 := 0, written := 0, back := 3 }] })
   c < 16 ∧ s.dev.on 28 = true ∧
   let x : SlcCh := s.dev.ch c
   x.state ≠ 3 ∧ x.state ≠ 5 ∧ x.state ≠ 6 ∧ x.state ≠ 7 ∧ x.prog = [h] ∧ s.dev.slcRing c = true ∧
   h.finished true = true ∧ bit h.w0 61 = true) ∧
  (let c : Nat := 2
   let l : List Nat := [64, 0x1000, 0x2000, 2 ^ 63]
   let s : Machine.State := S ((rings.setI F.SLC_CH_CFG_MODE 2 1).chPut 2 { state := 1, next := 4, ahead := [[64, 0x1000, 0x2000, 2 ^ 63]] })
   s.dev.slcReady c = some l ∧ c < 16 ∧ s.dev.slcRing c = true ∧
   let len : Nat := bits (l.getD 0 0) 0 25
   let src : Nat := bits (l.getD 1 0) 0 48
   let dst : Nat := bits (l.getD 2 0) 0 48
   let e : Nat := blockErr [↑src, ↑dst, ↑len] [(↑src, len), (↑dst, len)]
   e = 0) ∧
  (let c : Nat := 2
   let l : List Nat := [63, 0x1000, 0x2000, 2 ^ 63]
   let s : Machine.State := S ((rings.setI F.SLC_CH_CFG_MODE 2 1).chPut 2 { state := 1, next := 4, ahead := [[63, 0x1000, 0x2000, 2 ^ 63]] })
   s.dev.slcReady c = some l ∧ c < 16 ∧ s.dev.slcRing c = true ∧
   let len : Nat := bits (l.getD 0 0) 0 25
   let src : Nat := bits (l.getD 1 0) 0 48
   let dst : Nat := bits (l.getD 2 0) 0 48
   let e : Nat := blockErr [↑src, ↑dst, ↑len] [(↑src, len), (↑dst, len)]
   e ≠ 0) ∧
  (let c : Nat := 2; let b : Nat := 7
   let codes : List Rsp := [.done]
   let r : FabReq := req0 (.slcRead 2 7)
   let s : Machine.State := S (ask (rings.chPut 2 { state := 1, fetch := some 7, burst := 8 }) (.slcRead 2 7))
   s.dev.outstanding (FabKind.slcRead c b) = some r ∧
   let d : Dev := s.dev.answered (FabKind.slcRead c b) r ((List.find? (fun r => r != Rsp.done) codes).getD Rsp.done)
   let x : SlcCh := d.ch c
   x.fetch = some b) ∧
  (let c : Nat := 2; let b : Nat := 7
   let codes : List Rsp := [.done]
   let r : FabReq := req0 (.slcRead 2 7)
   let s : Machine.State := S (ask (rings.chPut 2 { state := 1, burst := 8, prog := [{ idx := 3, w0 := 2 * 2 ^ 60, w1 := 0, src := 0, tblRead := some 7, tblNext := 0x1000, tblLeft := 2 }] }) (.slcRead 2 7))
   let k : Nat := 0
   s.dev.outstanding (FabKind.slcRead c b) = some r ∧
   let d : Dev := s.dev.answered (FabKind.slcRead c b) r ((List.find? (fun r => r != Rsp.done) codes).getD Rsp.done)
   let x : SlcCh := d.ch c
   x.fetch ≠ some b ∧ List.findIdx? (fun y => y.tblRead == some b) x.prog = some k) ∧
  (let c : Nat := 2; let b : Nat := 7
   let codes : List Rsp := [.done]
   let r : FabReq := req0 (.slcRead 2 7)
   let s : Machine.State := S (ask (rings.chPut 2 { state := 1, burst := 8, prog := [{ idx := 3, w0 := 1 * 2 ^ 60, w1 := 0, reads := [(7, 0, 64, 0x2000)] }] }) (.slcRead 2 7))
   let k : Nat := 0
   let y : SlcIns := { idx := 3, w0 := 1 * 2 ^ 60, w1 := 0, reads := [(7, 0, 64, 0x2000)] }
   let e : Nat × Nat × Nat × Nat := (7, 0, 64, 0x2000)
   let d : Dev := rings.chPut 2 { state := 1, burst := 8, prog := [{ idx := 3, w0 := 1 * 2 ^ 60, w1 := 0, reads := [(7, 0, 64, 0x2000)] }] }
   (s.dev.outstanding (FabKind.slcRead c b) = some r ∧ let d' : Dev := s.dev.answered (FabKind.slcRead c b) r ((List.find? (fun r => r != Rsp.done) codes).getD Rsp.done); let x : SlcCh := d'.ch c; x.fetch ≠ some b ∧ List.findIdx? (fun y => y.tblRead == some b) x.prog = none ∧ List.findIdx? (fun y => y.reads.any fun e => e.1 == b) x.prog = some k ∧ x.prog[k]? = some y ∧ List.find? (fun e => e.1 == b) y.reads = some e) ∧
   ((d.ch c).prog[k]? = some y)) ∧
  (let c : Nat := 2; let k : Nat := 0
   let y : SlcIns := { idx := 3, w0 := 1 * 2 ^ 60, w1 := 0, got := [{ pos := 0, len := 64, dst := 0x2000, data := List.replicate 64 3, bad := none }] }
   let g : SlcGot := { pos := 0, len := 64, dst := 0x2000, data := List.replicate 64 3, bad := none }
   let d : Dev := rings.chPut 2 { state := 1, burst := 8, prog := [{ idx := 3, w0 := 1 * 2 ^ 60, w1 := 0, got := [{ pos := 0, len := 64, dst := 0x2000, data := List.replicate 64 3, bad := none }] }] }
   (d.ch c).prog[k]? = some y ∧ y.fail = none ∧ y.due = some g ∧ g.bad = none ∧ g.len ≠ 0 ∧ g.data.length = g.len) ∧
  (let c : Nat := 2; let b : Nat := 7; let code : Rsp := .done
   let r : FabReq := req0 (.slcWrite 2 7); let k : Nat := 0
   let y : SlcIns := { idx := 3, w0 := 1 * 2 ^ 60, w1 := 0, writes := [(7, 0, 64)] }
   let e : Nat × Nat × Nat := (7, 0, 64)
   let s : Machine.State := S (ask (rings.chPut 2 { state := 1, burst := 8, prog := [{ idx := 3, w0 := 1 * 2 ^ 60, w1 := 0, writes := [(7, 0, 64)] }] }) (.slcWrite 2 7))
   s.dev.outstanding (FabKind.slcWrite c b) = some r ∧
   let d : Dev := s.dev.answered (FabKind.slcWrite c b) r code
   let x : SlcCh := d.ch c
   List.findIdx? (fun y => y.writes.any fun e => e.1 == b) x.prog = some k ∧ x.prog[k]? = some y ∧
   List.find? (fun e => e.1 == b) y.writes = some e ∧ code = Rsp.done ∧ e.2.2 ≠ 0) :=
  ⟨by decide +kernel,
   by decide +kernel,
   by decide +kernel,
   by decide +kernel,
   by decide +kernel,
   by decide +kernel,
   by decide +kernel,
   by decide +kernel,
   by decide +kernel,
   by decide +kernel,
   by decide +kernel,
   by decide +kernel,
   by decide +kernel,
   by decide +kernel⟩

theorem witness_SluiceInstructions_3 :
  (let c : Nat := 2; let b : Nat := 7; let code : Rsp := .deny
   let r : FabReq := req0 (.slcWrite 2 7); let k : Nat := 0
   let y : SlcIns := { idx := 3, w0 := 1 * 2 ^ 60, w1 := 0, writes := [(7, 0, 64)] }
   let e : Nat × Nat × Nat := (7, 0, 64)
   let s : Machine.State := S (ask (rings.chPut 2 { state := 1, burst := 8, prog := [{ idx := 3, w0 := 1 * 2 ^ 60, w1 := 0, writes := [(7, 0, 64)] }] }) (.slcWrite 2 7))
   s.dev.outstanding (FabKind.slcWrite c b) = some r ∧
   let d : Dev := s.dev.answered (FabKind.slcWrite c b) r code
   let x : SlcCh := d.ch c
   List.findIdx? (fun y => y.writes.any fun e => e.1 == b) x.prog = some k ∧ x.prog[k]? = some y ∧
   List.find? (fun e => e.1 == b) y.writes = some e ∧ code ≠ Rsp.done) :=
  by decide +kernel

theorem witness_EventCommands_1 :
  (let r : EvRec := { src := 5, sense := 1, state := true, mrg := false, sfc := 3, cyc := 9, merges := 2 }
   let s : Machine.State := S { (awake.setI F.EVQ_Q_CFG_EN 0 1) with evq := { awake.evq with pend := [{ src := 5, sense := 1, state := true, mrg := false, sfc := 3, cyc := 9, merges := 2 }] } }
   s.dev.on 29 = true ∧ s.dev.on 31 = true ∧ s.dev.evPick = some (r, none)) ∧
  (let r : EvRec := { src := 5, sense := 1, state := true, mrg := false, sfc := 3, cyc := 9, merges := 2 }
   let e : EvIssue := { q := 0, idx := 0, seq := 0, record := { src := 5, sense := 1, state := true, mrg := false, sfc := 3, cyc := 9, merges := 2 }, st := .returned }
   let s : Machine.State := S { (awake.setI F.EVQ_Q_CFG_EN 0 1) with evq := { awake.evq with issued := [{ q := 0, idx := 0, seq := 0, record := { src := 5, sense := 1, state := true, mrg := false, sfc := 3, cyc := 9, merges := 2 }, st := .returned }] } }
   s.dev.on 29 = true ∧ s.dev.on 31 = true ∧ s.dev.evPick = some (r, some e)) ∧
  (let d : Dev := awake
   let e : EvIssue := { q := 0, idx := 0, seq := 0, record := { src := 5, sense := 1, state := true, mrg := false, sfc := 3, cyc := 9, merges := 2 }, st := .flying }
   ((∀ p ∈ d.evq.pend, p.src ≠ e.record.src))) ∧
  (let q : Nat := 0; let idx : Nat := 0; let c : Rsp := .done
   let r : FabReq := req0 (.eventRecord 0 0)
   let e : EvIssue := { q := 0, idx := 0, seq := 0, record := { src := 5, sense := 1, state := true, mrg := false, sfc := 3, cyc := 9, merges := 2 }, st := .flying }
   let s : Machine.State := S (ask { (awake.setI F.EVQ_Q_CFG_EN 0 1) with evq := { awake.evq with issued := [{ q := 0, idx := 0, seq := 0, record := { src := 5, sense := 1, state := true, mrg := false, sfc := 3, cyc := 9, merges := 2 }, st := .flying }] } } (.eventRecord 0 0))
   s.dev.outstanding (FabKind.eventRecord q idx) = some r ∧
   let d : Dev := (if c = Rsp.done then (s.dev.answered (FabKind.eventRecord q idx) r c).pmc 18 1 { func := some r.func } else s.dev.answered (FabKind.eventRecord q idx) r c)
   List.find? (fun e => e.q == q && e.idx == idx) d.evq.loose = none ∧
   List.find? (fun e => e.idx == idx && e.st == EvSt.flying) (d.evBound q) = some e ∧ c = Rsp.done) ∧
  (let q : Nat := 0; let idx : Nat := 0; let c : Rsp := .fault
   let r : FabReq := req0 (.eventRecord 0 0)
   let e : EvIssue := { q := 0, idx := 0, seq := 0, record := { src := 5, sense := 1, state := true, mrg := false, sfc := 3, cyc := 9, merges := 2 }, st := .flying }
   let s : Machine.State := S (ask { (awake.setI F.EVQ_Q_CFG_EN 0 1) with evq := { awake.evq with issued := [{ q := 0, idx := 0, seq := 0, record := { src := 5, sense := 1, state := true, mrg := false, sfc := 3, cyc := 9, merges := 2 }, st := .flying }] } } (.eventRecord 0 0))
   s.dev.outstanding (FabKind.eventRecord q idx) = some r ∧
   let d : Dev := (if c = Rsp.done then (s.dev.answered (FabKind.eventRecord q idx) r c).pmc 18 1 { func := some r.func } else s.dev.answered (FabKind.eventRecord q idx) r c)
   List.find? (fun e => e.q == q && e.idx == idx) d.evq.loose = none ∧
   List.find? (fun e => e.idx == idx && e.st == EvSt.flying) (d.evBound q) = some e ∧ c ≠ Rsp.done ∧
   let a : Dev := (d.evReturn e).setI F.EVQ_Q_STAT_FAULT q 1
   a.f F.EVQ_Q_CFG_EN q ≠ 0) ∧
  (let q : Nat := 0; let idx : Nat := 0; let c : Rsp := .fault
   let r : FabReq := req0 (.eventRecord 0 0)
   let e : EvIssue := { q := 0, idx := 0, seq := 0, record := { src := 5, sense := 1, state := true, mrg := false, sfc := 3, cyc := 9, merges := 2 }, st := .flying }
   let s : Machine.State := S (ask { awake with evq := { awake.evq with issued := [{ q := 0, idx := 0, seq := 0, record := { src := 5, sense := 1, state := true, mrg := false, sfc := 3, cyc := 9, merges := 2 }, st := .flying }] } } (.eventRecord 0 0))
   s.dev.outstanding (FabKind.eventRecord q idx) = some r ∧
   let d : Dev := (if c = Rsp.done then (s.dev.answered (FabKind.eventRecord q idx) r c).pmc 18 1 { func := some r.func } else s.dev.answered (FabKind.eventRecord q idx) r c)
   List.find? (fun e => e.q == q && e.idx == idx) d.evq.loose = none ∧
   List.find? (fun e => e.idx == idx && e.st == EvSt.flying) (d.evBound q) = some e ∧ c ≠ Rsp.done ∧
   let a : Dev := (d.evReturn e).setI F.EVQ_Q_STAT_FAULT q 1
   a.f F.EVQ_Q_CFG_EN q = 0) ∧
  (let d : Dev := { ((awake.setI F.EVQ_Q_CFG_EN 0 1).setI F.EVQ_Q_CFG_ASLEEP 0 1) with evq := { awake.evq with issued := [{ q := 0, idx := 0, seq := 0, record := { src := 5, sense := 1, state := true, mrg := false, sfc := 3, cyc := 9, merges := 2 }, st := .landed }] } }
   let q : Nat := 0
   let e : EvIssue := { q := 0, idx := 0, seq := 0, record := { src := 5, sense := 1, state := true, mrg := false, sfc := 3, cyc := 9, merges := 2 }, st := .landed }
   List.find? (fun e => e.idx == d.f F.EVQ_Q_PI_PI q) (d.evBound q) = some e ∧ e.st = EvSt.landed ∧
   d.f F.EVQ_Q_CFG_ASLEEP q ≠ 0 ∧ d.f F.EVQ_Q_PI_PI q = d.f F.EVQ_Q_CI_CI q) ∧
  (let d : Dev := { (awake.setI F.EVQ_Q_CFG_EN 0 1) with evq := { awake.evq with issued := [{ q := 0, idx := 0, seq := 0, record := { src := 5, sense := 1, state := true, mrg := false, sfc := 3, cyc := 9, merges := 2 }, st := .landed }] } }
   let q : Nat := 0
   let e : EvIssue := { q := 0, idx := 0, seq := 0, record := { src := 5, sense := 1, state := true, mrg := false, sfc := 3, cyc := 9, merges := 2 }, st := .landed }
   List.find? (fun e => e.idx == d.f F.EVQ_Q_PI_PI q) (d.evBound q) = some e ∧ e.st = EvSt.landed ∧
   (d.f F.EVQ_Q_CFG_ASLEEP q = 0 ∨ d.f F.EVQ_Q_PI_PI q ≠ d.f F.EVQ_Q_CI_CI q)) ∧
  (let q : Nat := 7
   let w : RegWr := wr h0 [(F.EVQ_Q_CI_CI, 2)]
   let s : Machine.State := S ((awake.setI F.EVQ_Q_PI_PI 7 1).setI F.EVQ_Q_CI_CI 7 (2 ^ 18 - 3))
   (q < 8 ∧ s.dev.reach w.agent = true ∧ (w.agent == Agent.docent && mpuWrite (1376280 + 64 * q)) = false ∧ s.dev.denied w.agent = false ∧ s.dev.on (domainOf (1376280 + 64 * q)) = true ∧ let c : Nat := w.merged F.EVQ_Q_CI_CI (s.dev.f F.EVQ_Q_CI_CI q); let pi : Nat := s.dev.f F.EVQ_Q_PI_PI q; let ahead : Nat := (pi + 2 ^ 18 - c) % 2 ^ 18; ¬(ahead ≤ 2 ^ s.dev.f F.EVQ_Q_CFG_LOG2SIZE q ∧ ahead ≤ (pi + 2 ^ 18 - s.dev.f F.EVQ_Q_CI_CI q) % 2 ^ 18)) ∧
   (q < 8 ∧ s.dev.reach w.agent = true ∧ (w.agent == Agent.docent && mpuWrite (1376288 + 64 * q)) = false ∧ s.dev.denied w.agent = false ∧ s.dev.on (domainOf (1376288 + 64 * q)) = true) ∧
   (s.dev.reach w.agent = true ∧ (w.agent == Agent.docent && mpuWrite 1376776) = false ∧ s.dev.denied w.agent = false ∧ s.dev.on (domainOf 1376776) = true)) ∧
  (let q : Nat := 7
   let w : RegWr := wr h0 [(F.EVQ_Q_CI_CI, 1)]
   let s : Machine.State := S ((awake.setI F.EVQ_Q_PI_PI 7 1).setI F.EVQ_Q_CI_CI 7 (2 ^ 18 - 3))
   (q < 8 ∧ s.dev.reach w.agent = true ∧ (w.agent == Agent.docent && mpuWrite (1376280 + 64 * q)) = false ∧ s.dev.denied w.agent = false ∧ s.dev.on (domainOf (1376280 + 64 * q)) = true ∧ let c : Nat := w.merged F.EVQ_Q_CI_CI (s.dev.f F.EVQ_Q_CI_CI q); let pi : Nat := s.dev.f F.EVQ_Q_PI_PI q; let ahead : Nat := (pi + 2 ^ 18 - c) % 2 ^ 18; ahead ≤ 2 ^ s.dev.f F.EVQ_Q_CFG_LOG2SIZE q ∧ ahead ≤ (pi + 2 ^ 18 - s.dev.f F.EVQ_Q_CI_CI q) % 2 ^ 18) ∧
   (q < 8 ∧ s.dev.reach w.agent = true ∧ (w.agent == Agent.docent && mpuWrite (1376256 + 64 * q)) = false ∧ s.dev.denied w.agent = false ∧ s.dev.on (domainOf (1376256 + 64 * q)) = true ∧ let en : Nat := w.merged F.EVQ_Q_CFG_EN (s.dev.f F.EVQ_Q_CFG_EN q); let sz : Nat := w.merged F.EVQ_Q_CFG_LOG2SIZE (s.dev.f F.EVQ_Q_CFG_LOG2SIZE q); let fn : Nat := w.merged F.EVQ_Q_CFG_FUNC (s.dev.f F.EVQ_Q_CFG_FUNC q); let base : Nat := s.dev.f F.EVQ_Q_BASE_BASE q; ¬(s.dev.f F.EVQ_Q_CFG_EN q ≠ 0 ∧ (sz ≠ s.dev.f F.EVQ_Q_CFG_LOG2SIZE q ∨ fn ≠ s.dev.f F.EVQ_Q_CFG_FUNC q)) ∧ en = 1 ∧ (sz < 6 ∨ 16 < sz ∨ base % 64 ≠ 0 ∨ 2 ^ 48 < base + 16 * 2 ^ sz))) ∧
  (let n : Nat := 2047
   let w : RegWr := wr h0 [(F.EVQ_SRC_SENSE, 2), (F.EVQ_SRC_EN, 1), (F.EVQ_SRC_TARGET, 7)]
   let s : Machine.State := S (awake.set F.EVQ_SWSRC_STATE 128)
   n < 2048 ∧ s.dev.reach w.agent = true ∧ (w.agent == Agent.docent && mpuWrite (1409024 + 8 * n)) = false ∧
   s.dev.denied w.agent = false ∧ s.dev.on (domainOf (1409024 + 8 * n)) = true ∧ srcKind n ≠ 0 ∧
   w.fld F.EVQ_SRC_REARM ≠ 1) ∧
  (let n : Nat := 2047
   let w : RegWr := wr h0 [(F.EVQ_SRC_SENSE, 2), (F.EVQ_SRC_REARM, 1)]
   let s : Machine.State := S (awake.set F.EVQ_SWSRC_STATE 128)
   n < 2048 ∧ s.dev.reach w.agent = true ∧ (w.agent == Agent.docent && mpuWrite (1409024 + 8 * n)) = false ∧
   s.dev.denied w.agent = false ∧ s.dev.on (domainOf (1409024 + 8 * n)) = true ∧ srcKind n ≠ 0 ∧
   let d : Dev := (((s.dev.put F.EVQ_SRC_SENSE w n).put F.EVQ_SRC_EN w n).put F.EVQ_SRC_TARGET w n).put F.EVQ_SRC_WAKE w n
   w.fld F.EVQ_SRC_REARM = 1 ∧ d.evPending n = false) ∧
  (let n : Nat := 5
   let w : RegWr := wr h0 [(F.EVQ_SRC_SENSE, 2), (F.EVQ_SRC_REARM, 1)]
   let s : Machine.State := S { (awake.setI F.EVQ_Q_CFG_EN 0 1) with evq := { awake.evq with pend := [{ src := 5, sense := 1, state := true, mrg := false, sfc := 3, cyc := 9, merges := 2 }] } }
   n < 2048 ∧ s.dev.reach w.agent = true ∧ (w.agent == Agent.docent && mpuWrite (1409024 + 8 * n)) = false ∧
   s.dev.denied w.agent = false ∧ s.dev.on (domainOf (1409024 + 8 * n)) = true ∧ srcKind n ≠ 0 ∧
   let d : Dev := (((s.dev.put F.EVQ_SRC_SENSE w n).put F.EVQ_SRC_EN w n).put F.EVQ_SRC_TARGET w n).put F.EVQ_SRC_WAKE w n
   w.fld F.EVQ_SRC_REARM = 1 ∧ d.evPending n = true) ∧
  (let q : Nat := 7
   let w : RegWr := wr h0 [(F.EVQ_Q_CFG_EN, 1), (F.EVQ_Q_CFG_LOG2SIZE, 7)]
   let s : Machine.State := S (awake.setI F.EVQ_Q_CFG_EN 7 1)
   q < 8 ∧ s.dev.reach w.agent = true ∧ (w.agent == Agent.docent && mpuWrite (1376256 + 64 * q)) = false ∧
   s.dev.denied w.agent = false ∧ s.dev.on (domainOf (1376256 + 64 * q)) = true ∧
   let sz : Nat := w.merged F.EVQ_Q_CFG_LOG2SIZE (s.dev.f F.EVQ_Q_CFG_LOG2SIZE q)
   let fn : Nat := w.merged F.EVQ_Q_CFG_FUNC (s.dev.f F.EVQ_Q_CFG_FUNC q)
   s.dev.f F.EVQ_Q_CFG_EN q ≠ 0 ∧ (sz ≠ s.dev.f F.EVQ_Q_CFG_LOG2SIZE q ∨ fn ≠ s.dev.f F.EVQ_Q_CFG_FUNC q)) :=
  ⟨by decide +kernel,
   by decide +kernel,
   by decide +kernel,
   by decide +kernel,
   by decide +kernel,
   by decide +kernel,
   by decide +kernel,
   by decide +kernel,
   by decide +kernel,
   by decide +kernel,
   by decide +kernel,
   by decide +kernel,
   by decide +kernel,
   by decide +kernel⟩

theorem witness_EventCommands_2 :
  (let q : Nat := 7
   let w : RegWr := wr h0 [(F.EVQ_Q_CFG_EN, 1), (F.EVQ_Q_CFG_LOG2SIZE, 16)]
   let s : Machine.State := S awake
   q < 8 ∧ s.dev.reach w.agent = true ∧ (w.agent == Agent.docent && mpuWrite (1376256 + 64 * q)) = false ∧
   s.dev.denied w.agent = false ∧ s.dev.on (domainOf (1376256 + 64 * q)) = true ∧
   let en : Nat := w.merged F.EVQ_Q_CFG_EN (s.dev.f F.EVQ_Q_CFG_EN q)
   let sz : Nat := w.merged F.EVQ_Q_CFG_LOG2SIZE (s.dev.f F.EVQ_Q_CFG_LOG2SIZE q)
   let fn : Nat := w.merged F.EVQ_Q_CFG_FUNC (s.dev.f F.EVQ_Q_CFG_FUNC q)
   let base : Nat := s.dev.f F.EVQ_Q_BASE_BASE q
   ¬(s.dev.f F.EVQ_Q_CFG_EN q ≠ 0 ∧ (sz ≠ s.dev.f F.EVQ_Q_CFG_LOG2SIZE q ∨ fn ≠ s.dev.f F.EVQ_Q_CFG_FUNC q)) ∧
   en = 1 ∧ ¬(sz < 6 ∨ 16 < sz ∨ base % 64 ≠ 0 ∨ 2 ^ 48 < base + 16 * 2 ^ sz) ∧ s.dev.f F.ID_INTEG_FAB_WIRED = 0) ∧
  (let q : Nat := 7
   let w : RegWr := wr h0 [(F.EVQ_Q_CFG_EN, 1), (F.EVQ_Q_CFG_LOG2SIZE, 16), (F.EVQ_Q_CFG_ASLEEP, 1)]
   let s : Machine.State := S ((awake.set F.ID_INTEG_FAB_WIRED 1).setI F.EVQ_Q_BASE_BASE 7 (2 ^ 48 - 2 ^ 20))
   q < 8 ∧ s.dev.reach w.agent = true ∧ (w.agent == Agent.docent && mpuWrite (1376256 + 64 * q)) = false ∧
   s.dev.denied w.agent = false ∧ s.dev.on (domainOf (1376256 + 64 * q)) = true ∧
   let en : Nat := w.merged F.EVQ_Q_CFG_EN (s.dev.f F.EVQ_Q_CFG_EN q)
   let sz : Nat := w.merged F.EVQ_Q_CFG_LOG2SIZE (s.dev.f F.EVQ_Q_CFG_LOG2SIZE q)
   let fn : Nat := w.merged F.EVQ_Q_CFG_FUNC (s.dev.f F.EVQ_Q_CFG_FUNC q)
   let base : Nat := s.dev.f F.EVQ_Q_BASE_BASE q
   ¬(s.dev.f F.EVQ_Q_CFG_EN q ≠ 0 ∧ (sz ≠ s.dev.f F.EVQ_Q_CFG_LOG2SIZE q ∨ fn ≠ s.dev.f F.EVQ_Q_CFG_FUNC q)) ∧
   en = 1 ∧ ¬(sz < 6 ∨ 16 < sz ∨ base % 64 ≠ 0 ∨ 2 ^ 48 < base + 16 * 2 ^ sz) ∧ s.dev.f F.ID_INTEG_FAB_WIRED ≠ 0 ∧
   s.dev.f F.EVQ_Q_CFG_EN q = 0) ∧
  (let q : Nat := 0; let idx : Nat := 0; let c : Rsp := .fault
   let r : FabReq := req0 (.eventRecord 0 0)
   let e : EvIssue := { q := 0, idx := 0, seq := 0, record := { src := 5, sense := 1, state := true, mrg := false, sfc := 3, cyc := 9, merges := 2 }, st := .flying }
   let s : Machine.State := S (ask { (awake.setI F.EVQ_Q_CFG_EN 0 1) with evq := { awake.evq with loose := [{ q := 0, idx := 0, seq := 0, record := { src := 5, sense := 1, state := true, mrg := false, sfc := 3, cyc := 9, merges := 2 }, st := .flying }] } } (.eventRecord 0 0))
   s.dev.outstanding (FabKind.eventRecord q idx) = some r ∧ c ≠ Rsp.done ∧
   let d : Dev := s.dev.answered (FabKind.eventRecord q idx) r c
   List.find? (fun e => e.q == q && e.idx == idx) d.evq.loose = some e) ∧
  (let d : Dev := { (awake.setI F.EVQ_Q_CFG_EN 0 1) with evq := { awake.evq with pend := [{ src := 5, sense := 0, state := false, mrg := false, sfc := 4, cyc := 1, merges := 0 }], issued := [{ q := 0, idx := 0, seq := 0, record := { src := 5, sense := 1, state := true, mrg := false, sfc := 3, cyc := 9, merges := 2 }, st := .flying }] } }
   let e : EvIssue := { q := 0, idx := 0, seq := 0, record := { src := 5, sense := 1, state := true, mrg := false, sfc := 3, cyc := 9, merges := 2 }, st := .flying }
   let p : EvRec := { src := 5, sense := 0, state := false, mrg := false, sfc := 4, cyc := 1, merges := 0 }
   List.find? (fun p => p.src == e.record.src) d.evq.pend = some p) :=
  ⟨by decide +kernel,
   by decide +kernel,
   by decide +kernel,
   by decide +kernel⟩

theorem witness_SequencerCommands_1 :
  (let a : Nat := 5
   let d : Dev := ((awake.setI F.SEQ_MATCH_EN 3 1).setI F.SEQ_MATCH_ADDR 3 5).setI F.SEQ_MATCH_PADDR 3 7
   let m : Nat := 3
   (a < 4096 ∧ d.seqMatch a = some m) ∧
   (let o : Dev := d.seqOver 4; o.ds.seqMsgs = []) ∧
   (d.seqPatched = true ∧ d.seq.failed = false ∧ let e : Dev := { d with seq := { d.seq with fails := d.seq.fails + 1, failed := true } }; d.seq.fails + 1 < max 1 (e.f F.SEQ_CTL_QUAR_N))) ∧
  (let a : Nat := 4095; let d : Dev := awake
   (a < 4096 ∧ d.seqMatch a = none) ∧ (d.seqPatched = false)) ∧
  (let a : Nat := 4607
   4096 ≤ a ∧ a < 4608) ∧
  (let a : Nat := 4608
   4608 ≤ a) ∧
  (let up : SeqUpset := .none
   let s : Machine.State := S { (awake.set F.SEQ_STAT_STATE 1) with seq := { awake.seq with pc := 0x1000, cycles := 30000 } }
   let w : Nat := (0 : Nat)
   (s.dev.seqBusy = true ∧ s.dev.on 2 = true ∧ let f : SeqFetch := s.dev.seqFetch s.dev.seq.pc; let seen : Dev → Dev := fun d => match f.via with | some m => d.set F.SEQ_STAT_LAST_MATCH m | none => d; f.word = some w ∧ up ≠ SeqUpset.patchLost ∧ let d : Dev := seen (s.dev.seqCharge (uwDuty w) 1); d.seqLimit ≤ d.seq.cycles ∧ (uwWait w = true ∨ uwMode w ≠ 6)) ∧
   (s.dev.seqBusy = true ∧ s.dev.on 2 = true)) ∧
  (let up : SeqUpset := .none
   let s : Machine.State := S { (awake.set F.SEQ_STAT_STATE 1) with seq := { awake.seq with pc := 0x1000, patch := [(0, 2 ^ 132)] } }
   let w : Nat := (2 ^ 132 : Nat)
   s.dev.seqBusy = true ∧ s.dev.on 2 = true ∧
   let f : SeqFetch := s.dev.seqFetch s.dev.seq.pc
   let seen : Dev → Dev := fun d => match f.via with | some m => d.set F.SEQ_STAT_LAST_MATCH m | none => d
   f.word = some w ∧ up ≠ SeqUpset.patchLost ∧
   let d : Dev := seen (s.dev.seqCharge (uwDuty w) 1)
   let e : Dev := (match up with | SeqUpset.patchFlip n => if 4096 ≤ f.at' then d.seqCorrected n else d | x => d)
   d.seq.cycles < d.seqLimit ∧ uwWait w = true ∧ e.seqBadOp w = false ∧ e.seqWaitMet (uwWaitSel w) = false) ∧
  (let up : SeqUpset := .patchFlip 7
   let s : Machine.State := S { (awake.set F.SEQ_STAT_STATE 1) with seq := { awake.seq with pc := 0x11FF } }
   let w : Nat := (0 : Nat)
   s.dev.seqBusy = true ∧ s.dev.on 2 = true ∧
   let f : SeqFetch := s.dev.seqFetch s.dev.seq.pc
   let seen : Dev → Dev := fun d => match f.via with | some m => d.set F.SEQ_STAT_LAST_MATCH m | none => d
   f.word = some w ∧ up ≠ SeqUpset.patchLost ∧
   let d : Dev := seen (s.dev.seqCharge (uwDuty w) 1)
   let e : Dev := (match up with | SeqUpset.patchFlip n => if 4096 ≤ f.at' then d.seqCorrected n else d | x => d)
   d.seq.cycles < d.seqLimit ∧ (uwWait w = false ∨ e.seqBadOp w = true ∨ e.seqWaitMet (uwWaitSel w) = true)) ∧
  (let s : Machine.State := S { (awake.set F.SEQ_STAT_STATE 1) with seq := { awake.seq with pc := 0x1200, stack := [seqRoot] } }
   s.dev.seqBusy = true ∧ s.dev.on 2 = true ∧
   let f : SeqFetch := s.dev.seqFetch s.dev.seq.pc
   let seen : Dev → Dev := fun d => match f.via with | some m => d.set F.SEQ_STAT_LAST_MATCH m | none => d
   f.word = none ∧
   let d : Dev := seen (s.dev.seqCharge (s.dev.f F.SEQ_STAT_DUTY) 1)
   d.seq.cycles < d.seqLimit) ∧
  (let up : SeqUpset := .patchLost
   let s : Machine.State := S { (awake.set F.SEQ_STAT_STATE 1) with seq := { awake.seq with pc := 0x1000, stack := [seqRoot] } }
   s.dev.seqBusy = true ∧ s.dev.on 2 = true ∧
   let f : SeqFetch := s.dev.seqFetch s.dev.seq.pc
   let seen : Dev → Dev := fun d => match f.via with | some m => d.set F.SEQ_STAT_LAST_MATCH m | none => d
   f.word ≠ none ∧ up = SeqUpset.patchLost ∧ 4096 ≤ f.at' ∧
   let d : Dev := seen (s.dev.seqCharge (s.dev.f F.SEQ_STAT_DUTY) 1)
   d.seq.cycles < d.seqLimit) ∧
  (let r : SeqCall := { ret := 9, entry := 0x30, committed := true }
   let up : List SeqCall := [{ ret := 0, entry := 1 }, seqRoot]
   let d : Dev := { (awake.set F.SEQ_STAT_STATE 1) with seq := { awake.seq with stack := [{ ret := 9, entry := 0x30, committed := true }, { ret := 0, entry := 1 }, seqRoot], aband := [(0x30, 0)] } }
   d.seq.stack = r :: up ∧ r.committed = true) ∧
  (let skip : Bool := false
   let r : SeqCall := { ret := 9, entry := 0x30, committed := false }
   let up : List SeqCall := [{ ret := 0, entry := 1 }, seqRoot]
   let d : Dev := { (awake.set F.SEQ_STAT_STATE 1) with seq := { awake.seq with stack := [{ ret := 9, entry := 0x30, committed := false }, { ret := 0, entry := 1 }, seqRoot], aband := [(0x30, 2)] } }
   d.seq.stack = r :: up ∧
   let n : Nat := d.seq.aband.getD r.entry 0 + 1
   r.committed = false ∧ skip = false ∧ n < 4) ∧
  (let skip : Bool := false
   let r : SeqCall := { ret := 9, entry := 0x30, committed := false }
   let up : List SeqCall := [{ ret := 0, entry := 1 }, seqRoot]
   let d : Dev := { (awake.set F.SEQ_STAT_STATE 1) with seq := { awake.seq with stack := [{ ret := 9, entry := 0x30, committed := false }, { ret := 0, entry := 1 }, seqRoot], aband := [(0x30, 3)] } }
   d.seq.stack = r :: up ∧
   let n : Nat := d.seq.aband.getD r.entry 0 + 1
   r.committed = false ∧ (skip = true ∨ 4 ≤ n) ∧ 2 ≤ up.length) ∧
  (let k : Nat := 0; let n : Nat := 100
   let s : Machine.State := S { (awake.set F.SEQ_STAT_STATE 1) with seq := { awake.seq with cycles := 30000 } }
   s.dev.seqBusy = true ∧ s.dev.on 2 = true ∧ s.dev.seqMayStart k = true ∧ k ≠ 1 ∧ k ≠ 2 ∧
   let d : Dev := (s.dev.seqWorked.seqCharge k n).pmc 21 n
   d.seqLimit ≤ d.seq.cycles) ∧
  (let k : Nat := 0; let n : Nat := 100
   let s : Machine.State := S { (awake.set F.SEQ_STAT_STATE 1) with seq := { awake.seq with stack := [seqRoot] } }
   s.dev.seqBusy = true ∧ s.dev.on 2 = true ∧ s.dev.seqMayStart k = true ∧ k ≠ 1 ∧ k ≠ 2 ∧
   let d : Dev := (s.dev.seqWorked.seqCharge k n).pmc 21 n
   d.seq.cycles < d.seqLimit) :=
  ⟨by decide +kernel,
   by decide +kernel,
   by decide +kernel,
   by decide +kernel,
   by decide +kernel,
   by decide +kernel,
   by decide +kernel,
   by decide +kernel,
   by decide +kernel,
   by decide +kernel,
   by decide +kernel,
   by decide +kernel,
   by decide +kernel,
   by decide +kernel⟩

theorem witness_SequencerCommands_2 :
  (let s : Machine.State := S ((awake.set F.SEQ_STAT_STATE 1).set F.SEQ_STAT_DUTY 1)
   s.dev.seqBusy = true ∧ s.dev.on 2 = true ∧ s.dev.f F.SEQ_STAT_DUTY = 1) ∧
  (let s : Machine.State := S ((awake.set F.SEQ_STAT_STATE 1).set F.SEQ_STAT_DUTY 4)
   s.dev.seqBusy = true ∧ s.dev.on 2 = true ∧ s.dev.f F.SEQ_STAT_DUTY = 4) ∧
  (let d : Dev := { (awake.set F.SEQ_STAT_STATE 1) with ds := { awake.ds with hdrFresh := true } }
   d.ds.hdrFresh = true ∧ d.on 9 = true) ∧
  (let d : Dev := { (awake.set F.SEQ_STAT_STATE 1) with ds := { awake.ds with seqMsgs := [[1]] } }
   let o : Dev := d.seqOver 4
   o.ds.seqMsgs ≠ []) ∧
  (let s : Machine.State := S { (awake.set F.SEQ_STAT_STATE 1) with ds := { awake.ds with hdrFresh := true } }
   s.dev.ds.hdrFresh = true ∧ s.dev.on 2 = true ∧ 1 ≤ s.dev.f F.SEQ_STAT_STATE ∧ s.dev.f F.SEQ_STAT_STATE ≤ 3 ∧
   let a : Dev := (({ s.dev with ds := { s.dev.ds with hdrFresh := false } }.raise 1409).count F.SEQ_CNT_PAGE_LATE).seqFailed
   let e : Dev := { a with seq := { a.seq with post := [], filer := none } }
   e.f F.SEQ_STAT_DUTY ≠ 1) ∧
  (let s : Machine.State := S { ((awake.set F.SEQ_STAT_STATE 1).set F.SEQ_STAT_DUTY 1) with ds := { awake.ds with hdrFresh := true }, seq := { awake.seq with stack := [{ ret := 9, entry := 0x30 }, seqRoot] } }
   let p : SeqCall := seqRoot
   let r : SeqCall := { ret := 9, entry := 0x30 }
   let up : List SeqCall := []
   s.dev.ds.hdrFresh = true ∧ s.dev.on 2 = true ∧ 1 ≤ s.dev.f F.SEQ_STAT_STATE ∧ s.dev.f F.SEQ_STAT_STATE ≤ 3 ∧
   let a : Dev := (({ s.dev with ds := { s.dev.ds with hdrFresh := false } }.raise 1409).count F.SEQ_CNT_PAGE_LATE).seqFailed
   let e : Dev := { a with seq := { a.seq with post := [], filer := none } }
   e.f F.SEQ_STAT_DUTY = 1 ∧ e.seq.stack.reverse = p :: r :: up) ∧
  (let d : Dev := { ((awake.set F.SEQ_STAT_STATE 1).setI F.SEQ_MATCH_EN 3 1) with seq := { awake.seq with fails := 3 } }
   d.seqPatched = true ∧ d.seq.failed = false ∧
   let e : Dev := { d with seq := { d.seq with fails := d.seq.fails + 1, failed := true } }
   max 1 (e.f F.SEQ_CTL_QUAR_N) ≤ d.seq.fails + 1) ∧
  (let w : RegWr := wr .curator [(F.SEQ_CTL_RESTART, 1), (F.SEQ_CTL_BUDGET, 100), (F.SEQ_CTL_QUAR_N, 4)]
   let s : Machine.State := S { (awake.set F.SEQ_STAT_STATE 1) with seq := { awake.seq with stack := [seqRoot] } }
   (s.dev.reach w.agent = true ∧ (w.agent == Agent.docent && mpuWrite 1441800) = false ∧ s.dev.denied w.agent = false ∧ s.dev.on (domainOf 1441800) = true ∧ w.agent = Agent.curator ∧ w.fld F.SEQ_CTL_RESTART = 1 ∧ let d : Dev := (s.dev.put F.SEQ_CTL_BUDGET w).put F.SEQ_CTL_QUAR_N w; d.seqBusy = true) ∧
   (s.dev.reach w.agent = true ∧ (w.agent == Agent.docent && mpuWrite 1441904) = false ∧ s.dev.denied w.agent = false ∧ s.dev.on (domainOf 1441904) = true ∧ w.agent = Agent.curator ∧ let a : Nat := s.dev.f F.SEQ_PATCH_ADDR_WORD; s.dev.seqGuards a = false)) ∧
  (let w : RegWr := wr .curator [(F.SEQ_CTL_RESTART, 1), (F.SEQ_CTL_BUDGET, 100), (F.SEQ_CTL_QUAR_N, 4)]
   let s : Machine.State := S { (awake.set F.SEQ_STAT_STATE 3) with seq := { awake.seq with stack := [seqRoot] } }
   s.dev.reach w.agent = true ∧ (w.agent == Agent.docent && mpuWrite 1441800) = false ∧ s.dev.denied w.agent = false ∧
   s.dev.on (domainOf 1441800) = true ∧ w.agent = Agent.curator ∧ w.fld F.SEQ_CTL_RESTART = 1 ∧
   let d : Dev := (s.dev.put F.SEQ_CTL_BUDGET w).put F.SEQ_CTL_QUAR_N w
   d.seqBusy = false) ∧
  (let w : RegWr := wr .curator [(F.SEQ_PATCH_DATA_DATA, 7)]
   let s : Machine.State := S (((awake.setI F.SEQ_MATCH_EN 0 1).setI F.SEQ_MATCH_PADDR 0 511).set F.SEQ_PATCH_ADDR_WORD 511)
   s.dev.reach w.agent = true ∧ (w.agent == Agent.docent && mpuWrite 1441904) = false ∧ s.dev.denied w.agent = false ∧
   s.dev.on (domainOf 1441904) = true ∧ w.agent = Agent.curator ∧
   let a : Nat := s.dev.f F.SEQ_PATCH_ADDR_WORD
   s.dev.seqGuards a = true) ∧
  (let m : Nat := 31
   let w : RegWr := wr .curator [(F.SEQ_MATCH_EN, 1), (F.SEQ_MATCH_ADDR, 9)]
   let s : Machine.State := S awake
   m < 32 ∧ s.dev.reach w.agent = true ∧ (w.agent == Agent.docent && mpuWrite (1442048 + 8 * m)) = false ∧
   s.dev.denied w.agent = false ∧ s.dev.on (domainOf (1442048 + 8 * m)) = true ∧ w.agent = Agent.curator ∧
   s.dev.staging Agent.curator = false ∧ s.dev.applying (1442048 + 8 * m) &&& w.bitMask = 0 ∧ w.fld F.SEQ_MATCH_EN = 1) ∧
  (let m : Nat := 31
   let w : RegWr := wr .curator [(F.SEQ_MATCH_EN, 0), (F.SEQ_MATCH_FAULTED, 1)]
   let s : Machine.State := S awake
   m < 32 ∧ s.dev.reach w.agent = true ∧ (w.agent == Agent.docent && mpuWrite (1442048 + 8 * m)) = false ∧
   s.dev.denied w.agent = false ∧ s.dev.on (domainOf (1442048 + 8 * m)) = true ∧ w.agent = Agent.curator ∧
   s.dev.staging Agent.curator = false ∧ s.dev.applying (1442048 + 8 * m) &&& w.bitMask = 0 ∧ w.fld F.SEQ_MATCH_EN ≠ 1) :=
  ⟨by decide +kernel,
   by decide +kernel,
   by decide +kernel,
   by decide +kernel,
   by decide +kernel,
   by decide +kernel,
   by decide +kernel,
   by decide +kernel,
   by decide +kernel,
   by decide +kernel,
   by decide +kernel,
   by decide +kernel⟩

theorem witness_ObservationCommands :
  (let w : RegWr := wr .docent [(F.OBS_SNAP_CMD_GROUP, 0), (F.OBS_SNAP_CMD_CLEAR, 1), (F.OBS_SNAP_CMD_GO, 1)]
   let s : Machine.State := S (awake.set F.TDS_CNT_MSG_UNKNOWN 5)
   let rs : List Nat := (snapGroup 0).getD []
   (s.dev.reach w.agent = true ∧ (w.agent == Agent.docent && mpuWrite 2032640) = false ∧ s.dev.denied w.agent = false ∧ s.dev.on (domainOf 2032640) = true ∧ w.fld F.OBS_SNAP_CMD_GO = 1 ∧ let g : Nat := w.fld F.OBS_SNAP_CMD_GROUP; let bars : Dev → Bool := fun d => match w.agent with | Agent.host f unpriv => !bit (d.f F.OBS_CTL_UACC) ↑f | x => false; bars s.dev = false ∧ snapGroup g = some rs) ∧
   (s.dev.reach w.agent = true ∧ (w.agent == Agent.docent && mpuWrite 2032128) = false ∧ s.dev.denied w.agent = false ∧ s.dev.on (domainOf 2032128) = true ∧ s.dev.f F.OBS_TRC_CFG_EN = 0 ∧ let en : Nat := w.merged F.OBS_TRC_CFG_EN (s.dev.f F.OBS_TRC_CFG_EN); en = 0) ∧
   ((s.dev.reach w.agent = true ∧ (w.agent == Agent.docent && mpuWrite 2032168) = false ∧ s.dev.denied w.agent = false ∧ s.dev.on (domainOf 2032168) = true) ∧ (s.dev.reach w.agent = true ∧ (w.agent == Agent.docent && mpuWrite 2032152) = false ∧ s.dev.denied w.agent = false ∧ s.dev.on (domainOf 2032152) = true ∧ let c : Nat := w.merged F.OBS_TRC_CI_IDX (s.dev.f F.OBS_TRC_CI_IDX); let pi : Nat := s.dev.f F.OBS_TRC_PI_IDX; let ahead : Nat := (pi + 2 ^ 18 - c) % 2 ^ 18; ¬(ahead ≤ 2 ^ s.dev.f F.OBS_TRC_CFG_LOG2SIZE ∧ ahead ≤ (pi + 2 ^ 18 - s.dev.f F.OBS_TRC_CI_IDX) % 2 ^ 18)) ∧ (s.dev.reach w.agent = true ∧ (w.agent == Agent.docent && mpuWrite 2032384) = false ∧ s.dev.denied w.agent = false ∧ s.dev.on (domainOf 2032384) = true))) ∧
  (let w : RegWr := wr h0 [(F.OBS_SNAP_CMD_GROUP, 0), (F.OBS_SNAP_CMD_GO, 1)]
   let s : Machine.State := S awake
   s.dev.reach w.agent = true ∧ (w.agent == Agent.docent && mpuWrite 2032640) = false ∧ s.dev.denied w.agent = false ∧
   s.dev.on (domainOf 2032640) = true ∧ w.fld F.OBS_SNAP_CMD_GO = 1 ∧
   let g : Nat := w.fld F.OBS_SNAP_CMD_GROUP
   let bars : Dev → Bool := fun d => match w.agent with | Agent.host f unpriv => !bit (d.f F.OBS_CTL_UACC) ↑f | x => false
   (bars s.dev = true ∨ snapGroup g = none)) ∧
  (let k : Nat := 7
   let w : RegWr := host 0xFFFFFFFFFFFFFFFF
   let s : Machine.State := S awake
   (k < 8 ∧ (s.dev.reach w.agent = true ∧ (w.agent == Agent.docent && mpuWrite 2031632) = false ∧ s.dev.denied w.agent = false ∧ s.dev.on (domainOf 2031632) = true) ∧ (s.dev.reach w.agent = true ∧ (w.agent == Agent.docent && mpuWrite (2031872 + 32 * k)) = false ∧ s.dev.denied w.agent = false ∧ s.dev.on (domainOf (2031872 + 32 * k)) = true) ∧ (s.dev.reach w.agent = true ∧ (w.agent == Agent.docent && mpuWrite (2031896 + 32 * k)) = false ∧ s.dev.denied w.agent = false ∧ s.dev.on (domainOf (2031896 + 32 * k)) = true)) ∧
   (s.dev.reach w.agent = true ∧ (w.agent == Agent.docent && mpuWrite 2032128) = false ∧ s.dev.denied w.agent = false ∧ s.dev.on (domainOf 2032128) = true ∧ s.dev.f F.OBS_TRC_CFG_EN = 0 ∧ let sz : Nat := w.merged F.OBS_TRC_CFG_LOG2SIZE (s.dev.f F.OBS_TRC_CFG_LOG2SIZE); let en : Nat := w.merged F.OBS_TRC_CFG_EN (s.dev.f F.OBS_TRC_CFG_EN); en = 1 ∧ (sz < 6 ∨ 16 < sz))) ∧
  (let k : Nat := 7
   let s : Machine.State := S ((awake.set F.OBS_PMC_RUN_RUN 128).setI F.OBS_PMC_CFG_EVENT 7 23)
   k < 8 ∧ bit (s.dev.f F.OBS_PMC_RUN_RUN) k = true ∧ s.dev.f F.OBS_PMC_CFG_EVENT k < 24) ∧
  (let n : Nat := 3
   let t : Trace := { num := 3, path := 1, inport := 0, acc := 2, len := 64, ctx := 0, vacct := none, tsIn := 0, start := 0 }
   let s : Machine.State := S { (awake.set F.OBS_CYCLE_CYCLE (2 ^ 30)) with obs := { awake.obs with traces := [{ num := 3, path := 1, inport := 0, acc := 2, len := 64, ctx := 0, vacct := none, tsIn := 0, start := 0 }] } }
   List.find? (fun t => t.num == n) s.dev.obs.traces = some t ∧ t.start + 2 ^ 30 ≤ s.dev.cycle) ∧
  (let t : Trace := { num := 3, path := 1, inport := 0, acc := 2, len := 64, ctx := 0, vacct := none, tsIn := 0, start := 0 }
   let rest : List Trace := []
   let s : Machine.State := S { (awake.set F.OBS_TRC_CFG_EN 1) with obs := { awake.obs with closed := [{ num := 3, path := 1, inport := 0, acc := 2, len := 64, ctx := 0, vacct := none, tsIn := 0, start := 0 }] } }
   s.dev.obs.closed = t :: rest ∧ s.dev.obs.writing = false ∧ s.dev.on 29 = true ∧ s.dev.on 31 = true ∧
   s.dev.f F.OBS_TRC_CFG_EN ≠ 0 ∧ s.dev.f F.OBS_TRC_STAT_FAULT = 0 ∧ s.dev.trcFull = false) ∧
  (let seq : Nat := 0; let c : Rsp := .done
   let r : FabReq := req0 (.traceRecord 0)
   let s : Machine.State := S (ask { (awake.set F.OBS_TRC_CFG_EN 1) with obs := { awake.obs with closed := [{ num := 3, path := 1, inport := 0, acc := 2, len := 64, ctx := 0, vacct := none, tsIn := 0, start := 0 }], writing := true } } (.traceRecord 0))
   s.dev.outstanding (FabKind.traceRecord seq) = some r ∧
   let d : Dev := s.dev.answered (FabKind.traceRecord seq) r c
   d.obs.stale = 0 ∧ d.obs.writing = true ∧ c = Rsp.done) ∧
  (let seq : Nat := 0; let c : Rsp := .deny
   let r : FabReq := req0 (.traceRecord 0)
   let s : Machine.State := S (ask { (awake.set F.OBS_TRC_CFG_EN 1) with obs := { awake.obs with closed := [{ num := 3, path := 1, inport := 0, acc := 2, len := 64, ctx := 0, vacct := none, tsIn := 0, start := 0 }], writing := true } } (.traceRecord 0))
   s.dev.outstanding (FabKind.traceRecord seq) = some r ∧
   let d : Dev := s.dev.answered (FabKind.traceRecord seq) r c
   d.obs.stale = 0 ∧ d.obs.writing = true ∧ c ≠ Rsp.done) ∧
  (let w : RegWr := wr h0 [(F.OBS_TRC_CFG_EN, 1), (F.OBS_TRC_CFG_LOG2SIZE, 16)]
   let s : Machine.State := S awake
   s.dev.reach w.agent = true ∧ (w.agent == Agent.docent && mpuWrite 2032128) = false ∧ s.dev.denied w.agent = false ∧
   s.dev.on (domainOf 2032128) = true ∧ s.dev.f F.OBS_TRC_CFG_EN = 0 ∧
   let sz : Nat := w.merged F.OBS_TRC_CFG_LOG2SIZE (s.dev.f F.OBS_TRC_CFG_LOG2SIZE)
   let en : Nat := w.merged F.OBS_TRC_CFG_EN (s.dev.f F.OBS_TRC_CFG_EN)
   en = 1 ∧ 6 ≤ sz ∧ sz ≤ 16) ∧
  (let w : RegWr := wr h0 [(F.OBS_TRC_CI_IDX, 1)]
   let s : Machine.State := S (awake.set F.OBS_TRC_PI_IDX 1)
   s.dev.reach w.agent = true ∧ (w.agent == Agent.docent && mpuWrite 2032152) = false ∧ s.dev.denied w.agent = false ∧
   s.dev.on (domainOf 2032152) = true ∧
   let c : Nat := w.merged F.OBS_TRC_CI_IDX (s.dev.f F.OBS_TRC_CI_IDX)
   let pi : Nat := s.dev.f F.OBS_TRC_PI_IDX
   let ahead : Nat := (pi + 2 ^ 18 - c) % 2 ^ 18
   ahead ≤ 2 ^ s.dev.f F.OBS_TRC_CFG_LOG2SIZE ∧ ahead ≤ (pi + 2 ^ 18 - s.dev.f F.OBS_TRC_CI_IDX) % 2 ^ 18) :=
  ⟨by decide +kernel,
   by decide +kernel,
   by decide +kernel,
   by decide +kernel,
   by decide +kernel,
   by decide +kernel,
   by decide +kernel,
   by decide +kernel,
   by decide +kernel,
   by decide +kernel⟩

theorem witness_MailboxCommands_1 :
  (let n : Nat := 2
   let w : RegWr := wr h0 [(F.MBX_DB_SEQ, 2)]
   let s : Machine.State := S awake
   (n = 0 ∨ n = 2) ∧ s.dev.reach w.agent = true ∧ (w.agent == Agent.docent && mpuWrite (1540096 + 8 * n)) = false ∧
   s.dev.denied w.agent = false ∧ s.dev.on (domainOf (1540096 + 8 * n)) = true ∧
   let q : Nat := w.fld F.MBX_DB_SEQ
   let next : Nat := (s.dev.f F.MBX_STAT_LAST_SEQ n + 1) % 65536
   q ≠ next) ∧
  (let n : Nat := 2
   let w : RegWr := wr h0 [(F.MBX_DB_SEQ, 0)]
   let s : Machine.State := S ((awake.setI F.MBX_STAT_LAST_SEQ 2 65535).setI F.MBX_STAT_OWNER 2 1)
   (n = 0 ∨ n = 2) ∧ s.dev.reach w.agent = true ∧ (w.agent == Agent.docent && mpuWrite (1540096 + 8 * n)) = false ∧
   s.dev.denied w.agent = false ∧ s.dev.on (domainOf (1540096 + 8 * n)) = true ∧
   let q : Nat := w.fld F.MBX_DB_SEQ
   let next : Nat := (s.dev.f F.MBX_STAT_LAST_SEQ n + 1) % 65536
   q = next ∧ s.dev.f F.MBX_STAT_OWNER n ≠ 0) ∧
  (let n : Nat := 0
   let w : RegWr := wr h0 [(F.MBX_DB_SEQ, 1)]
   let s : Machine.State := S (awake.set F.MBX_ACL_MB0_FN 2)
   (n = 0 ∨ n = 2) ∧ s.dev.reach w.agent = true ∧ (w.agent == Agent.docent && mpuWrite (1540096 + 8 * n)) = false ∧
   s.dev.denied w.agent = false ∧ s.dev.on (domainOf (1540096 + 8 * n)) = true ∧
   let q : Nat := w.fld F.MBX_DB_SEQ
   let next : Nat := (s.dev.f F.MBX_STAT_LAST_SEQ n + 1) % 65536
   q = next ∧ s.dev.f F.MBX_STAT_OWNER n = 0 ∧ s.dev.mbPermits n w.agent = false) ∧
  (let n : Nat := 2
   let w : RegWr := wr h0 [(F.MBX_DB_SEQ, 1)]
   let s : Machine.State := S (awake.set F.MBX_ACL_CTRL_FN 0)
   (n = 0 ∨ n = 2) ∧ s.dev.reach w.agent = true ∧ (w.agent == Agent.docent && mpuWrite (1540096 + 8 * n)) = false ∧
   s.dev.denied w.agent = false ∧ s.dev.on (domainOf (1540096 + 8 * n)) = true ∧
   let q : Nat := w.fld F.MBX_DB_SEQ
   let next : Nat := (s.dev.f F.MBX_STAT_LAST_SEQ n + 1) % 65536
   q = next ∧ s.dev.f F.MBX_STAT_OWNER n = 0 ∧ s.dev.mbPermits n w.agent = true) ∧
  (let w : RegWr := wr h0 [(F.MBX_DB_SEQ, 5), (F.MBX_DB_ACK, 1)]
   let s : Machine.State := S (((awake.setI F.MBX_STAT_RESP_SEQ 1 5).setI F.MBX_STAT_OWNER 1 1).set F.MBX_ACL_MB0_FN 1)
   s.dev.reach w.agent = true ∧ (w.agent == Agent.docent && mpuWrite 1540104) = false ∧ s.dev.denied w.agent = false ∧
   s.dev.on (domainOf 1540104) = true ∧ w.fld F.MBX_DB_ACK = 1 ∧ s.dev.f F.MBX_STAT_OWNER 1 ≠ 0 ∧
   s.dev.mbPermits 1 w.agent = true ∧ w.fld F.MBX_DB_SEQ = s.dev.f F.MBX_STAT_RESP_SEQ 1) ∧
  (let w : RegWr := wr h0 [(F.MBX_DB_SEQ, 6), (F.MBX_DB_ACK, 1)]
   let s : Machine.State := S (((awake.setI F.MBX_STAT_RESP_SEQ 1 5).setI F.MBX_STAT_OWNER 1 1).set F.MBX_ACL_MB0_FN 1)
   s.dev.reach w.agent = true ∧ (w.agent == Agent.docent && mpuWrite 1540104) = false ∧ s.dev.denied w.agent = false ∧
   s.dev.on (domainOf 1540104) = true ∧ w.fld F.MBX_DB_ACK = 1 ∧ s.dev.f F.MBX_STAT_OWNER 1 ≠ 0 ∧
   s.dev.mbPermits 1 w.agent = true ∧ w.fld F.MBX_DB_SEQ ≠ s.dev.f F.MBX_STAT_RESP_SEQ 1) ∧
  (let text : Option (List Byte) := some [65, 66]; let ty : Nat := 134
   let body : List Word := [0x4241]
   let t : List (Nat × List Word) := []
   let s : Machine.State := S (awake.set F.MBX_FW_STAT_DSTATE 2)
   let d : Dev := (match text with | some l => s.dev.notice 134 (List.map (BitVec.ofNat 64) (mbPack (List.take 4088 l))) | none => s.dev)
   s.dev.docentRuns = true ∧ d.f F.MBX_STAT_OWNER 1 = 0 ∧ d.docentRuns = true ∧ d.on 1 = true ∧
   d.fw.notices = (ty, body) :: t) ∧
  (let n : Nat := 0; let ty : Nat := 9; let len : Nat := 0
   let s : Machine.State := S (mb awake 0 9 [])
   mbHyp s n ty len ∧ (n = 0 ∨ n = 2) ∧ mbKnown n ty = false) ∧
  (let n : Nat := 2; let ty : Nat := 65; let len : Nat := 0
   let s : Machine.State := S (mb awake 2 65 [])
   mbHyp s n ty len ∧ n = 2 ∧ ty = 65 ∧ len = 0) ∧
  (let n : Nat := 2; let ty : Nat := 66; let len : Nat := 16
   let s : Machine.State := S ((mb awake 2 66 [64, 128]).set F.MBX_BOOT_STAGE 4)
   mbHyp s n ty len ∧ n = 2 ∧ ty = 66 ∧ len = 16 ∧ s.dev.f F.MBX_BOOT_STAGE = 4 ∧ s.dev.fw.patched = false ∧
   s.dev.fw.loaded = false) ∧
  (let n : Nat := 2; let ty : Nat := 66; let len : Nat := 16
   let s : Machine.State := S (mb awake 2 66 [64, 128])
   mbHyp s n ty len ∧ n = 2 ∧ ty = 66 ∧ len = 16 ∧
   (s.dev.f F.MBX_BOOT_STAGE ≠ 4 ∨ s.dev.fw.patched = true ∨ s.dev.fw.loaded = true)) ∧
  (let n : Nat := 2; let ty : Nat := 67; let len : Nat := 24
   let s : Machine.State := S (mb awake 2 67 [64, 128, 9])
   mbHyp s n ty len ∧
   let a : Nat → Nat := fun k => s.dev.f F.MBX_AREA_DATA n k
   n = 2 ∧ ty = 67 ∧ len = 24 ∧
   let ms : Nat := (if bits (a 3) 0 10 = 0 then 100 else bits (a 3) 0 10)
   (ms < 10 ∨ 1000 < ms)) ∧
  (let n : Nat := 2; let ty : Nat := 67; let len : Nat := 24
   let s : Machine.State := S (mb awake 2 67 [64, 128, 2024])
   mbHyp s n ty len ∧
   let a : Nat → Nat := fun k => s.dev.f F.MBX_AREA_DATA n k
   n = 2 ∧ ty = 67 ∧ len = 24 ∧
   let ms : Nat := (if bits (a 3) 0 10 = 0 then 100 else bits (a 3) 0 10)
   let auto : Bool := bit (a 3) 10
   10 ≤ ms ∧ ms ≤ 1000 ∧
   let d : Dev := (s.dev.set F.MBX_WDOG_WD_MS ms).set F.MBX_FW_STAT_AUTO_LEFT (if auto = true then 3 else 0)
   let d' : Dev := { d with fw := { d.fw with docAddr := a 1, docLen := a 2, auto := auto, restartDue := false } }
   (d'.f F.MBX_FW_STAT_DSTATE = 2 ∨ d'.f F.MBX_FW_STAT_DSTATE = 3)) ∧
  (let n : Nat := 2; let ty : Nat := 67; let len : Nat := 24
   let s : Machine.State := S ((mb awake 2 67 [64, 128, 0]).set F.MBX_FW_STAT_DSTATE 1)
   mbHyp s n ty len ∧
   let a : Nat → Nat := fun k => s.dev.f F.MBX_AREA_DATA n k
   n = 2 ∧ ty = 67 ∧ len = 24 ∧
   let ms : Nat := (if bits (a 3) 0 10 = 0 then 100 else bits (a 3) 0 10)
   let auto : Bool := bit (a 3) 10
   10 ≤ ms ∧ ms ≤ 1000 ∧
   let d : Dev := (s.dev.set F.MBX_WDOG_WD_MS ms).set F.MBX_FW_STAT_AUTO_LEFT (if auto = true then 3 else 0)
   let d' : Dev := { d with fw := { d.fw with docAddr := a 1, docLen := a 2, auto := auto, restartDue := false } }
   d'.f F.MBX_FW_STAT_DSTATE ≠ 2 ∧ d'.f F.MBX_FW_STAT_DSTATE ≠ 3) :=
  ⟨by decide +kernel,
   by decide +kernel,
   by decide +kernel,
   by decide +kernel,
   by decide +kernel,
   by decide +kernel,
   by decide +kernel,
   by decide +kernel,
   by decide +kernel,
   by decide +kernel,
   by decide +kernel,
   by decide +kernel,
   by decide +kernel,
   by decide +kernel⟩

theorem witness_MailboxCommands_2 :
  (let n : Nat := 2; let ty : Nat := 68; let len : Nat := 0
   let s : Machine.State := S (mb awake 2 68 [])
   mbHyp s n ty len ∧ n = 2 ∧ ty = 68 ∧ len = 0 ∧ s.dev.docentRuns = true) ∧
  (let n : Nat := 2; let ty : Nat := 68; let len : Nat := 0
   let s : Machine.State := S ((mb awake 2 68 []).set F.MBX_FW_STAT_DSTATE 4)
   mbHyp s n ty len ∧ n = 2 ∧ ty = 68 ∧ len = 0 ∧ s.dev.docentRuns = false) ∧
  (let n : Nat := 2; let ty : Nat := 69; let len : Nat := 24
   let s : Machine.State := S (mb awake 2 69 [64, 128, 2251799813685247])
   mbHyp s n ty len ∧ n = 2 ∧ ty = 69 ∧ len = 24) ∧
  (let n : Nat := 2; let ty : Nat := 70; let len : Nat := 8
   let s : Machine.State := S (mb ({ awake with fw := { awake.fw with runs := [⟨2, 1, 5⟩], floors := [(9, (2, 0))] } }) 2 70 [327937])
   mbHyp s n ty len ∧
   let a : Nat → Nat := fun k => s.dev.f F.MBX_AREA_DATA n k
   n = 2 ∧ ty = 70 ∧ len = 8 ∧
   let type : Nat := bits (a 1) 0 8
   let keyid : Nat := bits (a 1) 8 2
   List.find? (fun r => r.type == type && r.keyid == keyid && s.dev.imgInUse type) s.dev.fw.runs = none) ∧
  (let n : Nat := 2; let ty : Nat := 70; let len : Nat := 8
   let s : Machine.State := S (mb ({ awake with fw := { awake.fw with runs := [⟨2, 1, 5⟩], floors := [(9, (2, 0))] } }) 2 70 [327938])
   let r : ImgRun := ⟨2, 1, 5⟩
   mbHyp s n ty len ∧
   let a : Nat → Nat := fun k => s.dev.f F.MBX_AREA_DATA n k
   n = 2 ∧ ty = 70 ∧ len = 8 ∧
   let type : Nat := bits (a 1) 0 8
   let keyid : Nat := bits (a 1) 8 2
   let new : Nat := bits (a 1) 16 16
   let f : Nat × Nat := s.dev.floorOf type keyid
   List.find? (fun r => r.type == type && r.keyid == keyid && s.dev.imgInUse type) s.dev.fw.runs = some r ∧
   f.1 < new ∧ new ≤ r.svn ∧ f.2 < 255) ∧
  (let n : Nat := 2; let ty : Nat := 70; let len : Nat := 8
   let s : Machine.State := S (mb ({ awake with fw := { awake.fw with runs := [⟨2, 1, 5⟩], floors := [(9, (2, 0))] } }) 2 70 [393474])
   let r : ImgRun := ⟨2, 1, 5⟩
   mbHyp s n ty len ∧
   let a : Nat → Nat := fun k => s.dev.f F.MBX_AREA_DATA n k
   n = 2 ∧ ty = 70 ∧ len = 8 ∧
   let type : Nat := bits (a 1) 0 8
   let keyid : Nat := bits (a 1) 8 2
   let new : Nat := bits (a 1) 16 16
   let f : Nat × Nat := s.dev.floorOf type keyid
   List.find? (fun r => r.type == type && r.keyid == keyid && s.dev.imgInUse type) s.dev.fw.runs = some r ∧
   (new ≤ f.1 ∨ r.svn < new)) ∧
  (let n : Nat := 2; let ty : Nat := 72; let len : Nat := 8
   let s : Machine.State := S (mb awake 2 72 [63])
   mbHyp s n ty len ∧
   let a : Nat → Nat := fun k => s.dev.f F.MBX_AREA_DATA n k
   n = 2 ∧ ty = 72 ∧ len = 8 ∧ a 1 < 64) ∧
  (let n : Nat := 2; let ty : Nat := 72; let len : Nat := 8
   let s : Machine.State := S (mb awake 2 72 [64])
   mbHyp s n ty len ∧
   let a : Nat → Nat := fun k => s.dev.f F.MBX_AREA_DATA n k
   n = 2 ∧ ty = 72 ∧ len = 8 ∧ 64 ≤ a 1) ∧
  (let n : Nat := 2; let ty : Nat := 73; let len : Nat := 8
   let s : Machine.State := S (mb awake 2 73 [3])
   mbHyp s n ty len ∧ n = 2 ∧ ty = 73 ∧ len = 8) ∧
  (let n : Nat := 0; let ty : Nat := 1; let len : Nat := 0
   let s : Machine.State := S (mb awake 0 1 [])
   mbHyp s n ty len ∧ n = 0 ∧ ty = 1 ∧ len = 0) ∧
  (let n : Nat := 0; let ty : Nat := 2; let len : Nat := 40
   let s : Machine.State := S (mb (awake.set F.MBX_ACL_CTRL_FN 1) 0 2 [17409, 64, 128, 192, 256])
   mbHyp s n ty len ∧
   let a : Nat → Nat := fun k => s.dev.f F.MBX_AREA_DATA n k
   n = 0 ∧ ty = 2 ∧ len = 40 ∧
   let f : Nat := a 1 % 4
   ¬(bits (a 0) 44 2 = f ∨ bits (a 0) 44 2 = s.dev.f F.MBX_ACL_CTRL_FN)) ∧
  (let n : Nat := 0; let ty : Nat := 2; let len : Nat := 40
   let s : Machine.State := S (mb (awake.setI F.HRG_FUNC_STAT_ADMIN_READY 0 1) 0 2 [50176, 64, 128, 192, 256])
   mbHyp s n ty len ∧
   let a : Nat → Nat := fun k => s.dev.f F.MBX_AREA_DATA n k
   n = 0 ∧ ty = 2 ∧ len = 40 ∧
   let f : Nat := a 1 % 4
   ((bits (a 0) 44 2 = f ∨ bits (a 0) 44 2 = s.dev.f F.MBX_ACL_CTRL_FN) ∧ ¬(s.dev.f F.HRG_FUNC_STAT_ADMIN_READY f = 0 ∧ s.dev.resetting f = false)) ∧
   ((bits (a 0) 44 2 = f ∨ bits (a 0) 44 2 = s.dev.f F.MBX_ACL_CTRL_FN) ∧ s.dev.f F.ID_INTEG_FAB_WIRED = 0)) ∧
  (let n : Nat := 0; let ty : Nat := 2; let len : Nat := 40
   let s : Machine.State := S (mb (awake.set F.ID_INTEG_FAB_WIRED 1) 0 2 [17152, 64, 128, 192, 256])
   mbHyp s n ty len ∧
   let a : Nat → Nat := fun k => s.dev.f F.MBX_AREA_DATA n k
   n = 0 ∧ ty = 2 ∧ len = 40 ∧
   let f : Nat := a 1 % 4
   (bits (a 0) 44 2 = f ∨ bits (a 0) 44 2 = s.dev.f F.MBX_ACL_CTRL_FN) ∧ s.dev.f F.HRG_FUNC_STAT_ADMIN_READY f = 0 ∧
   s.dev.resetting f = false ∧ s.dev.f F.ID_INTEG_FAB_WIRED ≠ 0 ∧
   ¬((4 ≤ bits (a 1) 8 4 ∧ bits (a 1) 8 4 ≤ 12 ∧ 4 ≤ bits (a 1) 12 4 ∧ bits (a 1) 12 4 ≤ 12) ∧ ∀ (k : Nat), 2 ≤ k → k ≤ 5 → a k % 64 = 0 ∧ a k < 2 ^ 48)) ∧
  (let n : Nat := 0; let ty : Nat := 2; let len : Nat := 40
   let s : Machine.State := S (mb (awake.set F.ID_INTEG_FAB_WIRED 1) 0 2 [50176, 64, 128, 192, 256])
   mbHyp s n ty len ∧
   let a : Nat → Nat := fun k => s.dev.f F.MBX_AREA_DATA n k
   n = 0 ∧ ty = 2 ∧ len = 40 ∧
   let f : Nat := a 1 % 4
   (bits (a 0) 44 2 = f ∨ bits (a 0) 44 2 = s.dev.f F.MBX_ACL_CTRL_FN) ∧ s.dev.f F.HRG_FUNC_STAT_ADMIN_READY f = 0 ∧
   s.dev.resetting f = false ∧ s.dev.f F.ID_INTEG_FAB_WIRED ≠ 0 ∧ 4 ≤ bits (a 1) 8 4 ∧ bits (a 1) 8 4 ≤ 12 ∧
   4 ≤ bits (a 1) 12 4 ∧ bits (a 1) 12 4 ≤ 12 ∧ (∀ (k : Nat), 2 ≤ k → k ≤ 5 → a k % 64 = 0 ∧ a k < 2 ^ 48)) :=
  ⟨by decide +kernel,
   by decide +kernel,
   by decide +kernel,
   by decide +kernel,
   by decide +kernel,
   by decide +kernel,
   by decide +kernel,
   by decide +kernel,
   by decide +kernel,
   by decide +kernel,
   by decide +kernel,
   by decide +kernel,
   by decide +kernel,
   by decide +kernel⟩

theorem witness_MailboxCommands_3 :
  (let n : Nat := 0; let ty : Nat := 3; let len : Nat := 8
   let s : Machine.State := S (mb ({ rings with hrg := { rings.hrg with admin := [(0, { admPair with tail := 0 })] } }) 0 3 [0])
   let v : Word := 0
   let p : AdminPair := { admPair with tail := 0 }
   mbHyp s n ty len ∧
   let a : Nat → Nat := fun k => s.dev.f F.MBX_AREA_DATA n k
   n = 0 ∧ ty = 3 ∧ len = 8 ∧
   let f : Nat := a 1 % 4
   (bits (a 0) 44 2 = f ∨ bits (a 0) 44 2 = s.dev.f F.MBX_ACL_CTRL_FN) ∧
   let d : Dev := s.dev.adminHost f v
   SMap.look f d.hrg.admin = some p ∧ p.head = p.tail ∧ p.busy = false ∧ p.hold = none ∧ p.pi = p.hostIdx) ∧
  (let n : Nat := 0; let ty : Nat := 3; let len : Nat := 8
   let s : Machine.State := S (mb ({ rings with hrg := { rings.hrg with admin := [(0, { admPair with tail := 1 })] } }) 0 3 [0])
   let v : Word := 0
   let p : AdminPair := { admPair with tail := 1 }
   mbHyp s n ty len ∧
   let a : Nat → Nat := fun k => s.dev.f F.MBX_AREA_DATA n k
   n = 0 ∧ ty = 3 ∧ len = 8 ∧
   let f : Nat := a 1 % 4
   (bits (a 0) 44 2 = f ∨ bits (a 0) 44 2 = s.dev.f F.MBX_ACL_CTRL_FN) ∧
   let d : Dev := s.dev.adminHost f v
   SMap.look f d.hrg.admin = some p ∧ (p.head ≠ p.tail ∨ p.busy = true ∨ p.hold ≠ none ∨ p.pi ≠ p.hostIdx)) ∧
  (let n : Nat := 0; let ty : Nat := 4; let len : Nat := 8
   let s : Machine.State := S (mb awake 0 4 [65535])
   mbHyp s n ty len ∧ n = 0 ∧ ty = 4 ∧ len = 8) ∧
  (let n : Nat := 0; let ty : Nat := 5; let len : Nat := 8
   let s : Machine.State := S (mb awake 0 5 [7])
   mbHyp s n ty len ∧ n = 0 ∧ ty = 5 ∧ len = 8) ∧
  (let n : Nat := 0; let ty : Nat := 7; let len : Nat := 0
   let s : Machine.State := S (mb (awake.setI F.TUS_ALLOC_VALID 3 1) 0 7 [])
   mbHyp s n ty len ∧ n = 0 ∧ ty = 7 ∧ len = 0) :=
  ⟨by decide +kernel,
   by decide +kernel,
   by decide +kernel,
   by decide +kernel,
   by decide +kernel⟩

theorem witness_FirmwareLife_1 :
  (let s : Machine.State := S (awake.set F.MBX_BOOT_STAGE 0)
   s.dev.f F.MBX_BOOT_STAGE = 0 ∧ s.dev.on 1 = true ∧
   let d : Dev := (s.dev.set F.MBX_BOOT_STAGE 1).raise 1444
   (((d.set F.MBX_BOOT_STAGE 7).raise 1444).f F.MBX_STAT_OWNER 2 = 0)) ∧
  (let c : Rsp := .fault
   let r : FabReq := req0 .image
   let l : ImgLoad := { type := 1, addr := 64, len := 64, auto := false }
   let s : Machine.State := S (ask { awake with fw := { awake.fw with load := some { type := 1, addr := 64, len := 64, auto := false } } } .image)
   s.dev.outstanding FabKind.image = some r ∧
   let d : Dev := s.dev.answered FabKind.image r c
   d.fw.load = some l ∧ c ≠ Rsp.done) ∧
  (let c : Rsp := .done
   let r : FabReq := req0 .image
   let l : ImgLoad := { type := 1, addr := 64, len := 64, auto := false }
   let s : Machine.State := S (ask { awake with fw := { awake.fw with load := some { type := 1, addr := 64, len := 64, auto := false } } } .image)
   s.dev.outstanding FabKind.image = some r ∧
   let d : Dev := s.dev.answered FabKind.image r c
   d.fw.load = some l ∧ c = Rsp.done) ∧
  (let l : ImgLoad := { type := 1, addr := 64, len := 64, auto := false }
   (l.type ≠ 2 ∧ l.auto = false)) ∧
  (let l : ImgLoad := { type := 2, addr := 64, len := 64, auto := false }
   l.type = 2 ∧ l.auto = false) ∧
  (let s : Machine.State := S { (awake.set F.MBX_FW_STAT_DSTATE 1) with fw := { awake.fw with accepted := true } }
   s.dev.fw.accepted = true ∧ s.dev.f F.MBX_FW_STAT_DSTATE = 1 ∧ s.dev.fw.load = none ∧ s.dev.on 1 = true) ∧
  (let cause : Nat := 2
   let s : Machine.State := S (awake.set F.MBX_FW_STAT_DSTATE 2)
   (cause = 2 ∧ Instr.mpuViolation = Instr.mpuViolation ∨ cause = 1 ∧ Instr.mpuViolation = Instr.watchdogExpiry ∧ s.dev.fw.kickTick + 8 * s.dev.f F.MBX_WDOG_WD_MS ≤ s.dev.clk.ticks ∨ cause = 4 ∧ Instr.mpuViolation = Instr.docentErrorReport [])) ∧
  (let s : Machine.State := S (awake.set F.MBX_FW_STAT_DSTATE 3)
   s.dev.f F.MBX_FW_STAT_DSTATE = 3 ∧ (s.dev.docentHalted 3).loadWaits = none) ∧
  (let s : Machine.State := S { (awake.set F.MBX_FW_STAT_DSTATE 3) with fw := { awake.fw with load := some { type := 2, addr := 64, len := 64, auto := false } } }
   let l : ImgLoad := { type := 2, addr := 64, len := 64, auto := false }
   s.dev.f F.MBX_FW_STAT_DSTATE = 3 ∧ (s.dev.docentHalted 3).loadWaits = some l) ∧
  (let s : Machine.State := S { (awake.set F.MBX_FW_STAT_AUTO_LEFT 1) with fw := { awake.fw with restartDue := true } }
   s.dev.fw.restartDue = true ∧ s.dev.f F.MBX_FW_STAT_AUTO_LEFT ≠ 0 ∧ s.dev.fw.load = none) ∧
  (let s : Machine.State := S ((mb awake 2 0x41 []).set F.MBX_BOOT_STAGE 0)
   s.dev.f F.MBX_BOOT_STAGE = 0 ∧ s.dev.on 1 = true ∧
   let d : Dev := (s.dev.set F.MBX_BOOT_STAGE 1).raise 1444
   ((d.set F.MBX_BOOT_STAGE 7).raise 1444).f F.MBX_STAT_OWNER 2 ≠ 0) ∧
  (let s : Machine.State := S { (upPll.set F.MBX_WDOG_WD_MS 1) with clk := { upPll.clk with ticks := 7 } }
   s.dev.onPll = true ∧ s.dev.clk.ticks < s.dev.fw.kickTick + 8 * s.dev.f F.MBX_WDOG_WD_MS) ∧
  (let off : Nat := 0x178088
   let w : RegWr := wr .docent []
   let s : Machine.State := S (awake.set F.MBX_FW_STAT_DSTATE 2)
   w.agent = Agent.docent ∧ busOffset off = true ∧ (off < 1114112 ∨ 1130496 ≤ off) ∧ fldsAt off ≠ [] ∧
   mpuWrite off = true ∧ s.dev.reach Agent.docent = true ∧ s.dev.asleep = false) ∧
  (let cause : Nat := 2
   let d : Dev := { (awake.set F.MBX_FW_STAT_DSTATE 2) with clk := { awake.clk with ticks := 480001 }, fw := { awake.fw with auto := true } }
   (d.f F.MBX_FW_STAT_DSTATE = 2 ∨ d.f F.MBX_FW_STAT_DSTATE = 3) ∧
   let b : Dev := ((d.docentHalted cause).count F.MBX_FW_STAT_DOWN_COUNT).raise 1446
   let e : Dev := (if b.fw.auto = true ∧ b.fw.readyTick + 480000 < b.clk.ticks then b.set F.MBX_FW_STAT_AUTO_LEFT 3 else b)
   e.loadWaits = none) :=
  ⟨by decide +kernel,
   by decide +kernel,
   by decide +kernel,
   by decide +kernel,
   by decide +kernel,
   by decide +kernel,
   by decide +kernel,
   by decide +kernel,
   by decide +kernel,
   by decide +kernel,
   by decide +kernel,
   by decide +kernel,
   by decide +kernel,
   by decide +kernel⟩

theorem witness_FirmwareLife_2 :
  (let cause : Nat := 2
   let d : Dev := { (awake.set F.MBX_FW_STAT_DSTATE 3) with fw := { awake.fw with load := some { type := 2, addr := 64, len := 64, auto := false } } }
   let l : ImgLoad := { type := 2, addr := 64, len := 64, auto := false }
   (d.f F.MBX_FW_STAT_DSTATE = 2 ∨ d.f F.MBX_FW_STAT_DSTATE = 3) ∧
   let b : Dev := ((d.docentHalted cause).count F.MBX_FW_STAT_DOWN_COUNT).raise 1446
   let e : Dev := (if b.fw.auto = true ∧ b.fw.readyTick + 480000 < b.clk.ticks then b.set F.MBX_FW_STAT_AUTO_LEFT 3 else b)
   e.loadWaits = some l) ∧
  (let w : RegWr := wr .docent [(F.MBX_WDOG_KICK, 1)]
   let s : Machine.State := S (awake.set F.MBX_FW_STAT_DSTATE 2); let slot : Nat := 2; let cmd : Nat := 3
   let tid : Nat := 1023
   (s.dev.reach w.agent = true ∧ (w.agent == Agent.docent && mpuWrite 1540248) = false ∧ s.dev.denied w.agent = false ∧ s.dev.on (domainOf 1540248) = true ∧ w.agent = Agent.docent ∧ w.fld F.MBX_WDOG_KICK = 1) ∧
   (s.dev.docentRuns = true ∧ s.dev.on 1 = true ∧ (slot = 1 ∨ slot = 2) ∧ ¬(slot = s.dev.f F.TUS_SEQSEL_KSEL ∨ s.dev.f F.TST_KEYSW_PENDING ≠ 0 ∧ slot = s.dev.f F.TST_KEYSW_PEND_SLOT)) ∧
   (s.dev.docentRuns = true ∧ s.dev.on 1 = true) ∧
   (s.dev.docentRuns = true ∧ s.dev.on 1 = true ∧ 1 ≤ cmd ∧ cmd ≤ 3 ∧ tid < 1024)) ∧
  (let slot : Nat := 2
   let s : Machine.State := S ((awake.set F.MBX_FW_STAT_DSTATE 2).set F.TUS_SEQSEL_KSEL 2)
   s.dev.docentRuns = true ∧ s.dev.on 1 = true ∧ (slot = 1 ∨ slot = 2) ∧
   (slot = s.dev.f F.TUS_SEQSEL_KSEL ∨ s.dev.f F.TST_KEYSW_PENDING ≠ 0 ∧ slot = s.dev.f F.TST_KEYSW_PEND_SLOT)) :=
  ⟨by decide +kernel,
   by decide +kernel,
   by decide +kernel⟩

theorem witness_SealedCommands_1 :
  (let len : Nat := 8; let v : Nat := 1
   let s : Machine.State := S (mb awake 2 0x47 [1]); let k : Nat := 1
   mbHyp s 2 71 len ∧ sealHyp s len v ∧
   let d : Dev := s.dev
   v = k ∧ sealRow k Instr.bindDs ∧ d.f F.VIT_SEAL_OPEN = 0) ∧
  (let len : Nat := 8; let v : Nat := 2
   let s : Machine.State := S (mb ({ (awake.set F.VIT_SEAL_OPEN 1) with vit := { awake.vit with log := List.replicate 2032 [1, 2, 3, 4, 5, 6] } }) 2 0x47 [2])
   let k : Nat := 2
   mbHyp s 2 71 len ∧ sealHyp s len v ∧
   let d : Dev := s.dev
   v = k ∧ sealRow k Instr.bindUs ∧ k ≠ 5 ∧ d.f F.VIT_SEAL_OPEN ≠ 0 ∧ 2032 ≤ d.vit.log.length) ∧
  (let len : Nat := 8; let v : Nat := 1
   let s : Machine.State := S (mb (((awake.set F.VIT_SEAL_OPEN 1).setI F.VIT_BIND_DS_VALID 3 1).setI F.VIT_BIND_DS_FTAG 3 7) 2 0x47 [1 + 4095 * 2 ^ 8 + 7 * 2 ^ 20 + 2 ^ 48])
   mbHyp s 2 71 len ∧ sealHyp s len v ∧
   let d : Dev := s.dev
   let w : Nat → Word := fun k => BitVec.ofNat 64 (d.f F.MBX_AREA_DATA 2 k)
   let p : Nat → Nat → Nat → Nat := fun k lo n => bits (BitVec.toNat (w k)) lo n
   d.f F.VIT_SEAL_OPEN ≠ 0 ∧ d.vit.log.length < 2032 ∧ v = 1 ∧
   let slot : Nat := p 1 8 12
   p 1 48 1 = 1 ∧ (∃ k ∈ d.vitSlots, k ≠ slot ∧ (d.vitBindAfter k).2.2 = true ∧ (d.vitBindAfter k).1 = p 1 20 16)) ∧
  (let len : Nat := 8; let v : Nat := 1
   let s : Machine.State := S (mb (((awake.set F.VIT_SEAL_OPEN 1).setI F.VIT_BIND_DS_VALID 3 1).setI F.VIT_BIND_DS_FTAG 3 7) 2 0x47 [1 + 3 * 2 ^ 8 + 7 * 2 ^ 20 + 2 ^ 48])
   mbHyp s 2 71 len ∧ sealHyp s len v ∧
   let d : Dev := s.dev
   let w : Nat → Word := fun k => BitVec.ofNat 64 (d.f F.MBX_AREA_DATA 2 k)
   let p : Nat → Nat → Nat → Nat := fun k lo n => bits (BitVec.toNat (w k)) lo n
   d.f F.VIT_SEAL_OPEN ≠ 0 ∧ d.vit.log.length < 2032 ∧ v = 1 ∧
   let slot : Nat := p 1 8 12
   (p 1 48 1 ≠ 1 ∨ ¬∃ k ∈ d.vitSlots, k ≠ slot ∧ (d.vitBindAfter k).2.2 = true ∧ (d.vitBindAfter k).1 = p 1 20 16)) ∧
  (let len : Nat := 8; let v : Nat := 2
   let s : Machine.State := S (mb (awake.set F.VIT_SEAL_OPEN 1) 2 0x47 [2 + 4095 * 2 ^ 8 + 7 * 2 ^ 20 + 2 ^ 32])
   mbHyp s 2 71 len ∧ sealHyp s len v ∧
   let d : Dev := s.dev
   d.f F.VIT_SEAL_OPEN ≠ 0 ∧ d.vit.log.length < 2032 ∧ v = 2) ∧
  (let len : Nat := 8; let v : Nat := 3
   let s : Machine.State := S (mb (awake.set F.VIT_SEAL_OPEN 1) 2 0x47 [3 + 61 * 2 ^ 8])
   mbHyp s 2 71 len ∧ sealHyp s len v ∧
   let d : Dev := s.dev
   let w : Nat → Word := fun k => BitVec.ofNat 64 (d.f F.MBX_AREA_DATA 2 k)
   let p : Nat → Nat → Nat → Nat := fun k lo n => bits (BitVec.toNat (w k)) lo n
   d.f F.VIT_SEAL_OPEN ≠ 0 ∧ d.vit.log.length < 2032 ∧ v = 3 ∧ (p 1 8 6 = 0 ∨ 60 < p 1 8 6)) ∧
  (let len : Nat := 8; let v : Nat := 3
   let s : Machine.State := S (mb (awake.set F.VIT_SEAL_OPEN 1) 2 0x47 [3 + 60 * 2 ^ 8])
   mbHyp s 2 71 len ∧ sealHyp s len v ∧
   let d : Dev := s.dev
   let w : Nat → Word := fun k => BitVec.ofNat 64 (d.f F.MBX_AREA_DATA 2 k)
   let p : Nat → Nat → Nat → Nat := fun k lo n => bits (BitVec.toNat (w k)) lo n
   d.f F.VIT_SEAL_OPEN ≠ 0 ∧ d.vit.log.length < 2032 ∧ v = 3 ∧ 1 ≤ p 1 8 6 ∧ p 1 8 6 ≤ 60) ∧
  (let len : Nat := 16; let v : Nat := 4
   let s : Machine.State := S (mb (awake.set F.VIT_SEAL_OPEN 1) 2 0x47 [4 + 9 * 2 ^ 8, 99999999])
   mbHyp s 2 71 len ∧ sealHyp s len v ∧
   let d : Dev := s.dev
   let w : Nat → Word := fun k => BitVec.ofNat 64 (d.f F.MBX_AREA_DATA 2 k)
   let p : Nat → Nat → Nat → Nat := fun k lo n => bits (BitVec.toNat (w k)) lo n
   d.f F.VIT_SEAL_OPEN ≠ 0 ∧ d.vit.log.length < 2032 ∧ v = 4 ∧ (9 < p 1 8 4 ∨ p 2 0 40 < 100000000)) ∧
  (let len : Nat := 16; let v : Nat := 4
   let s : Machine.State := S (mb (awake.set F.VIT_SEAL_OPEN 1) 2 0x47 [4 + 9 * 2 ^ 8, 100000000])
   mbHyp s 2 71 len ∧ sealHyp s len v ∧
   let d : Dev := s.dev
   let w : Nat → Word := fun k => BitVec.ofNat 64 (d.f F.MBX_AREA_DATA 2 k)
   let p : Nat → Nat → Nat → Nat := fun k lo n => bits (BitVec.toNat (w k)) lo n
   d.f F.VIT_SEAL_OPEN ≠ 0 ∧ d.vit.log.length < 2032 ∧ v = 4 ∧ p 1 8 4 ≤ 9 ∧ 100000000 ≤ p 2 0 40) ∧
  (let len : Nat := 24; let v : Nat := 6
   let s : Machine.State := S (mb (awake.set F.VIT_SEAL_OPEN 1) 2 0x47 [6, 5, 7])
   mbHyp s 2 71 len ∧ sealHyp s len v ∧
   let d : Dev := s.dev
   d.f F.VIT_SEAL_OPEN ≠ 0 ∧ d.vit.log.length < 2032 ∧ v = 6) ∧
  (let len : Nat := 8; let v : Nat := 7
   let s : Machine.State := S (mb (awake.set F.VIT_SEAL_OPEN 1) 2 0x47 [7])
   mbHyp s 2 71 len ∧ sealHyp s len v ∧
   let d : Dev := s.dev
   d.f F.VIT_SEAL_OPEN ≠ 0 ∧ d.vit.log.length < 2032 ∧ v = 7) ∧
  (let len : Nat := 8; let v : Nat := 5
   let s : Machine.State := S (mb (awake.set F.VIT_SEAL_OPEN 1) 2 0x47 [5])
   mbHyp s 2 71 len ∧ sealHyp s len v ∧
   let d : Dev := s.dev
   v = 5 ∧ d.f F.VIT_SEAL_OPEN ≠ 0 ∧ d.vit.log = []) ∧
  (let len : Nat := 8; let v : Nat := 5
   let s : Machine.State := S (mb ({ (awake.set F.VIT_SEAL_OPEN 1) with vit := { awake.vit with log := [[BitVec.ofNat 64 3, 0, 0, 0, 0, 0], [BitVec.ofNat 64 4, 0, 0, 0, 0, 0]] } }) 2 0x47 [5])
   let old : List Word := [BitVec.ofNat 64 3, 0, 0, 0, 0, 0]
   let new : List Word := [BitVec.ofNat 64 4, 0, 0, 0, 0, 0]
   let mid : List (List Word) := [[BitVec.ofNat 64 3, 0, 0, 0, 0, 0]]
   mbHyp s 2 71 len ∧ sealHyp s len v ∧
   let d : Dev := s.dev
   let w : Nat → Word := fun k => BitVec.ofNat 64 (d.f F.MBX_AREA_DATA 2 k)
   let p : Nat → Nat → Nat → Nat := fun k lo n => bits (BitVec.toNat (w k)) lo n
   v = 5 ∧ d.f F.VIT_SEAL_OPEN ≠ 0 ∧ d.vit.log = mid ++ [new] ∧ d.vit.log.head? = some old ∧
   let last : Nat := wf new 0 0 32
   let chain : Nat := ofBe (wordOctets [w 2, w 3, w 4, w 5])
   (p 1 32 32 ≠ last ∨ chain ≠ d.vit.chain)) ∧
  (let len : Nat := 40; let v : Nat := 5
   let s : Machine.State := S (mb ({ (awake.set F.VIT_SEAL_OPEN 1) with vit := { awake.vit with log := [[BitVec.ofNat 64 3, 0, 0, 0, 0, 0], [BitVec.ofNat 64 4, 0, 0, 0, 0, 0]] } }) 2 0x47 [5 + 4 * 2 ^ 32, 0, 0, 0, 0])
   let old : List Word := [BitVec.ofNat 64 3, 0, 0, 0, 0, 0]
   let new : List Word := [BitVec.ofNat 64 4, 0, 0, 0, 0, 0]
   let mid : List (List Word) := [[BitVec.ofNat 64 3, 0, 0, 0, 0, 0]]
   mbHyp s 2 71 len ∧ sealHyp s len v ∧
   let d : Dev := s.dev
   let w : Nat → Word := fun k => BitVec.ofNat 64 (d.f F.MBX_AREA_DATA 2 k)
   let p : Nat → Nat → Nat → Nat := fun k lo n => bits (BitVec.toNat (w k)) lo n
   v = 5 ∧ d.f F.VIT_SEAL_OPEN ≠ 0 ∧ d.vit.log = mid ++ [new] ∧ d.vit.log.head? = some old ∧
   let last : Nat := wf new 0 0 32
   let chain : Nat := ofBe (wordOctets [w 2, w 3, w 4, w 5])
   p 1 32 32 = last ∧ chain = d.vit.chain) :=
  ⟨by decide +kernel,
   by decide +kernel,
   by decide +kernel,
   by decide +kernel,
   by decide +kernel,
   by decide +kernel,
   by decide +kernel,
   by decide +kernel,
   by decide +kernel,
   by decide +kernel,
   by decide +kernel,
   by decide +kernel,
   by decide +kernel,
   by decide +kernel⟩

theorem witness_SealedCommands_2 :
  (let len : Nat := 8; let v : Nat := 32
   let s : Machine.State := S (mb (((awake.setI F.VIT_BIND_DS_VALID 3 1).setI F.VIT_BIND_DS_ACCT 3 4095)) 2 0x47 [32 + 4095 * 2 ^ 8 + 77 * 2 ^ 32])
   mbHyp s 2 71 len ∧ sealHyp s len v ∧ v = 32) ∧
  (let len : Nat := 8; let v : Nat := 33
   let s : Machine.State := S (mb (awake.set F.VIT_SEAL_OPEN 1) 2 0x47 [33])
   mbHyp s 2 71 len ∧ sealHyp s len v ∧ v = 33) ∧
  (let len : Nat := 8; let v : Nat := 38
   let s : Machine.State := S (mb (awake.set F.VIT_SEAL_OPEN 1) 2 0x47 [38])
   mbHyp s 2 71 len ∧ sealHyp s len v ∧ v = 38) ∧
  (let len : Nat := 8; let v : Nat := 34
   let s : Machine.State := S (mb (awake.set F.VIT_SEAL_OPEN 1) 2 0x47 [34 + 11 * 2 ^ 8])
   mbHyp s 2 71 len ∧ sealHyp s len v ∧
   let d : Dev := s.dev
   let w : Nat → Word := fun k => BitVec.ofNat 64 (d.f F.MBX_AREA_DATA 2 k)
   let p : Nat → Nat → Nat → Nat := fun k lo n => bits (BitVec.toNat (w k)) lo n
   v = 34 ∧
   let n : Nat := p 1 8 8
   (n = 0 ∨ 10 < n)) ∧
  (let len : Nat := 8; let v : Nat := 34
   let s : Machine.State := S (mb ({ awake with vit := { awake.vit with buffer := [⟨6, true, [1, 2]⟩, ⟨7, false, [3, 4]⟩] } }) 2 0x47 [34 + 10 * 2 ^ 8 + 5 * 2 ^ 32])
   mbHyp s 2 71 len ∧ sealHyp s len v ∧
   let d : Dev := s.dev
   let w : Nat → Word := fun k => BitVec.ofNat 64 (d.f F.MBX_AREA_DATA 2 k)
   let p : Nat → Nat → Nat → Nat := fun k lo n => bits (BitVec.toNat (w k)) lo n
   v = 34 ∧
   let held : List VitRec := List.dropWhile (fun r => r.seq != p 1 32 32) d.vit.buffer
   let n : Nat := p 1 8 8
   1 ≤ n ∧ n ≤ 10 ∧ held = []) ∧
  (let len : Nat := 8; let v : Nat := 34
   let s : Machine.State := S (mb ({ awake with vit := { awake.vit with buffer := [⟨6, true, [1, 2]⟩, ⟨7, false, [3, 4]⟩] } }) 2 0x47 [34 + 10 * 2 ^ 8 + 6 * 2 ^ 32])
   mbHyp s 2 71 len ∧ sealHyp s len v ∧
   let d : Dev := s.dev
   let w : Nat → Word := fun k => BitVec.ofNat 64 (d.f F.MBX_AREA_DATA 2 k)
   let p : Nat → Nat → Nat → Nat := fun k lo n => bits (BitVec.toNat (w k)) lo n
   v = 34 ∧
   let held : List VitRec := List.dropWhile (fun r => r.seq != p 1 32 32) d.vit.buffer
   let n : Nat := p 1 8 8
   1 ≤ n ∧ n ≤ 10 ∧ held ≠ []) ∧
  (let len : Nat := 8; let v : Nat := 35
   let s : Machine.State := S (mb ({ awake with vit := { awake.vit with buffer := [⟨6, true, [1, 2]⟩, ⟨7, false, [3, 4]⟩] } }) 2 0x47 [35 + 6 * 2 ^ 32])
   mbHyp s 2 71 len ∧ sealHyp s len v ∧ v = 35) ∧
  (let len : Nat := 8; let v : Nat := 36
   let s : Machine.State := S (mb (awake.set F.VIT_SEAL_OPEN 1) 2 0x47 [36 + 4095 * 2 ^ 8 + 2 * 2 ^ 20])
   mbHyp s 2 71 len ∧ sealHyp s len v ∧
   let d : Dev := s.dev
   let w : Nat → Word := fun k => BitVec.ofNat 64 (d.f F.MBX_AREA_DATA 2 k)
   let p : Nat → Nat → Nat → Nat := fun k lo n => bits (BitVec.toNat (w k)) lo n
   v = 36 ∧
   let a : Nat := p 1 8 12
   let n : Nat := p 1 20 8
   (n = 0 ∨ 85 < n ∨ 4096 < a + n)) ∧
  (let len : Nat := 8; let v : Nat := 36
   let s : Machine.State := S (mb (awake.set F.VIT_SEAL_OPEN 1) 2 0x47 [36 + 4095 * 2 ^ 8 + 1 * 2 ^ 20])
   mbHyp s 2 71 len ∧ sealHyp s len v ∧
   let d : Dev := s.dev
   let w : Nat → Word := fun k => BitVec.ofNat 64 (d.f F.MBX_AREA_DATA 2 k)
   let p : Nat → Nat → Nat → Nat := fun k lo n => bits (BitVec.toNat (w k)) lo n
   v = 36 ∧
   let a : Nat := p 1 8 12
   let n : Nat := p 1 20 8
   1 ≤ n ∧ n ≤ 85 ∧ a + n ≤ 4096 ∧ d.vit.snapshot = none) ∧
  (let len : Nat := 8; let v : Nat := 36
   let s : Machine.State := S (mb ({ awake with vit := { awake.vit with snapshot := some (5, []) } }) 2 0x47 [36 + 4095 * 2 ^ 8 + 1 * 2 ^ 20])
   let q : Nat := 5
   let m : Sys2Proof.SMap VitAcct := []
   mbHyp s 2 71 len ∧ sealHyp s len v ∧
   let d : Dev := s.dev
   let w : Nat → Word := fun k => BitVec.ofNat 64 (d.f F.MBX_AREA_DATA 2 k)
   let p : Nat → Nat → Nat → Nat := fun k lo n => bits (BitVec.toNat (w k)) lo n
   v = 36 ∧
   let a : Nat := p 1 8 12
   let n : Nat := p 1 20 8
   1 ≤ n ∧ n ≤ 85 ∧ a + n ≤ 4096 ∧ d.vit.snapshot = some (q, m)) ∧
  (let len : Nat := 8; let v : Nat := 37
   let s : Machine.State := S (mb (awake.set F.VIT_SEAL_OPEN 1) 2 0x47 [37 + 86 * 2 ^ 8])
   mbHyp s 2 71 len ∧ sealHyp s len v ∧
   let d : Dev := s.dev
   let w : Nat → Word := fun k => BitVec.ofNat 64 (d.f F.MBX_AREA_DATA 2 k)
   let p : Nat → Nat → Nat → Nat := fun k lo n => bits (BitVec.toNat (w k)) lo n
   v = 37 ∧
   let n : Nat := p 1 8 8
   (n = 0 ∨ 85 < n)) ∧
  (let len : Nat := 8; let v : Nat := 37
   let s : Machine.State := S (mb ({ (awake.set F.VIT_SEAL_OPEN 1) with vit := { awake.vit with log := [[BitVec.ofNat 64 3, 0, 0, 0, 0, 0], [BitVec.ofNat 64 4, 0, 0, 0, 0, 0]] } }) 2 0x47 [37 + 85 * 2 ^ 8 + 9 * 2 ^ 32])
   mbHyp s 2 71 len ∧ sealHyp s len v ∧
   let d : Dev := s.dev
   let w : Nat → Word := fun k => BitVec.ofNat 64 (d.f F.MBX_AREA_DATA 2 k)
   let p : Nat → Nat → Nat → Nat := fun k lo n => bits (BitVec.toNat (w k)) lo n
   v = 37 ∧
   let held : List (List Word) := List.dropWhile (fun e => wf e 0 0 32 != p 1 32 32) d.vit.log
   let n : Nat := p 1 8 8
   1 ≤ n ∧ n ≤ 85 ∧ held = []) ∧
  (let len : Nat := 8; let v : Nat := 37
   let s : Machine.State := S (mb ({ (awake.set F.VIT_SEAL_OPEN 1) with vit := { awake.vit with log := [[BitVec.ofNat 64 3, 0, 0, 0, 0, 0], [BitVec.ofNat 64 4, 0, 0, 0, 0, 0]] } }) 2 0x47 [37 + 85 * 2 ^ 8 + 3 * 2 ^ 32])
   mbHyp s 2 71 len ∧ sealHyp s len v ∧
   let d : Dev := s.dev
   let w : Nat → Word := fun k => BitVec.ofNat 64 (d.f F.MBX_AREA_DATA 2 k)
   let p : Nat → Nat → Nat → Nat := fun k lo n => bits (BitVec.toNat (w k)) lo n
   v = 37 ∧
   let held : List (List Word) := List.dropWhile (fun e => wf e 0 0 32 != p 1 32 32) d.vit.log
   let n : Nat := p 1 8 8
   1 ≤ n ∧ n ≤ 85 ∧ held ≠ []) ∧
  (let len : Nat := 8; let v : Nat := 8
   let s : Machine.State := S (mb (awake.set F.VIT_SEAL_OPEN 1) 2 0x47 [8])
   mbHyp s 2 71 len ∧ sealHyp s len v ∧ ¬(1 ≤ v ∧ v ≤ 7) ∧ ¬(32 ≤ v ∧ v ≤ 38)) :=
  ⟨by decide +kernel,
   by decide +kernel,
   by decide +kernel,
   by decide +kernel,
   by decide +kernel,
   by decide +kernel,
   by decide +kernel,
   by decide +kernel,
   by decide +kernel,
   by decide +kernel,
   by decide +kernel,
   by decide +kernel,
   by decide +kernel,
   by decide +kernel⟩

theorem witness_VitrineLife :
  (let r : VitRec := ⟨6, false, [1, 2]⟩
   let s : Machine.State := S { awake with vit := { awake.vit with waiting := some (true, ⟨6, false, [1, 2]⟩), buffer := [⟨5, false, [1]⟩] } }
   (s.dev.vit.waiting = some (true, r)) ∧
   (let d : Dev := s.dev.wake 5; let d' : Dev := { d with pins := { d.pins with presence := false } }; let e : Dev := d'.set F.VIT_SEAL_PRESENT 1; d'.f F.ID_INTEG_PRESENCE_WIRED = 0) ∧
   (let d : Dev := { s.dev with vit := { s.dev.vit with mustRelease := false }, pins := { s.dev.pins with presence := true } }; let d' : Dev := d.set F.VIT_SEAL_PRESENT 0; d'.f F.VIT_SEAL_OPEN = 0)) ∧
  (let r : VitRec := ⟨6, false, [1, 2]⟩
   let s : Machine.State := S { awake with vit := { awake.vit with waiting := some (false, ⟨6, false, [1, 2]⟩), buffer := [⟨5, false, [1]⟩] } }
   s.dev.vit.waiting = some (false, r) ∧ r.gap = false) ∧
  (let r : VitRec := ⟨6, true, [1, 2]⟩
   let s : Machine.State := S { awake with vit := { awake.vit with waiting := some (false, ⟨6, true, [1, 2]⟩), buffer := [⟨5, false, [1]⟩] } }
   s.dev.vit.waiting = some (false, r) ∧ r.gap = true) ∧
  (let s : Machine.State := S ((awake.set F.ID_INTEG_PRESENCE_WIRED 1).set F.VIT_SEAL_OPEN 1)
   (let d : Dev := s.dev.wake 5; let d' : Dev := { d with pins := { d.pins with presence := false } }; let e : Dev := d'.set F.VIT_SEAL_PRESENT 1; d'.f F.ID_INTEG_PRESENCE_WIRED ≠ 0 ∧ (e.vit.mustRelease = true ∨ e.f F.VIT_SEAL_OPEN ≠ 0)) ∧
   (let d : Dev := { s.dev with vit := { s.dev.vit with mustRelease := false }, pins := { s.dev.pins with presence := true } }; let d' : Dev := d.set F.VIT_SEAL_PRESENT 0; (d'.f F.VIT_SEAL_OPEN ≠ 0) ∧ (s.dev.f F.VIT_SEAL_OPEN ≠ 0))) ∧
  (let s : Machine.State := S (awake.set F.ID_INTEG_PRESENCE_WIRED 1)
   let d : Dev := s.dev.wake 5
   let d' : Dev := { d with pins := { d.pins with presence := false } }
   let e : Dev := d'.set F.VIT_SEAL_PRESENT 1
   d'.f F.ID_INTEG_PRESENCE_WIRED ≠ 0 ∧ e.vit.mustRelease = false ∧ e.f F.VIT_SEAL_OPEN = 0) ∧
  (let s : Machine.State := S { awake with vit := { awake.vit with pulseOwed := 2 } }
   s.dev.pins.vitPulse = false ∧ s.dev.vit.pulseOwed ≠ 0 ∧ s.dev.on 32 = true) ∧
  (let s : Machine.State := S { awake with vit := { awake.vit with lost := true, nv := [none, some ckOff], nvNewest := 1, aonCk := none } }
   let c : VitCk := ckOff
   s.dev.vit.lost = true ∧ s.dev.on 32 = true ∧
   let v : VitPart := s.dev.vit
   let nv : Option VitCk := v.nv.getD v.nvNewest none
   nv = some c ∧ c.off = true) ∧
  (let s : Machine.State := S { awake with vit := { awake.vit with lost := true, nv := [none, some ckOn], nvNewest := 1, aonCk := some ckOn } }
   let c : VitCk := ckOn; let a : VitCk := ckOn
   s.dev.vit.lost = true ∧ s.dev.on 32 = true ∧
   let v : VitPart := s.dev.vit
   let nv : Option VitCk := v.nv.getD v.nvNewest none
   nv = some c ∧ c.off = false ∧ v.aonCk = some a) ∧
  (let s : Machine.State := S { awake with vit := { awake.vit with lost := true, nv := [none, some ckOn], nvNewest := 1, aonCk := none } }
   let c : VitCk := ckOn
   s.dev.vit.lost = true ∧ s.dev.on 32 = true ∧
   let v : VitPart := s.dev.vit
   let nv : Option VitCk := v.nv.getD v.nvNewest none
   nv = some c ∧ c.off = false ∧ v.aonCk = none) ∧
  (let s : Machine.State := S { awake with vit := { awake.vit with lost := true, nv := [none, none], nvNewest := 1, aonCk := some ckOn } }
   let a : VitCk := ckOn
   s.dev.vit.lost = true ∧ s.dev.on 32 = true ∧
   let v : VitPart := s.dev.vit
   let nv : Option VitCk := v.nv.getD v.nvNewest none
   nv = none ∧ v.aonCk = some a) ∧
  (let s : Machine.State := S { awake with vit := { awake.vit with lost := true, nv := [none, none], nvNewest := 1, aonCk := none } }
   s.dev.vit.lost = true ∧ s.dev.on 32 = true ∧
   let v : VitPart := s.dev.vit
   let nv : Option VitCk := v.nv.getD v.nvNewest none
   nv = none ∧ v.aonCk = none) ∧
  (let s : Machine.State := S { awake with pwr := { awake.pwr with entry := .awaitAvs 4, vitVote := true } }
   s.dev.pwr.entry = EntrySt.awaitAvs 4 ∧ s.dev.pins.vitPulse = false ∧ s.dev.pwr.vitVote = true) :=
  ⟨by decide +kernel,
   by decide +kernel,
   by decide +kernel,
   by decide +kernel,
   by decide +kernel,
   by decide +kernel,
   by decide +kernel,
   by decide +kernel,
   by decide +kernel,
   by decide +kernel,
   by decide +kernel,
   by decide +kernel⟩

theorem witness_TwinPairing_1 :
  (let s : Machine.State := S (mb awake 0 6 [1])
   mbHyp s 0 6 8 ∧
   let d : Dev := s.dev
   let op : Nat := bits (d.f F.MBX_AREA_DATA 0 1) 0 4
   (op = 1 ∧ Instr.twinCtlAttach = Instr.twinCtlAttach ∨ op = 2 ∧ Instr.twinCtlAttach = Instr.twinCtlDetach ∨ op = 3 ∧ Instr.twinCtlAttach = Instr.twinCtlSwitchover) ∧
   ¬d.f F.ID_INTEG_TWIN_WIRED ≠ 0) ∧
  (let s : Machine.State := S (mb twin 0 6 [1])
   mbHyp s 0 6 8 ∧
   let d : Dev := s.dev
   let op : Nat := bits (d.f F.MBX_AREA_DATA 0 1) 0 4
   let st : Nat := d.f F.TWN_STAT_STATE
   op = 1 ∧ d.f F.ID_INTEG_TWIN_WIRED ≠ 0 ∧ st ≠ 2) ∧
  (let s : Machine.State := S (mb (twinAt 2) 0 6 [1])
   mbHyp s 0 6 8 ∧
   let d : Dev := s.dev
   let op : Nat := bits (d.f F.MBX_AREA_DATA 0 1) 0 4
   let st : Nat := d.f F.TWN_STAT_STATE
   op = 1 ∧ d.f F.ID_INTEG_TWIN_WIRED ≠ 0 ∧ st = 2) ∧
  (let s : Machine.State := S (mb twin 0 6 [2])
   mbHyp s 0 6 8 ∧
   let d : Dev := s.dev
   let op : Nat := bits (d.f F.MBX_AREA_DATA 0 1) 0 4
   op = 2 ∧ d.f F.ID_INTEG_TWIN_WIRED ≠ 0) ∧
  (let s : Machine.State := S (mb twin 0 6 [3])
   mbHyp s 0 6 8 ∧
   let d : Dev := s.dev
   let op : Nat := bits (d.f F.MBX_AREA_DATA 0 1) 0 4
   op = 3 ∧ d.f F.ID_INTEG_TWIN_WIRED ≠ 0 ∧ d.mb3Open = false) ∧
  (let s : Machine.State := S (mb (twinAt 4) 0 6 [3])
   mbHyp s 0 6 8 ∧
   let d : Dev := s.dev
   let op : Nat := bits (d.f F.MBX_AREA_DATA 0 1) 0 4
   let st : Nat := d.f F.TWN_STAT_STATE
   op = 3 ∧ d.f F.ID_INTEG_TWIN_WIRED ≠ 0 ∧ d.mb3Open = true ∧ (st ≠ 5 ∨ d.f F.TWN_STAT_SWITCH_PHASE ≠ 0)) ∧
  (let s : Machine.State := S (mb ({ (twinAt 5) with twn := { awake.twn with mbReq := some 1 } }) 0 6 [3])
   mbHyp s 0 6 8 ∧
   let d : Dev := s.dev
   let op : Nat := bits (d.f F.MBX_AREA_DATA 0 1) 0 4
   let st : Nat := d.f F.TWN_STAT_STATE
   op = 3 ∧ d.f F.ID_INTEG_TWIN_WIRED ≠ 0 ∧ d.mb3Open = true ∧ st = 5 ∧ d.f F.TWN_STAT_SWITCH_PHASE = 0 ∧
   d.twn.mbReq ≠ none) ∧
  (let s : Machine.State := S (mb (twinAt 5) 0 6 [3])
   mbHyp s 0 6 8 ∧
   let d : Dev := s.dev
   let op : Nat := bits (d.f F.MBX_AREA_DATA 0 1) 0 4
   let st : Nat := d.f F.TWN_STAT_STATE
   op = 3 ∧ d.f F.ID_INTEG_TWIN_WIRED ≠ 0 ∧ d.mb3Open = true ∧ st = 5 ∧ d.f F.TWN_STAT_SWITCH_PHASE = 0 ∧
   d.twn.mbReq = none) ∧
  (let s : Machine.State := S (mb twin 0 6 [4])
   mbHyp s 0 6 8 ∧
   let d : Dev := s.dev
   let op : Nat := bits (d.f F.MBX_AREA_DATA 0 1) 0 4
   (Instr.twinCtlDetach = Instr.twinCtlAttach ∨ Instr.twinCtlDetach = Instr.twinCtlDetach ∨ Instr.twinCtlDetach = Instr.twinCtlSwitchover) ∧
   (op = 0 ∨ 3 < op) ∧ d.f F.ID_INTEG_TWIN_WIRED ≠ 0) ∧
  (let w : RegWr := wr h0 [(F.TWN_CTL_EN, 1), (F.TWN_CTL_HOLD, 5)]
   let s : Machine.State := S (twin.set F.TWN_CTL_EN 1)
   s.dev.reach w.agent = true ∧ (w.agent == Agent.docent && mpuWrite 1966080) = false ∧ s.dev.denied w.agent = false ∧
   s.dev.on (domainOf 1966080) = true ∧ s.dev.f F.TWN_CTL_EN ≤ 1 ∧ s.dev.f F.TWN_CTL_EN ≠ 0 ∧
   w.merged F.TWN_CTL_EN (s.dev.f F.TWN_CTL_EN) = 1) ∧
  (let w : RegWr := wr h0 [(F.TWN_CTL_EN, 0), (F.TWN_CTL_HOLD, 5)]
   let s : Machine.State := S twin
   s.dev.reach w.agent = true ∧ (w.agent == Agent.docent && mpuWrite 1966080) = false ∧ s.dev.denied w.agent = false ∧
   s.dev.on (domainOf 1966080) = true ∧ s.dev.f F.TWN_CTL_EN ≤ 1 ∧ ¬s.dev.f F.TWN_CTL_EN ≠ 0 ∧
   ¬w.merged F.TWN_CTL_EN (s.dev.f F.TWN_CTL_EN) = 1) ∧
  (let w : RegWr := wr h0 [(F.TWN_CTL_EN, 1), (F.TWN_CTL_HOLD, 5)]
   let s : Machine.State := S awake
   s.dev.reach w.agent = true ∧ (w.agent == Agent.docent && mpuWrite 1966080) = false ∧ s.dev.denied w.agent = false ∧
   s.dev.on (domainOf 1966080) = true ∧ s.dev.f F.TWN_CTL_EN ≤ 1 ∧ ¬s.dev.f F.TWN_CTL_EN ≠ 0 ∧
   w.merged F.TWN_CTL_EN (s.dev.f F.TWN_CTL_EN) = 1 ∧ ¬s.dev.f F.ID_INTEG_TWIN_WIRED ≠ 0) ∧
  (let w : RegWr := wr h0 [(F.TWN_CTL_EN, 1), (F.TWN_CTL_HOLD, 5)]
   let s : Machine.State := S twin
   s.dev.reach w.agent = true ∧ (w.agent == Agent.docent && mpuWrite 1966080) = false ∧ s.dev.denied w.agent = false ∧
   s.dev.on (domainOf 1966080) = true ∧
   let d : Dev := s.dev.putAll (List.filter (fun p => p.1.lo != 0) (fldsAt 1966080)) w
   let e : Dev := d.setB F.TWN_CTL_EN true
   s.dev.f F.TWN_CTL_EN ≤ 1 ∧ ¬s.dev.f F.TWN_CTL_EN ≠ 0 ∧ w.merged F.TWN_CTL_EN (s.dev.f F.TWN_CTL_EN) = 1 ∧
   s.dev.f F.ID_INTEG_TWIN_WIRED ≠ 0 ∧ e.on 30 = true) ∧
  (let w : RegWr := wr h0 [(F.TWN_CTL_EN, 1), (F.TWN_CTL_HOLD, 5)]
   let s : Machine.State := S (twin.setI F.PWR_DOM_PSTATE 30 0)
   s.dev.reach w.agent = true ∧ (w.agent == Agent.docent && mpuWrite 1966080) = false ∧ s.dev.denied w.agent = false ∧
   s.dev.on (domainOf 1966080) = true ∧
   let d : Dev := s.dev.putAll (List.filter (fun p => p.1.lo != 0) (fldsAt 1966080)) w
   let e : Dev := d.setB F.TWN_CTL_EN true
   s.dev.f F.TWN_CTL_EN ≤ 1 ∧ ¬s.dev.f F.TWN_CTL_EN ≠ 0 ∧ w.merged F.TWN_CTL_EN (s.dev.f F.TWN_CTL_EN) = 1 ∧
   s.dev.f F.ID_INTEG_TWIN_WIRED ≠ 0 ∧ e.on 30 = false) :=
  ⟨by decide +kernel,
   by decide +kernel,
   by decide +kernel,
   by decide +kernel,
   by decide +kernel,
   by decide +kernel,
   by decide +kernel,
   by decide +kernel,
   by decide +kernel,
   by decide +kernel,
   by decide +kernel,
   by decide +kernel,
   by decide +kernel,
   by decide +kernel⟩

theorem witness_TwinPairing_2 :
  (let w : RegWr := wr h0 [(F.TWN_CTL_EN, 0), (F.TWN_CTL_HOLD, 5)]
   let s : Machine.State := S ((twin.set F.TWN_CTL_EN 1).set F.TWN_STAT_STATE 5)
   s.dev.reach w.agent = true ∧ (w.agent == Agent.docent && mpuWrite 1966080) = false ∧ s.dev.denied w.agent = false ∧
   s.dev.on (domainOf 1966080) = true ∧
   let d : Dev := s.dev.putAll (List.filter (fun p => p.1.lo != 0) (fldsAt 1966080)) w
   let g : Dev := (d.setB F.TWN_CTL_EN false).twnFlush.linkDown
   let g' : Dev := { g with twn := { g.twn with sent := none, detected := false, yields := false } }
   s.dev.f F.TWN_CTL_EN ≤ 1 ∧ s.dev.f F.TWN_CTL_EN ≠ 0 ∧ ¬w.merged F.TWN_CTL_EN (s.dev.f F.TWN_CTL_EN) = 1 ∧
   g'.f F.TWN_STAT_STATE ≠ 0) ∧
  (let w : RegWr := wr h0 [(F.TWN_CTL_EN, 0), (F.TWN_CTL_HOLD, 5)]
   let s : Machine.State := S (twin.set F.TWN_CTL_EN 1)
   s.dev.reach w.agent = true ∧ (w.agent == Agent.docent && mpuWrite 1966080) = false ∧ s.dev.denied w.agent = false ∧
   s.dev.on (domainOf 1966080) = true ∧
   let d : Dev := s.dev.putAll (List.filter (fun p => p.1.lo != 0) (fldsAt 1966080)) w
   let g : Dev := (d.setB F.TWN_CTL_EN false).twnFlush.linkDown
   let g' : Dev := { g with twn := { g.twn with sent := none, detected := false, yields := false } }
   s.dev.f F.TWN_CTL_EN ≤ 1 ∧ s.dev.f F.TWN_CTL_EN ≠ 0 ∧ ¬w.merged F.TWN_CTL_EN (s.dev.f F.TWN_CTL_EN) = 1 ∧
   g'.f F.TWN_STAT_STATE = 0) ∧
  (let w : RegWr := wr .docent [(F.TWN_CMD_OP, 1)]
   let s : Machine.State := S (twinAt 2)
   let d : Dev := (twinAt 2)
   (s.dev.reach w.agent = true ∧ (w.agent == Agent.docent && mpuWrite 1966088) = false ∧ s.dev.denied w.agent = false ∧ s.dev.on (domainOf 1966088) = true ∧ (w.agent = Agent.docent ∨ w.agent = Agent.curator) ∧ w.fld F.TWN_CMD_OP = 1) ∧
   (let st : Nat := d.f F.TWN_STAT_STATE; (st = 2) ∧ (st ≠ 4 ∧ st ≠ 5))) ∧
  (let w : RegWr := wr .docent [(F.TWN_CMD_OP, 2)]
   let s : Machine.State := S (twinAt 5)
   let d : Dev := (twinAt 5)
   (s.dev.reach w.agent = true ∧ (w.agent == Agent.docent && mpuWrite 1966088) = false ∧ s.dev.denied w.agent = false ∧ s.dev.on (domainOf 1966088) = true ∧ (w.agent = Agent.docent ∨ w.agent = Agent.curator) ∧ w.fld F.TWN_CMD_OP = 2) ∧
   (let st : Nat := d.f F.TWN_STAT_STATE; (st ≠ 2) ∧ ((st = 4 ∨ st = 5)))) ∧
  (let w : RegWr := wr .docent [(F.TWN_CMD_OP, 3)]
   let s : Machine.State := S (twinAt 5)
   s.dev.reach w.agent = true ∧ (w.agent == Agent.docent && mpuWrite 1966088) = false ∧ s.dev.denied w.agent = false ∧
   s.dev.on (domainOf 1966088) = true ∧ (w.agent = Agent.docent ∨ w.agent = Agent.curator) ∧ w.fld F.TWN_CMD_OP = 3 ∧
   s.dev.f F.TWN_STAT_STATE = 5 ∧ s.dev.f F.TWN_STAT_SWITCH_PHASE = 0) ∧
  (let w : RegWr := wr .docent [(F.TWN_CMD_OP, 3)]
   let s : Machine.State := S twin
   s.dev.reach w.agent = true ∧ (w.agent == Agent.docent && mpuWrite 1966088) = false ∧ s.dev.denied w.agent = false ∧
   s.dev.on (domainOf 1966088) = true ∧ (w.agent = Agent.docent ∨ w.agent = Agent.curator) ∧ w.fld F.TWN_CMD_OP = 3 ∧
   (s.dev.f F.TWN_STAT_STATE ≠ 5 ∨ s.dev.f F.TWN_STAT_SWITCH_PHASE ≠ 0)) ∧
  (let ty : Nat := 255
   let body : List Word := List.replicate 511 7
   let s : Machine.State := S (twin.set F.MBX_FW_STAT_DSTATE 2)
   ty < 256 ∧ body.length ≤ 511 ∧ s.dev.docentRuns = true ∧ s.dev.mb3Open = false) ∧
  (let ty : Nat := 255
   let body : List Word := List.replicate 511 7
   let s : Machine.State := S { ((twin.set F.MBX_FW_STAT_DSTATE 2).set F.TWN_STAT_STATE 2) with twn := { awake.twn with mbReq := some 5 } }
   ty < 256 ∧ body.length ≤ 511 ∧ s.dev.docentRuns = true ∧ s.dev.mb3Open = true ∧ s.dev.twn.mbReq ≠ none) ∧
  (let ty : Nat := 255
   let body : List Word := List.replicate 511 7
   let s : Machine.State := S ((twin.set F.MBX_FW_STAT_DSTATE 2).set F.TWN_STAT_STATE 2)
   ty < 256 ∧ body.length ≤ 511 ∧ s.dev.docentRuns = true ∧ s.dev.mb3Open = true ∧ s.dev.twn.mbReq = none) ∧
  (let ty : Nat := 5
   let s : Machine.State := S { twin with twn := { awake.twn with mbReq := some 5 } }
   s.dev.twn.mbReq = some ty) ∧
  (let s : Machine.State := S (twinAt 6)
   s.dev.f F.TWN_STAT_STATE = 6) ∧
  (let ty : Nat := 7
   let s : Machine.State := S ((twinAt 2).set F.MBX_FW_STAT_DSTATE 2)
   s.dev.on 30 = true ∧ 2 ≤ s.dev.f F.TWN_STAT_STATE ∧ s.dev.docentRuns = true ∧ (ty = 0 ∨ 6 < ty)) ∧
  (let d : Dev := { twin with twn := { awake.twn with mbIn := [9, 1] } }
   let w0 : Word := 9
   let l : List Word := [1]
   d.twn.mbIn = w0 :: l) ∧
  (let s : Machine.State := S { (twinAt 5) with twn := { awake.twn with mbReq := some 6 } }
   s.dev.on 30 = true ∧ 2 ≤ s.dev.f F.TWN_STAT_STATE ∧ s.dev.twn.mbReq = some 6) :=
  ⟨by decide +kernel,
   by decide +kernel,
   by decide +kernel,
   by decide +kernel,
   by decide +kernel,
   by decide +kernel,
   by decide +kernel,
   by decide +kernel,
   by decide +kernel,
   by decide +kernel,
   by decide +kernel,
   by decide +kernel,
   by decide +kernel,
   by decide +kernel⟩

theorem witness_TwinPairing_3 :
  (let s : Machine.State := S { (twinAt 5) with twn := { awake.twn with mbReq := some 2 } }
   s.dev.on 30 = true ∧ 2 ≤ s.dev.f F.TWN_STAT_STATE ∧ s.dev.twn.mbReq = some 2) ∧
  (let status : Nat := 0
   let s : Machine.State := S { (twinAt 5) with twn := { awake.twn with mbReq := some 1 } }
   s.dev.on 30 = true ∧ 2 ≤ s.dev.f F.TWN_STAT_STATE ∧
   let st : Nat := status % 256
   s.dev.twn.mbReq = some 1 ∧ st = 0) ∧
  (let status : Nat := 4
   let s : Machine.State := S { (twinAt 5) with twn := { awake.twn with mbReq := some 1 } }
   s.dev.on 30 = true ∧ 2 ≤ s.dev.f F.TWN_STAT_STATE ∧
   let st : Nat := status % 256
   s.dev.twn.mbReq = some 1 ∧ st = 4) ∧
  (let status : Nat := 5
   let s : Machine.State := S { (twinAt 5) with twn := { awake.twn with mbReq := some 1 } }
   s.dev.on 30 = true ∧ 2 ≤ s.dev.f F.TWN_STAT_STATE ∧
   let st : Nat := status % 256
   s.dev.twn.mbReq = some 1 ∧ st ≠ 0 ∧ st ≠ 4) ∧
  (let status : Nat := 0
   let s : Machine.State := S { (twinAt 5) with twn := { awake.twn with mbReq := some 3 } }
   s.dev.on 30 = true ∧ 2 ≤ s.dev.f F.TWN_STAT_STATE ∧
   let st : Nat := status % 256
   s.dev.twn.mbReq = some 3 ∧ st = 0) ∧
  (let status : Nat := 4
   let s : Machine.State := S { (twinAt 5) with twn := { awake.twn with mbReq := some 3 } }
   s.dev.on 30 = true ∧ 2 ≤ s.dev.f F.TWN_STAT_STATE ∧
   let st : Nat := status % 256
   s.dev.twn.mbReq = some 3 ∧ st ≠ 0) ∧
  (let status : Nat := 0
   let s : Machine.State := S { (twinAt 5) with twn := { awake.twn with mbReq := some 4 } }
   s.dev.on 30 = true ∧ 2 ≤ s.dev.f F.TWN_STAT_STATE ∧
   let st : Nat := status % 256
   s.dev.twn.mbReq = some 4 ∧ st = 0) ∧
  (let status : Nat := 4
   let s : Machine.State := S { (twinAt 5) with twn := { awake.twn with mbReq := some 4 } }
   s.dev.on 30 = true ∧ 2 ≤ s.dev.f F.TWN_STAT_STATE ∧
   let st : Nat := status % 256
   s.dev.twn.mbReq = some 4 ∧ st ≠ 0) ∧
  (let seq : Nat := 5; let status : Nat := 0
   let s : Machine.State := S { (twinAt 5) with twn := { awake.twn with mbReq := some 5 } }
   s.dev.on 30 = true ∧ 2 ≤ s.dev.f F.TWN_STAT_STATE ∧
   let heard : Nat → List Word → Dev := fun ty body => { s.dev with twn := { s.dev.twn with mbIn := BitVec.ofNat 64 (seq % 65536 + ty * 2 ^ 16 + status % 256 * 2 ^ 24 + 8 * body.length * 2 ^ 32) :: body } }.wake 4
   let ans : Nat → List Word → Dev := fun ty body => { heard ty body with twn := { (heard ty body).twn with mbReq := none, mbDone := status % 256 } }
   s.dev.twn.mbReq = some 5 ∧ (ans 5 []).f F.TWN_STAT_STATE ≠ 6) ∧
  (let seq : Nat := 5; let status : Nat := 0
   let s : Machine.State := S { (twinAt 6) with twn := { awake.twn with mbReq := some 5 } }
   s.dev.on 30 = true ∧ 2 ≤ s.dev.f F.TWN_STAT_STATE ∧
   let heard : Nat → List Word → Dev := fun ty body => { s.dev with twn := { s.dev.twn with mbIn := BitVec.ofNat 64 (seq % 65536 + ty * 2 ^ 16 + status % 256 * 2 ^ 24 + 8 * body.length * 2 ^ 32) :: body } }.wake 4
   let ans : Nat → List Word → Dev := fun ty body => { heard ty body with twn := { (heard ty body).twn with mbReq := none, mbDone := status % 256 } }
   s.dev.twn.mbReq = some 5 ∧ (ans 5 []).f F.TWN_STAT_STATE = 6) ∧
  (let seq : Nat := 5; let status : Nat := 0; let w1 : Word := 7
   let s : Machine.State := S ((twinAt 5).set F.MBX_FW_STAT_DSTATE 2)
   s.dev.on 30 = true ∧ 2 ≤ s.dev.f F.TWN_STAT_STATE ∧
   let heard : Nat → List Word → Dev := fun ty body => { s.dev with twn := { s.dev.twn with mbIn := BitVec.ofNat 64 (seq % 65536 + ty * 2 ^ 16 + status % 256 * 2 ^ 24 + 8 * body.length * 2 ^ 32) :: body } }.wake 4
   s.dev.docentRuns = true ∧
   let h : Nat → Dev := fun ty => heard ty [w1]
   ((h 3).f F.TWN_STAT_STATE = 5) ∧ (((heard 5 []).f F.TWN_STAT_STATE = 4 ∨ (heard 5 []).f F.TWN_STAT_STATE = 5))) ∧
  (let seq : Nat := 5; let status : Nat := 0; let w1 : Word := 7
   let s : Machine.State := S ((twinAt 3).set F.MBX_FW_STAT_DSTATE 2)
   s.dev.on 30 = true ∧ 2 ≤ s.dev.f F.TWN_STAT_STATE ∧
   let heard : Nat → List Word → Dev := fun ty body => { s.dev with twn := { s.dev.twn with mbIn := BitVec.ofNat 64 (seq % 65536 + ty * 2 ^ 16 + status % 256 * 2 ^ 24 + 8 * body.length * 2 ^ 32) :: body } }.wake 4
   s.dev.docentRuns = true ∧
   let h : Nat → Dev := fun ty => heard ty [w1]
   ((h 3).f F.TWN_STAT_STATE ≠ 5) ∧ ((heard 5 []).f F.TWN_STAT_STATE ≠ 4 ∧ (heard 5 []).f F.TWN_STAT_STATE ≠ 5)) :=
  ⟨by decide +kernel,
   by decide +kernel,
   by decide +kernel,
   by decide +kernel,
   by decide +kernel,
   by decide +kernel,
   by decide +kernel,
   by decide +kernel,
   by decide +kernel,
   by decide +kernel,
   by decide +kernel,
   by decide +kernel⟩

theorem witness_TwinLinkAndMirror_1 :
  (let s : Machine.State := S (twinAt 1)
   (s.dev.on 30 = true ∧ let d : Dev := { s.dev with twn := { s.dev.twn with hbBlocks := s.dev.twn.hbBlocks + 1 } }; d.xUp 8 = true ∧ let st : Nat := d.f F.TWN_STAT_STATE; st = 1 ∧ d.f F.TWN_LINK_STAT_SYMLOCK ≠ 255) ∧
   (s.dev.twn.hbBlocks < 128)) ∧
  (let s : Machine.State := S ((twinAt 1).set F.TWN_LINK_STAT_SYMLOCK 255)
   s.dev.on 30 = true ∧
   let d : Dev := { s.dev with twn := { s.dev.twn with hbBlocks := s.dev.twn.hbBlocks + 1 } }
   d.xUp 8 = true ∧
   let st : Nat := d.f F.TWN_STAT_STATE
   st = 1 ∧ d.f F.TWN_LINK_STAT_SYMLOCK = 255) ∧
  (let s : Machine.State := S (twinAt 2)
   s.dev.on 30 = true ∧
   let d : Dev := { s.dev with twn := { s.dev.twn with hbBlocks := s.dev.twn.hbBlocks + 1 } }
   d.xUp 8 = true ∧
   let st : Nat := d.f F.TWN_STAT_STATE
   2 ≤ st ∧ d.twn.bseq % 16 = 0) ∧
  (let s : Machine.State := S { (twinAt 2) with twn := { awake.twn with bseq := 1, mbTx := List.replicate 600 1 } }
   s.dev.on 30 = true ∧
   let d : Dev := { s.dev with twn := { s.dev.twn with hbBlocks := s.dev.twn.hbBlocks + 1 } }
   d.xUp 8 = true ∧
   let st : Nat := d.f F.TWN_STAT_STATE
   2 ≤ st ∧ d.twn.bseq % 16 ≠ 0 ∧ d.twn.mbTx ≠ []) ∧
  (let s : Machine.State := S { (twinAt 2) with twn := { awake.twn with bseq := 65535 } }
   s.dev.on 30 = true ∧
   let d : Dev := { s.dev with twn := { s.dev.twn with hbBlocks := s.dev.twn.hbBlocks + 1 } }
   d.xUp 8 = true ∧
   let st : Nat := d.f F.TWN_STAT_STATE
   2 ≤ st ∧ d.twn.bseq % 16 ≠ 0 ∧ d.twn.mbTx = []) ∧
  (let s : Machine.State := S (twinAt 1)
   s.dev.on 30 = true ∧ s.dev.f F.TWN_STAT_STATE ≠ 0 ∧ s.dev.xUp 8 = true ∧
   let d : Dev := s.dev
   d.f F.TWN_LINK_STAT_SYMLOCK ≠ 255) ∧
  (let commas : BitVec 8 := 0; let codeOk : Bool := true
   let octets : List Byte := tlFrame 2 0 0 [1, 2, 3]
   let s : Machine.State := S ((((twinAt 2).set F.TWN_LINK_STAT_SYMLOCK 255).set F.TWN_LINK_STAT_ALIGNED 1).set F.TWN_LINK_STAT_BAD 3)
   s.dev.on 30 = true ∧ s.dev.f F.TWN_STAT_STATE ≠ 0 ∧ s.dev.xUp 8 = true ∧
   let d : Dev := s.dev
   let ty : Nat := BitVec.toNat (octets.getD 1 0)
   let seq : Nat := BitVec.toNat (octets.getD 2 0) * 256 + BitVec.toNat (octets.getD 3 0)
   let a : Dev := d.act 12 1
   let bad : Dev := { a with twn := { d.twn with rxNext := Option.map (fun n => (n + 1) % 65536) d.twn.rxNext } }
   let n : Nat := min 7 (bad.f F.TWN_LINK_STAT_BAD + 1)
   let b : Dev := ((bad.count F.TWN_CNT_BAD_HDR).set F.TWN_LINK_STAT_GOOD 0).set F.TWN_LINK_STAT_BAD n
   d.f F.TWN_LINK_STAT_SYMLOCK = 255 ∧ octets.length = 512 ∧
   ¬(octets.length = 512 ∧ commas.getLsbD 0 = true ∧ octets.getD 0 0 = 188 ∧ codeOk = true ∧ ty ≤ 4 ∧ (d.twn.rxNext = none ∨ d.twn.rxNext = some seq)) ∧
   b.f F.TWN_LINK_STAT_ALIGNED ≠ 0 ∧ n = 4) ∧
  (let commas : BitVec 8 := 1; let codeOk : Bool := false
   let octets : List Byte := tlFrame 2 0 0 [1, 2, 3]
   let s : Machine.State := S ((((twinAt 2).set F.TWN_LINK_STAT_SYMLOCK 255).set F.TWN_LINK_STAT_ALIGNED 1).set F.TWN_LINK_STAT_BAD 2)
   s.dev.on 30 = true ∧ s.dev.f F.TWN_STAT_STATE ≠ 0 ∧ s.dev.xUp 8 = true ∧
   let d : Dev := s.dev
   let ty : Nat := BitVec.toNat (octets.getD 1 0)
   let seq : Nat := BitVec.toNat (octets.getD 2 0) * 256 + BitVec.toNat (octets.getD 3 0)
   let a : Dev := d.act 12 1
   let bad : Dev := { a with twn := { d.twn with rxNext := Option.map (fun n => (n + 1) % 65536) d.twn.rxNext } }
   let n : Nat := min 7 (bad.f F.TWN_LINK_STAT_BAD + 1)
   let b : Dev := ((bad.count F.TWN_CNT_BAD_HDR).set F.TWN_LINK_STAT_GOOD 0).set F.TWN_LINK_STAT_BAD n
   d.f F.TWN_LINK_STAT_SYMLOCK = 255 ∧ octets.length = 512 ∧
   ¬(octets.length = 512 ∧ commas.getLsbD 0 = true ∧ octets.getD 0 0 = 188 ∧ codeOk = true ∧ ty ≤ 4 ∧ (d.twn.rxNext = none ∨ d.twn.rxNext = some seq)) ∧
   (b.f F.TWN_LINK_STAT_ALIGNED = 0 ∨ n ≠ 4)) ∧
  (let commas : BitVec 8 := 1; let codeOk : Bool := true
   let octets : List Byte := (tlFrame 2 0 0 [1, 2, 3]).set 100 9
   let s : Machine.State := S (((twinAt 2).set F.TWN_LINK_STAT_SYMLOCK 255))
   s.dev.on 30 = true ∧ s.dev.f F.TWN_STAT_STATE ≠ 0 ∧ s.dev.xUp 8 = true ∧
   let d : Dev := s.dev
   let ty : Nat := BitVec.toNat (octets.getD 1 0)
   let seq : Nat := BitVec.toNat (octets.getD 2 0) * 256 + BitVec.toNat (octets.getD 3 0)
   d.f F.TWN_LINK_STAT_SYMLOCK = 255 ∧ octets.length = 512 ∧ octets.length = 512 ∧ commas.getLsbD 0 = true ∧
   octets.getD 0 0 = 188 ∧ codeOk = true ∧ ty ≤ 4 ∧ (d.twn.rxNext = none ∨ d.twn.rxNext = some seq) ∧
   ¬ofBe (List.drop 508 octets) = crc32Octets (List.take 507 (List.drop 1 octets)) ∧ ty ≠ 3) ∧
  (let commas : BitVec 8 := 1; let codeOk : Bool := true
   let octets : List Byte := (tlFrame 3 0 0 [1, 2, 3]).set 100 9
   let s : Machine.State := S (((twinAt 2).set F.TWN_LINK_STAT_SYMLOCK 255))
   s.dev.on 30 = true ∧ s.dev.f F.TWN_STAT_STATE ≠ 0 ∧ s.dev.xUp 8 = true ∧
   let d : Dev := s.dev
   let ty : Nat := BitVec.toNat (octets.getD 1 0)
   let seq : Nat := BitVec.toNat (octets.getD 2 0) * 256 + BitVec.toNat (octets.getD 3 0)
   d.f F.TWN_LINK_STAT_SYMLOCK = 255 ∧ octets.length = 512 ∧ octets.length = 512 ∧ commas.getLsbD 0 = true ∧
   octets.getD 0 0 = 188 ∧ codeOk = true ∧ ty ≤ 4 ∧ (d.twn.rxNext = none ∨ d.twn.rxNext = some seq) ∧
   ¬ofBe (List.drop 508 octets) = crc32Octets (List.take 507 (List.drop 1 octets)) ∧ ty = 3) ∧
  (let commas : BitVec 8 := 1; let codeOk : Bool := true
   let octets : List Byte := tlFrame 2 0 0 [1, 2, 3]
   let s : Machine.State := S (((twinAt 2).set F.TWN_LINK_STAT_SYMLOCK 255))
   s.dev.on 30 = true ∧ s.dev.f F.TWN_STAT_STATE ≠ 0 ∧ s.dev.xUp 8 = true ∧
   let d : Dev := s.dev
   let ty : Nat := BitVec.toNat (octets.getD 1 0)
   let seq : Nat := BitVec.toNat (octets.getD 2 0) * 256 + BitVec.toNat (octets.getD 3 0)
   d.f F.TWN_LINK_STAT_SYMLOCK = 255 ∧ octets.length = 512 ∧ octets.length = 512 ∧ commas.getLsbD 0 = true ∧
   octets.getD 0 0 = 188 ∧ codeOk = true ∧ ty ≤ 4 ∧ (d.twn.rxNext = none ∨ d.twn.rxNext = some seq) ∧
   ofBe (List.drop 508 octets) = crc32Octets (List.take 507 (List.drop 1 octets))) ∧
  (let w0 : Word := BitVec.ofNat 64 (9 * 2 ^ 13 + 4 * 2 ^ 10 + 0 * 2 ^ 8 + 5 * 2 ^ 5 + 1 * 2 ^ 4); let w1 : Word := 0
   let w2 : Word := 77
   let s : Machine.State := S { twinOn with twn := { awake.twn with hb := some [BitVec.ofNat 64 (9 * 2 ^ 13 + 4 * 2 ^ 10 + 0 * 2 ^ 8 + 5 * 2 ^ 5 + 1 * 2 ^ 4), 0, 77] } }
   s.dev.twn.hb = some [w0, w1, w2] ∧
   let v : Nat := BitVec.toNat w0
   let d : Dev := s.dev.countN F.TWN_CNT_HB_MISS ((s.dev.twn.hbBlocks - 1) / 16)
   let d' : Dev := { d with twn := { s.dev.twn with hb := none, hbBlocks := 0, peerState := bits v 5 3 } }
   let d'3 : Dev := (((d'.set F.TWN_PEER_PEER_SFC (v / 2 ^ 13)).set F.TWN_STAT_PEER_TST (bits v 10 3)).set F.TWN_STAT_PEER_SYNC (bits v 8 2)).set F.TWN_STAT_PEER_ROLE (bits v 4 1)
   let d'4 : Dev := ((d'3.set F.TWN_STAT_PEER_DOCENT (bits v 2 1)).set F.TWN_STAT_PEER_VALID 1).set F.TWN_PEER_SN_SN (BitVec.toNat w2)
   let e : Dev := (d'4.sinkShows (bit v 3) (bits (BitVec.toNat w1) 32 32) (bits v 5 3)).rolesResolve.overlapSeen
   let yields : Bool := e.active && e.b F.TWN_CTL_EN && e.f F.TWN_STAT_SWITCH_PHASE == 0 && bit v 4 && bit v 3
   let e' : Dev := (if yields = true then { e with twn := { e.twn with yields := true } } else e)
   bit v 4 = true ∧ bits v 8 2 = 0 ∧ e'.f F.TWN_CTL_SYNC_TAKEOVER ≠ 0) ∧
  (let w0 : Word := BitVec.ofNat 64 (9 * 2 ^ 13 + 4 * 2 ^ 10 + 2 * 2 ^ 8 + 5 * 2 ^ 5 + 1 * 2 ^ 4); let w1 : Word := 0
   let w2 : Word := 77
   let s : Machine.State := S { twinOn with twn := { awake.twn with hb := some [BitVec.ofNat 64 (9 * 2 ^ 13 + 4 * 2 ^ 10 + 2 * 2 ^ 8 + 5 * 2 ^ 5 + 1 * 2 ^ 4), 0, 77] } }
   s.dev.twn.hb = some [w0, w1, w2] ∧
   let v : Nat := BitVec.toNat w0
   let d : Dev := s.dev.countN F.TWN_CNT_HB_MISS ((s.dev.twn.hbBlocks - 1) / 16)
   let d' : Dev := { d with twn := { s.dev.twn with hb := none, hbBlocks := 0, peerState := bits v 5 3 } }
   let d'3 : Dev := (((d'.set F.TWN_PEER_PEER_SFC (v / 2 ^ 13)).set F.TWN_STAT_PEER_TST (bits v 10 3)).set F.TWN_STAT_PEER_SYNC (bits v 8 2)).set F.TWN_STAT_PEER_ROLE (bits v 4 1)
   let d'4 : Dev := ((d'3.set F.TWN_STAT_PEER_DOCENT (bits v 2 1)).set F.TWN_STAT_PEER_VALID 1).set F.TWN_PEER_SN_SN (BitVec.toNat w2)
   let e : Dev := (d'4.sinkShows (bit v 3) (bits (BitVec.toNat w1) 32 32) (bits v 5 3)).rolesResolve.overlapSeen
   let yields : Bool := e.active && e.b F.TWN_CTL_EN && e.f F.TWN_STAT_SWITCH_PHASE == 0 && bit v 4 && bit v 3
   let e' : Dev := (if yields = true then { e with twn := { e.twn with yields := true } } else e)
   (bit v 4 = false ∨ bits v 8 2 ≠ 0 ∨ e'.f F.TWN_CTL_SYNC_TAKEOVER = 0)) ∧
  (let s : Machine.State := S { twinOn with twn := { awake.twn with hbBlocks := 128 } }
   s.dev.f F.TWN_CTL_EN ≠ 0 ∧ s.dev.on 30 = true ∧ 128 ≤ s.dev.twn.hbBlocks ∧
   let z : Dev := { s.dev with twn := { s.dev.twn with hbBlocks := 0 } }
   let d : Dev := (z.countN F.TWN_CNT_HB_MISS 8).set F.TWN_STAT_PEER_VALID 0
   let e : Dev := (if z.f F.TWN_STAT_PEER_VALID ≠ 0 ∧ d.active = true then d.raise 1542 else d)
   e.f F.TWN_CTL_HB_TAKEOVER ≠ 0) :=
  ⟨by decide +kernel,
   by decide +kernel,
   by decide +kernel,
   by decide +kernel,
   by decide +kernel,
   by decide +kernel,
   by decide +kernel,
   by decide +kernel,
   by simp only [tlFrame, crc_now]; decide +kernel,
   by simp only [tlFrame, crc_now]; decide +kernel,
   by simp only [tlFrame, crc_now]; decide +kernel,
   by decide +kernel,
   by decide +kernel,
   by decide +kernel⟩

theorem witness_TwinLinkAndMirror_2 :
  (let s : Machine.State := S { twinOn.set F.TWN_CTL_HB_TAKEOVER 0 with twn := { awake.twn with hbBlocks := 128 } }
   s.dev.f F.TWN_CTL_EN ≠ 0 ∧ s.dev.on 30 = true ∧ 128 ≤ s.dev.twn.hbBlocks ∧
   let z : Dev := { s.dev with twn := { s.dev.twn with hbBlocks := 0 } }
   let d : Dev := (z.countN F.TWN_CNT_HB_MISS 8).set F.TWN_STAT_PEER_VALID 0
   let e : Dev := (if z.f F.TWN_STAT_PEER_VALID ≠ 0 ∧ d.active = true then d.raise 1542 else d)
   e.f F.TWN_CTL_HB_TAKEOVER = 0) ∧
  (let d : Dev := twin
   ¬(d.f F.TWN_STAT_SOURCE = 0 ∧ d.active = false ∧ d.f F.TWN_STAT_FO_ARMED ≠ 0 ∧ d.f F.TWN_STAT_STATE ≠ 4)) ∧
  (let d : Dev := twinSink
   d.f F.TWN_STAT_SOURCE = 0 ∧ d.active = false ∧ d.f F.TWN_STAT_FO_ARMED ≠ 0 ∧ d.f F.TWN_STAT_STATE ≠ 4 ∧
   ¬(d.tst = 4 ∧ d.f F.TDS_SYNC_STAT_STATE = 2)) ∧
  (let d : Dev := (twinSink.set F.TST_STATE_STATE 4).set F.TDS_SYNC_STAT_STATE 2
   d.f F.TWN_STAT_SOURCE = 0 ∧ d.active = false ∧ d.f F.TWN_STAT_FO_ARMED ≠ 0 ∧ d.f F.TWN_STAT_STATE ≠ 4 ∧ d.tst = 4 ∧
   d.f F.TDS_SYNC_STAT_STATE = 2) ∧
  (let q : Nat := 0
   let m : Mir := .reg 0x10 5
   let s : Machine.State := S { twinSink with twn := { awake.twn with recv := [(0, .reg 0x10 5)] } }
   let off : Nat := 0x10; let val : Nat := 5
   s.dev.mirHead = some (q, m) ∧ m = Mir.reg off val ∧ mirMask off = 0) ∧
  (let q : Nat := 0
   let m : Mir := .reg 0x48000 5
   let s : Machine.State := S { (twinSink.setI F.STG_STAT_STATE 0 2 |>.setI F.STG_STAT_STATE 1 2) with twn := { awake.twn with recv := [(0, .reg 0x48000 5)] } }
   let off : Nat := 0x48000; let val : Nat := 5
   s.dev.mirHead = some (q, m) ∧ m = Mir.reg off val ∧ mirMask off ≠ 0 ∧ s.dev.twinSet = none) ∧
  (let q : Nat := 0
   let m : Mir := .reg 0x48000 5
   let s : Machine.State := S { twinSink with twn := { awake.twn with recv := [(0, .reg 0x48000 5)] } }
   let off : Nat := 0x48000; let val : Nat := 5; let k : Nat := 0
   let e : Dev := ({ twinSink with twn := { awake.twn with recv := [(0, .reg 0x48000 5)] } } : Dev).stgOpen 0 6
   s.dev.mirHead = some (q, m) ∧ m = Mir.reg off val ∧ mirMask off ≠ 0 ∧ s.dev.twinSet = some (k, e) ∧
   ¬(SMap.look off (e.stgSet k) = none ∧ stgCap k ≤ List.length (e.stgSet k))) ∧
  (let q : Nat := 0
   let m : Mir := .reg 0x48000 5
   let s : Machine.State := S { ((twinSink.setI F.STG_STAT_STATE 0 1).setI F.STG_STAT_OWNER 0 6) with twn := { awake.twn with recv := [(0, .reg 0x48000 5)] }, stg := { awake.stg with sets := [(List.range 8192).map (fun i => (0x90000 + 8 * i, ⟨1, 1⟩)), [], [], []] } }
   let off : Nat := 0x48000; let val : Nat := 5; let k : Nat := 0
   let e : Dev := { ((twinSink.setI F.STG_STAT_STATE 0 1).setI F.STG_STAT_OWNER 0 6) with twn := { awake.twn with recv := [(0, .reg 0x48000 5)] }, stg := { awake.stg with sets := [(List.range 8192).map (fun i => (0x90000 + 8 * i, ⟨1, 1⟩)), [], [], []] } }
   s.dev.mirHead = some (q, m) ∧ m = Mir.reg off val ∧ mirMask off ≠ 0 ∧ s.dev.twinSet = some (k, e) ∧
   SMap.look off (e.stgSet k) = none ∧ stgCap k ≤ List.length (e.stgSet k)) ∧
  (let q : Nat := 0; let m : Mir := .changeEnd
   let s : Machine.State := S { (((twinSink.setI F.STG_STAT_STATE 0 1).setI F.STG_STAT_OWNER 0 6)) with twn := { awake.twn with recv := [(0, .changeEnd)] } }
   s.dev.mirHead = some (q, m) ∧ m = Mir.changeEnd ∧ s.dev.stgState 0 = 1 ∧ s.dev.f F.STG_STAT_OWNER = 6) ∧
  (let q : Nat := 0; let m : Mir := .changeEnd
   let s : Machine.State := S { ((twinSink.setI F.STG_STAT_STATE 1 1).setI F.STG_STAT_OWNER 1 6) with twn := { awake.twn with recv := [(0, .changeEnd)] } }
   s.dev.mirHead = some (q, m) ∧ m = Mir.changeEnd ∧
   ¬(fun k => s.dev.stgState k = 1 ∧ s.dev.f F.STG_STAT_OWNER k = 6) 0 ∧ s.dev.stgState 1 = 1 ∧
   s.dev.f F.STG_STAT_OWNER 1 = 6) ∧
  (let q : Nat := 0; let m : Mir := .changeEnd
   let s : Machine.State := S { twinSink with twn := { awake.twn with recv := [(0, .changeEnd)] } }
   s.dev.mirHead = some (q, m) ∧ m = Mir.changeEnd ∧
   ¬(fun k => s.dev.stgState k = 1 ∧ s.dev.f F.STG_STAT_OWNER k = 6) 0 ∧
   ¬(fun k => s.dev.stgState k = 1 ∧ s.dev.f F.STG_STAT_OWNER k = 6) 1) ∧
  (let q : Nat := 0
   let m : Mir := .tableOp 2 0 [5]
   let s : Machine.State := S { twinSink with twn := { awake.twn with recv := [(0, .tableOp 2 0 [5])] } }
   let cmd : Nat := 2; let dst : Nat := 0
   let data : List Nat := [5]
   s.dev.mirHead = some (q, m) ∧
   let d : Dev := s.dev.mirPassed q
   m = Mir.tableOp cmd dst data ∧
   let e : Dev := List.foldl (fun d p => d.setI F.CLS_UPD_DATA_DATA p.2 p.1) d data.zipIdx
   let r : Nat × Dev := e.updOp false (cmd % 16) cmd dst
   r.1 ≠ 0) ∧
  (let q : Nat := 0
   let m : Mir := .tableOp (2 + 32) 0 [5, 0, 0, 2 ^ 63]
   let s : Machine.State := S { (twinSink.set F.CLS_ACC_STAT_STATE 1) with twn := { awake.twn with recv := [(0, .tableOp (2 + 32) 0 [5, 0, 0, 2 ^ 63])] } }
   let cmd : Nat := 2 + 32; let dst : Nat := 0
   let data : List Nat := [5, 0, 0, 2 ^ 63]
   s.dev.mirHead = some (q, m) ∧
   let d : Dev := s.dev.mirPassed q
   m = Mir.tableOp cmd dst data ∧
   let e : Dev := List.foldl (fun d p => d.setI F.CLS_UPD_DATA_DATA p.2 p.1) d data.zipIdx
   let r : Nat × Dev := e.updOp false (cmd % 16) cmd dst
   r.1 = 0) ∧
  (let q : Nat := 0
   let m : Mir := .commit 7
   let s : Machine.State := S { (twinSink.set F.CLS_ACC_STAT_STATE 1) with twn := { awake.twn with recv := [(0, .commit 7)] } }
   let a : Nat := 7; let k : Nat := 0
   s.dev.mirHead = some (q, m) ∧ m = Mir.commit a ∧ s.dev.accState = 1 ∧
   (k = 0 ∧ s.dev.stgState 0 = 0 ∨ k = 1 ∧ s.dev.stgState 0 ≠ 0 ∧ s.dev.stgState 1 = 0)) :=
  ⟨by decide +kernel,
   by decide +kernel,
   by decide +kernel,
   by decide +kernel,
   by decide +kernel,
   by decide +kernel,
   by decide +kernel,
   ⟨by decide, rfl, by decide, rfl, by decide +kernel, by simp [stgCap, Dev.stgSet]⟩,
   by decide +kernel,
   by decide +kernel,
   by decide +kernel,
   by decide +kernel,
   by decide +kernel,
   by decide +kernel⟩

theorem witness_TwinLinkAndMirror_3 :
  (let q : Nat := 0
   let m : Mir := .bucket 3 8191 [1, 2, 3, 4, 5, 6, 7, 8]
   let s : Machine.State := S { twinSink with twn := { awake.twn with recv := [(0, .bucket 3 8191 [1, 2, 3, 4, 5, 6, 7, 8])] } }
   let b : Nat := 3; let i : Nat := 8191
   let sl : List Nat := [1, 2, 3, 4, 5, 6, 7, 8]
   s.dev.mirHead = some (q, m) ∧ m = Mir.bucket b i sl ∧ s.dev.on (bankDomain b) = true) ∧
  (let q : Nat := 0
   let m : Mir := .stash 1016 [1, 2, 3, 4, 5, 6, 7, 8]
   let s : Machine.State := S { twinSink with twn := { awake.twn with recv := [(0, .stash 1016 [1, 2, 3, 4, 5, 6, 7, 8])] } }
   let i : Nat := 1016
   let sl : List Nat := [1, 2, 3, 4, 5, 6, 7, 8]
   s.dev.mirHead = some (q, m) ∧ m = Mir.stash i sl ∧ s.dev.on 14 = true) ∧
  (let q : Nat := 0; let m : Mir := .bulkEnd
   let s : Machine.State := S { (twinSink.set F.TWN_STAT_STATE 4) with twn := { awake.twn with recv := [(0, .bulkEnd)] } }
   s.dev.mirHead = some (q, m) ∧
   let d : Dev := s.dev.mirPassed q
   m = Mir.bulkEnd ∧ s.dev.twinPending = false ∧ d.f F.TWN_STAT_STATE = 4 ∧ d.twn.redo = false) ∧
  (let q : Nat := 0; let m : Mir := .bulkEnd
   let s : Machine.State := S { twinSink with twn := { awake.twn with recv := [(0, .bulkEnd)] } }
   s.dev.mirHead = some (q, m) ∧
   let d : Dev := s.dev.mirPassed q
   m = Mir.bulkEnd ∧ s.dev.twinPending = false ∧ (d.f F.TWN_STAT_STATE ≠ 4 ∨ d.twn.redo = true)) ∧
  (let q : Nat := 0; let m : Mir := .swap
   let s : Machine.State := S { twinSink with twn := { awake.twn with recv := [(0, .swap)] } }
   s.dev.mirHead = some (q, m) ∧ m = Mir.swap) ∧
  (let q : Nat := 0
   let m : Mir := .accession 7
   let s : Machine.State := S { twinSink with twn := { awake.twn with recv := [(0, .accession 7)] } }
   let a : Nat := 7
   s.dev.mirHead = some (q, m) ∧
   let d : Dev := s.dev.mirPassed q
   m = Mir.accession a ∧
   let e : Dev := d.set F.CLS_ACC_CUR_CUR a
   let e' : Dev := { e with twn := { e.twn with redo := false } }
   e'.f F.TWN_STAT_STATE = 5) ∧
  (let q : Nat := 0
   let m : Mir := .accession 7
   let s : Machine.State := S { (twinSink.set F.TWN_STAT_STATE 4) with twn := { awake.twn with recv := [(0, .accession 7)] } }
   let a : Nat := 7
   s.dev.mirHead = some (q, m) ∧
   let d : Dev := s.dev.mirPassed q
   m = Mir.accession a ∧
   let e : Dev := d.set F.CLS_ACC_CUR_CUR a
   let e' : Dev := { e with twn := { e.twn with redo := false } }
   e'.f F.TWN_STAT_STATE ≠ 5) :=
  ⟨by decide +kernel,
   by decide +kernel,
   by decide +kernel,
   by decide +kernel,
   by decide +kernel,
   by decide +kernel,
   by decide +kernel⟩

end Sys2Proof.Tests
end

section
/-! SUPPORT. A field read after an assignment, and a write by access code seen bit by bit (R8, R13, R508). -/

namespace Sys2Proof

/-! Bits of numbers. -/

theorem bit_eq_testBit (n i : Nat) : bit n i = n.testBit i := by
  rw [bit, Nat.testBit_eq_decide_div_mod_eq, Bool.beq_eq_decide_eq]

theorem bits_lt (n lo w : Nat) : bits n lo w < 2 ^ w := Nat.mod_lt _ (Nat.two_pow_pos w)

theorem testBit_bits (n lo : Nat) {w i : Nat} (h : i < w) : (bits n lo w).testBit i = n.testBit (lo + i) := by
  simp [bits, Nat.testBit_mod_two_pow, Nat.testBit_div_two_pow, h, Nat.add_comm]

/-- The complement of a `w`-bit number in `w` bits. -/
theorem testBit_two_pow_sub_one_sub {n w i : Nat} (hn : n < 2 ^ w) (hi : i < w) : (2 ^ w - 1 - n).testBit i = !n.testBit i := by
  rw [Nat.sub_sub, Nat.add_comm 1 n, Nat.testBit_two_pow_sub_succ hn]
  simp [hi]

/-- Numbers without a common bit are added without a carry. -/
theorem testBit_add_of_and_eq_zero {a b w : Nat} (ha : a < 2 ^ w) (hb : b < 2 ^ w) (h : a &&& b = 0) (i : Nat) :
    (a + b).testBit i = (a.testBit i || b.testBit i) := by
  obtain ⟨x, rfl⟩ : ∃ x : BitVec w, x.toNat = a := ⟨BitVec.ofNatLT a ha, rfl⟩
  obtain ⟨y, rfl⟩ : ∃ y : BitVec w, y.toNat = b := ⟨BitVec.ofNatLT b hb, rfl⟩
  have hxy : x &&& y = 0#w := BitVec.eq_of_toNat_eq (by simpa using h)
  rw [← BitVec.toNat_add_of_and_eq_zero hxy, BitVec.add_eq_or_of_and_eq_zero x y hxy, BitVec.toNat_or, Nat.testBit_or]

/-- Two numbers joined under a mask. -/
theorem testBit_merge {v old m w i : Nat} (hm : m < 2 ^ w) (hi : i < w) :
    ((v &&& m) + (old &&& (2 ^ w - 1 - m))).testBit i = if m.testBit i then v.testBit i else old.testBit i := by
  have disjoint : (v &&& m) &&& (old &&& (2 ^ w - 1 - m)) = 0 := by
    refine Nat.eq_of_testBit_eq fun k => ?_
    by_cases hk : k < w
    · simp only [Nat.testBit_and, testBit_two_pow_sub_one_sub hm hk, Nat.zero_testBit]
      cases m.testBit k <;> simp
    · simp [Nat.testBit_lt_two_pow (Nat.lt_of_lt_of_le hm (Nat.pow_le_pow_right Nat.two_pos (Nat.le_of_not_lt hk)))]
  rw [testBit_add_of_and_eq_zero (Nat.and_lt_two_pow _ hm) (Nat.and_lt_two_pow _ (by omega)) disjoint, Nat.testBit_and,
    Nat.testBit_and, testBit_two_pow_sub_one_sub hm hi]
  cases m.testBit i <;> simp

/-! The octet enables of a write, spread over its bits (R508). -/

/-- The bits that the lowest `n` octet enables of a mask allow. -/
def spreadOctets (m : BitVec 8) (n : Nat) : Nat :=
  (List.range n).foldl (fun a i => if m.getLsbD i then a + 255 * 2 ^ (8 * i) else a) 0

theorem RegWr.bitMask_eq_spreadOctets (w : RegWr) : w.bitMask = spreadOctets w.mask 8 := rfl

theorem spreadOctets_succ (m : BitVec 8) (n : Nat) :
    spreadOctets m (n + 1) = 2 ^ (8 * n) * (if m.getLsbD n then 255 else 0) + spreadOctets m n := by
  simp only [spreadOctets, List.range_succ, List.foldl_append, List.foldl_cons, List.foldl_nil]
  split <;> omega

theorem spreadOctets_lt (m : BitVec 8) (n : Nat) : spreadOctets m n < 2 ^ (8 * n) := by
  induction n with
  | zero => simp [spreadOctets]
  | succ n ih =>
    rw [spreadOctets_succ, Nat.mul_succ, Nat.pow_add]
    split <;> omega

theorem testBit_octet (c : Bool) (k : Nat) : (if c then 255 else 0 : Nat).testBit k = (decide (k < 8) && c) := by
  cases c with
  | false => simp
  | true => simpa using Nat.testBit_two_pow_sub_one 8 k

theorem testBit_spreadOctets (m : BitVec 8) (n p : Nat) :
    (spreadOctets m n).testBit p = (decide (p < 8 * n) && m.getLsbD (p / 8)) := by
  induction n with
  | zero => simp [spreadOctets]
  | succ n ih =>
    rw [spreadOctets_succ, Nat.testBit_two_pow_mul_add _ (spreadOctets_lt m n), ih, testBit_octet]
    by_cases below : p < 8 * n
    · simp [below, show p < 8 * (n + 1) by omega]
    · by_cases inside : p < 8 * (n + 1)
      · have hn : p / 8 = n := by omega
        simp [below, inside, hn, show p - 8 * n < 8 by omega]
      · simp [below, inside, show ¬ p - 8 * n < 8 by omega]

theorem RegWr.testBit_bitMask (w : RegWr) {p : Nat} (hp : p < 64) : w.bitMask.testBit p = w.mask.getLsbD (p / 8) := by
  simp [RegWr.bitMask_eq_spreadOctets, testBit_spreadOctets, hp]

/-! The value that a write gives to a field, bit by bit. -/

theorem RegWr.fld_lt (w : RegWr) (x : Machine.Fld) : w.fld x < 2 ^ x.w := bits_lt _ _ _

/-- What a W1C field sees of a write: the written bits whose octets are enabled. -/
theorem RegWr.testBit_fld (w : RegWr) {x : Machine.Fld} {b : Nat} (hx : x.lo + x.w ≤ 64) (hb : b < x.w) :
    (w.fld x).testBit b = (w.mask.getLsbD ((x.lo + b) / 8) && w.data.getLsbD (x.lo + b)) := by
  rw [RegWr.fld, testBit_bits _ _ hb, RegWr.val, Nat.testBit_and, BitVec.testBit_toNat, w.testBit_bitMask (by omega), Bool.and_comm]

/-- What an RW field takes of a write: the written bit where its octet is enabled, the old one elsewhere. -/
theorem RegWr.testBit_merged (w : RegWr) (old : Nat) {x : Machine.Fld} {b : Nat} (hx : x.lo + x.w ≤ 64) (hb : b < x.w) :
    (w.merged x old).testBit b =
      if w.mask.getLsbD ((x.lo + b) / 8) then w.data.getLsbD (x.lo + b) else old.testBit b := by
  rw [RegWr.merged, testBit_merge (bits_lt _ _ _) hb, testBit_bits _ _ hb, testBit_bits _ _ hb, BitVec.testBit_toNat,
    w.testBit_bitMask (by omega)]

namespace Machine

/-! A write of one field by its access code (R8). -/

section
variable {x : Fld} {b : Nat}

theorem Dev.put_rw (d : Dev) (w : RegWr) (i j : Nat) (h : x.acc = .rw) :
    d.put x w i j = d.setIJ x i j (w.merged x (d.f x i j)) := by
  simp [Dev.put, h]

theorem Dev.put_w1c (d : Dev) (w : RegWr) (i j : Nat) (h : x.acc = .w1c) :
    d.put x w i j = d.setIJ x i j (d.f x i j &&& (2 ^ x.w - 1 - w.fld x)) := by
  simp [Dev.put, h]

theorem Dev.put_ignored (d : Dev) (w : RegWr) (i j : Nat)
    (h : x.acc = .ro ∨ x.acc = .rc ∨ x.acc = .wo ∨ x.acc = .st ∨ x.acc = .se) : d.put x w i j = d := by
  obtain h | h | h | h | h := h <;> simp [Dev.put, h]

/-- Whatever its access code, a write of a field leaves the device as it was or assigns to that field. -/
theorem Dev.put_cases (d : Dev) (x : Fld) (w : RegWr) (i j : Nat) : d.put x w i j = d ∨ ∃ v, d.put x w i j = d.setIJ x i j v := by
  unfold Dev.put
  split
  · exact .inr ⟨_, rfl⟩
  · exact .inr ⟨_, rfl⟩
  · exact .inr ⟨_, rfl⟩
  · exact .inl rfl

theorem Dev.f_put_ne (d : Dev) (x y : Fld) (w : RegWr) (i j k l : Nat) (h : y.isAux ≠ x.isAux ∨ y.key k l ≠ x.key i j) :
    (d.put x w i j).f y k l = d.f y k l := by
  obtain hp | ⟨v, hp⟩ := d.put_cases x w i j
  · rw [hp]
  · rw [hp, Dev.f_setIJ_ne d x y i j k l v h]

theorem Dev.bit_f_setIJ (d : Dev) (i j v : Nat) (hb : b < x.w) : bit ((d.setIJ x i j v).f x i j) b = v.testBit b := by
  rw [Dev.f_setIJ_same, bit_eq_testBit, Nat.testBit_mod_two_pow, decide_eq_true hb, Bool.true_and]

theorem Dev.bit_f_put_rw (d : Dev) (w : RegWr) (i j : Nat) (h : x.acc = .rw) (hx : x.lo + x.w ≤ 64) (hb : b < x.w) :
    bit ((d.put x w i j).f x i j) b =
      if w.mask.getLsbD ((x.lo + b) / 8) then w.data.getLsbD (x.lo + b) else bit (d.f x i j) b := by
  rw [d.put_rw w i j h, d.bit_f_setIJ i j _ hb, RegWr.testBit_merged w _ hx hb, bit_eq_testBit]

theorem Dev.bit_f_put_w1c (d : Dev) (w : RegWr) (i j : Nat) (h : x.acc = .w1c) (hx : x.lo + x.w ≤ 64) (hb : b < x.w) :
    bit ((d.put x w i j).f x i j) b =
      (bit (d.f x i j) b && !(w.mask.getLsbD ((x.lo + b) / 8) && w.data.getLsbD (x.lo + b))) := by
  rw [d.put_w1c w i j h, d.bit_f_setIJ i j _ hb, Nat.testBit_and, testBit_two_pow_sub_one_sub (w.fld_lt x) hb,
    RegWr.testBit_fld w hx hb, bit_eq_testBit]

end

/-- Settles O9: the read of the assigned field and the frame of an assignment are the two laws of register fields. -/
theorem fieldAssignment : Obligations.FieldAssignment := by
  intro d x i j v
  exact ⟨Dev.f_setIJ_same d x i j v, fun y k l h => Dev.f_setIJ_ne d x y i j k l v h⟩

/-- Settles O13: one law per access code, and the frame that all of them share. -/
theorem accessCodesBitByBit : Obligations.AccessCodesBitByBit := by
  intro d x w i j b hx hb _ on v
  exact ⟨fun h => d.bit_f_put_rw w i j h hx hb, fun h => d.bit_f_put_w1c w i j h hx hb, d.put_ignored w i j,
    fun y k l h => d.f_put_ne x y w i j k l h⟩

end Machine
end Sys2Proof
end

section
/-! SUPPORT. What several rows share: a register row that passes the gates leaves the state after its effect. -/

namespace Sys2Proof.Machine

/-- A row that is one gated register write, which passes the gates (R495, R508, R509). -/
theorem run_gated (s : State) (off : Nat) (w : RegWr) {g : Dev → Dev} {e : Dev} (hp : s.dev.passes w.agent off) (hg : g s.dev = e) :
    s.run (fun d => d.gated off w g) = .next (s.after ((e.respond .done).accessed s.dev w.agent off)) :=
  run_after s _ _ (by rw [gated_passes s.dev off w g hp, hg])

theorem Dev.b_eq_true {d : Dev} {x : Fld} {i j : Nat} : d.b x i j = true ↔ d.f x i j ≠ 0 := bne_iff_ne

theorem Dev.b_eq_false {d : Dev} {x : Fld} {i j : Nat} : d.b x i j = false ↔ d.f x i j = 0 := by simp [Dev.b]

end Sys2Proof.Machine
end

section
/-! The switch of a domain (R417, R418, R490, R521). -/

namespace Sys2Proof

/-- A filter on keys keeps an entry with its key, or drops it with its key. -/
theorem SMap.look_filter_key {α : Type} (q : Nat → Bool) (k : Nat) (m : SMap α) :
    SMap.look k (m.filter (fun p => q p.1)) = if q k then SMap.look k m else none := by
  induction m with
  | nil => simp [SMap.look]
  | cons p t ih =>
    obtain ⟨k', v⟩ := p
    by_cases hk : k' = k
    · subst hk
      cases hq : q k' <;> simp [SMap.look, hq, ih]
    · cases hq : q k' <;> simp [SMap.look, hq, hk, ih]

namespace Machine

/-- A switch of domain `k` waits for it to stand in the power state `p` (R417). -/
theorem not_otherState {d : Dev} {k p : Nat} (hk : 1 ≤ k) (hk' : k ≤ 32) (h : d.f F.PWR_DOM_PSTATE k = p) :
    ¬ (k == 0 || k > 32 || d.f F.PWR_DOM_PSTATE k != p) = true := by
  simp [h]; omega

/-- Whether a key of the register files stays when domain `k` loses its registers (R521). -/
def keyStays (k key : Nat) : Bool := domainOf (key / 64) != k || keyKeep key != .lost

theorem Dev.f_regsLost (d : Dev) (k : Nat) (x : Fld) (i j : Nat) :
    (d.regsLost k).f x i j = if keyStays k (x.key i j) then d.f x i j else x.rst := by
  have look : ∀ m : SMap Nat, SMap.getD (m.filter (fun p => keyStays k p.1)) (x.key i j) x.rst =
      if keyStays k (x.key i j) then SMap.getD m (x.key i j) x.rst else x.rst := by
    intro m
    rw [SMap.getD, SMap.look_filter_key]
    split <;> rfl
  cases hx : x.isAux
  · simpa [Dev.f, hx, Dev.regsLost, keyStays] using look d.regs
  · simpa [Dev.f, hx, Dev.regsLost, keyStays] using look d.aux

theorem Dev.f_regsLost_otherDomain (d : Dev) (k : Nat) (x : Fld) (i j : Nat) (h : domainOf (x.key i j / 64) ≠ k) :
    (d.regsLost k).f x i j = d.f x i j := by
  rw [d.f_regsLost, if_pos (by simp [keyStays, h])]

theorem Dev.f_regsLost_lost (d : Dev) (k : Nat) (x : Fld) (i j : Nat) (h : domainOf (x.key i j / 64) = k)
    (hl : keyKeep (x.key i j) = .lost) : (d.regsLost k).f x i j = x.rst := by
  rw [d.f_regsLost, if_neg (by simp [keyStays, h, hl])]

theorem Dev.domainOff_poweringDown {d : Dev} {k : Nat} (hk : 1 ≤ k) (hk' : k ≤ 32) (h : d.f F.PWR_DOM_PSTATE k = 3) :
    d.domainOff k =
      (((if k = 11 then { d with ds := { d.ds with filterOpen := false } } else if k = 3 then d.rxCut else d : Dev).contentLost k).regsLost
        k).setI F.PWR_DOM_PSTATE k 0 := by
  rw [Dev.domainOff, if_neg (not_otherState hk hk' h)]
  simp only [beq_iff_eq]

theorem Dev.domainOn_poweringUp {d : Dev} {k : Nat} (up : List Upset) (hk : 1 ≤ k) (hk' : k ≤ 32) (h : d.f F.PWR_DOM_PSTATE k = 1) :
    d.domainOn k up = ((d.restoreFaults k up).setI F.PWR_DOM_PSTATE k 2).domainReady k := by
  rw [Dev.domainOn, if_neg (not_otherState hk hk' h)]

/-- Settles O24: the two switches act on a domain that stands in the state they wait for, and the registers lost are those of the domain
that nothing keeps. -/
theorem domainSwitches : Obligations.DomainSwitches := by
  refine ⟨fun k s hk hk' hp => ?_, fun k up s hk hk' hp => ?_, Dev.f_regsLost_otherDomain, Dev.f_regsLost_lost⟩
  · exact (exec_domainPowerDownDone k s).trans (run_after s _ _ (Dev.domainOff_poweringDown hk hk' hp))
  · exact (exec_domainPowerUpDone k up s).trans (run_after s _ _ (Dev.domainOn_poweringUp up hk hk' hp))

end Machine
end Sys2Proof
end

section
/-! The commands of the Sluice channels (R279, R281, R285, R286, R299, R302). -/

namespace Sys2Proof.Machine

/-! One channel of the store. -/

@[simp] theorem Dev.ch_chPut (d : Dev) (c : Nat) (x : SlcCh) : (d.chPut c x).ch c = x := SMap.getD_store_same _ _ _ _

theorem Dev.slcPond_iff {d : Dev} {c : Nat} : d.slcPond c = true ↔ d.f F.SLC_CH_CFG_DEFER c = 0 ∨ d.f F.PWR_POND_LVL_STATE = 0 := by
  simp [Dev.slcPond, Dev.b]

/-! A write of a Sluice register, with and without a fabric (R29, R279). -/

section
variable {d : Dev} (c : Nat)

theorem Dev.slcWired_fabric (g : Dev → Dev) (h : d.f F.ID_INTEG_FAB_WIRED ≠ 0) : d.slcWired c g = g d :=
  if_pos (Dev.b_eq_true.2 h)

theorem Dev.slcWired_noFabric (g : Dev → Dev) (h : d.f F.ID_INTEG_FAB_WIRED = 0) : d.slcWired c g = d.slcRefuse c 5 :=
  if_neg (by simp [Dev.b_eq_false.2 h])

/-! What each command does to the channel, by its state. -/

theorem Dev.slcGo_fresh (h : (d.ch c).state = 0 ∨ (d.ch c).state = 5)
    (ha : d.f F.SLC_CH_PROG_BASE c % (if d.slcRing c then 64 else 16) = 0) :
    d.slcGo c = (d.slcLoopClear c).slcStart c { burst := (d.ch c).burst, prog := (d.ch c).prog } := by
  rw [Dev.slcGo, if_neg (by simp; omega), if_neg (by simp [ha])]

theorem Dev.slcGo_unaligned (h : (d.ch c).state = 0 ∨ (d.ch c).state = 5)
    (ha : d.f F.SLC_CH_PROG_BASE c % (if d.slcRing c then 64 else 16) ≠ 0) : d.slcGo c = d.slcRefuse c 4 := by
  rw [Dev.slcGo, if_neg (by simp; omega), if_pos (by simp [ha])]

theorem Dev.slcGo_busy (h : (d.ch c).state ≠ 0) (h' : (d.ch c).state ≠ 5) : d.slcGo c = d.slcRefuse c 2 := by
  rw [Dev.slcGo, if_pos (by simp [h, h'])]

theorem Dev.slcStop_idle (h : (d.ch c).state = 7 ∨ (d.ch c).state = 3) :
    d.slcStop c = (d.slcDropAhead c).chPut c { (d.slcDropAhead c).ch c with state := 5, idx := (d.ch c).next, octets := 0 } := by
  rw [Dev.slcStop, if_pos (by simpa using h)]

/-- Where a stopped channel resumes: at the WAIT not yet satisfied, else at its next instruction (R285). -/
def SlcCh.resumeAt (x : SlcCh) : Nat := match x.waiter with | some y => y.idx | none => x.next

theorem Dev.slcStop_running (h : (d.ch c).state = 1 ∨ (d.ch c).state = 2) :
    d.slcStop c = ((d.slcDropAhead c).chPut c { (d.slcDropAhead c).ch c with
      state := 4, pausing := false, awaits := none, hit := false, next := (d.ch c).resumeAt
      prog := (d.ch c).prog.filter (fun y => !y.hold) }).slcStand c := by
  rw [Dev.slcStop, if_neg (by simp; omega), if_pos (by simpa using h)]
  rfl

theorem Dev.slcResume_stopped (h : (d.ch c).state = 5) : d.slcResume c = d.slcStart c (d.ch c) := by
  rw [Dev.slcResume, if_neg (by simp [h])]

theorem Dev.slcResume_otherwise (h : (d.ch c).state ≠ 5) : d.slcResume c = d.slcRefuse c 3 := by
  rw [Dev.slcResume, if_pos (by simp [h])]

theorem Dev.slcReread_polling (h : (d.ch c).state = 7) (hf : (d.ch c).fetch = none) :
    d.slcReread c = (d.chPut c { d.ch c with fetch := some (d.ch c).burst, burst := (d.ch c).burst + 1 }).slcReq c false (d.ch c).burst
      (d.slcAddr c (d.ch c).next) 32 [] := by
  rw [Dev.slcReread, if_neg (by simp [h, hf])]

theorem Dev.slcClear_failed (h : (d.ch c).state = 6) :
    d.slcClear c = (d.fabAbandon (fun r => ((d.ch c).prog.flatMap (fun y => y.reads.map (·.1) ++ y.tblRead.toList)).any
      (fun b => r.kind == FabKind.slcRead c b))).chPut c { d.ch c with state := 0, prog := [] } := by
  rw [Dev.slcClear, if_neg (by simp [h])]

theorem Dev.slcClear_otherwise (h : (d.ch c).state ≠ 6) : d.slcClear c = d.slcRefuse c 6 := by
  rw [Dev.slcClear, if_pos (by simp [h])]

/-- A stopping channel with nothing in progress stands: STOPPED, or PAUSED where the pond stopped it (R285, R286). -/
theorem Dev.slcStand_stopping (hp : (d.ch c).prog = []) (h : (d.ch c).state = 4) :
    d.slcStand c = (d.slcDropAhead c).chPut c { (d.slcDropAhead c).ch c with
      state := if (d.ch c).pausing then 3 else 5, idx := (d.ch c).next, octets := 0, pausing := false } := by
  rw [Dev.slcStand, if_neg (by simp [hp]), if_pos (by simp [h])]

/-- A running channel in native mode that holds nothing ahead reads the 64 octets around its next instruction (R281). -/
theorem Dev.slcFetch_native (h : (d.ch c).state = 1) (hb : (d.ch c).fetchBad = false) (hf : (d.ch c).fetch = none)
    (ha : (d.ch c).ahead = []) (hr : d.slcRing c = false) (hn : (d.ch c).next ≤ 65535) :
    d.slcFetch c = (d.chPut c { d.ch c with fetch := some (d.ch c).burst, burst := (d.ch c).burst + 1 }).slcReq c false (d.ch c).burst
      ((d.f F.SLC_CH_PROG_BASE c + 16 * (d.ch c).next) / 64 * 64) 64 [] := by
  rw [Dev.slcFetch, if_neg (by simp [h, hb, hf, ha]), if_neg (by simp [hr]), if_neg (by simp [hr, hn])]
  simp [Dev.slcAddr, hr]

/-- The channel waits for one of the flags of a mask (R293). -/
def SlcCh.awaitsFlag (x : SlcCh) (mask : Nat) : Bool := x.prog.any (fun y => y.hold && bit y.w0 56 && bit mask (bits y.w0 0 11))

theorem Dev.slcFlagSet_unawaited (mask : Nat)
    (h : ((d.setI F.SLC_FLAGS_FLAGS c (d.f F.SLC_FLAGS_FLAGS c ||| mask)).ch c).awaitsFlag mask = false) :
    d.slcFlagSet c mask = d.setI F.SLC_FLAGS_FLAGS c (d.f F.SLC_FLAGS_FLAGS c ||| mask) :=
  if_neg (ne_true_of_eq_false h)

theorem Dev.slcFlagSet_awaited (mask : Nat)
    (h : ((d.setI F.SLC_FLAGS_FLAGS c (d.f F.SLC_FLAGS_FLAGS c ||| mask)).ch c).awaitsFlag mask = true) :
    d.slcFlagSet c mask = (d.setI F.SLC_FLAGS_FLAGS c (d.f F.SLC_FLAGS_FLAGS c ||| mask)).chPut c
      { (d.setI F.SLC_FLAGS_FLAGS c (d.f F.SLC_FLAGS_FLAGS c ||| mask)).ch c with hit := true } :=
  if_pos h

end

/-! The rows. -/

/-- What the command bit `v` of SLC_CH_CMD asks of a channel. -/
def Dev.slcCommand (d : Dev) (v c : Nat) : Dev :=
  match v with
  | 1 => d.slcGo c
  | 2 => d.slcStop c
  | 4 => d.slcResume c
  | 8 => d.slcReread c
  | _ => d.slcClear c

/-- `i` is the row of SLC_CH_CMD with the one command bit `v`. -/
def slcRowOf (v c : Nat) (w : RegWr) (i : Instr) : Prop :=
  (v = 1 ∧ i = .slcGo c w) ∨ (v = 2 ∧ i = .slcStop c w) ∨ (v = 4 ∧ i = .slcResume c w) ∨ (v = 8 ∧ i = .slcKick c w) ∨
    (v = 16 ∧ i = .slcClear c w)

theorem Dev.writeSlcCmd_command {v c : Nat} {w : RegWr} {i : Instr} {d : Dev} (hi : slcRowOf v c w i) (hv : w.val % 32 = v)
    (hw : d.f F.ID_INTEG_FAB_WIRED ≠ 0) : Dev.writeSlcCmd c w d = d.slcCommand v c := by
  rw [Dev.writeSlcCmd, Dev.slcWired_fabric c _ hw, hv]
  obtain ⟨rfl, -⟩ | ⟨rfl, -⟩ | ⟨rfl, -⟩ | ⟨rfl, -⟩ | ⟨rfl, -⟩ := hi <;> rfl

theorem exec_slcRow {v c : Nat} {w : RegWr} {i : Instr} (s : State) (hi : slcRowOf v c w i) :
    exec i s = s.run (Dev.slcRow v c w) := by
  obtain ⟨rfl, rfl⟩ | ⟨rfl, rfl⟩ | ⟨rfl, rfl⟩ | ⟨rfl, rfl⟩ | ⟨rfl, rfl⟩ := hi
  · exact exec_slcGo c w s
  · exact exec_slcStop c w s
  · exact exec_slcResume c w s
  · exact exec_slcKick c w s
  · exact exec_slcClear c w s

/-- A command row that passes the gates leaves the state after its write of SLC_CH_CMD. -/
theorem exec_slcRow_passes {v c : Nat} {w : RegWr} {i : Instr} {s : State} {e : Dev} (hi : slcRowOf v c w i) (hc : c < 16)
    (hp : s.dev.passes w.agent (0x140010 + 0x40 * c)) (hv : w.val % 32 = v) (he : Dev.writeSlcCmd c w s.dev = e) :
    exec i s = .next (s.after ((e.respond .done).accessed s.dev w.agent (0x140010 + 0x40 * c))) := by
  rw [exec_slcRow s hi]
  refine run_after s _ _ ?_
  rw [Dev.slcRow, if_neg (by simp [hv, hc]), gated_passes _ _ _ _ hp, he]

/-! The clauses. -/

/-- Where a fabric is wired, the write is the command its bit asks for (R279). -/
theorem exec_slcRow_wired {v c : Nat} {w : RegWr} {i : Instr} {s : State} {e : Dev} (hi : slcRowOf v c w i) (hc : c < 16)
    (hp : s.dev.passes w.agent (0x140010 + 0x40 * c)) (hv : w.val % 32 = v) (hw : s.dev.f F.ID_INTEG_FAB_WIRED ≠ 0)
    (he : s.dev.slcCommand v c = e) :
    exec i s = .next (s.after ((e.respond .done).accessed s.dev w.agent (0x140010 + 0x40 * c))) :=
  exec_slcRow_passes hi hc hp hv ((Dev.writeSlcCmd_command hi hv hw).trans he)

theorem Dev.slcStart_eq (d : Dev) (c : Nat) (x : SlcCh) :
    d.slcStart c x = (d.chPut c { x with
      state := if d.f F.SLC_CH_CFG_DEFER c = 0 ∨ d.f F.PWR_POND_LVL_STATE = 0 then 1 else 3, pausing := false }).slcFetch c := by
  simp only [Dev.slcStart, Dev.slcPond_iff]

theorem Dev.writeSlcCfg_wired {d : Dev} (c : Nat) (prog : Bool) (w : RegWr) (hw : d.f F.ID_INTEG_FAB_WIRED ≠ 0) :
    Dev.writeSlcCfg c prog w d =
      if (d.ch c).state = 0 ∨ (d.ch c).state = 5 ∨ (d.ch c).state = 6 then
        d.putAll (fldsAt ((if prog then 0x140008 else 0x140000) + 0x40 * c)) w
      else d.slcRefuse c 1 := by
  rw [Dev.writeSlcCfg, Dev.slcWired_fabric c _ hw]
  by_cases h : (d.ch c).state = 0 ∨ (d.ch c).state = 5 ∨ (d.ch c).state = 6
  · rw [if_pos h]; exact if_neg (by simp; omega)
  · rw [if_neg h]; exact if_pos (by simp; omega)

theorem exec_slcCfgWrite_passes {c : Nat} {prog : Bool} {w : RegWr} {s : State} {e : Dev} (hc : c < 16)
    (hp : s.dev.passes w.agent ((if prog then 0x140008 else 0x140000) + 0x40 * c)) (he : Dev.writeSlcCfg c prog w s.dev = e) :
    exec (.slcCfgWrite c prog w) s = .next (s.after ((e.respond .done).accessed s.dev w.agent
      ((if prog then 0x140008 else 0x140000) + 0x40 * c))) := by
  rw [exec_slcCfgWrite]
  refine run_after s _ _ ?_
  rw [if_neg (by simpa using hc), gated_passes _ _ _ _ hp, he]

theorem exec_slcFlagSet_passes {w : RegWr} {s : State} {e : Dev} (hw : s.dev.f F.ID_INTEG_FAB_WIRED ≠ 0)
    (hp : s.dev.passes w.agent 0x140480) (he : s.dev.slcFlagSet (w.fld F.SLC_FLAG_SET_CH) (w.fld F.SLC_FLAG_SET_MASK) = e) :
    exec (.slcFlagSet w) s = .next (s.after ((e.respond .done).accessed s.dev w.agent 0x140480)) :=
  (exec_slcFlagSet w s).trans (run_gated s 0x140480 w hp ((Dev.slcWired_fabric _ _ hw).trans he))

/-- Settles O50: a row that passes the gates is its command, and each command is a case of the channel's state. -/
theorem sluiceCommands : Obligations.SluiceCommands := by
  refine ⟨?commands, fun c d hp h => Dev.slcStand_stopping c hp h, fun c d h _ hb hf ha hr hn => Dev.slcFetch_native c h hb hf ha hr hn,
    ?config, ?flags, ?poll⟩
  case commands =>
    intro c v w i s hc hp hv hi x no run
    have row {e : Dev} (he : Dev.writeSlcCmd c w s.dev = e) := exec_slcRow_passes hi hc hp hv he
    refine ⟨fun hw => row (Dev.slcWired_noFabric c _ hw), fun hw => ?_⟩
    have cmd {e : Dev} (he : s.dev.slcCommand v c = e) := exec_slcRow_wired hi hc hp hv hw he
    refine ⟨?_, ?_, ?_, ?_, ?_, ?_, ?_, ?_, ?_, ?_⟩
    · rintro rfl hst ha; exact cmd (Dev.slcGo_fresh c hst ha)
    · rintro rfl hst ha; exact cmd (Dev.slcGo_unaligned c hst ha)
    · rintro rfl h0 h5; exact cmd (Dev.slcGo_busy c h0 h5)
    · rintro rfl hst; exact cmd (Dev.slcStop_idle c hst)
    · rintro rfl hst; exact cmd (Dev.slcStop_running c hst)
    · rintro rfl hst; exact cmd ((Dev.slcResume_stopped c hst).trans (s.dev.slcStart_eq c _))
    · rintro rfl hst; exact cmd (Dev.slcResume_otherwise c hst)
    · rintro rfl hst hf; exact cmd (Dev.slcReread_polling c hst hf)
    · rintro rfl hst; exact cmd (Dev.slcClear_failed c hst)
    · rintro rfl hst; exact cmd (Dev.slcClear_otherwise c hst)
  case config =>
    intro c prog w s off st hc hp hw
    have row {e : Dev} (he : Dev.writeSlcCfg c prog w s.dev = e) := exec_slcCfgWrite_passes hc hp he
    refine ⟨fun hst => row ?_, fun h0 h5 h6 => row ?_⟩
    · exact (Dev.writeSlcCfg_wired c prog w hw).trans (if_pos hst)
    · exact (Dev.writeSlcCfg_wired c prog w hw).trans (if_neg (by omega))
  case flags =>
    intro w s hw
    refine ⟨fun hp => ⟨fun hh => ?_, fun hh => ?_⟩, fun hp => ?_⟩
    · exact exec_slcFlagSet_passes hw hp (Dev.slcFlagSet_unawaited _ _ hh)
    · exact exec_slcFlagSet_passes hw hp (Dev.slcFlagSet_awaited _ _ hh)
    · rw [exec_slcFlagClr]
      exact run_gated s 0x140488 w hp (Dev.slcWired_fabric _ _ hw)
  case poll =>
    intro c s x hc hon hpoll hst hf
    rw [exec_slcPollReread]
    refine run_after s _ _ ?_
    rw [if_pos (by simp [hc, hon, hpoll]), Dev.slcReread_polling c hst hf]

end Sys2Proof.Machine
end

section
/-! Pairing of the twin: TWIN_CTL, TWN_CTL.EN, TWN_CMD, and the MB3 messages (R348, R351, R445, R446, R449, R460). -/

namespace Sys2Proof.Machine

/-! A request of the host in MB0 (R344, R351). -/

/-- A well-formed request that waits in MB0 runs its row (R344). -/
theorem Dev.mbReq_mb0 {d : Dev} {ty len : Nat} (h : d.mbHas 0 ty len) (g : Dev → Dev) : d.mbReq 0 ty len g = g d := by
  obtain ⟨hon, howner, hopen, hty, hlen⟩ := h
  have hrun : d.docentRuns = true := by simpa using hopen
  have howned : d.mbOwned 0 = true := Dev.b_eq_true.2 howner
  rw [Dev.mbReq, if_neg (by simp [hon, howned, hrun, Dev.mbWord, hty]), if_neg (by simp [Dev.mbWord, hlen])]

/-- What Docent does with a TWIN_CTL of operation `op` (R351, R445, R460). -/
def Dev.twinCtlAsked (d : Dev) (op : Nat) : Dev :=
  if !d.b F.ID_INTEG_TWIN_WIRED then d.mbRespond 0 0x0C []
  else match op with
    | 1 => if d.f F.TWN_STAT_STATE != 2 then d.mbRespond 0 4 [] else (d.mbRespond 0 0 []).twnAttach
    | 2 => (d.mbRespond 0 0 []).twnDetach
    | 3 =>
      if !d.mb3Open then d.mbRespond 0 0x0C []
      else if d.f F.TWN_STAT_STATE != 5 || d.f F.TWN_STAT_SWITCH_PHASE != 0 then d.mbRespond 0 4 []
      else if d.twn.mbReq.isSome then d.mbRespond 0 6 []
      else ({ d.mbRespond 0 0 [] with twn := { d.twn with hold := d.f F.TWN_CTL_HOLD } } : Dev).mb3Request 3
        [BitVec.ofNat 64 (d.f F.TWN_CTL_HOLD * 2 ^ 16)]
    | _ => d.mbRespond 0 3 []

/-- The operation that the TWIN_CTL in MB0 asks for. -/
def Dev.twinOp (d : Dev) : Nat := bits (d.f F.MBX_AREA_DATA 0 1) 0 4

/-- A row takes the request that asks for its operation, and one that asks for no row's. -/
theorem Dev.twinCtl_taken {d : Dev} {op : Nat} (h : d.mbHas 0 6 8) (ho : d.twinOp = op ∨ d.twinOp = 0 ∨ 3 < d.twinOp) :
    d.twinCtl op = d.twinCtlAsked d.twinOp := by
  have hmine : ¬ (d.twinOp != op && 1 ≤ d.twinOp && d.twinOp ≤ 3) = true := by simp; omega
  exact (if_neg hmine).trans (Dev.mbReq_mb0 h _)

section
variable {d : Dev}

theorem Dev.twinCtlAsked_unwired (op : Nat) (h : ¬ d.f F.ID_INTEG_TWIN_WIRED ≠ 0) : d.twinCtlAsked op = d.mbRespond 0 0x0C [] :=
  if_pos (by simp [Dev.b, not_not.1 h])

theorem Dev.not_unwired (h : d.f F.ID_INTEG_TWIN_WIRED ≠ 0) : ¬ (!d.b F.ID_INTEG_TWIN_WIRED) = true := by simp [Dev.b, h]

theorem Dev.twinCtlAsked_noRow {op : Nat} (h : d.f F.ID_INTEG_TWIN_WIRED ≠ 0) (ho : op = 0 ∨ 3 < op) :
    d.twinCtlAsked op = d.mbRespond 0 3 [] := by
  obtain rfl | ho := ho
  · exact if_neg (Dev.not_unwired h)
  · obtain ⟨k, rfl⟩ : ∃ k, op = k + 4 := ⟨op - 4, by omega⟩
    exact if_neg (Dev.not_unwired h)

theorem Dev.twinCtlAsked_attach (h : d.f F.ID_INTEG_TWIN_WIRED ≠ 0) :
    d.twinCtlAsked 1 = if d.f F.TWN_STAT_STATE = 2 then (d.mbRespond 0 0 []).twnAttach else d.mbRespond 0 4 [] := by
  rw [Dev.twinCtlAsked, if_neg (Dev.not_unwired h)]
  by_cases hs : d.f F.TWN_STAT_STATE = 2 <;> simp [hs]

theorem Dev.twinCtlAsked_detach (h : d.f F.ID_INTEG_TWIN_WIRED ≠ 0) : d.twinCtlAsked 2 = (d.mbRespond 0 0 []).twnDetach := by
  rw [Dev.twinCtlAsked, if_neg (Dev.not_unwired h)]

theorem Dev.twinCtlAsked_switchover (h : d.f F.ID_INTEG_TWIN_WIRED ≠ 0) :
    d.twinCtlAsked 3 =
      if d.mb3Open = false then d.mbRespond 0 0x0C []
      else if d.f F.TWN_STAT_STATE ≠ 5 ∨ d.f F.TWN_STAT_SWITCH_PHASE ≠ 0 then d.mbRespond 0 4 []
      else if d.twn.mbReq ≠ none then d.mbRespond 0 6 []
      else ({ d.mbRespond 0 0 [] with twn := { d.twn with hold := d.f F.TWN_CTL_HOLD } } : Dev).mb3Request 3
        [BitVec.ofNat 64 (d.f F.TWN_CTL_HOLD * 2 ^ 16)] := by
  rw [Dev.twinCtlAsked, if_neg (Dev.not_unwired h)]
  simp [Option.isSome_iff_ne_none]

end

/-- The row of one TWIN_CTL operation, at a request for the operation `asked`. -/
theorem exec_twinCtl_taken {op asked : Nat} {i : Instr} {s : State} {e : Dev} (hi : exec i s = s.run (Dev.twinCtl op))
    (h : s.dev.mbHas 0 6 8) (ha : s.dev.twinOp = asked) (ho : asked = op ∨ asked = 0 ∨ 3 < asked)
    (he : s.dev.twinCtlAsked asked = e) : exec i s = .next (s.after e) := by
  subst ha
  exact hi.trans (run_after s _ _ ((Dev.twinCtl_taken h ho).trans he))

/-! A write of TWN_CTL (R29, R445). -/

/-- The link is down, and what the pair had under way is dropped (R445). -/
def Dev.twnEnded (d : Dev) : Dev :=
  { d.twnFlush.linkDown with twn := { d.twnFlush.linkDown.twn with sent := none, detected := false, yields := false } }

/-- What a change of TWN_CTL.EN does: 0 to 1 starts TRAINING where PD30 is powered, 1 to 0 ends the pairing. -/
def Dev.twnEnMoved (d : Dev) (was en : Bool) : Dev :=
  if en == was then d
  else if en then (if d.on 30 then d.linkDown.twnMove 1 else d).roleNote.twinCast
  else (if d.twnEnded.f F.TWN_STAT_STATE != 0 then d.twnEnded.twnMove 0 else d.twnEnded).roleNote.twinCast

/-- A write of TWN_CTL, by EN before it and EN after it; EN = 1 is ignored where no twin is wired. -/
theorem Dev.writeTwnCtl_eq {d : Dev} {w : RegWr} {was en : Bool} (hle : d.f F.TWN_CTL_EN ≤ 1)
    (hwas : d.f F.TWN_CTL_EN ≠ 0 ↔ was = true)
    (hen : w.merged F.TWN_CTL_EN (d.f F.TWN_CTL_EN) = 1 ∧ (d.f F.TWN_CTL_EN ≠ 0 ∨ d.f F.ID_INTEG_TWIN_WIRED ≠ 0) ↔ en = true) :
    Dev.writeTwnCtl w d =
      ((d.putAll ((fldsAt 0x1E0000).filter (fun p => p.1.lo != 0)) w).setB F.TWN_CTL_EN en).twnEnMoved was en := by
  have hb : d.b F.TWN_CTL_EN = was := Bool.eq_iff_iff.2 (Dev.b_eq_true.trans hwas)
  have hold : b2n (d.b F.TWN_CTL_EN) = d.f F.TWN_CTL_EN := by
    simp only [Dev.b, b2n, bne_iff_ne]
    split <;> omega
  have hnew : (w.merged F.TWN_CTL_EN (b2n (d.b F.TWN_CTL_EN)) == 1 && (d.b F.TWN_CTL_EN || d.b F.ID_INTEG_TWIN_WIRED)) = en := by
    rw [Bool.eq_iff_iff, ← hen, hold]
    simp [Dev.b]
  rw [← hb, ← hnew]
  unfold Dev.writeTwnCtl
  rfl

theorem exec_twnEnWrite_passes {w : RegWr} {s : State} {was en : Bool} {e : Dev} (hp : s.dev.passes w.agent 0x1E0000)
    (hle : s.dev.f F.TWN_CTL_EN ≤ 1) (hwas : s.dev.f F.TWN_CTL_EN ≠ 0 ↔ was = true)
    (hen : w.merged F.TWN_CTL_EN (s.dev.f F.TWN_CTL_EN) = 1 ∧
      (s.dev.f F.TWN_CTL_EN ≠ 0 ∨ s.dev.f F.ID_INTEG_TWIN_WIRED ≠ 0) ↔ en = true)
    (he : ((s.dev.putAll ((fldsAt 0x1E0000).filter (fun p => p.1.lo != 0)) w).setB F.TWN_CTL_EN en).twnEnMoved was en = e) :
    exec (.twnEnWrite w) s = .next (s.after ((e.respond .done).accessed s.dev w.agent 0x1E0000)) :=
  (exec_twnEnWrite w s).trans (run_gated s _ w hp ((Dev.writeTwnCtl_eq hle hwas hen).trans he))

section
variable {d : Dev}

theorem Dev.twnEnMoved_same (b : Bool) : d.twnEnMoved b b = d := if_pos (beq_self_eq_true b)

theorem Dev.twnEnMoved_starts (h : d.on 30 = true) : d.twnEnMoved false true = (d.linkDown.twnMove 1).roleNote.twinCast := by
  simp [Dev.twnEnMoved, h]

theorem Dev.twnEnMoved_waits (h : d.on 30 = false) : d.twnEnMoved false true = d.roleNote.twinCast := by
  simp [Dev.twnEnMoved, h]

theorem Dev.twnEnMoved_ends (h : d.twnEnded.f F.TWN_STAT_STATE ≠ 0) :
    d.twnEnMoved true false = (d.twnEnded.twnMove 0).roleNote.twinCast := by
  simp [Dev.twnEnMoved, h]

theorem Dev.twnEnMoved_endsIdle (h : d.twnEnded.f F.TWN_STAT_STATE = 0) : d.twnEnMoved true false = d.twnEnded.roleNote.twinCast := by
  simp [Dev.twnEnMoved, h]

/-! A write of TWN_CMD (R445, R455). -/

variable {w : RegWr}

/-- What the OP of TWN_CMD asks for. -/
def Dev.twnCommand (d : Dev) (op : Nat) : Dev :=
  match op with
  | 1 => d.twnAttach
  | 2 => d.twnDetach
  | 3 => d.twnResync
  | _ => d

theorem Dev.writeTwnCmd_firmware (ha : w.agent = .docent ∨ w.agent = .curator) :
    Dev.writeTwnCmd w d = d.twnCommand (w.fld F.TWN_CMD_OP) := by
  rw [Dev.writeTwnCmd, if_neg (by obtain ha | ha := ha <;> simp [ha])]
  rfl

theorem Dev.twnAttach_aligned (h : d.f F.TWN_STAT_STATE = 2) : d.twnAttach = (d.twnMove 3).mb3Request 1 d.helloOwn :=
  if_pos (beq_iff_eq.2 h)

theorem Dev.twnAttach_otherwise (h : d.f F.TWN_STAT_STATE ≠ 2) : d.twnAttach = d := if_neg (mt beq_iff_eq.1 h)

theorem Dev.twnDetach_attached (h : d.f F.TWN_STAT_STATE = 4 ∨ d.f F.TWN_STAT_STATE = 5) :
    d.twnDetach = ((d.twnMove 6).twinCast).mb3Request 5 [] :=
  if_pos (by simpa using h)

theorem Dev.twnDetach_otherwise (h4 : d.f F.TWN_STAT_STATE ≠ 4) (h5 : d.f F.TWN_STAT_STATE ≠ 5) : d.twnDetach = d :=
  if_neg (by simp [h4, h5])

theorem Dev.twnResync_paired (h : d.f F.TWN_STAT_STATE = 5) (hp : d.f F.TWN_STAT_SWITCH_PHASE = 0) : d.twnResync = d.startSync :=
  if_pos (by simp [h, hp])

theorem Dev.twnResync_otherwise (h : d.f F.TWN_STAT_STATE ≠ 5 ∨ d.f F.TWN_STAT_SWITCH_PHASE ≠ 0) : d.twnResync = d :=
  if_neg (by simp; omega)

end

/-- The row of one operation of TWN_CMD, written by Docent or Curator. -/
theorem exec_twnCmd_passes {op : Nat} {i : Instr} {w : RegWr} {s : State} {e : Dev} (hi : exec i s = s.run (Dev.twnCmdRow op w))
    (hp : s.dev.passes w.agent 0x1E0008) (ha : w.agent = .docent ∨ w.agent = .curator) (ho : w.fld F.TWN_CMD_OP = op)
    (he : s.dev.twnCommand op = e) :
    exec i s = .next (s.after ((e.respond .done).accessed s.dev w.agent 0x1E0008)) := by
  rw [hi]
  refine run_after s _ _ ?_
  rw [Dev.twnCmdRow, if_pos (by simp [ho]), gated_passes _ _ _ _ hp, Dev.writeTwnCmd_firmware ha, ho, he]

/-! MB3 (R348, R446). -/

section
variable {d : Dev} {ty : Nat} {body : List Word}

theorem Dev.mb3Request_unreachable (hr : d.docentRuns = true) (ho : d.mb3Open = false) :
    d.mb3Request ty body = { d with twn := { d.twn with mbDone := 0x0C } } := by
  rw [Dev.mb3Request, if_neg (by simp [hr]), if_pos (by simp [ho])]

theorem Dev.mb3Request_busy (hr : d.docentRuns = true) (ho : d.mb3Open = true) (hq : d.twn.mbReq ≠ none) :
    d.mb3Request ty body = { d with twn := { d.twn with mbDone := 6 } } := by
  rw [Dev.mb3Request, if_neg (by simp [hr]), if_neg (by simp [ho]), if_pos (Option.isSome_iff_ne_none.2 hq)]

theorem Dev.mb3Request_free (hr : d.docentRuns = true) (ho : d.mb3Open = true) (hq : d.twn.mbReq = none) :
    d.mb3Request ty body = { d with twn := { d.twn with
      mbReq := some ty, mbSeq := (d.twn.mbSeq + 1) % 65536
      mbTx := d.twn.mbTx ++ mb3Octets ((d.twn.mbSeq + 1) % 65536) ty 0 body } } := by
  rw [Dev.mb3Request, if_neg (by simp [hr]), if_neg (by simp [ho]), if_neg (by simp [hq])]
  rfl

theorem Dev.mb3Complete_outstanding (status : Nat) (hq : d.twn.mbReq = some ty) :
    d.mb3Complete status = { d with twn := { d.twn with mbReq := none, mbDone := status } } :=
  if_pos (by simp [hq])

theorem Dev.mb3Answer_eq {w0 : Word} {l : List Word} (st : Nat) (h : d.twn.mbIn = w0 :: l) :
    d.mb3Answer ty st body = { d with twn := { d.twn with mbTx := d.twn.mbTx ++ mb3Octets (w0.toNat % 65536) ty st body } } := by
  simp [Dev.mb3Answer, Dev.mb3Put, h, bits]

theorem Dev.peerDetach_attached (h : d.f F.TWN_STAT_STATE = 4 ∨ d.f F.TWN_STAT_STATE = 5) :
    d.peerDetach = ((d.mb3Answer 5 0 []).twnMove 6).detached :=
  if_pos (by simpa using h)

theorem Dev.peerDetach_otherwise (h4 : d.f F.TWN_STAT_STATE ≠ 4) (h5 : d.f F.TWN_STAT_STATE ≠ 5) :
    d.peerDetach = d.mb3Answer 5 0 [] :=
  if_neg (by simp [h4, h5])

/-- A message of the peer stands in the receive area, and its arrival is a wake (R426). -/
def Dev.mb3Heard (d : Dev) (ty seq status : Nat) (body : List Word) : Dev :=
  ({ d with twn := { d.twn with
    mbIn := BitVec.ofNat 64 (seq % 65536 + ty * 2 ^ 16 + status % 256 * 2 ^ 24 + 8 * body.length * 2 ^ 32) :: body } } : Dev).wake 4

/-- The response that stands in the receive area ends the outstanding request. -/
def Dev.mb3Answered (d : Dev) (ty seq status : Nat) (body : List Word) : Dev :=
  { d.mb3Heard ty seq status body with twn := { (d.mb3Heard ty seq status body).twn with mbReq := none, mbDone := status % 256 } }

/-- MB3 receives while the link carries it: PD30 is powered, and the link is at least aligned. -/
theorem Dev.mb3Receives (hon : d.on 30 = true) (hst : 2 ≤ d.f F.TWN_STAT_STATE) :
    ¬ (!d.on 30 || d.f F.TWN_STAT_STATE < 2) = true := by
  simp [hon]; omega

theorem Dev.mb3In_response {seq status : Nat} {answered asked : Dev → Dev} (hon : d.on 30 = true) (hst : 2 ≤ d.f F.TWN_STAT_STATE)
    (hq : d.twn.mbReq = some ty) :
    d.mb3In ty true seq status body answered asked = answered (d.mb3Answered ty seq status body) := by
  have hheard : (d.mb3Heard ty seq status body).twn.mbReq = some ty := by simp [Dev.mb3Heard, hq]
  rw [Dev.mb3In, if_neg (Dev.mb3Receives hon hst)]
  refine ((if_pos rfl).trans (if_pos (by simp [hq]))).trans (congrArg answered ?_)
  exact Dev.mb3Complete_outstanding _ hheard

theorem Dev.mb3In_request {seq status : Nat} {answered asked : Dev → Dev} (hon : d.on 30 = true) (hst : 2 ≤ d.f F.TWN_STAT_STATE)
    (hr : d.docentRuns = true) :
    d.mb3In ty false seq status body answered asked = asked (d.mb3Heard ty seq status body) := by
  rw [Dev.mb3In, if_neg (Dev.mb3Receives hon hst)]
  exact (if_neg Bool.false_ne_true).trans (if_pos hr)

end

section
variable {s : State} {ty seq status : Nat} {body : List Word} {answered asked : Dev → Dev} {e : Dev}

theorem run_mb3Response (hon : s.dev.on 30 = true) (hst : 2 ≤ s.dev.f F.TWN_STAT_STATE) (hq : s.dev.twn.mbReq = some ty)
    (he : answered (s.dev.mb3Answered ty seq status body) = e) :
    s.run (fun d => d.mb3In ty true seq status body answered asked) = .next (s.after e) :=
  run_after s _ _ ((Dev.mb3In_response hon hst hq).trans he)

theorem run_mb3Request (hon : s.dev.on 30 = true) (hst : 2 ≤ s.dev.f F.TWN_STAT_STATE) (hr : s.dev.docentRuns = true)
    (he : asked (s.dev.mb3Heard ty seq status body) = e) :
    s.run (fun d => d.mb3In ty false seq status body answered asked) = .next (s.after e) :=
  run_after s _ _ ((Dev.mb3In_request hon hst hr).trans he)

end

theorem exec_mb3Send_fits {ty : Nat} {body : List Word} {s : State} {e : Dev} (hty : ty < 256) (hb : body.length ≤ 511)
    (he : s.dev.mb3Request ty body = e) : exec (.mb3Send ty body) s = .next (s.after e) :=
  (exec_mb3Send ty body s).trans (run_after s _ _ ((if_neg (by simp; omega)).trans he))

/-- A request of a TYPE that MB3 does not know is answered 01h (R349). -/
theorem exec_mbUnknownType_mb3 {ty seq : Nat} {body : List Word} {s : State} (hon : s.dev.on 30 = true)
    (hst : 2 ≤ s.dev.f F.TWN_STAT_STATE) (hr : s.dev.docentRuns = true) (hty : ty = 0 ∨ 6 < ty) :
    exec (.mbUnknownType 3 ty seq body) s = .next (s.after ((s.dev.mb3Heard ty seq 0 body).mb3Answer ty 1 [])) := by
  rw [exec_mbUnknownType]
  refine run_after s _ _ ?_
  exact (if_pos rfl).trans ((if_neg (by simp; omega)).trans (Dev.mb3In_request hon hst hr))

/-- Settles O59: TWIN_CTL, TWN_CTL.EN and TWN_CMD by the pairing state, and the MB3 rows as a response that ends the outstanding
request or a request that Docent answers. -/
theorem twinPairing : Obligations.TwinPairing := by
  refine ⟨?twinCtl, ?en, ?cmd, ?attachDetach, ?send, ?timeout, ?unknown, ?messages, fun d w0 l body ty st h => Dev.mb3Answer_eq st h,
    fun d => rfl, ?detachTimeout⟩
  case twinCtl =>
    intro s hm d op ok wired st
    refine ⟨?_, ?_, fun ho hw hst => ?_, fun ho hw hst => ?_, fun ho hw => ?_,
      fun ho hw => ⟨fun h => ?_, fun h hst => ?_, fun h hst hph hq => ?_, fun h hst hph hq => ?_⟩⟩
    · rintro i (⟨ho, rfl⟩ | ⟨ho, rfl⟩ | ⟨ho, rfl⟩) hw
      · exact exec_twinCtl_taken (exec_twinCtlAttach s) hm ho (.inl rfl) (Dev.twinCtlAsked_unwired _ hw)
      · exact exec_twinCtl_taken (exec_twinCtlDetach s) hm ho (.inl rfl) (Dev.twinCtlAsked_unwired _ hw)
      · exact exec_twinCtl_taken (exec_twinCtlSwitchover s) hm ho (.inl rfl) (Dev.twinCtlAsked_unwired _ hw)
    · rintro i (rfl | rfl | rfl) ho hw
      · exact exec_twinCtl_taken (exec_twinCtlAttach s) hm rfl (.inr ho) (Dev.twinCtlAsked_noRow hw ho)
      · exact exec_twinCtl_taken (exec_twinCtlDetach s) hm rfl (.inr ho) (Dev.twinCtlAsked_noRow hw ho)
      · exact exec_twinCtl_taken (exec_twinCtlSwitchover s) hm rfl (.inr ho) (Dev.twinCtlAsked_noRow hw ho)
    · exact exec_twinCtl_taken (exec_twinCtlAttach s) hm ho (.inl rfl) ((Dev.twinCtlAsked_attach hw).trans (if_neg hst))
    · exact exec_twinCtl_taken (exec_twinCtlAttach s) hm ho (.inl rfl) ((Dev.twinCtlAsked_attach hw).trans (if_pos hst))
    · exact exec_twinCtl_taken (exec_twinCtlDetach s) hm ho (.inl rfl) (Dev.twinCtlAsked_detach hw)
    all_goals refine exec_twinCtl_taken (exec_twinCtlSwitchover s) hm ho (.inl rfl) ((Dev.twinCtlAsked_switchover hw).trans ?_)
    · exact if_pos h
    · exact (if_neg (ne_false_of_eq_true h)).trans (if_pos hst)
    · have idle := not_or.2 ⟨not_not.2 hst, not_not.2 hph⟩
      exact (if_neg (ne_false_of_eq_true h)).trans ((if_neg idle).trans (if_pos hq))
    · have idle := not_or.2 ⟨not_not.2 hst, not_not.2 hph⟩
      exact (if_neg (ne_false_of_eq_true h)).trans ((if_neg idle).trans (if_neg (not_not.2 hq)))
  case en =>
    intro w s hp was en wired d kept e g g' hle
    have row {a b : Bool} {e : Dev} (hwas) (hen) (he) := exec_twnEnWrite_passes (was := a) (en := b) (e := e) hp hle hwas hen he
    have on {p : Prop} (h : p) : p ↔ true = true := iff_of_true h rfl
    have off {p : Prop} (h : ¬ p) : p ↔ false = true := iff_of_false h Bool.false_ne_true
    refine ⟨fun hwas hen => ?_, fun hwas hen => ?_, fun hwas hen hw => ?_, fun hwas hen hw h30 => ?_, fun hwas hen hw h30 => ?_,
      fun hwas hen hg => ?_, fun hwas hen hg => ?_⟩
    · exact row (on hwas) (on ⟨hen, .inl hwas⟩) (Dev.twnEnMoved_same true)
    · exact row (off hwas) (off fun h => hen h.1) (Dev.twnEnMoved_same false)
    · exact row (off hwas) (off fun h => h.2.elim hwas hw) (Dev.twnEnMoved_same false)
    · exact row (off hwas) (on ⟨hen, .inr hw⟩) (Dev.twnEnMoved_starts h30)
    · exact row (off hwas) (on ⟨hen, .inr hw⟩) (Dev.twnEnMoved_waits h30)
    · exact row (on hwas) (off fun h => hen h.1) (Dev.twnEnMoved_ends (d := d.setB F.TWN_CTL_EN false) hg)
    · exact row (on hwas) (off fun h => hen h.1) (Dev.twnEnMoved_endsIdle (d := d.setB F.TWN_CTL_EN false) hg)
  case cmd =>
    intro w s hp ha
    refine ⟨fun ho => ?_, fun ho => ?_, fun ho => ⟨fun hst hph => ?_, fun hst => ?_⟩⟩
    · exact exec_twnCmd_passes (exec_twnCmdAttach w s) hp ha ho rfl
    · exact exec_twnCmd_passes (exec_twnCmdDetach w s) hp ha ho rfl
    · exact exec_twnCmd_passes (exec_twnCmdResync w s) hp ha ho (Dev.twnResync_paired hst hph)
    · exact exec_twnCmd_passes (exec_twnCmdResync w s) hp ha ho (Dev.twnResync_otherwise hst)
  case attachDetach =>
    intro d st
    exact ⟨Dev.twnAttach_aligned, Dev.twnAttach_otherwise, Dev.twnDetach_attached, Dev.twnDetach_otherwise⟩
  case send =>
    intro ty body s hty hb hr ends
    refine ⟨fun ho => ?_, fun ho hq => ?_, fun ho hq => ?_⟩
    · exact exec_mb3Send_fits hty hb (Dev.mb3Request_unreachable hr ho)
    · exact exec_mb3Send_fits hty hb (Dev.mb3Request_busy hr ho hq)
    · exact exec_mb3Send_fits hty hb (Dev.mb3Request_free hr ho hq)
  case timeout =>
    intro ty s hq
    exact (exec_mb3Timeout s).trans (run_after s _ _ (Dev.mb3Complete_outstanding _ hq))
  case unknown =>
    intro ty seq body s hon hst hr hty h
    have heard : s.dev.mb3Heard ty seq 0 body = h := by simp [Dev.mb3Heard, h]
    exact heard ▸ exec_mbUnknownType_mb3 hon hst hr hty
  case messages =>
    intro seq status w1 w2 s hon hst heard ans st
    refine ⟨fun hq => ?_, fun hq => ?_, fun hq => ⟨fun h0 => ?_, fun h4 => ?_, fun h0 h4 => ?_⟩,
      fun hq => ⟨fun h0 => ?_, fun h0 => ?_⟩, fun hq => ⟨fun h0 => ?_, fun h0 => ?_⟩,
      fun hq => ⟨fun h6 => ?_, fun h6 => ?_⟩, fun hr => ?requests⟩
    · exact (exec_mb3Ping ..).trans (run_mb3Response hon hst hq rfl)
    · exact (exec_allocMap ..).trans (run_mb3Response hon hst hq rfl)
    · exact (exec_pairHello ..).trans (run_mb3Response hon hst hq (if_pos (beq_iff_eq.2 h0)))
    · have h0 : ¬ st = 0 := by omega
      exact (exec_pairHello ..).trans
        (run_mb3Response hon hst hq ((if_neg (mt beq_iff_eq.1 h0)).trans (if_pos (beq_iff_eq.2 h4))))
    · exact (exec_pairHello ..).trans (run_mb3Response hon hst hq ((if_neg (mt beq_iff_eq.1 h0)).trans (if_neg (mt beq_iff_eq.1 h4))))
    · exact (exec_switchPropose ..).trans (run_mb3Response hon hst hq (if_pos (beq_iff_eq.2 h0)))
    · exact (exec_switchPropose ..).trans (run_mb3Response hon hst hq (if_neg (mt beq_iff_eq.1 h0)))
    · exact (exec_switchDone ..).trans (run_mb3Response hon hst hq (if_pos (beq_iff_eq.2 h0)))
    · exact (exec_switchDone ..).trans (run_mb3Response hon hst hq (if_neg (mt beq_iff_eq.1 h0)))
    · exact (exec_mb3Detach ..).trans (run_mb3Response hon hst hq (if_pos (beq_iff_eq.2 h6)))
    · exact (exec_mb3Detach ..).trans (run_mb3Response hon hst hq (if_neg (mt beq_iff_eq.1 h6)))
    case requests =>
      intro h o
      refine ⟨?_, ?_, ?_, fun h5 => ?_, fun h5 => ?_, ?_, fun h45 => ?_, fun h4 h5 => ?_⟩
      · exact (exec_mb3Ping ..).trans (run_mb3Request hon hst hr rfl)
      · exact (exec_allocMap ..).trans (run_mb3Request hon hst hr rfl)
      · exact (exec_pairHello ..).trans (run_mb3Request hon hst hr rfl)
      · exact (exec_switchPropose ..).trans (run_mb3Request hon hst hr (if_pos (beq_iff_eq.2 h5)))
      · exact (exec_switchPropose ..).trans (run_mb3Request hon hst hr (if_neg (mt beq_iff_eq.1 h5)))
      · exact (exec_switchDone ..).trans (run_mb3Request hon hst hr rfl)
      · exact (exec_mb3Detach ..).trans (run_mb3Request hon hst hr (Dev.peerDetach_attached h45))
      · exact (exec_mb3Detach ..).trans (run_mb3Request hon hst hr (Dev.peerDetach_otherwise h4 h5))
  case detachTimeout =>
    intro s h
    exact (exec_detachTimeout s).trans (run_after s _ _ (if_pos (beq_iff_eq.2 h)))

end Sys2Proof.Machine
end

section
/-! SUPPORT. Counters, and fields counted or set under a condition, read field by field. -/

namespace Sys2Proof.Machine

section
variable (d : Dev) {x y : Fld} (n i k l : Nat)

/-- A counter that does not wrap saturates (R371, R474). -/
theorem Dev.f_countN_same (h : x.wrap = false) : (d.countN x n i).f x i = min (d.f x i + n) (2 ^ x.w - 1) := by
  rw [Dev.countN, Dev.countIJ, Dev.f_setIJ_same, h]
  exact Nat.mod_eq_of_lt (Nat.lt_of_le_of_lt (Nat.min_le_right _ _) (Nat.sub_one_lt (Nat.two_pow_pos _).ne'))

theorem Dev.f_countN_ne (h : y.isAux ≠ x.isAux ∨ y.key k l ≠ x.key i 0) : (d.countN x n i).f y k l = d.f y k l :=
  d.f_setIJ_ne x y i 0 k l _ h

theorem Dev.f_count_same (h : x.wrap = false) : (d.count x i).f x i = min (d.f x i + 1) (2 ^ x.w - 1) :=
  d.f_countN_same 1 i h

theorem Dev.f_count_ne (h : y.isAux ≠ x.isAux ∨ y.key k l ≠ x.key i 0) : (d.count x i).f y k l = d.f y k l :=
  d.f_countN_ne 1 i k l h

theorem Dev.f_setB_same (b : Bool) (h : 1 ≤ x.w) : (d.setB x b i).f x i = b2n b := by
  rw [Dev.setB, Dev.f_setIJ_same]
  exact Nat.mod_eq_of_lt (Nat.lt_of_le_of_lt (by cases b <;> decide) (Nat.one_lt_two_pow (by omega)))

variable (c : Prop) [Decidable c]

theorem Dev.f_ite_count_ne (h : y.isAux ≠ x.isAux ∨ y.key k l ≠ x.key i 0) : (if c then d.count x i else d).f y k l = d.f y k l := by
  split
  · exact d.f_count_ne i k l h
  · rfl

theorem Dev.f_ite_count_same (h : x.wrap = false) :
    (if c then d.count x i else d).f x i = if c then min (d.f x i + 1) (2 ^ x.w - 1) else d.f x i := by
  split
  · exact d.f_count_same i h
  · rfl

theorem Dev.f_ite_set_ne (v : Nat) (h : y.isAux ≠ x.isAux ∨ y.key k l ≠ x.key 0 0) :
    (if c then d.set x v else d).f y k l = d.f y k l := by
  split
  · exact d.f_set_ne x y v k l h
  · rfl

end

end Sys2Proof.Machine
end

section
/-! The TICK: what it latches and its duties (R30 to R41, R46). -/

namespace Sys2Proof.Machine

/-! The registers that a TICK latches (R31, R38), register by register. -/

/-- What a TICK writes into CKX_TICK_STAT. -/
def Dev.latchStat (d : Dev) (src lag : Nat) (stepped : Bool) : Dev :=
  let e := ((d.set F.CKX_TICK_STAT_SRC src).setB F.CKX_TICK_STAT_STEPPED stepped).set F.CKX_TICK_STAT_LAG lag
  (if src == 1 then e.set F.CKX_TICK_STAT_SYNC_POS e.ds.syncPos else e).set F.CKX_TICK_STAT_SFC_LOW d.clk.sfc

/-- What a TICK with superframe count `sfc` writes into CKX_TICK_TIME_LO and CKX_TICK_TIME_HI. -/
def Dev.latchTime (d : Dev) (sfc ideal : Nat) : Dev :=
  let e := ((d.set F.CKX_TICK_TIME_LO_FRAC ideal).set F.CKX_TICK_TIME_LO_NS (ideal % second / 65536)).set F.CKX_TICK_TIME_LO_SEQ sfc
  (e.set F.CKX_TICK_TIME_HI_SEC (ideal / second)).set F.CKX_TICK_TIME_HI_SEQ sfc

/-- What a TICK counts in CKX_TICK_CNT. -/
def Dev.latchCounts (d : Dev) (src : Nat) (stepped : Bool) : Dev :=
  let d := if src == 2 then d.count F.CKX_TICK_CNT_FLYWHEEL_CNT else d
  let d := if src == 3 then d.count F.CKX_TICK_CNT_HOLDOVER_CNT else d
  if stepped then d.count F.CKX_TICK_CNT_STEP_CNT else d

section
variable (d : Dev) (src ideal lag sfc : Nat) (st : Bool)

theorem Dev.tickLatch_eq :
    d.tickLatch src ideal lag st = ((d.latchStat src lag st).latchTime d.clk.sfc ideal).latchCounts src st := rfl

theorem Dev.f_latchCounts_other {y : Fld} (h : y.key 0 0 / 64 ≠ 0x10018) : (d.latchCounts src st).f y = d.f y := by
  have other {x : Fld} (hx : x.key 0 0 / 64 = 0x10018) : y.isAux ≠ x.isAux ∨ y.key 0 0 ≠ x.key 0 0 := .inr fun e => h (e ▸ hx)
  rw [Dev.latchCounts, Dev.f_ite_count_ne _ _ _ _ _ (other rfl), Dev.f_ite_count_ne _ _ _ _ _ (other rfl),
    Dev.f_ite_count_ne _ _ _ _ _ (other rfl)]

theorem Dev.f_latchTime_other {y : Fld} (hl : y.key 0 0 / 64 ≠ 0x10008) (hh : y.key 0 0 / 64 ≠ 0x10010) :
    (d.latchTime sfc ideal).f y = d.f y := by
  have low {x : Fld} (hx : x.key 0 0 / 64 = 0x10008) : y.isAux ≠ x.isAux ∨ y.key 0 0 ≠ x.key 0 0 := .inr fun e => hl (e ▸ hx)
  have high {x : Fld} (hx : x.key 0 0 / 64 = 0x10010) : y.isAux ≠ x.isAux ∨ y.key 0 0 ≠ x.key 0 0 := .inr fun e => hh (e ▸ hx)
  rw [Dev.latchTime, Dev.f_set_ne _ _ _ _ _ _ (high rfl), Dev.f_set_ne _ _ _ _ _ _ (high rfl), Dev.f_set_ne _ _ _ _ _ _ (low rfl),
    Dev.f_set_ne _ _ _ _ _ _ (low rfl), Dev.f_set_ne _ _ _ _ _ _ (low rfl)]

theorem Dev.f_latchStat_other {y : Fld} (h : y.key 0 0 / 64 ≠ 0x10000) : (d.latchStat src lag st).f y = d.f y := by
  have other {x : Fld} (hx : x.key 0 0 / 64 = 0x10000) : y.isAux ≠ x.isAux ∨ y.key 0 0 ≠ x.key 0 0 := .inr fun e => h (e ▸ hx)
  rw [Dev.latchStat, Dev.f_set_ne _ _ _ _ _ _ (other rfl), Dev.f_ite_set_ne _ _ _ _ _ (other rfl), Dev.f_set_ne _ _ _ _ _ _ (other rfl),
    Dev.f_setB_ne _ _ _ _ _ _ _ (other rfl), Dev.f_set_ne _ _ _ _ _ _ (other rfl)]

/-- CKX_TICK_STAT after a TICK: SYNC_POS is latched at LOCKED ticks only. -/
theorem Dev.f_latchStat : let e := d.latchStat src lag st
    e.f F.CKX_TICK_STAT_SRC = src % 4 ∧ e.f F.CKX_TICK_STAT_STEPPED = (if st then 1 else 0) ∧ e.f F.CKX_TICK_STAT_LAG = lag % 65536 ∧
    e.f F.CKX_TICK_STAT_SYNC_POS = (if src = 1 then d.ds.syncPos % 1024 else d.f F.CKX_TICK_STAT_SYNC_POS) ∧
    e.f F.CKX_TICK_STAT_SFC_LOW = d.clk.sfc % 2 ^ 32 := by
  intro e
  by_cases locked : src = 1
  all_goals
    simp (disch := decide) only [e, locked, Dev.latchStat, beq_self_eq_true, beq_iff_eq, if_true, if_false, Dev.f_set_ne,
      Dev.f_setB_ne, Dev.f_setB_same, Dev.setB_parts, Dev.set_parts, Dev.f_set_same]
  · exact ⟨rfl, rfl, rfl, rfl, rfl⟩
  · exact ⟨rfl, rfl, rfl, trivial, rfl⟩

/-- CKX_TICK_TIME_LO and CKX_TICK_TIME_HI after a TICK. -/
theorem Dev.f_latchTime : let e := d.latchTime sfc ideal
    e.f F.CKX_TICK_TIME_LO_FRAC = ideal % 65536 ∧ e.f F.CKX_TICK_TIME_LO_NS = ideal / 65536 % 1000000000 ∧
    e.f F.CKX_TICK_TIME_HI_SEC = ideal / (65536 * 1000000000) % 2 ^ 48 ∧
    e.f F.CKX_TICK_TIME_LO_SEQ = sfc % 65536 ∧ e.f F.CKX_TICK_TIME_HI_SEQ = sfc % 65536 := by
  intro e
  simp (disch := decide) only [e, Dev.latchTime, Dev.f_set_ne, Dev.f_set_same]
  refine ⟨rfl, ?_, rfl, rfl, rfl⟩
  simp only [second, F.CKX_TICK_TIME_LO_NS]
  omega

/-- CKX_TICK_CNT after a TICK: the count of its source, and of steps, saturating. -/
theorem Dev.f_latchCounts : let e := d.latchCounts src st
    (src = 2 → e.f F.CKX_TICK_CNT_FLYWHEEL_CNT = min (d.f F.CKX_TICK_CNT_FLYWHEEL_CNT + 1) 0xFFFF) ∧
    (src = 3 → e.f F.CKX_TICK_CNT_HOLDOVER_CNT = min (d.f F.CKX_TICK_CNT_HOLDOVER_CNT + 1) 0xFFFFFFFF) ∧
    (st = true → e.f F.CKX_TICK_CNT_STEP_CNT = min (d.f F.CKX_TICK_CNT_STEP_CNT + 1) 0xFFFF) := by
  intro e
  refine ⟨?_, ?_, ?_⟩
  all_goals
    intro h
    simp (disch := decide) only [e, h, Dev.latchCounts, beq_self_eq_true, if_true, Dev.f_ite_count_ne, Dev.f_count_same]
    rfl

/-! Each register is as its own step of the latch leaves it. -/

theorem Dev.f_tickLatch_stat {y : Fld} (h : y.key 0 0 / 64 = 0x10000) :
    (d.tickLatch src ideal lag st).f y = (d.latchStat src lag st).f y := by
  rw [d.tickLatch_eq, Dev.f_latchCounts_other _ _ _ (by omega), Dev.f_latchTime_other _ _ _ (by omega) (by omega)]

theorem Dev.f_tickLatch_time {y : Fld} (h : y.key 0 0 / 64 = 0x10008 ∨ y.key 0 0 / 64 = 0x10010) :
    (d.tickLatch src ideal lag st).f y = ((d.latchStat src lag st).latchTime d.clk.sfc ideal).f y := by
  rw [d.tickLatch_eq, Dev.f_latchCounts_other _ _ _ (by omega)]

theorem Dev.f_latchTime_counts {y : Fld} (h : y.key 0 0 / 64 = 0x10018) :
    ((d.latchStat src lag st).latchTime sfc ideal).f y = d.f y := by
  rw [Dev.f_latchTime_other _ _ _ (by omega) (by omega), Dev.f_latchStat_other _ _ _ _ (by omega)]

end

/-! Source and ideal instant (R30, R32, R33, R36, R37). -/

section
variable (d : Dev)

/-- No sync, or no word to find it in, or no TICK yet on the PLL: the holdover timer makes the TICK (R32, R36). -/
def Dev.noSync (d : Dev) : Prop :=
  d.clk.first = true ∨ d.f F.TDS_SYNC_STAT_STATE ≠ 2 ∨ d.pins.dsLos = true ∨ d.dsStopped = true

theorem Dev.tickSource_noSync {d : Dev} (h : d.noSync) : d.tickSource = 3 := by
  rw [Dev.tickSource, if_pos (by simpa [Dev.noSync, or_assoc] using h)]

theorem Dev.tickSource_sync {d : Dev} (h : ¬ d.noSync) : d.tickSource = if d.clk.relock = true ∨ d.ds.frameOk = true then 1 else 2 := by
  rw [Dev.tickSource, if_neg (by simpa [Dev.noSync, or_assoc] using h)]
  simp only [Bool.or_eq_true]

theorem Dev.tickSource_cases : (d.tickSource = 3 ↔ d.noSync) ∧
    (d.tickSource = 1 ↔ ¬ d.noSync ∧ (d.clk.relock = true ∨ d.ds.frameOk = true)) ∧
    (d.tickSource = 2 ↔ ¬ d.noSync ∧ d.clk.relock = false ∧ d.ds.frameOk = false) := by
  by_cases h : d.noSync
  · simp [Dev.tickSource_noSync h, h]
  · rw [Dev.tickSource_sync h]
    cases d.clk.relock <;> cases d.ds.frameOk <;> simp [h]

theorem Dev.tickIdeal_locked (since : Nat) (h : d.clk.relock = false) : d.tickIdeal 1 since = d.tickRef + tickDelay := by
  simp [Dev.tickIdeal, h]

theorem Dev.tickIdeal_flywheel (since : Nat) : d.tickIdeal 2 since = d.tickRef + tickDelay := rfl

theorem Dev.tickIdeal_holdover (since : Nat) (h : d.clk.first = false) : d.tickIdeal 3 since = d.clk.hoAt + d.hoPeriod.1 := by
  simp [Dev.tickIdeal, Dev.hoEnd, h]

theorem Dev.tickIdeal_step (since : Nat) (h : d.clk.relock = true) : d.tickIdeal 1 since = d.stepInstant := by
  simp [Dev.tickIdeal, h]

/-- The instant of a step is the first of the new instants that is 120 µs after the edge before (R37). -/
theorem Dev.stepInstant_first : let t := d.clk.relockRef + 1600 * 65536
    120000 * 65536 ≤ d.stepInstant ∧ (∃ n : Nat, d.stepInstant = t + n * (125000 * 65536)) ∧
      (t < d.stepInstant → d.stepInstant < 245000 * 65536) := by
  intro t
  by_cases soon : 120000 * 65536 ≤ t
  · have at_t : d.stepInstant = t := if_pos soon
    rw [at_t]
    exact ⟨soon, ⟨0, by simp⟩, fun h => absurd h (lt_irrefl _)⟩
  · have later : d.stepInstant = t + (120000 * 65536 - t + (frameTime - 1)) / frameTime * frameTime := if_neg soon
    simp only [frameTime] at later
    refine ⟨by omega, ⟨((120000 * 65536 - t + (8192000000 - 1)) / 8192000000).toNat, by omega⟩, fun _ => by omega⟩

end

/-! The commands. -/

/-- A TICK falls (R30, R36, R46). -/
theorem Dev.tick_falls {d : Dev} {cyc dt lag : Nat} {sens : List (Option Int)} (hpll : d.onPll = true) (hstill : d.inStill = false)
    (hoff : d.inOff = false) (hlag : d.lagOk lag = true) (hgone : 0 < d.tickIdeal d.tickSource dt + ((lag * 16 : Nat) : Int)) :
    let src := d.tickSource
    let stepped := src == 1 && d.clk.relock
    let late : Int := (lag * 16 : Nat)
    let c := d.tickCounted cyc src stepped (d.tickIdeal src dt + late) late
    let ideal := shiftTime c.term.time (-late)
    Dev.tick cyc dt lag sens d = (c.tickLatched lag src stepped ideal).tickDuties src ideal sens := by
  rw [Dev.tick]
  refine if_neg ?_
  simp only [hpll, hstill, hoff, hlag, Bool.not_true, Bool.or_false]
  simpa using hgone

theorem Dev.tick_fio {d : Dev} (cyc dt lag : Nat) (sens : List (Option Int)) (h : d.onPll = false) : Dev.tick cyc dt lag sens d = d := by
  rw [Dev.tick]
  exact if_pos (by simp [h])

/-- Settles O17: a TICK that falls counts, latches and carries out its duties, each in the order its definition gives. -/
theorem tickDutiesInOrder : Obligations.TickDutiesInOrder := by
  refine ⟨?falls, fun _ _ _ _ _ _ => rfl, fun _ _ _ _ _ => rfl, fun _ _ _ _ => rfl⟩
  case falls =>
    intro cyc dt lag sens s src stepped late gone hpll hstill hoff hlag hgone
    exact (exec_tick cyc dt lag sens s).trans (run_after s _ _ (Dev.tick_falls hpll hstill hoff hlag hgone))

/-- Settles O18: the registers one by one, the source by whether there is sync, and a step's instant as the first of its row. -/
theorem tickLatches : Obligations.TickLatches := by
  refine ⟨?registers, Dev.tickSource_cases, ?instants, fun cyc dt lag sens s h => ?_⟩
  case registers =>
    intro d src ideal lag st hsrc e
    have stat {y : Fld} (h) := d.f_tickLatch_stat src ideal lag st (y := y) h
    have time {y : Fld} (h) := d.f_tickLatch_time src ideal lag st (y := y) h
    obtain ⟨hs, hst, hlag, hpos, hsfc⟩ := d.f_latchStat src lag st
    obtain ⟨hfrac, hns, hsec, hlo, hhi⟩ := (d.latchStat src lag st).f_latchTime ideal d.clk.sfc
    obtain ⟨hfly, hho, hstep⟩ := ((d.latchStat src lag st).latchTime d.clk.sfc ideal).f_latchCounts src st
    rw [Dev.f_latchTime_counts _ _ _ _ _ _ rfl] at hfly hho hstep
    exact ⟨(stat rfl).trans (hs.trans (Nat.mod_eq_of_lt hsrc)), (stat rfl).trans hst, (stat rfl).trans hlag, (stat rfl).trans hpos,
      (stat rfl).trans hsfc, (time (.inl rfl)).trans hfrac, (time (.inl rfl)).trans hns, (time (.inr rfl)).trans hsec,
      (time (.inl rfl)).trans hlo, (time (.inr rfl)).trans hhi, hfly, hho, hstep⟩
  case instants =>
    intro d since
    refine ⟨fun t ht hr => ?_, fun hn => ?_, d.tickIdeal_holdover since, fun hr => ?_⟩
    · have href : d.tickRef = t := by rw [Dev.tickRef, ht]; rfl
      rw [d.tickIdeal_locked since hr, d.tickIdeal_flywheel since, href]
      exact ⟨rfl, rfl⟩
    · rw [d.tickIdeal_flywheel since, Dev.tickRef, hn]
      rfl
    · rw [d.tickIdeal_step since hr]
      exact d.stepInstant_first
  · exact (exec_tick cyc dt lag sens s).trans (run_after s _ _ (Dev.tick_fio cyc dt lag sens h))

end Sys2Proof.Machine
end

section
/-! The core clock, the clock monitors and the crossings (R36, R44 to R48, R52 to R54, R501, R516). -/

namespace Sys2Proof

theorem RegWr.merged_lt (w : RegWr) (x : Machine.Fld) (old : Nat) : w.merged x old < 2 ^ x.w := by
  have hm : bits w.bitMask x.lo x.w < 2 ^ x.w := bits_lt _ _ _
  have hv : bits w.data.toNat x.lo x.w &&& bits w.bitMask x.lo x.w ≤ bits w.bitMask x.lo x.w := Nat.and_le_right
  have ho : old &&& (2 ^ x.w - 1 - bits w.bitMask x.lo x.w) ≤ 2 ^ x.w - 1 - bits w.bitMask x.lo x.w := Nat.and_le_right
  rw [RegWr.merged]
  omega

/-- A one-bit field whose written bit is 1 takes 1. -/
theorem RegWr.merged_of_fld_eq_one (w : RegWr) {x : Machine.Fld} (hx : x.lo < 64) (hw : x.w = 1) (old : Nat) (h : w.fld x = 1) :
    w.merged x old = 1 := by
  have written : (w.fld x).testBit 0 = true := by rw [h]; rfl
  rw [RegWr.testBit_fld w (by omega) (by omega), Bool.and_eq_true] at written
  have bit0 : (w.merged x old).testBit 0 = true := by
    rw [RegWr.testBit_merged w old (by omega) (by omega), if_pos written.1, written.2]
  have below := w.merged_lt x old
  rw [hw] at below
  rw [Nat.testBit_zero, decide_eq_true_eq] at bit0
  omega

namespace Machine

/-! A write of CKX_CORE_CTL by Curator (R44, R45). -/

section
variable {w : RegWr} {d : Dev}

theorem Dev.writeCoreCtl_other (h : w.agent ≠ .curator) : Dev.writeCoreCtl w d = d := by
  rw [Dev.writeCoreCtl, if_pos (by simpa using h)]

/-- The written 1 of PLL_EN is taken last, whatever became of SRC. -/
theorem Dev.writeCoreCtl_keepsSrc (ha : w.agent = .curator) (hs : w.fld F.CKX_CORE_CTL_SRC = 0) (hp : w.fld F.CKX_CORE_CTL_PLL_EN = 1) :
    Dev.writeCoreCtl w d = (d.put F.CKX_CORE_CTL_REFUSED w).set F.CKX_CORE_CTL_PLL_EN 1 := by
  unfold Dev.writeCoreCtl
  simp [ha, hs, RegWr.merged_of_fld_eq_one w (x := F.CKX_CORE_CTL_PLL_EN) (by decide) rfl _ hp]

theorem Dev.f_putRefused (d : Dev) (w : RegWr) {y : Fld} (h : y.key 0 0 ≠ F.CKX_CORE_CTL_REFUSED.key 0 0) :
    (d.put F.CKX_CORE_CTL_REFUSED w).f y = d.f y := d.f_put_ne F.CKX_CORE_CTL_REFUSED y w 0 0 0 0 (.inr h)

theorem Dev.writeCoreCtl_locked (ha : w.agent = .curator) (hs : w.fld F.CKX_CORE_CTL_SRC = 1) (hp : w.fld F.CKX_CORE_CTL_PLL_EN = 1)
    (hfio : d.onPll = false) (hlock : d.f F.CKX_CORE_CTL_LOCK ≠ 0) :
    let r := d.put F.CKX_CORE_CTL_REFUSED w
    let e : Dev := { r.set F.CKX_CORE_CTL_SRC 1 with clk := { r.clk with first := true, hoN := 0, hoAt := 0, hoSlip := 0 } }
    Dev.writeCoreCtl w d = (if e.f F.MBX_BOOT_STAGE = 3 then e.bootStage 4 else e).set F.CKX_CORE_CTL_PLL_EN 1 := by
  intro r e
  have hr : r.onPll = false := by rw [← hfio]; exact congrArg (· != 0) (d.f_putRefused w (by decide))
  have hl : r.b F.CKX_CORE_CTL_LOCK = true := Dev.b_eq_true.2 (by rwa [d.f_putRefused w (by decide)])
  unfold Dev.writeCoreCtl
  simp [ha, hs, r, e, hr, hl, RegWr.merged_of_fld_eq_one w (x := F.CKX_CORE_CTL_PLL_EN) (by decide) rfl _ hp]

theorem Dev.writeCoreCtl_unlocked (ha : w.agent = .curator) (hs : w.fld F.CKX_CORE_CTL_SRC = 1) (hp : w.fld F.CKX_CORE_CTL_PLL_EN = 1)
    (hfio : d.onPll = false) (hlock : d.f F.CKX_CORE_CTL_LOCK = 0) :
    Dev.writeCoreCtl w d = ((d.put F.CKX_CORE_CTL_REFUSED w).set F.CKX_CORE_CTL_REFUSED 1).set F.CKX_CORE_CTL_PLL_EN 1 := by
  have hr : (d.put F.CKX_CORE_CTL_REFUSED w).onPll = false := by rw [← hfio]; exact congrArg (· != 0) (d.f_putRefused w (by decide))
  have hl : (d.put F.CKX_CORE_CTL_REFUSED w).b F.CKX_CORE_CTL_LOCK = false := Dev.b_eq_false.2 (by rwa [d.f_putRefused w (by decide)])
  unfold Dev.writeCoreCtl
  simp [ha, hs, hr, hl, RegWr.merged_of_fld_eq_one w (x := F.CKX_CORE_CTL_PLL_EN) (by decide) rfl _ hp]

end

theorem exec_pllEnable_passes {w : RegWr} {s : State} {e : Dev} (hp : s.dev.passes w.agent 0x10020) (hs : w.fld F.CKX_CORE_CTL_SRC = 0)
    (hen : w.fld F.CKX_CORE_CTL_PLL_EN = 1) (he : Dev.writeCoreCtl w s.dev = e) :
    exec (.pllEnable w) s = .next (s.after ((e.respond .done).accessed s.dev w.agent 0x10020)) := by
  rw [exec_pllEnable]
  refine run_after s _ _ ?_
  rw [if_pos (by simp [hen, hs]), gated_passes _ _ _ _ hp, he]

theorem exec_coreClockSwitch_passes {w : RegWr} {s : State} {e : Dev} (hp : s.dev.passes w.agent 0x10020)
    (hs : w.fld F.CKX_CORE_CTL_SRC = 1) (he : Dev.writeCoreCtl w s.dev = e) :
    exec (.coreClockSwitch w) s = .next (s.after ((e.respond .done).accessed s.dev w.agent 0x10020)) := by
  rw [exec_coreClockSwitch]
  refine run_after s _ _ ?_
  rw [if_pos (by simp [hs]), gated_passes _ _ _ _ hp, he]

/-- Settles O19: a row that passes the gates is the write of CKX_CORE_CTL, and Curator's write is a case of SRC and LOCK. -/
theorem coreClockCommands : Obligations.CoreClockCommands := by
  refine ⟨fun w s ha hp hs hen => ?_, fun s hen => ?_, ?switch, fun w s ha hp => ⟨fun hs => ?_, fun hs hen => ?_⟩⟩
  case switch =>
    intro w s ha hp hs hfio hen r
    refine ⟨fun hlock => ?_, fun hlock => ?_⟩
    · exact exec_coreClockSwitch_passes hp hs (Dev.writeCoreCtl_locked ha hs hen hfio hlock)
    · exact exec_coreClockSwitch_passes hp hs (Dev.writeCoreCtl_unlocked ha hs hen hfio hlock)
  · exact exec_pllEnable_passes hp hs hen (Dev.writeCoreCtl_keepsSrc ha hs hen)
  · exact (exec_pllLock s).trans (run_after s _ _ (if_pos (Dev.b_eq_true.2 hen)))
  · exact exec_coreClockSwitch_passes hp hs (Dev.writeCoreCtl_other ha)
  · exact exec_pllEnable_passes hp hs hen (Dev.writeCoreCtl_other ha)

/-! Clock monitors (R47, R48, R52, R501, R516). -/

section
variable (d : Dev) {c : Nat} (x words : Nat)

theorem Dev.xLost_eq : d.xLost x words = if x = 0 ∨ (2 ≤ x ∧ x ≤ 5) then d.xDrop x words else d := by
  simp [Dev.xLost, xLoses]

theorem Dev.xLost_none : d.xLost x 0 = d := by
  simp [Dev.xLost, Dev.xDrop]

theorem Dev.clkStopped_eq : d.clkStopped c =
    if c = 3 then ({ d with clk := { d.clk with usBlocked := true } } : Dev).purge
    else if 5 ≤ c ∧ c ≤ 8 then (if (d.port (c - 5)).link then d.linkMoved (c - 5) false else d)
    else if c = 9 ∧ d.on 30 = true then d.peerReset
    else d := by
  simp only [Dev.clkStopped, Bool.and_eq_true, beq_iff_eq, decide_eq_true_eq, ite_and]

theorem Dev.clkBack_eq : d.clkBack c =
    if 5 ≤ c ∧ c ≤ 8 ∧ (d.port (c - 5)).link = true then d.linkMoved (c - 5) true
    else if c = 4 then d.fabResume
    else d := by
  simp only [Dev.clkBack, Bool.and_eq_true, beq_iff_eq, decide_eq_true_eq, and_assoc]

theorem Dev.clkStop_present (hc : c < 10) (h : bit d.clk.stopped c = false) :
    let e := (({ d with clk := { d.clk with stopped := withBit d.clk.stopped c true } } : Dev).xLost x words).clkSticky c
    d.clkStop c x words = if e.clkUnwired c then e else (e.raise 1121).clkStopped c :=
  if_neg (by simp [h, hc])

theorem Dev.clkReturn_stopped (hc : c < 10) (h : bit d.clk.stopped c = true) :
    let e := (({ d with clk := { d.clk with stopped := withBit d.clk.stopped c false } } : Dev).xLost x words).clkSticky c
    d.clkReturn c x words = if e.clkUnwired c then e else (e.raise 1122).clkBack c :=
  if_neg (by simp [h, hc])

theorem Dev.clkStop_refclk (h : bit d.clk.stopped 0 = false) : d.clkStop 0 0 0 =
    (({ d with clk := { d.clk with stopped := withBit d.clk.stopped 0 true } } : Dev).clkSticky 0).raise 1121 := by
  rw [d.clkStop_present 0 0 (by decide) h, Dev.xLost_none]
  rfl

theorem Dev.clkReturn_refclk (h : bit d.clk.stopped 0 = true) : d.clkReturn 0 0 0 =
    (({ d with clk := { d.clk with stopped := withBit d.clk.stopped 0 false } } : Dev).clkSticky 0).raise 1122 := by
  rw [d.clkReturn_stopped 0 0 (by decide) h, Dev.xLost_none]
  rfl

theorem Dev.f_aonSource (slow : Bool) : (d.aonSource slow).f F.CKX_CLKMON_AON_SRC = if slow then 1 else 0 :=
  d.f_setB_same 0 slow (by decide)

end

/-- Settles O20: what stops or returns is declared on its clock, and the unit that uses the clock follows. -/
theorem clocksStopAndReturn : Obligations.ClocksStopAndReturn := by
  refine ⟨?stops, ?returns, fun s h => ?_, fun s h => ?_, Dev.f_aonSource⟩
  case stops =>
    intro c x words s hc hc' h present dropped sticky raised
    refine (exec_clkStop c x words s).trans (run_after s _ _ ?_)
    rw [if_neg (by simp; omega), s.dev.clkStop_present x words hc' h, Dev.xLost_eq, Dev.clkStopped_eq]
    rfl
  case returns =>
    intro c x words s hc hc' h back dropped sticky raised
    refine (exec_clkReturn c x words s).trans (run_after s _ _ ?_)
    rw [if_neg (by simp; omega), s.dev.clkReturn_stopped x words hc' h, Dev.xLost_eq, Dev.clkBack_eq]
    rfl
  · exact (exec_refclkAbsent s).trans (run_after s _ _ (by rw [s.dev.clkStop_refclk h]; rfl))
  · exact (exec_refclkRestored s).trans (run_after s _ _ (by rw [s.dev.clkReturn_refclk h]; rfl))

/-! Crossings (R52 to R54). -/

section
variable {d : Dev} {x : Nat} (words : Nat)

theorem Dev.crossReset_powered (hx : x ≤ 10) (hon : d.on 1 = true) :
    d.crossReset x words = ((d.xDrop x words).xState x true false).raise 1123 :=
  if_neg (by simp [hx, hon])

theorem Dev.crossAlive_awaited (hx : x ≤ 10) (hon : d.on 1 = true)
    (h : bit (d.f F.CKX_XSTAT_PEER_RESET) x = true ∨ bit d.clk.xRestart x = true) :
    d.crossAlive x words =
      (({ d with clk := { d.clk with xRestart := withBit d.clk.xRestart x false } } : Dev).xDrop x words).xState x false true :=
  if_neg (by obtain h | h := h <;> simp [hx, hon, h])

theorem Dev.crossUp_handshake (hx : x ≤ 10) (h : bit (d.f F.CKX_XSTAT_HANDSHAKE) x = true) :
    d.crossUp x = if x = 6 then (d.xState x false false).fabResume else d.xState x false false := by
  rw [Dev.crossUp, if_neg (by simp [hx, h])]
  simp only [beq_iff_eq]

end

/-- Words discarded at a crossing are counted with its id (R52). -/
theorem Dev.f_xDrop (d : Dev) {x n : Nat} (hn : n ≠ 0) (hx : x ≤ 10) :
    (d.xDrop x n).f F.CKX_XDROP_DROPS = min (d.f F.CKX_XDROP_DROPS + n) 0xFFFFFFFF ∧ (d.xDrop x n).f F.CKX_XDROP_LAST_XID = x := by
  have hd : d.xDrop x n = (d.countN F.CKX_XDROP_DROPS n).set F.CKX_XDROP_LAST_XID x := if_neg (by simpa using hn)
  rw [hd]
  refine ⟨?_, ?_⟩
  · rw [Dev.f_set_ne _ _ _ _ _ _ (by decide), d.f_countN_same n 0 rfl]
    rfl
  · rw [Dev.f_set_same]
    exact Nat.mod_eq_of_lt (Nat.lt_of_le_of_lt hx (by decide))

/-- Settles O21: each step of the handshake where its condition holds, and the count of the words discarded. -/
theorem crossingHandshake : Obligations.CrossingHandshake := by
  refine ⟨?reset, ?alive, ?ack, fun d x n hn hx => d.f_xDrop hn hx⟩
  case reset =>
    intro x words s hx hon d
    exact (exec_peerReset x words s).trans (run_after s _ _ (Dev.crossReset_powered words hx hon))
  case alive =>
    intro x words s hx hon h d
    exact (exec_crossingAlive x words s).trans (run_after s _ _ (Dev.crossAlive_awaited words hx hon h))
  case ack =>
    intro x s hx h d
    exact (exec_crossingAck x s).trans (run_after s _ _ (Dev.crossUp_handshake hx h))

end Machine
end Sys2Proof
end

section
/-! Still and Off (R33, R428 to R432, R435). -/

namespace Sys2Proof.Machine

/-! A request (R428). -/

section
variable {w : RegWr} {d : Dev} {t : Nat}

theorem Dev.entryWhy_eq (d : Dev) : d.entryWhy =
    if d.f F.TST_STATE_STATE ≠ 0 ∧ d.f F.TST_STATE_STATE ≠ 6 then 1 else if 360 < d.load then 2
    else if d.pwr.entry ≠ .none ∨ d.f F.PWR_STATE_ENTERING ≠ 0 then 4 else 0 := by
  simp only [Dev.entryWhy, Dev.tst, Dev.b, Bool.and_eq_true, Bool.or_eq_true, bne_iff_ne, gt_iff_lt]

/-- A request for Still or Off by an agent that may make it begins the entry, or is refused with its reason. -/
theorem Dev.writeStateCtl_request (ha : w.agent.isHost = true ∨ w.agent = .curator) (hreq : w.fld F.PWR_STATE_CTL_REQ = t)
    (ht : t = 3 ∨ t = 4) :
    let e := d.put F.PWR_STATE_CTL_REFUSED w
    Dev.writeStateCtl w d =
      if e.entryWhy = 0 then e.entryBegin t else (e.set F.PWR_STATE_CTL_REFUSED 1).set F.PWR_STATE_CTL_WHY e.entryWhy := by
  intro e
  have may : (w.agent.isHost || w.agent == .curator) = true := by simpa using ha
  have low : (t == 3 || t == 4) = true := by simpa using ht
  rw [Dev.writeStateCtl, hreq, if_neg (by simp [may, low])]
  simp only [bne_iff_ne, ne_eq, ite_not, e]

/-- Docent is stopped where it runs. -/
theorem Dev.entryBegin_eq (d : Dev) (t : Nat) :
    let b := (d.set F.PWR_STATE_ENTERING 1).set F.PWR_HVOTE_VOTE 0
    let e := if b.f F.MBX_FW_STAT_DSTATE = 2 then b.set F.MBX_FW_STAT_DSTATE 3 else b
    d.entryBegin t = { e with pwr := { e.pwr with
      docentVotes := 0, twinVotes := 0, entry := .holds t, latched := none, keepNormal := false, entryMask := e.poweredMask } } := by
  simp only [Dev.entryBegin, Dev.docentRuns, beq_iff_eq]

/-- `c` is the row that asks for the state `t`. -/
def stateRowOf (t : Nat) (w : RegWr) (c : Instr) : Prop := (t = 3 ∧ c = .stillReq w) ∨ (t = 4 ∧ c = .offReq w)

theorem exec_stateRow {c : Instr} (s : State) (hc : stateRowOf t w c) : exec c s = s.run (Dev.stateRow t w) := by
  obtain ⟨rfl, rfl⟩ | ⟨rfl, rfl⟩ := hc
  · exact exec_stillReq w s
  · exact exec_offReq w s

theorem exec_stateRow_passes {c : Instr} {s : State} {e : Dev} (hc : stateRowOf t w c) (hp : s.dev.passes w.agent 0x20008)
    (hreq : w.fld F.PWR_STATE_CTL_REQ = t) (he : Dev.writeStateCtl w s.dev = e) :
    exec c s = .next (s.after ((e.respond .done).accessed s.dev w.agent 0x20008)) := by
  rw [exec_stateRow s hc]
  refine run_after s _ _ ?_
  rw [Dev.stateRow, if_pos (by simp [hreq]), gated_passes _ _ _ _ hp, he]

end

/-! In Still and Off. -/

section
variable {d : Dev}

theorem Dev.entryAbandon_holds {t : Nat} (h : d.pwr.entry = .holds t) :
    let e := ((d.set F.PWR_STATE_ENTERING 0).set F.PWR_STATE_CTL_REFUSED 1).set F.PWR_STATE_CTL_WHY 3
    d.entryAbandon = { e with pwr := { e.pwr with entry := .none, latched := none } } := by
  rw [Dev.entryAbandon, h]

theorem Dev.lowPowerWake_latched {c : Nat} (hlow : d.inStill = true ∨ d.inOff = true) (hc : d.pwr.latched = some c)
    (hexit : d.pwr.exiting = false) (havs : d.pwr.avsWait = false) :
    let b := (d.set F.PWR_STATE_LAST_WAKE c).set F.PWR_WAKE_STAT_LAST c
    let e : Dev := { b with
      pwr := { b.pwr with latched := none, exiting := true, vitVote := true }
      pins := { b.pins with wakeReqs := b.pins.wakeReqs + 1 } }
    d.lowPowerWake = (((e.set F.PWR_REG_MODE 0).set F.PWR_DVFS_STAT_VPOINT 4).set F.PWR_DVFS_STAT_TRIM 0).avsRequest 9 := by
  have hlow' : (d.inStill || d.inOff) = true := by simpa using hlow
  rw [Dev.lowPowerWake, if_neg (by simp [hlow', hc, hexit, havs]), Dev.wakeTaken, hc]
  rfl

theorem Dev.aonTick_still (sens : List (Option Int)) (h : d.inStill = true) :
    let p := d.hoPeriod
    let e : Dev := { p.2 with
      clk := { p.2.clk with sfc := (d.clk.sfc + 1) % 2 ^ 51, ticks := d.clk.ticks + 1, hoN := (d.clk.hoN + 1) % 500 }
      pwr := { d.pwr with coarse := d.pwr.coarse + p.1, timer := d.pwr.timer + 1 } }
    d.aonTick sens = (((e.pondForce).vitTick e.clk.sfc 3 e.coarseTime (e.b F.TST_TOD_STAT_VALID)).thermTick sens).pondAdvance :=
  if_neg (by simp [h])

/-- FAULT of converter `i`, as its reading in Off gives (R432, R433). -/
def Dev.judge (sens : List (Option Int)) (d : Dev) (i : Nat) : Dev :=
  d.setB F.PWR_THERM_FAULT (match sens.getD i none with | none => true | some z => decide (z < -61440) || decide (z > 153600)) i

theorem Dev.offSample_off (sens : List (Option Int)) (h : d.inOff = true) :
    let e := ((List.range 6).foldl (Dev.judge sens) d).faultedMask.thermTrip sens
    d.offSample sens = { e with pwr := { e.pwr with coarse := e.pwr.coarse + 1000000000 * 65536, timer := e.pwr.timer + 1 } } := by
  rw [Dev.offSample, if_neg (by simp [h])]
  extract_lets e judge e'
  have judged : judge = Dev.judge sens := rfl
  have same : e' = e := congrArg (fun g => ((List.range 6).foldl g d).faultedMask.thermTrip sens) judged
  clear_value e'
  subst same
  rfl

end

/-- Settles O29: a request is decided by its reason, and each command acts where its condition holds. -/
theorem stillAndOffCommands : Obligations.StillAndOffCommands := by
  refine ⟨?request, ?abandon, ?wake, ?still, ?off⟩
  case request =>
    intro t c w s hc ha hp hreq d why b e
    have ht : t = 3 ∨ t = 4 := hc.imp And.left And.left
    have decided := Dev.writeStateCtl_request (d := s.dev) ha hreq ht
    have hwhy : d.entryWhy = why := d.entryWhy_eq
    refine ⟨fun h0 => ?_, fun h0 => ?_⟩
    · exact exec_stateRow_passes hc hp hreq (decided.trans ((if_pos (hwhy.trans h0)).trans (d.entryBegin_eq t)))
    · exact exec_stateRow_passes hc hp hreq (decided.trans ((if_neg (hwhy ▸ h0)).trans (by rw [hwhy])))
  case abandon =>
    intro t s h d
    exact (exec_entryHoldTimeout s).trans (run_after s _ _ (Dev.entryAbandon_holds h))
  case wake =>
    intro c s hlow hc hexit havs d e
    exact (exec_lowPowerWake s).trans (run_after s _ _ (Dev.lowPowerWake_latched hlow hc hexit havs))
  case still =>
    intro sens s h p d q
    exact (exec_aonTick sens s).trans (run_after s _ _ (Dev.aonTick_still sens h))
  case off =>
    intro sens s h d e
    have judged : d = (List.range 6).foldl (Dev.judge sens) s.dev := rfl
    refine (exec_offSensorSample sens s).trans (run_after s _ _ ?_)
    rw [Dev.offSample_off sens h, ← judged]

end Sys2Proof.Machine
end

section
/-! The downstream state machine (R30, R37, R58 to R62, R72). -/

namespace Sys2Proof.Machine

/-! A sync block that is checked. -/

/-- The distance of the block at index `p` from the sync pattern (R58, R59). -/
def syncDist (p : Nat) (block : BitVec 256) (invalid : List Nat) : Nat :=
  popCount 256 (zeroWords 256 (1023 - p) invalid block.toNat ^^^ syncPattern)

/-- The device as the words of a sync block reach it: the level of DS_LOS, and the words with DS_VALID low counted (R59, R61). -/
def Dev.syncWords (d : Dev) (invalid : List Nat) (los : Bool) : Dev :=
  ({ d with pins := { d.pins with dsLos := los } } : Dev).countN F.TDS_CNT_SYNC_INVALID_WORDS invalid.length

/-- What a block that is a frame's leaves, whatever it is like: the mark of its place and instant, DIST, and the frame's outcome. -/
def Dev.syncSeen (d : Dev) (p at' dist : Nat) (ok : Bool) : Dev :=
  let x := (d.syncMark p at').set F.TDS_SYNC_STAT_DIST (min dist 255)
  { x with ds := { x.ds with frameOk := ok, syncPos := if ok then p else x.ds.syncPos, ticking := true } }

/-- A good frame in PRESYNC: the third leads to SYNC (R60). -/
def Dev.syncConfirm (d : Dev) : Dev :=
  let g := d.set F.TDS_SYNC_STAT_GOOD (d.f F.TDS_SYNC_STAT_GOOD + 1)
  if g.f F.TDS_SYNC_STAT_GOOD = 3 then g.syncAcquired else g

/-- A bad frame in SYNC: the fourth in a row leads to HUNT (R60). -/
def Dev.syncMiss (d : Dev) : Dev :=
  let b := d.set F.TDS_SYNC_STAT_BAD (d.f F.TDS_SYNC_STAT_BAD + 1)
  if b.f F.TDS_SYNC_STAT_BAD = 4 then b.syncLost else b

section
variable (d : Dev)

theorem Dev.syncAt_eq (pos : Nat) : d.syncAt pos = if d.f F.TDS_SYNC_STAT_STATE = 0 then pos % 1024 else d.clk.expPos := by
  simp only [Dev.syncAt, beq_iff_eq]

/-- The mark of a sync block leaves the registers. -/
theorem Dev.syncMark_set (x : Fld) (v p at' : Nat) : (d.set x v).syncMark p at' = (d.syncMark p at').set x v := by
  simp only [Dev.set, Dev.setIJ, Dev.syncMark]
  split <;> rfl

/-- A checked block shows its distance in DIST, and changes no other register. -/
theorem Dev.f_syncSeen (p at' dist : Nat) (ok : Bool) {y : Fld} (h : y.key 0 0 ≠ F.TDS_SYNC_STAT_DIST.key 0 0) :
    (d.syncSeen p at' dist ok).f y = d.f y :=
  (d.syncMark p at').f_set_ne F.TDS_SYNC_STAT_DIST y (min dist 255) 0 0 (.inr h)

end

section
variable {d : Dev} (pos at' : Nat) (block : BitVec 256) {invalid : List Nat} {los : Bool}

/-- The check of a powered receiver that examines the frame, by the state of the machine. -/
theorem Dev.syncCheck_examined (hon : d.on 3 = true) (hup : d.xUp 0 = true) (hrx : (d.syncWords invalid los).f F.TDS_CTL_RX_EN ≠ 0)
    (hs : (d.syncWords invalid los).sampledFrame (d.clk.sfc + 1) = true) :
    let e := d.syncWords invalid los
    let p := if e.f F.TDS_SYNC_STAT_STATE = 0 then pos % 1024 else e.clk.expPos
    let dist := syncDist p block invalid
    let lost := los || e.dsStopped
    let ok := decide (dist ≤ e.f F.TDS_CTL_SYNC_THR ∧ lost = false)
    let x := e.syncSeen p at' dist ok
    d.syncCheck pos at' block invalid los =
      if e.f F.TDS_SYNC_STAT_STATE = 0 then
        (if lost then e
         else if dist ≤ e.f F.TDS_CTL_HUNT_THR then
           (((e.syncMark p at').set F.TDS_SYNC_STAT_DIST (min dist 255)).set F.TDS_SYNC_STAT_STATE 1).set F.TDS_SYNC_STAT_GOOD 1
         else e.set F.TDS_SYNC_STAT_DIST (min dist 255))
      else if e.f F.TDS_SYNC_STAT_STATE = 1 then
        (if ok then x.syncConfirm else (x.set F.TDS_SYNC_STAT_STATE 0).set F.TDS_SYNC_STAT_GOOD 0)
      else if ok then (x.watchSample ok).set F.TDS_SYNC_STAT_BAD 0 else (x.watchSample ok).syncMiss := by
  have hrx' : (d.syncWords invalid los).b F.TDS_CTL_RX_EN = true := Dev.b_eq_true.2 hrx
  intro e p dist lost ok x
  have hp : p = e.syncAt pos := (e.syncAt_eq pos).symm
  have hok : ok = (decide (dist ≤ (e.syncSeen p at' dist false).f F.TDS_CTL_SYNC_THR) && !lost) := by
    rw [e.f_syncSeen p at' dist false (by decide)]
    simp [ok]
  clear_value p ok
  subst hp hok
  refine (if_neg ?_).trans ((if_neg ?_).trans ?_)
  · simpa using ⟨hon, hup⟩
  · simpa using ⟨hrx', hs⟩
  · rw [← Dev.syncMark_set, ← e.f_set_ne F.TDS_SYNC_STAT_DIST F.TDS_CTL_HUNT_THR (min dist 255) 0 0 (by decide)]
    simp only [beq_iff_eq]
    rfl

end

/-- Settles O32: the check by the state of the machine and the outcome of the block, and the write of TDS_CTL by RX_EN. -/
theorem syncStateMachine : Obligations.SyncStateMachine := by
  refine ⟨?check, ?write⟩
  case check =>
    intro at' pos block invalid los s hon hup d hrx hs p dist lost good m x e
    have row {r : Dev} (h) := (exec_syncBlockCheck pos at' block invalid los s).trans (run_after s _ r h)
    have check := Dev.syncCheck_examined (d := s.dev) pos at' block hon hup hrx hs
    have seen : d.syncSeen p at' dist (decide good) = e := by simp only [Dev.syncSeen, decide_eq_true_eq]; rfl
    have hgood : e.f F.TDS_SYNC_STAT_GOOD = d.f F.TDS_SYNC_STAT_GOOD := seen ▸ d.f_syncSeen p at' dist (decide good) (by decide)
    have presync (h1 : d.f F.TDS_SYNC_STAT_STATE = 1) :=
      check.trans ((if_neg (show ¬ d.f F.TDS_SYNC_STAT_STATE = 0 by omega)).trans (if_pos h1))
    have sync (h2 : d.f F.TDS_SYNC_STAT_STATE = 2) :=
      check.trans ((if_neg (show ¬ d.f F.TDS_SYNC_STAT_STATE = 0 by omega)).trans (if_neg (show ¬ d.f F.TDS_SYNC_STAT_STATE = 1 by omega)))
    refine ⟨fun h0 hl => row ?_, fun h0 hl => row ?_, fun h1 hg => row ?_, fun h1 hg => row ?_, fun h2 hg => row ?_, fun h2 hg => row ?_⟩
    · exact check.trans ((if_pos h0).trans (if_pos hl))
    · exact check.trans ((if_pos h0).trans (if_neg (ne_true_of_eq_false hl)))
    · refine (presync h1).trans ((if_pos (decide_eq_true hg)).trans ((congrArg Dev.syncConfirm seen).trans ?_))
      rw [Dev.syncConfirm, hgood]
    · refine (presync h1).trans ((if_neg (fun h => hg (of_decide_eq_true h))).trans ?_)
      exact congrArg (fun x : Dev => (x.set F.TDS_SYNC_STAT_STATE 0).set F.TDS_SYNC_STAT_GOOD 0) seen
    · refine (sync h2).trans ((if_pos (decide_eq_true hg)).trans ?_)
      exact congrArg₂ (fun (x : Dev) (ok : Bool) => (x.watchSample ok).set F.TDS_SYNC_STAT_BAD 0) seen (decide_eq_true hg)
    · refine (sync h2).trans ((if_neg (fun h => hg (of_decide_eq_true h))).trans ?_)
      exact congrArg₂ (fun (x : Dev) (ok : Bool) => (x.watchSample ok).syncMiss) seen (decide_eq_false hg)
  case write =>
    intro w s hp d c h
    have row {r : Dev} (hr) := (exec_rxEnWrite w s).trans (run_gated s 0x40000 w (e := r) hp hr)
    refine ⟨fun hrx => row ?_, fun hrx => row ?_⟩
    · exact if_pos (Dev.b_eq_true.2 hrx)
    · refine (if_neg (ne_true_of_eq_false (Dev.b_eq_false.2 hrx))).trans ?_
      simp only [beq_iff_eq, Dev.toHunt]
      rfl

end Sys2Proof.Machine
end

section
/-! What a block reset leaves (R44, R132, R342, R484, R485, R489, R521). -/

namespace Sys2Proof.Machine

/-! The reset in its steps: what is kept, the cause, the power controller, and what HALTED and HALT_LATCH bring. -/

/-- What AON and PD32 keep, and what a reset carries over; everything else as after power-up (R484, R485). -/
def Dev.resetCleared (d : Dev) : Dev :=
  { regs := d.regs.filter (fun p => domainOf (p.1 / 64) == 32 || keyKeep p.1 == .aon)
    aux := d.aux.filter (fun p => keyKeep p.1 == .aon)
    clk := { stopped := d.clk.stopped, xRestart := d.xPending }
    term := { time := d.coarseTime }
    upm := d.linkInputs
    fw := { d.floorsOnly with kek := d.fw.kek }
    vit := d.vit
    pwr := d.pwrKept
    pins := d.pinInputs
    free := d.free }

/-- The reset's cause bit and count. -/
def Dev.resetMarked (d : Dev) (cause : Fld) : Dev := (d.set cause 1).count F.RST_CAUSE_BLK_COUNT

/-- The power controller before its state is TRIM: domains, levels, no entry, no Watch, and point 4 (R44, R489). -/
def Dev.resetPower (d : Dev) : Dev :=
  let r := d.domainsRestart.keptLevels
  (((r.set F.PWR_STATE_ENTERING 0).set F.PWR_WATCH_STAT_PHASE 0).set F.PWR_WATCH_STAT_CATCHUP 0).set F.PWR_DVFS_STAT_FPOINT 4

/-- The power state starts again from TRIM (R489). -/
def Dev.resetTrim (d : Dev) : Dev := if d.f F.PWR_STATE_STATE == 1 then d else d.enterPower 1

/-- HALTED stands (R342). -/
def Dev.resetHalted (d : Dev) (halted : Bool) : Dev := if halted then d.set F.MBX_BOOT_STAGE 7 else d

/-- With HALT_LATCH the terminal starts in HALT with TX_INHIBIT = 1 (R132). -/
def Dev.resetLatched (d : Dev) : Dev :=
  if d.b F.TST_STATE_HALT_LATCH then (d.set F.TST_STATE_STATE 6).set F.TUS_CTL_TX_INHIBIT 1 else d

/-- The device before HALT_LATCH is looked at. -/
def Dev.resetStarted (d : Dev) (cause : Fld) : Dev :=
  (d.resetCleared.resetMarked cause).resetPower.resetTrim.resetHalted (d.f F.MBX_BOOT_STAGE == 7)

/-- The parts of the device that a block reset decides in its first step. -/
def Dev.resetParts (d : Dev) : FabPart × DsPart × QscPart × HrgPart × FwPart × VitPart × PinPart :=
  (d.fab, d.ds, d.qsc, d.hrg, d.fw, d.vit, d.pins)

section
variable (d : Dev)

theorem Dev.blockReset_eq (cause : Fld) : d.blockReset cause = (d.resetStarted cause).resetLatched := rfl

/-! What is kept. -/

theorem Dev.f_resetCleared_main {x : Fld} (i j : Nat) (hx : x.isAux = false) : d.resetCleared.f x i j =
    if domainOf (x.key i j / 64) = 32 ∨ keyKeep (x.key i j) = .aon then d.f x i j else x.rst := by
  have look := SMap.look_filter_key (fun k => domainOf (k / 64) == 32 || keyKeep k == .aon) (x.key i j) d.regs
  simp only [Dev.f, hx, Bool.false_eq_true, if_false, Dev.resetCleared, SMap.getD, look, Bool.or_eq_true, beq_iff_eq]
  split <;> rfl

theorem Dev.f_resetCleared_aux {x : Fld} (i j : Nat) (hx : x.isAux = true) (h : keyKeep (x.key i j) = .aon) :
    d.resetCleared.f x i j = d.f x i j := by
  have look := SMap.look_filter_key (fun k => keyKeep k == .aon) (x.key i j) d.aux
  simp only [Dev.f, hx, if_true, Dev.resetCleared, SMap.getD, look, h, beq_self_eq_true]

/-! The cause and the count stand in RST_CAUSE. -/

theorem blockResetCause_facts : ∀ cause ∈ [F.RST_CAUSE_BLK_PIN, F.RST_CAUSE_CURATOR_ECC, F.RST_CAUSE_CORE_BO, F.RST_CAUSE_STILL_EXIT,
    F.RST_CAUSE_OFF_EXIT], cause.isAux = false ∧ cause.w = 1 ∧ cause.key 0 0 / 64 = 0x10100 ∧
      F.RST_CAUSE_BLK_COUNT.key 0 0 ≠ cause.key 0 0 := by decide

theorem Dev.f_resetMarked_other {cause x : Fld} (i j : Nat) (hc : cause.key 0 0 / 64 = 0x10100) (h : x.key i j / 64 ≠ 0x10100) :
    (d.resetMarked cause).f x i j = d.f x i j := by
  rw [Dev.resetMarked, Dev.f_count_ne _ _ _ _ (.inr fun e => h (by rw [e]; rfl)),
    d.f_set_ne _ _ _ _ _ (.inr fun e => h (by rw [e, hc]))]

theorem Dev.f_resetMarked_cause {cause : Fld} (hw : cause.w = 1) (h : F.RST_CAUSE_BLK_COUNT.key 0 0 ≠ cause.key 0 0) :
    (d.resetMarked cause).f cause = 1 := by
  rw [Dev.resetMarked, Dev.f_count_ne _ _ _ _ (.inr h.symm), Dev.f_set_same, hw]
  rfl

theorem Dev.f_resetMarked_count {cause : Fld} (h : F.RST_CAUSE_BLK_COUNT.key 0 0 ≠ cause.key 0 0) :
    (d.resetMarked cause).f F.RST_CAUSE_BLK_COUNT = min (d.f F.RST_CAUSE_BLK_COUNT + 1) (2 ^ F.RST_CAUSE_BLK_COUNT.w - 1) := by
  rw [Dev.resetMarked, Dev.f_count_same _ _ rfl, d.f_set_ne _ _ _ _ _ (.inr h)]

theorem Dev.resetMarked_parts (cause : Fld) : (d.resetMarked cause).resetParts = d.resetParts := by
  simp [Dev.resetMarked, Dev.resetParts]

theorem Dev.resetMarked_aux {cause : Fld} (h : cause.isAux = false) : (d.resetMarked cause).aux = d.aux :=
  ((d.set cause 1).setIJ_aux rfl 0 0 _).trans (d.setIJ_aux h 0 0 1)

/-! The power controller: its file alone. -/

theorem Dev.domainsRestart_regs : d.domainsRestart.regs = d.regs := foldl_parts _ (·.regs) (by simp) _ _

theorem Dev.domainsRestart_parts : d.domainsRestart.resetParts = d.resetParts :=
  foldl_parts _ Dev.resetParts (by simp [Dev.resetParts]) _ _

theorem Dev.resetPower_regs : d.resetPower.regs = d.regs := by
  simp (disch := decide) [Dev.resetPower, Dev.keptLevels, d.domainsRestart_regs, Dev.set, Dev.setIJ_regs]

theorem Dev.resetPower_parts : d.resetPower.resetParts = d.resetParts := by
  rw [← d.domainsRestart_parts]
  simp [Dev.resetPower, Dev.keptLevels, Dev.resetParts]

theorem Dev.f_domainsRestart (n k : Nat) :
    ((List.range n).foldl (fun d i => d.setI F.PWR_DOM_PSTATE (i + 1) (if i == 0 then 2 else 0)) d).f F.PWR_DOM_PSTATE k =
      if 1 ≤ k ∧ k ≤ n then (if k = 1 then 2 else 0) else d.f F.PWR_DOM_PSTATE k := by
  induction n with
  | zero => simp; omega
  | succ n ih =>
    rw [List.range_succ, List.foldl_append, List.foldl_cons, List.foldl_nil]
    by_cases h : k = n + 1
    · subst h
      rw [Dev.f_setI_same]
      cases n <;> simp [F.PWR_DOM_PSTATE]
    · have other : F.PWR_DOM_PSTATE.key k 0 ≠ F.PWR_DOM_PSTATE.key (n + 1) 0 := by
        simp only [Fld.key, F.PWR_DOM_PSTATE]
        omega
      have range : 1 ≤ k ∧ k ≤ n + 1 ↔ 1 ≤ k ∧ k ≤ n := by omega
      rw [Dev.f_setI_ne _ _ _ _ _ _ _ (.inr other), ih]
      simp only [range]

/-- The levels kept are states of event sources. -/
theorem Dev.f_keptLevels {y : Fld} (k l : Nat) (h : ∀ n, y.key k l ≠ F.EVQ_SRC_STATE.key n 0) : d.keptLevels.f y k l = d.f y k l := by
  have other n : y.isAux ≠ F.EVQ_SRC_STATE.isAux ∨ y.key k l ≠ F.EVQ_SRC_STATE.key n 0 := .inr (h n)
  simp only [Dev.keptLevels, Dev.f_setB_ne _ _ _ _ _ _ _ (other _)]

/-- PD01 is usable, PD32 as it was, and every other domain off (R489). -/
theorem Dev.f_resetPower_pstate {k : Nat} (hk : k ≤ 32) : d.resetPower.f F.PWR_DOM_PSTATE k =
    if 1 ≤ k ∧ k ≤ 31 then (if k = 1 then 2 else 0) else d.f F.PWR_DOM_PSTATE k := by
  have below {x : Fld} (hx : x.key 0 0 < 0x20100 * 64) : F.PWR_DOM_PSTATE.isAux ≠ x.isAux ∨ F.PWR_DOM_PSTATE.key k 0 ≠ x.key 0 0 := by
    right
    simp only [Fld.key, F.PWR_DOM_PSTATE] at hx ⊢
    omega
  have level n : F.PWR_DOM_PSTATE.key k 0 ≠ F.EVQ_SRC_STATE.key n 0 := by
    simp only [Fld.key, F.PWR_DOM_PSTATE, F.EVQ_SRC_STATE]
    omega
  rw [Dev.resetPower, Dev.f_set_ne _ _ _ _ _ _ (below (by decide)), Dev.f_set_ne _ _ _ _ _ _ (below (by decide)),
    Dev.f_set_ne _ _ _ _ _ _ (below (by decide)), Dev.f_set_ne _ _ _ _ _ _ (below (by decide)), Dev.f_keptLevels _ _ _ level]
  exact d.f_domainsRestart 31 k

theorem Dev.f_resetPower_entering : d.resetPower.f F.PWR_STATE_ENTERING = 0 := by
  simp (disch := decide) [Dev.resetPower, Dev.f_set_ne]

theorem Dev.f_resetPower_fpoint : d.resetPower.f F.PWR_DVFS_STAT_FPOINT = 4 := Dev.f_set_same _ _ _

/-! The power state. -/

/-- While PD29 is not powered nothing is captured (R317). -/
theorem Dev.raise_aux {d : Dev} (n : Nat) (h : d.f F.PWR_DOM_PSTATE 29 = 0) : (d.raise n).aux = d.aux := by
  have off : (d.slcSaw n true).on 29 = false := by
    have same : (d.slcSaw n true).f F.PWR_DOM_PSTATE 29 = d.f F.PWR_DOM_PSTATE 29 := Dev.f_congr _ _ _ (by simp) (by simp)
    simp [Dev.on, same, h]
  simp [Dev.raise, off]

/-- With PD29 off a power state is entered without an event. -/
theorem Dev.f_enterPower {d : Dev} (c : Nat) (y : Fld) (k : Nat) (h : d.f F.PWR_DOM_PSTATE 29 = 0) :
    (d.enterPower c).f y k = ((d.set F.PWR_STATE_PREV (d.f F.PWR_STATE_STATE)).set F.PWR_STATE_STATE c).f y k := by
  refine Dev.f_congr _ _ _ (fun _ => (Dev.raise_parts _ _).1) (fun _ => Dev.raise_aux _ ?_)
  rw [Dev.f_set_ne _ _ _ _ _ _ (by decide), Dev.f_set_ne _ _ _ _ _ _ (by decide), h]

variable {d}

theorem Dev.f_resetTrim_state (h : d.f F.PWR_DOM_PSTATE 29 = 0) : d.resetTrim.f F.PWR_STATE_STATE = 1 := by
  unfold Dev.resetTrim
  split
  · next trim => exact beq_iff_eq.1 trim
  · rw [Dev.f_enterPower 1 _ _ h, Dev.f_set_same]
    rfl

theorem Dev.f_resetTrim_other {y : Fld} {k : Nat} (h : d.f F.PWR_DOM_PSTATE 29 = 0) (hs : y.key k 0 ≠ F.PWR_STATE_STATE.key 0 0)
    (hp : y.key k 0 ≠ F.PWR_STATE_PREV.key 0 0) : d.resetTrim.f y k = d.f y k := by
  unfold Dev.resetTrim
  split
  · rfl
  · rw [Dev.f_enterPower 1 _ _ h, Dev.f_set_ne _ _ _ _ _ _ (.inr hs), Dev.f_set_ne _ _ _ _ _ _ (.inr hp)]

theorem Dev.resetTrim_regs : d.resetTrim.regs = d.regs := by
  unfold Dev.resetTrim
  split <;> simp

theorem Dev.resetTrim_parts : d.resetTrim.resetParts = d.resetParts := by
  unfold Dev.resetTrim
  split <;> simp [Dev.enterPower, Dev.resetParts]

/-! HALTED and HALT_LATCH: registers of the main file alone. -/

theorem Dev.resetHalted_parts (halted : Bool) :
    (d.resetHalted halted).aux = d.aux ∧ (d.resetHalted halted).resetParts = d.resetParts := by
  cases halted
  · exact ⟨rfl, rfl⟩
  · exact ⟨Dev.setIJ_aux (x := F.MBX_BOOT_STAGE) rfl d 0 0 7, by simp [Dev.resetHalted, Dev.resetParts]⟩

theorem Dev.f_resetHalted_stage (halted : Bool) : (d.resetHalted halted).f F.MBX_BOOT_STAGE = if halted then 7 else d.f F.MBX_BOOT_STAGE := by
  cases halted
  · rfl
  · exact d.f_set_same F.MBX_BOOT_STAGE 7

theorem Dev.f_resetHalted_other (halted : Bool) {y : Fld} {i j : Nat} (h : y.key i j ≠ F.MBX_BOOT_STAGE.key 0 0) :
    (d.resetHalted halted).f y i j = d.f y i j := d.f_ite_set_ne i j _ 7 (.inr h)

theorem Dev.resetLatched_set (h : d.f F.TST_STATE_HALT_LATCH ≠ 0) :
    d.resetLatched = (d.set F.TST_STATE_STATE 6).set F.TUS_CTL_TX_INHIBIT 1 := if_pos (Dev.b_eq_true.2 h)

theorem Dev.resetLatched_clear (h : d.f F.TST_STATE_HALT_LATCH = 0) : d.resetLatched = d := if_neg (by simp [Dev.b_eq_false.2 h])

theorem Dev.resetLatched_parts : d.resetLatched.aux = d.aux ∧ d.resetLatched.resetParts = d.resetParts := by
  by_cases h : d.f F.TST_STATE_HALT_LATCH = 0
  · rw [Dev.resetLatched_clear h]
    exact ⟨rfl, rfl⟩
  · rw [Dev.resetLatched_set h]
    exact ⟨((d.set F.TST_STATE_STATE 6).setIJ_aux rfl 0 0 1).trans (d.setIJ_aux rfl 0 0 6), by simp [Dev.resetParts]⟩

theorem Dev.f_resetLatched_other {y : Fld} {i j : Nat} (hs : y.key i j ≠ F.TST_STATE_STATE.key 0 0)
    (ht : y.key i j ≠ F.TUS_CTL_TX_INHIBIT.key 0 0) : d.resetLatched.f y i j = d.f y i j := by
  by_cases h : d.f F.TST_STATE_HALT_LATCH = 0
  · rw [Dev.resetLatched_clear h]
  · rw [Dev.resetLatched_set h, Dev.f_set_ne _ _ _ _ _ _ (.inr ht), Dev.f_set_ne _ _ _ _ _ _ (.inr hs)]

end

/-! Which of the registers named below AON keeps (R521). -/

theorem keyKeep_eq_aon : keyKeep (F.TST_STATE_HALT_LATCH.key 0 0) = .aon ∧ keyKeep (F.RST_CAUSE_BLK_COUNT.key 0 0) = .aon ∧
    keyKeep (F.PWR_DOM_PSTATE.key 32 0) = .aon := by decide +kernel

theorem not_keptByReset : ∀ x ∈ [F.TST_STATE_STATE, F.TUS_CTL_TX_INHIBIT, F.MBX_BOOT_STAGE, F.CKX_CORE_CTL_SRC],
    ¬ (domainOf (x.key 0 0 / 64) = 32 ∨ keyKeep (x.key 0 0) = .aon) := by decide +kernel

/-! The whole reset. -/

section
variable {d : Dev} {cause : Fld}

/-- A field of the main file that no later step names is as the first two steps leave it. -/
theorem Dev.f_resetStarted_main {x : Fld} (i j : Nat) (hx : x.isAux = false) (hb : x.key i j ≠ F.MBX_BOOT_STAGE.key 0 0) :
    (d.resetStarted cause).f x i j = (d.resetCleared.resetMarked cause).f x i j := by
  rw [Dev.resetStarted, Dev.f_resetHalted_other _ hb]
  exact Dev.f_congr x i j (fun _ => Dev.resetTrim_regs.trans (Dev.resetPower_regs _)) (by simp [hx])

/-- What AON or PD32 keeps is as it was, and the rest is at its reset value. -/
theorem Dev.f_resetStarted_kept {x : Fld} (i j : Nat) (hc : cause.key 0 0 / 64 = 0x10100) (hx : x.isAux = false)
    (h : x.key i j / 64 ≠ 0x10100) (hb : x.key i j ≠ F.MBX_BOOT_STAGE.key 0 0) : (d.resetStarted cause).f x i j =
      if domainOf (x.key i j / 64) = 32 ∨ keyKeep (x.key i j) = .aon then d.f x i j else x.rst := by
  rw [Dev.f_resetStarted_main i j hx hb, Dev.f_resetMarked_other _ _ _ hc h, d.f_resetCleared_main i j hx]

theorem Dev.f_resetStarted_latch (hc : cause.key 0 0 / 64 = 0x10100) :
    (d.resetStarted cause).f F.TST_STATE_HALT_LATCH = d.f F.TST_STATE_HALT_LATCH := by
  rw [Dev.f_resetStarted_kept 0 0 hc rfl (by decide) (by decide), if_pos (.inr keyKeep_eq_aon.1)]

theorem Dev.f_resetStarted_stage (hc : cause.key 0 0 / 64 = 0x10100) :
    (d.resetStarted cause).f F.MBX_BOOT_STAGE = if d.f F.MBX_BOOT_STAGE = 7 then 7 else 0 := by
  have power : (d.resetCleared.resetMarked cause).resetPower.resetTrim.f F.MBX_BOOT_STAGE =
      (d.resetCleared.resetMarked cause).f F.MBX_BOOT_STAGE :=
    Dev.f_congr _ _ _ (fun _ => Dev.resetTrim_regs.trans (Dev.resetPower_regs _)) (fun h => absurd h (by decide))
  rw [Dev.resetStarted, Dev.f_resetHalted_stage, power, Dev.f_resetMarked_other _ _ _ hc (by decide), d.f_resetCleared_main _ _ rfl,
    if_neg (not_keptByReset _ (by simp))]
  simp only [beq_iff_eq]
  rfl

/-- A field of the main file that no step but the first two names. -/
theorem Dev.f_blockReset_main {x : Fld} (hx : x.isAux = false) (hb : x.key 0 0 ≠ F.MBX_BOOT_STAGE.key 0 0)
    (hs : x.key 0 0 ≠ F.TST_STATE_STATE.key 0 0) (ht : x.key 0 0 ≠ F.TUS_CTL_TX_INHIBIT.key 0 0) :
    (d.blockReset cause).f x = (d.resetCleared.resetMarked cause).f x :=
  (Dev.f_resetLatched_other hs ht).trans (Dev.f_resetStarted_main 0 0 hx hb)

/-- A field of the power and event file is as the power controller leaves it. -/
theorem Dev.f_blockReset_aux {x : Fld} (k : Nat) (hx : x.isAux = true) :
    (d.blockReset cause).f x k = (d.resetCleared.resetMarked cause).resetPower.resetTrim.f x k :=
  Dev.f_congr x k 0 (by simp [hx]) (fun _ => Dev.resetLatched_parts.1.trans (Dev.resetHalted_parts _).1)

theorem Dev.f_blockReset_power {x : Fld} {k : Nat} (hx : x.isAux = true) (hs : x.key k 0 ≠ F.PWR_STATE_STATE.key 0 0)
    (hp : x.key k 0 ≠ F.PWR_STATE_PREV.key 0 0) :
    (d.blockReset cause).f x k = (d.resetCleared.resetMarked cause).resetPower.f x k := by
  rw [Dev.f_blockReset_aux k hx, Dev.f_resetTrim_other (Dev.f_resetPower_pstate _ (by decide)) hs hp]

theorem Dev.f_blockReset_pstate {k : Nat} (hk : k ≤ 32) (hm : cause.isAux = false) : (d.blockReset cause).f F.PWR_DOM_PSTATE k =
    if 1 ≤ k ∧ k ≤ 31 then (if k = 1 then 2 else 0) else d.resetCleared.f F.PWR_DOM_PSTATE k := by
  have low {x : Fld} (hx : x.key 0 0 < 0x20100 * 64) : F.PWR_DOM_PSTATE.key k 0 ≠ x.key 0 0 := by
    simp only [Fld.key, F.PWR_DOM_PSTATE] at hx ⊢
    omega
  have marked : (d.resetCleared.resetMarked cause).f F.PWR_DOM_PSTATE k = d.resetCleared.f F.PWR_DOM_PSTATE k :=
    Dev.f_congr _ _ _ (fun h => absurd h (by decide)) (fun _ => d.resetCleared.resetMarked_aux hm)
  rw [Dev.f_blockReset_power rfl (low (by decide)) (low (by decide)), Dev.f_resetPower_pstate _ hk, marked]

theorem Dev.blockReset_parts : (d.blockReset cause).resetParts = d.resetCleared.resetParts := by
  rw [Dev.blockReset_eq, Dev.resetLatched_parts.2, Dev.resetStarted, (Dev.resetHalted_parts _).2, Dev.resetTrim_parts,
    Dev.resetPower_parts, Dev.resetMarked_parts]

/-- The terminal starts in HALT, silent, where the latch holds (R132). -/
theorem Dev.blockReset_haltLatched (hc : cause.key 0 0 / 64 = 0x10100) (h : d.f F.TST_STATE_HALT_LATCH ≠ 0) :
    (d.blockReset cause).f F.TST_STATE_STATE = 6 ∧ (d.blockReset cause).f F.TUS_CTL_TX_INHIBIT = 1 := by
  rw [Dev.blockReset_eq, Dev.resetLatched_set (by rwa [Dev.f_resetStarted_latch hc])]
  simp (disch := decide) only [Dev.f_set_ne, Dev.f_set_same]
  exact ⟨rfl, rfl⟩

theorem Dev.blockReset_haltClear (hc : cause.key 0 0 / 64 = 0x10100) (h : d.f F.TST_STATE_HALT_LATCH = 0) :
    (d.blockReset cause).f F.TST_STATE_STATE = 0 ∧ (d.blockReset cause).f F.TUS_CTL_TX_INHIBIT = 0 := by
  rw [Dev.blockReset_eq, Dev.resetLatched_clear ((Dev.f_resetStarted_latch hc).trans h),
    Dev.f_resetStarted_kept 0 0 hc rfl (by decide) (by decide), if_neg (not_keptByReset _ (by simp)),
    Dev.f_resetStarted_kept 0 0 hc rfl (by decide) (by decide), if_neg (not_keptByReset _ (by simp))]
  exact ⟨rfl, rfl⟩

end

/-- Settles O31: what AON and PD32 keep comes through the first step, and each register named is set by its own. -/
theorem blockResetLeaves : Obligations.BlockResetLeaves := by
  intro d cause hcause
  obtain ⟨hm, hw, hc, hn⟩ := blockResetCause_facts cause hcause
  have off29 : (d.resetCleared.resetMarked cause).resetPower.f F.PWR_DOM_PSTATE 29 = 0 := Dev.f_resetPower_pstate _ (by decide)
  have parts := Dev.blockReset_parts (d := d) (cause := cause)
  simp only [Dev.resetParts, Prod.mk.injEq] at parts
  obtain ⟨hfab, hds, hqsc, hhrg, hfw, hvit, hpins⟩ := parts
  refine ⟨fun k hk hk' => ?pstate, ?pd32, ?state, ?entering, ?fpoint, ?src, ?causeBit, ?count, fun x i j hx h hs ht hb => ?kept,
    Dev.blockReset_haltLatched hc, Dev.blockReset_haltClear hc, ?stage, hvit, (congrArg FwPart.floors hfw :), hfab, hds, hqsc, hhrg, hpins⟩
  case pstate => rw [Dev.f_blockReset_pstate (by omega) hm, if_pos ⟨hk, hk'⟩]
  case pd32 => rw [Dev.f_blockReset_pstate (by decide) hm, if_neg (by decide), d.f_resetCleared_aux _ _ rfl keyKeep_eq_aon.2.2]
  case state => rw [Dev.f_blockReset_aux _ rfl, Dev.f_resetTrim_state off29]
  case entering => rw [Dev.f_blockReset_power rfl (by decide) (by decide), Dev.f_resetPower_entering]
  case fpoint => rw [Dev.f_blockReset_power rfl (by decide) (by decide), Dev.f_resetPower_fpoint]
  case src =>
    rw [Dev.f_blockReset_main rfl (by decide) (by decide) (by decide), Dev.f_resetMarked_other _ _ _ hc (by decide),
      d.f_resetCleared_main _ _ rfl, if_neg (not_keptByReset _ (by simp))]
    rfl
  case causeBit =>
    have other {y : Fld} (h : y.key 0 0 / 64 ≠ 0x10100) : cause.key 0 0 ≠ y.key 0 0 := fun e => h (e ▸ hc)
    rw [Dev.f_blockReset_main hm (other (by decide)) (other (by decide)) (other (by decide)), Dev.f_resetMarked_cause _ hw hn]
  case count =>
    rw [Dev.f_blockReset_main rfl (by decide) (by decide) (by decide), Dev.f_resetMarked_count _ hn, d.f_resetCleared_main _ _ rfl,
      if_pos (.inr keyKeep_eq_aon.2.1)]
  case kept => exact (Dev.f_resetLatched_other hs ht).trans (Dev.f_resetStarted_kept i j hc hx h hb)
  case stage => exact (Dev.f_resetLatched_other (by decide) (by decide)).trans (Dev.f_resetStarted_stage hc)

end Sys2Proof.Machine
end

section
/-! Reception: from an arriving codeword to a delineated fragment (R59, R63 to R67, R75, R76, R78, R83, R93). -/

namespace Sys2Proof.Machine

/-! A codeword arrives (R59, R63, R67). -/

/-- A codeword of an examined frame, its words with DS_VALID low as zeros, through the descrambler: the codeword, and the register then. -/
def Dev.cwDescrambled (d : Dev) (p : Nat) (raw : BitVec 18432) (invalid : List Nat) : BitVec 18432 × BitVec 58 :=
  descramble d.ds.descr (BitVec.ofNat 18432 (zeroWords 18432 p invalid raw.toNat))

section
variable (d : Dev) (c : CwIn)

theorem Dev.cwBuffer_eq : d.cwBuffer c =
    if d.ds.inBuf.length < 32 then { d with ds := { d.ds with inBuf := d.ds.inBuf ++ [c] } } else d.decSkip c.frame c.k := by
  by_cases h : d.ds.inBuf.length < 32
  · rw [if_pos h]
    exact if_neg (Nat.not_le.2 h)
  · rw [if_neg h]
    exact if_pos (Nat.le_of_not_lt h)

end

section
variable {d : Dev} {c : CwIn}

theorem Dev.cwAccept_first (hk : c.k = 0) : d.cwAccept c =
    if ((d.cwBuffer c).rxFrame c.frame).any (fun f => f.done 0) then (d.cwBuffer c).cwRelease c.frame else d.cwBuffer c :=
  if_pos (beq_iff_eq.2 hk)

theorem Dev.cwAccept_waits (hk : c.k ≠ 0) (h : (d.rxFrame c.frame).any (fun f => f.done 0) = false) :
    d.cwAccept c = { d with ds := { d.ds with held := d.ds.held ++ [c] } } :=
  (if_neg (by simpa using hk)).trans (if_neg (ne_true_of_eq_false h))

theorem Dev.cwAccept_enters (hk : c.k ≠ 0) (h : (d.rxFrame c.frame).any (fun f => f.done 0) = true) : d.cwAccept c = d.cwEnter c :=
  (if_neg (by simpa using hk)).trans (if_pos h)

variable {k : Nat} {raw : BitVec 18432} {invalid : List Nat}

/-- The examined codeword is counted and descrambled; in SYNC it goes on to the frame in reception if it comes in its place. -/
theorem Dev.cwArrival_examined (hon : d.on 3 = true) (hup : d.xUp 0 = true) :
    let z := d.countN F.TDS_CNT_SYNC_INVALID_WORDS (wordsCounted d.cwPhase invalid)
    let y := z.cwDescrambled d.cwPhase raw invalid
    let a : Dev := { z with ds := { z.ds with descr := y.2 } }
    let e := if k = 0 then a.rxBegin else a
    z.sampledFrame z.rxSfc = true →
    (z.f F.TDS_SYNC_STAT_STATE ≠ 2 → d.cwArrival k raw invalid = a) ∧
    ∀ f : RxFrame, z.f F.TDS_SYNC_STAT_STATE = 2 → e.rxFrame e.ds.frameNum = some f → f.cut = false → f.next = k →
      d.cwArrival k raw invalid =
        ((e.rxSet f.num (fun g => { g with next := k + 1 })).cwAccept { frame := f.num, k := k, word := y.1, cap := 0 }).assign := by
  intro z y a e hs
  have arrival : d.cwArrival k raw invalid =
      if z.f F.TDS_SYNC_STAT_STATE != 2 then a
      else
        let d := if k == 0 then a.rxBegin else a
        match d.rxFrame d.ds.frameNum with
        | none => d
        | some f =>
          if f.cut || f.next != k then d
          else ((d.rxSet f.num (fun f => { f with next := k + 1 })).cwAccept { frame := f.num, k := k, word := y.1, cap := 0 }).assign :=
    (if_neg (by simp [hon, hup])).trans (if_neg (by simpa using hs))
  refine ⟨fun hn => ?_, fun f h2 hf hcut hnext => ?_⟩
  · exact arrival.trans (if_pos (bne_iff_ne.2 hn))
  · have he : (if k == 0 then a.rxBegin else a) = e := if_congr beq_iff_eq rfl rfl
    rw [arrival, if_neg (by simp [h2])]
    simp only [he, hf, hcut, hnext]
    simp

end

/-! A slice ends its codeword (R65). -/

/-- The codeword decoded goes to its frame; one that is uncorrectable raises cap and hold; and codeword 0 releases those that waited. -/
theorem Dev.cwDecoded_held {d : Dev} {n iters : Nat} {word : BitVec 18432} {c : CwIn} (hc : d.ds.slices.getD n none = some c) :
    let clean := ldpcValid c.word = true
    let ok := clean ∨ (1 ≤ iters ∧ iters ≤ c.cap ∧ ldpcValid word = true)
    let it := if clean then 0 else if ok then iters else c.cap
    let r : Dev := { d with ds := { d.ds with slices := d.ds.slices.set n none } }
    let e := (((r.count F.TDS_CNT_CW_DECODED).act 1 it).pmc 0x16 it).rxSet c.frame (fun f => { f with
      cws := f.cws.put c.k (⟨if ok then .decoded else .uncorrectable, ldpcInfo (if clean then c.word else word)⟩ : CwOut) })
    let x := if ok then (if 1 ≤ it then e.count F.TDS_CNT_FEC_CORR_CW else e).windowAdd it else e.uncorrectable
    d.cwDecoded n iters word = (if c.k = 0 then x.cwRelease c.frame else x).assign := by
  simp only [Dev.cwDecoded, hc, Bool.or_eq_true, Bool.and_eq_true, decide_eq_true_eq, and_assoc, beq_iff_eq, ge_iff_le]

/-! The header (R75, R76). -/

section
variable {d : Dev} {f : RxFrame}

/-- A frame whose header is due, its codewords having ended or been cut off, is judged. -/
theorem Dev.headerDecode_due (hf : d.ds.frames.find? (fun f => !f.judged) = some f) (hw : f.waits = false) (h0 : f.done 0 = true)
    (hall : f.useful = true → ∀ k, k < f.info.hcw → f.done k = true) :
    let ok := f.useful = true ∧ f.hdrOk = true
    let hcw := if f.useful then f.info.hcw else 0
    let pcw := if f.useful then f.info.pcw else 0
    let a := d.rxSet f.num (fun g => { g with
      judged := true, valid := decide ok, hcw := hcw, pcw := pcw, ended := !f.useful, sfc := if ok then f.info.sfc else g.sfc })
    let b : Dev := { a with ds := { a.ds with loads := ((hcw, pcw) :: a.ds.loads).take 4, hdrJudged := true } }
    let e := (b.set F.TDS_SYNC_STAT_HCW hcw).set F.TDS_SYNC_STAT_PCW_USED pcw
    let h := if f.useful then e else e.count F.TDS_CNT_DEC_PAYLOAD_LOST
    d.headerDecode = if ok then h.hdrValid f else h.hdrInvalid := by
  have due : (f.waits || !f.done 0 || (f.useful && !(List.range f.info.hcw).all f.done)) = false := by
    have hdr : f.useful = true → (List.range f.info.hcw).all f.done = true := fun hu =>
      List.all_eq_true.2 fun k hk => hall hu k (List.mem_range.1 hk)
    cases hu : f.useful
    · simp [hw, h0]
    · simp [hw, h0, hdr hu]
  simp only [Dev.headerDecode, hf, due, Bool.false_eq_true, if_false, Bool.and_eq_true, Bool.decide_and, Bool.decide_eq_true]

/-! Delineation (R78, R83). -/

theorem Dev.encapStep_next (hon : d.on 8 = true) (hf : d.ds.frames.find? (fun f => f.judged && !f.ended) = some f) (parityBad : Bool) :
    d.encapStep parityBad = d.delineate f parityBad := by
  simp [Dev.encapStep, hon, hf]

/-- In LOCK the next header, valid and with its octets received whole, leads past its fragment. -/
theorem Dev.delineate_lock {h n : Nat} (hlock : f.lock = true) (harea : f.pos + 8 ≤ f.area)
    (hres : f.resolved f.pos (f.pos + 8) = true) (hbad : f.bad f.pos (f.pos + 8) = false) (hdec : bchDecode (f.encHdr f.pos) = some (h, n))
    (hval : encValid h = true) (hin : f.pos + 8 + bits h 50 14 ≤ f.area) (hres' : f.resolved f.pos (f.pos + 8 + bits h 50 14) = true)
    (hbad' : f.bad (f.pos + 8) (f.pos + 8 + bits h 50 14) = false) (parityBad : Bool) :
    let e := (if 0 < n then d.count F.TDS_CNT_ENC_BCH_CORR else d).rxSet f.num (fun g => { g with pos := f.pos + 8 + bits h 50 14 })
    d.delineate f parityBad =
      if encIdle h then e
      else e.fragment f.keys f.sfc (f.hcw + f.pos / 1920) (f.pos % 1920) h (f.octets (f.pos + 8) (bits h 50 14)) parityBad := by
  simp only [Dev.delineate, hlock, hres, hbad, hdec, hval, Nat.min_eq_left hin, hres', hbad', Nat.not_lt.2 harea, Nat.not_lt.2 hin,
    gt_iff_lt, Bool.not_true, Bool.false_eq_true, decide_false, Bool.or_self, if_false]

/-- In HUNT the search goes through the whole payload at once: it locks behind the header it finds, or ends the frame. -/
theorem Dev.delineate_hunt (hlock : f.lock = false) (harea : f.pos + 8 ≤ f.area) (hres : f.resolved 0 f.area = true) (parityBad : Bool) :
    d.delineate f parityBad =
      match f.hunt (f.area + 1) f.pos with
      | some (h, q) => (d.rxSet f.num (fun g => { g with lock := true, pos := q })).fragLost h
      | none => d.rxSet f.num (fun g => { g with ended := true }) :=
  (if_neg (Nat.not_lt.2 harea)).trans ((if_pos (by simp [hlock])).trans (if_neg (by simp [hres])))

theorem encIdle_iff (h : Nat) : encIdle h = true ↔ bits h 32 32 = 0 ∧ bit h 31 = true := by simp [encIdle]

end

/-! Messages and reassemblies (R78, R93). -/

theorem Dev.unknownMsg_cons {d : Dev} {m : Msg} {t : List Msg} (h : d.ds.unknown = m :: t) :
    d.unknownMsg = ({ d with ds := { d.ds with unknown := t } } : Dev).count F.TDS_CNT_MSG_UNKNOWN := by
  simp only [Dev.unknownMsg, h]

theorem Dev.rsmTimeout_aged {d : Dev} {e : Nat} {r : Rsm} (h : d.ds.rsm.look e = some r) (hage : max 1 (d.f F.TDS_CTL_RSM_TMO) ≤ r.age) :
    d.rsmTimeout e = (d.count F.TDS_CNT_RSM_TIMEOUT).poison e := by
  simp only [Dev.rsmTimeout, h, if_neg (Nat.not_lt.2 hage)]

/-- Settles O33: a codeword by the place it comes in, and each other command by what it finds (log entries 24 and 25 for the choices). -/
theorem receptionCommands : Obligations.ReceptionCommands := by
  refine ⟨?arrival, fun d c => d.cwBuffer_eq c, ?decoded, ?header, ?lock, ?hunt, ?unknown, ?timeout⟩
  case arrival =>
    intro k invalid raw s hon hup p z hs y a
    have row {r : Dev} (h) := (exec_codewordArrival k raw invalid s).trans (run_after s _ r h)
    obtain ⟨outside, inside⟩ := Dev.cwArrival_examined (k := k) (raw := raw) (invalid := invalid) hon hup hs
    refine ⟨fun hn => row (outside hn), ?_⟩
    intro h2 d f hf hcut hnext c r ended0
    have entered {e : Dev} (he : r.cwAccept c = e) := row ((inside f h2 hf hcut hnext).trans (congrArg Dev.assign he))
    refine ⟨fun hk h0 => entered (Dev.cwAccept_waits hk h0), fun hk h0 => ?_, fun hk => entered (Dev.cwAccept_first hk)⟩
    exact entered (Dev.cwAccept_enters hk h0)
  case decoded =>
    intro n iters word c s hc
    exact (exec_codewordDecoded n iters word s).trans (run_after s _ _ (Dev.cwDecoded_held hc))
  case header =>
    intro f s hf hw h0 hall
    exact (exec_headerDecode s).trans (run_after s _ _ (Dev.headerDecode_due hf hw h0 hall))
  case lock =>
    intro f h n up s hon hf hlock harea hres hbad hdec hval next hin hres' hbad' d e
    refine (exec_encapHeader up s).trans (run_after s _ _ ?_)
    rw [Dev.encapStep_next hon hf, Dev.delineate_lock hlock harea hres hbad hdec hval hin hres' hbad']
    simp only [encIdle_iff]
    rfl
  case hunt =>
    intro f s hon hf hlock harea hres
    refine (exec_encapHeader [] s).trans (run_after s _ _ ?_)
    exact (Dev.encapStep_next hon hf _).trans (Dev.delineate_hunt hlock harea hres _)
  case unknown =>
    intro m t s h
    exact (exec_unknownMessage s).trans (run_after s _ _ (Dev.unknownMsg_cons h))
  case timeout =>
    intro e r s h hage
    exact (exec_reassemblyTimeout e s).trans (run_after s _ _ (Dev.rsmTimeout_aged h hage))

end Sys2Proof.Machine
end

section
/-! The staging unit and the direct writes of the staged tables (R85, R97, R178, R360 to R367, R453). -/

namespace Sys2Proof.Machine

section
variable {d : Dev} {n off : Nat} {w : RegWr}

/-! A staged write (R361, R362). -/

/-- The OPEN set of the writer takes a register that it holds already or has room for. -/
theorem Dev.stage_taken {agent : Nat} (hopen : d.stgState n = 1) (hown : d.f F.STG_STAT_OWNER n = agent)
    (hroom : ((d.stgSet n).look off).isSome = true ∨ (d.stgSet n).length < stgCap n) (mask val : Nat) :
    d.stage agent n off mask val = d.stgPut n ((d.stgSet n).put off (⟨mask, val &&& mask⟩ : StgVal)) := by
  have room : (((d.stgSet n).look off).isNone && (d.stgSet n).length ≥ stgCap n) = false := by
    obtain h | h := hroom
    · simp [Option.isNone_eq_false_iff.2 h]
    · simp [h]
  simp [Dev.stage, hopen, hown, room]

theorem Dev.stagedWrite_stages (hfree : stCuratorOnly off = false) (hsink : d.sinkGuards off w = false) : d.stagedWrite off w =
    d.stage w.agent.code (d.selOf w.agent % 4) off (stMask off) ((w.val &&& w.bitMask) + (d.stored off &&& (2 ^ 64 - 1 - w.bitMask))) :=
  (if_neg (by simp [hfree])).trans (if_neg (by simp [hsink]))

/-! The commands (R360, R363, R364). -/

/-- The row of an OP is the command of that OP where its write passes the gates. -/
theorem Dev.stgRow_passes {op : Nat} {e : Dev} (hn : n < 3) (hp : d.passes w.agent (0x180100 + 0x40 * n)) (hop : w.val % 8 = op)
    (he : d.stgCommand n op w.agent = e) : d.stgRow op n w = (e.respond .done).accessed d w.agent (0x180100 + 0x40 * n) := by
  rw [Dev.stgRow, if_neg (by simp [hop]; omega), gated_passes _ _ _ _ hp, Dev.writeStgCmd, hop, he]

/-- Sets 0 to 2 take every command of the table; set 3 is the sequencer's. -/
theorem Dev.stgCommand_lt (hn : n < 3) (a : Agent) :
    d.stgCommand n 1 a = d.stgOpen n a.code ∧ d.stgCommand n 2 a = d.stgTest n a.code (fun d => d.stgChecked n) ∧
      d.stgCommand n 3 a = d.stgTest n a.code (fun d => d.stgCheckArm n) ∧ d.stgCommand n 4 a = d.stgDrop n a.code := by
  have taken (op : Nat) : ¬ (n ≥ 4 || (n == 3 && !(op == 4 && a == .curator))) = true := by simp; omega
  exact ⟨if_neg (taken 1), if_neg (taken 2), if_neg (taken 3), if_neg (taken 4)⟩

theorem Dev.stgOpen_idle {agent : Nat} (hidle : d.stgState n = 0) (hmay : stgMayOpen n agent = true) : d.stgOpen n agent =
    ((((d.stgPut n []).setI F.STG_STAT_STATE n 1).setI F.STG_STAT_OWNER n agent).setI F.STG_STAT_LATE n 0).setI F.STG_STAT_FULL n 0 :=
  if_neg (by simp [hidle, hmay])

theorem Dev.stgTest_open {agent : Nat} (hopen : d.stgState n = 1) (hown : d.f F.STG_STAT_OWNER n = agent) (g : Dev → Dev) :
    d.stgTest n agent g = g d := by
  simp [Dev.stgTest, hopen, hown]

/-- The owner or Curator discards an OPEN or ARMED set. -/
theorem Dev.stgDrop_held {a : Agent} (hst : d.stgState n = 1 ∨ d.stgState n = 2) (hown : d.f F.STG_STAT_OWNER n = a.code ∨ a = .curator) :
    d.stgDrop n a.code = d.stgCancel n := by
  have may : (d.f F.STG_STAT_OWNER n != a.code && a.code != 0) = false := by
    obtain h | rfl := hown
    · simp [h]
    · simp [Agent.code]
  have hst0 : (d.stgState n == 0) = false := by simp; omega
  have hst3 : (d.stgState n == 3) = false := by simp; omega
  simp [Dev.stgDrop, may, hst0, hst3]

/-- The device whose set n is checked: the update engine is up to date where the set holds a commit. -/
def Dev.stgTested (d : Dev) (n : Nat) : Dev := if d.holdsCommit n then d.updSettle else d

theorem Dev.stgChecked_eq : d.stgChecked n =
    let r := (d.stgTested n).stgCheck n
    let c := ((d.stgTested n).setI F.STG_STAT_REASON n r.1).setI F.STG_RESULT_FAIL_OFS n r.2
    if r.1 = 0 then c else (c.count F.STG_CNT_CHECK_FAIL).raise 1474 := by
  simp only [Dev.stgChecked, beq_iff_eq]
  rfl

/-- A set that breaks no rule is armed. -/
theorem Dev.stgCheckArm_passes (h0 : ((d.stgTested n).stgCheck n).1 = 0) : d.stgCheckArm n =
    (((d.stgTested n).setI F.STG_STAT_REASON n 0).setI F.STG_RESULT_FAIL_OFS n ((d.stgTested n).stgCheck n).2).stgArm n := by
  have checked : d.stgChecked n =
      ((d.stgTested n).setI F.STG_STAT_REASON n 0).setI F.STG_RESULT_FAIL_OFS n ((d.stgTested n).stgCheck n).2 := by
    rw [Dev.stgChecked_eq]
    simp only [h0, if_true]
  have other : F.STG_STAT_REASON.key n 0 ≠ F.STG_RESULT_FAIL_OFS.key n 0 := by
    simp only [Fld.key, F.STG_STAT_REASON, F.STG_RESULT_FAIL_OFS]
    omega
  have reason : (d.stgChecked n).f F.STG_STAT_REASON n = 0 := by
    rw [checked, Dev.f_setI_ne _ _ _ _ _ _ _ (.inr other), Dev.f_setI_same, Nat.zero_mod]
  rw [Dev.stgCheckArm, ← checked]
  exact if_pos (beq_iff_eq.2 reason)

/-! STG_APPLY, and the end of an apply (R362, R363, R367). -/

theorem Dev.writeStgApply_owned (hn : n < 4) (hopen : d.stgState n = 1) (hown : d.f F.STG_STAT_OWNER n = w.agent.code) :
    d.writeStgApply n w = (d.put F.STG_APPLY_FRAME w n).put F.STG_APPLY_NEXT w n :=
  (if_neg (Nat.not_le.2 hn)).trans ((if_neg (by simp [hopen])).trans (if_neg (by simp [hown])))

theorem Dev.stgDrained_applying (hn : n < 4) (hst : d.stgState n = 3) :
    let e := ((d.stgIdle n).raise 1472).pmc 0x17 (d.stgSet n).length
    (∀ m fr, e.stg.held = some (m, fr) →
      d.stgDrained n = if n = 3 then ({ e with stg := { e.stg with held := none } } : Dev).stgAssistArm m fr else e) ∧
    (e.stg.held = none → d.stgDrained n = e) := by
  intro e
  have drained : d.stgDrained n =
      match e.stg.held with
      | some (m, fr) => if n == 3 then ({ e with stg := { e.stg with held := none } } : Dev).stgAssistArm m fr else e
      | none => e := if_neg (by simp [hst]; omega)
  refine ⟨fun m fr h => ?_, fun h => ?_⟩
  · simp only [drained, h, beq_iff_eq]
  · simp only [drained, h]

/-! Direct writes (R361, R453). -/

theorem Dev.stWrite_direct (h : d.takesDirect off w) (g : RegWr → Dev → Dev) : d.stWrite off w g = g w d := by
  obtain ⟨hstage, happly, -⟩ := h
  simp [Dev.stWrite, hstage, happly]

theorem Dev.mirWrite_mirrored (h : d.sinkGuards off w = false) (g : RegWr → Dev → Dev) : d.mirWrite off w g = (g w d).mirrored off w := by
  simp only [Dev.mirWrite, h, Bool.false_eq_true, if_false, beq_iff_eq]
  rfl

/-- A direct write of a mirrored register takes effect in it, and is mirrored. -/
theorem Dev.stWrite_mirWrite (h : d.takesDirect off w) (g : RegWr → Dev → Dev) :
    d.stWrite off w (fun w d => d.mirWrite off w g) = (g w d).mirrored off w :=
  (Dev.stWrite_direct h _).trans (Dev.mirWrite_mirrored h.2.2 g)

theorem Dev.fltDirect_kept
    (h : d.idRefused fltTable n (w.merged F.TDS_FLT_FTAG (d.f F.TDS_FLT_FTAG n)) (w.merged F.TDS_FLT_VALID (d.f F.TDS_FLT_VALID n) == 1) = false) :
    d.fltDirect n w = d.fltSet n (w.merged F.TDS_FLT_FTAG (d.f F.TDS_FLT_FTAG n)) (w.merged F.TDS_FLT_VALID (d.f F.TDS_FLT_VALID n) == 1)
      (w.merged F.TDS_FLT_ENC_REQ (d.f F.TDS_FLT_ENC_REQ n) == 1) (w.merged F.TDS_FLT_BCAST (d.f F.TDS_FLT_BCAST n) == 1) :=
  if_neg (ne_true_of_eq_false h)

theorem Dev.allocDirect_kept
    (h : d.idRefused allocTable n (w.merged F.TUS_ALLOC_ALLOC_ID (d.f F.TUS_ALLOC_ALLOC_ID n))
      (w.merged F.TUS_ALLOC_VALID (d.f F.TUS_ALLOC_VALID n) == 1) = false) :
    let e := if n = 0 then d else (d.setI F.TUS_ALLOC_ALLOC_ID n (w.merged F.TUS_ALLOC_ALLOC_ID (d.f F.TUS_ALLOC_ALLOC_ID n))).setI
      F.TUS_ALLOC_VALID n (w.merged F.TUS_ALLOC_VALID (d.f F.TUS_ALLOC_VALID n))
    d.allocDirect n w = (e.put F.TUS_ALLOC_ENC w n).put F.TUS_ALLOC_DEFER w n := by
  refine (if_neg (ne_true_of_eq_false h)).trans ?_
  simp only [beq_iff_eq]

theorem Dev.polDirect_eq : d.polDirect n w =
    let e := (d.put F.CLS_POL_RATE w n).put F.CLS_POL_BURST w n
    if (F.CLS_POL_RATE.maskBits ||| F.CLS_POL_BURST.maskBits) &&& w.bitMask = 0 then e else e.polFill n := by
  simp only [Dev.polDirect, beq_iff_eq]

end

/-- Settles O34: the commands of the sets by the state and the writer they ask for, and the direct writes as the tables take them. Octets that
a staged write does not enable keep the active value (R508, log entry 39). -/
theorem stagingCommands : Obligations.StagingCommands := by
  refine ⟨fun w s hp => ?sel, ?staged, ?commands, ?apply, ?drained, ?flt, ?alloc, ?pol⟩
  case sel => exact (exec_stgSelWrite w s).trans (run_gated s 0x180000 w hp rfl)
  case staged =>
    intro off w s hp hstage hmask hfree hsink t hopen hown hroom new
    refine (exec_stagedWrite off w s).trans (run_after s _ _ ?_)
    rw [Dev.stagedRow, if_pos (by simp [hstage, hmask]), gated_passes _ _ _ _ hp, Dev.stagedWrite_stages hfree hsink,
      Dev.stage_taken hopen hown hroom]
  case commands =>
    intro n w s hn hp
    obtain ⟨opens, checks, arms, drops⟩ := Dev.stgCommand_lt (d := s.dev) hn w.agent
    refine ⟨fun hop hidle hmay => ?_, fun hop hopen hown => ?_, fun hop hopen hown => ?_, fun hop hst hown => ?_⟩
    · exact (exec_stgOpen n w s).trans (run_after s _ _ (Dev.stgRow_passes hn hp hop (opens.trans (Dev.stgOpen_idle hidle hmay))))
    · refine (exec_stgCheck n w s).trans (run_after s _ _ (Dev.stgRow_passes hn hp hop ?_))
      exact checks.trans ((Dev.stgTest_open hopen hown _).trans Dev.stgChecked_eq)
    · intro d h0
      refine (exec_stgCheckArm n w s).trans (run_after s _ _ (Dev.stgRow_passes hn hp hop ?_))
      exact arms.trans ((Dev.stgTest_open hopen hown _).trans (Dev.stgCheckArm_passes h0))
    · exact (exec_stgCancel n w s).trans (run_after s _ _ (Dev.stgRow_passes hn hp hop (drops.trans (Dev.stgDrop_held hst hown))))
  case apply =>
    intro n w s hn hp hopen hown
    refine (exec_stgApplyWrite n w s).trans (run_after s _ _ ?_)
    rw [if_neg (Nat.not_le.2 hn), gated_passes _ _ _ _ hp, Dev.writeStgApply_owned hn hopen hown]
  case drained =>
    intro n s hn hst d
    obtain ⟨held, free⟩ := Dev.stgDrained_applying hn hst
    refine (exec_stagingDrainDone n s).trans (run_after s _ _ ?_)
    cases h : d.stg.held with
    | none => exact free h
    | some x => exact held x.1 x.2 h
  case flt =>
    intro n w s hn hp ht tag valid hkept
    refine (exec_tdsFltWrite n w s).trans (run_after s _ _ ?_)
    rw [if_neg (Nat.not_le.2 hn), gated_passes _ _ _ _ hp, Dev.writeFlt, Dev.stWrite_mirWrite ht, Dev.fltDirect_kept hkept]
  case alloc =>
    intro n w s hn hp ht id valid hkept d
    refine (exec_tusAllocWrite n w s).trans (run_after s _ _ ?_)
    rw [if_neg (Nat.not_le.2 hn), gated_passes _ _ _ _ hp, Dev.writeAlloc, Dev.stWrite_direct ht, Dev.allocDirect_kept hkept]
  case pol =>
    intro n w s hn hp ht d
    refine (exec_clsPolWrite n w s).trans (run_after s _ _ ?_)
    rw [if_neg (Nat.not_le.2 hn), gated_passes _ _ _ _ hp, Dev.writePol, Dev.stWrite_mirWrite ht, Dev.polDirect_eq]

end Sys2Proof.Machine
end

section
/-! The level outputs (R121, R126, R193, R311, R315, R435, R511): no output is derived from another one, so outputs that have just been
driven agree with the state, and every step drives them last. -/

namespace Sys2Proof.Machine

section
variable (d : Dev)

@[simp] theorem Dev.b_drivePins (x : Fld) (i j : Nat) : d.drivePins.b x i j = d.b x i j := rfl

@[simp] theorem Dev.irqPins_drivePins : d.drivePins.irqPins = d.irqPins := rfl

@[simp] theorem Dev.phySleep_drivePins : d.drivePins.phySleep = d.phySleep := rfl

@[simp] theorem Dev.usValid_drivePins : d.drivePins.usValid = d.usValid := rfl

@[simp] theorem Dev.upTxV_drivePins : d.drivePins.upTxV = d.upTxV := rfl

@[simp] theorem Dev.upTxC_drivePins : d.drivePins.upTxC = d.upTxC := rfl

/-- The outputs are driven from state that driving them leaves as it is. -/
theorem Dev.pinsDriven_drivePins : d.drivePins.pinsDriven := by
  unfold Dev.pinsDriven
  simp only [Dev.irqPins_drivePins, Dev.phySleep_drivePins, Dev.usValid_drivePins, Dev.upTxV_drivePins, Dev.upTxC_drivePins,
    Dev.b_drivePins]
  exact ⟨rfl, rfl, rfl, rfl, rfl, rfl, rfl⟩

theorem Dev.pinsDriven_settle : d.settle.pinsDriven := Dev.pinsDriven_drivePins _

end

/-- A step is an effect on the device, settled: of the command at the front, or of one idle core clock edge. -/
theorem step_run (s : State) : ∃ (r : State) (g : Dev → Dev), step s = r.run g := by
  unfold step
  cases s.pending with
  | nil => exact ⟨_, _, rfl⟩
  | cons c rest => exact ⟨_, exec_run c _⟩

/-- What a step answers is a settled device. -/
theorem step_settled {s t : State} (h : step s = .next t) : ∃ d : Dev, t.dev = d.settle := by
  obtain ⟨r, g, hrun⟩ := step_run s
  rw [hrun, State.run_next, Host.Outcome.next.injEq] at h
  exact ⟨_, congrArg State.dev h.symm⟩

/-- Settles O4: a step answers a settled device, and settling drives the outputs last. -/
theorem stepsDriveThePins : Obligations.StepsDriveThePins := by
  intro s t h
  obtain ⟨d, hd⟩ := step_settled h
  rw [hd]
  exact d.pinsDriven_settle

/-- The reset values of the outputs are what the reset state behind them drives. -/
theorem Dev.reset_drivePins : Dev.reset.drivePins = Dev.reset := by decide

/-- Settles O5: driving the outputs at reset changes none of them. -/
theorem pinsDrivenAtReset : Obligations.PinsDrivenAtReset := by
  have h := Dev.reset.pinsDriven_drivePins
  rwa [Dev.reset_drivePins] at h

end Sys2Proof.Machine
end

section
/-! The line: faults, inhibit and gate, TX_SD and PHY_SLEEP (R122 to R126). -/

namespace Sys2Proof.Machine

/-- A row that is one gated register write where it writes a 1 to bit i, and which passes the gates. -/
theorem run_gated_of_bit (s : State) (off : Nat) (w : RegWr) {i : Nat} {g : Dev → Dev} {e : Dev} (hbit : bit w.val i = true)
    (hp : s.dev.passes w.agent off) (hg : g s.dev = e) :
    s.run (fun d => if bit w.val i then d.gated off w g else d) = .next (s.after ((e.respond .done).accessed s.dev w.agent off)) := by
  simp only [hbit, if_true]
  exact run_gated s off w hp hg

section
variable {d : Dev} {w : RegWr}

/-! TX_FAULT (R122). -/

theorem Dev.txFault_asserts (h : d.f F.TUS_STAT_TX_FAULT = 0) (hon : d.on 9 = true) :
    let e := (((d.set F.TUS_STAT_TX_FAULT 1).set F.TUS_STAT_FAULT_HOLD 1).count F.TUS_CNT_PHY_TX_FAULT).raise 1186
    d.txFault = ({ e with us := { e.us with txf := true } } : Dev).txKill :=
  if_neg (by simp [Dev.b_eq_false.2 h, hon])

theorem Dev.txFaultEnd_deasserts (h : d.f F.TUS_STAT_TX_FAULT ≠ 0) :
    let e := d.set F.TUS_STAT_TX_FAULT 0
    d.txFaultEnd = if e.f F.TUS_CTL_FAULT_AUTO ≠ 0 then e.faultRelease else e := by
  refine (if_neg (by simp [Dev.b_eq_true.2 h])).trans ?_
  simp only [Dev.b_eq_true]

/-! A write of TUS_CTL (R122 to R126): the modes, then TX_INHIBIT and GATE of an agent other than a host, then FAULT_CLR. -/

/-- TUS_CTL with its automatic modes taken; without AUTO_SLEEP the automatic PHY_SLEEP ends. -/
def Dev.tusModes (w : RegWr) (d : Dev) : Dev :=
  let d := ((d.put F.TUS_CTL_FAULT_AUTO w).put F.TUS_CTL_ROGUE_SLEEP w).put F.TUS_CTL_AUTO_SLEEP w
  if d.f F.TUS_CTL_AUTO_SLEEP ≠ 0 then d else { d with us := { d.us with autoSleep := false } }

/-- TUS_CTL with TX_INHIBIT and GATE taken where their octet is enabled and no host writes. -/
def Dev.tusGates (w : RegWr) (d : Dev) : Dev :=
  if w.mask.getLsbD 0 = true ∧ w.agent.isHost = false then (d.setInhibit (bit w.val 2)).setGate (w.val % 4) else d

theorem Dev.writeTusCtl_eq : Dev.writeTusCtl w d =
    let e := (d.tusModes w).tusGates w
    if w.fld F.TUS_CTL_FAULT_CLR = 1 then e.faultClear else e := by
  simp only [Dev.writeTusCtl, Dev.tusModes, Dev.tusGates, Dev.b_eq_true, beq_iff_eq, Bool.and_eq_true, Bool.not_eq_true']

theorem Dev.writeTusCtl_keeps (h : w.fld F.TUS_CTL_FAULT_CLR = 0) : Dev.writeTusCtl w d = (d.tusModes w).tusGates w := by
  rw [Dev.writeTusCtl_eq, if_neg (by simp [h])]

theorem Dev.writeTusCtl_clears (h : w.fld F.TUS_CTL_FAULT_CLR = 1) :
    Dev.writeTusCtl w d = ((d.tusModes w).tusGates w).faultClear := by
  rw [Dev.writeTusCtl_eq, if_pos h]

/-! TX_SD (R125). -/

theorem Dev.txDark_raises (hon : d.on 9 = true) (hfirst : d.us.darkRaised = false) {bt : Nat} :
    let e := d.set F.TUS_STAT_TX_SD 0
    e.f F.TUS_STAT_TX_EN ≠ 0 → e.f F.TUS_TXEN_SD_DLY ≤ bt →
    let c := e.count F.TUS_CNT_PHY_DARK
    d.txDark bt = ({ c with us := { d.us with darkRaised := true } } : Dev).raise 1187 := by
  intro e hen hdly
  have on : e.on 9 = true := hon
  refine if_neg ?_
  simp [e, on, hfirst, Dev.b_eq_true.2 hen, hdly]

/-- A high TX_SD is the rogue condition, which counts and raises ROGUE where it did not stand. -/
theorem Dev.txRogue_raises (hon : d.on 9 = true) {bt : Nat} :
    let e := d.set F.TUS_STAT_TX_SD 1
    e.f F.TUS_STAT_TX_EN = 0 → e.f F.TUS_TXEN_SD_OFF ≤ bt →
    let sleep := e.b F.TUS_CTL_ROGUE_SLEEP
    let r : Dev := { e with us := { e.us with
      rogueCond := true, rogueHold := e.us.rogueHold || sleep, rogueRaised := true
      rogueClr := if sleep then false else e.us.rogueClr } }
    d.txRogue bt = if e.us.rogueRaised then r else (r.count F.TUS_CNT_PHY_ROGUE).raise 1188 := by
  intro e hen hoff
  have on : e.on 9 = true := hon
  refine if_neg ?_
  simp [e, on, Dev.b_eq_false.2 hen, hoff]

/-! PHY_SLEEP (R126). -/

theorem Dev.phyRelease_needed {t : Nat} (hon : d.on 9 = true) (h : d.phyNeeded (d.tickLine + t) = true) : d.phyRelease t =
    { d with us := { d.us with autoSleep := false, phyHold := d.us.phyHold || d.phyBurst (d.tickLine + t) } } :=
  if_neg (by simp [hon, h])

theorem Dev.phyAssert_unneeded {t : Nat} (hon : d.on 9 = true) (h : d.phyNeeded (d.tickLine + t) = false) : d.phyAssert t =
    { d with us := { d.us with autoSleep := d.b F.TUS_CTL_AUTO_SLEEP, phyHold := false } } :=
  if_neg (by simp [hon, h])

theorem Dev.writeTxen_takes :
    let e := (((d.put F.TUS_TXEN_LEAD w).put F.TUS_TXEN_LAG w).put F.TUS_TXEN_SD_DLY w).put F.TUS_TXEN_SD_OFF w
    w.merged F.TUS_TXEN_PHY_WAKE (e.f F.TUS_TXEN_PHY_WAKE) ≤ 16 → Dev.writeTxen w d = e.put F.TUS_TXEN_PHY_WAKE w :=
  fun h => if_neg (Nat.not_lt.2 h)

theorem Dev.writeTxen_refuses :
    let e := (((d.put F.TUS_TXEN_LEAD w).put F.TUS_TXEN_LAG w).put F.TUS_TXEN_SD_DLY w).put F.TUS_TXEN_SD_OFF w
    16 < w.merged F.TUS_TXEN_PHY_WAKE (e.f F.TUS_TXEN_PHY_WAKE) → Dev.writeTxen w d = e.set F.TUS_STAT_REFUSED 1 :=
  fun h => if_pos h

end

/-- Settles O37: each command of the line by its equation; the three rows of TUS_CTL are one gated write, TX_INHIBIT_WRITE and FAULT_CLR
where their bit is written. A FAULT_CLR while TX_FAULT is high is log entry 26. -/
theorem lineCommands : Obligations.LineCommands := by
  refine ⟨fun s hfault hon => ?assert, fun s hfault => ?deassert,
    fun w s hp => ⟨fun hclr => ⟨?gate, fun hbit => ?inhibit⟩, fun hclr hbit => ?clear⟩,
    fun bt s hon hfirst => ?dark, fun bt s hon => ?rogue, fun s => exec_rogueConditionClear s,
    fun t s hon => ⟨fun hneed => ?release, fun hneed => ?sleep⟩, fun w s hp => ⟨fun hwake => ?wake, fun hwake => ?refused⟩⟩
  case assert => exact (exec_txFaultAssert s).trans (run_after s _ _ (Dev.txFault_asserts hfault hon))
  case deassert => exact (exec_txFaultDeassert s).trans (run_after s _ _ (Dev.txFaultEnd_deasserts hfault))
  case gate => exact (exec_gateWrite w s).trans (run_gated s _ w hp (Dev.writeTusCtl_keeps hclr))
  case inhibit => exact (exec_txInhibitWrite w s).trans (run_gated_of_bit s _ w hbit hp (Dev.writeTusCtl_keeps hclr))
  case clear => exact (exec_faultClr w s).trans (run_gated_of_bit s _ w hbit hp (Dev.writeTusCtl_clears hclr))
  case dark => exact fun hen hdly => (exec_txDark bt s).trans (run_after s _ _ (Dev.txDark_raises hon hfirst hen hdly))
  case rogue => exact fun hen hoff => (exec_txRogue bt s).trans (run_after s _ _ (Dev.txRogue_raises hon hen hoff))
  case release => exact (exec_phySleepRelease t s).trans (run_after s _ _ (Dev.phyRelease_needed hon hneed))
  case sleep => exact (exec_phySleepAssert t s).trans (run_after s _ _ (Dev.phyAssert_unneeded hon hneed))
  case wake => exact (exec_phyWakeWrite w s).trans (run_gated s _ w hp (Dev.writeTxen_takes hwake))
  case refused => exact (exec_phyWakeWrite w s).trans (run_gated s _ w hp (Dev.writeTxen_refuses hwake))

end Sys2Proof.Machine
end

section
/-! Control messages: how a message is taken and judged, and the messages of the sequencer (R129, R133, R135, R137, R140, R145, R147, R150). -/

namespace Sys2Proof.Machine

/-! The head of a queue is taken (R79, R320, R350). -/

section
variable {s : State} {ty : Nat} {m : Msg} {t : List Msg} {k : Msg → Dev → Dev} {e : Dev}

theorem Dev.seqMsg_head {d : Dev} (h : d.seqHead ty m t) (k : Msg → Dev → Dev) : d.seqMsg ty k = k m (d.seqRest t) := by
  obtain ⟨hq, hty, hon, hbusy, hhdr⟩ := h
  simp [Dev.seqMsg, hq, hty, hon, hbusy, hhdr, Dev.seqRest]

theorem Dev.docMsg_head {d : Dev} (h : d.docHead ty m t) (k : Msg → Dev → Dev) : d.docMsg ty k = k m (d.docRest t) := by
  obtain ⟨hq, hty, hruns⟩ := h
  simp [Dev.docMsg, hq, hty, hruns, Dev.docRest]

theorem run_seqMsg (h : s.dev.seqHead ty m t) (hk : k m (s.dev.seqRest t) = e) :
    s.run (fun d => d.seqMsg ty k) = .next (s.after e) :=
  run_after s _ e ((Dev.seqMsg_head h k).trans hk)

theorem run_docMsg (h : s.dev.docHead ty m t) (hk : k m (s.dev.docRest t) = e) :
    s.run (fun d => d.docMsg ty k) = .next (s.after e) :=
  run_after s _ e ((Dev.docMsg_head h k).trans hk)

end

/-! What every message meets first (R135, R137, R140). -/

section
variable {d : Dev} {m : Msg}

theorem not_otherTerminal (h : msgAddr m = 2 → (m.getD 1 0).toNat = d.f F.TST_SERIAL_SN) :
    ¬ (msgAddr m == 2 && (m.getD 1 0).toNat != d.f F.TST_SERIAL_SN) = true := by
  simpa using h

theorem Dev.process_fresh (h : d.fresh m) (ok : Bool) (g : Dev → Dev) :
    let c := d.count F.TST_CNT_BAD_STATE
    d.process m ok g = if ok then g d
      else if msgType m ∈ [3, 4, 5, 6, 7, 8] ∧ c.f F.TUS_CTL_GATE ≠ 0 then c.ack (msgType m) (msgSeq m) 1 else c := by
  obtain ⟨haddr, hnew⟩ := h
  rw [Dev.process, if_neg (not_otherTerminal haddr), hnew]
  simp only [Bool.and_eq_true, List.contains_iff_mem, bne_iff_ne, ackTypes]

/-- A fresh message in a state of its row has its effect. -/
theorem Dev.process_accepted (h : d.fresh m) {ok : Bool} (hok : ok = true) (g : Dev → Dev) : d.process m ok g = g d :=
  (Dev.process_fresh h ok g).trans (if_pos hok)

/-- A fresh message outside its states is counted, and answered 1 where its type is acknowledged and the gate is not closed. -/
theorem Dev.process_badState (h : d.fresh m) (g : Dev → Dev) :
    let c := d.count F.TST_CNT_BAD_STATE
    d.process m false g = if msgType m ∈ [3, 4, 5, 6, 7, 8] ∧ c.f F.TUS_CTL_GATE ≠ 0 then c.ack (msgType m) (msgSeq m) 1 else c :=
  Dev.process_fresh h false g

/-- A repetition is counted, whatever the state, and has no response or has it queued again. -/
theorem Dev.process_repetition {l : LastMsg} (haddr : msgAddr m = 2 → (m.getD 1 0).toNat = d.f F.TST_SERIAL_SN) (hl : d.dupOf m = some l)
    (ok : Bool) (g : Dev → Dev) :
    (l.resp = none → d.process m ok g = d.count F.TST_CNT_DUPLICATE) ∧
    ∀ r, l.resp = some r → d.process m ok g = (d.count F.TST_CNT_DUPLICATE).again (msgType m) r := by
  rw [Dev.process, if_neg (not_otherTerminal haddr), hl]
  exact ⟨fun h => by simp only [h], fun r h => by simp only [h]⟩

end

/-! KEY_SWITCH (R147). -/

section
variable {d : Dev} {m : Msg}

theorem Dev.keySwitchCheck_eq :
    let slot := wf m 0 34 2
    let sw := wf m 2 0 51
    d.keySwitchCheck m =
      if wf m 0 26 8 = d.f F.TST_KEYSW_KSEQ then none
      else if slot = 0 ∨ slot = 3 then some 2
      else if d.slotValid slot = false then some 3
      else if sw ≤ msgFrame m then some 4
      else if msgFrame m + 65536 < sw then some 2
      else some 0 := by
  simp only [Dev.keySwitchCheck, beq_iff_eq, Bool.or_eq_true, Bool.not_eq_true', gt_iff_lt]

theorem Dev.keySwitchCheck_of_valid (hs : wf m 0 26 8 ≠ d.f F.TST_KEYSW_KSEQ) (hslot : ¬ (wf m 0 34 2 = 0 ∨ wf m 0 34 2 = 3))
    (hv : d.slotValid (wf m 0 34 2) = true) :
    d.keySwitchCheck m =
      if wf m 2 0 51 ≤ msgFrame m then some 4 else if msgFrame m + 65536 < wf m 2 0 51 then some 2 else some 0 := by
  rw [Dev.keySwitchCheck_eq, if_neg hs, if_neg hslot, if_neg (ne_false_of_eq_true hv)]

/-- The device in which the switch to the message's key is staged for its frame and shown as pending. -/
def Dev.keySwitchPends (d : Dev) (m : Msg) : Dev :=
  let e := d.stgAssist [(0x50018, ⟨F.TUS_SEQSEL_KSEL.maskBits, wf m 0 34 2 * 2 ^ 8⟩)] (wf m 2 0 51)
  (((e.set F.TST_KEYSW_PEND_KSEQ (wf m 0 26 8)).set F.TST_KEYSW_PEND_SLOT (wf m 0 34 2)).set
    F.TST_KEYSW_PEND_SFC (wf m 2 0 51 % 2 ^ 32)).set F.TST_KEYSW_PENDING 1

/-- In OPERATE a fresh KEY_SWITCH is acknowledged with the status of its check, 0 where it names the sequence in force; one that passes is
pending first. -/
theorem Dev.msgKeySwitch_judged (hf : d.fresh m) (hst : d.f F.TST_STATE_STATE = 4) :
    (d.keySwitchCheck m = none → Dev.msgKeySwitch m d = d.acked m 0) ∧
    (∀ st, d.keySwitchCheck m = some (st + 1) → Dev.msgKeySwitch m d = d.acked m (st + 1)) ∧
    (d.keySwitchCheck m = some 0 → Dev.msgKeySwitch m d = (d.keySwitchPends m).acked m 0) := by
  rw [Dev.msgKeySwitch, Dev.process_accepted hf (by simpa [Dev.tst] using hst)]
  exact ⟨fun h => by simp only [h], fun st h => by simp only [h], fun h => by simp only [h, Dev.keySwitchPends]⟩

end

/-! RANGING_TIME (R145). -/

section
variable {d : Dev} {m : Msg}

/-- The EQD that a RANGING_TIME asks for: its value, or the sum of the EQD in force and its signed value. -/
def Dev.eqdAsked (d : Dev) (m : Msg) : Int :=
  if wf m 0 9 1 = 1 then d.f F.TUS_TIMING_EQD + signed 26 (wf m 0 10 26) else (wf m 0 10 26 : Nat)

theorem Dev.msgRangingTime_fresh (hf : d.fresh m)
    (hst : d.f F.TST_STATE_STATE = 4 ∨ (d.f F.TST_STATE_STATE = 3 ∧ wf m 0 9 1 ≠ 1)) :
    let v := d.eqdAsked m
    let e := d.set F.TUS_TIMING_EQD v.toNat
    Dev.msgRangingTime m d =
      if v < 0 ∨ 0x3FFFFFF < v then d.acked m 2
      else (if e.f F.TST_STATE_STATE = 3 then (e.enterState 4).set F.TST_STATE_TIMER 0 else e).acked m 0 := by
  rw [Dev.msgRangingTime, Dev.process_accepted hf (by simpa [Dev.tst] using hst)]
  simp only [Dev.tst, Dev.eqdAsked, beq_iff_eq, Bool.or_eq_true, decide_eq_true_eq, gt_iff_lt]
  rfl

end

/-! TIME_OF_DAY (R150). -/

section
variable {d : Dev} {m : Msg}

/-- The EQD of the burst page in force, or that of the register where there is none. -/
def Dev.eqdInForce (d : Dev) : Nat := match d.pageNow with | some p => p.eqd | none => d.f F.TUS_TIMING_EQD

theorem Dev.msgTimeOfDay_fresh (hf : d.fresh m) (hst : d.f F.TST_STATE_STATE = 4) (hsrc : d.f F.CKX_TICK_STAT_SRC = 1)
    (hen : d.f F.TST_TOD_CTL_TOD_EN ≠ 0) :
    let df : Int := (wf m 4 32 32 * 10 : Nat) - 35000000 - (d.eqdInForce * 10 : Nat)
    let e := d.processed m none
    let ts : Int := (wf m 2 0 48 * second + wf m 3 32 32 * 65536 + wf m 3 16 16 : Nat)
    let ps : Int := ((wf m 4 0 32 : Nat) * df).tdiv (2 ^ 32) + e.z F.TST_TOD_CTL_DS_LAT + 1600000
    let ofs := ts + (ps * 65536).tdiv 1000 - e.tickTime
    let c := (e.set F.TST_TOD_STAT_LAST_OFS (lastOfs (ofs.tdiv 256))).count F.TST_CNT2_TOD_APPLIED
    Dev.msgTimeOfDay m d =
      if df < 0 then e.count F.TST_CNT2_TOD_BAD
      else if c.f F.TST_TOD_STAT_VALID = 0 ∨ c.f F.TST_TOD_CTL_STEP_THR * 65536 ≤ ofs.natAbs
        then { c with term := { c.term with step := some (ofs, true) } }
        else ({ c with term := { c.term with step := none, slew := some (ofs, 0) } } : Dev).set F.TST_TOD_STAT_SLEWING 1 := by
  intro df e ts ps ofs c
  have locked : ¬ (d.f F.CKX_TICK_STAT_SRC != 1 || !d.b F.TST_TOD_CTL_TOD_EN) = true := by simp [hsrc, Dev.b_eq_true.2 hen]
  rw [Dev.msgTimeOfDay, Dev.process_accepted hf (by simpa [Dev.tst] using hst), if_neg locked]
  refine if_congr Iff.rfl rfl (if_congr ?_ rfl rfl)
  rw [Bool.or_eq_true, Bool.not_eq_true', Dev.b_eq_false, decide_eq_true_eq, Int.natAbs_natCast, ge_iff_le]
  exact Iff.rfl

end

/-- Settles O38: each message as one that is fresh and in a state of its row, by what its own checks find (log entry 31 for the one slot of a
pending step). -/
theorem sequencerMessages : Obligations.SequencerMessages := by
  refine ⟨fun m t s hh => ?ranging, fun m t s hh => ?time, fun m t s hh => ?key, fun m t s hh => ?tod, fun m t s hh => ?halt⟩
  case ranging =>
    intro d hf hst e l
    refine (exec_rangingReq s).trans (run_seqMsg hh ?_)
    exact Dev.process_accepted hf (by simpa [Dev.tst] using hst) _
  case time =>
    intro d rel hf hst v e
    have row {r : Dev} (h) := (exec_rangingTime s).trans (run_seqMsg (e := r) hh h)
    have inState : d.f F.TST_STATE_STATE = 4 ∨ (d.f F.TST_STATE_STATE = 3 ∧ wf m 0 9 1 ≠ 1) := hst
    refine ⟨fun hlo hhi => row ((Dev.msgRangingTime_fresh hf inState).trans (if_neg ?_)), fun hout => ?_⟩
    · exact not_or.2 ⟨Int.not_lt.2 hlo, Int.not_lt.2 hhi⟩
    · exact row ((Dev.msgRangingTime_fresh hf inState).trans (if_pos hout))
  case key =>
    intro d hf hst slot sw same bad
    have row {r : Dev} (h) := (exec_keySwitch s).trans (run_seqMsg (e := r) hh h)
    obtain ⟨again, refused, staged⟩ := Dev.msgKeySwitch_judged hf hst
    have valid := Dev.keySwitchCheck_of_valid (d := d) (m := m)
    refine ⟨fun hs => ?_, fun hs hb => ?_, fun hs hb hv => ?_, fun hs hb hv hw => ?_, fun hs hb hv hw => ?_, fun hs hb hv hw hw' => ?_⟩
    · exact row (again (Dev.keySwitchCheck_eq.trans (if_pos hs)))
    · exact row (refused 1 (by rw [Dev.keySwitchCheck_eq, if_neg hs, if_pos hb]))
    · exact row (refused 2 (by rw [Dev.keySwitchCheck_eq, if_neg hs, if_neg hb, if_pos hv]))
    · exact row (refused 3 ((valid hs hb hv).trans (if_pos hw)))
    · exact row (refused 1 (by rw [valid hs hb hv, if_neg (by omega), if_pos hw]))
    · exact row (staged (by rw [valid hs hb hv, if_neg (by omega), if_neg (by omega)]))
  case tod =>
    intro d hf hst hsrc hen eqd df e
    have row {r : Dev} (h) := (exec_timeOfDay s).trans (run_seqMsg (e := r) hh ((Dev.msgTimeOfDay_fresh hf hst hsrc hen).trans h))
    refine ⟨fun hneg => row (if_pos hneg), fun hpos => ?_⟩
    intro ts ps ofs c
    exact row (if_neg (Int.not_lt.2 hpos))
  case halt =>
    intro d hf hst ha early e c
    refine (exec_halt s).trans (run_seqMsg hh ?_)
    exact Dev.process_accepted hf (by simpa [Dev.tst] using ⟨hst, ha⟩) _

end Sys2Proof.Machine
end

section
/-! The messages of Docent (R137, R140, R143, R146, R156, R158). -/

namespace Sys2Proof.Machine

section
variable {d : Dev} {m : Msg}

/-- A command of the terminal is recorded for the next TICK (R134). -/
theorem Dev.tstCmd_known {c : Nat} (hlo : 1 ≤ c) (hhi : c ≤ 3) (tid : Nat) (src : Option (Nat × Nat)) :
    d.tstCmd c tid src = { d with term := { d.term with cmd := some (c, tid, src) } } :=
  if_pos (by simp [hlo, hhi])

/-! KEY_NEW and KEY_REQ (R146). -/

/-- The key slot is active, or a pending switch names it. -/
def Dev.keyUsed (d : Dev) (slot : Nat) : Prop :=
  slot = d.f F.TUS_SEQSEL_KSEL ∨ (d.f F.TST_KEYSW_PENDING ≠ 0 ∧ slot = d.f F.TST_KEYSW_PEND_SLOT)

theorem Dev.keyUsed_iff {slot : Nat} : d.keyUsed slot ↔
    (slot == d.f F.TUS_SEQSEL_KSEL || (d.b F.TST_KEYSW_PENDING && slot == d.f F.TST_KEYSW_PEND_SLOT)) = true := by
  simp only [Dev.keyUsed, Bool.or_eq_true, Bool.and_eq_true, beq_iff_eq, Dev.b_eq_true]

theorem Dev.keyNew_used {slot : Nat} (h : d.keyUsed slot) : d.keyNew slot = (none, d.raise 1447) := if_pos (Dev.keyUsed_iff.1 h)

/-- Loading a key slot leaves the firmware's part, and the KEK with it. -/
@[simp] theorem Dev.loadKey_fw (slot key : Nat) : (d.loadKey slot key).fw = d.fw := by
  unfold Dev.loadKey
  split
  · simp
  · split <;> simp

theorem Dev.keyNew_free {slot : Nat} (h : ¬ d.keyUsed slot) :
    let key := Config.freshKey d.fw.draws
    d.keyNew slot = (some (keyWrap d.kekNow key), ({ d with fw := { d.fw with draws := d.fw.draws + 1 } } : Dev).loadKey slot key) := by
  intro key
  rw [Dev.keyNew, if_neg (mt Dev.keyUsed_iff.2 h)]
  simp only [Dev.kekNow, Dev.loadKey_fw]
  rfl

/-- The device `k` that has loaded a key queues the KEY_REPORT with its wrapped form, to be sent three times again. -/
def Dev.keyReported (k : Dev) (m : Msg) (slot wkey : Nat) : Dev :=
  let r := k.newMsg 4 (msgSeq m) 0
  let u := { r.1 with slot := slot, wkey := wkey }
  ({ r.2 with term := { r.2.term with
    last := r.2.term.last.put 5 (⟨msgSeq m, some u, k.clk.ticks⟩ : LastMsg)
    reports := r.2.term.reports ++ [(⟨u, 3, k.clk.ticks⟩ : KeyReport)] } } : Dev).pushDoc u

/-! In OPERATE a fresh KEY_REQ for slot 1 or 2 answers as KEY_NEW finds the slot. -/

theorem Dev.msgKeyReq_otherSlot (hf : d.fresh m) (hst : d.f F.TST_STATE_STATE = 4) (hslot : wf m 0 34 2 = 0 ∨ wf m 0 34 2 = 3) :
    Dev.msgKeyReq m d = d.acked m 2 :=
  (Dev.process_accepted hf (by simpa [Dev.tst] using hst) _).trans (if_pos (by simpa using hslot))

theorem Dev.msgKeyReq_used {k : Dev} (hf : d.fresh m) (hst : d.f F.TST_STATE_STATE = 4) (hslot : ¬ (wf m 0 34 2 = 0 ∨ wf m 0 34 2 = 3))
    (hk : d.keyNew (wf m 0 34 2) = (none, k)) : Dev.msgKeyReq m d = k.acked m 5 := by
  rw [Dev.msgKeyReq, Dev.process_accepted hf (by simpa [Dev.tst] using hst), if_neg (by simpa using hslot), hk]

theorem Dev.msgKeyReq_loaded {k : Dev} {w : Nat} (hf : d.fresh m) (hst : d.f F.TST_STATE_STATE = 4)
    (hslot : ¬ (wf m 0 34 2 = 0 ∨ wf m 0 34 2 = 3)) (hk : d.keyNew (wf m 0 34 2) = (some w, k)) :
    Dev.msgKeyReq m d = k.keyReported m (wf m 0 34 2) w := by
  rw [Dev.msgKeyReq, Dev.process_accepted hf (by simpa [Dev.tst] using hst), if_neg (by simpa using hslot), hk]
  rfl

end

/-- Settles O39: each message as one that is fresh and in a state of its row, and what a repetition and a message outside its states meet.
The repetition tested before the state, its response a new message, KEY_REQ among the acknowledged types and a PROFILE acknowledged at once are
log entry 28, fresh keys log entry 3, their wrapping log entry 12. -/
theorem docentMessages : Obligations.DocentMessages := by
  refine ⟨fun m t s hh => ?assign, fun m t s hh => ?profile, fun m t s hh => ?key, fun m t s hh => ?sleep, fun m t s hh => ?wake,
    fun m t s hh => ?deactivate, fun m t s hh => ?ack, ?repetition, fun m g d hf => Dev.process_badState hf g⟩
  case assign =>
    intro d hf hst ha e
    refine (exec_assignId s).trans (run_docMsg hh ((Dev.process_accepted hf ?_ _).trans ?_))
    · simpa [Dev.tst] using ⟨hst, ha⟩
    · rw [Dev.tstCmd_known (by decide) (by decide)]
  case profile =>
    intro d hf hlo hhi old cfg c e p
    have inState : (decide (1 ≤ d.tst) && decide (d.tst ≤ 4)) = true :=
      Bool.and_eq_true_iff.2 ⟨decide_eq_true hlo, decide_eq_true hhi⟩
    have row {r : Dev} (h) := (exec_profile s).trans (run_docMsg (e := r) hh ((Dev.process_accepted hf inState _).trans h))
    exact ⟨fun hpart => row (if_pos hpart), fun hall => row (if_neg (Nat.not_lt.2 hall))⟩
  case key =>
    intro d hf hst slot used
    have row {r : Dev} (h) := (exec_keyReq s).trans (run_docMsg (e := r) hh h)
    have mayLoad (h : slot = 1 ∨ slot = 2) : ¬ (slot = 0 ∨ slot = 3) := by omega
    refine ⟨fun h => row (Dev.msgKeyReq_otherSlot hf hst h), fun h hu => ?_, fun h hu => ?_⟩
    · exact row (Dev.msgKeyReq_used hf hst (mayLoad h) (Dev.keyNew_used hu))
    · exact row (Dev.msgKeyReq_loaded hf hst (mayLoad h) (Dev.keyNew_free hu))
  case sleep =>
    intro d hf hst k
    refine (exec_sleepAllow s).trans (run_docMsg hh ((Dev.process_accepted hf (by simpa [Dev.tst] using hst) _).trans ?_))
    simp only [beq_iff_eq, Bool.and_eq_true, decide_eq_true_eq]
    rfl
  case wake =>
    intro d hf hst
    exact (exec_wake s).trans (run_docMsg hh (Dev.process_accepted hf (by simpa [Dev.tst] using hst) _))
  case deactivate =>
    intro d hf e
    refine (exec_deactivate s).trans (run_docMsg hh ((Dev.process_accepted hf rfl _).trans ?_))
    rw [Dev.tstCmd_known (by decide) (by decide)]
  case ack =>
    intro d hf hst e
    exact (exec_ack s).trans (run_docMsg hh (Dev.process_accepted hf (by simpa [Dev.tst] using hst) _))
  case repetition =>
    intro m l ok g d haddr hl c
    obtain ⟨silent, answered⟩ := Dev.process_repetition haddr hl ok g
    cases hr : l.resp with
    | none => exact silent hr
    | some r => exact answered r hr

end Sys2Proof.Machine
end

section
/-! The terminal's commands and timers, and the time of day (R129, R130, R132, R134, R143, R146, R151 to R154). -/

namespace Sys2Proof.Machine

section
variable {d : Dev} {w : RegWr}

/-! TST_CTL and TST_CMD (R129, R132, R134). -/

theorem Dev.writeTstCtl_keeps :
    let e := d.put F.TST_CTL_TO_RANGE w
    e.f F.TST_STATE_STATE = 6 ∨ w.mask.getLsbD 0 = false → Dev.writeTstCtl w d = e :=
  fun h => if_pos (by simpa [Dev.tst] using h)

theorem Dev.writeTstCtl_takes :
    let e := (d.put F.TST_CTL_TO_RANGE w).put F.TST_CTL_ACTIVATE w
    (d.put F.TST_CTL_TO_RANGE w).f F.TST_STATE_STATE ≠ 6 → w.mask.getLsbD 0 = true → Dev.writeTstCtl w d =
      if e.f F.TST_CTL_ACTIVATE ≠ 0 ∨ e.f F.TST_STATE_STATE = 0 then e else { e with term := { e.term with activateOff := true } } := by
  intro e hst hmask
  rw [Dev.writeTstCtl, if_neg (by simp [Dev.tst, hst, hmask])]
  refine if_congr ?_ rfl rfl
  rw [Bool.or_eq_true, Dev.b_eq_true, beq_iff_eq]
  exact Iff.rfl

theorem Dev.writeTstCmd_recorded (ha : w.agent = .docent ∨ w.agent = .curator) (hlo : 1 ≤ w.fld F.TST_CMD_CMD)
    (hhi : w.fld F.TST_CMD_CMD ≤ 3) :
    Dev.writeTstCmd w d = { d with term := { d.term with cmd := some (w.fld F.TST_CMD_CMD, w.fld F.TST_CMD_TID, none) } } := by
  rw [Dev.writeTstCmd, if_pos (by simpa using ha), Dev.tstCmd_known hlo hhi]

/-- The row of each command is its write of TST_CMD. -/
theorem run_tstCmdRow {s : State} {k : Nat} (hlo : 1 ≤ k) (hhi : k ≤ 3) (ha : w.agent = .docent ∨ w.agent = .curator)
    (hp : s.dev.passes w.agent 0x60010) (hk : w.fld F.TST_CMD_CMD = k) : s.run (Dev.tstCmdRow k w) = .next (s.after
      ((({ s.dev with term := { s.dev.term with cmd := some (k, w.fld F.TST_CMD_TID, none) } } : Dev).respond .done).accessed s.dev w.agent
        0x60010)) := by
  refine run_after s _ _ ?_
  rw [Dev.tstCmdRow, if_pos (by simp [hk]), gated_passes _ _ _ _ hp, Dev.writeTstCmd_recorded ha (hk ▸ hlo) (hk ▸ hhi), hk]

/-! The timers (R129, R130). -/

theorem Dev.rangingTimeout_due (hst : d.f F.TST_STATE_STATE = 3) (ht : d.f F.TST_STATE_TIMER ≤ 1) : d.rangingTimeout = d.rangingOver :=
  if_pos (by simp [Dev.tst, hst, ht])

theorem Dev.intermitTimeout_due (hst : d.f F.TST_STATE_STATE = 5) (ht : d.f F.TST_STATE_TIMER ≤ 1) (hsync : d.term.syncGot = false) :
    d.intermitTimeout = d.intermitOver :=
  if_pos (by simp [Dev.tst, hst, ht, hsync])

theorem Dev.profTimeout_due {p : ProfSet} (hp : d.term.complete.find? (fun p => d.clk.ticks ≥ p.tick + 8) = some p)
    (hruns : d.docentRuns = true) (hack : d.profAcks = true) : d.profTimeout = d.profEnd p 2 := by
  simp only [Dev.profTimeout, hp, hruns, hack, Bool.and_self, if_true]

theorem Dev.keyRepeat_due {r : KeyReport} (hr : d.term.reports.find? (fun r => r.left > 0 && d.clk.ticks ≥ r.tick + 8) = some r)
    (hruns : d.docentRuns = true) : d.keyRepeat =
      ({ d with term := { d.term with
        reports := d.term.reports.map (fun x => if x == r then { x with left := x.left - 1, tick := d.clk.ticks } else x) } } : Dev).pushDoc
        r.msg := by
  simp only [Dev.keyRepeat, hr, hruns, Bool.not_true, Bool.false_eq_true, if_false]

/-! Writes and reads of the time (R151, R152). -/

theorem Dev.writeTimeAdj_steps (h : d.f F.TST_TOD_CTL_TOD_EN = 0) :
    Dev.writeTimeAdj w d = { d with term := { d.term with step := some (signed 64 w.val, false) } } :=
  if_neg (by simp [Dev.b_eq_false.2 h])

theorem Dev.writeTimeAdj_refuses (h : d.f F.TST_TOD_CTL_TOD_EN ≠ 0) : Dev.writeTimeAdj w d = d.set F.TST_TOD_STAT_REFUSED 1 :=
  if_pos (Dev.b_eq_true.2 h)

theorem Dev.writeTodRate_takes (h : d.f F.TST_TOD_CTL_DISC_EN = 0) : Dev.writeTodRate w d = d.put F.TST_TOD_RATE_RATE_ADJ w :=
  if_neg (by simp [Dev.b_eq_false.2 h])

theorem Dev.writeTodRate_refuses (h : d.f F.TST_TOD_CTL_DISC_EN ≠ 0) : Dev.writeTodRate w d = d.set F.TST_TOD_STAT_REFUSED 1 :=
  if_pos (Dev.b_eq_true.2 h)

/-- A read that passes the gates, of a register that the protection unit lets Docent read, answers DONE with its value. -/
theorem Dev.gatedRead_passes {a : Agent} {off : Nat} (h : d.passes a off) (hm : mpuRead off = false) (g : Dev → Nat × Dev) :
    d.gatedRead a off g = ((g d).2.respond .done (g d).1).accessed d a off := by
  obtain ⟨hreach, -, hdeny, hon⟩ := h
  simp only [Dev.gatedRead, hreach, hm, hdeny, hon, not_asleep hdeny, Bool.not_true, Bool.and_false, Bool.false_eq_true, if_false]

end

/-! The pulses (R153, R154). -/

section
variable {d : Dev} {t : Nat}

theorem Dev.ppsRise_rises (hen : d.f F.TST_PPS_CTL_OUT_EN ≠ 0) (hwired : d.f F.ID_INTEG_PPSOUT_WIRED ≠ 0)
    (hvalid : d.f F.TST_TOD_STAT_VALID ≠ 0) (hwhole : d.ppsWhole t = true) :
    let sec := (d.ppsNow t / (second : Int)).toNat
    secIn sec d.term.ppsDone = false → d.ppsRise t =
      { d with
        term := { d.term with ppsDone := secAdd sec d.term.ppsDone, ppsEnd := some ((t : Int) + d.ppsWidth) }
        pins := { d.pins with ppsOut := true } } :=
  fun hnew => if_neg (by simp [Dev.b_eq_true.2 hen, Dev.b_eq_true.2 hwired, Dev.b_eq_true.2 hvalid, hwhole, hnew])

theorem Dev.ppsFall_due {e : Int} (he : d.term.ppsEnd = some e) (ht : e ≤ t) :
    d.ppsFall t = { d with pins := { d.pins with ppsOut := false }, term := { d.term with ppsEnd := none } } :=
  if_neg (by simp [he, ht])

/-- The edge comes within half a second of the last one taken. -/
def Dev.ppsSoon (d : Dev) (v : Nat) : Prop := ∃ p, d.term.ppsIn = some p ∧ p ≤ v ∧ v < p + second / 2

/-- An edge that is wired and enabled is counted where it comes soon; any other is latched and raised. -/
theorem Dev.ppsEdge_seen (hen : d.f F.TST_PPS_CTL_IN_EN ≠ 0) (hwired : d.f F.ID_INTEG_PPSIN_WIRED ≠ 0) (hon : d.on 1 = true) :
    let v := d.timeAt t
    let n := d.f F.TST_PPSIN_LO_SEQ + 1
    let c := ((d.set F.TST_PPSIN_LO_FRAC v).set F.TST_PPSIN_LO_NS (v % second / 65536)).set F.TST_PPSIN_LO_SEQ n
    let e := (c.set F.TST_PPSIN_HI_SEC (v / second)).set F.TST_PPSIN_HI_SEQ n
    (d.ppsSoon v → d.ppsEdge t = d.count F.TST_CNT2_PPSIN_IGNORED) ∧
    (¬ d.ppsSoon v → d.ppsEdge t = ({ e with term := { e.term with ppsIn := some v } } : Dev).raise 1221) := by
  intro v n c e
  rw [Dev.ppsEdge, if_neg (by simp [Dev.b_eq_true.2 hen, Dev.b_eq_true.2 hwired, hon])]
  cases hlast : d.term.ppsIn with
  | none =>
    have never : ¬ d.ppsSoon v := by simp [Dev.ppsSoon, hlast]
    exact ⟨fun h => absurd h never, fun _ => rfl⟩
  | some p =>
    have soon : d.ppsSoon v ↔ (decide (p ≤ v) && decide (v < p + second / 2)) = true := by simp [Dev.ppsSoon, hlast]
    exact ⟨fun h => if_pos (soon.1 h), fun h => if_neg (mt soon.2 h)⟩

end

/-- Settles O40: each command by the state and the settings that its row asks for. That a timer acts at TIMER 1 or less is log entry 29; the one
slot of a pending step, and the 500 ms measured on the time counter, are log entry 31. -/
theorem terminalAndTimeCommands : Obligations.TerminalAndTimeCommands := by
  refine ⟨fun w s hp => ⟨fun h => ?keeps, fun hst hmask => ?takes⟩, ?command, fun s hst ht => ?ranging, fun s hst ht hsync => ?intermit,
    fun p s hp hruns hack => ?profile, fun r s hr hruns => ?report, fun w s hp => ⟨fun h => ?step, fun h => ?noStep⟩,
    fun w s hp => ⟨fun h => ?rate, fun h => ?noRate⟩, fun a t s hp => ?read, fun t s hen hwired hvalid hwhole => ?rise,
    fun t e s he ht => ?fall, fun t s hen hwired hon => ?edge⟩
  case keeps => exact (exec_activateWrite w s).trans (run_gated s _ w hp (Dev.writeTstCtl_keeps h))
  case takes => exact (exec_activateWrite w s).trans (run_gated s _ w hp (Dev.writeTstCtl_takes hst hmask))
  case command =>
    rintro k c w s (⟨rfl, rfl⟩ | ⟨rfl, rfl⟩ | ⟨rfl, rfl⟩) ha hp hk
    · exact (exec_tstCmdAssign w s).trans (run_tstCmdRow (by decide) (by decide) ha hp hk)
    · exact (exec_tstCmdProfileDone w s).trans (run_tstCmdRow (by decide) (by decide) ha hp hk)
    · exact (exec_tstCmdDeactivate w s).trans (run_tstCmdRow (by decide) (by decide) ha hp hk)
  case ranging => exact (exec_rangingTimeout s).trans (run_after s _ _ (Dev.rangingTimeout_due hst ht))
  case intermit => exact (exec_intermitTimeout s).trans (run_after s _ _ (Dev.intermitTimeout_due hst ht hsync))
  case profile => exact (exec_profileArmTimeout s).trans (run_after s _ _ (Dev.profTimeout_due hp hruns hack))
  case report => exact (exec_keyReportRepeat s).trans (run_after s _ _ (Dev.keyRepeat_due hr hruns))
  case step => exact (exec_timeAdjWrite w s).trans (run_gated s _ w hp (Dev.writeTimeAdj_steps h))
  case noStep => exact (exec_timeAdjWrite w s).trans (run_gated s _ w hp (Dev.writeTimeAdj_refuses h))
  case rate => exact (exec_todRateWrite w s).trans (run_gated s _ w hp (Dev.writeTodRate_takes h))
  case noRate => exact (exec_todRateWrite w s).trans (run_gated s _ w hp (Dev.writeTodRate_refuses h))
  case read => exact (exec_timeLoRead a t s).trans (run_after s _ _ (Dev.gatedRead_passes hp (by decide) (Dev.readTimeLo t)))
  case rise => exact fun hnew => (exec_ppsOutRise t s).trans (run_after s _ _ (Dev.ppsRise_rises hen hwired hvalid hwhole hnew))
  case fall => exact (exec_ppsOutFall t s).trans (run_after s _ _ (Dev.ppsFall_due he ht))
  case edge =>
    obtain ⟨counted, latched⟩ := Dev.ppsEdge_seen (t := t) hen hwired hon
    have row {r : Dev} (h) := (exec_ppsInEdge t s).trans (run_after s _ r h)
    exact ⟨fun h => row (counted h), fun h => row (latched h)⟩

end Sys2Proof.Machine
end

section
/-! The classifier's pipelines (R159, R172, R175, R178, R181, R187, R492). -/

namespace Sys2Proof.Machine

section
variable {d : Dev} {p : Nat}

/-- DRAIN follows the frame that becomes resolved only while an accession drains (R187). -/
theorem Dev.resolve_first {x : Flight} (hx : (d.cls.flights.getD p []).find? (fun x => !x.resolved) = some x) :
    let e := ({ d with cls := { d.cls with
      flights := d.cls.flights.set p (resolveFirst (d.cls.flights.getD p [])) } } : Dev).trcNote x.frame (fun t => { t with action := d.f F.OBS_CYCLE_CYCLE })
    d.resolve p = if e.f F.CLS_ACC_STAT_STATE = 3 then e.set F.CLS_ACC_STAT_DRAIN (e.unresolved (e.f F.CLS_ACC_STAT_OLD)) else e := by
  intro e
  rw [Dev.resolve, hx]
  exact if_congr beq_iff_eq rfl rfl

/-! The action of the oldest frame. -/

/-- The device once a frame's bad checksums are counted (R181). -/
def Dev.csumsCounted (d : Dev) (p : Nat) (f : Frame) : Dev :=
  let e := if f.l3Sum == 2 then d.count F.CLS_CNT_CSUM_L3_BAD p else d
  if f.l4Sum == 2 then e.count F.CLS_CNT_CSUM_L4_BAD p else e

theorem Dev.csumsCounted_eq {f : Frame} : d.csumsCounted p f =
    let e := if f.l3Sum = 2 then d.count F.CLS_CNT_CSUM_L3_BAD p else d
    if f.l4Sum = 2 then e.count F.CLS_CNT_CSUM_L4_BAD p else e := by
  simp only [Dev.csumsCounted, beq_iff_eq]

/-- A frame leaves without its action: it was lost at its lookup, or a bad checksum drops it (R181, R492). -/
def Flight.dropped (x : Flight) (d : Dev) (p : Nat) : Bool :=
  x.lost || (bit (d.f F.CLS_CTL_CSUM_DROP) p && (x.frame.l3Sum == 2 || x.frame.l4Sum == 2))

theorem Flight.dropped_iff {x : Flight} : x.dropped d p = true ↔
    x.lost = true ∨ (bit (d.f F.CLS_CTL_CSUM_DROP) p = true ∧ (x.frame.l3Sum = 2 ∨ x.frame.l4Sum = 2)) := by
  simp [Flight.dropped]

theorem Dev.applyAction_head {x : Flight} {rest : List Flight} (up : List Upset) (hx : d.cls.flights.getD p [] = x :: rest)
    (hres : x.resolved = true) :
    let e := (Dev.containAll { d with cls := { d.cls with flights := d.cls.flights.set p rest } } up).csumsCounted p x.frame
    d.applyAction p up =
      if x.dropped e p then (e.count F.CLS_CNT_DROP_ACT_DROP p).trcClose x.frame 4
      else e.actPolice p x.act x.frame (cellUpset up) := by
  intro e
  rw [Dev.applyAction, hx]
  exact if_neg (by simp [hres])

section
variable {a : Nat} {f : Frame} {cell : Option Nat}

theorem Dev.actPolice_unpoliced (h : bit a 91 = false) : d.actPolice p a f cell = d.actCopies p a f cell :=
  if_pos (by simp [h])

theorem Dev.actPolice_policed (h : bit a 91 = true) :
    let r := d.polTake (bits a 78 13) f.len
    d.actPolice p a f cell =
      if r.1 then r.2.actCopies p a f cell else (r.2.count F.CLS_CNT_DROP_POL_DROP p).trcClose f 3 :=
  if_neg (by simp [h])

end

/-- The scrubber wraps at 8,192 places, a pass counted at the last (R492). -/
theorem Dev.scrubStep_enabled (up : List Upset) (hon : d.on 11 = true) (hen : d.f F.RST_SCRUB_EN ≠ 0) :
    let e := Dev.containAll { d with cls := { d.cls with scrub := (d.cls.scrub + 1) % 8192 } } up
    d.scrubStep up = if d.cls.scrub = 8191 then e.count F.RST_SCRUB_PASSES else e := by
  intro e
  rw [Dev.scrubStep, if_neg (by simp [hon, Dev.b_eq_true.2 hen])]
  exact if_congr beq_iff_eq rfl rfl

end

/-- Settles O41: each command by what its row finds at the head of its pipeline. That the lookup counters of a lost slot do not advance is log
entry 37; that a hit in the stash counts in its table too, and that the scrubber goes on from the place it left, are log entry 38. -/
theorem classifierCommands : Obligations.ClassifierCommands := by
  refine ⟨?classify, fun p x s hx => ?resolve, ?apply, fun up s hon hen => ?scrub⟩
  case classify =>
    intro p at' up f rest s hf hp hon
    refine (exec_classifyFrame p at' up s).trans (run_after s _ _ ?_)
    have enters : ¬ (decide (p ≥ 3) || !s.dev.on (11 + p)) = true := by simp [hp, hon]
    have stamp (v : Nat) : (if p == 0 then v else f.ts) = if p = 0 then v else f.ts := if_congr beq_iff_eq rfl rfl
    rw [Dev.classify, hf, ← stamp]
    exact if_neg enters
  case resolve => exact (exec_actionResolve p s).trans (run_after s _ _ (Dev.resolve_first hx))
  case apply =>
    intro p up x rest s hx hres f a b d drop
    have row {r : Dev} (h) := (exec_applyAction p up s).trans (run_after s _ r h)
    have head := Dev.applyAction_head up hx hres
    rw [Dev.csumsCounted_eq] at head
    have acts (h : ¬ drop) := head.trans (if_neg (mt Flight.dropped_iff.1 h))
    refine ⟨fun h => row (head.trans (if_pos (Flight.dropped_iff.2 h))), fun h hpol => ?_, fun h hpol => ?_⟩
    · exact row ((acts h).trans (Dev.actPolice_unpoliced hpol))
    · exact row ((acts h).trans (Dev.actPolice_policed hpol))
  case scrub => exact (exec_tableScrub up s).trans (run_after s _ _ (Dev.scrubStep_enabled up hon hen))

end Sys2Proof.Machine
end

section
/-! The update engine and the accessions (R183, R187, R189, R190, R453). -/

namespace Sys2Proof.Machine

/-! The effect of each operation. -/

section
variable {d : Dev} {cmd dst : Nat}

theorem Dev.updDo_read : let i := cmdSlot (bits cmd 4 1) cmd
    d.updDo 1 cmd dst =
      if slotLive (d.slot i) = true ∧ slotKtype (d.slot i) = 2 ∧ d.isCont i = false ∧ i % 2 = 0
      then (d.setUpdSlot 0 (d.slot i)).setUpdSlot 1 (d.slot (i + 1)) else d.setUpdSlot 0 (d.slot i) :=
  if_congr (by simp [and_assoc]) rfl rfl

/-- The operation stands as a variable: at the literal 2 the kernel evaluates the powers of two in the slot of CLS_UPD_DATA. -/
theorem Dev.updDo_write {op : Nat} (hop : op = 2) : let i := cmdSlot (bits cmd 4 1) cmd
    d.updDo op cmd dst =
      (if slotKtype (d.updSlot 0) = 2 then (d.setSlot i (d.updSlot 0)).setSlot (i + 1) (d.updSlot 1)
       else d.setSlot i (d.updSlot 0)).stashCount := by
  intro i
  unfold Dev.updDo
  split
  case h_3 => exact congrArg Dev.stashCount (if_congr beq_iff_eq rfl rfl)
  all_goals contradiction

theorem Dev.updDo_move : let i := cmdSlot (bits cmd 4 1) cmd
    let j := cmdSlot (bits cmd 4 1) dst
    d.updDo 3 cmd dst =
      (if slotKtype (d.slot i) = 2
       then (((d.setSlot j (d.slot i)).setSlot (j + 1) (d.slot (i + 1))).setSlot i 0).setSlot (i + 1) 0
       else (d.setSlot j (d.slot i)).setSlot i 0).stashCount :=
  congrArg Dev.stashCount (if_congr beq_iff_eq rfl rfl)

/-- An entry whose visibility bits are both 0 is freed, with its continuation. -/
theorem Dev.updDo_setvis : let i := cmdSlot (bits cmd 4 1) cmd
    let v := withBit (d.slot i) (if d.accNext % 2 = 0 then 254 else 255) (bit cmd 33)
    d.updDo 4 cmd dst =
      (if slotLive v then d.setSlot i v
       else if slotKtype (d.slot i) = 2 then (d.setSlot i 0).setSlot (i + 1) 0 else d.setSlot i 0).stashCount := by
  intro i v
  have pending : (if d.accNext % 2 = 0 then 254 else 255) = if d.accNext % 2 == 0 then 254 else 255 := if_congr beq_iff_eq.symm rfl rfl
  have hv : v = withBit (d.slot i) (if d.accNext % 2 == 0 then 254 else 255) (bit cmd 33) := congrArg (withBit _ · _) pending
  rw [hv]
  exact congrArg Dev.stashCount (if_congr Iff.rfl rfl (if_congr beq_iff_eq rfl rfl))

end

/-! One operation of the engine, and the write that starts it (R189, R190, R453). -/

section
variable {d : Dev} {w : RegWr} {op : Nat}

/-- The engine, free, before it looks at an operation. -/
def Dev.updFree (d : Dev) : Dev := d.set F.CLS_UPD_STAT_BUSY 0

/-- The error of the operation that the write w asks of a free engine, 0 where there is none. -/
def Dev.updWhy (d : Dev) (w : RegWr) : Nat :=
  d.updFree.updError (d.isSink && w.agent != .twin) (w.val % 16) w.val d.updDst

/-- The device after the operation without an error. -/
def Dev.updDone (d : Dev) (w : RegWr) : Dev := (d.updFree.updDo (w.val % 16) w.val d.updDst).set F.CLS_UPD_STAT_ERR 0

/-- What a source sends of the operation. -/
def Dev.updRecord (d : Dev) (w : RegWr) : Mir :=
  .tableOp w.val d.updDst ((List.range 8).map (fun i => d.updFree.f F.CLS_UPD_DATA_DATA i))

/-- The engine works from now on. -/
def Dev.updBegun (d : Dev) : Dev := ({ d with cls := { d.cls with updAt := d.cycle } } : Dev).set F.CLS_UPD_STAT_BUSY 1

theorem Dev.updTake_error (h : d.updWhy w ≠ 0) : d.updTake w = d.updFree.updRefuse (d.updWhy w) := by
  have refused : d.updOp (d.isSink && w.agent != .twin) (w.val % 16) w.val d.updDst = (d.updWhy w, d.updFree.updRefuse (d.updWhy w)) :=
    if_pos (bne_iff_ne.2 h)
  rw [Dev.updTake, refused]
  exact if_pos (bne_iff_ne.2 h)

theorem Dev.updTake_accepted (h : d.updWhy w = 0) : d.updTake w =
    (if w.val % 16 == 2 || w.val % 16 == 3 || w.val % 16 == 4 then (d.updDone w).mirror [d.updRecord w] else d.updDone w).updBegun := by
  have noError : ¬ (d.updWhy w != 0) = true := by simp [h]
  have accepted : d.updOp (d.isSink && w.agent != .twin) (w.val % 16) w.val d.updDst =
      (0, if w.val % 16 == 2 || w.val % 16 == 3 || w.val % 16 == 4 then (d.updDone w).mirror [d.updRecord w] else d.updDone w) :=
    if_neg noError
  rw [Dev.updTake, accepted]
  rfl

theorem Dev.updTake_looks (h : d.updWhy w = 0) (hop : w.val % 16 = op) (hl : op = 1 ∨ op = 5) :
    d.updTake w = (d.updDone w).updBegun := by
  rw [Dev.updTake_accepted h, if_neg (by rw [hop]; obtain rfl | rfl := hl <;> decide)]

theorem Dev.updTake_changes (h : d.updWhy w = 0) (hop : w.val % 16 = op) (hc : op = 2 ∨ op = 3 ∨ op = 4) :
    d.updTake w = ((d.updDone w).mirror [d.updRecord w]).updBegun := by
  rw [Dev.updTake_accepted h, if_pos (by rw [hop]; obtain rfl | rfl | rfl := hc <;> decide)]

/-- An engine that is not busy is as it was when it is looked at. -/
theorem Dev.updSettle_free (h : d.f F.CLS_UPD_STAT_BUSY = 0) : d.updSettle = d := if_pos (by simp [Dev.b_eq_false.2 h])

theorem Dev.writeUpdCmd_known (hlo : 1 ≤ w.val % 16) (hhi : w.val % 16 ≤ 5) :
    Dev.writeUpdCmd w d = if d.updSettle.b F.CLS_UPD_STAT_BUSY then d.updSettle.updRefuse 9 else d.updSettle.updTake w :=
  if_neg (by simp; omega)

theorem Dev.writeUpdCmd_free (hlo : 1 ≤ w.val % 16) (hhi : w.val % 16 ≤ 5) (h : d.f F.CLS_UPD_STAT_BUSY = 0) :
    Dev.writeUpdCmd w d = d.updTake w := by
  rw [Dev.writeUpdCmd_known hlo hhi, Dev.updSettle_free h, if_neg (by simp [Dev.b_eq_false.2 h])]

/-! The rows. -/

/-- `c` is the row of CLS_UPD_CMD with the operation `op`. -/
def updRowOf (op : Nat) (w : RegWr) (c : Instr) : Prop :=
  (op = 1 ∧ c = .clsUpdRead w) ∨ (op = 2 ∧ c = .clsUpdWrite w) ∨ (op = 3 ∧ c = .clsUpdMove w) ∨ (op = 4 ∧ c = .clsUpdSetvis w) ∨
    (op = 5 ∧ c = .clsUpdHash w)

variable {c : Instr}

theorem updRowOf.bounds (hc : updRowOf op w c) : 1 ≤ op ∧ op ≤ 5 := by
  obtain ⟨rfl, -⟩ | ⟨rfl, -⟩ | ⟨rfl, -⟩ | ⟨rfl, -⟩ | ⟨rfl, -⟩ := hc <;> decide

theorem exec_updRow (s : State) (hc : updRowOf op w c) : exec c s = s.run (Dev.updRow op w) := by
  obtain ⟨rfl, rfl⟩ | ⟨rfl, rfl⟩ | ⟨rfl, rfl⟩ | ⟨rfl, rfl⟩ | ⟨rfl, rfl⟩ := hc
  · exact exec_clsUpdRead w s
  · exact exec_clsUpdWrite w s
  · exact exec_clsUpdMove w s
  · exact exec_clsUpdSetvis w s
  · exact exec_clsUpdHash w s

/-- An operation's row that passes the gates leaves the state after its write of CLS_UPD_CMD. -/
theorem exec_updRow_passes {s : State} {e : Dev} (hc : updRowOf op w c) (hop : w.val % 16 = op) (hp : s.dev.passes w.agent 0x80060)
    (he : Dev.writeUpdCmd w s.dev = e) :
    exec c s = .next (s.after ((e.respond .done).accessed s.dev w.agent 0x80060)) := by
  rw [exec_updRow s hc]
  refine run_after s _ _ ?_
  rw [Dev.updRow, if_neg (by simp [hop]), gated_passes _ _ _ _ hp, he]

end

/-! Accessions (R183, R187). -/

section
variable {d : Dev}

theorem Dev.accDrained_drained (hst : d.f F.CLS_ACC_STAT_STATE = 3) (hdr : d.f F.CLS_ACC_STAT_DRAIN = 0) :
    d.accDrained = d.set F.CLS_ACC_STAT_STATE 4 :=
  if_pos (by simp [Dev.accState, hst, hdr])

theorem Dev.accRetired_retiring (hst : d.f F.CLS_ACC_STAT_STATE = 4) :
    d.accRetired = ((d.sweep.stashCount).set F.CLS_ACC_STAT_STATE 1).raise 1249 :=
  if_pos (beq_iff_eq.2 hst)

/-- The banks that INIT clears now, bit 4 the stash: those that lost their content and are powered. -/
def Dev.initBanks (d : Dev) : Nat :=
  d.cls.initMask &&& ((List.range 4).foldl (fun a b => a + b2n (d.on (14 + b)) * 2 ^ b) 0 + b2n (d.on 14) * 16)

theorem Dev.initDone_clears (hst : d.f F.CLS_ACC_STAT_STATE = 0) (hon : d.on 11 = true) (hup : d.initBanks ≠ 0)
    (hboot : d.cls.boot = true → d.initBanks = d.cls.initMask) :
    d.initDone = (Dev.stashCount { d with cls := { d.cls with
      slots := clearSlots d.initBanks d.cls.slots, initMask := d.cls.initMask - d.initBanks, boot := false } }).set
        F.CLS_ACC_STAT_STATE 1 := by
  have banks : d.cls.boot = false ∨ d.initBanks = d.cls.initMask := (Bool.eq_false_or_eq_true d.cls.boot).elim (.inr ∘ hboot) .inl
  have due : (d.accState == 0 && d.on 11 && d.initBanks != 0 && (!d.cls.boot || d.initBanks == d.cls.initMask)) = true := by
    simpa [Dev.accState, hst, hon, hup] using banks
  exact if_pos due

end

/-- Settles O42: an operation by its row, by whether one is under way and by its error, and the accession states one by one. That BUSY stands
from a command until a later cycle, and that a free value decides where the rules leave open whether it has ended, are log entry 4. -/
theorem tableUpdateCommands : Obligations.TableUpdateCommands := by
  refine ⟨?operation, fun s hst hdr => ?drained, fun s hst => ?retired, fun s hst hon => ?init⟩
  case operation =>
    intro op c w s hc hop hp busy late
    have hc : updRowOf op w c := hc
    obtain ⟨hlo, hhi⟩ := hc.bounds
    rw [← hop] at hlo hhi
    have row {e : Dev} (he : Dev.writeUpdCmd w s.dev = e) := exec_updRow_passes hc hop hp he
    refine ⟨fun _ => row (Dev.writeUpdCmd_known hlo hhi), fun hfree => ?_⟩
    intro d t i j v n sent err done
    have taken {e : Dev} (he : s.dev.updTake w = e) := row ((Dev.writeUpdCmd_free hlo hhi hfree).trans he)
    have why : s.dev.updWhy w = err := by rw [Dev.updWhy, hop]; rfl
    have effect {e : Dev} (he : d.updDo op w.val s.dev.updDst = e) : s.dev.updDone w = e.set F.CLS_UPD_STAT_ERR 0 := by
      rw [Dev.updDone, hop]
      exact congrArg (Dev.set · F.CLS_UPD_STAT_ERR 0) he
    rw [← why]
    refine ⟨fun herr => taken (Dev.updTake_error herr), fun herr => ?_⟩
    have looks {e : Dev} (hl : op = 1 ∨ op = 5) (he : d.updDo op w.val s.dev.updDst = e) :=
      taken ((Dev.updTake_looks herr hop hl).trans (congrArg Dev.updBegun (effect he)))
    have changes {e : Dev} (hl : op = 2 ∨ op = 3 ∨ op = 4) (he : d.updDo op w.val s.dev.updDst = e) :=
      taken ((Dev.updTake_changes herr hop hl).trans (congrArg (fun r => (Dev.mirror r sent).updBegun) (effect he)))
    refine ⟨?read, fun h => ?write, ?move, ?setvis, ?hash⟩
    case read => rintro rfl; exact looks (.inl rfl) Dev.updDo_read
    case write => exact changes (.inl h) (Dev.updDo_write h)
    case move => rintro rfl; exact changes (.inr (.inl rfl)) Dev.updDo_move
    case setvis => rintro rfl; exact changes (.inr (.inr rfl)) Dev.updDo_setvis
    case hash => rintro rfl; exact looks (.inr rfl) rfl
  case drained => exact (exec_accDrained s).trans (run_after s _ _ (Dev.accDrained_drained hst hdr))
  case retired => exact (exec_accRetired s).trans (run_after s _ _ (Dev.accRetired_retiring hst))
  case init =>
    intro up hup hboot
    exact (exec_clsInitDone s).trans (run_after s _ _ (Dev.initDone_clears hst hon hup hboot))

end Sys2Proof.Machine
end

section
/-! SUPPORT. The state of one user port, and the link as it takes it (R193, R197, R494). -/

namespace Sys2Proof.Machine

section
variable (d : Dev) (n : Nat)

@[simp] theorem Dev.port_portPut (p : PortPart) : (d.portPut n p).port n = p := SMap.getD_store_same _ _ _ _

@[simp] theorem Dev.port_count (x : Fld) (i : Nat) : (d.count x i).port n = d.port n := by simp [Dev.port]

end

theorem Dev.portLink_clocked {d : Dev} {n : Nat} (h : bit d.clk.stopped (5 + n) = false) : d.portLink n = (d.port n).link := by
  simp [Dev.portLink, h]

end Sys2Proof.Machine
end

section
/-! The user ports receive (R192 to R194, R197 to R200, R204, R210 to R212, R214, R217 to R219). -/

namespace Sys2Proof.Machine

/-! Words and lanes (R192 to R194, R197). -/

section
variable {d : Dev} {n : Nat} {rdy : List Bool} {words : List PortWord}

/-- What a port that takes words makes of them (R197, R213). -/
def Dev.wordsTaken (d : Dev) (n : Nat) (rdy : List Bool) (words : List PortWord) : Dev :=
  d.flowLook n (fun d => words.foldl (fun d w => d.rxWord n rdy w) d)

theorem Dev.rxRow_takes {want : SmdKind → Bool} (hup : d.portUp n = true)
    (hwant : ∀ v ∈ wordStarts (d.portLanes n) words, want (d.kindAt n v) = true) : d.rxRow n rdy words want = d.wordsTaken n rdy words :=
  (if_pos (List.all_eq_true.2 hwant)).trans (if_neg (by simp [hup]))

theorem Dev.rxOpcode_takes {op v : Nat} (hup : d.portUp n = true) (hstart : wordStarts (d.portLanes n) words = [v])
    (hkind : d.kindAt n v = .express) (htype : u16 (laneOctets (d.portLanes n) words) 12 = 0x8808)
    (hop : u16 (laneOctets (d.portLanes n) words) 14 = op) : d.rxOpcode n op words = d.wordsTaken n [] words :=
  (if_pos (by simp [htype, hop, hstart])).trans (Dev.rxRow_takes hup (by simp [hstart, hkind]))

variable {w : PortWord} {at' c v : Nat}

theorem Dev.rxWord_skipped (h : w.valid = false) : d.rxWord n rdy w = d := if_pos (by simp [h])

/-- A word that neither begins nor ends receive LPI is its lanes in order. -/
theorem Dev.rxWord_lanes (hv : w.valid = true) (hlpi : d.f F.UPM_STAT_RX_LPI n = 0) (hall : allLpi (d.portLanes n) w = false) :
    d.rxWord n rdy w =
      (List.range (d.portLanes n)).foldl (fun d k => d.rxLane n (d.laneAt n w.edge k) rdy (laneOf w k)) d := by
  simp [Dev.rxWord, hv, hall, Dev.b_eq_false.2 hlpi]

theorem Dev.rxLane_outside (hrx : (d.port n).rx = none) (hc : c ≠ 2) : d.rxLane n at' rdy (c, v) = d := by
  simp [Dev.rxLane, hrx, hc]

variable {f : RxNow} (hrx : (d.port n).rx = some f)
include hrx

theorem Dev.rxLane_data : d.rxLane n at' rdy (1, v) = d.rxOctets n at' f (leBytes 8 v) := by
  simp [Dev.rxLane, hrx]

theorem Dev.rxLane_term {g : RxNow} (hc : 8 ≤ c) (hg : ((d.rxOctets n at' f (leBytes (c - 8) v)).port n).rx = some g) :
    d.rxLane n at' rdy (c, v) = (d.rxOctets n at' f (leBytes (c - 8) v)).rxEnd n rdy g := by
  have code {k : Nat} (hk : k < 8) : c ≠ k := by omega
  simp [Dev.rxLane, hrx, hg, hc, code]

theorem Dev.rxLane_error (hc : c = 3 ∨ c = 5 ∨ c = 6 ∨ c = 7) :
    d.rxLane n at' rdy (c, v) = d.portPut n { d.port n with rx := some { f with bad := true } } := by
  obtain rfl | rfl | rfl | rfl := hc <;> simp [Dev.rxLane, hrx]

end

/-! What a START lane announces, and the end of what it began (R197, R210). -/

section
variable {d : Dev} {n smd : Nat} {rdy : List Bool} {f : RxNow}

theorem Dev.kindAt_preemption (h : d.f F.UPM_PRE_CFG_PRE_EN n ≠ 0) : d.kindAt n smd = smdKind smd :=
  if_pos (by simp [Dev.preRx, Dev.b_eq_true.2 h])

/-- The device in which port n receives nothing. -/
def Dev.rxIdle (d : Dev) (n : Nat) : Dev := d.portPut n { d.port n with rx := none }

@[simp] theorem Dev.kindAt_portPut (p : PortPart) : (d.portPut n p).kindAt n smd = d.kindAt n smd := rfl

theorem Dev.rxEnd_express (h : d.kindAt n f.smd = .express) :
    d.rxEnd n rdy f = (d.rxIdle n).macRxFrame n f.ts f.octets f.bad f.high f.full := by
  simp only [Dev.rxEnd, Dev.rxIdle, Dev.kindAt_portPut, h]

theorem Dev.rxEnd_verify (h : d.kindAt n f.smd = .verify) :
    d.rxEnd n rdy f = (d.rxIdle n).rxMPacket n f (fun d => d.mPacket n smdRespond rdy) := by
  simp only [Dev.rxEnd, Dev.rxIdle, Dev.kindAt_portPut, h]

theorem Dev.rxEnd_respond (h : d.kindAt n f.smd = .respond) :
    d.rxEnd n rdy f = (d.rxIdle n).rxMPacket n f (fun d => d.respondRx n) := by
  simp only [Dev.rxEnd, Dev.rxIdle, Dev.kindAt_portPut, h]

/-- A whole verify or respond mPacket without errors, which preemption makes known, has its effect (R207, R211). -/
theorem Dev.rxMPacket_good {g : Dev → Dev} (hbad : f.bad = false) (hmin : 64 ≤ f.octets.length)
    (hmax : f.octets.length ≤ d.rxLimit n f.octets) (hcrc : tail4 f.octets = mcrc (body4 f.octets)) : d.rxMPacket n f g = g d := by
  have clean : d.rxFault n f.octets f.bad (f.octets.length ≥ 4 && tail4 f.octets == mcrc (body4 f.octets)) = none := by
    simp [Dev.rxFault, hbad, Nat.not_lt.2 hmin, Nat.not_lt.2 hmax, hcrc]; omega
  rw [Dev.rxMPacket, clean]

end

/-! Frames behind an express SFD (R197 to R200, R204, R212, R214). -/

section
variable {d : Dev} {n ts : Nat} {l : List Byte} {bad high full : Bool}

theorem Dev.rxFault_short (h : l.length < 64) (ok : Bool) :
    d.rxFault n l false ok = some (if ok then F.UPM_CNT_RXE_RUNT else F.UPM_CNT_RXE_FRAGMENT) :=
  if_pos h

theorem Dev.rxFault_long (hmin : 64 ≤ l.length) (h : d.rxLimit n l < l.length) (ok : Bool) :
    d.rxFault n l false ok = some (if ok then F.UPM_CNT_RXE_OVERSIZE else F.UPM_CNT_RXE2_JABBER) :=
  (if_neg (Nat.not_lt.2 hmin)).trans (if_pos h)

theorem Dev.rxFault_sized (hmin : 64 ≤ l.length) (hmax : l.length ≤ d.rxLimit n l) (ok : Bool) :
    d.rxFault n l false ok = if ok then none else some F.UPM_CNT_RXE_FCS_ERR := by
  cases ok <;> simp [Dev.rxFault, Nat.not_lt.2 hmin, Nat.not_lt.2 hmax]

theorem Dev.macRxFrame_fault {x : Fld} (h : d.rxFault n l bad (fcsOk l) = some x) :
    d.macRxFrame n ts l bad high full = d.count x n := by
  rw [Dev.macRxFrame, h]

/-- A good frame by what its lane can do with it: without its domain nothing is lossy or full (R214, R220). -/
theorem Dev.macRxFrame_good (h : d.rxFault n l bad (fcsOk l) = none) :
    let g := (d.rxGood n l).patterns n l
    (d.on (12 + n / 2) = true → d.lossy n high (body4 l) = true →
      d.macRxFrame n ts l bad high full = d.count F.UPM_CNT_RXP_LOSSY_DROP n) ∧
    (d.on (12 + n / 2) = true → d.lossy n high (body4 l) = false → full = true →
      d.macRxFrame n ts l bad high full = d.count F.UPM_CNT_RXP_OVERRUN n) ∧
    ((d.on (12 + n / 2) = true → d.lossy n high (body4 l) = false ∧ full = false) →
      d.macRxFrame n ts l bad high full =
        if u16 (body4 l) 12 = 0x8808 then g.macControl n l
        else if d.active = false then g.count F.TWN_CNT2_STBY_DROP
        else if d.on (12 + n / 2) = false then g.count F.UPM_CNT_TXE_WAKE_DISCARD n
        else g.fifoPush (1 + n / 2) (d.rxFrameOf n ts l)) := by
  refine ⟨fun hon hlossy => ?_, fun hon hlossy hfull => ?_, fun hkept => ?_⟩
  · simp [Dev.macRxFrame, h, hon, hlossy]
  · simp [Dev.macRxFrame, h, hon, hlossy, hfull]
  · cases hon : d.on (12 + n / 2) with
    | false => simp [Dev.macRxFrame, h, hon]
    | true =>
      obtain ⟨hlossy, hfull⟩ := hkept hon
      simp [Dev.macRxFrame, h, hon, hlossy, hfull]

/-- The frame is for this port: to the MAC Control group address or to its own. -/
def Dev.macMine (d : Dev) (n : Nat) (l : List Byte) : Prop :=
  field l 0 6 = 0x0180C2000001 ∨ field l 0 6 = d.f F.UPM_MACADDR_ADDR n

theorem Dev.macControl_taken (hlen : l.length = 64) (hmine : d.macMine n l) :
    ¬ (l.length != 64 || !(field l 0 6 == 0x0180C2000001 || field l 0 6 == d.f F.UPM_MACADDR_ADDR n)) = true := by
  simpa [hlen, Dev.macMine, or_iff_not_imp_left] using hmine

theorem Dev.macControl_pause (hlen : l.length = 64) (hmine : d.macMine n l) (hop : u16 l 14 = 1) : d.macControl n l =
    let c := d.count F.UPM_CNT_FC_PAUSE_RX n
    if c.f F.UPM_FC_CFG_RX_PAUSE_EN n ≠ 0 then c.quantaPut n (List.replicate 8 (u16 l 16)) else c :=
  (if_neg (Dev.macControl_taken hlen hmine)).trans ((if_pos (by simp [hop])).trans (if_congr Dev.b_eq_true rfl rfl))

theorem Dev.macControl_pfc (hlen : l.length = 64) (hmine : d.macMine n l) (hop : u16 l 14 = 0x0101) : d.macControl n l =
    let c := d.count F.UPM_CNT_FC_PFC_RX n
    if c.f F.UPM_FC_CFG_RX_PFC_EN n ≠ 0 then c.quantaPut n ((List.range 8).map (fun i =>
      if bit (u16 l 16) i then u16 l (18 + 2 * i) else (c.port n).quanta.getD i 0)) else c :=
  (if_neg (Dev.macControl_taken hlen hmine)).trans ((if_neg (by simp [hop])).trans
    ((if_pos (by simp [hop])).trans (if_congr Dev.b_eq_true rfl rfl)))

end

/-! Fragments (R207, R210). -/

section
variable {d : Dev} {n x c : Nat} {a : Asm} {f : RxNow}

/-- A fragment that ends with an mCRC leaves its frame to be continued. -/
theorem Dev.asmTake_continues {all : List Byte} (hall : a.octets ++ body4 f.octets = all) (hlen : 4 ≤ f.octets.length)
    (hfcs : tail4 f.octets ≠ fcs all) (hcrc : tail4 f.octets = mcrc all) : d.asmTake n c a f = d.portPut n { d.port n with
      asm := some { a with cnt := c, octets := all, full := a.full || f.full } } := by
  subst hall
  exact (if_neg (by simp [hfcs])).trans (if_pos (by simp [hlen, hcrc]))

/-- A fragment that ends with the FCS completes its frame. -/
theorem Dev.asmTake_completes (hlen : 4 ≤ f.octets.length) (hfcs : tail4 f.octets = fcs (a.octets ++ body4 f.octets)) :
    d.asmTake n c a f =
      (d.portPut n { d.port n with asm := none }).macRxFrame n a.ts (a.octets ++ f.octets) false a.high (a.full || f.full) :=
  if_pos (by simp [hlen, hfcs])

theorem Dev.rxFragment_first (hbad : f.bad = false) (hasm : (d.port n).asm = none) : d.rxFragment n (.first x) f =
    d.asmTake n 0 { x := x, cnt := 0, octets := [], ts := f.ts, high := f.high } f := by
  simp [Dev.rxFragment, hbad, hasm]

theorem Dev.rxFragment_next (hbad : f.bad = false) (hasm : (d.port n).asm = some a) (hx : a.x = x) (hc : a.cnt = c) :
    d.rxFragment n (.next x c) f = (d.count F.UPM_CNT_RXP_FRAGS_RX n).asmTake n ((c + 1) % 4) a f := by
  simp [Dev.rxFragment, hbad, hasm, hx, hc]

end

/-! Verification (R211). -/

section
variable {d : Dev} {n : Nat} {rdy : List Bool} {f : RxNow}

theorem Dev.respondRx_eq : d.respondRx n =
    if d.f F.UPM_PRE_STAT_VSTATUS n = 2 then (d.setI F.UPM_PRE_STAT_VSTATUS n 3).raise (1281 + 2 * n) else d :=
  if_congr beq_iff_eq rfl rfl

theorem Dev.verifyStart_due (hup : d.portUp n = true) (hpre : d.f F.UPM_PRE_CFG_PRE_EN n ≠ 0)
    (hdis : d.f F.UPM_PRE_CFG_VERIFY_DIS n = 0) (hst : d.f F.UPM_PRE_STAT_VSTATUS n = 1) :
    d.verifyStart n rdy = ((d.setI F.UPM_PRE_STAT_VSTATUS n 2).setI F.UPM_PRE_STAT_ATTEMPTS n 1).verifySend n rdy :=
  if_pos (by simp [Dev.verifyDue, Dev.preRx, hup, Dev.b_eq_true.2 hpre, Dev.b_eq_false.2 hdis, hst])

/-- VERIFY_TIME passes: verification is tried again, or fails at the third attempt. -/
theorem Dev.verifyTimeout_due (hup : d.portUp n = true) (hst : d.f F.UPM_PRE_STAT_VSTATUS n = 2)
    (ht : (d.port n).vTick + d.verifyTicks n ≤ d.clk.ticks) :
    let k := d.f F.UPM_PRE_STAT_ATTEMPTS n
    d.verifyTimeout n rdy = if k < 3 then (d.setI F.UPM_PRE_STAT_ATTEMPTS n (k + 1)).verifySend n rdy
      else (d.setI F.UPM_PRE_STAT_VSTATUS n 4).raise (1281 + 2 * n) :=
  if_neg (by simp [hup, hst, ht])

end

/-! Pause timers, receive LPI and the link (R212, R217, R219). -/

section
variable {d : Dev} {n : Nat}

theorem Dev.pauseExpire_port (i : Nat) (hn : n < 4) : d.pauseExpire n i = d.quantaPut n ((d.port n).quanta.set i 0) :=
  if_neg (Nat.not_le.2 hn)

theorem Dev.rxLpiEntry_enters (hup : d.portUp n = true) (h : d.f F.UPM_STAT_RX_LPI n = 0) :
    d.rxLpiEntry n = (d.setI F.UPM_STAT_RX_LPI n 1).count F.UPM_CNT_LPI_RX_LPI_ENTRIES n :=
  if_pos (by simp [hup, Dev.b_eq_false.2 h])

theorem Dev.rxLpiExit_exits (hon : d.portOn n = true) (h : d.f F.UPM_STAT_RX_LPI n ≠ 0) :
    d.rxLpiExit n = (d.setI F.UPM_STAT_RX_LPI n 0).linkSeen n :=
  if_pos (by simp [hon, Dev.b_eq_true.2 h])

/-- A level that the link takes while the core is awake and the port's clock runs moves the link (R219). -/
theorem Dev.linkChange_moves {level : Bool} (hn : n < 4) (hstill : d.inStill = false) (hoff : d.inOff = false)
    (hclk : bit d.clk.stopped (5 + n) = false) (hlink : (d.port n).link = !level) :
    d.linkChange n level = (d.portPut n { d.port n with link := level }).linkMoved n level := by
  have moved : (d.portPut n { d.port n with link := level }).portLink n = level := by
    rw [Dev.portLink_clocked (d := d.portPut n _) hclk, Dev.port_portPut]
  have was : d.portLink n = !level := (Dev.portLink_clocked hclk).trans hlink
  have awake : ¬ (d.inStill || d.inOff) = true := by simp [hstill, hoff]
  exact (if_neg (by simp [hn, hlink])).trans ((if_neg awake).trans (if_neg (by simp [moved, was])))

end

/-- Settles O43: the rows by the START lanes they ask for, then the receiver lane by lane, the MAC by the first reason that holds, a
reassembly by the check its fragment ends with, and verification, LPI and the link by the state each asks for. That an IDLE or LPI lane
within a frame is passed over, and that a verify mPacket with errors counts as a frame would, are log entry 34. -/
theorem portReceiveCommands : Obligations.PortReceiveCommands := by
  refine ⟨?rows, ?lanes, ?mac, ?fragments, fun n i s hn => ?timer, ?mPackets, ?verify, fun n s => ⟨fun hup h => ?lpi, fun hon h => ?noLpi⟩,
    fun n s hn hstill hoff _ hclk => ⟨fun h => ?rise, fun h => ?fall⟩⟩
  case rows =>
    intro n words rdy s hup starts taken l
    refine ⟨fun h => ?_, fun h => ?_, fun h => ?_, fun h => ?_, fun v hv hk htype => ⟨fun hop => ?_, fun hop => ?_⟩⟩
    · exact (exec_upmRxFrame n words s).trans (run_after s _ _ (Dev.rxRow_takes hup fun v hv => by simpa using h v hv))
    · refine (exec_preemptFragmentRx n words s).trans (run_after s _ _ (Dev.rxRow_takes hup fun v hv => ?_))
      obtain ⟨hexpress, hunknown, hverify, hrespond⟩ := h v hv
      cases hkind : s.dev.kindAt n v with
      | first x => rfl
      | next x c => rfl
      | express => exact absurd hkind hexpress
      | unknown => exact absurd hkind hunknown
      | verify => exact absurd hkind hverify
      | respond => exact absurd hkind hrespond
    · exact (exec_verifyMpacketRx n words rdy s).trans (run_after s _ _ (Dev.rxRow_takes hup fun v hv => by simpa using h v hv))
    · exact (exec_respondMpacketRx n words s).trans (run_after s _ _ (Dev.rxRow_takes hup fun v hv => by simpa using h v hv))
    · exact (exec_pauseRx n words s).trans (run_after s _ _ (Dev.rxOpcode_takes hup hv hk htype hop))
    · exact (exec_pfcRx n words s).trans (run_after s _ _ (Dev.rxOpcode_takes hup hv hk htype hop))
  case lanes =>
    intro d n at' c v rdy w
    refine ⟨Dev.rxWord_skipped, Dev.rxWord_lanes, Dev.rxLane_outside, ?_, fun f hf => ⟨?_, fun hc _ g hg => ?_, Dev.rxLane_error hf,
      Dev.rxEnd_express⟩⟩
    · rintro rfl
      rfl
    · rintro rfl
      exact Dev.rxLane_data hf
    · exact Dev.rxLane_term hf hc hg
  case mac =>
    intro d n ts l high full
    have counted (c : Bool) (x y : Fld) : d.count (if c then x else y) n = if c then d.count x n else d.count y n :=
      apply_ite (d.count · n) _ _ _
    refine ⟨Dev.macRxFrame_fault rfl, fun h => ?_, fun h hmin => ?_, fun hmin hmax h => ?_, fun hmin hmax h => ?_⟩
    · rw [Dev.macRxFrame_fault (Dev.rxFault_short h _), counted]
    · rw [Dev.macRxFrame_fault (Dev.rxFault_long hmin h _), counted]
    · exact Dev.macRxFrame_fault (by rw [Dev.rxFault_sized hmin hmax, h]; rfl)
    · have good : d.rxFault n l false (fcsOk l) = none := by rw [Dev.rxFault_sized hmin hmax, h]; rfl
      obtain ⟨hlost, hover, hkept⟩ := Dev.macRxFrame_good (ts := ts) (high := high) (full := full) good
      intro g da mine power lossy
      refine ⟨hlost, fun hon hl => hover hon (eq_false_of_ne_true hl), fun hk => ?_⟩
      have kept := hkept fun hon => ⟨eq_false_of_ne_true (hk hon).1, (hk hon).2⟩
      refine ⟨fun ht hlen hm hop => ?_, fun ht hlen hm hop => ?_, fun ht => ?_⟩
      · exact kept.trans ((if_pos ht).trans (Dev.macControl_pause hlen hm hop))
      · exact kept.trans ((if_pos ht).trans (Dev.macControl_pfc hlen hm hop))
      · rw [if_neg ht] at kept
        refine ⟨fun ha => kept.trans (if_pos ha), fun ha hp => ?_, fun ha hp => ?_⟩
        · exact kept.trans ((if_neg (by simp [ha])).trans (if_pos (eq_false_of_ne_true hp)))
        · exact kept.trans ((if_neg (by simp [ha])).trans (if_neg (by simpa using hp)))
  case fragments =>
    intro d n x c f hbad hlen last
    refine ⟨fun hasm hfcs hcrc => ?_, fun a hasm hx hc => ?_⟩
    · exact (Dev.rxFragment_first hbad hasm).trans (Dev.asmTake_continues (List.nil_append _) hlen hfcs hcrc)
    · intro e all
      have next := Dev.rxFragment_next (n := n) hbad hasm hx hc
      exact ⟨fun hfcs hcrc => next.trans (Dev.asmTake_continues rfl hlen hfcs hcrc), fun hfcs => next.trans (Dev.asmTake_completes hlen hfcs)⟩
  case timer => exact (exec_pauseTimerExpiry n i s).trans (run_after s _ _ (Dev.pauseExpire_port i hn))
  case mPackets =>
    intro n rdy f d hpre e hbad hmin hmax hcrc
    have kind {k : SmdKind} (hk : smdKind f.smd = k) : d.kindAt n f.smd = k := (Dev.kindAt_preemption hpre).trans hk
    refine ⟨fun hv => ?_, fun hr => ?_⟩
    · exact (Dev.rxEnd_verify (kind (by rw [hv]; decide))).trans (Dev.rxMPacket_good hbad hmin hmax hcrc)
    · refine (Dev.rxEnd_respond (kind (by rw [hr]; decide))).trans ?_
      exact (Dev.rxMPacket_good hbad hmin hmax hcrc).trans Dev.respondRx_eq
  case verify =>
    intro n rdy s hup sent
    refine ⟨fun hpre hdis hst => ?_, fun hst ht => ?_⟩
    · exact (exec_verifyStart n rdy s).trans (run_after s _ _ (Dev.verifyStart_due hup hpre hdis hst))
    · intro k
      have row {r : Dev} (h) := (exec_verifyTimeout n rdy s).trans (run_after s _ r ((Dev.verifyTimeout_due hup hst ht).trans h))
      exact ⟨fun hk => row (if_pos hk), fun hk => row (if_neg (Nat.not_lt.2 hk))⟩
  case lpi => exact (exec_rxLpiEntry n s).trans (run_after s _ _ (Dev.rxLpiEntry_enters hup h))
  case noLpi => exact (exec_rxLpiExit n s).trans (run_after s _ _ (Dev.rxLpiExit_exits hon h))
  case rise => exact (exec_upmLinkChange n true s).trans (run_after s _ _ (Dev.linkChange_moves hn hstill hoff hclk h))
  case fall => exact (exec_upmLinkChange n false s).trans (run_after s _ _ (Dev.linkChange_moves hn hstill hoff hclk h))

end Sys2Proof.Machine
end

section
/-! The user ports send, and their registers (R195, R201 to R208, R211, R213, R215, R216, R243, R491). -/

namespace Sys2Proof.Machine

/-! Frames from the egress queues (R201 to R208, R243, R491). -/

section
variable {d : Dev} {n edge gap cut i : Nat} {pre : Bool} {rdy : List Bool} {up : List Upset} {f : Frame}

theorem Dev.txNext_frame {e : Dev} (hon : d.portOn n = true) (hx : d.xUp (2 + n) = true)
    (hnext : (d.containAll up).egrNext n = some (i, pre, f, e)) :
    d.txNext n edge gap cut rdy up = e.txFrame n edge gap cut i rdy pre f (cellUpset up) := by
  simp only [Dev.txNext, hon, hx, hnext, Bool.not_true, Bool.or_self, Bool.false_eq_true, if_false]

theorem Dev.txNext_held {h : Held} (hon : d.portOn n = true) (hx : d.xUp (2 + n) = true) (hnone : (d.containAll up).egrNext n = none)
    (hheld : ((d.containAll up).port n).held = some h) : d.txNext n edge gap cut rdy up = (d.containAll up).sendFrag n gap cut rdy h := by
  simp only [Dev.txNext, hon, hx, hnone, hheld, Bool.not_true, Bool.or_self, Bool.false_eq_true, if_false]

/-- The device once the buffer has given frame f of class i to port n. -/
def Dev.txFetched (d : Dev) (n i : Nat) (f : Frame) : Dev := (d.bufRead (beats f.len) i).pathBeats (4 + n / 2) (beats f.len)

/-- The octets that a fetched frame is sent with: its tags as it leaves, padding and FCS. -/
def Dev.txOctets (a : Dev) (n : Nat) (f : Frame) : List Byte := withFcs ((a.leave f).2.txTag n (a.leave f).1)

/-- The time stamp of a fetched frame. -/
def Dev.txTime (a : Dev) (n edge gap : Nat) (f : Frame) : Nat := (a.leave f).2.txStamp n edge gap

/-- The device as a fetched frame begins to cross, its time noted and its completion written. -/
def Dev.txBegun (a : Dev) (n edge gap : Nat) (f : Frame) : Dev :=
  let b := (a.leave f).2
  let ts := a.txTime n edge gap f
  (b.trcNote f (fun t => { t with leave := b.cycle, tsOut := ts })).sendLeft f 0 ts

/-- The device after a fetched frame of at most 9,600 octets: it ends with ERROR where a cell is faulty, is sent up to a cut as preemptable,
or goes out whole. -/
def Dev.txSent (a : Dev) (n edge gap cut i : Nat) (rdy : List Bool) (pre : Bool) (f : Frame) (cell : Option Nat) : Dev :=
  let l := a.txOctets n f
  let e := a.txBegun n edge gap f
  let x := (e.port n).x
  match cell with
  | some loc =>
    let o := e.drive n gap (if pre then smdStart x else sfdExpress) (l.take cut) true rdy
    ((if pre then o.nextX n else o).bufDrop loc).trcClose f 7
  | none =>
    if pre then (e.nextX n).sendFrag n gap cut rdy { octets := l, done := 0, x := x, cnt := 0, cls := i, frame := f }
    else ((e.drive n gap sfdExpress l false rdy).txDone n l.length).trcClose f 0 (a.txTime n edge gap f)

theorem Dev.txFrame_noLink (cell : Option Nat)
    (h : (d.txFetched n i f).f F.UPM_CFG_EN n = 0 ∨ (d.txFetched n i f).portLink n = false) :
    d.txFrame n edge gap cut i rdy pre f cell = ((d.txFetched n i f).count F.UPM_CNT_TXE_LINK_DROP n).macDrop f 0 :=
  if_pos (show (!(d.txFetched n i f).b F.UPM_CFG_EN n || !(d.txFetched n i f).portLink n) = true by simpa [Dev.b] using h)

section
variable (hen : (d.txFetched n i f).f F.UPM_CFG_EN n ≠ 0) (hlink : (d.txFetched n i f).portLink n = true)
include hen hlink

theorem Dev.txFrame_linked (cell : Option Nat) : d.txFrame n edge gap cut i rdy pre f cell =
    if cell.isSome && cut == 0 then ((d.txFetched n i f).bufDrop (cell.getD 0)).macDrop f 0
    else if ((d.txFetched n i f).txOctets n f).length > 9600 then
      (((d.txFetched n i f).leave f).2.count F.UPM_CNT_TXE_SIZE_DROP n).macDrop f 0
    else (d.txFetched n i f).txSent n edge gap cut i rdy pre f cell :=
  if_neg (show ¬ (!(d.txFetched n i f).b F.UPM_CFG_EN n || !(d.txFetched n i f).portLink n) = true by
    simp [Dev.b_eq_true.2 hen, hlink])

theorem Dev.txFrame_faultyBegin {loc : Nat} (hcut : cut = 0) :
    d.txFrame n edge gap cut i rdy pre f (some loc) = ((d.txFetched n i f).bufDrop loc).macDrop f 0 :=
  (Dev.txFrame_linked hen hlink _).trans (if_pos (by simp [hcut]))

theorem Dev.txFrame_oversize (h : 9600 < ((d.txFetched n i f).txOctets n f).length) : d.txFrame n edge gap cut i rdy pre f none =
    (((d.txFetched n i f).leave f).2.count F.UPM_CNT_TXE_SIZE_DROP n).macDrop f 0 :=
  (Dev.txFrame_linked hen hlink _).trans ((if_neg (by simp)).trans (if_pos h))

theorem Dev.txFrame_sent (cell : Option Nat) (hcell : cell = none ∨ cut ≠ 0) (h : ((d.txFetched n i f).txOctets n f).length ≤ 9600) :
    d.txFrame n edge gap cut i rdy pre f cell = (d.txFetched n i f).txSent n edge gap cut i rdy pre f cell := by
  have begins : ¬ (cell.isSome && cut == 0) = true := by obtain rfl | h := hcell <;> simp [*]
  exact (Dev.txFrame_linked hen hlink _).trans ((if_neg begins).trans (if_neg (Nat.not_lt.2 h)))

end
end

/-! Generated flow control (R213, R215). -/

section
variable {d : Dev} {n : Nat} {rdy : List Bool}

theorem Dev.pauseTx_generates (hup : d.portUp n = true) (hmode : d.f F.UPM_FC_CFG_TX_MODE n = 1 ∨ d.f F.UPM_FC_CFG_TX_MODE n = 2) :
    d.pauseTx n = true := by
  simpa [Dev.pauseTx, hup] using hmode

variable (htx : d.pauseTx n = true)
include htx

theorem Dev.xoffSend_reached (h : d.f F.UPM_STAT_XOFF n = 0) (ho : thr (d.f F.UPM_FC_THR_XOFF_THR n) ≤ d.occupancy n) :
    d.xoffSend n rdy = d.xoffGo n rdy :=
  if_pos (by simp [Dev.xoffWanted, htx, Dev.b_eq_false.2 h, ho])

theorem Dev.xoffSend_due (h : (d.port n).xoffDue = true) : d.xoffSend n rdy = d.xoffGo n rdy :=
  if_pos (by simp [Dev.xoffWanted, htx, h])

theorem Dev.xoffRepeat_above (h : d.f F.UPM_STAT_XOFF n ≠ 0) (ho : thr (d.f F.UPM_FC_THR_XON_THR n) < d.occupancy n) :
    d.xoffRepeat n rdy = d.xoffGo n rdy :=
  if_pos (by simp [htx, Dev.b_eq_true.2 h, ho])

theorem Dev.xonSend_fallen (h : d.f F.UPM_STAT_XOFF n ≠ 0) (ho : d.occupancy n ≤ thr (d.f F.UPM_FC_THR_XON_THR n)) :
    d.xonSend n rdy = ((d.portPut n { d.port n with xoffDue := false }).setI F.UPM_STAT_XOFF n 0).pauseFrame n 0 rdy :=
  if_pos (by simp [Dev.xonWanted, htx, Dev.b_eq_true.2 h, ho])

end

/-! Transmit low-power idle (R216). -/

section
variable {d : Dev} {n : Nat}

theorem Dev.portIdle_nothingDue (hempty : ∀ i, i < 8 → (d.egr n i).frames = []) (hheld : (d.port n).held = none)
    (hverifying : d.f F.UPM_PRE_STAT_VSTATUS n ≠ 2) (hverify : d.verifyDue n = false) (hxoff : d.xoffWanted n = false)
    (hxon : d.xonWanted n = false) : d.portIdle n = true := by
  have empty : (List.range 8).all (fun i => (d.egr n i).frames.isEmpty) = true :=
    List.all_eq_true.2 fun i hi => List.isEmpty_iff.2 (hempty i (List.mem_range.1 hi))
  simp [Dev.portIdle, -List.all_eq_true, empty, hheld, hverifying, hverify, hxoff, hxon]

theorem Dev.idleHold_eq : d.idleHold n =
    if d.f F.PWR_POND_LVL_STATE = 0 then d.f F.UPM_EEE_CFG_IDLE_HOLD n else d.f F.UPM_EEE_CFG_IDLE_HOLD_POND n := by
  simp [Dev.idleHold]

theorem Dev.lpiEntry_idle {us : Nat} (hup : d.portUp n = true) (hen : d.f F.UPM_EEE_CFG_EEE_EN n ≠ 0) (hlpi : d.f F.UPM_STAT_TX_LPI n = 0)
    (hidle : d.portIdle n = true) (hus : d.idleHold n ≤ us) :
    d.lpiEntry n us = (d.setI F.UPM_STAT_TX_LPI n 1).count F.UPM_CNT_LPI_TX_LPI_ENTRIES n :=
  if_pos (by simp [hup, Dev.b_eq_true.2 hen, Dev.b_eq_false.2 hlpi, hidle, hus])

end

/-! The registers (R195, R211, R215). -/

section
variable {d : Dev} {n : Nat} {w : RegWr}

/-- A row of port n that is one gated register write, which passes the gates. -/
theorem run_portWrite {s : State} {off : Nat} {g : Dev → Dev} {e : Dev} (hn : n < 4) (hp : s.dev.passes w.agent off) (hg : g s.dev = e) :
    s.run (fun d => if n ≥ 4 then d else d.gated off w g) = .next (s.after ((e.respond .done).accessed s.dev w.agent off)) :=
  run_after s _ _ ((if_neg (Nat.not_le.2 hn)).trans (by rw [gated_passes _ _ _ _ hp, hg]))

theorem Dev.upmDirect_refused
    (h : d.upmWhy n (w.merged F.UPM_CFG_EN (d.f F.UPM_CFG_EN n)) (w.merged F.UPM_CFG_RATE (d.f F.UPM_CFG_RATE n)) ≠ 0) :
    Dev.upmDirect n w d =
      d.upmRefuse n (d.upmWhy n (w.merged F.UPM_CFG_EN (d.f F.UPM_CFG_EN n)) (w.merged F.UPM_CFG_RATE (d.f F.UPM_CFG_RATE n))) :=
  if_pos (bne_iff_ne.2 h)

/-- EN that rises begins the gaps anew; EN = 0 ends what is received and driven LPI. -/
theorem Dev.upmDirect_taken
    (h : d.upmWhy n (w.merged F.UPM_CFG_EN (d.f F.UPM_CFG_EN n)) (w.merged F.UPM_CFG_RATE (d.f F.UPM_CFG_RATE n)) = 0) :
    let en := w.merged F.UPM_CFG_EN (d.f F.UPM_CFG_EN n)
    let a := if d.f F.UPM_CFG_EN n = 0 ∧ en = 1 then d.portPut n { d.port n with credit := 0, part := [] } else d
    let b := if en = 0 then (a.portPut n { a.port n with rx := none, asm := none }).setI F.UPM_STAT_TX_LPI n 0 else a
    Dev.upmDirect n w d = b.putAll (fldsAt (0xA0000 + 0x4000 * n)) w := by
  have rises : (!d.b F.UPM_CFG_EN n && w.merged F.UPM_CFG_EN (d.f F.UPM_CFG_EN n) == 1) = true ↔
      d.f F.UPM_CFG_EN n = 0 ∧ w.merged F.UPM_CFG_EN (d.f F.UPM_CFG_EN n) = 1 := by simp [Dev.b]
  simp only [Dev.upmDirect, h, rises, beq_iff_eq, bne_self_eq_false, Bool.false_eq_true, if_false]

theorem Dev.writeFcThr_refused
    (h : thr (w.merged F.UPM_FC_THR_XOFF_THR (d.f F.UPM_FC_THR_XOFF_THR n)) ≤ thr (w.merged F.UPM_FC_THR_XON_THR (d.f F.UPM_FC_THR_XON_THR n))) :
    Dev.writeFcThr n w d = d.upmRefuse n 5 := if_pos h

theorem Dev.writeFcThr_taken
    (h : thr (w.merged F.UPM_FC_THR_XON_THR (d.f F.UPM_FC_THR_XON_THR n)) < thr (w.merged F.UPM_FC_THR_XOFF_THR (d.f F.UPM_FC_THR_XOFF_THR n))) :
    Dev.writeFcThr n w d = d.flowLook n (fun d => d.putAll (fldsAt (0xA0020 + 0x4000 * n)) w) := if_neg (Nat.not_le.2 h)

end

/-- Settles O44: the frame that the class selection gives by the link, its cells and its length, a held frame, then flow control, LPI and the
registers by the conditions of their rows. That EN = 0 ends driven LPI and what is being received, XON and XOFF compared after clamping, the
hold-off as an operand, and an upset that ends a cut frame with ERROR, are log entry 34. -/
theorem portSendCommands : Obligations.PortSendCommands := by
  refine ⟨?frame, fun n edge gap cut rdy up h s hon hx => ?held, ?flow, ?lpi, ?cfg, ?thresholds, ?preemption⟩
  case frame =>
    intro n edge gap cut i pre rdy up f d s hon hx hnext a go
    have row {r : Dev} (h) := (exec_upmTxFrame n edge gap cut rdy up s).trans (run_after s _ r ((Dev.txNext_frame hon hx hnext).trans h))
    refine ⟨fun h => row (Dev.txFrame_noLink _ h), fun hen hlink => ?_⟩
    intro r l ts e x moved
    have sent (cell : Option Nat) (hcell : cell = none ∨ cut ≠ 0) (hl : l.length ≤ 9600) :=
      Dev.txFrame_sent (edge := edge) (gap := gap) (rdy := rdy) (pre := pre) hen hlink cell hcell hl
    refine ⟨fun hc => ?_, fun loc hc => ?_⟩
    · rw [hc] at row
      refine ⟨fun hl hpre => ?_, fun hl hpre => ?_, fun hl => row (Dev.txFrame_oversize hen hlink hl)⟩
      all_goals
        subst hpre
        exact row (sent none (.inl rfl) hl)
    · rw [hc] at row
      exact ⟨fun hcut => row (Dev.txFrame_faultyBegin hen hlink hcut), fun hcut hl => row (sent (some loc) (.inr hcut) hl)⟩
  case held =>
    exact fun hnone hheld => (exec_upmTxFrame n edge gap cut rdy up s).trans (run_after s _ _ (Dev.txNext_held hon hx hnone hheld))
  case flow =>
    intro n rdy s hup hmode q xon d sent
    have htx := Dev.pauseTx_generates hup hmode
    refine ⟨fun h ho => ?_, fun h => ?_, fun h ho => ?_, fun h ho => ?_⟩
    · exact (exec_xoffSend n rdy s).trans (run_after s _ _ (Dev.xoffSend_reached htx h ho))
    · exact (exec_xoffSend n rdy s).trans (run_after s _ _ (Dev.xoffSend_due htx h))
    · exact (exec_xoffRepeat n rdy s).trans (run_after s _ _ (Dev.xoffRepeat_above htx h ho))
    · exact (exec_xonSend n rdy s).trans (run_after s _ _ (Dev.xonSend_fallen htx h ho))
  case lpi =>
    intro n us s hup hen hlpi hempty hheld hverifying hverify hxoff hxon hus
    have idle := Dev.portIdle_nothingDue hempty hheld hverifying hverify hxoff hxon
    exact (exec_lpiEntry n us s).trans (run_after s _ _ (Dev.lpiEntry_idle hup hen hlpi idle (Dev.idleHold_eq ▸ hus)))
  case cfg =>
    intro n w s hn hp ht why a b
    have row {r : Dev} (h : Dev.upmDirect n w s.dev = r) := (exec_upmCfgWrite n w s).trans
      (run_portWrite hn hp ((Dev.stWrite_mirWrite ht (Dev.upmDirect n)).trans (congrArg (Dev.mirrored · (0xA0000 + 0x4000 * n) w) h)))
    exact ⟨fun h => row (Dev.upmDirect_taken h), fun h => row (Dev.upmDirect_refused h)⟩
  case thresholds =>
    intro n w s hn hp xon xoff
    have row {r : Dev} (h : Dev.writeFcThr n w s.dev = r) := (exec_upmFcThrWrite n w s).trans (run_portWrite hn hp h)
    exact ⟨fun h => row (Dev.writeFcThr_taken h), fun h => row (Dev.writeFcThr_refused h)⟩
  case preemption =>
    intro n w s hn hp ht d
    exact (exec_preEnWrite n w s).trans (run_portWrite hn hp (Dev.stWrite_mirWrite ht (Dev.preDirect n)))

end Sys2Proof.Machine
end

section
/-! The registers of the power controller: points, Still load, Watch and the Millpond's budget (R236, R406, R409, R425, R434). -/

namespace Sys2Proof.Machine

/-! A write of PWR_DVFS_CTL (R409, R434). -/

/-- The check that refuses a point: it moves without MANUAL, past 4, against the other point in force, or away from 4 in SHED. -/
def refusesPoint (old new : Nat) (manual against shed : Bool) : Bool :=
  new != old && (!manual || decide (new > 4) || against || (shed && new != 4))

theorem refusesPoint_eq_false {old new a b : Nat} {manual shed : Prop} [Decidable manual] [Decidable shed] :
    refusesPoint old new (decide manual) (decide (b < a)) (decide shed) = false ↔
      (new = old ∨ (manual ∧ new ≤ 4 ∧ a ≤ b ∧ (shed → new = 4))) := by
  by_cases hm : manual <;> by_cases hs : shed <;> simp [refusesPoint, hm, hs, and_assoc, or_iff_not_imp_left]

section
variable (w : RegWr) (d : Dev)

/-- The written frequency point is refused: it may not fall below the acknowledged voltage point. -/
def Dev.refusesFPoint : Bool :=
  let old := d.f F.PWR_DVFS_CTL_FPOINT
  let new := w.merged F.PWR_DVFS_CTL_FPOINT old
  refusesPoint old new (w.merged F.PWR_DVFS_CTL_MANUAL (d.f F.PWR_DVFS_CTL_MANUAL) == 1) (new < d.pwr.ackPoint)
    (d.f F.PWR_POND_LVL_STATE == 2)

/-- The written voltage point is refused: it may not exceed the frequency point in force. -/
def Dev.refusesVPoint : Bool :=
  let old := d.f F.PWR_DVFS_CTL_VPOINT
  let new := w.merged F.PWR_DVFS_CTL_VPOINT old
  refusesPoint old new (w.merged F.PWR_DVFS_CTL_MANUAL (d.f F.PWR_DVFS_CTL_MANUAL) == 1) (new > d.f F.PWR_DVFS_STAT_FPOINT)
    (d.f F.PWR_POND_LVL_STATE == 2)

/-- PWR_DVFS_CTL after a write in which each point is refused or taken: a refused point goes back. -/
def Dev.dvfsCtlPut (refF refV : Bool) : Dev :=
  let p := d.putAll (fldsAt 0x20010) w
  let a := if refF then p.set F.PWR_DVFS_CTL_FPOINT (d.f F.PWR_DVFS_CTL_FPOINT) else p
  if refV then a.set F.PWR_DVFS_CTL_VPOINT (d.f F.PWR_DVFS_CTL_VPOINT) else a

/-- The points refused share REFUSED and event 1346. -/
def Dev.dvfsCtlJudged (refF refV : Bool) : Dev :=
  let b := d.dvfsCtlPut w refF refV
  (if refF || refV then (b.set F.PWR_DVFS_CTL_REFUSED 1).raise 1346 else b).pursue

theorem Dev.dvfsCtlPut_backF : d.dvfsCtlPut w true false =
    (d.putAll (fldsAt 0x20010) w).set F.PWR_DVFS_CTL_FPOINT (d.f F.PWR_DVFS_CTL_FPOINT) := by
  simp only [Dev.dvfsCtlPut, if_true, Bool.false_eq_true, if_false]

theorem Dev.dvfsCtlPut_backV : d.dvfsCtlPut w false true =
    (d.putAll (fldsAt 0x20010) w).set F.PWR_DVFS_CTL_VPOINT (d.f F.PWR_DVFS_CTL_VPOINT) := by
  simp only [Dev.dvfsCtlPut, if_true, Bool.false_eq_true, if_false]

theorem Dev.dvfsCtlPut_backFV : d.dvfsCtlPut w true true =
    ((d.putAll (fldsAt 0x20010) w).set F.PWR_DVFS_CTL_FPOINT (d.f F.PWR_DVFS_CTL_FPOINT)).set
      F.PWR_DVFS_CTL_VPOINT (d.f F.PWR_DVFS_CTL_VPOINT) := by
  simp only [Dev.dvfsCtlPut, if_true]

theorem Dev.writeDvfsCtl_eq : Dev.writeDvfsCtl w d = d.dvfsCtlJudged w (d.refusesFPoint w) (d.refusesVPoint w) := rfl

theorem Dev.dvfsCtlJudged_taken : d.dvfsCtlJudged w false false = (d.putAll (fldsAt 0x20010) w).pursue := rfl

theorem Dev.dvfsCtlJudged_refused {refF refV : Bool} {e : Dev} (h : (refF || refV) = true) (he : d.dvfsCtlPut w refF refV = e) :
    d.dvfsCtlJudged w refF refV = ((e.set F.PWR_DVFS_CTL_REFUSED 1).raise 1346).pursue := by
  rw [← he]
  exact congrArg Dev.pursue (if_pos h)

end

theorem exec_pwrDvfsCtlWrite_judged {w : RegWr} {s : State} {refF refV : Bool} {e : Dev} (hp : s.dev.passes w.agent 0x20010)
    (hF : s.dev.refusesFPoint w = refF) (hV : s.dev.refusesVPoint w = refV) (he : s.dev.dvfsCtlJudged w refF refV = e) :
    exec (.pwrDvfsCtlWrite w) s = .next (s.after ((e.respond .done).accessed s.dev w.agent 0x20010)) :=
  (exec_pwrDvfsCtlWrite w s).trans (run_gated s _ w hp (by rw [Dev.writeDvfsCtl_eq, hF, hV, he]))

/-! A write of PWR_REG (R406). -/

section
variable {w : RegWr} {d : Dev}

/-- The load that a write of PWR_REG asks for. -/
def Dev.askedLoad (w : RegWr) (d : Dev) : Nat :=
  stillLoad (decide (w.merged F.PWR_REG_STILL_REFCLK (d.f F.PWR_REG_STILL_REFCLK) = 1)) (d.f F.PWR_WAKE_CFG_LINK_PORTS)

theorem Dev.askedLoad_eq : d.askedLoad w =
    266 + (if w.merged F.PWR_REG_STILL_REFCLK (d.f F.PWR_REG_STILL_REFCLK) = 1 then 80 else 0) +
      5 * ((List.range 4).countP (fun n => bit (d.f F.PWR_WAKE_CFG_LINK_PORTS) n)) := by
  simp only [Dev.askedLoad, stillLoad, decide_eq_true_eq]

theorem Dev.writePwrReg_eq : Dev.writePwrReg w d =
    if 360 < d.askedLoad w ∧ d.load < d.askedLoad w then d.loadRefused else d.putAll (fldsAt 0x20038) w := by
  simp only [Dev.writePwrReg, Bool.and_eq_true, decide_eq_true_eq, gt_iff_lt]
  rfl

theorem Dev.writePwrReg_taken (h : d.askedLoad w ≤ 360 ∨ d.askedLoad w ≤ d.load) :
    Dev.writePwrReg w d = d.putAll (fldsAt 0x20038) w := by
  rw [Dev.writePwrReg_eq, if_neg (by omega)]

theorem Dev.writePwrReg_refused (h : 360 < d.askedLoad w) (hgrow : d.load < d.askedLoad w) :
    Dev.writePwrReg w d = (d.set F.PWR_REG_LOAD_REFUSED 1).raise 1360 :=
  Dev.writePwrReg_eq.trans (if_pos ⟨h, hgrow⟩)

/-! A write of PWR_WATCH_CTL (R425). -/

/-- The fields that a write of PWR_WATCH_CTL takes: DOCENT_REQ is Docent's. -/
def Dev.watchCtlTaken (w : RegWr) (d : Dev) : Dev :=
  let a := (d.put F.PWR_WATCH_CTL_HOST_OK w).put F.PWR_WATCH_CTL_WLEAD w
  if w.agent = .docent then a.put F.PWR_WATCH_CTL_DOCENT_REQ w else a

/-- Watch ends where the octet is enabled, either permission is 0 and the front is in Watch. -/
def Dev.endsWatch (w : RegWr) (b : Dev) : Prop :=
  w.mask.getLsbD 0 = true ∧ (b.f F.PWR_WATCH_CTL_HOST_OK = 0 ∨ b.f F.PWR_WATCH_CTL_DOCENT_REQ = 0) ∧
    b.f F.PWR_WATCH_STAT_PHASE ≠ 0

theorem Dev.watchCause_eq : d.watchCause = if d.f F.PWR_WATCH_STAT_PHASE ≠ 0 then d.wake 9 else d := by
  simp only [Dev.watchCause, Dev.watchOwns, bne_iff_ne]

theorem Dev.writeWatchCtl_eq : Dev.writeWatchCtl w d =
    if w.mask.getLsbD 0 = true ∧
      ((d.watchCtlTaken w).f F.PWR_WATCH_CTL_HOST_OK = 0 ∨ (d.watchCtlTaken w).f F.PWR_WATCH_CTL_DOCENT_REQ = 0)
    then (d.watchCtlTaken w).watchCause else d.watchCtlTaken w := by
  simp only [Dev.writeWatchCtl, Dev.watchCtlTaken, beq_iff_eq, Bool.and_eq_true, Bool.not_eq_true', Bool.and_eq_false_iff,
    Dev.b_eq_false]
  rfl

theorem Dev.writeWatchCtl_ends (h : (d.watchCtlTaken w).endsWatch w) : Dev.writeWatchCtl w d = (d.watchCtlTaken w).wake 9 := by
  obtain ⟨hmask, hzero, hphase⟩ := h
  rw [Dev.writeWatchCtl_eq, if_pos ⟨hmask, hzero⟩, Dev.watchCause_eq, if_pos hphase]

theorem Dev.writeWatchCtl_keeps (h : ¬ (d.watchCtlTaken w).endsWatch w) : Dev.writeWatchCtl w d = d.watchCtlTaken w := by
  rw [Dev.writeWatchCtl_eq]
  split
  case isTrue asks =>
    obtain ⟨hmask, hzero⟩ := asks
    exact Dev.watchCause_eq.trans (if_neg fun hphase => h ⟨hmask, hzero, hphase⟩)
  case isFalse => rfl

/-! A write of PWR_POND_CFG (R236). -/

section
variable {b lo hi : Nat} (hb : w.merged F.PWR_POND_CFG_BUDGET (d.f F.PWR_POND_CFG_BUDGET) = b)
  (hlo : w.merged F.PWR_POND_CFG_LWM (d.f F.PWR_POND_CFG_LWM) = lo) (hhi : w.merged F.PWR_POND_CFG_HWM (d.f F.PWR_POND_CFG_HWM) = hi)
include hb hlo hhi

theorem Dev.writePondCfg_eq : Dev.writePondCfg w d =
    if b < 128 ∨ 1024 < b ∨ hi ≤ lo then d.set F.PWR_POND_CFG_REFUSED 1 else d.putAll (fldsAt 0x20800) w := by
  simp only [Dev.writePondCfg, hb, hlo, hhi, Bool.or_eq_true, decide_eq_true_eq, or_assoc, gt_iff_lt]

theorem Dev.writePondCfg_taken (hmin : 128 ≤ b) (hmax : b ≤ 1024) (hmarks : lo < hi) :
    Dev.writePondCfg w d = d.putAll (fldsAt 0x20800) w :=
  (Dev.writePondCfg_eq hb hlo hhi).trans (if_neg (by omega))

theorem Dev.writePondCfg_refused (h : b < 128 ∨ 1024 < b ∨ hi ≤ lo) : Dev.writePondCfg w d = d.set F.PWR_POND_CFG_REFUSED 1 :=
  (Dev.writePondCfg_eq hb hlo hhi).trans (if_pos h)

end
end

/-- Settles O26: each register's write by its own check. That a field is refused alone, that an equal value is not judged and that MANUAL
is judged on its new value, are the model's choices (log entry 14). -/
theorem powerRegisterWrites : Obligations.PowerRegisterWrites := by
  refine ⟨?points, ?load, ?watch, ?budget⟩
  case points =>
    intro w s hp d oldF oldV newF newV manual okF okV p
    have hF : s.dev.refusesFPoint w = false ↔ okF := refusesPoint_eq_false
    have hV : s.dev.refusesVPoint w = false ↔ okV := refusesPoint_eq_false
    have refusedF (h : ¬ okF) : s.dev.refusesFPoint w = true := by rwa [← hF, Bool.not_eq_false] at h
    have refusedV (h : ¬ okV) : s.dev.refusesVPoint w = true := by rwa [← hV, Bool.not_eq_false] at h
    refine ⟨fun f v => ?_, fun f v => ?_, fun f v => ?_, fun f v => ?_⟩
    · exact exec_pwrDvfsCtlWrite_judged hp (hF.2 f) (hV.2 v) (s.dev.dvfsCtlJudged_taken w)
    · exact exec_pwrDvfsCtlWrite_judged hp (refusedF f) (hV.2 v) (s.dev.dvfsCtlJudged_refused w rfl (s.dev.dvfsCtlPut_backF w))
    · exact exec_pwrDvfsCtlWrite_judged hp (hF.2 f) (refusedV v) (s.dev.dvfsCtlJudged_refused w rfl (s.dev.dvfsCtlPut_backV w))
    · exact exec_pwrDvfsCtlWrite_judged hp (refusedF f) (refusedV v) (s.dev.dvfsCtlJudged_refused w rfl (s.dev.dvfsCtlPut_backFV w))
  case load =>
    intro w s hp on load
    have hload : s.dev.askedLoad w = load := Dev.askedLoad_eq
    rw [← hload]
    refine ⟨fun h => ?_, fun h hgrow => ?_⟩
    · exact (exec_pwrRegWrite w s).trans (run_gated s _ w hp (Dev.writePwrReg_taken h))
    · exact (exec_pwrRegWrite w s).trans (run_gated s _ w hp (Dev.writePwrReg_refused h hgrow))
  case watch =>
    intro w s hp a b ends
    refine ⟨fun h => ?_, fun h => ?_⟩
    · exact (exec_pwrWatchCtlWrite w s).trans (run_gated s _ w hp (Dev.writeWatchCtl_ends h))
    · exact (exec_pwrWatchCtlWrite w s).trans (run_gated s _ w hp (Dev.writeWatchCtl_keeps h))
  case budget =>
    intro w s hp b lo hi
    refine ⟨fun hmin hmax hmarks => ?_, fun h => ?_⟩
    · exact (exec_pwrPondCfgWrite w s).trans (run_gated s _ w hp (Dev.writePondCfg_taken rfl rfl rfl hmin hmax hmarks))
    · exact (exec_pwrPondCfgWrite w s).trans (run_gated s _ w hp (Dev.writePondCfg_refused rfl rfl rfl h))

end Sys2Proof.Machine
end

section
/-! What the host rings share: fabric answers (R270, R502), and a destroy under way (R271). -/

namespace Sys2Proof

theorem Rsp.ok_eq_true {c : Rsp} : c.ok = true ↔ c = .done := beq_iff_eq

theorem Rsp.ok_eq_false {c : Rsp} : c.ok = false ↔ c ≠ .done := beq_eq_false_iff_ne

namespace Machine

/-! An answer to an outstanding request (R502, R504). -/

section
variable {d : Dev} {k : FabKind} {r : FabReq}

theorem Dev.answer_outstanding (h : d.outstanding k = some r) (c : Rsp) (g : FabReq → Dev → Dev) :
    d.answer k c g = g r (d.answered k r c) := by
  rw [Dev.answer, h]
  rfl

/-- A row that is an answer to an outstanding request of its kind. -/
theorem run_answer {s : State} {c : Rsp} {g : FabReq → Dev → Dev} {e : Dev} (h : s.dev.outstanding k = some r)
    (he : g r (s.dev.answered k r c) = e) : s.run (fun d => d.answer k c g) = .next (s.after e) :=
  run_after s _ _ ((Dev.answer_outstanding h c g).trans he)

end

/-! A destroy under way (R271). -/

section
variable {d : Dev} {j : QctxJob}

/-- A write of the header of the queue that is destroyed is not answered. -/
def Dev.headerOut (d : Dev) (j : QctxJob) : Bool := d.fab.out.any (fun r => r.kind == .ringHeader j.header)

/-- The queue that is destroyed is drained. -/
def Dev.jobDrained (d : Dev) (j : QctxJob) : Bool := if j.wq then d.wqDrained j.q else d.cqDrained j.q

/-- The device once the waiting requests to the memory of the queue are withdrawn. -/
def Dev.jobWithdrawn (d : Dev) (j : QctxJob) : Dev :=
  { d with fab := { d.fab with queue := d.fab.queue.filter (fun r =>
    r.kind != .ringHeader j.header && (j.wq || r.kind != .hostIdx j.q)) } }

theorem Dev.destroyTry_eq (hj : d.hrg.destroy = some j) : d.destroyTry =
    if j.reads ≠ 0 ∨ d.headerOut j = true then d
    else if j.ok = false ∨ d.jobDrained j = false then d.destroyEnd 2
    else (if j.wq then (d.jobWithdrawn j).wqFree j.q else (d.jobWithdrawn j).cqFree j.q).destroyEnd 0 := by
  rw [Dev.destroyTry, hj]
  exact if_congr (by simp [Dev.headerOut]) rfl (if_congr (by simp [Dev.jobDrained]) rfl rfl)

theorem Dev.destroyTry_waits (hj : d.hrg.destroy = some j) (h : j.reads ≠ 0 ∨ d.headerOut j = true) : d.destroyTry = d :=
  (Dev.destroyTry_eq hj).trans (if_pos h)

theorem Dev.destroyTry_undrained (hj : d.hrg.destroy = some j) (hr : j.reads = 0) (hh : d.headerOut j = false)
    (h : j.ok = false ∨ d.jobDrained j = false) : d.destroyTry = d.destroyEnd 2 :=
  (Dev.destroyTry_eq hj).trans ((if_neg (by simp [hr, hh])).trans (if_pos h))

theorem Dev.destroyTry_drained (hj : d.hrg.destroy = some j) (hr : j.reads = 0) (hh : d.headerOut j = false) (hok : j.ok = true)
    (h : d.jobDrained j = true) :
    d.destroyTry = (if j.wq then (d.jobWithdrawn j).wqFree j.q else (d.jobWithdrawn j).cqFree j.q).destroyEnd 0 :=
  (Dev.destroyTry_eq hj).trans ((if_neg (by simp [hr, hh])).trans (if_neg (by simp [hok, h])))

theorem Dev.destroyRead_due (hj : d.hrg.destroy = some j) (hcq : j.wq = false) (hr : j.reads ≠ 0) (ok : Bool) :
    d.destroyRead j.q ok =
      ({ d with hrg := { d.hrg with destroy := some { j with reads := j.reads - 1, ok := ok } } } : Dev).destroyTry := by
  rw [Dev.destroyRead, hj]
  exact if_neg (by simp [hcq, hr])

end

end Machine
end Sys2Proof
end

section
/-! Doorbells, function resets and the creates and destroys of queues (R251, R252, R265, R269, R271, R272, R508, R532). -/

namespace Sys2Proof.Machine

/-! The index checks of a doorbell (R252). -/

section
variable {size head tail idx : Nat}

theorem dbIndex_stale (h : size < idxSub tail idx) : dbIndex size head tail idx true = 4 := by simp [dbIndex, h]

theorem dbIndex_dropped (h : idxSub tail idx ≤ size) : dbIndex size head tail idx true = 0 := by simp [dbIndex, h]

theorem dbIndex_beyond (h : size < idxSub idx head) : dbIndex size head tail idx false = 2 := by simp [dbIndex, h]

theorem dbIndex_behind (h : idxSub idx head ≤ size) (ht : idxSub idx head < idxSub tail head) :
    dbIndex size head tail idx false = 3 := by
  simp [dbIndex, Nat.not_lt.2 h, ht]

theorem dbIndex_moves (h : idxSub idx head ≤ size) (ht : idxSub tail head ≤ idxSub idx head) :
    dbIndex size head tail idx false = 0 := by
  simp [dbIndex, Nat.not_lt.2 h, Nat.not_lt.2 ht]

end

/-! A work-queue doorbell (R252, R255). -/

section
variable {d : Dev} {f q : Nat} {w : RegWr}

theorem Dev.dbWq_narrow (hr : d.resetting f = false) (hm : w.mask ≠ 255) :
    Dev.dbWq f w d = d.dbBad f (w.fld F.HRG_DB_WQ_QNUM) 5 false := by
  rw [Dev.dbWq, if_neg (by simp [hr]), if_pos (bne_iff_ne.2 hm)]

theorem Dev.dbWq_foreign (hr : d.resetting f = false) (hm : w.mask = 255) (hq : w.fld F.HRG_DB_WQ_QNUM = q)
    (h : d.wqReady q = false ∨ d.f F.HRG_WQ_STAT_FUNC q ≠ f) : Dev.dbWq f w d = d.dbBad f q 1 false := by
  subst hq
  rw [Dev.dbWq, if_neg (by simp [hr]), if_neg (by simp [hm]), if_pos (by simpa using h)]

/-- The doorbell is a full one, of a READY queue of its function that is not in reset. -/
structure Dev.wqRung (d : Dev) (f q : Nat) (w : RegWr) : Prop where
  serves : d.resetting f = false
  full : w.mask = 255
  named : w.fld F.HRG_DB_WQ_QNUM = q
  ready : d.wqReady q = true
  mine : d.f F.HRG_WQ_STAT_FUNC q = f

/-- The next entry of the queue is neither cached nor on its way. -/
def Dev.wqBare (d : Dev) (q : Nat) : Bool := match d.hrg.wq.look q with | some x => x.cache.isEmpty && x.fetch.isNone | none => false

theorem Dev.wqBare_iff {x : WqCtx} (hx : d.hrg.wq.look q = some x) : d.wqBare q = true ↔ x.cache = [] ∧ x.fetch = none := by
  simp [Dev.wqBare, hx]

theorem Dev.wqRung.dbWq_eq (h : d.wqRung f q w) : Dev.dbWq f w d =
    let i := w.fld F.HRG_DB_WQ_IDX
    let inv := w.fld F.HRG_DB_WQ_INV == 1
    let why := dbIndex (d.wqSize q) (d.wqHead q) (d.wqTail q) i inv
    if why != 0 then d.dbBad f q why false
    else if inv then d.wqInvalidate q i
    else
      let d := if d.wqBare q && i != d.wqTail q then d.pmc 15 1 { func := some f } else d
      (d.setI F.HRG_WQ_STAT_TAIL q i).wqPump q := by
  obtain ⟨hr, hm, rfl, hready, hf⟩ := h
  rw [Dev.dbWq, if_neg (by simp [hr]), if_neg (by simp [hm]), if_neg (by simp [hready, hf])]
  rfl

theorem Dev.wqRung.refused {why : Nat} (h : d.wqRung f q w)
    (hw : dbIndex (d.wqSize q) (d.wqHead q) (d.wqTail q) (w.fld F.HRG_DB_WQ_IDX) (w.fld F.HRG_DB_WQ_INV == 1) = why) (hne : why ≠ 0) :
    Dev.dbWq f w d = d.dbBad f q why false := by
  subst hw
  exact h.dbWq_eq.trans (if_pos (bne_iff_ne.2 hne))

theorem Dev.wqRung.dropsEntries (h : d.wqRung f q w) (hinv : w.fld F.HRG_DB_WQ_INV = 1)
    (hi : idxSub (d.wqTail q) (w.fld F.HRG_DB_WQ_IDX) ≤ d.wqSize q) :
    Dev.dbWq f w d = d.wqInvalidate q (w.fld F.HRG_DB_WQ_IDX) := by
  simp [h.dbWq_eq, hinv, dbIndex_dropped hi]

/-- An entry of a queue whose next one is neither cached nor on its way is an event of the performance counters (R471). -/
theorem Dev.wqRung.movesTail {x : WqCtx} {i : Nat} (h : d.wqRung f q w) (hinv : w.fld F.HRG_DB_WQ_INV ≠ 1)
    (hidx : w.fld F.HRG_DB_WQ_IDX = i) (hi : idxSub i (d.wqHead q) ≤ d.wqSize q)
    (ht : idxSub (d.wqTail q) (d.wqHead q) ≤ idxSub i (d.wqHead q)) (hx : d.hrg.wq.look q = some x) :
    let e := if x.cache = [] ∧ x.fetch = none ∧ i ≠ d.wqTail q then d.pmc 15 1 { func := some f } else d
    Dev.dbWq f w d = (e.setI F.HRG_WQ_STAT_TAIL q i).wqPump q := by
  have plain : (w.fld F.HRG_DB_WQ_INV == 1) = false := beq_eq_false_iff_ne.2 hinv
  simp [h.dbWq_eq, plain, hidx, dbIndex_moves hi ht, Dev.wqBare_iff hx, and_assoc]

end

/-! A completion-queue doorbell (R265, R269). -/

section
variable {d : Dev} {f q : Nat} {w : RegWr}

theorem Dev.dbCq_narrow (hr : d.resetting f = false) (hm : w.mask ≠ 255) :
    Dev.dbCq f w d = d.dbBad f (w.fld F.HRG_DB_CQ_QNUM) 5 false := by
  rw [Dev.dbCq, if_neg (by simp [hr]), if_pos (bne_iff_ne.2 hm)]

theorem Dev.dbCq_foreign (hr : d.resetting f = false) (hm : w.mask = 255) (hq : w.fld F.HRG_DB_CQ_QNUM = q)
    (h : d.cqReady q = false ∨ d.f F.HRG_CQ_STAT_FUNC q ≠ f) : Dev.dbCq f w d = d.dbBad f q 1 false := by
  subst hq
  rw [Dev.dbCq, if_neg (by simp [hr]), if_neg (by simp [hm]), if_pos (by simpa using h)]

/-- The device in which the queue is armed, its NOTIFY not yet judged (R265). -/
def Dev.cqArmed (d : Dev) (q : Nat) : Dev := ((d.setI F.HRG_CQ_STAT_NOTIFY q 0).setI F.HRG_CQ_STAT_ARMED q 1).level q false

theorem Dev.dbCq_mine (hr : d.resetting f = false) (hm : w.mask = 255) (hq : w.fld F.HRG_DB_CQ_QNUM = q)
    (hready : d.cqReady q = true) (hf : d.f F.HRG_CQ_STAT_FUNC q = f) : Dev.dbCq f w d =
      let a := (d.hostReread q).cqArmed q
      if w.fld F.HRG_DB_CQ_ARM == 0 then d.hostReread q
      else match a.hrg.cq.look q with
        | some x => a.cqPut q { x with arming := a.rereads q }
        | none => a := by
  subst hq
  rw [Dev.dbCq, if_neg (by simp [hr]), if_neg (by simp [hm]), if_neg (by simp [hready, hf])]
  rfl

end

/-! The admin doorbells (R532). -/

section
variable {d : Dev} {f i : Nat} {w : RegWr} {a : AdminPair}

theorem Dev.dbAwq_notZero (hr : d.resetting f = false) (hm : w.mask = 255) (hq : w.fld F.HRG_DB_AWQ_QNUM ≠ 0) :
    Dev.dbAwq f w d = d.dbBad f (w.fld F.HRG_DB_AWQ_QNUM) 1 true := by
  simp [Dev.dbAwq, hr, hm, hq]

theorem Dev.dbAwq_movesTail (hr : d.resetting f = false) (hm : w.mask = 255) (ha : d.hrg.admin.look f = some a)
    (hq : w.fld F.HRG_DB_AWQ_QNUM = 0) (hinv : w.fld F.HRG_DB_AWQ_INV ≠ 1) (hidx : w.fld F.HRG_DB_AWQ_IDX = i)
    (hi : idxSub i a.head ≤ 2 ^ a.wqLog) (ht : idxSub a.tail a.head ≤ idxSub i a.head) :
    Dev.dbAwq f w d = d.adminPut f { a with tail := i } := by
  have plain : (w.fld F.HRG_DB_AWQ_INV == 1) = false := beq_eq_false_iff_ne.2 hinv
  simp [Dev.dbAwq, hr, hm, hq, ha, plain, hidx, dbIndex_moves hi ht]

theorem Dev.dbAcq_pair (hr : d.resetting f = false) (hm : w.mask = 255) (ha : d.hrg.admin.look f = some a) :
    Dev.dbAcq f w d = if w.fld F.HRG_DB_ACQ_ARM = 0 then d else
      ((d.adminPut f { a with armed := true, notify := false }).level (1024 + f) false).request
        { kind := .hostIdx (2048 + f), write := false, mstr := 4, func := f, addr := a.cqHdr + 8, len := 8, data := [] } := by
  rw [Dev.dbAcq, if_neg (by simp [hr]), if_neg (by simp [hm]), ha]
  exact if_congr beq_iff_eq rfl rfl

end

/-! The rows of a doorbell page (R414, R426, R508). -/

section
variable {f n : Nat} {w : RegWr} {s : State} {e : Dev}

/-- A doorbell of a powered engine is answered and takes effect. -/
theorem exec_doorbellRow_powered {c : Instr} (hc : exec c s = s.run (Dev.doorbellRow f n w)) (hf : f < 4)
    (hr : s.dev.reach w.agent = true) (hd : s.dev.denied w.agent = false) (hon : (s.dev.dbRung w.agent f n).on 27 = true)
    (he : (s.dev.dbRung w.agent f n).doorbell f n w = e) : exec c s = .next (s.after e) := by
  refine hc.trans (run_after s _ _ ?_)
  rw [Dev.doorbellRow, if_neg (by simp [hr, hf]), if_neg (by simp [not_asleep hd]), if_neg (by simp [hd]), ← he]
  exact if_pos hon

@[simp] theorem Dev.dbRung_hrg (d : Dev) (a : Agent) (f n : Nat) : (d.dbRung a f n).hrg = d.hrg := by simp [Dev.dbRung]

/-! Function resets (R272). -/

theorem exec_hrgFuncRst_powered (hf : f < 4) (hd : s.dev.denied w.agent = false) (hon : s.dev.on 27 = true)
    (he : Dev.writeFuncRst f w (s.dev.dbRung w.agent f 4) = e) : exec (.hrgFuncRst f w) s = .next (s.after e) := by
  refine (exec_hrgFuncRst f w s).trans (run_after s _ _ ((if_neg (Nat.not_le.2 hf)).trans ?_))
  rw [Dev.funcRstRow, if_neg (by simp [hd, hon]), he]

theorem Dev.writeFuncRst_resets {d : Dev} (hr : d.resetting f = false) (hm : w.mask = 255) (hgo : w.fld F.HRG_FUNC_RST_GO = 1) :
    Dev.writeFuncRst f w d = d.funcReset f := by
  simp [Dev.writeFuncRst, hr, hm, hgo]

theorem Dev.writeFuncRst_narrow {d : Dev} (hr : d.resetting f = false) (hm : w.mask ≠ 255) :
    Dev.writeFuncRst f w d = d.dbBad f 0 5 false := by
  rw [Dev.writeFuncRst, if_neg (by simp [hr]), if_pos (bne_iff_ne.2 hm)]

end

/-! Creates and destroys (R271). -/

section
variable {d : Dev} {q f lg cq lim e : Nat} {rx : Bool}

theorem Dev.createWq_refused (he : d.createWqErr q f lg cq rx = e) (hne : e ≠ 0) :
    d.createWq q f lg cq lim rx = d.set F.HRG_QCTX_CMD_ERR e := by
  subst he
  exact if_pos (bne_iff_ne.2 hne)

theorem Dev.createWq_made (he : d.createWqErr q f lg cq rx = 0) : d.createWq q f lg cq lim rx =
    let e := ((d.setI F.HRG_WQ_STAT_STATE q 1).setI F.HRG_WQ_STAT_FUNC q f).setB F.HRG_WQ_STAT_KIND rx q
    let e := (((e.setI F.HRG_WQ_STAT_HEAD q 0).setI F.HRG_WQ_STAT_TAIL q 0).setI F.HRG_WQ_STAT_CQ q cq).setI F.HRG_WQ_STAT_LOG2SIZE q lg
    (e.wqPut q { base := d.f F.HRG_QCTX_BASE_BASE, hdr := d.f F.HRG_QCTX_HDR_HDR, qlim := lim }).set F.HRG_QCTX_CMD_ERR 0 :=
  if_neg (by simp [he])

theorem Dev.createCq_refused (he : d.createCqErr q lg = e) (hne : e ≠ 0) : d.createCq q f lg = d.set F.HRG_QCTX_CMD_ERR e := by
  subst he
  exact if_pos (bne_iff_ne.2 hne)

theorem Dev.createCq_made (he : d.createCqErr q lg = 0) : d.createCq q f lg =
    let e := (d.setI F.HRG_CQ_STAT_STATE q 1).setI F.HRG_CQ_STAT_FUNC q f
    let e := ((e.setI F.HRG_CQ_STAT_PI q 0).setI F.HRG_CQ_STAT_HOST_IDX q 0).setI F.HRG_CQ_STAT_LOG2SIZE q lg
    let e := ((e.setI F.HRG_CQ_STAT_ARMED q 0).setI F.HRG_CQ_STAT_NOTIFY q 0).level q false
    (e.cqPut q { base := d.f F.HRG_QCTX_BASE_BASE, hdr := d.f F.HRG_QCTX_HDR_HDR }).set F.HRG_QCTX_CMD_ERR 0 :=
  if_neg (by simp [he])

variable (hw : d.f F.ID_INTEG_FAB_WIRED ≠ 0)
include hw

theorem Dev.destroyWq_wired : d.destroyWq q =
    if d.f F.HRG_WQ_STAT_STATE q = 0 then d.set F.HRG_QCTX_CMD_ERR 1
    else if d.wqDrained q = false then d.set F.HRG_QCTX_CMD_ERR 2
    else d.destroyBegin { wq := true, q := q, reads := 0 } := by
  rw [Dev.destroyWq, if_neg (by simp [Dev.b, hw])]
  exact if_congr beq_iff_eq rfl (if_congr (by simp) rfl rfl)

theorem Dev.destroyCq_wired : d.destroyCq q =
    if d.f F.HRG_CQ_STAT_STATE q = 0 then d.set F.HRG_QCTX_CMD_ERR 1
    else if d.feeders q ≠ [] then d.set F.HRG_QCTX_CMD_ERR 7
    else (d.hostReread q).destroyBegin { wq := false, q := q, reads := (d.hostReread q).rereads q } := by
  rw [Dev.destroyCq, if_neg (by simp [Dev.b, hw])]
  exact if_congr beq_iff_eq rfl (if_congr (by simp) rfl rfl)

end

/-- The device in which the destroy j is under way. -/
def Dev.destroying (d : Dev) (j : QctxJob) : Dev := ({ d with hrg := { d.hrg with destroy := some j } } : Dev).set F.HRG_QCTX_CMD_BUSY 1

section
variable {d : Dev} {j : QctxJob}

theorem Dev.destroying_destroy : (d.destroying j).hrg.destroy = some j := by simp [Dev.destroying]

theorem Dev.headerOut_destroying : (d.destroying j).headerOut j = d.headerOut j := by simp [Dev.destroying, Dev.headerOut]

theorem Dev.destroyBegin_eq : d.destroyBegin j = (d.destroying j).destroyTry := rfl

theorem Dev.destroyBegin_waits (h : j.reads ≠ 0 ∨ d.headerOut j = true) : d.destroyBegin j = d.destroying j :=
  Dev.destroyBegin_eq.trans <| Dev.destroyTry_waits Dev.destroying_destroy (by rwa [Dev.headerOut_destroying])

/-- A drained queue with nothing outstanding to its memory is free at once. -/
theorem Dev.destroyBegin_frees (hr : j.reads = 0) (hh : d.headerOut j = false) (hok : j.ok = true)
    (hd : (d.destroying j).jobDrained j = true) :
    let e := (d.destroying j).jobWithdrawn j
    d.destroyBegin j = (if j.wq then e.wqFree j.q else e.cqFree j.q).destroyEnd 0 :=
  Dev.destroyBegin_eq.trans <| Dev.destroyTry_drained Dev.destroying_destroy hr (by rwa [Dev.headerOut_destroying]) hok hd

end

/-! The rows of HRG_QCTX_CMD (R271). -/

section
variable {d : Dev} {w : RegWr} {op : Nat}

theorem Dev.writeQctx_busy (ha : w.agent.isHost = false) (hb : d.f F.HRG_QCTX_CMD_BUSY ≠ 0) :
    Dev.writeQctx w d = d.set F.HRG_QCTX_CMD_ERR 9 := by
  rw [Dev.writeQctx, if_neg (by simp [ha]), if_pos (Dev.b_eq_true.2 hb)]
  rfl

/-- The operation `op` of the write w, on an engine that is not busy. -/
def Dev.qctxDo (op : Nat) (w : RegWr) (d : Dev) : Dev :=
  let q := w.fld F.HRG_QCTX_CMD_QNUM
  match op with
  | 1 => d.createWq q (w.fld F.HRG_QCTX_CMD_FUNC) (w.fld F.HRG_QCTX_CMD_LOG2SIZE) (w.fld F.HRG_QCTX_CMD_CQ)
      (w.fld F.HRG_QCTX_CMD_QLIM) (w.fld F.HRG_QCTX_CMD_KIND == 1)
  | 2 => d.createCq q (w.fld F.HRG_QCTX_CMD_FUNC) (w.fld F.HRG_QCTX_CMD_LOG2SIZE)
  | 3 => d.destroyWq q
  | 4 => d.destroyCq q
  | _ => d

theorem Dev.writeQctx_free (ha : w.agent.isHost = false) (hb : d.f F.HRG_QCTX_CMD_BUSY = 0) (hop : w.fld F.HRG_QCTX_CMD_OP = op) :
    Dev.writeQctx w d = Dev.qctxDo op w d := by
  rw [Dev.writeQctx, if_neg (by simp [ha]), if_neg (by simp [Dev.b_eq_false.2 hb]), hop]
  rfl

/-- `c` is the row of HRG_QCTX_CMD with the operation `op`. -/
def qctxRowOf (op : Nat) (w : RegWr) (c : Instr) : Prop :=
  (op = 1 ∧ c = .qctxCreateWq w) ∨ (op = 2 ∧ c = .qctxCreateCq w) ∨ (op = 3 ∧ c = .qctxDestroyWq w) ∨ (op = 4 ∧ c = .qctxDestroyCq w)

variable {c : Instr} {s : State} {e : Dev}

theorem exec_qctxRow (s : State) (hc : qctxRowOf op w c) : exec c s = s.run (Dev.qctxRow op w) := by
  obtain ⟨rfl, rfl⟩ | ⟨rfl, rfl⟩ | ⟨rfl, rfl⟩ | ⟨rfl, rfl⟩ := hc
  · exact exec_qctxCreateWq w s
  · exact exec_qctxCreateCq w s
  · exact exec_qctxDestroyWq w s
  · exact exec_qctxDestroyCq w s

theorem exec_qctxRow_passes (hc : qctxRowOf op w c) (hop : w.fld F.HRG_QCTX_CMD_OP = op) (hp : s.dev.passes w.agent 0x100080)
    (he : Dev.writeQctx w s.dev = e) : exec c s = .next (s.after ((e.respond .done).accessed s.dev w.agent 0x100080)) := by
  refine (exec_qctxRow s hc).trans (run_after s _ _ ?_)
  rw [Dev.qctxRow, if_neg (by simp [hop]), gated_passes _ _ _ _ hp, he]

end

/-- Settles O46: a doorbell by the first check it fails, a function reset by its cause, a create or destroy by its first error. That a
malformed write of HRG_FUNC_RST records QNUM 0 is log entry 19; that a destroy waits for the header writes already issued, BUSY being 1, and
that headers not yet issued are withdrawn, is log entry 37. -/
theorem doorbellsAndQueueCommands : Obligations.DoorbellsAndQueueCommands := by
  refine ⟨?workDoorbell, ?completionDoorbell, ?adminDoorbells, fun _ _ _ _ _ => rfl, ?resetWrite, ?resetPin, ?resetDone, ?queueCommands⟩
  case workDoorbell =>
    intro f w s hf hreach hden hon d hon' hr q i
    have row {e : Dev} (he : Dev.dbWq f w d = e) : exec (.hrgDbWq f w) s = .next (s.after e) :=
      exec_doorbellRow_powered (exec_hrgDbWq f w s) hf hreach hden hon' ((if_neg (Nat.not_le.2 hf)).trans he)
    refine ⟨fun hm => row (Dev.dbWq_narrow hr hm), fun hm h => row (Dev.dbWq_foreign hr hm rfl h),
      fun hm hready hmine hinv => ?drops, fun hm hready hmine hinv => ?moves⟩
    case drops =>
      have rung : d.wqRung f q w := ⟨hr, hm, rfl, hready, hmine⟩
      refine ⟨fun h => row (rung.refused ?_ (by decide)), fun h => row (rung.dropsEntries hinv h)⟩
      rw [hinv]
      exact dbIndex_stale h
    case moves =>
      intro ahead
      have rung : d.wqRung f q w := ⟨hr, hm, rfl, hready, hmine⟩
      have plain : (w.fld F.HRG_DB_WQ_INV == 1) = false := beq_eq_false_iff_ne.2 hinv
      refine ⟨fun h => row (rung.refused ?_ (by decide)), fun h hlt => row (rung.refused ?_ (by decide)),
        fun x h hge hx => row (rung.movesTail hinv rfl h hge hx)⟩
      · rw [plain]
        exact dbIndex_beyond h
      · rw [plain]
        exact dbIndex_behind h hlt
  case completionDoorbell =>
    intro f w s hf hreach hden hon d hon' hr q
    have row {e : Dev} (he : Dev.dbCq f w d = e) : exec (.hrgDbCq f w) s = .next (s.after e) :=
      exec_doorbellRow_powered (exec_hrgDbCq f w s) hf hreach hden hon' ((if_neg (Nat.not_le.2 hf)).trans he)
    refine ⟨fun hm => row (Dev.dbCq_narrow hr hm), fun hm h => row (Dev.dbCq_foreign hr hm rfl h), fun hm hready hmine => ?_⟩
    intro e a
    have mine := Dev.dbCq_mine (q := q) hr hm rfl hready hmine
    refine ⟨fun h => row (mine.trans (if_pos (beq_iff_eq.2 h))), fun x h hx => row (mine.trans ((if_neg (by simpa using h)).trans ?_))⟩
    have hx : ((d.hostReread q).cqArmed q).hrg.cq.look q = some x := hx
    rw [hx]
    rfl
  case adminDoorbells =>
    intro f w a s hf hreach hden hon d g hon' hr gon gr hm ha i
    have work {e : Dev} (he : Dev.dbAwq f w d = e) : exec (.hrgDbAwq f w) s = .next (s.after e) :=
      exec_doorbellRow_powered (exec_hrgDbAwq f w s) hf hreach hden hon' ((if_neg (Nat.not_le.2 hf)).trans he)
    have completion {e : Dev} (he : Dev.dbAcq f w g = e) : exec (.hrgDbAcq f w) s = .next (s.after e) :=
      exec_doorbellRow_powered (exec_hrgDbAcq f w s) hf hreach hden gon ((if_neg (Nat.not_le.2 hf)).trans he)
    have had : d.hrg.admin.look f = some a := (congrArg (·.admin.look f) (Dev.dbRung_hrg s.dev w.agent f 2)).trans ha
    have hag : g.hrg.admin.look f = some a := (congrArg (·.admin.look f) (Dev.dbRung_hrg s.dev w.agent f 3)).trans ha
    have pair := Dev.dbAcq_pair gr hm hag
    exact ⟨fun h => work (Dev.dbAwq_notZero hr hm h), fun h hinv hi ht => work (Dev.dbAwq_movesTail hr hm had h hinv rfl hi ht),
      fun h => completion (pair.trans (if_pos h)), fun h => completion (pair.trans (if_neg h))⟩
  case resetWrite =>
    intro f w s hf hreach hden hon d
    exact ⟨fun hm hgo hr => exec_hrgFuncRst_powered hf hden hon (Dev.writeFuncRst_resets hr hm hgo),
      fun hm hr => exec_hrgFuncRst_powered hf hden hon (Dev.writeFuncRst_narrow hr hm)⟩
  case resetPin => exact fun f s hf => (exec_funcrstN f s).trans (run_after s _ _ (if_neg (Nat.not_le.2 hf)))
  case resetDone =>
    intro f s hf hr
    refine (exec_funcResetDone f s).trans (run_after s _ _ ((if_neg (Nat.not_le.2 hf)).trans ?_))
    rw [Dev.ringsResetDone, if_neg (by simp [hr])]
  case queueCommands =>
    intro w s hp ha fin q f lg cq
    refine ⟨fun hb c hc => exec_qctxRow_passes (op := w.fld F.HRG_QCTX_CMD_OP) hc rfl hp (Dev.writeQctx_busy ha hb), fun hb => ?_⟩
    have row {op : Nat} {c : Instr} {e : Dev} (hc : qctxRowOf op w c) (hop : w.fld F.HRG_QCTX_CMD_OP = op)
        (he : Dev.qctxDo op w s.dev = e) : exec c s = .next (fin e) :=
      exec_qctxRow_passes hc hop hp ((Dev.writeQctx_free ha hb hop).trans he)
    refine ⟨fun hop => ?createWq, fun hop => ?createCq, fun hop hw => ?destroyWq, fun hop hw => ?destroyCq⟩
    case createWq =>
      have row {e : Dev} := row (e := e) (.inl ⟨rfl, rfl⟩) hop
      exact ⟨fun e he hne => row (Dev.createWq_refused he hne), fun he => row (Dev.createWq_made he)⟩
    case createCq =>
      have row {e : Dev} := row (e := e) (.inr (.inl ⟨rfl, rfl⟩)) hop
      exact ⟨fun e he hne => row (Dev.createCq_refused he hne), fun he => row (Dev.createCq_made he)⟩
    case destroyWq =>
      have row {e : Dev} := row (e := e) (.inr (.inr (.inl ⟨rfl, rfl⟩))) hop
      have wired := Dev.destroyWq_wired (q := q) hw
      refine ⟨fun h => row (wired.trans (if_pos h)), fun h hd => row (wired.trans ((if_neg h).trans (if_pos hd))), fun h hd => ?_⟩
      intro j e
      have begins := wired.trans ((if_neg h).trans (if_neg (by simp [hd])))
      exact ⟨fun hh => row (begins.trans (Dev.destroyBegin_waits (.inr hh))),
        fun hh hde => row (begins.trans (Dev.destroyBegin_frees rfl hh rfl hde))⟩
    case destroyCq =>
      have row {e : Dev} := row (e := e) (.inr (.inr (.inr ⟨rfl, rfl⟩))) hop
      have wired := Dev.destroyCq_wired (q := q) hw
      refine ⟨fun h => row (wired.trans (if_pos h)), fun h hd => row (wired.trans ((if_neg h).trans (if_pos hd))), fun h hd => ?_⟩
      intro d j hreads
      exact row (wired.trans ((if_neg h).trans ((if_neg (by simp [hd])).trans (Dev.destroyBegin_waits (.inl hreads)))))

end Sys2Proof.Machine
end

section
/-! Ring headers, HOST_IDX, and receive (R248, R249, R261, R263 to R265, R269 to R271). -/

namespace Sys2Proof.Machine

/-! Ring headers (R248, R270). -/

section
variable {d : Dev} {q n : Nat}

theorem Dev.headerWrite_wq {x : WqCtx} (hq : q < 1024) (h27 : d.on 27 = true) (h31 : d.on 31 = true)
    (ho : d.outstanding (.ringHeader q) = none) (hx : d.hrg.wq.look q = some x) (hready : d.wqReady q = true)
    (hi : d.wqHead q ≠ x.hdrIdx) :
    let i := d.wqHead q
    d.headerWrite q = (d.wqPut q { x with hdrIdx := i }).request
      (ringReq (.ringHeader q) true (d.f F.HRG_WQ_STAT_FUNC q) x.hdr 8 (leBytes 8 i)) := by
  intro i
  rw [Dev.headerWrite, if_neg (by simp [h27, h31, ho]), if_neg (by omega), if_pos hq, hx]
  exact if_neg (by simp [hi, hready])

theorem Dev.headerWrite_cq {x : CqCtx} (hq : q < 1024) (h27 : d.on 27 = true) (h31 : d.on 31 = true)
    (ho : d.outstanding (.ringHeader (q + 1024)) = none) (hx : d.hrg.cq.look q = some x) (hready : d.cqReady q = true)
    (hi : d.f F.HRG_CQ_STAT_PI q ≠ x.hdrIdx) :
    let i := d.f F.HRG_CQ_STAT_PI q
    d.headerWrite (q + 1024) = (d.cqPut q { x with hdrIdx := i }).request
      (ringReq (.ringHeader (q + 1024)) true (d.f F.HRG_CQ_STAT_FUNC q) x.hdr 8 (leBytes 8 i)) := by
  intro i
  rw [Dev.headerWrite, if_neg (by simp [h27, h31, ho]), if_neg (by omega), if_neg (by omega)]
  simp only [Nat.add_sub_cancel, hx]
  exact if_neg (by simp [hi, hready])

/-- The queue whose header write was answered other than DONE stops. -/
def Dev.headerFault (d : Dev) (n : Nat) : Dev :=
  if n < 1024 then d.ringFault.wqStop n else if n < 2048 then d.ringFault.cqStop (n - 1024) else d.ringFault

theorem exec_ringHeaderWriteDone_outstanding {r : FabReq} {s : State} (h : s.dev.outstanding (.ringHeader n) = some r) (c : Rsp) :
    let d := s.dev.answered (.ringHeader n) r c
    exec (.ringHeaderWriteDone n c) s = .next (s.after (if c.ok then d else d.headerFault n).destroyTry) :=
  (exec_ringHeaderWriteDone n c s).trans (run_answer h rfl)

theorem Dev.wqStop_ready {x : WqCtx} (hr : d.wqReady q = true) (hx : d.hrg.wq.look q = some x) :
    let e := ((d.setI F.HRG_WQ_STAT_STATE q 2).raise 1032).wqPut q { x with cache := [], past := [] }
    d.wqStop q = e.rxGiveUp (e.f F.HRG_WQ_STAT_CQ q) q := by
  intro e
  have hx : ((d.setI F.HRG_WQ_STAT_STATE q 2).raise 1032).hrg.wq.look q = some x := by simpa using hx
  rw [Dev.wqStop, if_neg (by simp [hr])]
  dsimp only
  rw [hx]
  rfl

theorem Dev.cqStop_ready (hr : d.cqReady q = true) : d.cqStop q = (d.setI F.HRG_CQ_STAT_STATE q 2).raise 1032 :=
  if_neg (by simp [hr])

end

/-! HOST_IDX (R265, R269). -/

section
variable {d : Dev} {q : Nat} {x : CqCtx}

theorem Dev.hostReread_eq (hx : d.hrg.cq.look q = some x) :
    d.hostReread q = d.request (ringReq (.hostIdx q) false (d.f F.HRG_CQ_STAT_FUNC q) (x.hdr + 8) 8 []) := by
  rw [Dev.hostReread, hx]

theorem Dev.reread_due (h27 : d.on 27 = true) (h31 : d.on 31 = true) (hx : d.hrg.cq.look q = some x)
    (h : x.sres ≠ 0 ∨ x.stored ≠ [] ∨ d.cqSize q ≤ idxSub (d.f F.HRG_CQ_STAT_PI q) (d.f F.HRG_CQ_STAT_HOST_IDX q)) :
    d.reread q = d.hostReread q := by
  rw [Dev.reread, hx]
  refine if_pos ?_
  simp only [h27, h31, Bool.true_and, Bool.or_eq_true, decide_eq_true_eq, bne_iff_ne, ge_iff_le, Bool.not_eq_true',
    List.isEmpty_eq_false_iff]
  tauto

section
variable {v : Word} {c : Rsp}

theorem hostIdxOk_iff {size pi old h : Nat} :
    hostIdxOk size pi old h = true ↔ idxSub pi h ≤ size ∧ idxSub pi h ≤ idxSub pi old := by
  simp [hostIdxOk]

theorem Dev.hostIdxTake_accepted (hc : c = .done) (hs : idxSub (d.f F.HRG_CQ_STAT_PI q) (v.toNat % 2 ^ 18) ≤ d.cqSize q)
    (ho : idxSub (d.f F.HRG_CQ_STAT_PI q) (v.toNat % 2 ^ 18) ≤ idxSub (d.f F.HRG_CQ_STAT_PI q) (d.f F.HRG_CQ_STAT_HOST_IDX q)) :
    d.hostIdxTake q v c = d.setI F.HRG_CQ_STAT_HOST_IDX q (v.toNat % 2 ^ 18) := by
  rw [Dev.hostIdxTake, if_neg (by simp [Rsp.ok_eq_true.2 hc])]
  exact if_pos (hostIdxOk_iff.2 ⟨hs, ho⟩)

theorem Dev.hostIdxTake_refused (hc : c = .done) (h : d.cqSize q < idxSub (d.f F.HRG_CQ_STAT_PI q) (v.toNat % 2 ^ 18) ∨
      idxSub (d.f F.HRG_CQ_STAT_PI q) (d.f F.HRG_CQ_STAT_HOST_IDX q) < idxSub (d.f F.HRG_CQ_STAT_PI q) (v.toNat % 2 ^ 18)) :
    d.hostIdxTake q v c = d.raise 1031 := by
  rw [Dev.hostIdxTake, if_neg (by simp [Rsp.ok_eq_true.2 hc])]
  exact if_neg (by rw [hostIdxOk_iff]; omega)

theorem Dev.hostIdxTake_fault (hc : c ≠ .done) : d.hostIdxTake q v c = (d.count F.HRG_CNT_ERR_FAB_ERR).raise 1031 :=
  if_pos (by simp [Rsp.ok_eq_false.2 hc])

/-- The re-read of a completion queue is taken, NOTIFY is judged, and a destroy may go on. -/
theorem exec_hostIdxReadDone_outstanding {r : FabReq} {s : State} {e : Dev} (hq : q < 1024)
    (h : s.dev.outstanding (.hostIdx q) = some r) (hx : (s.dev.answered (.hostIdx q) r c).hrg.cq.look q = some x)
    (he : ((s.dev.answered (.hostIdx q) r c).cqPut q { x with arming := x.arming - 1 }).hostIdxTake q v c = e) :
    exec (.hostIdxReadDone q v c) s = .next (s.after ((e.cqNotify q).destroyRead q c.ok)) := by
  subst he
  refine (exec_hostIdxReadDone q v c s).trans (run_answer h ((if_neg (by omega)).trans ?_))
  rw [hx]

end

theorem Dev.cqNotify_due (hx : d.hrg.cq.look q = some x) (ha : d.f F.HRG_CQ_STAT_ARMED q ≠ 0) (hn : x.arming = 0)
    (hpi : d.f F.HRG_CQ_STAT_PI q ≠ d.f F.HRG_CQ_STAT_HOST_IDX q) :
    d.cqNotify q = ((d.setI F.HRG_CQ_STAT_ARMED q 0).setI F.HRG_CQ_STAT_NOTIFY q 1).level q true := by
  rw [Dev.cqNotify, hx]
  exact if_pos (by simp [Dev.b, ha, hn, hpi])

end

/-! The head frame of a wait queue (R263, R264). -/

section
variable {d : Dev} {q wq : Nat} {f : Frame} {rest : List Frame} {x : CqCtx} {w : WqCtx}

theorem Dev.rxCellLost_head (hx : d.hrg.cq.look q = some x) (hwait : x.wait = f :: rest) (hjob : x.job = none) (loc : Nat) :
    d.rxCellLost q loc = ((d.cqPut q { x with wait := rest }).bufDrop loc).trcClose f 5 := by
  simp [Dev.rxCellLost, hx, hwait, hjob]

/-- The frame f heads the wait queue of completion queue q, none is leaving it, and the engine may serve it from RX queue wq. -/
structure Dev.rxHead (d : Dev) (q wq : Nat) (f : Frame) (rest : List Frame) (x : CqCtx) (w : WqCtx) : Prop where
  queue : d.hrg.cq.look q = some x
  wait : x.wait = f :: rest
  job : x.job = none
  rings : d.on 27 = true
  fabric : d.on 31 = true
  linked : d.rxQueue q = some wq
  entries : d.hrg.wq.look wq = some w

/-- The completion of a received frame, its status and entries to come (R261). -/
def rxComp (f : Frame) (stored : Bool) (data : List Byte) : Work :=
  { idx := 0, words := [], stored := stored, len := data.length, word1 := rxWord1 f, word2 := if f.wantTs then stampWord f.ts else 0 }

theorem Dev.rxHead.rxDeliver_eq (h : d.rxHead q wq f rest x w) : d.rxDeliver q =
    if w.octets < f.rxLen then
      if d.wqUsed wq == d.wqSize wq && w.cache.length + w.past.length == d.wqUsed wq then
        ((d.cqPut q { x with wait := rest }).count F.HRG_CNT_ERR_RX_DROP).trcClose f 5
      else d
    else
      match d.reserve q with
      | none => d
      | some (stored, d) =>
        let r := d.rxData f
        let d := (r.2.bufRead (beats f.len) 0).pathBeats 6 (beats f.len)
        let job : RxJob := { frame := f, wq := wq, stored := stored, comp := rxComp f stored r.1, data := r.1 }
        let d := match d.hrg.cq.look q with
          | some x => d.cqPut q { x with wait := rest, job := some job }
          | none => d
        (d.trcNote f (fun t => { t with leave := d.cycle })).rxPump q wq := by
  simp only [Dev.rxDeliver, h.queue, h.linked, h.wait, h.entries]
  exact if_neg (by simp [h.job, h.rings, h.fabric])

theorem Dev.rxHead.drops (h : d.rxHead q wq f rest x w) (hlen : w.octets < f.rxLen) (hfull : d.wqUsed wq = d.wqSize wq)
    (hscan : w.cache.length + w.past.length = d.wqUsed wq) :
    d.rxDeliver q = ((d.cqPut q { x with wait := rest }).count F.HRG_CNT_ERR_RX_DROP).trcClose f 5 :=
  h.rxDeliver_eq.trans ((if_pos hlen).trans (if_pos (by simp [← hfull, hscan])))

theorem Dev.rxHead.leaves {stored : Bool} {e : Dev} {y : CqCtx} (h : d.rxHead q wq f rest x w) (hlen : f.rxLen ≤ w.octets)
    (hres : d.reserve q = some (stored, e)) :
    let r := e.rxData f
    let a := (r.2.bufRead (beats f.len) 0).pathBeats 6 (beats f.len)
    a.hrg.cq.look q = some y →
    let job : RxJob := { frame := f, wq := wq, stored := stored, comp := rxComp f stored r.1, data := r.1 }
    let c := a.cqPut q { y with wait := rest, job := some job }
    d.rxDeliver q = (c.trcNote f (fun t => { t with leave := c.cycle })).rxPump q wq := by
  intro r a hy job c
  rw [h.rxDeliver_eq, if_neg (Nat.not_lt.2 hlen), hres]
  dsimp only
  rw [hy]

section
variable {up : List Upset} {s : State} {e : Dev}

theorem exec_rxDeliver_intact (hcell : cellUpset up = none)
    (he : (if up.contains .corrected then s.dev.eccCorr else s.dev).rxDeliver q = e) : exec (.rxDeliver q up) s = .next (s.after e) := by
  refine (exec_rxDeliver q up s).trans (run_after s _ _ (Eq.trans ?_ he))
  change (match cellUpset up with | some loc => _ | none => _) = _
  rw [hcell]

theorem exec_rxDeliver_cellLost {loc : Nat} (hcell : cellUpset up = some loc)
    (he : (if up.contains .corrected then s.dev.eccCorr else s.dev).rxCellLost q loc = e) :
    exec (.rxDeliver q up) s = .next (s.after e) := by
  refine (exec_rxDeliver q up s).trans (run_after s _ _ (Eq.trans ?_ he))
  change (match cellUpset up with | some loc => _ | none => _) = _
  rw [hcell]

end

end

/-! The entries a frame takes, and its end (R264, R270). -/

section
variable {d : Dev} {q : Nat} {x : CqCtx} {j : RxJob} {w : WqCtx} {e : List Word} {rest : List (List Word)}

/-- The frame of job j, with octets left and fewer than eight entries held, finds the entry e cached. -/
structure Dev.rxTakes (d : Dev) (q : Nat) (x : CqCtx) (j : RxJob) (w : WqCtx) (e : List Word) (rest : List (List Word)) : Prop where
  queue : d.hrg.cq.look q = some x
  job : x.job = some j
  entries : d.hrg.wq.look j.wq = some w
  cached : w.cache = e :: rest
  left : j.data ≠ []
  few : j.held.length < 8

/-- The device and the job once the good entry e is taken for the frame: the first entry waits for the frame's completion. -/
def Dev.rxTake (d : Dev) (j : RxJob) (w : WqCtx) (e : List Word) (rest : List (List Word)) : Dev :=
  if j.first = none then d.wqPop j.wq { j.comp with idx := d.wqHead j.wq, words := e, stored := j.stored }
  else ((d.wqPut j.wq { w with cache := rest }).setI F.HRG_WQ_STAT_HEAD j.wq (d.wqHead j.wq + 1)).pmc 14 1
    { func := some (d.f F.HRG_WQ_STAT_FUNC j.wq) }

theorem Dev.rxTakes.rxStep_eq (h : d.rxTakes q x j w e rest) : d.rxStep q =
    let i := d.wqHead j.wq
    if rxCheck e != 0 then
      (d.reserve q).map (fun r => (r.2.wqPop j.wq { idx := i, words := e, stored := r.1, status := some (rxCheck e) }).workFlush j.wq 1024)
    else
      let pieces := rxPieces (weSegs e) j.data
      let n := { j with
        first := some (j.first.getD i), nent := j.nent + 1, held := j.held ++ [(i, pieces.length)], data := j.data.drop (weTotal e) }
      some (pieces.foldl (fun a p => a.request (ringReq (.rxData q i) true (d.f F.HRG_WQ_STAT_FUNC j.wq) p.1 p.2.length p.2))
        ((d.rxTake j w e rest).cqPut q { x with job := some n })) := by
  have first : (if j.first.isNone = true then d.wqPop j.wq { j.comp with idx := d.wqHead j.wq, words := e, stored := j.stored }
      else ((d.wqPut j.wq { w with cache := rest }).setI F.HRG_WQ_STAT_HEAD j.wq (d.wqHead j.wq + 1)).pmc 14 1
        { func := some (d.f F.HRG_WQ_STAT_FUNC j.wq) }) = d.rxTake j w e rest := if_congr Option.isNone_iff_eq_none rfl rfl
  simp only [Dev.rxStep, h.queue, h.job, h.entries, h.cached]
  rw [if_neg (by simpa using And.intro h.left h.few), first]

theorem Dev.rxTakes.refuses {stored : Bool} {a : Dev} (h : d.rxTakes q x j w e rest) (hbad : rxCheck e ≠ 0)
    (hres : d.reserve q = some (stored, a)) : d.rxStep q = some
      ((a.wqPop j.wq { idx := d.wqHead j.wq, words := e, stored := stored, status := some (rxCheck e) }).workFlush j.wq 1024) := by
  rw [h.rxStep_eq]
  dsimp only
  rw [if_pos (bne_iff_ne.2 hbad), hres]
  rfl

theorem Dev.rxTakes.takes (h : d.rxTakes q x j w e rest) (hgood : rxCheck e = 0) :
    let i := d.wqHead j.wq
    let pieces := rxPieces (weSegs e) j.data
    let n := { j with
      first := some (j.first.getD i), nent := j.nent + 1, held := j.held ++ [(i, pieces.length)], data := j.data.drop (weTotal e) }
    d.rxStep q = some (pieces.foldl
      (fun a p => a.request (ringReq (.rxData q i) true (d.f F.HRG_WQ_STAT_FUNC j.wq) p.1 p.2.length p.2))
      ((d.rxTake j w e rest).cqPut q { x with job := some n })) :=
  h.rxStep_eq.trans (if_neg (by simp [hgood]))

theorem exec_rxDataWriteDone_outstanding {idx : Nat} {c : Rsp} {r : FabReq} {s : State}
    (h : s.dev.outstanding (.rxData q idx) = some r) (hx : (s.dev.answered (.rxData q idx) r c).hrg.cq.look q = some x)
    (hj : x.job = some j) :
    let d := s.dev.answered (.rxData q idx) r c
    let held := j.held.filterMap (fun p => if p.1 != idx then some p else if p.2 ≤ 1 then none else some (p.1, p.2 - 1))
    exec (.rxDataWriteDone q idx c) s = .next (s.after
      ((((if c.ok then d else d.ringFault).cqPut q { x with job := some { j with held := held, bad := j.bad || !c.ok } }).rxPump q
        j.wq).rxEndJob q)) := by
  refine (exec_rxDataWriteDone q idx c s).trans (run_answer h ?_)
  simp only [hx, hj]

theorem Dev.rxEndJob_open (hx : d.hrg.cq.look q = some x) (hj : x.job = some j) (h : j.data ≠ [] ∨ j.held ≠ []) : d.rxEndJob q = d := by
  simp only [Dev.rxEndJob, hx, hj]
  exact if_pos (by simpa using h)

theorem Dev.rxEndJob_taken {i : Nat} (hx : d.hrg.cq.look q = some x) (hj : x.job = some j) (hdata : j.data = []) (hheld : j.held = [])
    (hi : j.first = some i) :
    let e := d.cqPut q { x with job := none }
    d.rxEndJob q = ((if j.bad then e else e.count F.HRG_CNT_RX_FRAMES).trcClose j.frame 2).workSet j.wq i
      (fun k => { k with status := some (if j.bad then 11 else 0), nent := j.nent }) := by
  simp only [Dev.rxEndJob, hx, hj, hi]
  exact if_neg (by simp [hdata, hheld])

end

/-- Settles O48: each command by what its row finds, each shared operation by its cases. That one frame at a time leaves a completion queue,
that the frame of a stopped queue is given up, and what a destroy waits for, are log entry 37. -/
theorem headersIndicesAndReceive : Obligations.HeadersIndicesAndReceive := by
  refine ⟨fun q x s hq h27 h31 ho hx hr hi => ?workHeader, fun q x s hq h27 h31 ho hx hr hi => ?completionHeader,
    fun n c r s ho => ?headerDone, fun d q => ⟨fun x hr hx => Dev.wqStop_ready hr hx, Dev.cqStop_ready⟩,
    fun q x s h27 h31 hx h => ?reread, fun q v c r x s hq ho => ?indexDone, fun d q x => Dev.cqNotify_due,
    fun d j hj => ?destroy, ?deliver, ?entry, ?written, ?finish⟩
  case workHeader => exact (exec_ringHeaderWrite q s).trans (run_after s _ _ (Dev.headerWrite_wq hq h27 h31 ho hx hr hi))
  case completionHeader =>
    exact (exec_ringHeaderWrite (q + 1024) s).trans (run_after s _ _ (Dev.headerWrite_cq hq h27 h31 ho hx hr hi))
  case headerDone =>
    intro d
    have row {e : Dev} (he : (if c.ok then d else d.headerFault n) = e) :
        exec (.ringHeaderWriteDone n c) s = .next (s.after e.destroyTry) :=
      he ▸ exec_ringHeaderWriteDone_outstanding ho c
    have faulty {e : Dev} (hc : c ≠ .done) (he : d.headerFault n = e) := row ((if_neg (by simp [Rsp.ok_eq_false.2 hc])).trans he)
    refine ⟨fun hc => row (if_pos (Rsp.ok_eq_true.2 hc)), fun hc hn => faulty hc (if_pos hn), fun hc hlo hhi => faulty hc ?_,
      fun hc hlo => faulty hc ?_⟩
    · exact (if_neg (by omega)).trans (if_pos hhi)
    · exact (if_neg (by omega)).trans (if_neg (by omega))
  case reread =>
    exact (exec_hostIdxReread q s).trans (run_after s _ _ ((Dev.reread_due h27 h31 hx h).trans (Dev.hostReread_eq hx)))
  case indexDone =>
    intro d hx e h back
    have row {a : Dev} (ha : e.hostIdxTake q v c = a) := exec_hostIdxReadDone_outstanding hq ho hx ha
    refine ⟨fun hc hs hold => ?_, fun hc hbad => ?_, fun hc => ?_⟩
    · rw [row (Dev.hostIdxTake_accepted hc hs hold), Rsp.ok_eq_true.2 hc]
    · rw [row (Dev.hostIdxTake_refused hc hbad), Rsp.ok_eq_true.2 hc]
    · rw [row (Dev.hostIdxTake_fault hc), Rsp.ok_eq_false.2 hc]
  case destroy =>
    refine ⟨fun hcq hr ok => Dev.destroyRead_due hj hcq hr ok, fun hr hout => ?_⟩
    exact ⟨Dev.destroyTry_undrained hj hr hout, Dev.destroyTry_drained hj hr hout⟩
  case deliver =>
    intro q wq up f rest x w s b cell hx hwait hjob
    refine ⟨fun loc hcell => exec_rxDeliver_cellLost hcell (Dev.rxCellLost_head hx hwait hjob loc), fun hcell h27 h31 hrx hw => ?_⟩
    have head : b.rxHead q wq f rest x w := ⟨hx, hwait, hjob, h27, h31, hrx, hw⟩
    refine ⟨fun hlen hfull hscan => exec_rxDeliver_intact hcell (head.drops hlen hfull hscan), fun stored d y hlen hres => ?_⟩
    intro r a hy comp c
    exact exec_rxDeliver_intact hcell (head.leaves hlen hres hy)
  case entry =>
    intro d q x j w e rest hx hj hw hcache hdata hheld i
    have takes : d.rxTakes q x j w e rest := ⟨hx, hj, hw, hcache, hdata, hheld⟩
    exact ⟨fun stored a hbad hres => takes.refuses hbad hres, takes.takes⟩
  case written =>
    intro q idx c r x j s ho d hx hj e held
    have counted : (if c.ok then d else d.ringFault) = e := if_congr Rsp.ok_eq_true rfl rfl
    rw [← counted]
    exact exec_rxDataWriteDone_outstanding ho hx hj
  case finish =>
    intro d q i x j hx hj
    refine ⟨Dev.rxEndJob_open hx hj, fun hdata hheld hi => ?_⟩
    intro e
    have ends := Dev.rxEndJob_taken hx hj hdata hheld hi
    refine ⟨fun hbad => ?_, fun hbad => ?_⟩
    · exact ends.trans (by rw [hbad]; rfl)
    · exact ends.trans (by rw [hbad]; rfl)

end Sys2Proof.Machine
end

section
/-! Work entries and completions (R248, R253 to R255, R258 to R260, R266, R267, R270, R490). -/

namespace Sys2Proof.Machine

/-! A fetched entry (R254, R255, R264, R270). -/

section
variable {d : Dev} {q : Nat} {x : WqCtx} {words : List Word} {c : Rsp}

theorem WqCtx.fetched_eq (rx : Bool) : x.fetched rx words =
    if x.again then { x with fetch := none, again := false, cache := x.cache ++ [words], past := x.past.drop 1 }
    else if rx = true ∧ (8 ≤ x.cache.length ∨ x.past ≠ []) then { x with fetch := none, past := x.past ++ [scanOctets words] }
    else { x with fetch := none, cache := x.cache ++ [words] } :=
  if_congr Iff.rfl rfl (if_congr (by simp) rfl rfl)

/-- The device with no fetch of the queue under way. -/
def Dev.wqFetchEnded (d : Dev) (q : Nat) (x : WqCtx) : Dev := d.wqPut q { x with fetch := none, again := false }

theorem exec_wqeFetchDone_outstanding {r : FabReq} {stale : Bool} {s : State}
    (h : s.dev.outstanding (.wqFetch q) = some r) (hx : (s.dev.answered (.wqFetch q) r c).hrg.wq.look q = some x)
    (hf : x.fetch = some stale) :
    let e := (s.dev.answered (.wqFetch q) r c).wqFetchEnded q x
    exec (.wqeFetchDone q words c) s = .next (s.after (
      if !c.ok then e.ringFault.wqStop q
      else if stale || !e.wqReady q then e.wqPump q
      else (e.wqPut q (x.fetched (e.wqIsRx q) words)).rxPump (e.f F.HRG_WQ_STAT_CQ q) q)) := by
  refine (exec_wqeFetchDone q words c s).trans (run_answer h ?_)
  rw [hx]
  dsimp only
  rw [hf]
  rfl

end

/-! A taken entry (R254, R258, R259, R266). -/

section
variable {d a : Dev} {q : Nat} {x : WqCtx} {e : List Word} {rest : List (List Word)} {stored : Bool}

/-- The head entry e of a READY queue may be taken: fewer than eight SENDs read their data, and a completion place is reserved, which
gives the device a. -/
structure Dev.wqTakes (d : Dev) (q : Nat) (e : List Word) (stored : Bool) (a : Dev) (x : WqCtx) (rest : List (List Word)) : Prop where
  powered : d.on 27 = true
  ready : d.wqReady q = true
  queue : d.hrg.wq.look q = some x
  cached : x.cache = e :: rest
  few : x.work.countP (fun k => k.reads != 0) < 8
  place : d.reserve (d.f F.HRG_WQ_STAT_CQ q) = some (stored, a)

theorem Dev.wqTakes.wqTake_eq (h : d.wqTakes q e stored a x rest) : d.wqTake q =
    if d.wqIsRx q && rxCheck e == 0 then d
    else if a.wqIsRx q then
      ((a.wqPop q { idx := a.wqHead q, words := e, stored := stored, status := some (rxCheck e) }).workFlush q 1024).wqPump q
    else a.txTake q e stored := by
  simp only [Dev.wqTake, h.queue, h.cached, h.place]
  exact if_neg (by simp [h.powered, h.ready, h.few])

theorem Dev.wqTakes.refused (h : d.wqTakes q e stored a x rest) (hbad : rxCheck e ≠ 0) (hrx : a.wqIsRx q = true) : d.wqTake q =
    ((a.wqPop q { idx := a.wqHead q, words := e, stored := stored, status := some (rxCheck e) }).workFlush q 1024).wqPump q :=
  h.wqTake_eq.trans ((if_neg (by simp [hbad])).trans (if_pos hrx))

theorem Dev.wqTakes.sends (h : d.wqTakes q e stored a x rest) (htx : d.wqIsRx q = false) (hatx : a.wqIsRx q = false) :
    d.wqTake q = a.txTake q e stored :=
  h.wqTake_eq.trans ((if_neg (by simp [htx])).trans (if_neg (by simp [hatx])))

/-- An entry that fails its checks, and a NOP, are complete at once. -/
theorem Dev.txTake_complete (h : d.txCheck e ≠ 0 ∨ weOp e = 2) : d.txTake q e stored =
    ((d.wqPop q { idx := d.wqHead q, words := e, stored := stored, status := some (d.txCheck e), word1 := (e.getD 1 0).toNat
                  len := if weOp e = 1 then weTotal e % 2 ^ 14 else 0 }).workFlush q 1024).wqPump q := by
  have done : (d.txCheck e != 0 || weOp e == 2) = true := by simpa using h
  simp only [Dev.txTake, done, if_true, beq_iff_eq]

theorem Dev.txTake_send (h : d.txCheck e = 0) (hop : weOp e = 1) :
    let i := d.wqHead q
    let t := d.trcSample { data := List.replicate (weTotal e) 0, path := 3 } 0 0
    let b := t.2.wqPop q { idx := i, words := e, stored := stored, reads := weNseg e, trace := t.1.trace, status := none
                           word1 := (e.getD 1 0).toNat, len := weTotal e % 2 ^ 14 }
    d.txTake q e stored = (((weSegs e).foldl (fun d g => d.request
      (ringReq (.sendData q i) false (d.f F.HRG_WQ_STAT_FUNC q) g.1 g.2 [])) b).workFlush q 1024).wqPump q := by
  have reads : (d.txCheck e != 0 || weOp e == 2) = false := by simp [h, hop]
  have send : (weOp e == 1) = true := beq_iff_eq.2 hop
  simp only [Dev.txTake, reads, send, if_true, Bool.false_eq_true, if_false]

end

/-! The data of a SEND, and its frame (R254, R259, R260). -/

section
variable {d : Dev} {q : Nat} {k : Work}

theorem exec_sendDataReadDone_outstanding {idx : Nat} {data : List Byte} {c : Rsp} {r : FabReq} {s : State}
    (h : s.dev.outstanding (.sendData q idx) = some r) (hk : (s.dev.answered (.sendData q idx) r c).workAt q idx = some k)
    (hr : k.reads ≠ 0) :
    let bad := if c.ok then 0 else if c == .deny then 8 else 7
    let j := { k with reads := k.reads - 1, data := k.data ++ data, fail := if k.fail == 0 then bad else k.fail }
    let a := (s.dev.answered (.sendData q idx) r c).workSet q idx (fun _ => j)
    let e := if c.ok then a else a.ringFault
    exec (.sendDataReadDone q idx data c) s =
      .next (s.after (e.sendPump q (match e.hrg.wq.look q with | some x => x.work.length | none => 0))) := by
  refine (exec_sendDataReadDone q idx data c s).trans (run_answer h ?_)
  rw [hk]
  exact if_neg (by simp [hr])

theorem Dev.sendPump_first {n : Nat} {x : WqCtx} (hx : d.hrg.wq.look q = some x)
    (hk : x.work.find? (fun k => k.status.isNone && k.send == 0) = some k) :
    d.sendPump q (n + 1) = if k.reads = 0 then (d.sendReady q k).sendPump q n else d := by
  rw [Dev.sendPump, hx, Option.bind_some, hk]
  exact if_congr beq_iff_eq rfl rfl

theorem Dev.sendReady_failed (h : k.fail ≠ 0) : d.sendReady q k =
    (d.trcClose { data := [], trace := k.trace } 4).workSet q k.idx (fun k' => { k' with status := some k.fail }) :=
  if_pos (bne_iff_ne.2 h)

/-- The frame of a SEND, numbered where its egress timestamp is wanted (R260). -/
def Dev.sendFrame (d : Dev) (q : Nat) (k : Work) (b : List Byte) : Frame :=
  { data := b, path := 3, src := q, send := if wf k.words 0 57 1 == 1 then d.hrg.sends + 1 else 0, trace := k.trace }

/-- The device that offers the frame. -/
def Dev.sendNumbered (d : Dev) (f : Frame) : Dev :=
  Dev.pathBeats { d with hrg := { d.hrg with sends := d.hrg.sends + 1 } } 6 (beats f.len)

theorem Dev.sendReady_frame {b : List Byte} (h : k.fail = 0)
    (hb : sendSums (wf k.words 0 59 1 == 1) (wf k.words 0 58 1 == 1) k.data = some b) :
    let f := d.sendFrame q k b
    let r := (d.sendNumbered f).sendOffer (weDtype k.words) (weDest k.words) f
    d.sendReady q k = if !r.1 then r.2.workSet q k.idx (fun k => { k with status := some 9 })
      else (r.2.count F.HRG_CNT_TX_FRAMES).workSet q k.idx
        (fun k' => if wf k.words 0 57 1 == 1 then { k' with send := f.send } else { k' with status := some 0 }) := by
  rw [Dev.sendReady]
  dsimp only
  rw [if_neg (by simp [h]), hb]
  rfl

end

/-! Completions written (R248, R267, R270, R490). -/

section
variable {d : Dev} {q : Nat} {x : CqCtx}

/-- The write of the completion with index idx is answered: the i-th of those issued, and the first of its index not answered before. -/
theorem exec_completionWriteDone_outstanding {idx i : Nat} {c : Rsp} {r : FabReq} {s : State}
    (h : s.dev.outstanding (.completion q idx) = some r) (hq : q < 1024)
    (hx : (s.dev.answered (.completion q idx) r c).hrg.cq.look q = some x)
    (hi : x.fly.findIdx? (fun e => e.idx == idx && !e.landed) = some i) :
    let d := s.dev.answered (.completion q idx) r c
    exec (.completionWriteDone q idx c) s = .next (s.after (
      if c.ok then (((d.cqPut q { x with fly := x.fly.modify i (fun e => { e with landed := true }) }).pmc 16 1
        { func := some r.func }).cqAdvance q x.fly.length).cqNotify q
      else (d.cqPut q { x with fly := x.fly.take i, stored := (x.fly.drop i).map (·.data) ++ x.stored }).ringFault.cqStop q)) := by
  refine (exec_completionWriteDone q idx c s).trans (run_answer h ((if_neg (by omega)).trans ?_))
  simp only [hx, hi]

/-- The entries of queue q in the store that an upset names, each with whether it is bad in both copies. -/
def storeUpsets (q : Nat) (up : List Upset) : List (Nat × Bool) :=
  up.filterMap (fun u => match u with | .storeEntry c loc both => if c == q then some (loc, both) else none | _ => none)

/-- The device in which they are seen. -/
def Dev.storeSeen (d : Dev) (q : Nat) (up : List Upset) : Dev := (storeUpsets q up).foldl (fun d b => d.eccUncorr 4 b.1 1603) d

/-- The oldest completion in the store goes out where its queue has room (R267). -/
def Dev.storePop (d : Dev) (q : Nat) : Dev :=
  match d.hrg.cq.look q with
  | none => d
  | some x =>
    match x.stored with
    | [] => d
    | data :: t =>
      if d.on 27 && d.on 31 && d.cqReady q && idxSub (x.next + x.res) (d.f F.HRG_CQ_STAT_HOST_IDX q) < d.cqSize q then
        (d.cqPut q { x with stored := t }).cqWrite q data
      else d

theorem Dev.storeWrite_eq (up : List Upset) : d.storeWrite q up =
    if (storeUpsets q up).any (·.2) then (d.storeSeen q up).cqStop q else (d.storeSeen q up).storePop q := rfl

theorem Dev.storePop_room {data : List Byte} {rest : List (List Byte)} (h27 : d.on 27 = true) (h31 : d.on 31 = true)
    (hr : d.cqReady q = true) (hx : d.hrg.cq.look q = some x) (hs : x.stored = data :: rest)
    (hroom : idxSub (x.next + x.res) (d.f F.HRG_CQ_STAT_HOST_IDX q) < d.cqSize q) :
    d.storePop q = (d.cqPut q { x with stored := rest }).cqWrite q data := by
  simp only [Dev.storePop, hx, hs]
  exact if_pos (by simp [h27, h31, hr, hroom])

end

/-- Settles O47: each command by what its row finds. That PI advances in order on DONE, that an RX queue keeps the words of eight entries and
the lengths of the others, and that an entry the scan passed is fetched again, are log entry 37. -/
theorem workEntriesAndCompletions : Obligations.WorkEntriesAndCompletions := by
  refine ⟨?fetched, ?take, ?dataRead, fun d q n x k hx hk => Dev.sendPump_first hx hk, fun d q k h => Dev.sendReady_failed h, ?offer,
    ?written, ?store⟩
  case fetched =>
    intro q words c r x stale s ho d hx hf e
    have row := exec_wqeFetchDone_outstanding (words := words) ho hx hf
    refine ⟨fun hc => row.trans ?_, fun hc h => row.trans ?_, fun hc hfresh hready => row.trans ?_⟩
    · rw [if_pos (by simp [Rsp.ok_eq_false.2 hc])]
      rfl
    · have skips : (stale || !e.wqReady q) = true := by simpa using h
      rw [if_neg (by simp [Rsp.ok_eq_true.2 hc])]
      exact congrArg _ (congrArg s.after (if_pos skips))
    · have enters : ¬ (stale || !e.wqReady q) = true := by simp [hfresh, hready]
      rw [if_neg (by simp [Rsp.ok_eq_true.2 hc]), WqCtx.fetched_eq]
      exact congrArg _ (congrArg s.after (if_neg enters))
  case take =>
    intro q up e rest stored x d s c b h27 hready hx hcache hfew hres
    have takes : b.wqTakes q e stored d x rest := ⟨h27, hready, hx, hcache, hfew, hres⟩
    have row {a : Dev} (ha : b.wqTake q = a) : exec (.wqeTake q up) s = .next (s.after a) :=
      (exec_wqeTake q up s).trans (run_after s _ _ ha)
    refine ⟨fun _ hbad hrx => row (takes.refused hbad hrx), fun htx hdtx => ?_⟩
    have sends := takes.sends htx hdtx
    exact ⟨fun h => row (sends.trans (Dev.txTake_complete h)), fun h hop => row (sends.trans (Dev.txTake_send h hop))⟩
  case dataRead =>
    intro q idx data c r k s ho d hk hreads bad j a e
    have row := exec_sendDataReadDone_outstanding (data := data) ho hk hreads
    simp only [beq_iff_eq, Rsp.ok_eq_true] at row
    exact row
  case offer =>
    intro d q k b e hfail hb wants f a
    have frame := Dev.sendReady_frame (d := d) (q := q) hfail hb
    have numbered : d.sendFrame q k b = f := by simp only [Dev.sendFrame, beq_iff_eq, f, wants]
    rw [numbered] at frame
    refine ⟨fun ho => ?_, fun ho => ?_⟩
    · have ho : (d.sendNumbered f).sendOffer (weDtype k.words) (weDest k.words) f = (true, e) := ho
      rw [frame, ho]
      simp only [beq_iff_eq]
      rfl
    · have ho : (d.sendNumbered f).sendOffer (weDtype k.words) (weDest k.words) f = (false, e) := ho
      rw [frame, ho]
      rfl
  case written =>
    intro q idx i c r x s ho hq d hx hi
    have row := exec_completionWriteDone_outstanding ho hq hx hi
    refine ⟨fun hc => row.trans ?_, fun hc => row.trans ?_⟩
    · rw [if_pos (Rsp.ok_eq_true.2 hc)]
    · rw [if_neg (by simp [Rsp.ok_eq_false.2 hc])]
      rfl
  case store =>
    intro q up s b bad d
    have row {e : Dev} (he : b.storeWrite q up = e) : exec (.storeEntryWrite q up) s = .next (s.after e) :=
      (exec_storeEntryWrite q up s).trans (run_after s _ _ he)
    exact ⟨fun h => row ((Dev.storeWrite_eq up).trans (if_pos h)), fun data rest x h h27 h31 hr hx hs hroom =>
      row ((Dev.storeWrite_eq up).trans ((if_neg (ne_true_of_eq_false h)).trans (Dev.storePop_room h27 h31 hr hx hs hroom)))⟩

end Sys2Proof.Machine
end

section
/-! The admin commands, which Docent takes (R261, R273 to R276, R525). -/

namespace Sys2Proof.Machine

/-! A command is taken, and answered or held (R261, R273, R274). -/

section
variable {d t : Dev} {f : Nat} {e : AdminIn} {a : AdminPair}

theorem Dev.adminAnswer_pair (ha : d.hrg.admin.look f = some a) (idx cookie : Nat) (x : AdminAns) :
    d.adminAnswer f idx cookie x = (d.adminPut f { a with busy := true, hold := none }).request
      { kind := .completion (2048 + f) a.pi, write := true, mstr := 4, func := f, addr := a.cqBase + 32 * (a.pi % 2 ^ a.cqLog), len := 32
        data := leBytes 8 (2 * 2 ^ 60 + x.status * 2 ^ 52 + idx * 2 ^ 24 + 2 ^ 18) ++ leBytes 8 cookie ++ leBytes 8 x.r0 ++
          leBytes 8 x.r1 } := by
  rw [Dev.adminAnswer, ha]
  rfl

theorem Dev.adminTaken.adminTake_eq (h : d.adminTaken f e a t) {ok : Nat → Bool} (hok : ok e.cmd = true) (g : Nat → Dev → Dev) :
    Dev.adminTake f e ok g d = g a.head t := by
  obtain ⟨hopen, hturn, o, b, ho, rfl, ha, hroom, rfl⟩ := h
  rw [Dev.adminTake, if_neg (by simp [hopen, hturn, hok])]
  dsimp only
  rw [ho]
  dsimp only
  rw [ha]
  exact if_neg (Nat.not_le.2 hroom)

theorem Dev.adminTaken.adminTake_code (h : d.adminTaken f e a t) {c : Nat} (hc : e.cmd = c) (g : Nat → Dev → Dev) :
    Dev.adminTake f e (· == c) g d = g a.head t :=
  h.adminTake_eq (ok := (· == c)) (beq_iff_eq.2 hc) g

/-- The command of function f is held (R274, R525). -/
def Dev.adminHold (d : Dev) (f : Nat) (x : AdminHold) : Dev :=
  match d.hrg.admin.look f with
  | some a => d.adminPut f { a with hold := some x }
  | none => d

theorem Dev.adminHold_pair (ha : d.hrg.admin.look f = some a) (x : AdminHold) :
    d.adminHold f x = d.adminPut f { a with hold := some x } := by
  rw [Dev.adminHold, ha]

/-- A command that is answered at once. -/
theorem exec_adminCmd_taken {s : State} {i : Instr} {c : Nat} {g : Dev → AdminAns × Dev} {x : AdminAns} {u : Dev}
    (h : s.dev.adminTaken f e a t) (hi : exec i s = s.run (Dev.adminCmd f c e g)) (hc : e.cmd = c) (hg : g t = (x, u)) :
    exec i s = .next (s.after (u.adminAnswer f a.head e.cookie x)) := by
  refine hi.trans (run_after s _ _ ((h.adminTake_code hc _).trans ?_))
  rw [hg]

end

/-! Creates (R271, R275, R276). -/

section
variable {d : Dev} {f q : Nat} {e : AdminIn}

theorem Dev.createAns_made (h : d.f F.HRG_QCTX_CMD_ERR = 0) : d.createAns q = { r0 := q } := by
  rw [Dev.createAns, h]
  rfl

theorem Dev.createAns_secondRx (h : d.f F.HRG_QCTX_CMD_ERR = 6) : d.createAns q = { status := 0x45 } := by
  rw [Dev.createAns, h]
  rfl

theorem Dev.createAns_badAddress (h : d.f F.HRG_QCTX_CMD_ERR = 4) : d.createAns q = { status := 0x47, r0 := 4 } := by
  rw [Dev.createAns, h]
  rfl

theorem badSize {lg : Nat} (h : lg < 4 ∨ 16 < lg) : (decide (lg < 4) || decide (lg > 16)) = true := by simpa using h

theorem not_badSize {lg : Nat} (hlo : 4 ≤ lg) (hhi : lg ≤ 16) : ¬ (decide (lg < 4) || decide (lg > 16)) = true := by simp; omega

theorem Dev.adminCreateCq_badSize (h : bits (e.p 0) 0 5 < 4 ∨ 16 < bits (e.p 0) 0 5) :
    Dev.adminCreateCq f e d = ({ status := 0x41 }, d) := by
  rw [Dev.adminCreateCq, if_pos (badSize h)]

section
variable (hlo : 4 ≤ bits (e.p 0) 0 5) (hhi : bits (e.p 0) 0 5 ≤ 16)
include hlo hhi

theorem Dev.adminCreateCq_full (hq : d.freeQueue F.HRG_CQ_STAT_STATE = none) : Dev.adminCreateCq f e d = ({ status := 0x43 }, d) := by
  rw [Dev.adminCreateCq, if_neg (not_badSize hlo hhi), hq]

theorem Dev.adminCreateCq_free (hq : d.freeQueue F.HRG_CQ_STAT_STATE = some q) :
    let b := (d.qctxAddr (e.p 1) (e.p 2)).createCq q f (bits (e.p 0) 0 5)
    Dev.adminCreateCq f e d = (b.createAns q, b) := by
  rw [Dev.adminCreateCq, if_neg (not_badSize hlo hhi), hq]

end

/-- The completion queue that a CREATE_WQ names is READY and of function f. -/
def Dev.cqMine (d : Dev) (f cq : Nat) : Prop := d.cqReady cq = true ∧ d.f F.HRG_CQ_STAT_FUNC cq = f

theorem Dev.adminCreateWq_badSize (h : bits (e.p 0) 0 5 < 4 ∨ 16 < bits (e.p 0) 0 5) :
    Dev.adminCreateWq f e d = ({ status := 0x41 }, d) := by
  rw [Dev.adminCreateWq, if_pos (badSize h)]

section
variable (hlo : 4 ≤ bits (e.p 0) 0 5) (hhi : bits (e.p 0) 0 5 ≤ 16)
include hlo hhi

theorem Dev.adminCreateWq_foreign (h : ¬ d.cqMine f (bits (e.p 0) 16 10)) : Dev.adminCreateWq f e d = ({ status := 0x44 }, d) := by
  have foreign : (!d.cqReady (bits (e.p 0) 16 10) || d.f F.HRG_CQ_STAT_FUNC (bits (e.p 0) 16 10) != f) = true := by
    simpa [Dev.cqMine, imp_iff_not_or] using h
  rw [Dev.adminCreateWq, if_neg (not_badSize hlo hhi), if_pos foreign]

variable (hmine : d.cqMine f (bits (e.p 0) 16 10))
include hmine

theorem Dev.adminCreateWq_full (hq : d.freeQueue F.HRG_WQ_STAT_STATE = none) : Dev.adminCreateWq f e d = ({ status := 0x43 }, d) := by
  rw [Dev.adminCreateWq, if_neg (not_badSize hlo hhi), if_neg (by simp [hmine.1, hmine.2]), hq]

theorem Dev.adminCreateWq_free (hq : d.freeQueue F.HRG_WQ_STAT_STATE = some q) :
    let rx := bit (e.p 0) 5
    let b := (d.qctxAddr (e.p 1) (e.p 2)).createWq q f (bits (e.p 0) 0 5) (bits (e.p 0) 16 10) (if rx then bits (e.p 3) 0 17 else 0) rx
    Dev.adminCreateWq f e d = (b.createAns q, b) := by
  rw [Dev.adminCreateWq, if_neg (not_badSize hlo hhi), if_neg (by simp [hmine.1, hmine.2]), hq]

end

end

/-! Destroys (R271, R275). -/

section
variable {f c : Nat} {e : AdminIn} {a : AdminPair} {t : Dev} {s : State} {i : Instr} {mine : Nat → Dev → Bool} {g : Nat → Dev → Dev}

/-- What a destroy does to the device that took it. -/
def Dev.destroyTaken (t : Dev) (f : Nat) (e : AdminIn) (idx : Nat) (mine : Nat → Dev → Bool) (g : Nat → Dev → Dev) : Dev :=
  let q := bits (e.p 0) 0 10
  if !mine q t then t.adminAnswer f idx e.cookie { status := 0x44 }
  else if !(g q t).b F.HRG_QCTX_CMD_BUSY then (g q t).adminAnswer f idx e.cookie (destroyAns ((g q t).f F.HRG_QCTX_CMD_ERR))
  else (g q t).adminHold f (.destroyCq idx e.cookie none)

variable (h : s.dev.adminTaken f e a t) (hi : exec i s = s.run (Dev.adminDestroy f c e mine g)) (hc : e.cmd = c)
include h hi hc

theorem exec_adminDestroy_taken : exec i s = .next (s.after (t.destroyTaken f e a.head mine g)) :=
  hi.trans (run_after s _ _ (h.adminTake_code hc _))

theorem exec_adminDestroy_foreign (hm : mine (bits (e.p 0) 0 10) t = false) :
    exec i s = .next (s.after (t.adminAnswer f a.head e.cookie { status := 0x44 })) := by
  rw [exec_adminDestroy_taken h hi hc, Dev.destroyTaken, if_pos (by simp [hm])]

variable (hm : mine (bits (e.p 0) 0 10) t = true) {d : Dev} (hd : g (bits (e.p 0) 0 10) t = d)
include hm hd

theorem exec_adminDestroy_ended {x : AdminAns} (hb : d.f F.HRG_QCTX_CMD_BUSY = 0) (hx : destroyAns (d.f F.HRG_QCTX_CMD_ERR) = x) :
    exec i s = .next (s.after (d.adminAnswer f a.head e.cookie x)) := by
  rw [exec_adminDestroy_taken h hi hc, Dev.destroyTaken, if_neg (by simp [hm]), hd, if_pos (by simp [Dev.b_eq_false.2 hb]), hx]

theorem exec_adminDestroy_held {p : AdminPair} (hb : d.f F.HRG_QCTX_CMD_BUSY ≠ 0) (hp : d.hrg.admin.look f = some p) :
    exec i s = .next (s.after (d.adminPut f { p with hold := some (.destroyCq a.head e.cookie none) })) := by
  rw [exec_adminDestroy_taken h hi hc, Dev.destroyTaken, if_neg (by simp [hm]), hd, if_neg (by simp [Dev.b_eq_true.2 hb]),
    Dev.adminHold_pair hp]

end

/-! QUERY_Q (R275). -/

section
variable {d : Dev} {f : Nat} {e : AdminIn}

theorem Dev.adminQuery_cq (hk : bit (e.p 0) 10 = true) (hr : d.cqReady (bits (e.p 0) 0 10) = true)
    (hf : d.f F.HRG_CQ_STAT_FUNC (bits (e.p 0) 0 10) = f) :
    Dev.adminQuery f e d = ({ r0 := d.cqWord (bits (e.p 0) 0 10) }, d) := by
  simp [Dev.adminQuery, hk, hr, hf]

theorem Dev.adminQuery_wq (hk : bit (e.p 0) 10 = false) (hr : d.wqReady (bits (e.p 0) 0 10) = true)
    (hf : d.f F.HRG_WQ_STAT_FUNC (bits (e.p 0) 0 10) = f) :
    Dev.adminQuery f e d = ({ r0 := d.wqWord (bits (e.p 0) 0 10) }, d) := by
  simp [Dev.adminQuery, hk, hr, hf]

theorem Dev.adminQuery_foreignWq (hk : bit (e.p 0) 10 = false)
    (h : d.wqReady (bits (e.p 0) 0 10) = false ∨ d.f F.HRG_WQ_STAT_FUNC (bits (e.p 0) 0 10) ≠ f) :
    Dev.adminQuery f e d = ({ status := 0x44 }, d) := by
  have foreign : (!d.wqReady (bits (e.p 0) 0 10) || d.f F.HRG_WQ_STAT_FUNC (bits (e.p 0) 0 10) != f) = true := by simpa using h
  rw [Dev.adminQuery, if_neg (by simp [hk]), if_pos foreign]

end

/-! TABLE_WRITE and TABLE_DELETE (R275, R276, R525). -/

section
variable {d : Dev} {del : Bool} {record : List Word} {k : Nat} {key : Key}

theorem Dev.tableDo_write (act : Nat) : let h := d.tableHide (b2n (k != 0)) key
    d.tableDo false k key act = h.2.tableInsert (b2n (k != 0)) key act := by
  simp only [Dev.tableDo, Bool.false_eq_true, if_false]

theorem Dev.tableDo_delete (act : Nat) : let h := d.tableHide (b2n (k != 0)) key
    d.tableDo true k key act = (if h.1 then {} else { status := 0x49 }, h.2) := by
  simp only [Dev.tableDo, if_true]

theorem Dev.tableCmd_unread : d.tableCmd del record false = some ({ status := 0x46 }, d) := rfl

theorem Dev.tableCmd_noKey (h : recordKey record = none) : d.tableCmd del record true = some ({ status := 0x41 }, d) := by
  rw [Dev.tableCmd, if_neg (by decide), h]

variable (hk : recordKey record = some (k, key))
include hk

theorem Dev.tableCmd_closed (h : d.isSink = true ∨ d.on 11 = false ∨ d.accState = 0 ∨ d.accState = 2) :
    d.tableCmd del record true = some ({ status := 0x45 }, d) := by
  rw [Dev.tableCmd, if_neg (by decide), hk]
  exact if_pos (by simpa [or_assoc] using h)

variable (hs : d.isSink = false) (hon : d.on 11 = true)
include hs hon

theorem Dev.tableCmd_open (ho : d.accState = 1) :
    let g := d.updSettle
    d.tableCmd del record true = some (if g.b F.CLS_UPD_STAT_BUSY then ({ status := 0x48 }, g)
      else g.tableDo del k key ((record.getD 6 0).toNat + (record.getD 7 0).toNat * 2 ^ 64)) := by
  intro g
  rw [Dev.tableCmd, if_neg (by decide), hk, apply_ite some]
  exact (if_neg (by simp [hs, hon, ho])).trans (if_neg (by simp [ho]))

theorem Dev.tableCmd_waits (h3 : 3 ≤ d.accState) : d.tableCmd del record true = none := by
  rw [Dev.tableCmd, if_neg (by decide), hk]
  exact (if_neg (by simp [hs, hon]; omega)).trans (if_pos (by simp; omega))

end

section
variable {f : Nat} {e : AdminIn} {a : AdminPair} {t d : Dev} {s : State} {i : Instr} {del : Bool} {record : List Word} {r : Rsp}
  (h : s.dev.adminTaken f e a t) (hi : exec i s = s.run (Dev.adminTable f e del record r)) (hc : e.cmd = if del then 8 else 7)
  (hd : t.docentAccess false f (e.p 0) 64 r.ok = d)
include h hi hc hd

theorem exec_adminTable_answered {x : AdminAns × Dev} (hx : d.tableCmd del record r.ok = some x) :
    exec i s = .next (s.after (x.2.adminAnswer f a.head e.cookie x.1)) := by
  refine hi.trans (run_after s _ _ ((h.adminTake_code hc _).trans ?_))
  rw [hd]
  dsimp only
  rw [hx]

theorem exec_adminTable_held {p : AdminPair} (hx : d.tableCmd del record r.ok = none) (hp : d.hrg.admin.look f = some p) :
    exec i s = .next (s.after (d.adminPut f { p with hold := some (.table del a.head e.cookie record r.ok) })) := by
  refine hi.trans (run_after s _ _ ((h.adminTake_code hc _).trans ?_))
  rw [hd]
  dsimp only
  rw [hx]
  exact Dev.adminHold_pair hp _

/-- What both table commands do short of the change itself: a record unread or without a key, an accession that is closed, and one that
commits. -/
theorem exec_adminTable_unchanged {k : Nat} {key : Key} :
    (r ≠ .done → exec i s = .next (s.after (d.adminAnswer f a.head e.cookie { status := 0x46 }))) ∧
    (r = .done → recordKey record = none → exec i s = .next (s.after (d.adminAnswer f a.head e.cookie { status := 0x41 }))) ∧
    (r = .done → recordKey record = some (k, key) → d.isSink = true ∨ d.on 11 = false ∨ d.accState = 0 ∨ d.accState = 2 →
      exec i s = .next (s.after (d.adminAnswer f a.head e.cookie { status := 0x45 }))) ∧
    ∀ p, r = .done → recordKey record = some (k, key) → d.isSink = false → d.on 11 = true → 3 ≤ d.accState →
      d.hrg.admin.look f = some p →
      exec i s = .next (s.after (d.adminPut f { p with hold := some (.table del a.head e.cookie record true) })) := by
  have answered {x : AdminAns × Dev} (hx : d.tableCmd del record r.ok = some x) := exec_adminTable_answered h hi hc hd hx
  refine ⟨fun hr => answered (x := (_, d)) ?_, fun hr hk => answered (x := (_, d)) ?_, fun hr hk hclosed => answered (x := (_, d)) ?_,
    fun p hr hk hs hon h3 hp => ?_⟩
  · rw [Rsp.ok_eq_false.2 hr, Dev.tableCmd_unread]
  · rw [Rsp.ok_eq_true.2 hr, Dev.tableCmd_noKey hk]
  · rw [Rsp.ok_eq_true.2 hr, Dev.tableCmd_closed hk hclosed]
  have waits : d.tableCmd del record r.ok = none := by rw [Rsp.ok_eq_true.2 hr, Dev.tableCmd_waits hk hs hon h3]
  rw [exec_adminTable_held h hi hc hd waits hp, Rsp.ok_eq_true.2 hr]

/-- The change itself, or 48h while the update engine is busy. -/
theorem exec_adminTable_open {k : Nat} {key : Key} {x : AdminAns × Dev} (hr : r = .done) (hk : recordKey record = some (k, key))
    (hs : d.isSink = false) (hon : d.on 11 = true) (ho : d.accState = 1)
    (hx : d.updSettle.tableDo del k key ((record.getD 6 0).toNat + (record.getD 7 0).toNat * 2 ^ 64) = x) :
    let g := d.updSettle
    exec i s = .next (if g.b F.CLS_UPD_STAT_BUSY = true then s.after (g.adminAnswer f a.head e.cookie { status := 0x48 })
      else s.after (x.2.adminAnswer f a.head e.cookie x.1)) := by
  intro g
  rw [exec_adminTable_answered h hi hc hd (by rw [Rsp.ok_eq_true.2 hr, Dev.tableCmd_open hk hs hon ho, hx])]
  split <;> rfl

end

/-! ACC_COMMIT (R186, R274, R275). -/

section
variable {t : Dev} {f : Nat} {e : AdminIn} {a : AdminPair} {s : State}

/-- The frame at which a commit is to be applied. -/
def Dev.commitFrame (d : Dev) (e : AdminIn) : Nat := let p := bits (e.p 0) 0 51; if p = 0 then d.clk.sfc + 2 else p

theorem Dev.commitFrame_eq (d : Dev) (e : AdminIn) :
    (if bits (e.p 0) 0 51 == 0 then d.clk.sfc + 2 else bits (e.p 0) 0 51) = d.commitFrame e := if_congr beq_iff_eq rfl rfl

variable (h : s.dev.adminTaken f e a t) (hc : e.cmd = 9)
include h hc

theorem exec_accCommit_sink (hs : t.isSink = true) :
    exec (.accCommit f e) s = .next (s.after (t.adminAnswer f a.head e.cookie { status := 0x45 })) := by
  refine (exec_accCommit f e s).trans (run_after s _ _ ((h.adminTake_code hc _).trans ?_))
  dsimp only
  rw [if_pos hs]

theorem exec_accCommit_far (hs : t.isSink = false) (hfar : t.clk.sfc + 65536 < t.commitFrame e) :
    exec (.accCommit f e) s = .next (s.after (t.adminAnswer f a.head e.cookie { status := 0x41 })) := by
  refine (exec_accCommit f e s).trans (run_after s _ _ ((h.adminTake_code hc _).trans ?_))
  dsimp only
  rw [if_neg (ne_true_of_eq_false hs), Dev.commitFrame_eq, if_pos hfar]

/-- Set 0 is idle: the commit is staged in it, and answered at once only where its check fails. -/
theorem exec_accCommit_staged (hs : t.isSink = false) (hnear : t.commitFrame e ≤ t.clk.sfc + 65536) (h0 : t.stgState 0 = 0) {u : Dev}
    (hu : (let r := t.commitStage 0 (t.commitFrame e) t.accNext
      if r.1 ≠ 0 then r.2.adminAnswer f a.head e.cookie { status := 0x47, r1 := r.1 }
      else r.2.adminHold f (.commit a.head e.cookie t.accNext)) = u) : exec (.accCommit f e) s = .next (s.after u) := by
  have first : [0, 1].find? (fun s => t.stgState s == 0) = some 0 := by simp [h0]
  refine (exec_accCommit f e s).trans (run_after s _ _ ((h.adminTake_code hc _).trans (Eq.trans ?_ hu)))
  dsimp only
  rw [if_neg (ne_true_of_eq_false hs), Dev.commitFrame_eq, if_neg (Nat.not_lt.2 hnear), first]
  dsimp only
  generalize t.commitStage 0 (t.commitFrame e) t.accNext = r
  exact if_congr bne_iff_ne rfl rfl

end

/-! EEE_WAKE, SLEEP_REQ and STATS_SNAP (R275). -/

section
variable {d : Dev} {n tw : Nat}

theorem Dev.eeeWake_wired (hw : bit (d.f F.ID_INTEG_PORT_WIRED) n = true) (ht : tw ≠ 0) (hon : d.on (18 + n) = true) :
    Dev.eeeWake n tw d = ({}, d.setI F.UPM_EEE_CFG_TW_SYS_TX n tw) :=
  (if_neg (by simp [hw, ht])).trans (if_pos hon)

theorem Dev.eeeWake_refused (h : bit (d.f F.ID_INTEG_PORT_WIRED) n = false ∨ tw = 0) : Dev.eeeWake n tw d = ({ status := 0x41 }, d) :=
  if_pos (by simpa using h)

theorem Dev.sleepReq_notAllowed {v : Bool} (hv : v = true) (h : d.f F.TST_SLEEP_ALLOWED = 0) :
    Dev.sleepReq v d = ({ status := 0x45 }, d) :=
  if_pos (by simp [hv, Dev.b_eq_false.2 h])

theorem Dev.sleepReq_taken {v : Bool} (h : v = false ∨ d.f F.TST_SLEEP_ALLOWED ≠ 0) :
    Dev.sleepReq v d = ({}, d.writeTstSleep (RegWr.full .docent (64 * b2n v))) := by
  refine if_neg ?_
  obtain rfl | h := h
  · simp
  · simp [Dev.b_eq_true.2 h]

/-- The snapshot of the registers rs in bank 1, and its words. -/
theorem Dev.statsSnap_known {f addr g : Nat} {rs : List Nat} (ha : addr % 64 = 0) (hg : snapGroup g = some rs) (c : Rsp) :
    let x := d.snapTake 1 g false rs
    Dev.statsSnap f addr g c d = (if c.ok then { r0 := 8 * (3 + rs.length) } else { status := 0x46 },
      x.docentWrite f addr (((x.obs.snap.getD 1 []).take (3 + rs.length)).flatMap (fun w => leBytes 8 w.toNat)) c.ok) := by
  have group : (if addr % 64 == 0 then snapGroup g else none) = some rs := (if_pos (beq_iff_eq.2 ha)).trans hg
  rw [Dev.statsSnap, group]
  dsimp only
  rw [Nat.mul_div_cancel_left _ (by decide)]

theorem Dev.statsSnap_refused {f addr g : Nat} (h : addr % 64 ≠ 0 ∨ snapGroup g = none) (c : Rsp) :
    Dev.statsSnap f addr g c d = ({ status := 0x41 }, d) := by
  have noGroup : (if addr % 64 == 0 then snapGroup g else none) = none := by simpa [imp_iff_not_or] using h
  rw [Dev.statsSnap, noGroup]

end

/-- Settles O49: the completion entry, and each command by the first of its checks that fails. The order of the checks, 44h for QUERY_Q, 42h
for linked queues and the set that ACC_COMMIT takes are log entry 44. -/
theorem adminCommands : Obligations.AdminCommands := by
  refine ⟨fun d f idx cookie x a ha => Dev.adminAnswer_pair ha idx cookie x, ?_⟩
  intro f e a t s h reply
  have cmd {i : Instr} {c : Nat} {g : Dev → AdminAns × Dev} {x : AdminAns} {u : Dev} (hi : exec i s = s.run (Dev.adminCmd f c e g))
      (hc : e.cmd = c) (hg : g t = (x, u)) : exec i s = .next (reply u x) := exec_adminCmd_taken h hi hc hg
  refine ⟨fun hc => cmd (exec_adminNop f e s) hc rfl, fun hc => cmd (exec_getInfo f e s) hc rfl, fun hc => ?createCq, fun hc => ?destroyCq,
    fun hc => ?createWq, fun hc => ?destroyWq, fun hc => ?query, fun record r k key hc => ?write, fun record r k key hc => ?delete,
    fun hc => ?commit, fun hc => ?eee, fun hc => ?sleep, fun hc r rs => ?snap, fun hc => ?unknown⟩
  case createCq =>
    intro lg
    have row {x : AdminAns} {u : Dev} (hg : Dev.adminCreateCq f e t = (x, u)) := cmd (exec_createCq f e s) hc hg
    refine ⟨fun hbad => row (Dev.adminCreateCq_badSize hbad), fun hlo hhi hq => row (Dev.adminCreateCq_full hlo hhi hq),
      fun q hlo hhi hq => ?_⟩
    intro d
    have free := Dev.adminCreateCq_free (f := f) hlo hhi hq
    exact ⟨fun herr => row (free.trans (congrArg (·, d) (Dev.createAns_made herr))),
      fun herr => row (free.trans (congrArg (·, d) (Dev.createAns_badAddress herr)))⟩
  case createWq =>
    intro lg cq mine rx
    have row {x : AdminAns} {u : Dev} (hg : Dev.adminCreateWq f e t = (x, u)) := cmd (exec_createWq f e s) hc hg
    refine ⟨fun hbad => row (Dev.adminCreateWq_badSize hbad), fun hlo hhi hm => row (Dev.adminCreateWq_foreign hlo hhi hm),
      fun hlo hhi hm hq => row (Dev.adminCreateWq_full hlo hhi hm hq), fun q hlo hhi hm hq => ?_⟩
    intro d
    have free := Dev.adminCreateWq_free hlo hhi hm hq
    exact ⟨fun herr => row (free.trans (congrArg (·, d) (Dev.createAns_made herr))),
      fun herr => row (free.trans (congrArg (·, d) (Dev.createAns_secondRx herr))),
      fun herr => row (free.trans (congrArg (·, d) (Dev.createAns_badAddress herr)))⟩
  case destroyCq =>
    intro q
    have hi := exec_destroyCq f e s
    refine ⟨fun hm => exec_adminDestroy_foreign h hi hc (by simpa [imp_iff_not_or] using hm), fun hready hf => ?_⟩
    intro d
    have mine : (t.cqReady q && t.f F.HRG_CQ_STAT_FUNC q == f) = true := by simp [hready, hf]
    have ended {x : AdminAns} := exec_adminDestroy_ended (x := x) h hi hc mine rfl
    refine ⟨fun hb herr => ended hb (by rw [herr]; rfl), fun hb herr => ended hb ?_,
      fun p hb hp => exec_adminDestroy_held h hi hc mine rfl hb hp⟩
    obtain herr | herr := herr <;> rw [herr] <;> rfl
  case destroyWq =>
    intro q
    have hi := exec_destroyWq f e s
    refine ⟨fun hm => exec_adminDestroy_foreign h hi hc (by simpa [imp_iff_not_or] using hm), fun hready hf => ?_⟩
    intro d
    have mine : (t.wqReady q && t.f F.HRG_WQ_STAT_FUNC q == f) = true := by simp [hready, hf]
    have ended {x : AdminAns} := exec_adminDestroy_ended (x := x) h hi hc mine rfl
    exact ⟨fun hb herr => ended hb (by rw [herr]; rfl), fun hb herr => ended hb (by rw [herr]; rfl),
      fun p hb hp => exec_adminDestroy_held h hi hc mine rfl hb hp⟩
  case query =>
    have row {x : AdminAns} {u : Dev} (hg : Dev.adminQuery f e t = (x, u)) := cmd (exec_queryQ f e s) hc hg
    exact ⟨fun hk hr hf => row (Dev.adminQuery_cq hk hr hf), fun hk hr hf => row (Dev.adminQuery_wq hk hr hf),
      fun hk hm => row (Dev.adminQuery_foreignWq hk hm)⟩
  case write =>
    intro d
    have hi := exec_tableWrite f e record r s
    obtain ⟨unread, noKey, closed, waits⟩ := exec_adminTable_unchanged (k := k) (key := key) (del := false) h hi hc rfl
    exact ⟨unread, noKey, closed,
      fun hr hk hs hon ho => exec_adminTable_open h hi hc rfl hr hk hs hon ho (Dev.tableDo_write _), waits⟩
  case delete =>
    intro d
    have hi := exec_tableDelete f e record r s
    obtain ⟨unread, noKey, closed, waits⟩ := exec_adminTable_unchanged (k := k) (key := key) (del := true) h hi hc rfl
    refine ⟨unread, noKey, closed, fun hr hk hs hon ho => ?_, waits⟩
    refine (exec_adminTable_open h hi hc rfl hr hk hs hon ho (Dev.tableDo_delete _)).trans (congrArg _ (if_congr Iff.rfl rfl ?_))
    split <;> rfl
  case commit =>
    intro p frame
    refine ⟨exec_accCommit_sink h hc, exec_accCommit_far h hc, fun hs hnear h0 => ?_⟩
    intro r
    have row {u : Dev} := exec_accCommit_staged (u := u) h hc hs hnear h0
    exact ⟨fun hwhy => row (if_pos hwhy), fun p hwhy hp => row ((if_neg (not_not.2 hwhy)).trans (Dev.adminHold_pair hp _))⟩
  case eee =>
    intro n tw
    exact ⟨fun hw ht hon => cmd (exec_eeeWake f e s) hc (Dev.eeeWake_wired hw ht hon),
      fun hbad => cmd (exec_eeeWake f e s) hc (Dev.eeeWake_refused hbad)⟩
  case sleep =>
    exact ⟨fun hv hno => cmd (exec_sleepReq f e s) hc (Dev.sleepReq_notAllowed hv hno),
      fun hok => cmd (exec_sleepReq f e s) hc (Dev.sleepReq_taken hok)⟩
  case snap =>
    refine ⟨fun ha hg => ?_, fun hbad => cmd (exec_statsSnap f e r s) hc (Dev.statsSnap_refused hbad r)⟩
    intro n x d
    have row := cmd (exec_statsSnap f e r s) hc (Dev.statsSnap_known ha hg r)
    exact ⟨fun hr => row.trans (by rw [if_pos (Rsp.ok_eq_true.2 hr)]), fun hr => row.trans (by rw [if_neg (mt Rsp.ok_eq_true.1 hr)])⟩
  case unknown =>
    exact (exec_adminUnknown f e s).trans (run_after s _ _ (h.adminTake_eq (decide_eq_true hc) _))

end Sys2Proof.Machine
end

section
/-! The instructions of the Sluice channels, retirement, descriptors and answers (R280, R284, R287 to R290, R292 to R296, R299). -/

namespace Sys2Proof.Machine

/-! The instruction that is next (R281, R284, R290). -/

section
variable {d : Dev} {c op w0 w1 : Nat}

theorem Dev.slcOp_next (h : d.slcNext c op w0 w1) (g : Nat → Nat → Dev) : d.slcOp c op g = g w0 w1 := by
  obtain ⟨hready, hnative, hop⟩ := h
  rw [Dev.slcOp, hready]
  exact if_pos (by simp [hnative, hop])

/-- The row of an instruction that is next. -/
theorem exec_slcOp_next {i : Instr} {s : State} {e : Dev} {g : Dev → Nat → Nat → Dev}
    (hi : exec i s = s.run (fun d => d.slcOp c op (g d))) (h : s.dev.slcNext c op w0 w1) (he : g s.dev w0 w1 = e) :
    exec i s = .next (s.after e) :=
  hi.trans (run_after s _ _ ((Dev.slcOp_next h _).trans he))

theorem Dev.slcReject_alone (hp : (d.ch c).prog = []) (err : Nat) : d.slcReject c err = d.slcError c err (d.ch c).next 0 false :=
  if_pos (by simp [hp])

end

/-! LOOP (R292). -/

section
variable {d : Dev} {c w0 w1 : Nat}

/-- The loop runs without end: the active loop's state says so, or the COUNT of the LOOP that opens it. -/
def Dev.loopEndless (d : Dev) (c count : Nat) : Bool := if d.b F.SLC_CH_LOOP_ACTIVE c then d.b F.SLC_CH_LOOP_ENDLESS c else count == 0

/-- The passes that remain once this one has been counted. -/
def Dev.loopLeft (d : Dev) (c count : Nat) : Nat := (if d.b F.SLC_CH_LOOP_ACTIVE c then d.f F.SLC_CH_LOOP_REMAINING c else count) - 1

/-- The loop state of channel c after a pass of the LOOP that is next. -/
def Dev.loopState (d : Dev) (c remaining active endless : Nat) : Dev :=
  (((d.setI F.SLC_CH_LOOP_REMAINING c remaining).setI F.SLC_CH_LOOP_ACTIVE c active).setI F.SLC_CH_LOOP_ENDLESS c endless).setI
    F.SLC_CH_LOOP_HOME c (d.ch c).next

theorem Dev.loopEndless_eq_true {count : Nat} : d.loopEndless c count = true ↔
    if d.f F.SLC_CH_LOOP_ACTIVE c ≠ 0 then d.f F.SLC_CH_LOOP_ENDLESS c ≠ 0 else count = 0 := by
  by_cases h : d.f F.SLC_CH_LOOP_ACTIVE c = 0 <;> simp [Dev.loopEndless, Dev.b, h]

theorem Dev.loopLeft_eq (d : Dev) (c count : Nat) :
    d.loopLeft c count = (if d.f F.SLC_CH_LOOP_ACTIVE c ≠ 0 then d.f F.SLC_CH_LOOP_REMAINING c else count) - 1 := by
  simp only [Dev.loopLeft, Dev.b_eq_true]

/-- A pass of the LOOP that is next: the last one leaves the loop clear, every other goes back with the strides added. -/
def Dev.loopPass (d : Dev) (c w0 w1 : Nat) : Dev :=
  let x := d.ch c
  let count := bits w0 0 24
  let y : SlcIns := { idx := x.next, w0 := w0, w1 := w1 }
  let last := !d.loopEndless c count && d.loopLeft c count == 0
  let e := d.loopState c (if d.loopEndless c count then 0 else d.loopLeft c count) (b2n (!last)) (b2n (d.loopEndless c count))
  if last then (e.chPut c { e.ch c with soff := 0, doff := 0 }).slcBegin c y
  else ((e.slcDropAhead c).chPut c { (e.slcDropAhead c).ch c with
    soff := x.soff + signed 32 (bits w1 32 32), doff := x.doff + signed 32 (bits w1 0 32) }).slcBeginTo c (x.next - bits w0 36 12) y

/-- BACK is judged first, then the nesting, then the strides (R289, R292). -/
theorem Dev.slcLoop_next (h : d.slcNext c 3 w0 w1) : d.slcLoop c =
    if bits w0 36 12 = 0 ∨ (d.ch c).next < bits w0 36 12 then d.slcReject c 2
    else if ¬ (¬ d.f F.SLC_CH_LOOP_ACTIVE c ≠ 0 ∨ (d.ch c).next = d.f F.SLC_CH_LOOP_HOME c) then d.slcReject c 7
    else if signed 32 (bits w1 32 32) % 64 ≠ 0 ∨ signed 32 (bits w1 0 32) % 64 ≠ 0 then d.slcReject c 1
    else d.loopPass c w0 w1 :=
  (Dev.slcOp_next h _).trans (if_congr (by simp) rfl (if_congr (by simp [Dev.b]) rfl (if_congr (by simp) rfl rfl)))

section
variable {endless : Prop} {left : Nat} (he : d.loopEndless c (bits w0 0 24) = true ↔ endless)
  (hl : d.loopLeft c (bits w0 0 24) = left)
include he hl

theorem Dev.loopPass_last (hlast : ¬ endless) (h0 : left = 0) :
    let e := d.loopState c 0 0 0
    d.loopPass c w0 w1 = (e.chPut c { e.ch c with soff := 0, doff := 0 }).slcBegin c { idx := (d.ch c).next, w0 := w0, w1 := w1 } := by
  have he : d.loopEndless c (bits w0 0 24) = false := eq_false_of_ne_true (mt he.1 hlast)
  simp [Dev.loopPass, he, hl, h0, b2n]

theorem Dev.loopPass_again [Decidable endless] (hmore : endless ∨ left ≠ 0) :
    let e := (d.loopState c (if endless then 0 else left) 1 (if endless then 1 else 0)).slcDropAhead c
    d.loopPass c w0 w1 = (e.chPut c { e.ch c with
      soff := (d.ch c).soff + signed 32 (bits w1 32 32), doff := (d.ch c).doff + signed 32 (bits w1 0 32) }).slcBeginTo c
        ((d.ch c).next - bits w0 36 12) { idx := (d.ch c).next, w0 := w0, w1 := w1 } := by
  have hgo : (!d.loopEndless c (bits w0 0 24) && left == 0) = false := by
    simpa [← he, or_iff_not_imp_left] using hmore
  have hcount : (if d.loopEndless c (bits w0 0 24) then 0 else left) = if endless then 0 else left := if_congr he rfl rfl
  have hshown : b2n (d.loopEndless c (bits w0 0 24)) = if endless then 1 else 0 := if_congr he rfl rfl
  simp only [Dev.loopPass, hl, hgo, hcount, hshown, Bool.false_eq_true, if_false]
  rfl

end

end

/-! A WAIT ends (R293). -/

section
variable {d : Dev} {c : Nat} {y : SlcIns}

theorem Dev.slcSatisfied_appeared (hy : (d.ch c).waiter = some y) (hst : (d.ch c).state = 2)
    (hh : (d.ch c).hit = true ∨ d.slcHolds c y.w0 = true) : d.slcSatisfied c = (d.slcWaitTake c y.w0).slcUnhold c := by
  rw [Dev.slcSatisfied, hy]
  exact if_pos (by simp [hst, hh])

/-- At its time, a WAIT whose condition has not appeared passes with TMO, or stops the channel. -/
theorem Dev.slcTimeout_eq (hy : (d.ch c).waiter = some y) (hst : (d.ch c).state = 2) (hh : (d.ch c).hit = false)
    (hn : d.slcHolds c y.w0 = false) (ht : bits y.w1 0 32 ≠ 0) : d.slcTimeout c =
      if bit y.w0 53 then (d.chPut c { d.ch c with tmo := true }).slcUnhold c
      else (d.chPut c { d.ch c with
        state := 1, awaits := none, prog := (d.ch c).prog.map (fun z => { z with hold := false }) }).slcFail c
          ((d.ch c).prog.length - 1) 0 6 := by
  rw [Dev.slcTimeout, hy]
  exact (if_neg (by simp [hst, ht])).trans (if_neg (by simp [hh, hn]))

end

/-! The oldest instruction retires (R284, R299). -/

section
variable {d : Dev} {c : Nat} {h : SlcIns} (hp : (d.ch c).prog = [h]) (h3 : (d.ch c).state ≠ 3) (h5 : (d.ch c).state ≠ 5)
  (h6 : (d.ch c).state ≠ 6) (h7 : (d.ch c).state ≠ 7)
include hp h3 h5 h6 h7

theorem Dev.slcRetire_native (hm : d.slcRing c = false) (hb : h.back = 0) (hf : h.finished false = true) :
    let e := (d.chPut c { d.ch c with prog := [], idx := h.idx, octets := h.written }).slcRetired c (bit h.w0 58) (bit h.w0 57)
    d.slcRetire c = ((e.slcStand c).slcBack c 0).slcFetch c := by
  simp [Dev.slcRetire, hp, h3, h5, h6, h7, hm, hb, hf]

theorem Dev.slcRetire_endOfChain (hm : d.slcRing c = true) (hf : h.finished true = true) (he : bit h.w0 61 = true) :
    let e := (d.chPut c { d.ch c with prog := [], idx := h.idx, octets := h.written }).slcRetired c false (bit h.w0 62)
    d.slcRetire c = e.slcIdle c := by
  simp [Dev.slcRetire, hp, h3, h5, h6, h7, hm, hf, he]

end

/-! A running channel in native mode without a next instruction (R296). -/

theorem exec_slcBad {c : Nat} {s : State} (hc : c < 16) (hon : s.dev.on 28 = true) (hm : s.dev.slcRing c = false) (hst : (s.dev.ch c).state = 1)
    (hp : (s.dev.ch c).prog = [])
    (hbad : 65535 < (s.dev.ch c).next ∨
      (s.dev.ch c).next ≤ 65535 ∧ ∃ l rest, (s.dev.ch c).ahead = l :: rest ∧ (bits (l.getD 0 0) 60 4 = 0 ∨ 7 ≤ bits (l.getD 0 0) 60 4)) :
    exec (.slcBadInstruction c) s = .next (s.after (s.dev.slcError c 2 (s.dev.ch c).next 0 false)) := by
  refine (exec_slcBadInstruction c s).trans (run_after s _ _ ((if_neg ?_).trans ?_))
  · simp [hon, hm, hst, hp, hc]
  obtain hend | ⟨hle, l, rest, hl, hop⟩ := hbad
  · exact if_pos hend
  · refine (if_neg (by omega)).trans ?_
    rw [hl]
    exact if_pos (by simpa using hop)

/-! What a read brings is written in address order (R284, R290). -/

section
variable {d : Dev} {c k : Nat} {y : SlcIns}

theorem Dev.slcData_whole (hy : (d.ch c).prog[k]? = some y) (e : Nat × Nat × Nat × Nat) (data : List Byte) :
    let z := { y with reads := y.reads.erase e, got := y.got ++ [{ pos := e.2.1, len := e.2.2.1, dst := e.2.2.2, data := data, bad := none }] }
    d.slcData c k e data none = (d.chPut c { d.ch c with prog := (d.ch c).prog.set k z }).slcPutDue c k z.got.length := by
  rw [Dev.slcData, hy]
  rfl

/-- The octets of a whole burst are written to its destination. -/
theorem Dev.slcPut_whole {g : SlcGot} (hy : (d.ch c).prog[k]? = some y) (hf : y.fail = none) (hg : g.bad = none) (hl : g.len ≠ 0)
    (hd : g.data.length = g.len) : d.slcPut c k g = d.slcWriteBlock c k g.pos g.dst g.data := by
  have hall (l : List Byte) : (g.data ++ l).take g.len = g.data := List.take_left' hd
  simp [Dev.slcPut, hy, hf, hg, hl, hall]

theorem Dev.slcPutDue_whole {g : SlcGot} (hy : (d.ch c).prog[k]? = some y) (hf : y.fail = none) (hg : y.due = some g) (hb : g.bad = none)
    (hl : g.len ≠ 0) (hd : g.data.length = g.len) (n : Nat) :
    d.slcPutDue c k (n + 1) = ((d.chPut c { d.ch c with prog := (d.ch c).prog.set k { y with got := y.got.erase g } }).slcWriteBlock c
      k g.pos g.dst g.data).slcPutDue c k n := by
  obtain ⟨hk, -⟩ := List.getElem?_eq_some_iff.1 hy
  rw [Dev.slcPutDue, hy]
  simp only [hg]
  refine congrArg (Dev.slcPutDue · c k n) (Dev.slcPut_whole (y := { y with got := y.got.erase g }) ?_ hf hb hl hd)
  rw [Dev.ch_chPut]
  exact List.getElem?_set_self hk

end

/-! A descriptor begins (R298 to R300). -/

section
variable {d : Dev} {c : Nat} {l : List Nat}

/-- The descriptor that is next in the ring, of the words l, as it begins. -/
def SlcCh.descriptor (x : SlcCh) (l : List Nat) : SlcIns := { idx := x.next, w0 := l.getD 0 0, w1 := l.getD 1 0, w2 := l.getD 2 0 }

/-- What R289 finds wrong with the block of a descriptor. -/
def descriptorErr (l : List Nat) : Nat :=
  let len := bits (l.getD 0 0) 0 25
  let src := bits (l.getD 1 0) 0 48
  let dst := bits (l.getD 2 0) 0 48
  blockErr [(src : Int), (dst : Int), (len : Int)] [((src : Int), len), ((dst : Int), len)]

theorem Dev.slcDescriptor_next (hl : d.slcReady c = some l) (hm : d.slcRing c = true) :
    let e := d.slcBegin c (if descriptorErr l == 0 then (d.ch c).descriptor l
      else { (d.ch c).descriptor l with fail := some (0, descriptorErr l) })
    d.slcDescriptor c =
      if descriptorErr l == 0 then
        e.slcReadBlock c ((e.ch c).prog.length - 1) (bits (l.getD 1 0) 0 48) (bits (l.getD 2 0) 0 48) (bits (l.getD 0 0) 0 25)
      else e := by
  rw [Dev.slcDescriptor, hl]
  exact if_neg (by simp [hm])

theorem Dev.slcDescriptor_begins (hl : d.slcReady c = some l) (hm : d.slcRing c = true) (he : descriptorErr l = 0) :
    let e := d.slcBegin c ((d.ch c).descriptor l)
    d.slcDescriptor c =
      e.slcReadBlock c ((e.ch c).prog.length - 1) (bits (l.getD 1 0) 0 48) (bits (l.getD 2 0) 0 48) (bits (l.getD 0 0) 0 25) := by
  rw [Dev.slcDescriptor_next hl hm]
  simp only [he, beq_self_eq_true, if_true]

theorem Dev.slcDescriptor_fails (hl : d.slcReady c = some l) (hm : d.slcRing c = true) (he : descriptorErr l ≠ 0) :
    d.slcDescriptor c = d.slcBegin c { (d.ch c).descriptor l with fail := some (0, descriptorErr l) } := by
  rw [Dev.slcDescriptor_next hl hm]
  simp only [beq_false_of_ne he, Bool.false_eq_true, if_false]

end

/-- Settles O51: each row is its instruction where that is the next one, and each instruction is judged, in the order of its checks, before it
begins; an answer goes to the part of the channel that asked for it. The write bursts, the order of LOOP's checks and the errors that wait for
earlier instructions are log entry 41. -/
theorem sluiceInstructions : Obligations.SluiceInstructions := by
  refine ⟨?move, ?gather, ?loop, ?wait, ?waited, ?signal, fun c w0 d => rfl, ?last, ?bad, ?retire, ?descriptor, ?read,
    fun c k e data y d hy => Dev.slcData_whole hy e data,
    fun c k n y g d hy hf hg hb hl hd => Dev.slcPutDue_whole hy hf hg hb hl hd n, ?written⟩
  case move =>
    intro c w0 w1 s h x len src dst e
    have row {u : Dev} := exec_slcOp_next (e := u) (exec_slcMove c s) h
    exact ⟨fun he => row (if_neg (mt bne_iff_ne.1 (not_not.2 he))),
      fun he hp => row ((if_pos (bne_iff_ne.2 he)).trans (Dev.slcReject_alone hp e))⟩
  case gather =>
    intro c w0 w1 s h x n base tbl e
    have row {u : Dev} := exec_slcOp_next (e := u) (exec_slcGather c s) h
    exact ⟨fun he => row (if_neg (mt bne_iff_ne.1 (not_not.2 he))),
      fun he hp => row ((if_pos (bne_iff_ne.2 he)).trans (Dev.slcReject_alone hp e))⟩
  case loop =>
    intro c w0 w1 s h x back count ss ds active home endless left
    have row {u : Dev} (hu : _ = u) := (exec_slcLoop c s).trans (run_after s _ u ((Dev.slcLoop_next h).trans hu))
    have near (h0 : back ≠ 0) (hle : back ≤ x.next) : ¬ (back = 0 ∨ x.next < back) := by omega
    have even (hs : ss % 64 = 0) (hd : ds % 64 = 0) : ¬ (ss % 64 ≠ 0 ∨ ds % 64 ≠ 0) := by simp [hs, hd]
    have pass {u : Dev} (h0 : back ≠ 0) (hle : back ≤ x.next) (hh : home) (hs : ss % 64 = 0) (hd : ds % 64 = 0)
        (hu : s.dev.loopPass c w0 w1 = u) :=
      row ((if_neg (near h0 hle)).trans ((if_neg (not_not.2 hh)).trans ((if_neg (even hs hd)).trans hu)))
    have hend : s.dev.loopEndless c count = true ↔ endless := Dev.loopEndless_eq_true
    have hleft : s.dev.loopLeft c count = left := s.dev.loopLeft_eq c count
    refine ⟨fun hb hp => row ((if_pos hb).trans (Dev.slcReject_alone hp 2)),
      fun h0 hle hh hp => row ((if_neg (near h0 hle)).trans ((if_pos hh).trans (Dev.slcReject_alone hp 7))),
      fun h0 hle hh he hl hs hd => pass h0 hle hh hs hd (Dev.loopPass_last hend hleft he hl),
      fun h0 hle hh hs hp => row ((if_neg (near h0 hle)).trans ((if_neg (not_not.2 hh)).trans ((if_pos hs).trans
        (Dev.slcReject_alone hp 1)))),
      fun h0 hle hh hgo hs hd => pass h0 hle hh hs hd (Dev.loopPass_again hend hleft hgo)⟩
  case wait =>
    intro c w0 w1 s h hflag x
    have row {u : Dev} := exec_slcOp_next (e := u) (exec_slcWait c s) h
    have hknown : ¬ (bit w0 56 && decide (bits w0 0 11 > 15)) = true := by
      simpa [or_iff_not_imp_left] using hflag
    exact ⟨fun hh => row ((if_neg hknown).trans (if_pos hh)),
      fun hh => row ((if_neg hknown).trans (if_neg (ne_true_of_eq_false hh)))⟩
  case waited =>
    intro c y s hc hon hy hst x
    have on {e u : Dev} (he : e = u) : (if (decide (c < 16) && s.dev.on 28) = true then e else s.dev) = u :=
      (if_pos (by simp [hc, hon])).trans he
    refine ⟨fun hh => (exec_slcWaitSatisfied c s).trans (run_after s _ _ (on (Dev.slcSatisfied_appeared hy hst hh))),
      fun hh hn ht => ?_⟩
    have row {u : Dev} (hu : s.dev.slcTimeout c = u) := (exec_slcWaitTimeout c s).trans (run_after s _ _ (on hu))
    have late := Dev.slcTimeout_eq hy hst hh hn ht
    exact ⟨fun hb => row (late.trans (if_pos hb)), fun hb => row (late.trans (if_neg (ne_true_of_eq_false hb)))⟩
  case signal =>
    intro c at' w0 w1 s h hw x a d
    have row {u : Dev} := exec_slcOp_next (e := u) (exec_slcSignal c at' s) h
    have answered : ¬ (s.dev.ch c).prog.any (fun y => !y.writes.isEmpty) = true := by simpa using hw
    refine ⟨fun hb => row ((if_neg answered).trans ((if_neg ?_).trans (if_neg (ne_true_of_eq_false hb)))),
      fun hb he => row ((if_neg answered).trans ((if_neg ?_).trans (if_pos hb)))⟩
    · simp [hb]
    · rw [if_pos hb]
      exact mt bne_iff_ne.1 (not_not.2 he)
  case last =>
    intro c w0 w1 s h hp
    exact exec_slcOp_next (exec_slcEnd c s) h (if_pos (by simp [hp]))
  case bad =>
    intro c l rest s hc hon hm x hst _ hp
    exact ⟨fun hn => exec_slcBad hc hon hm hst hp (.inl hn),
      fun hn hl hop => exec_slcBad hc hon hm hst hp (.inr ⟨hn, l, rest, hl, hop⟩)⟩
  case retire =>
    intro c h s hc hon x h3 h5 h6 h7 hp
    have row {u : Dev} (hu : s.dev.slcRetire c = u) := (exec_slcInstructionRetire c s).trans
      (run_after s _ u ((if_pos (by simp [hc, hon])).trans hu))
    exact ⟨fun hm hb hf => row (Dev.slcRetire_native hp h3 h5 h6 h7 hm hb hf),
      fun hm hf he => row (Dev.slcRetire_endOfChain hp h3 h5 h6 h7 hm hf he)⟩
  case descriptor =>
    intro c l s hl hc hm x len src dst y e
    have row {u : Dev} (hu : s.dev.slcDescriptor c = u) : exec (.slcDescriptor c) s = .next (s.after (u.slcBack c 0)) :=
      (exec_slcDescriptor c s).trans (run_after s _ _ ((if_pos hc).trans (congrArg (Dev.slcBack · c 0) hu)))
    exact ⟨fun he => row (Dev.slcDescriptor_begins hl hm he), fun he => row (Dev.slcDescriptor_fails hl hm he)⟩
  case read =>
    intro c b data codes r s h d bad x
    have row {u : Dev} (hu : _ = u) := (exec_slcReadResponse c b data codes s).trans (run_answer (e := u) h hu)
    refine ⟨fun hf => row (if_pos (beq_iff_eq.2 hf)), fun k hf hk => row ((if_neg (mt beq_iff_eq.1 hf)).trans ?_),
      fun k y e hf ht hk hy he => row ((if_neg (mt beq_iff_eq.1 hf)).trans ?_)⟩
    · rw [hk]
    · rw [ht, hk]
      dsimp only
      rw [List.getD_eq_getElem?_getD, hy, Option.getD_some, he]
  case written =>
    intro c b fbeat code r k y e s h d x hk hy he
    have row {u : Dev} (hu : (if code.ok && e.2.2 != 0 then d.countN F.SLC_CH_OCT_OCTETS r.len c else d) = u) :
        exec (.slcWriteResponse c b code fbeat) s = .next (s.after ((u.slcWritten c k e code fbeat).slcAfter c k)) := by
      refine (exec_slcWriteResponse c b code fbeat s).trans (run_answer h ?_)
      dsimp only
      rw [hk]
      dsimp only
      rw [List.getD_eq_getElem?_getD, hy, Option.getD_some, he, ← hu]
    exact ⟨fun hc hn => row (if_pos (by simp [Rsp.ok_eq_true.2 hc, hn])), fun hc => row (if_neg (by simp [Rsp.ok_eq_false.2 hc]))⟩

end Sys2Proof.Machine
end

section
/-! A step and what settles with it: the front command, the idle edge (log entry 6), what settling leaves, the canonical form, the machine
at reset (log entry 7) and the interrupt lines (R311, R315, R511). -/

namespace Sys2Proof.Machine

/-- Settles O1: `step` is defined by the front of the queue. -/
theorem stepRunsFrontCommand : Obligations.StepRunsFrontCommand := fun _ _ _ => rfl

/-- Settles O2: the empty queue runs the idle edge, settled. -/
theorem idleStepIsOneEdge : Obligations.IdleStepIsOneEdge := by
  intro d
  refine run_after _ Dev.idle _ ?_
  simp only [Dev.idle, Bool.or_eq_true]

/-- Settles O3: every command is an effect on the device, settled, with the queue as it is. -/
theorem everyCommandAnswersNext : Obligations.EveryCommandAnswersNext := by
  intro c s
  obtain ⟨g, hg⟩ := exec_run c s
  exact ⟨_, hg, rfl⟩

/-- Settles O7: the parts one by one, and the fields of the main file outside CKX_CORE_CTL. -/
theorem settlesOnly : Obligations.SettlesOnly := fun d => ⟨d.settle_parts, d.settle_f⟩

/-- Settles O10: an assignment stores into one of the two files and leaves the other as it was. -/
theorem assignmentKeepsCanonicalForm : Obligations.AssignmentKeepsCanonicalForm := by
  intro d x i j v h
  obtain ⟨hregs, haux⟩ : SMap.wf d.regs = true ∧ SMap.wf d.aux = true := by simpa [Dev.filesWf] using h
  cases hx : x.isAux
  · simp [Dev.filesWf, Dev.setIJ, hx, SMap.wf_store, hregs, haux]
  · simp [Dev.filesWf, Dev.setIJ, hx, SMap.wf_store, hregs, haux]

/-! The machine at reset. -/

/-- At reset nothing settles: no entry and no Watch is under way, the first domains stand as start-up has them, and the rest is off. -/
theorem Dev.reset_settle : Dev.reset.settle = Dev.reset := by
  have watch : Dev.reset.watchSettle = Dev.reset := by decide
  have entry : Dev.reset.entrySettle = Dev.reset := by decide
  have refusals : Dev.reset.schedRefusals = Dev.reset := by decide
  have domain : ∀ k ∈ domains, Dev.reset.domainSettle k = Dev.reset := by decide
  have domains : Dev.reset.domainsSettle = Dev.reset :=
    List.foldlRecOn (motive := (· = Dev.reset)) _ _ rfl (fun d h k hk => (congrArg (·.domainSettle k) h).trans (domain k hk))
  have startup : Dev.reset.startupSettle = Dev.reset := by decide
  have state : Dev.reset.stateSettle = Dev.reset := by decide
  have reg : Dev.reset.regSettle = Dev.reset := by decide
  simp only [Dev.settle, watch, entry, refusals, domains, startup, state, reg, Dev.reset_drivePins]

/-- RST_CAUSE holds one bit at reset: POR_PIN. -/
theorem Dev.reset_cause : Dev.reset.stored 0x10100 = 1 := by decide +kernel

/-- Settles O8: the fields of the reset state, and that it is settled. -/
theorem resetLeaves : Obligations.ResetLeaves :=
  ⟨rfl, by decide, rfl, rfl, Dev.reset_cause, rfl, rfl, Dev.reset_settle⟩

/-! The interrupt lines. -/

/-- The mask of the lines below `n` that are not driven low. -/
def linesHigh (low : Nat → Bool) (n : Nat) : Nat := (List.range n).foldl (fun a q => if low q then a else a + 2 ^ q) 0

theorem linesHigh_succ (low : Nat → Bool) (n : Nat) :
    linesHigh low (n + 1) = if low n then linesHigh low n else linesHigh low n + 2 ^ n := by
  simp [linesHigh, List.range_succ]

theorem linesHigh_lt (low : Nat → Bool) (n : Nat) : linesHigh low n < 2 ^ n := by
  induction n with
  | zero => simp [linesHigh]
  | succ n ih => rw [linesHigh_succ, Nat.pow_succ]; split <;> omega

theorem testBit_linesHigh (low : Nat → Bool) (n q : Nat) : (linesHigh low n).testBit q = (decide (q < n) && !low q) := by
  induction n with
  | zero => simp [linesHigh]
  | succ n ih =>
    have hn := linesHigh_lt low n
    have add : (linesHigh low n + 2 ^ n).testBit q = if q < n then (linesHigh low n).testBit q else decide (q = n) := by
      rw [Nat.add_comm, ← Nat.mul_one (2 ^ n), Nat.testBit_two_pow_mul_add _ hn]
      split
      · rfl
      · rw [Bool.eq_iff_iff, Nat.testBit_one_eq_true_iff_self_eq_zero, decide_eq_true_iff]; omega
    rw [linesHigh_succ]
    rcases Nat.lt_trichotomy q n with h | rfl | h
    · cases hl : low n <;> simp [add, ih, h, Nat.lt_succ_of_lt h]
    · cases hl : low q <;> simp [add, ih]
    · cases hl : low n <;> simp [add, ih, show ¬ q < n by omega, show ¬ q < n + 1 by omega, show ¬ q = n by omega]

theorem Dev.irqPins_eq (d : Dev) : d.irqPins = linesHigh d.irq 8 := rfl

theorem Dev.bit_irqPins (d : Dev) {q : Nat} (hq : q < 8) : bit d.irqPins q = !d.irq q := by
  rw [d.irqPins_eq, bit_eq_testBit, testBit_linesHigh, decide_eq_true hq, Bool.true_and]

theorem Dev.irq_iff (d : Dev) (q : Nat) : d.irq q = true ↔
    d.f F.PWR_DOM_PSTATE 29 = 2 ∧ d.f F.EVQ_Q_CFG_EN q ≠ 0 ∧ d.f F.EVQ_Q_CFG_ASLEEP q = 0 ∧
      d.f F.EVQ_Q_PI_PI q ≠ d.f F.EVQ_Q_CI_CI q := by
  simp [Dev.irq, Dev.on, Dev.b, and_assoc]

/-- Settles O6: after a step the lines are as the state drives them, and line q is low where the state asks for it. -/
theorem irqLevelAfterEveryStep : Obligations.IrqLevelAfterEveryStep := by
  intro s t q h hq
  obtain ⟨hirq, -⟩ := stepsDriveThePins s t h
  rw [hirq, t.dev.bit_irqPins hq, Bool.not_eq_false', Dev.irq_iff]

end Sys2Proof.Machine
end

section
/-! The register target: which row an offset is, and how it answers an unpowered domain, the stub and an unprivileged agent (R475, R495,
R508, R509, R518, R523). -/

namespace Sys2Proof.Machine

section
variable {off : Nat} {w : RegWr} {d : Dev}

/-! What an offset is. -/

theorem not_page (h : off < 0x110000 ∨ 0x114000 ≤ off) : ¬ (decide (0x110000 ≤ off) && decide (off < 0x114000)) = true := by
  simp; omega

theorem not_userPage (h : off < 0x1FF000 ∨ 0x200000 ≤ off) : ¬ (decide (0x1FF000 ≤ off) && decide (off < 0x200000)) = true := by
  simp; omega

/-- A write outside the doorbell pages passes the gates of its register, or meets none (R508). -/
theorem Dev.busWrite_offPages (hb : busOffset off = true) (hp : off < 0x110000 ∨ 0x114000 ≤ off) :
    Dev.busWrite off w d = if (fldsAt off).isEmpty then d.hole w.agent off else d.gated off w (Dev.writeReg off w) := by
  rw [Dev.busWrite, if_neg (by simp [hb]), if_neg (not_page hp)]

theorem Dev.busRead_offUserPage {a : Agent} {t : Nat} (hb : busOffset off = true) (hp : off < 0x1FF000 ∨ 0x200000 ≤ off) :
    Dev.busRead a off t d = if (fldsAt off).isEmpty then d.hole a off else d.gatedRead a off (Dev.readReg a off t) := by
  rw [Dev.busRead, if_neg (by simp [hb]), if_neg (not_userPage hp)]

/-- An offset of a doorbell page is a page of a function and an offset in it (R523). -/
theorem Dev.busWrite_page {f o : Nat} (hf : f < 4) (ho : o < 0x1000) (ho8 : o % 8 = 0) :
    Dev.busWrite (0x110000 + 0x1000 * f + o) w d = Dev.pageWrite f o w d := by
  rw [Dev.busWrite, if_neg (by simp [busOffset]; omega), if_pos (by simp; omega),
    show (0x110000 + 0x1000 * f + o - 0x110000) / 0x1000 = f by omega, show (0x110000 + 0x1000 * f + o) % 0x1000 = o by omega]

theorem Dev.busWrite_doorbell {f n : Nat} (hf : f < 4) (hn : n < 4) :
    Dev.busWrite (0x110000 + 0x1000 * f + 8 * n) w d = Dev.doorbellRow f n w d := by
  rw [Dev.busWrite_page hf (by omega) (by omega)]
  obtain rfl | rfl | rfl | rfl : n = 0 ∨ n = 1 ∨ n = 2 ∨ n = 3 := by omega
  all_goals rfl

theorem Dev.busWrite_funcRst {f : Nat} (hf : f < 4) : Dev.busWrite (0x1100F0 + 0x1000 * f) w d = Dev.funcRstRow f w d := by
  rw [show 0x1100F0 + 0x1000 * f = 0x110000 + 0x1000 * f + 0xF0 by omega, Dev.busWrite_page hf (by omega) (by omega)]
  rfl

theorem dbOff_doorbell {f n : Nat} (hn : n < 4) : dbOff f n = 0x110000 + 0x1000 * f + 8 * n := by
  rw [dbOff, if_neg (by simp; omega)]

/-- The registers whose writes have a meaning of their own. -/
abbrev wrTable : List WrEntry := wrFront ++ wrMiddle ++ wrBack

theorem wrAt_entry {n i j : Nat} {x : Fld} {h : Nat → Nat → RegWr → Dev → Dev} (hx : wrTable[n]? = some (x, h))
    (hat : x.at? off = some (i, j)) (hn : (wrTable.take n).all (fun p => (p.1.at? off).isNone) = true) : wrAt off = some (h i j) := by
  have head : wrTable.drop n = (x, h) :: wrTable.drop (n + 1) := by
    obtain ⟨hlt, hget⟩ := List.getElem?_eq_some_iff.1 hx
    rw [List.drop_eq_getElem_cons hlt, hget]
  have before : (wrTable.take n).filterMap (fun p => (p.1.at? off).map (fun ij => p.2 ij.1 ij.2)) = [] := by
    simp only [List.filterMap_eq_nil_iff, Option.map_eq_none_iff]
    simpa using hn
  have : wrAt off = (wrTable.filterMap (fun p => (p.1.at? off).map (fun ij => p.2 ij.1 ij.2))).head? := rfl
  rw [this, ← List.take_append_drop n wrTable, List.filterMap_append, before, head]
  simp [hat]

/-- A register whose write has a meaning of its own. -/
theorem exec_registerWrite_own {g : RegWr → Dev → Dev} (s : State) (hb : busOffset off = true) (hp : off < 0x110000 ∨ 0x114000 ≤ off)
    (hf : (fldsAt off).isEmpty = false) (hg : wrAt off = some g) :
    exec (.registerWrite off w) s = s.run (fun d => d.gated off w (g w)) := by
  have own : Dev.writeReg off w = g w := funext fun d => by rw [Dev.writeReg, hg]
  rw [exec_registerWrite]
  refine congrArg s.run (funext fun d => ?_)
  rw [Dev.busWrite_offPages hb hp, if_neg (by simp [hf]), own]

end

/-- Settles O15: outside the doorbell pages the offset names the register and its own write; a page's offset names its doorbell. -/
theorem rowsAreRegisterWrites : Obligations.RowsAreRegisterWrites := by
  intro w s
  have row {c : Instr} {off i j : Nat} {x : Fld} {h : Nat → Nat → RegWr → Dev → Dev} (n : Nat) (hx : wrTable[n]? = some (x, h))
      (hc : exec c s = s.run (fun d => d.gated off w (h i j w)))
      (hr : busOffset off = true ∧ (off < 0x110000 ∨ 0x114000 ≤ off) ∧ (fldsAt off).isEmpty = false ∧ x.at? off = some (i, j) ∧
        (wrTable.take n).all (fun p => (p.1.at? off).isNone) = true) : exec c s = exec (.registerWrite off w) s := by
    obtain ⟨hb, hp, hf, hat, hn⟩ := hr
    exact hc.trans (exec_registerWrite_own s hb hp hf (wrAt_entry hx hat hn)).symm
  have page {c : Instr} {off : Nat} {g : Dev → Dev} (hc : exec c s = s.run g) (hg : ∀ d, Dev.busWrite off w d = g d) :
      exec c s = exec (.registerWrite off w) s :=
    hc.trans ((exec_registerWrite off w s).trans (congrArg s.run (funext hg))).symm
  refine ⟨row (i := 0) (j := 0) 12 rfl (exec_rxEnWrite w s) (by decide +kernel),
    row (i := 0) (j := 0) 14 rfl (exec_gateWrite w s) (by decide +kernel),
    row (i := 0) (j := 0) 15 rfl (exec_phyWakeWrite w s) (by decide +kernel),
    row (i := 0) (j := 0) 18 rfl (exec_activateWrite w s) (by decide +kernel),
    row (i := 0) (j := 0) 22 rfl (exec_timeAdjWrite w s) (by decide +kernel),
    row (i := 0) (j := 0) 21 rfl (exec_todRateWrite w s) (by decide +kernel),
    row (i := 0) (j := 0) 30 rfl (exec_qscFlush w s) (by decide +kernel),
    row (i := 0) (j := 0) 10 rfl (exec_pwrPondCfgWrite w s) (by decide +kernel),
    row (i := 0) (j := 0) 46 rfl (exec_slcFlagSet w s) (by decide +kernel),
    row (i := 0) (j := 0) 47 rfl (exec_slcFlagClr w s) (by decide +kernel),
    row (i := 0) (j := 0) 53 rfl (exec_evqSwsrcWrite w s) (by decide +kernel),
    row (i := 2) (j := 0) 56 rfl (exec_seqPatchWrite w s) (by decide +kernel),
    row (i := 1) (j := 0) 59 rfl (exec_mb1Ack w s) (by decide +kernel),
    row (i := 0) (j := 0) 60 rfl (exec_wdogKick w s) (by decide +kernel),
    row (i := 0) (j := 0) 61 rfl (exec_stgSelWrite w s) (by decide +kernel),
    row (i := 0) (j := 0) 7 rfl (exec_pwrHvoteWrite w s) (by decide +kernel),
    row (i := 0) (j := 0) 8 rfl (exec_pwrCvoteWrite w s) (by decide +kernel),
    row (i := 0) (j := 0) 2 rfl (exec_pwrDvfsCtlWrite w s) (by decide +kernel),
    row (i := 0) (j := 0) 4 rfl (exec_pwrRegWrite w s) (by decide +kernel),
    row (i := 0) (j := 0) 5 rfl (exec_pwrWatchCtlWrite w s) (by decide +kernel),
    row (i := 0) (j := 0) 64 rfl (exec_twnEnWrite w s) (by decide +kernel),
    row (i := 0) (j := 0) 76 rfl (exec_obsSnapGo w s) (by decide +kernel),
    row (i := 0) (j := 0) 67 rfl (exec_pmcRunWrite w s) (by decide +kernel),
    row (i := 0) (j := 0) 70 rfl (exec_trcCfgWrite w s) (by decide +kernel),
    row (i := 0) (j := 0) 74 rfl (exec_trcSeedWrite w s) (by decide +kernel),
    row (i := 0) (j := 0) 72 rfl (exec_trcCiWrite w s) (by decide +kernel),
    row (i := 0) (j := 0) 75 rfl (exec_bwCfgWrite w s) (by decide +kernel),
    fun f hf => ⟨?_, ?_, ?_, ?_, ?_⟩⟩
  · rw [show 0x110000 + 0x1000 * f = 0x110000 + 0x1000 * f + 8 * 0 by omega]
    exact page (exec_hrgDbWq f w s) fun d => Dev.busWrite_doorbell hf (by decide)
  · rw [show 0x110008 + 0x1000 * f = 0x110000 + 0x1000 * f + 8 * 1 by omega]
    exact page (exec_hrgDbCq f w s) fun d => Dev.busWrite_doorbell hf (by decide)
  · rw [show 0x110010 + 0x1000 * f = 0x110000 + 0x1000 * f + 8 * 2 by omega]
    exact page (exec_hrgDbAwq f w s) fun d => Dev.busWrite_doorbell hf (by decide)
  · rw [show 0x110018 + 0x1000 * f = 0x110000 + 0x1000 * f + 8 * 3 by omega]
    exact page (exec_hrgDbAcq f w s) fun d => Dev.busWrite_doorbell hf (by decide)
  · exact page (exec_hrgFuncRst f w s) fun d => (Dev.busWrite_funcRst hf).trans (if_neg (Nat.not_le.2 hf)).symm

/-! The gates one by one. -/

section
variable {off : Nat} {w : RegWr} {a : Agent} {d : Dev}

theorem Dev.asleep_iff : d.asleep = true ↔ d.inStill = true ∨ d.inOff = true := by simp [Dev.asleep]

theorem Dev.reach_asleep (h : d.asleep = true) (a : Agent) : d.reach a = true := by simp [Dev.reach, h]

theorem Dev.gated_asleep (h : d.asleep = true) (g : Dev → Dev) : d.gated off w g = (d.wake 3).respond .deny := by
  rw [Dev.gated, if_neg (by simp [Dev.reach_asleep h]), if_pos h, Dev.stub]

theorem Dev.gatedRead_asleep (h : d.asleep = true) (g : Dev → Nat × Dev) : d.gatedRead a off g = (d.wake 3).respond .deny := by
  rw [Dev.gatedRead, if_neg (by simp [Dev.reach_asleep h]), if_pos h, Dev.stub]

theorem Dev.hole_asleep (h : d.asleep = true) : d.hole a off = (d.wake 3).respond .deny := by
  rw [Dev.hole, if_neg (by simp [Dev.reach_asleep h]), if_pos h, Dev.stub]

theorem Dev.userRead_asleep (h : d.asleep = true) (o : Nat) : Dev.userRead a o d = (d.wake 3).respond .deny := by
  rw [Dev.userRead, if_neg (by simp [Dev.reach_asleep h]), if_pos h, Dev.stub]

theorem Dev.doorbellRow_asleep {f n : Nat} (hf : f < 4) (h : d.asleep = true) : Dev.doorbellRow f n w d = (d.wake 3).respond .deny := by
  rw [Dev.doorbellRow, if_neg (by simp [Dev.reach_asleep h, hf]), if_pos h, Dev.stub]

/-- The gates of a write that reaches the target and is not denied, while its domain is unpowered (R495). -/
theorem Dev.gated_unpowered (hr : d.reach w.agent = true) (hm : (w.agent == .docent && mpuWrite off) = false)
    (hd : d.denied w.agent = false) (hon : d.on (domainOf off) = false) (g : Dev → Dev) :
    d.gated off w g = (d.regDropped off).accessed d w.agent off := by
  rw [Dev.gated, if_neg (by simp [hr]), if_neg (by simp [not_asleep hd]), if_neg (by simp [hm]), if_neg (by simp [hd]),
    if_pos (by simp [hon])]

theorem Dev.gatedRead_unpowered (hr : d.reach a = true) (hm : (a == .docent && mpuRead off) = false)
    (hd : d.denied a = false) (hon : d.on (domainOf off) = false) (g : Dev → Nat × Dev) :
    d.gatedRead a off g = (d.respond .done 0).accessed d a off := by
  rw [Dev.gatedRead, if_neg (by simp [hr]), if_neg (by simp [not_asleep hd]), if_neg (by simp [hm]), if_neg (by simp [hd]),
    if_pos (by simp [hon])]

/-- A doorbell rings whatever PD27 does; unpowered, its engine's is held (R414, R495). -/
theorem Dev.doorbellRow_held {f n : Nat} (hf : f < 4) (hr : d.reach w.agent = true) (hd : d.denied w.agent = false)
    (hon : (d.dbRung w.agent f n).on 27 = false) :
    Dev.doorbellRow f n w d = { d.dbRung w.agent f n with
      pwr := { (d.dbRung w.agent f n).pwr with heldDb := (d.dbRung w.agent f n).pwr.heldDb ++ [(f, n, w)] } } := by
  rw [Dev.doorbellRow, if_neg (by simp [hr, hf]), if_neg (by simp [not_asleep hd]), if_neg (by simp [hd])]
  exact if_neg (by simp [hon])

/-! The gates for an unprivileged function (R475, R509). -/

section
variable {f : Fin 4} (hr : d.reach (.host f true) = true)
include hr

theorem Dev.gated_unprivileged (ha : w.agent = .host f true) (hs : d.asleep = false) (g : Dev → Dev) :
    d.gated off w g = (d.respond .deny).accessed d (.host f true) off := by
  have denied : d.denied (.host f true) = true := by simp [Dev.denied]
  rw [Dev.gated, ha, if_neg (by simp [hr]), if_neg (by simp [hs]), if_neg (by simp), if_pos denied]

theorem Dev.gatedRead_unprivileged (hs : d.asleep = false) (g : Dev → Nat × Dev) :
    d.gatedRead (.host f true) off g = (d.respond .deny).accessed d (.host f true) off := by
  have denied : d.denied (.host f true) = true := by simp [Dev.denied]
  rw [Dev.gatedRead, if_neg (by simp [hr]), if_neg (by simp [hs]), if_neg (by simp), if_pos denied]

theorem Dev.hole_unprivileged (hs : d.asleep = false) : d.hole (.host f true) off = (d.respond .deny).accessed d (.host f true) off := by
  have denied : d.denied (.host f true) = true := by simp [Dev.denied]
  rw [Dev.hole, if_neg (by simp [hr]), if_neg (by simp [hs]), if_pos denied]

theorem Dev.doorbellRow_unprivileged {p n : Nat} (hp : p < 4) (ha : w.agent = .host f true) (hs : d.asleep = false) :
    Dev.doorbellRow p n w d = (d.respond .deny).accessed d (.host f true) (dbOff p n) := by
  have denied : d.denied (.host f true) = true := by simp [Dev.denied]
  rw [Dev.doorbellRow, ha, if_neg (by simp [hr, hp]), if_neg (by simp [hs]), if_pos denied]

theorem Dev.funcRstRow_unprivileged {p : Nat} (hp : p < 4) (ha : w.agent = .host f true) (hs : d.asleep = false) :
    Dev.funcRstRow p w d = (d.respond .deny).accessed d (.host f true) (dbOff p 4) := by
  have denied : d.denied w.agent = true := by simp [ha, Dev.denied]
  rw [Dev.funcRstRow, if_pos (by simp [denied]), Dev.doorbellRow_unprivileged hr hp ha hs]

/-- Whatever a doorbell page holds at an offset, its unprivileged write is denied. -/
theorem Dev.pageWrite_unprivileged {p o : Nat} (hp : p < 4) (ha : w.agent = .host f true) (hs : d.asleep = false) :
    Dev.pageWrite p o w d = (d.respond .deny).accessed d (.host f true) (0x110000 + 0x1000 * p + o) := by
  have row {n : Nat} := Dev.doorbellRow_unprivileged (n := n) hr hp ha hs
  unfold Dev.pageWrite
  split_ifs with h0 h8 h10 h18 hF0
  · rw [row, beq_iff_eq.1 h0]; rfl
  · rw [row, beq_iff_eq.1 h8]; rfl
  · rw [row, beq_iff_eq.1 h10]; rfl
  · rw [row, beq_iff_eq.1 h18]; rfl
  · rw [Dev.funcRstRow_unprivileged hr hp ha hs, beq_iff_eq.1 hF0]; rfl
  · rw [ha, Dev.hole_unprivileged hr hs]

/-- Every unprivileged write is denied (R475, R509). -/
theorem Dev.busWrite_unprivileged (hb : busOffset off = true) (ha : w.agent = .host f true) (hs : d.asleep = false) :
    Dev.busWrite off w d = (d.respond .deny).accessed d (.host f true) off := by
  by_cases hp : off < 0x110000 ∨ 0x114000 ≤ off
  · rw [Dev.busWrite_offPages hb hp]
    split
    · rw [ha, Dev.hole_unprivileged hr hs]
    · rw [Dev.gated_unprivileged hr ha hs]
  · obtain ⟨p, o, rfl, hp4, ho, ho8⟩ : ∃ p o, off = 0x110000 + 0x1000 * p + o ∧ p < 4 ∧ o < 0x1000 ∧ o % 8 = 0 := by
      have h8 : off % 8 = 0 := by simp [busOffset] at hb; exact hb.1
      exact ⟨(off - 0x110000) / 0x1000, off % 0x1000, by omega, by omega, by omega, by omega⟩
    rw [Dev.busWrite_page hp4 ho ho8, Dev.pageWrite_unprivileged hr hp4 ha hs]

end

/-! The user page (R475). -/

theorem Dev.busRead_userPage {o t : Nat} (h8 : o % 8 = 0) (ho : o < 0x1000) : Dev.busRead a (0x1FF000 + o) t d = Dev.userRead a o d := by
  rw [Dev.busRead, if_neg (by simp [busOffset]; omega), if_pos (by simp; omega), Nat.add_sub_cancel_left]

theorem Dev.userWord_eq {o : Nat} (h8 : o % 8 = 0) : d.userWord o =
    if o = 0 then d.f F.OBS_CYCLE_CYCLE
    else if o ≤ 64 ∧ d.f F.OBS_PMC_CFG_USER (o / 8 - 1) ≠ 0 then d.f F.OBS_PMC_CNT_COUNT (o / 8 - 1) else 0 := by
  unfold Dev.userWord
  refine if_congr beq_iff_eq rfl (if_congr ?_ rfl rfl)
  rw [Bool.and_eq_true, decide_eq_true_iff, Dev.b_eq_true]
  exact and_congr_left fun _ => by omega

theorem Dev.userServed_iff : d.userServed a = true ↔
    match a with | .host f u => u = false ∨ bit (d.f F.OBS_CTL_UACC) f.val = true | _ => True := by
  cases a with
  | host f u => cases u <;> simp [Dev.userServed]
  | _ => simp [Dev.userServed]

theorem Dev.userRead_served {o : Nat} (hr : d.reach a = true) (hs : d.asleep = false) (hu : d.userServed a = true) :
    Dev.userRead a o d = (d.respond .done (d.userWord o)).accessed d a (0x1FF000 + o) := by
  rw [Dev.userRead, if_neg (by simp [hr]), if_neg (by simp [hs]), if_pos hu]

theorem Dev.userRead_closed {f : Fin 4} {o : Nat} (hr : d.reach (.host f true) = true) (hs : d.asleep = false)
    (hu : bit (d.f F.OBS_CTL_UACC) f.val = false) :
    Dev.userRead (.host f true) o d = (d.respond .deny).accessed d (.host f true) (0x1FF000 + o) := by
  rw [Dev.userRead, if_neg (by simp [hr]), if_neg (by simp [hs]), if_neg (by simp [Dev.userServed, hu])]

end

theorem Dev.asleep_awake {d : Dev} (hs : d.inStill = false) (ho : d.inOff = false) : d.asleep = false := by simp [Dev.asleep, hs, ho]

/-- Settles O12: the page serves its word where it is open, and every other unprivileged access is denied at its gate. -/
theorem userPage : Obligations.UserPage := by
  refine ⟨fun o t a s h8 ho hs hoff hr ha => ?_, fun off t f s hb hs hoff hr hn => ?_, fun off f m v s hb hs hoff hr => ?_⟩
  · refine (exec_registerRead _ _ _ s).trans (run_after s _ _ ?_)
    rw [Dev.busRead_userPage h8 ho, Dev.userRead_served hr (Dev.asleep_awake hs hoff) (Dev.userServed_iff.2 ha), Dev.userWord_eq h8]
  · have awake := Dev.asleep_awake hs hoff
    refine (exec_registerRead _ _ _ s).trans (run_after s _ _ ?_)
    by_cases hp : off < 0x1FF000 ∨ 0x200000 ≤ off
    · rw [Dev.busRead_offUserPage hb hp]
      split
      · exact Dev.hole_unprivileged hr awake
      · exact Dev.gatedRead_unprivileged hr awake _
    · obtain ⟨o, rfl, ho⟩ : ∃ o, off = 0x1FF000 + o ∧ o < 0x1000 := ⟨off - 0x1FF000, by omega, by omega⟩
      have h8 : o % 8 = 0 := by simp [busOffset] at hb; omega
      rw [Dev.busRead_userPage h8 ho, Dev.userRead_closed hr awake (by tauto)]
  · exact (exec_registerWrite _ _ s).trans (run_after s _ _ (Dev.busWrite_unprivileged hr hb rfl (Dev.asleep_awake hs hoff)))

end Sys2Proof.Machine
end

section
/-! What an event, a wake and a counted access leave of the registers (R306, R426, R471), and the accesses of an unpowered domain and of a
block in Still or Off (R495). -/

namespace Sys2Proof.Machine

/-- A field that no event and no wake changes: neither the arming of a source nor the wake causes. -/
def Fld.quiet (y : Fld) (k l : Nat) : Prop :=
  y.isAux = false ∨ ((∀ n, y.key k l ≠ F.EVQ_SRC_ARMED.key n 0) ∧ y.key k l ≠ F.PWR_WAKE_STAT_CAUSES.key 0 0)

/-- A field of the power controller outside PWR_WAKE_STAT. -/
theorem quiet_power {y : Fld} {k l : Nat} (h : y.key k l < 0x150000 * 64) (hw : y.key k l ≠ F.PWR_WAKE_STAT_CAUSES.key 0 0) :
    y.quiet k l := by
  refine .inr ⟨fun n => ?_, hw⟩
  simp only [Fld.key, F.EVQ_SRC_ARMED] at h ⊢
  omega

theorem quiet_pstate {k : Nat} (hk : k ≤ 32) : F.PWR_DOM_PSTATE.quiet k 0 := by
  refine quiet_power ?_ ?_
  all_goals
    simp only [Fld.key, F.PWR_DOM_PSTATE, F.PWR_WAKE_STAT_CAUSES]
    omega

section
variable {d : Dev} {y : Fld} {k l : Nat} (hq : y.quiet k l)
include hq

theorem Dev.f_setCauses (v : Nat) : (d.set F.PWR_WAKE_STAT_CAUSES v).f y k l = d.f y k l :=
  Dev.f_set_ne _ _ _ _ _ _ (hq.imp (fun h => by rw [h]; decide) And.right)

theorem Dev.f_setArmed (n v : Nat) : (d.setI F.EVQ_SRC_ARMED n v).f y k l = d.f y k l :=
  Dev.f_setI_ne _ _ _ _ _ _ _ (hq.imp (fun h => by rw [h]; decide) fun h => h.1 n)

theorem Dev.f_wake (c : Nat) : (d.wake c).f y k l = d.f y k l := by
  unfold Dev.wake
  dsimp only
  split
  · rfl
  · split
    · exact Dev.f_setCauses hq _
    · exact Dev.f_setCauses hq _

omit hq in
theorem Dev.f_slcSaw (s : Nat) (b : Bool) : (d.slcSaw s b).f y k l = d.f y k l := Dev.f_congr y k l (by simp) (by simp)

theorem Dev.f_capture (s : Nat) (b : Bool) : (d.capture s b).f y k l = d.f y k l := by
  have armed (e : Dev) (c : Bool) : (if c then e.setI F.EVQ_SRC_ARMED s 0 else e).f y k l = e.f y k l := by
    cases c
    · rfl
    · exact Dev.f_setArmed hq s 0
  have woken (e : Dev) (c : Bool) : (if c then e.wake 6 else e).f y k l = e.f y k l := by
    cases c
    · rfl
    · exact Dev.f_wake hq 6
  exact (woken _ _).trans ((armed _ _).trans rfl)

theorem Dev.f_raise (s : Nat) : (d.raise s).f y k l = d.f y k l := by
  unfold Dev.raise
  dsimp only
  split
  · rw [Dev.f_capture hq, Dev.f_slcSaw]
  · exact Dev.f_slcSaw s true

theorem Dev.f_raiseIf (c : Bool) (s : Nat) : (d.raiseIf c s).f y k l = d.f y k l := by
  cases c
  · rfl
  · exact Dev.f_raise hq s

/-- Counting an event leaves a field of the power controller as it was. -/
theorem Dev.f_pmcAdd_aux (ha : y.isAux = true) (n m : Nat) : (d.pmcAdd n m).f y k l = d.f y k l := by
  unfold Dev.pmcAdd
  exact (Dev.f_raiseIf hq _ _).trans (Dev.f_setI_ne _ _ _ _ _ _ _ (.inl (by rw [ha]; decide)))

theorem Dev.f_accessed_aux (ha : y.isAux = true) (old : Dev) (a : Agent) (off : Nat) : (d.accessed old a off).f y k l = d.f y k l := by
  unfold Dev.accessed
  split
  · rfl
  · refine foldl_parts _ (fun d => d.f y k l) (fun d n => ?_) _ _
    split
    · exact Dev.f_pmcAdd_aux hq ha n 1
    · rfl

end

theorem Dev.on_iff {d : Dev} {k : Nat} (hk : 1 ≤ k) : d.on k = true ↔ d.f F.PWR_DOM_PSTATE k = 2 := by
  simp [Dev.on]; omega

/-- A doorbell rung leaves the power of the domains as it was. -/
theorem Dev.on_dbRung (d : Dev) (a : Agent) (f n : Nat) {k : Nat} (hk : k ≤ 32) : (d.dbRung a f n).on k = d.on k := by
  have same : (d.dbRung a f n).f F.PWR_DOM_PSTATE k = d.f F.PWR_DOM_PSTATE k :=
    (Dev.f_accessed_aux (quiet_pstate hk) rfl _ _ _).trans (Dev.f_wake (quiet_pstate hk) 3)
  simp only [Dev.on, same]

/-- Settles O11: each access by the gate that stops it. -/
theorem unpoweredDomainAccess : Obligations.UnpoweredDomainAccess := by
  refine ⟨fun off w s hb hp hf hr hm hd hon => ?_, fun off t a s hb hp hf hr hm hd hon => ?_, fun f n w s hf hn hr hd hon => ?_,
    fun off t a w s hb hlow => ?_⟩
  · refine (exec_registerWrite off w s).trans (run_after s _ _ ?_)
    rw [Dev.busWrite_offPages hb hp, if_neg (by simpa using hf), Dev.gated_unpowered hr hm hd hon]
    rfl
  · refine (exec_registerRead a off t s).trans (run_after s _ _ ?_)
    rw [Dev.busRead_offUserPage hb hp, if_neg (by simpa using hf), Dev.gatedRead_unpowered hr hm hd hon]
  · refine (exec_registerWrite _ w s).trans (run_after s _ _ ?_)
    rw [Dev.busWrite_doorbell hf hn, Dev.doorbellRow_held hf hr hd ((Dev.on_dbRung _ _ _ _ (by decide)).trans hon), Dev.dbRung,
      dbOff_doorbell hn]
  · have asleep := Dev.asleep_iff.2 hlow
    refine ⟨fun hp => ?_, ?_, fun f n hf hn => ?_⟩
    · refine (exec_registerWrite off w s).trans (run_after s _ _ ?_)
      rw [Dev.busWrite_offPages hb hp]
      split
      · exact Dev.hole_asleep asleep
      · exact Dev.gated_asleep asleep _
    · refine (exec_registerRead a off t s).trans (run_after s _ _ ?_)
      by_cases hp : off < 0x1FF000 ∨ 0x200000 ≤ off
      · rw [Dev.busRead_offUserPage hb hp]
        split
        · exact Dev.hole_asleep asleep
        · exact Dev.gatedRead_asleep asleep _
      · rw [Dev.busRead, if_neg (by simp [hb]), if_pos (by simp; omega), Dev.userRead_asleep asleep]
    · refine (exec_registerWrite _ w s).trans (run_after s _ _ ?_)
      rw [Dev.busWrite_doorbell hf hn, Dev.doorbellRow_asleep hf asleep]

/-! A fabric request without an answer (R505). -/

/-- An answer to no request but a noted one removes the note, and a waiting request of that initiator is served. -/
theorem Dev.answer_late {d : Dev} {k : FabKind} {n : Nat} (ho : d.outstanding k = none) (hl : (k, n) ∈ d.fab.late) (hx : d.xUp 6 = true)
    (c : Rsp) (g : FabReq → Dev → Dev) : d.answer k c g =
      { d with fab := { d.fab with late := d.fab.late.eraseP (fun p => p.1 == k) } }.fabPump (kindWrites k) := by
  have noted : d.fab.late.any (fun p => p.1 == k) = true := List.any_eq_true.2 ⟨_, hl, beq_self_eq_true k⟩
  rw [Dev.answer, ho]
  exact if_pos (by rw [hx, noted]; rfl)

/-- Settles O16: a request with no answer is answered FAULT under a note of its tags, and the note meets the late answer. -/
theorem acfTimeoutIsFault : Obligations.AcfTimeoutIsFault := by
  refine ⟨fun k r s ho => ?_, fun k n c g d ho hl hx => Dev.answer_late ho hl hx c g⟩
  refine (exec_acfTimeout k s).trans (run_after s _ _ ?_)
  rw [Dev.acfTimeout, ho]

end Sys2Proof.Machine
end

section
/-! What the votes do to a domain (R342, R414, R416, R417). -/

namespace Sys2Proof.Machine

/-! The fields of one domain. -/

/-- A field of PWR_DOM[k] or PWR_DOM_CNT[k]. -/
def Fld.ofDomain (y : Fld) : Prop := (y.base = 0x20100 ∨ y.base = 0x20108) ∧ y.s1 = 0x10 ∧ y.lo < 64

theorem Fld.ofDomain.isAux {y : Fld} (hy : y.ofDomain) : y.isAux = true := by
  obtain ⟨hb, -, -⟩ := hy
  rw [Fld.isAux]
  obtain hb | hb := hb <;> simp [hb]

theorem Fld.ofDomain.key_ne {x y : Fld} (hx : x.ofDomain) (hy : y.ofDomain) {j k : Nat}
    (h : j ≠ k ∨ x.base ≠ y.base ∨ x.lo ≠ y.lo) : x.key j 0 ≠ y.key k 0 := by
  obtain ⟨hxb, hxs, hxl⟩ := hx
  obtain ⟨hyb, hys, hyl⟩ := hy
  simp only [Fld.key, hxs, hys]
  omega

theorem Fld.ofDomain.quiet {y : Fld} (hy : y.ofDomain) {k : Nat} (hk : k ≤ 32) : y.quiet k 0 := by
  obtain ⟨hb, hs, hl⟩ := hy
  refine quiet_power ?_ ?_
  all_goals
    simp only [Fld.key, hs, F.PWR_WAKE_STAT_CAUSES]
    omega

theorem ofDomain_pstate : F.PWR_DOM_PSTATE.ofDomain := ⟨.inl rfl, rfl, by decide⟩
theorem ofDomain_votes : F.PWR_DOM_VOTES.ofDomain := ⟨.inl rfl, rfl, by decide⟩
theorem ofDomain_aborts : F.PWR_DOM_CNT_ABORTS.ofDomain := ⟨.inr rfl, rfl, by decide⟩
theorem ofDomain_abortSrc : F.PWR_DOM_CNT_ABORT_SRC.ofDomain := ⟨.inr rfl, rfl, by decide⟩

theorem Dev.f_setI_domain {x y : Fld} (hx : x.ofDomain) (hy : y.ofDomain) (d : Dev) (v : Nat) {j k : Nat}
    (h : j ≠ k ∨ y.base ≠ x.base ∨ y.lo ≠ x.lo) : (d.setI x k v).f y j = d.f y j :=
  Dev.f_setI_ne _ _ _ _ _ _ _ (.inr (Fld.ofDomain.key_ne hy hx h))

theorem Dev.f_evLevelAll {d : Dev} {y : Fld} {k l : Nat} (hq : y.quiet k l) : d.evLevelAll.f y k l = d.f y k l := by
  refine foldl_parts _ (fun d => d.f y k l) (fun d n => ?_) _ _
  unfold Dev.evLevelNow
  split
  · exact Dev.f_capture hq n true
  · rfl

/-! The move of a domain, by the state it stands in. -/

section
variable {d : Dev} {k : Nat}

/-- The domain with its votes stored. -/
def Dev.voted (d : Dev) (k : Nat) : Dev := d.setI F.PWR_DOM_VOTES k (d.votes k)

/-- The reversed power-down of a domain (R417): usable at once, an abort with the wake that reversed it, or 8. -/
def Dev.reversed (d : Dev) (k : Nat) : Dev :=
  (((d.setI F.PWR_DOM_PSTATE k 2).count F.PWR_DOM_CNT_ABORTS k).setI F.PWR_DOM_CNT_ABORT_SRC k (d.pwr.latched.getD 8)).raise 1356

theorem Dev.f_voted {y : Fld} (hy : y.ofDomain) {j : Nat} (h : j ≠ k ∨ y.base ≠ 0x20100 ∨ y.lo ≠ 4) : (d.voted k).f y j = d.f y j :=
  Dev.f_setI_domain ofDomain_votes hy d _ h

theorem Dev.f_voted_pstate (j : Nat) : (d.voted k).f F.PWR_DOM_PSTATE j = d.f F.PWR_DOM_PSTATE j :=
  Dev.f_voted ofDomain_pstate (.inr (.inr (by decide)))

theorem Dev.f_voted_votes : (d.voted k).f F.PWR_DOM_VOTES k = d.votes k % 2 ^ 7 := Dev.f_setI_same _ _ _ _

@[simp] theorem Dev.voted_pwr : (d.voted k).pwr = d.pwr := by simp [Dev.voted]

theorem Dev.mayRise_voted : (d.voted k).mayRise k = d.mayRise k := by
  simp only [Dev.mayRise, Dev.voted_pwr, Dev.f_voted_pstate]

theorem Dev.wanted_iff (v : Nat) : d.wanted k v = true ↔ v ≠ 0 ∧ ¬ (d.f F.MBX_BOOT_STAGE = 7 ∧ 2 ≤ k) := by
  simp only [Dev.wanted, Bool.and_eq_true, bne_iff_ne, Bool.not_eq_true', Bool.and_eq_false_iff, beq_eq_false_iff_ne,
    decide_eq_false_iff_not, not_and_or]

/-- What becomes of a domain that stands in power state `p`. -/
def Dev.domainMoved (d : Dev) (k : Nat) (want : Bool) : Nat → Dev
  | 0 => if want && d.mayRise k then
      { d.setI F.PWR_DOM_PSTATE k 1 with pwr := { d.pwr with seen := withBit d.pwr.seen k true } } else d
  | 2 => if !want then d.setI F.PWR_DOM_PSTATE k 3 else d
  | 3 => if want then (if k == 29 then (d.reversed k).evLevelAll else d.reversed k) else d
  | _ => d

theorem Dev.domainSettle_eq (d : Dev) (k : Nat) :
    d.domainSettle k = (d.voted k).domainMoved k (d.wanted k (d.votes k)) (d.f F.PWR_DOM_PSTATE k) := by
  rw [← Dev.f_voted_pstate (k := k)]
  rfl

/-- A field of any domain after a reversal: that of the events is the device's before them. -/
theorem Dev.f_reversed {y : Fld} (hy : y.ofDomain) {j : Nat} (hj : j ≤ 32) : (d.reversed k).f y j =
    (((d.setI F.PWR_DOM_PSTATE k 2).count F.PWR_DOM_CNT_ABORTS k).setI F.PWR_DOM_CNT_ABORT_SRC k (d.pwr.latched.getD 8)).f y j :=
  Dev.f_raise (hy.quiet hj) 1356

theorem Dev.f_reversed_pstate {j : Nat} (hj : j ≤ 32) :
    (d.reversed k).f F.PWR_DOM_PSTATE j = if j = k then 2 else d.f F.PWR_DOM_PSTATE j := by
  rw [Dev.f_reversed ofDomain_pstate hj, Dev.f_setI_domain ofDomain_abortSrc ofDomain_pstate _ _ (.inr (.inl (by decide))),
    Dev.f_count_ne _ _ _ _ (.inr (Fld.ofDomain.key_ne ofDomain_pstate ofDomain_aborts (.inr (.inl (by decide)))))]
  split
  case isTrue h => rw [h, Dev.f_setI_same]; rfl
  case isFalse h => exact Dev.f_setI_domain ofDomain_pstate ofDomain_pstate _ _ (.inl h)

theorem Dev.f_reversed_aborts (hk : k ≤ 32) :
    (d.reversed k).f F.PWR_DOM_CNT_ABORTS k = min (d.f F.PWR_DOM_CNT_ABORTS k + 1) 0xFFFF := by
  rw [Dev.f_reversed ofDomain_aborts hk, Dev.f_setI_domain ofDomain_abortSrc ofDomain_aborts _ _ (.inr (.inr (by decide))),
    Dev.f_count_same _ _ rfl, Dev.f_setI_domain ofDomain_pstate ofDomain_aborts _ _ (.inr (.inl (by decide)))]
  rfl

theorem Dev.f_reversed_abortSrc (hk : k ≤ 32) : (d.reversed k).f F.PWR_DOM_CNT_ABORT_SRC k = d.pwr.latched.getD 8 % 16 := by
  rw [Dev.f_reversed ofDomain_abortSrc hk, Dev.f_setI_same]
  rfl

theorem Dev.f_reversed_votes {j : Nat} (hj : j ≤ 32) : (d.reversed k).f F.PWR_DOM_VOTES j = d.f F.PWR_DOM_VOTES j := by
  rw [Dev.f_reversed ofDomain_votes hj, Dev.f_setI_domain ofDomain_abortSrc ofDomain_votes _ _ (.inr (.inl (by decide))),
    Dev.f_count_ne _ _ _ _ (.inr (Fld.ofDomain.key_ne ofDomain_votes ofDomain_aborts (.inr (.inl (by decide))))),
    Dev.f_setI_domain ofDomain_pstate ofDomain_votes _ _ (.inr (.inr (by decide)))]

/-- The level sources that a reversed PD29 captures change no field of a domain. -/
theorem Dev.f_domainMoved_reversed {y : Fld} (hy : y.ofDomain) {j : Nat} (hj : j ≤ 32) :
    (d.domainMoved k true 3).f y j = (d.reversed k).f y j := by
  change (if (k == 29) = true then (d.reversed k).evLevelAll else d.reversed k).f y j = _
  split
  · exact Dev.f_evLevelAll (hy.quiet hj)
  · rfl

theorem Dev.f_setPstate_votes (v j : Nat) : (d.setI F.PWR_DOM_PSTATE k v).f F.PWR_DOM_VOTES j = d.f F.PWR_DOM_VOTES j :=
  Dev.f_setI_domain ofDomain_pstate ofDomain_votes _ _ (.inr (.inr (by decide)))

theorem Dev.f_setPstate_ne (v : Nat) {j : Nat} (h : j ≠ k) : (d.setI F.PWR_DOM_PSTATE k v).f F.PWR_DOM_PSTATE j = d.f F.PWR_DOM_PSTATE j :=
  Dev.f_setI_domain ofDomain_pstate ofDomain_pstate _ _ (.inl h)

/-- A move leaves the votes, and the power state of every other domain. -/
theorem Dev.f_domainMoved_other {y : Fld} {j : Nat} (hj : j ≤ 32) (want : Bool) (p : Nat)
    (h : y = F.PWR_DOM_VOTES ∨ y = F.PWR_DOM_PSTATE ∧ j ≠ k) : (d.domainMoved k want p).f y j = d.f y j := by
  have hy : y.ofDomain := by
    obtain rfl | ⟨rfl, -⟩ := h
    · exact ofDomain_votes
    · exact ofDomain_pstate
  have set (v : Nat) : (d.setI F.PWR_DOM_PSTATE k v).f y j = d.f y j := by
    obtain rfl | ⟨rfl, hne⟩ := h
    · exact Dev.f_setPstate_votes v j
    · exact Dev.f_setPstate_ne v hne
  have reversed : (d.reversed k).f y j = d.f y j := by
    obtain rfl | ⟨rfl, hne⟩ := h
    · exact Dev.f_reversed_votes hj
    · rw [Dev.f_reversed_pstate hj, if_neg hne]
  unfold Dev.domainMoved
  split
  · split
    · exact set 1
    · rfl
  · split
    · exact set 3
    · rfl
  · cases want
    · rfl
    · exact (Dev.f_domainMoved_reversed hy hj).trans reversed
  · rfl

/-- The power states in which the votes leave a domain as it stands. -/
theorem Dev.domainMoved_stays {want : Bool} {p : Nat}
    (h : (p = 0 ∧ ¬ (want = true ∧ d.mayRise k = true)) ∨ (p = 2 ∧ want = true) ∨ (p = 3 ∧ ¬ want = true) ∨ p = 1) :
    d.domainMoved k want p = d := by
  obtain ⟨rfl, h⟩ | ⟨rfl, h⟩ | ⟨rfl, h⟩ | rfl := h
  · exact if_neg (by simpa using h)
  · exact if_neg (by simp [h])
  · exact if_neg h
  · rfl

end

/-- Settles O22: a domain by the power state it stands in. -/
theorem domainFollowsVotes : Obligations.DomainFollowsVotes := by
  intro d k hk hk' e p want
  have hwant : d.wanted k (d.votes k) = true ↔ want := d.wanted_iff _
  have moved : e = (d.voted k).domainMoved k (d.wanted k (d.votes k)) p := d.domainSettle_eq k
  refine ⟨?_, fun hp hw hr => ?_, fun hp hw => ?_, fun hp hw => ?_, fun h => ?_, fun j hj hjk => ?_⟩
  · rw [moved, Dev.f_domainMoved_other hk' _ _ (.inl rfl), Dev.f_voted_votes]
  · rw [moved, hp, hwant.2 hw, Dev.domainMoved, if_pos (by simp [Dev.mayRise_voted, hr])]
    exact Dev.f_setI_same (d.voted k) F.PWR_DOM_PSTATE k 1
  · rw [moved, hp, Bool.eq_false_iff.2 (mt hwant.1 hw), Dev.domainMoved, if_pos (by rfl)]
    exact Dev.f_setI_same (d.voted k) F.PWR_DOM_PSTATE k 3
  · rw [moved, hp, hwant.2 hw, Dev.f_domainMoved_reversed ofDomain_pstate hk', Dev.f_domainMoved_reversed ofDomain_aborts hk',
      Dev.f_domainMoved_reversed ofDomain_abortSrc hk', Dev.f_reversed_pstate hk', Dev.f_reversed_aborts hk', Dev.f_reversed_abortSrc hk',
      Dev.f_voted ofDomain_aborts (.inr (.inl (by decide))), Dev.voted_pwr]
    exact ⟨if_pos rfl, rfl, rfl⟩
  · rw [moved, Dev.domainMoved_stays (by rw [hwant, Dev.mayRise_voted]; exact h), Dev.f_voted_pstate]
  · rw [moved, Dev.f_domainMoved_other hj _ _ (.inr ⟨rfl, hjk⟩), Dev.f_voted_pstate]

end Sys2Proof.Machine
end

section
/-! Votes, operating points and Watch (R353, R408 to R411, R414 to R416, R422, R423, R426). -/

namespace Sys2Proof.Machine

/-! Votes (R414 to R416). -/

section
variable {d : Dev} {w : RegWr}

theorem Dev.writeHvote_host (h : w.agent.isHost = true) : Dev.writeHvote w d =
    d.castVotes 2 (2 * d.f F.PWR_HVOTE_VOTE) (2 * w.merged F.PWR_HVOTE_VOTE (d.f F.PWR_HVOTE_VOTE))
      (fun m d => d.set F.PWR_HVOTE_VOTE (m / 2)) :=
  if_neg (by simp [h])

theorem Dev.writeHvote_other (h : w.agent.isHost = false) : Dev.writeHvote w d = d := if_pos (by simp [h])

theorem Dev.writeCvote_curator (h : w.agent = .curator) :
    let held := if d.pwr.held then 1 + 2 ^ 31 else 0
    let new := w.merged F.PWR_CVOTE_VOTE (d.f F.PWR_CVOTE_VOTE)
    Dev.writeCvote w d = d.castVotes 0 (2 * (d.f F.PWR_CVOTE_VOTE ||| held)) (2 * (new ||| held))
      (fun m d => d.set F.PWR_CVOTE_VOTE (new &&& (m / 2))) :=
  if_neg (by simp [h])

theorem Dev.writeCvote_other (h : w.agent ≠ .curator) : Dev.writeCvote w d = d := if_pos (by simp [h])

theorem Dev.service_runs (hr : d.docentRuns = true) (hon : d.on 1 = true) (g : Dev → Dev) : d.service g = g d := if_pos (by simp [hr, hon])

end

/-- Settles O23: each write is the change of its client's votes, refused where R415 says so (log entries 14 and 49). -/
theorem voteCommands : Obligations.VoteCommands := by
  refine ⟨fun w s ha hp => ?_, fun w s ha hp => ?_, fun k v s hk hk' hr hon => ?_, fun w s => ⟨fun ha hp => ?_, fun ha hp => ?_⟩⟩
  · exact (exec_pwrHvoteWrite w s).trans (run_gated s _ w hp (Dev.writeHvote_host ha))
  · exact (exec_pwrCvoteWrite w s).trans (run_gated s _ w hp (Dev.writeCvote_curator ha))
  · refine (exec_vote k v s).trans (run_after s _ _ ?_)
    rw [Dev.service_runs hr hon, Dev.docentVote, if_neg (by simp; omega)]
  · exact (exec_pwrHvoteWrite w s).trans (run_gated s _ w hp (Dev.writeHvote_other ha))
  · exact (exec_pwrCvoteWrite w s).trans (run_gated s _ w hp (Dev.writeCvote_other ha))

/-! Operating points (R409 to R411). -/

section
variable {d : Dev}

theorem Dev.dvfsStep_onPll (h : d.onPll = true) :
    let cur := d.f F.PWR_DVFS_STAT_FPOINT
    let aim := d.wantPoints.1
    let p := if cur ≤ aim then aim else max aim d.pwr.ackPoint
    let e : Dev := { d with pwr := { d.pwr with fTarget := none } }
    d.dvfsStep = (if p = cur then e else ((e.set F.PWR_DVFS_STAT_FPOINT p).count F.PWR_DVFS_STAT_STEPS).raise 1345).pursue := by
  intro cur aim p e
  rw [Dev.dvfsStep, if_neg (by simp [h])]
  exact congrArg Dev.pursue (if_congr beq_iff_eq rfl rfl)

theorem Dev.avsAck_awaited (h : d.pwr.avsWait = true) :
    let a := d.set F.PWR_DVFS_STAT_AVS_ACK 1
    let e : Dev := { a with pwr := { a.pwr with
      avsWait := false, ackPoint := a.f F.PWR_DVFS_STAT_VPOINT, ackCode := a.f F.PWR_DVFS_STAT_AVS_REQ } }
    d.avsAck = if d.pwr.exiting then e.exitDone else e.pursue := by
  intro a e
  have exiting : e.pwr.exiting = d.pwr.exiting := by simp [e, a]
  rw [Dev.avsAck, if_neg (by simp [h]), ← exiting]

theorem Dev.avsTimeout_awaited (h : d.pwr.avsWait = true) : d.avsTimeout = (d.count F.PWR_AVS_STAT_TIMEOUTS).raise 1348 := if_pos h

/-- The smallest margin is known: the loop acts on it (R410). -/
def Dev.avsJudged (d : Dev) (m : Nat) : Dev :=
  let t := d.z F.PWR_DVFS_STAT_TRIM
  let c := d.set F.PWR_AVS_STAT_AT_LIMIT 0
  let l := (d.set F.PWR_AVS_STAT_AT_LIMIT 1).raise 1347
  if m < d.f F.PWR_AVS_CTL_MARGIN_LO then
    if trimTop (d.f F.PWR_DVFS_STAT_VPOINT) ≤ t then
      ({ l with pwr := { l.pwr with fTarget := some (min 4 (l.f F.PWR_DVFS_STAT_FPOINT + 1)), avsHold := 8000 } } : Dev).dvfsPending
    else if c.pwr.avsWait then c else c.trimTo (t + 1)
  else if d.f F.PWR_AVS_CTL_MARGIN_HI < m ∧ -8 < t ∧ d.pwr.avsWait = false then c.trimTo (t - 1) else c

theorem Dev.f_atLimit (v : Nat) : (d.set F.PWR_AVS_STAT_AT_LIMIT v).f F.PWR_AVS_CTL_MARGIN_HI = d.f F.PWR_AVS_CTL_MARGIN_HI :=
  Dev.f_set_ne _ _ _ _ _ _ (.inr (by decide))

theorem Dev.avsLoop_judged {margins : List Nat} (hen : d.f F.PWR_AVS_CTL_EN ≠ 0) (hpll : d.onPll = true) (hm : margins ≠ []) :
    let m := minMargin (margins.map (fun x => x % 64))
    Dev.avsLoop margins d = ((d.set F.PWR_AVS_STAT_MIN_MARGIN m.1).set F.PWR_AVS_STAT_MIN_MON m.2).avsJudged m.1 := by
  intro m
  rw [Dev.avsLoop, if_neg (by simp [Dev.b, hen, hpll, hm])]
  refine if_congr Iff.rfl rfl (if_congr ?_ rfl rfl)
  simp only [Bool.and_eq_true, decide_eq_true_iff, Bool.not_eq_true', Dev.f_atLimit, Dev.set_parts, gt_iff_lt, and_assoc]
  rfl

end

/-- Settles O25: the guard's step, the two ends of a request, and the loop by its smallest margin (log entry 14). -/
theorem frequencyAndVoltage : Obligations.FrequencyAndVoltage := by
  refine ⟨fun s h => ?_, fun s h => ⟨?_, ?_⟩, fun margins s hen hpll hm => ?_⟩
  · exact (exec_dvfsStep s).trans (run_after s _ _ (Dev.dvfsStep_onPll h))
  · exact (exec_avsAck s).trans (run_after s _ _ (Dev.avsAck_awaited h))
  · exact (exec_avsTimeout s).trans (run_after s _ _ (Dev.avsTimeout_awaited h))
  · exact (exec_avsLoop margins s).trans (run_after s _ _ (Dev.avsLoop_judged hen hpll hm))

/-! Watch (R422, R423, R426). -/

section
variable {d : Dev}

theorem Dev.watchEnter_down (hp : d.f F.PWR_WATCH_STAT_PHASE = 4) (h : ∀ k ∈ frontSet, d.f F.PWR_DOM_PSTATE k = 0) : d.watchEnter =
    (((d.wakeAborts.set F.PWR_STATE_ENTERING 0).set F.PWR_WATCH_STAT_PHASE 1).enterPower 2).raise 1357 := by
  have down : frontSet.all (fun k => d.f F.PWR_DOM_PSTATE k == 0) = true := by simpa using h
  exact if_neg (by simp [hp, down])

/-- The controller's votes on the front domains before a sampled frame (R423). -/
def Dev.sampleVoted (d : Dev) : Dev :=
  { d with pwr := { d.pwr with watchVotes := 2 ^ 2 + 2 ^ 4 + 2 ^ 8 + 2 ^ 9 + 2 ^ 10, sample := none } }

theorem Dev.watchLead_sampled (hs : d.sampledFrame (d.clk.sfc + 1) = true)
    (hp : d.f F.PWR_WATCH_STAT_PHASE = 1 ∨ d.f F.PWR_WATCH_STAT_PHASE = 2 ∨ d.f F.PWR_WATCH_STAT_PHASE = 4) :
    d.watchLead = if d.f F.PWR_WATCH_STAT_PHASE = 1 then d.sampleVoted.set F.PWR_WATCH_STAT_PHASE 2 else d.sampleVoted := by
  rw [Dev.watchLead, if_neg (by simp [hs]; omega)]
  exact if_congr beq_iff_eq rfl rfl

/-- An enabled wake is latched, the lowest code first, outside an exit (R426, R427). -/
theorem Dev.wake_latches {c : Nat} (hen : bit (d.f F.PWR_WAKE_CFG_EN) c = true) (hst : 2 ≤ d.f F.PWR_STATE_STATE)
    (hx : d.pwr.exiting = false) (hp : d.f F.PWR_WATCH_STAT_PHASE ≠ 5) :
    let e := d.set F.PWR_WAKE_STAT_CAUSES (withBit (d.f F.PWR_WAKE_STAT_CAUSES) c true)
    d.wake c = { e with pwr := { e.pwr with latched := some (match e.pwr.latched with | none => c | some o => min o c) } } := by
  intro e
  have phase : e.f F.PWR_WATCH_STAT_PHASE = d.f F.PWR_WATCH_STAT_PHASE := Dev.f_set_ne _ _ _ _ _ _ (.inr (by decide))
  have exiting : e.pwr.exiting = false := by simp [e, hx]
  rw [Dev.wake, if_neg (by simp [hen]; omega)]
  exact if_neg (by simp [e] at phase exiting; simp [phase, hp, exiting])

theorem Dev.wakeTimer_reached (hst : 2 ≤ d.f F.PWR_STATE_STATE) (hn : d.f F.PWR_WAKE_CFG_TIMER ≠ 0)
    (ht : d.f F.PWR_WAKE_CFG_TIMER ≤ d.pwr.timer) : d.wakeTimer = d.wake 7 :=
  if_pos (by simp [hst, hn, ht])

end

/-- Settles O28: the entry with the front down, the votes before a sample, and the timer as a wake. That the wake keeps the lowest latched code
is log entry 49. -/
theorem watchCommands : Obligations.WatchCommands := by
  refine ⟨fun s hp h => ?_, ?sample, fun s hst hn ht hen hx hp => ?_⟩
  case sample =>
    intro s hs ph d
    have lead {e : Dev} (he : s.dev.watchLead = e) : exec .watchSampleLead s = .next (s.after e) :=
      (exec_watchSampleLead s).trans (run_after s _ _ he)
    exact ⟨fun hp => lead ((Dev.watchLead_sampled hs (.inl hp)).trans (if_pos hp)),
      fun hp => lead ((Dev.watchLead_sampled hs (.inr hp)).trans (if_neg (by omega)))⟩
  · exact (exec_watchEnter s).trans (run_after s _ _ (Dev.watchEnter_down hp h))
  · exact (exec_wakeTimer s).trans (run_after s _ _ ((Dev.wakeTimer_reached hst hn ht).trans (Dev.wake_latches hen hst hx hp)))

end Sys2Proof.Machine
end

section
/-! Resets (R407, R484 to R487, R490). -/

namespace Sys2Proof.Machine

section
variable {d : Dev}

theorem Dev.regs32_live : d.regs32 false = d.regs.filter (fun p => domainOf (p.1 / 64) == 32) := by simp [Dev.regs32]

theorem Dev.blkrst_awake (hs : d.inStill = false) (ho : d.inOff = false) : d.blkrst = d.blockReset F.RST_CAUSE_BLK_PIN :=
  if_neg (by simp [hs, ho])

theorem Dev.blkrst_asleep (h : d.inStill = true ∨ d.inOff = true) : d.blkrst = d.wake 9 := if_pos (by simpa using h)

theorem Dev.coreBrownout_inForce (hw : d.pwr.avsWait = false) (hr : d.f F.PWR_DVFS_STAT_AVS_REQ ≠ 0) (lowest : Nat) :
    let v := if d.on 32 then d.vitBrownOut 1 (lowest % 256) else d
    let e := (v.blockReset F.RST_CAUSE_CORE_BO).set F.PWR_REG_BO_CORE 1
    Dev.coreBrownout lowest d = { e with pwr := { e.pwr with boPending := true } } :=
  if_neg (by simp [hw, hr])

theorem Dev.aonLow_low (h : d.f F.PWR_REG_MODE ≠ 0) (lowest : Nat) :
    let v := if d.on 32 then d.vitBrownOut 0 (lowest % 256) else d
    let e := ((v.set F.PWR_REG_MODE 0).set F.PWR_REG_BO_AON 1).raise 1353
    Dev.aonLow lowest d = { e with pwr := { e.pwr with keepNormal := true } } :=
  if_neg (by simp [Dev.b, h])

end

/-- Settles O30: the power-on resets by what PD32 keeps, the block resets by their cause. That BLKRST_n wakes Still and Off with code 9 is log
entry 45, what a reset keeps in part log entry 46. -/
theorem resetCommands : Obligations.ResetCommands := by
  refine ⟨fun s => ?_, fun held s => ?_, fun s => ⟨fun hs ho => ?_, fun h => ?_⟩, fun loc s => ?_, fun lowest s hw hr => ?_,
    fun lowest s h => ?_⟩
  · refine (exec_porst s).trans (run_after s _ _ ?_)
    rw [← Dev.regs32_live]
    rfl
  · exact (exec_aonBrownoutReset held s).trans (run_after s _ _ rfl)
  · exact (exec_blkrst s).trans (run_after s _ _ (Dev.blkrst_awake hs ho))
  · exact (exec_blkrst s).trans (run_after s _ _ (Dev.blkrst_asleep h))
  · exact (exec_curatorEccReset _ s).trans (run_after s _ _ rfl)
  · exact (exec_vddCoreBrownout lowest s).trans (run_after s _ _ (Dev.coreBrownout_inForce hw hr lowest))
  · exact (exec_vddAonLow lowest s).trans (run_after s _ _ (Dev.aonLow_low h lowest))

end Sys2Proof.Machine
end

section
/-! Event queues (R304 to R317): the write of a record, its answer, a consumer index, a source and the configuration. -/

namespace Sys2Proof.Machine

/-- A row of one of `m` registers that is a gated write. -/
theorem run_gated_below {s : State} {n m off : Nat} {w : RegWr} {g : Dev → Dev} {e : Dev} (hn : n < m) (hp : s.dev.passes w.agent off)
    (hg : g s.dev = e) : s.run (fun d => if n ≥ m then d else d.gated off w g) =
      .next (s.after ((e.respond .done).accessed s.dev w.agent off)) :=
  run_after s _ _ (by rw [if_neg (by omega), gated_passes _ _ _ _ hp, hg])

/-- A row that asks for a bit of its write, and writes a 1 to it. -/
theorem run_gated_if {s : State} {off : Nat} {c : Bool} {w : RegWr} {g : Dev → Dev} {e : Dev} (hc : c = true)
    (hp : s.dev.passes w.agent off) (hg : g s.dev = e) :
    s.run (fun d => if c then d.gated off w g else d) = .next (s.after ((e.respond .done).accessed s.dev w.agent off)) :=
  run_after s _ _ (by rw [if_pos hc, gated_passes _ _ _ _ hp, hg])

section
variable {d : Dev} {q : Nat}

/-! The write of a record (R308, R311, R314). -/

theorem Dev.evWrite_fresh {r : EvRec} (h29 : d.on 29 = true) (h31 : d.on 31 = true) (hp : d.evPick = some (r, none)) :
    let q := d.f F.EVQ_SRC_TARGET r.src
    let e : EvIssue := { q := q, idx := (d.f F.EVQ_Q_PI_PI q + (d.evBound q).length) % 2 ^ 18, seq := d.f F.EVQ_Q_STAT_SEQ q, record := r
                         st := .flying }
    let b : Dev := { d with evq := { d.evq with pend := d.evq.pend.erase r, issued := d.evq.issued ++ [e] } }
    d.evWrite = ((b.setI F.EVQ_Q_STAT_SEQ q (b.f F.EVQ_Q_STAT_SEQ q + 1)).evIssue e).evLevels q := by
  intro q e b
  rw [Dev.evWrite, if_neg (by simp [h29, h31]), hp]

theorem Dev.evWrite_returned {r : EvRec} {e : EvIssue} (h29 : d.on 29 = true) (h31 : d.on 31 = true) (hp : d.evPick = some (r, some e)) :
    d.evWrite = ({ d with evq := { d.evq with
      issued := d.evq.issued.map (fun i => if i == e then { i with st := .flying } else i) } } : Dev).evIssue e := by
  rw [Dev.evWrite, if_neg (by simp [h29, h31]), hp]

/-! Its answer (R311, R315, R316). -/

/-- The device in which the answer c to a record's write is counted. -/
def Dev.evCounted (d : Dev) (r : FabReq) (c : Rsp) : Dev := if c = .done then d.pmc 18 1 { func := some r.func } else d

/-- The answer to the write of the bound record e. -/
def Dev.evAnswer (d : Dev) (q : Nat) (e : EvIssue) (ok : Bool) : Dev :=
  if ok then
    let b : Dev := { d with evq := { d.evq with issued := d.evq.issued.map (fun i => if i == e then { i with st := .landed } else i) } }
    let a := b.countN F.EVQ_Q_STAT_MERGED e.record.merges q
    (a.evAdvance q (a.evBound q).length).evLevels q
  else
    let a := (d.evReturn e).setI F.EVQ_Q_STAT_FAULT q 1
    (if a.b F.EVQ_Q_CFG_EN q then a else a.evUnbind q).evLevels q

section
variable {idx : Nat} {c : Rsp} {r : FabReq} {s : State} (ho : s.dev.outstanding (.eventRecord q idx) = some r)
  {b : Dev} (hb : (s.dev.answered (.eventRecord q idx) r c).evCounted r c = b)
include ho hb

/-- The answer to a record whose binding was ended. -/
theorem exec_eventRecordDone_loose {x : EvIssue} (hl : b.evq.loose.find? (fun e => e.q == q && e.idx == idx) = some x) :
    exec (.eventRecordDone q idx c) s = .next (s.after (b.evLoose x c.ok)) := by
  have counted (a : Dev) : (if c.ok then a.pmc 18 1 { func := some r.func } else a) = a.evCounted r c :=
    if_congr Rsp.ok_eq_true rfl rfl
  refine (exec_eventRecordDone q idx c s).trans (run_answer ho ?_)
  simp only [counted, hb, hl]

theorem exec_eventRecordDone_bound {x : EvIssue} (hl : b.evq.loose.find? (fun e => e.q == q && e.idx == idx) = none)
    (hx : (b.evBound q).find? (fun e => e.idx == idx && e.st == .flying) = some x) :
    exec (.eventRecordDone q idx c) s = .next (s.after (b.evAnswer q x c.ok)) := by
  have counted (a : Dev) : (if c.ok then a.pmc 18 1 { func := some r.func } else a) = a.evCounted r c :=
    if_congr Rsp.ok_eq_true rfl rfl
  refine (exec_eventRecordDone q idx c s).trans (run_answer ho ?_)
  simp only [counted, hb, hl, hx]
  rfl

end

/-- A record whose source has nothing fresh is returned as it is. -/
theorem Dev.evReturn_alone {e : EvIssue} (h : ∀ p ∈ d.evq.pend, p.src ≠ e.record.src) :
    d.evReturn e = { d with evq := { d.evq with
      issued := d.evq.issued.map (fun i => if i == e then { i with st := .returned } else i) } } := by
  have fresh : d.evq.pend.find? (fun p => p.src == e.record.src) = none := by simpa using h
  have rest : d.evq.pend.filter (fun p => p.src != e.record.src) = d.evq.pend := List.filter_eq_self.2 (by simpa using h)
  have same (i : EvIssue) : (if i == e then { i with st := .returned, record := e.record } else i) =
      if i == e then { i with st := .returned } else i := by
    split
    case isTrue he => rw [beq_iff_eq.1 he]
    case isFalse => rfl
  rw [Dev.evReturn, fresh, rest]
  simp only [same]

/-- A fresh record of its source is joined to the returned one: the first capture, merged (R307). -/
theorem Dev.evReturn_joined {e : EvIssue} {p : EvRec} (h : d.evq.pend.find? (fun p => p.src == e.record.src) = some p) :
    d.evReturn e = { d with evq := { d.evq with
      pend := d.evq.pend.filter (fun p => p.src != e.record.src)
      issued := d.evq.issued.map (fun i => if i == e then { i with
        st := .returned
        record := { (if p.before e.record then p else e.record) with mrg := true, merges := e.record.merges + p.merges + 1 } } else i) } } := by
  rw [Dev.evReturn, h]
  rfl

/-- PI passes the record it stands at (R311), with WAKE_REQ where the queue was empty and asleep (R315). -/
theorem Dev.evAdvance_landed {e : EvIssue} (n : Nat) (hf : (d.evBound q).find? (fun e => e.idx == d.f F.EVQ_Q_PI_PI q) = some e)
    (hst : e.st = .landed) :
    let a := ({ d with evq := { d.evq with issued := d.evq.issued.erase e } } : Dev).setI F.EVQ_Q_PI_PI q (d.f F.EVQ_Q_PI_PI q + 1)
    d.evAdvance q (n + 1) = (if d.f F.EVQ_Q_CFG_ASLEEP q ≠ 0 ∧ d.f F.EVQ_Q_PI_PI q = d.f F.EVQ_Q_CI_CI q then a.wakeReq else a).evAdvance q n := by
  intro a
  have asleep : (d.b F.EVQ_Q_CFG_ASLEEP q && d.f F.EVQ_Q_PI_PI q == d.f F.EVQ_Q_CI_CI q) = true ↔
      d.f F.EVQ_Q_CFG_ASLEEP q ≠ 0 ∧ d.f F.EVQ_Q_PI_PI q = d.f F.EVQ_Q_CI_CI q := by
    rw [Bool.and_eq_true, Dev.b_eq_true, beq_iff_eq]
  rw [Dev.evAdvance]
  simp only [hf, hst, asleep]
  rfl

/-! Registers (R304 to R306, R312, R316, R317). -/

section
variable {w : RegWr}

theorem Dev.writeEvqCi_eq : Dev.writeEvqCi q w d =
    let c := w.merged F.EVQ_Q_CI_CI (d.f F.EVQ_Q_CI_CI q)
    let ahead := (d.f F.EVQ_Q_PI_PI q + 2 ^ 18 - c) % 2 ^ 18
    if ahead ≤ 2 ^ d.f F.EVQ_Q_CFG_LOG2SIZE q ∧ ahead ≤ (d.f F.EVQ_Q_PI_PI q + 2 ^ 18 - d.f F.EVQ_Q_CI_CI q) % 2 ^ 18 then
      (d.setI F.EVQ_Q_CI_CI q c).evLevels q
    else d.setI F.EVQ_Q_STAT_CI_BAD q 1 :=
  if_congr (by rw [Bool.and_eq_true, decide_eq_true_iff, decide_eq_true_iff]; rfl) rfl rfl

/-- The fields that a write of EVQ_SRC[n] takes. -/
def Dev.srcTaken (d : Dev) (n : Nat) (w : RegWr) : Dev :=
  (((d.put F.EVQ_SRC_SENSE w n).put F.EVQ_SRC_EN w n).put F.EVQ_SRC_TARGET w n).put F.EVQ_SRC_WAKE w n

theorem Dev.writeEvqSrc_taken {n : Nat} (hk : srcKind n ≠ 0) : Dev.writeEvqSrc n w d =
    (if w.fld F.EVQ_SRC_REARM = 1 then (d.srcTaken n w).evRearm n else d.srcTaken n w).evLevelNow n :=
  (if_neg (by simp [hk])).trans (congrArg (Dev.evLevelNow · n) (if_congr beq_iff_eq rfl rfl))

theorem Dev.evRearm_idle {n : Nat} (h : d.evPending n = false) : d.evRearm n = d.setI F.EVQ_SRC_ARMED n 1 := if_neg (by simp [h])

theorem Dev.evRearm_early {n : Nat} (h : d.evPending n = true) :
    d.evRearm n = (d.set F.EVQ_STAT_REARM_EARLY 1).set F.EVQ_STAT_LAST_SRC n := if_pos h

/-- A row of EVQ_SRC[n] takes the writes that ask for rearming, or those that do not. -/
theorem run_evSrcRow {rearm : Bool} {n : Nat} {s : State} {e : Dev} (hn : n < 2048) (hr : w.fld F.EVQ_SRC_REARM = 1 ↔ rearm = true)
    (hp : s.dev.passes w.agent (0x158000 + 8 * n)) (he : Dev.writeEvqSrc n w s.dev = e) :
    s.run (Dev.evSrcRow rearm n w) = .next (s.after ((e.respond .done).accessed s.dev w.agent (0x158000 + 8 * n))) := by
  have asked : (w.fld F.EVQ_SRC_REARM == 1) = rearm := Bool.eq_iff_iff.2 (beq_iff_eq.trans hr)
  refine run_after s _ _ ?_
  rw [Dev.evSrcRow, if_neg (by simp [asked, hn]), gated_passes _ _ _ _ hp, he]

/-! EVQ_Q_CFG (R317). -/

/-- An enabled queue keeps its size and its function. -/
def Dev.evqMoves (d : Dev) (q : Nat) (w : RegWr) : Prop :=
  d.f F.EVQ_Q_CFG_EN q ≠ 0 ∧ (w.merged F.EVQ_Q_CFG_LOG2SIZE (d.f F.EVQ_Q_CFG_LOG2SIZE q) ≠ d.f F.EVQ_Q_CFG_LOG2SIZE q ∨
    w.merged F.EVQ_Q_CFG_FUNC (d.f F.EVQ_Q_CFG_FUNC q) ≠ d.f F.EVQ_Q_CFG_FUNC q)

/-- The ring asked for has a wrong size, or a wrong place. -/
def Dev.evqMisplaced (d : Dev) (q : Nat) (w : RegWr) : Prop :=
  let sz := w.merged F.EVQ_Q_CFG_LOG2SIZE (d.f F.EVQ_Q_CFG_LOG2SIZE q)
  sz < 6 ∨ 16 < sz ∨ d.f F.EVQ_Q_BASE_BASE q % 64 ≠ 0 ∨ 2 ^ 48 < d.f F.EVQ_Q_BASE_BASE q + 16 * 2 ^ sz

theorem Dev.evqMoves_iff : (d.b F.EVQ_Q_CFG_EN q && (w.merged F.EVQ_Q_CFG_LOG2SIZE (d.f F.EVQ_Q_CFG_LOG2SIZE q) != d.f F.EVQ_Q_CFG_LOG2SIZE q ||
    w.merged F.EVQ_Q_CFG_FUNC (d.f F.EVQ_Q_CFG_FUNC q) != d.f F.EVQ_Q_CFG_FUNC q)) = true ↔ d.evqMoves q w := by
  simp only [Bool.and_eq_true, Dev.b_eq_true, Bool.or_eq_true, bne_iff_ne, Dev.evqMoves]

theorem Dev.evqMisplaced_iff {sz : Nat} (hsz : w.merged F.EVQ_Q_CFG_LOG2SIZE (d.f F.EVQ_Q_CFG_LOG2SIZE q) = sz) :
    (decide (sz < 6) || decide (sz > 16) || d.f F.EVQ_Q_BASE_BASE q % 64 != 0 || decide (d.f F.EVQ_Q_BASE_BASE q + 16 * 2 ^ sz > 2 ^ 48)) = true ↔
      d.evqMisplaced q w := by
  simp only [Bool.or_eq_true, decide_eq_true_iff, bne_iff_ne, Dev.evqMisplaced, hsz, gt_iff_lt, or_assoc]

theorem Dev.writeEvqCfg_moves (hm : d.evqMoves q w) : Dev.writeEvqCfg q w d = d.evRefuse 1 q := if_pos (Dev.evqMoves_iff.2 hm)

theorem Dev.writeEvqCfg_misplaced (hm : ¬ d.evqMoves q w) (hen : w.merged F.EVQ_Q_CFG_EN (d.f F.EVQ_Q_CFG_EN q) = 1)
    (hw : d.evqMisplaced q w) : Dev.writeEvqCfg q w d = d.evRefuse 2 q := by
  refine (if_neg (mt Dev.evqMoves_iff.1 hm)).trans (if_pos ?_)
  rw [Bool.and_eq_true]
  exact ⟨by simp [hen], (Dev.evqMisplaced_iff rfl).2 hw⟩

theorem Dev.writeEvqCfg_noFabric (hm : ¬ d.evqMoves q w) (hen : w.merged F.EVQ_Q_CFG_EN (d.f F.EVQ_Q_CFG_EN q) = 1)
    (hw : ¬ d.evqMisplaced q w) (hfab : d.f F.ID_INTEG_FAB_WIRED = 0) : Dev.writeEvqCfg q w d = d.evRefuse 3 q := by
  refine (if_neg (mt Dev.evqMoves_iff.1 hm)).trans ((if_neg ?_).trans (if_pos ?_))
  · rw [Bool.and_eq_true]
    exact fun h => hw ((Dev.evqMisplaced_iff rfl).1 h.2)
  · simp [hen, Dev.b, hfab]

/-- The queue with its new configuration and an empty ring; the writes under way are loose (R316, R317). -/
def Dev.evqEnabled (d : Dev) (q : Nat) (w : RegWr) : Dev :=
  let a := (((d.setI F.EVQ_Q_CFG_EN q (w.merged F.EVQ_Q_CFG_EN (d.f F.EVQ_Q_CFG_EN q))).put F.EVQ_Q_CFG_ASLEEP w q).setI F.EVQ_Q_CFG_FUNC q
    (w.merged F.EVQ_Q_CFG_FUNC (d.f F.EVQ_Q_CFG_FUNC q))).setI F.EVQ_Q_CFG_LOG2SIZE q
    (w.merged F.EVQ_Q_CFG_LOG2SIZE (d.f F.EVQ_Q_CFG_LOG2SIZE q))
  (({ a with evq := { a.evq with
    issued := a.evq.issued.filter (fun e => e.q != q)
    loose := a.evq.loose ++ (a.evBound q).filter (fun e => e.st == .flying) } } : Dev).setI F.EVQ_Q_PI_PI q 0).setI F.EVQ_Q_CI_CI q 0

theorem Dev.writeEvqCfg_enables (hm : ¬ d.evqMoves q w) (hen : w.merged F.EVQ_Q_CFG_EN (d.f F.EVQ_Q_CFG_EN q) = 1)
    (hw : ¬ d.evqMisplaced q w) (hfab : d.f F.ID_INTEG_FAB_WIRED ≠ 0) (hoff : d.f F.EVQ_Q_CFG_EN q = 0) :
    let e := d.evqEnabled q w
    Dev.writeEvqCfg q w d = (if d.f F.EVQ_Q_CFG_ASLEEP q = 0 ∧ e.f F.EVQ_Q_CFG_ASLEEP q ≠ 0 ∧ e.f F.EVQ_Q_PI_PI q ≠ e.f F.EVQ_Q_CI_CI q
      then e.wakeReq else e).evLevels q := by
  intro e
  have fresh : (!d.b F.EVQ_Q_CFG_EN q && w.merged F.EVQ_Q_CFG_EN (d.f F.EVQ_Q_CFG_EN q) == 1) = true := by
    rw [hen, Dev.b_eq_false.2 hoff]
    rfl
  have sleeps : (!d.b F.EVQ_Q_CFG_ASLEEP q && e.b F.EVQ_Q_CFG_ASLEEP q && e.f F.EVQ_Q_PI_PI q != e.f F.EVQ_Q_CI_CI q) = true ↔
      d.f F.EVQ_Q_CFG_ASLEEP q = 0 ∧ e.f F.EVQ_Q_CFG_ASLEEP q ≠ 0 ∧ e.f F.EVQ_Q_PI_PI q ≠ e.f F.EVQ_Q_CI_CI q := by
    simp only [Bool.and_eq_true, Bool.not_eq_true', Dev.b_eq_false, Dev.b_eq_true, bne_iff_ne, and_assoc]
  rw [Dev.writeEvqCfg]
  rw [if_neg (mt Dev.evqMoves_iff.1 hm), if_neg (by rw [Bool.and_eq_true]; exact fun h => hw ((Dev.evqMisplaced_iff rfl).1 h.2)),
    if_neg (by simp [Dev.b, hfab])]
  simp only [fresh, if_true]
  exact congrArg (Dev.evLevels · q) (if_congr sleeps rfl rfl)

end
end

/-- Settles O52: each command by what its row finds. Loose writes of a queue enabled again, the join of a failed record with a fresh one, MERGED
counted at the answer and refusal only of a changed LOG2SIZE or FUNC are log entry 40. -/
theorem eventCommands : Obligations.EventCommands := by
  refine ⟨fun r s h29 h31 hp => ?_, fun r e s h29 h31 hp => ?_, fun d e => rfl, ?answer, ?loose, fun d e h => Dev.evReturn_alone h,
    fun d e p h => Dev.evReturn_joined h, ?advance, ?index, ?source, ?config, fun q w s hq hp => ?_, fun w s hp => ?_⟩
  case answer =>
    intro q idx c r e s ho d hl hb
    have row {a : Dev} (ha : d.evAnswer q e c.ok = a) : exec (.eventRecordDone q idx c) s = .next (s.after a) :=
      ha ▸ exec_eventRecordDone_bound ho rfl hl hb
    refine ⟨?done, ?failed⟩
    case done =>
      intro hc b a
      exact row (if_pos (Rsp.ok_eq_true.2 hc))
    case failed =>
      intro hc a
      have failed : d.evAnswer q e c.ok = (if a.b F.EVQ_Q_CFG_EN q then a else a.evUnbind q).evLevels q :=
        if_neg (ne_true_of_eq_false (Rsp.ok_eq_false.2 hc))
      exact ⟨fun hen => row (failed.trans (by rw [if_pos (Dev.b_eq_true.2 hen)])),
        fun hen => row (failed.trans (by rw [if_neg (ne_true_of_eq_false (Dev.b_eq_false.2 hen))]))⟩
  case loose =>
    intro q idx c r e s ho hc d hl a
    refine (exec_eventRecordDone_loose ho (if_neg hc) hl).trans (congrArg _ (congrArg _ ?_))
    exact if_neg (ne_true_of_eq_false (Rsp.ok_eq_false.2 hc))
  case advance =>
    intro d q n e hf hst a
    exact ⟨fun ha hpi => (Dev.evAdvance_landed n hf hst).trans (by rw [if_pos ⟨ha, hpi⟩]; rfl),
      fun h => (Dev.evAdvance_landed n hf hst).trans (by rw [if_neg (by tauto)])⟩
  case index =>
    intro q w s hq hp c pi ahead room
    have row {e : Dev} (he : Dev.writeEvqCi q w s.dev = e) := (exec_evqCiWrite q w s).trans (run_gated_below hq hp he)
    exact ⟨fun h => row (Dev.writeEvqCi_eq.trans (if_pos h)), fun h => row (Dev.writeEvqCi_eq.trans (if_neg h))⟩
  case source =>
    intro n w s hn hp hk d
    refine ⟨fun hr => ?_, fun hr hpend => ?_, fun hr hpend => ?_⟩
    · refine (exec_evqSrcWrite n w s).trans (run_evSrcRow hn (by simp [hr]) hp ?_)
      rw [Dev.writeEvqSrc_taken hk, if_neg hr]
      rfl
    · refine (exec_evqRearm n w s).trans (run_evSrcRow hn (by simp [hr]) hp ?_)
      rw [Dev.writeEvqSrc_taken hk, if_pos hr]
      exact congrArg (Dev.evLevelNow · n) (Dev.evRearm_idle hpend)
    · refine (exec_evqRearm n w s).trans (run_evSrcRow hn (by simp [hr]) hp ?_)
      rw [Dev.writeEvqSrc_taken hk, if_pos hr]
      exact congrArg (Dev.evLevelNow · n) (Dev.evRearm_early hpend)
  case config =>
    intro q w s hq hp en sz fn base moved wrong no
    have row {e : Dev} (he : Dev.writeEvqCfg q w s.dev = e) := (exec_evqQCfgWrite q w s).trans (run_gated_below hq hp he)
    refine ⟨fun hm => row (Dev.writeEvqCfg_moves hm), fun hm hen hw => row (Dev.writeEvqCfg_misplaced hm hen hw),
      fun hm hen hw hfab => row (Dev.writeEvqCfg_noFabric hm hen hw hfab), ?_⟩
    intro hm hen hw hfab hoff a e sleeps
    exact row (Dev.writeEvqCfg_enables hm hen hw hfab hoff)
  · exact (exec_eventRecordWrite s).trans (run_after s _ _ (Dev.evWrite_fresh h29 h31 hp))
  · exact (exec_eventRecordWrite s).trans (run_after s _ _ (Dev.evWrite_returned h29 h31 hp))
  · exact (exec_evqFaultClear q w s).trans (run_gated_below hq hp rfl)
  · exact (exec_evqSwsrcWrite w s).trans (run_gated s _ w hp rfl)

end Sys2Proof.Machine
end

section
/-! The frame sequencer (R320 to R335): a fetch, a cycle, an abandonment, the stretches, and the registers of Curator. -/

namespace Sys2Proof.Machine

section
variable {d : Dev}

/-! A fetch (R327, R328). -/

theorem Dev.seqFetch_matched {a m : Nat} (ha : a < 0x1000) (hm : d.seqMatch a = some m) : d.seqFetch a =
    { at' := 0x1000 + d.f F.SEQ_MATCH_PADDR m, via := some m, word := some (SMap.getD d.seq.patch (d.f F.SEQ_MATCH_PADDR m) 0 % 2 ^ 144) } := by
  rw [Dev.seqFetch, if_pos ha, hm]

theorem Dev.seqFetch_rom {a : Nat} (ha : a < 0x1000) (hm : d.seqMatch a = none) :
    d.seqFetch a = { at' := a, word := some (Config.seqRom a % 2 ^ 144) } := by
  rw [Dev.seqFetch, if_pos ha, hm]

theorem Dev.seqFetch_patch {a : Nat} (ha : 0x1000 ≤ a) (ha' : a < 0x1200) :
    d.seqFetch a = { at' := a, word := some (SMap.getD d.seq.patch (a - 0x1000) 0 % 2 ^ 144) } := by
  rw [Dev.seqFetch, if_neg (by omega), if_pos ha']

theorem Dev.seqFetch_unassigned {a : Nat} (ha : 0x1200 ≤ a) : d.seqFetch a = { at' := a, word := none } := by
  rw [Dev.seqFetch, if_neg (by omega), if_neg (by omega)]

/-! A cycle of the busy sequencer (R323, R331, R333, R334). -/

/-- The match register that redirected a fetch is shown. -/
def Dev.seqSeen (d : Dev) (f : SeqFetch) : Dev := match f.via with | some m => d.set F.SEQ_STAT_LAST_MATCH m | none => d

/-- The errors of a patch word that its code corrects (R333). -/
def Dev.seqHealed (d : Dev) (f : SeqFetch) (up : SeqUpset) : Dev :=
  match up with | .patchFlip n => if 0x1000 ≤ f.at' then d.seqCorrected n else d | _ => d

section
variable (hb : d.seqBusy = true) (hon : d.on 2 = true) {f : SeqFetch} (hf : d.seqFetch d.seq.pc = f) {up : SeqUpset}
include hb hon hf

theorem Dev.seqCycle_word {w : Nat} (hw : f.word = some w) (hup : up ≠ .patchLost) :
    let c := (d.seqCharge (uwDuty w) 1).seqSeen f
    let e := c.seqHealed f up
    d.seqCycle up =
      if c.seqLimit ≤ c.seq.cycles ∧ (uwWait w = true ∨ c.seqBadOp w = true ∨ uwMode w ≠ 6) then c.seqOverrun
      else if uwWait w = true ∧ e.seqBadOp w = false ∧ e.seqWaitMet (uwWaitSel w) = false then
        (({ e with seq := { e.seq with pc := f.at' } } : Dev).set F.SEQ_STAT_STATE 2).seqLateCheck
      else (e.seqIssue w f.at' up).seqLateCheck := by
  intro c e
  have lost : (up == SeqUpset.patchLost) = false := beq_eq_false_iff_ne.2 hup
  rw [Dev.seqCycle, if_neg (by simp [hb, hon]), hf]
  simp only [hw, Option.isNone_some, lost, Bool.and_false, Bool.or_self, Bool.false_eq_true, if_false, Option.getD_some, Bool.false_or]
  refine if_congr ?_ rfl (if_congr ?_ rfl rfl)
  · simp only [Bool.and_eq_true, Bool.or_eq_true, decide_eq_true_iff, bne_iff_ne, or_assoc]
    rfl
  · simp only [Bool.and_eq_true, Bool.not_eq_true', and_assoc]
    rfl

theorem Dev.seqCycle_noWord (hw : f.word = none) :
    let c := (d.seqCharge (d.f F.SEQ_STAT_DUTY) 1).seqSeen f
    c.seq.cycles < c.seqLimit → d.seqCycle up = (c.seqAbandon false ((f.at' + 1) % 2 ^ 13)).seqLateCheck := by
  intro c hlt
  rw [Dev.seqCycle, if_neg (by simp [hb, hon]), hf]
  simp only [hw, Option.isNone_none, Bool.true_or, if_true]
  refine if_neg ?_
  rw [Bool.and_eq_true, decide_eq_true_iff]
  exact fun h => Nat.not_le.2 hlt h.1

theorem Dev.seqCycle_patchLost (hw : f.word ≠ none) (hat : 0x1000 ≤ f.at') :
    let c := (d.seqCharge (d.f F.SEQ_STAT_DUTY) 1).seqSeen f
    c.seq.cycles < c.seqLimit →
      d.seqCycle .patchLost = ((c.seqPatchLost (f.at' - 0x1000)).seqAbandon false ((f.at' + 1) % 2 ^ 13)).seqLateCheck := by
  intro c hlt
  have some : f.word.isNone = false := Option.isNone_eq_false_iff.2 (Option.isSome_iff_ne_none.2 hw)
  rw [Dev.seqCycle, if_neg (by simp [hb, hon]), hf]
  simp only [some, hat, decide_true, beq_self_eq_true, Bool.and_self, Bool.or_true, if_true, Bool.false_eq_true, if_false]
  refine if_neg ?_
  rw [Bool.and_eq_true, decide_eq_true_iff]
  exact fun h => Nat.not_le.2 hlt h.1

end

/-! Stretches (R319, R320). -/

theorem exec_seqFrameRoutine_one {s : State} {x : SeqSeg} {e : Dev} (he : s.dev.seqStretch x = e) :
    exec (.seqFrameRoutine [x]) s = .next (s.after e) := (exec_seqFrameRoutine [x] s).trans (run_after s _ _ he)

section
variable (hb : d.seqBusy = true) (hon : d.on 2 = true)
include hb hon

theorem Dev.seqStretch_cycle (up : SeqUpset) : d.seqStretch (.words [up]) = d.seqCycle up := if_neg (by simp [hb, hon])

theorem Dev.seqStretch_duty (k n last next : Nat) : d.seqStretch (.duty k n last next) = d.seqDuty k n last next :=
  if_neg (by simp [hb, hon])

theorem Dev.seqStretch_file (h : d.f F.SEQ_STAT_DUTY = 1) : d.seqStretch .file = d.seqFiled.seqCommitted :=
  (if_neg (by simp [hb, hon])).trans (if_pos (by simp [h]))

theorem Dev.seqStretch_finish (h : d.f F.SEQ_STAT_DUTY = 4) : d.seqStretch .finish = ((d.seqCharge 4 1).pmc 0x15 1).seqOver 3 :=
  (if_neg (by simp [hb, hon])).trans (if_pos (by simp [h]))

end

/-- A duty of the ROM that is no routine of its own, in its order (R320). -/
theorem Dev.seqDuty_started {k n last next : Nat} (hk : d.seqMayStart k = true) (h1 : k ≠ 1) (h2 : k ≠ 2) :
    let c := (d.seqWorked.seqCharge k n).pmc 0x15 n
    let e : Dev := { c with seq := { c.seq with stack := c.seq.stack.drop (c.seq.stack.length - 1), pc := next % 2 ^ 13 } }
    d.seqDuty k n last next = if c.seqLimit ≤ c.seq.cycles then c.seqOverrun
      else (((e.set F.SEQ_STAT_STATE 1).set F.SEQ_STAT_PC (last % 2 ^ 12)).set F.SEQ_STAT_DUTY k).seqLateCheck := by
  intro c e
  rw [Dev.seqDuty, if_neg (by simp [hk])]
  simp only [show (k == 1 || k == 2) = false by simp [h1, h2], Bool.false_eq_true, if_false]
  rfl

/-! Abandonment and failure (R324 to R326, R331, R332). -/

/-- The routine in progress starts again at its entry, with what it posted discarded and its abandonments counted. -/
def Dev.seqRewound (d : Dev) (r : SeqCall) : Dev :=
  { d with seq := { d.seq with post := [], filer := none, aband := d.seq.aband.put r.entry (SMap.getD d.seq.aband r.entry 0 + 1), pc := r.entry } }

section
variable {skip : Bool} {nx : Nat} {r : SeqCall} {up : List SeqCall} (hs : d.seq.stack = r :: up)
include hs

theorem Dev.seqAbandon_committed (hc : r.committed = true) :
    d.seqAbandon skip nx = { d with seq := { d.seq with deferred := true, pc := nx } } := by
  rw [Dev.seqAbandon, hs]
  exact if_pos hc

theorem Dev.seqAbandon_restarts (hc : r.committed = false) (hskip : skip = false) (hn : SMap.getD d.seq.aband r.entry 0 + 1 < 4) :
    d.seqAbandon skip nx = (d.seqRewound r).count F.SEQ_CNT2_RESTARTS := by
  rw [Dev.seqAbandon, hs]
  exact (if_neg (by simp [hc])).trans (if_neg (by simp [hskip]; omega))

theorem Dev.seqAbandon_skips (hc : r.committed = false) (h : skip = true ∨ 4 ≤ SMap.getD d.seq.aband r.entry 0 + 1) (hup : 2 ≤ up.length) :
    d.seqAbandon skip nx = (((d.seqRewound r).raise 1413).count F.SEQ_CNT_SKIPS).seqLeave := by
  rw [Dev.seqAbandon, hs]
  refine (if_neg (by simp [hc])).trans ((if_pos (by simpa using h)).trans ?_)
  exact congrArg Dev.seqLeave (if_neg (by omega))

end

/-- The page stays empty and the waiting messages are lost. -/
theorem Dev.pageLost_seqMsgsLost (o : Dev) :
    let e : Dev := { o with ds := { o.ds with hdrFresh := false, seqMsgs := [] } }
    let e := e.countN F.SEQ_CNT2_MSG_LOST o.ds.seqMsgs.length
    o.pageLost.seqMsgsLost = if o.ds.seqMsgs = [] then e else e.raise 1416 := by
  by_cases h : o.ds.seqMsgs = []
  · exact (if_neg (by simp [Dev.pageLost, h])).trans (if_pos h).symm
  · exact (if_pos (by simp [Dev.pageLost, h])).trans (if_neg h).symm

theorem Dev.seqOverrun_eq :
    let o := d.seqOver 4
    let e : Dev := { o with ds := { o.ds with hdrFresh := false, seqMsgs := [] } }
    let e := e.countN F.SEQ_CNT2_MSG_LOST o.ds.seqMsgs.length
    d.seqOverrun = (((if o.ds.seqMsgs = [] then e else e.raise 1416).raise 1408).count F.SEQ_CNT_OVERRUNS).seqFailed := by
  rw [Dev.seqOverrun]
  generalize d.seqOver 4 = o
  rw [Dev.pageLost_seqMsgsLost]

/-- The filing routine is left, and the frame goes on behind its call (R325). -/
def Dev.filingLeft (e : Dev) : Dev :=
  match e.seq.stack.reverse with
  | p :: r :: _ => if e.f F.SEQ_STAT_DUTY == 1 then { e with seq := { e.seq with stack := [p], pc := r.ret } } else e
  | _ => e

theorem Dev.seqLate_eq {a e : Dev} (ha : d.seqPageLate = a) (he : { a with seq := { a.seq with post := [], filer := none } } = e) :
    d.seqLate = e.filingLeft := by
  subst ha he
  rfl

theorem Dev.filingLeft_otherDuty {e : Dev} (h : e.f F.SEQ_STAT_DUTY ≠ 1) : e.filingLeft = e := by
  have other : ¬ (e.f F.SEQ_STAT_DUTY == 1) = true := by simpa using h
  rw [Dev.filingLeft]
  split
  · exact if_neg other
  · rfl

theorem Dev.filingLeft_filing {e : Dev} {p r : SeqCall} {up : List SeqCall} (h : e.f F.SEQ_STAT_DUTY = 1) (hs : e.seq.stack.reverse = p :: r :: up) :
    e.filingLeft = { e with seq := { e.seq with stack := [p], pc := r.ret } } := by
  rw [Dev.filingLeft, hs]
  exact if_pos (by simpa using h)

theorem Dev.seqFailed_unpatched (h : d.seqPatched = false) : d.seqFailed = { d with seq := { d.seq with fails := 0, failed := true } } :=
  if_pos (by simp [h])

theorem Dev.seqFailed_patched (h : d.seqPatched = true) (hf : d.seq.failed = false) :
    let e : Dev := { d with seq := { d.seq with fails := d.seq.fails + 1, failed := true } }
    d.seqFailed = if max 1 (e.f F.SEQ_CTL_QUAR_N) ≤ d.seq.fails + 1 then e.seqQuarantine else e := by
  intro e
  rw [Dev.seqFailed, if_neg (by simp [h])]
  simp only [hf, Bool.false_eq_true, if_false]
  rfl

/-! Registers of Curator (R326, R327, R329). -/

section
variable {w : RegWr} (ha : w.agent = .curator)
include ha

theorem curatorOnly_curator (g : Dev → Dev) : curatorOnly w d g = g d := if_pos (by simp [ha])

theorem Dev.writeSeqCtl_restart (hr : w.fld F.SEQ_CTL_RESTART = 1) :
    Dev.writeSeqCtl w d = ((d.put F.SEQ_CTL_BUDGET w).put F.SEQ_CTL_QUAR_N w).seqRestart :=
  (curatorOnly_curator ha _).trans (if_pos (by simp [hr]))

theorem Dev.writePatchData_guarded (hg : d.seqGuards (d.f F.SEQ_PATCH_ADDR_WORD) = true) :
    Dev.writePatchData 2 w d = d.set F.SEQ_STAT_REFUSED 1 :=
  (curatorOnly_curator ha _).trans (if_pos hg)

theorem Dev.writePatchData_takes (hg : d.seqGuards (d.f F.SEQ_PATCH_ADDR_WORD) = false) :
    let a := d.f F.SEQ_PATCH_ADDR_WORD
    let v := patchWord (d.f F.SEQ_PATCH_DATA_DATA 0 + d.f F.SEQ_PATCH_DATA_DATA 1 * 2 ^ 64 + w.val % 2 ^ 16 * 2 ^ 128)
    Dev.writePatchData 2 w d =
      ({ d with seq := { d.seq with patch := SMap.store 0 a v d.seq.patch } } : Dev).set F.SEQ_PATCH_ADDR_WORD (a + 1) :=
  (curatorOnly_curator ha _).trans (if_neg (ne_true_of_eq_false hg))

theorem Dev.writeMatch_direct {m : Nat} (hs : d.staging .curator = false) (hx : d.applying (0x160100 + 8 * m) &&& w.bitMask = 0) :
    let e := ((((d.put F.SEQ_MATCH_ADDR w m).put F.SEQ_MATCH_PADDR w m).put F.SEQ_MATCH_LEN w m).put F.SEQ_MATCH_EN w m).put
      F.SEQ_MATCH_FAULTED w m
    Dev.writeMatch m w d = if w.fld F.SEQ_MATCH_EN = 1 then e.set F.SEQ_STAT_QUARANTINE 0 else e := by
  intro e
  have direct : Dev.writeMatch m w d = Dev.matchDirect m w d := by
    rw [Dev.writeMatch, Dev.stWrite, ha, if_neg (by simp [hs])]
    exact if_pos (by simp [hx])
  exact direct.trans ((curatorOnly_curator ha _).trans (if_congr beq_iff_eq rfl rfl))

end
end

/-- The codes of a patch word stand above its 144 bits. -/
theorem patchWord_mod (v : Nat) : patchWord v % 2 ^ 144 = v % 2 ^ 144 := by
  unfold patchWord
  omega

/-- Settles O53: a cycle by its fetch, a stretch by its kind, an abandonment by what its routine has done. ROM stretches by duty, faulty words
after COMMIT passed over with the caller restarted, and the entry of a duty are log entry 11. -/
theorem sequencerCommands : Obligations.SequencerCommands := by
  refine ⟨?fetch, ?cycle, ?abandon, ?duty, ?stretches, ?filed, fun st d => rfl, ?overrun, ?late, ?failed, ?restart, ?patch, patchWord_mod, ?regs⟩
  case fetch =>
    intro a d
    exact ⟨fun m => Dev.seqFetch_matched, Dev.seqFetch_rom, Dev.seqFetch_patch, Dev.seqFetch_unassigned⟩
  case cycle =>
    intro up s hb hon f seen nx
    have row {e : Dev} (he : s.dev.seqCycle up = e) : exec (.seqFrameRoutine [.words [up]]) s = .next (s.after e) :=
      exec_seqFrameRoutine_one ((Dev.seqStretch_cycle hb hon up).trans he)
    refine ⟨?word, ?unassigned, ?lost⟩
    case unassigned =>
      intro hw d hlt
      exact row (Dev.seqCycle_noWord hb hon rfl hw hlt)
    case word =>
      intro w hw hup d e
      have cycle := Dev.seqCycle_word hb hon rfl hw hup
      refine ⟨fun hlim h => row (cycle.trans (if_pos ⟨hlim, by tauto⟩)), fun hlt hwait hbad hmet => ?_, fun hlt h => ?_⟩
      · exact row (cycle.trans ((if_neg fun h => Nat.not_le.2 hlt h.1).trans (if_pos ⟨hwait, hbad, hmet⟩)))
      · refine row (cycle.trans ((if_neg fun h => Nat.not_le.2 hlt h.1).trans (if_neg ?_)))
        rintro ⟨hwait, hbad, hmet⟩
        obtain h | h | h := h
        · exact Bool.noConfusion (hwait.symm.trans h)
        · exact Bool.noConfusion (h.symm.trans hbad)
        · exact Bool.noConfusion (h.symm.trans hmet)
    case lost =>
      rintro hw rfl hat d hlt
      exact row (Dev.seqCycle_patchLost hb hon rfl hw hat hlt)
  case abandon =>
    intro skip nx r up d hs n e
    exact ⟨Dev.seqAbandon_committed hs, Dev.seqAbandon_restarts hs, Dev.seqAbandon_skips hs⟩
  case duty =>
    intro k n last next s hb hon hk h1 h2 d
    have row {e : Dev} (he : s.dev.seqDuty k n last next = e) : exec (.seqFrameRoutine [.duty k n last next]) s = .next (s.after e) :=
      exec_seqFrameRoutine_one ((Dev.seqStretch_duty hb hon k n last next).trans he)
    exact ⟨fun hlim => row ((Dev.seqDuty_started hk h1 h2).trans (if_pos hlim)),
      fun hlt => row ((Dev.seqDuty_started hk h1 h2).trans (if_neg (Nat.not_le.2 hlt)))⟩
  case stretches =>
    intro s hb hon
    refine ⟨fun h => exec_seqFrameRoutine_one (Dev.seqStretch_file hb hon h),
      fun h => exec_seqFrameRoutine_one (Dev.seqStretch_finish hb hon h), ?_⟩
    exact (exec_seqOverrun s).trans (run_after s _ _ (if_pos (by simp [hb, hon])))
  case filed =>
    intro d hh hon
    exact (if_neg (by simp [hh])).trans (if_pos hon)
  case overrun =>
    intro d o e0 e
    exact ⟨fun h => Dev.seqOverrun_eq.trans (by rw [if_pos h]), fun h => Dev.seqOverrun_eq.trans (by rw [if_neg h])⟩
  case late =>
    intro s hh hon hlo hhi a e
    have row {r : Dev} (hr : s.dev.seqLate = r) : exec .seqPageLate s = .next (s.after r) :=
      (exec_seqPageLate s).trans (run_after s _ _ ((if_pos (by simp [hh, hon, hlo, hhi])).trans hr))
    have late : s.dev.seqPageLate = a := rfl
    have left : s.dev.seqLate = e.filingLeft := Dev.seqLate_eq late rfl
    exact ⟨fun h => row (left.trans (Dev.filingLeft_otherDuty h)), fun p r up h hs => row (left.trans (Dev.filingLeft_filing h hs))⟩
  case failed =>
    intro d
    refine ⟨Dev.seqFailed_unpatched, ?_⟩
    intro hp hf e
    exact ⟨fun h => (Dev.seqFailed_patched hp hf).trans (if_pos h), fun h => (Dev.seqFailed_patched hp hf).trans (if_neg (Nat.not_le.2 h))⟩
  case restart =>
    intro w s hp ha hr d
    have row {e : Dev} (he : d.seqRestart = e) : exec (.seqRestartRequest w) s =
        .next (s.after ((e.respond .done).accessed s.dev w.agent 0x160008)) :=
      (exec_seqRestartRequest w s).trans (run_gated_if (by simp [hr]) hp ((Dev.writeSeqCtl_restart ha hr).trans he))
    exact ⟨fun hb => row (if_pos hb), fun hb => row (if_neg (ne_true_of_eq_false hb))⟩
  case patch =>
    intro w s hp ha a
    have row {e : Dev} (he : Dev.writePatchData 2 w s.dev = e) := (exec_seqPatchWrite w s).trans (run_gated s _ w hp he)
    refine ⟨fun hg => row (Dev.writePatchData_guarded ha hg), ?_⟩
    intro hg v
    exact row (Dev.writePatchData_takes ha hg)
  case regs =>
    intro m w s hm hp ha hs hx e
    have row {r : Dev} (hr : Dev.writeMatch m w s.dev = r) := (exec_seqMatchWrite m w s).trans (run_gated_below hm hp hr)
    exact ⟨fun h => row ((Dev.writeMatch_direct ha hs hx).trans (if_pos h)), fun h => row ((Dev.writeMatch_direct ha hs hx).trans (if_neg h))⟩

end Sys2Proof.Machine
end

section
/-! Counters, tracing and meters (R466 to R480): snapshots, the trace ring and the meter configuration, an equation per case. -/

namespace Sys2Proof.Machine

section
variable {d : Dev} {w : RegWr}

/-! Snapshots (R467 to R469). -/

/-- A snapshot command of a function without access. -/
def Dev.snapBars (d : Dev) : Agent → Bool
  | .host f _ => !bit (d.f F.OBS_CTL_UACC) f.val
  | _ => false

section
variable (hgo : w.fld F.OBS_SNAP_CMD_GO = 1)
include hgo

theorem Dev.writeSnapCmd_taken {rs : List Nat} (hb : d.snapBars w.agent = false) (hg : snapGroup (w.fld F.OBS_SNAP_CMD_GROUP) = some rs) :
    Dev.writeSnapCmd w d =
      d.snapTake (snapBank w.agent) (w.fld F.OBS_SNAP_CMD_GROUP) (w.fld F.OBS_SNAP_CMD_CLEAR == 1) rs := by
  have group : (if d.snapBars w.agent = true then none else snapGroup (w.fld F.OBS_SNAP_CMD_GROUP)) = some rs :=
    (if_neg (ne_true_of_eq_false hb)).trans hg
  rw [Dev.writeSnapCmd, if_neg (by simp [hgo])]
  dsimp only
  split
  next rs' h => rw [Option.some.inj (h.symm.trans group)]
  next h => exact absurd (h.symm.trans group) (by simp)

theorem Dev.writeSnapCmd_refused (h : d.snapBars w.agent = true ∨ snapGroup (w.fld F.OBS_SNAP_CMD_GROUP) = none) :
    Dev.writeSnapCmd w d = { d with obs := { d.obs with snapRefused := d.obs.snapRefused.set (snapBank w.agent) true } } := by
  have group : (if d.snapBars w.agent = true then none else snapGroup (w.fld F.OBS_SNAP_CMD_GROUP)) = none := by
    obtain h | h := h
    · exact if_pos h
    · rw [h, ite_self]
  rw [Dev.writeSnapCmd, if_neg (by simp [hgo])]
  dsimp only
  split
  next rs' h => exact absurd (h.symm.trans group) (by simp)
  next h => rfl

end

theorem Dev.snapTake_eq (b g : Nat) (clear : Bool) (rs : List Nat) :
    let gaps := rs.any (fun off => !d.on (domainOf off))
    let hdr := g + rs.length * 2 ^ 8 + b2n clear * 2 ^ 17 + b2n gaps * 2 ^ 18
    let val := fun off => if d.on (domainOf off) || keptOff off then d.stored off else 0
    let e := if clear = true then rs.foldl Dev.clearRc d else d
    d.snapTake b g clear rs =
      { e with obs := { e.obs with snap := e.obs.snap.set b (([hdr, d.cycle, d.clk.sfc] ++ rs.map val).map (BitVec.ofNat 64)) } } := rfl

/-! The trace ring (R476 to R479). -/

/-- Trace n is the one that a frame with its number carries. -/
theorem Dev.trcClose_open {f : Frame} {n fate : Nat} {t : Trace} (hf : f.trace = n + 1)
    (ht : d.obs.traces.find? (fun t => t.num == n) = some t) :
    d.trcClose f fate = { d with obs := { d.obs with
      traces := d.obs.traces.erase t
      closed := d.obs.closed ++ [{ t with fate := fate, fateCyc := d.cycle, sfc := d.clk.sfc, tsOut := 0 }] } } := by
  have find : (if (f.trace == 0) = true then none else d.obs.traces.find? (fun t => t.num + 1 == f.trace)) = some t := by
    rw [hf, if_neg (by simp), ← ht]
    simp
  rw [Dev.trcClose, find]

theorem Dev.trcTimeout_expired {n : Nat} {t : Trace} (ht : d.obs.traces.find? (fun t => t.num == n) = some t) (hc : t.start + 2 ^ 30 ≤ d.cycle) :
    Dev.trcTimeout n d = { d with obs := { d.obs with
      traces := d.obs.traces.erase t
      closed := d.obs.closed ++ [{ t with fate := 10, fateCyc := d.cycle, sfc := d.clk.sfc, tsOut := 0 }] } } := by
  rw [Dev.trcTimeout, ht]
  exact (if_pos hc).trans (Dev.trcClose_open rfl ht)

theorem Dev.trcWrite_issues {t : Trace} {rest : List Trace} (hc : d.obs.closed = t :: rest) (hw : d.obs.writing = false) (h29 : d.on 29 = true)
    (h31 : d.on 31 = true) (hen : d.f F.OBS_TRC_CFG_EN ≠ 0) (hf : d.f F.OBS_TRC_STAT_FAULT = 0) (hfull : d.trcFull = false) :
    let i := d.f F.OBS_TRC_PI_IDX
    let n := 2 ^ d.f F.OBS_TRC_CFG_LOG2SIZE
    d.trcWrite = (({ d with obs := { d.obs with writing := true } } : Dev).request
      { kind := .traceRecord (d.f F.OBS_TRC_STAT_SEQ), write := true, mstr := 5, func := d.f F.OBS_TRC_CFG_FUNC
        addr := d.f F.OBS_TRC_BASE_BASE + 64 * (i % n), len := 64
        data := t.bytes (d.f F.OBS_TRC_STAT_SEQ) (1 - i / n % 2) }).trcLevels := by
  intro i n
  rw [Dev.trcWrite, hc]
  exact if_neg (by simp [hw, h29, h31, hfull, Dev.b_eq_true.2 hen, Dev.b_eq_false.2 hf])

theorem Dev.trcDone_current {seq : Nat} {c : Rsp} {r : FabReq} (ho : d.outstanding (.traceRecord seq) = some r)
    (hs : (d.answered (.traceRecord seq) r c).obs.stale = 0) (hw : (d.answered (.traceRecord seq) r c).obs.writing = true) :
    let e := d.answered (.traceRecord seq) r c
    Dev.trcDone seq c d = if c = .done then
      (((({ e with obs := { e.obs with writing := false, closed := e.obs.closed.drop 1 } } : Dev).set F.OBS_TRC_PI_IDX
        (e.f F.OBS_TRC_PI_IDX + 1)).set F.OBS_TRC_STAT_SEQ (seq + 1)).trcLevels)
      else ((({ e with obs := { e.obs with writing := false } } : Dev).set F.OBS_TRC_STAT_FAULT 1).trcLevels) := by
  intro e
  refine (Dev.answer_outstanding ho _ _).trans ((if_neg ?_).trans ((if_neg ?_).trans ?_))
  · exact by simpa using hs
  · exact by simpa using hw
  · by_cases hc : c = .done
    · rw [if_pos hc]
      exact congrArg Dev.trcLevels (if_pos (Rsp.ok_eq_true.2 hc))
    · rw [if_neg hc]
      exact congrArg Dev.trcLevels (if_neg (by simpa [Rsp.ok_eq_true] using hc))

/-! Registers of the tracer and the meters (R312, R476, R479, R480). -/

section
variable (hen : d.f F.OBS_TRC_CFG_EN = 0)
include hen

/-- The fields of OBS_TRC_CFG written while the tracer is disabled. -/
theorem Dev.writeTrcCfg_disabled :
    let sz := w.merged F.OBS_TRC_CFG_LOG2SIZE (d.f F.OBS_TRC_CFG_LOG2SIZE)
    let en := w.merged F.OBS_TRC_CFG_EN (d.f F.OBS_TRC_CFG_EN)
    let e := (((((d.set F.OBS_TRC_CFG_LOG2SIZE sz).put F.OBS_TRC_CFG_FUNC w).set F.OBS_TRC_CFG_EN en).put F.OBS_TRC_CFG_N w).put
      F.OBS_TRC_CFG_PATHS w)
    Dev.writeTrcCfg w d = if en = 1 ∧ (sz < 6 ∨ 16 < sz) then d
      else (if en = 1 then ({ (e.set F.OBS_TRC_PI_IDX 0).set F.OBS_TRC_CI_IDX 0 with obs := { e.obs with
        writing := false, stale := e.obs.stale + b2n e.obs.writing } } : Dev) else e).trcLevels := by
  have was : d.b F.OBS_TRC_CFG_EN = false := Dev.b_eq_false.2 hen
  intro sz en e
  simp only [Dev.writeTrcCfg, was, Bool.false_eq_true, if_false, Bool.not_false, Bool.true_and]
  refine if_congr (by simp [sz, en]) rfl ?_
  exact congrArg Dev.trcLevels (if_congr beq_iff_eq rfl rfl)

end

theorem Dev.writeTrcSeed_eq :
    let v := w.fld F.OBS_TRC_SEED_SEED
    Dev.writeTrcSeed w d = { d with obs := { d.obs with lfsr := if v = 0 then 1 else v } } := by
  intro v
  rw [Dev.writeTrcSeed, if_congr beq_iff_eq rfl rfl]

theorem Dev.writeTrcCi_eq :
    let c := w.merged F.OBS_TRC_CI_IDX (d.f F.OBS_TRC_CI_IDX)
    let pi := d.f F.OBS_TRC_PI_IDX
    let ahead := (pi + 2 ^ 18 - c) % 2 ^ 18
    Dev.writeTrcCi w d =
      if ahead ≤ 2 ^ d.f F.OBS_TRC_CFG_LOG2SIZE ∧ ahead ≤ (pi + 2 ^ 18 - d.f F.OBS_TRC_CI_IDX) % 2 ^ 18 then (d.set F.OBS_TRC_CI_IDX c).trcLevels
      else d.set F.OBS_TRC_STAT_CI_BAD 1 := by
  intro c pi ahead
  refine if_congr ?_ rfl rfl
  rw [Bool.and_eq_true, decide_eq_true_iff, decide_eq_true_iff]
  rfl

end

/-- Settles O54: each row by the equation of its case. A running counter that overflows to its operand and what a clearing snapshot clears are
log entry 49; the trace write that a new enabling leaves stale is log entry 40. -/
theorem observationCommands : Obligations.ObservationCommands := by
  refine ⟨?snap, ?pmc, ?ovf, ?timeout, ?record, ?answer, ?cfg, ?regs⟩
  case snap =>
    intro w s hp hgo g b clear bars
    have row {e : Dev} (he : Dev.writeSnapCmd w s.dev = e) := (exec_obsSnapGo w s).trans (run_gated s _ w hp he)
    have barred : bars s.dev = s.dev.snapBars w.agent := by cases h : w.agent <;> simp [bars, Dev.snapBars, h]
    refine ⟨?_, fun h => row (Dev.writeSnapCmd_refused hgo (barred ▸ h))⟩
    intro rs hb hg gaps hdr val d
    exact row ((Dev.writeSnapCmd_taken hgo (barred ▸ hb) hg).trans (Dev.snapTake_eq ..))
  case pmc =>
    intro k w s hk
    exact ⟨fun hp => (exec_pmcRunWrite w s).trans (run_gated s _ w hp rfl),
      fun hp => (exec_pmcCfgWrite k w s).trans (run_gated_below hk hp rfl),
      fun hp => (exec_pmcCntWrite k w s).trans (run_gated_below hk hp rfl)⟩
  case ovf =>
    intro k past s hk hrun hev
    exact (exec_pmcOvf k past s).trans (run_after s _ _ (if_pos (by simp [hk, hrun, hev])))
  case timeout =>
    intro n t s ht hc
    exact (exec_traceTimeout n s).trans (run_after s _ _ (Dev.trcTimeout_expired ht hc))
  case record =>
    intro t rest s hc hw h29 h31 hen hf hfull i n
    exact (exec_traceRecordWrite s).trans (run_after s _ _ (Dev.trcWrite_issues hc hw h29 h31 hen hf hfull))
  case answer =>
    intro seq c r s ho d hs hw
    have row {e : Dev} (he : Dev.trcDone seq c s.dev = e) := (exec_traceRecordDone seq c s).trans (run_after s _ _ he)
    exact ⟨fun hc => row ((Dev.trcDone_current ho hs hw).trans (if_pos hc)), fun hc => row ((Dev.trcDone_current ho hs hw).trans (if_neg hc))⟩
  case cfg =>
    intro w s hp hen sz en d
    have cfg := Dev.writeTrcCfg_disabled (w := w) hen
    have row {e : Dev} (he : Dev.writeTrcCfg w s.dev = e) := (exec_trcCfgWrite w s).trans (run_gated s _ w hp he)
    refine ⟨fun h1 hlo hhi => row (cfg.trans ((if_neg ?_).trans (congrArg Dev.trcLevels (if_pos h1)))),
      fun h0 => row (cfg.trans ((if_neg ?_).trans (congrArg Dev.trcLevels (if_neg ?_)))),
      fun h1 h => row (cfg.trans (if_pos ⟨h1, h⟩))⟩
    · rintro ⟨-, h | h⟩ <;> omega
    · rintro ⟨h1, -⟩
      omega
    · omega
  case regs =>
    intro w s
    refine ⟨?seed, ?ci, ?bw⟩
    case seed =>
      intro hp v
      exact (exec_trcSeedWrite w s).trans (run_gated s _ w hp Dev.writeTrcSeed_eq)
    case ci =>
      intro hp c pi ahead room
      have row {e : Dev} (he : Dev.writeTrcCi w s.dev = e) := (exec_trcCiWrite w s).trans (run_gated s _ w hp he)
      exact ⟨fun h => row (Dev.writeTrcCi_eq.trans (if_pos h)), fun h => row (Dev.writeTrcCi_eq.trans (if_neg h))⟩
    case bw =>
      intro hp cur next
      exact (exec_bwCfgWrite w s).trans (run_gated s _ w hp rfl)

end Sys2Proof.Machine
end

section
/-! The mailboxes (R344 to R352): doorbells and acknowledgements, notices, and the requests of MB2 and MB0, an equation per case. -/

namespace Sys2Proof.Machine

section
variable {d : Dev} {n : Nat} {w : RegWr}

/-- The firmware takes the request that mailbox n holds. -/
theorem Dev.mbReq_has {ty len : Nat} (h : d.mbHas n ty len) (g : Dev → Dev) : d.mbReq n ty len g = g d := by
  by_cases hn : n = 0
  · subst hn
    exact Dev.mbReq_mb0 h g
  · obtain ⟨hon, howner, hopen, hty, hlen⟩ := h
    rw [if_neg hn] at hopen
    obtain ⟨hlo, hhi, hload⟩ := hopen
    have howned : d.mbOwned n = true := Dev.b_eq_true.2 howner
    rw [Dev.mbReq, if_neg (by simp [hon, howned, hn, hlo, hhi, hload, Dev.mbWord, hty]), if_neg (by simp [Dev.mbWord, hlen])]

theorem run_mbReq {s : State} {ty len : Nat} (h : s.dev.mbHas n ty len) {g : Dev → Dev} {e : Dev} (he : g s.dev = e) :
    s.run (fun d => d.mbReq n ty len g) = .next (s.after e) :=
  run_after s _ _ ((Dev.mbReq_has h g).trans he)

/-! Doorbells and acknowledgements (R345 to R347). -/

section
variable (hn : n = 0 ∨ n = 2)
include hn

theorem run_mbDoorbell {s : State} {e : Dev} (hp : s.dev.passes w.agent (0x178000 + 8 * n)) (he : Dev.mbDoorbell n w s.dev = e) :
    exec (.mbDoorbell n w) s = .next (s.after ((e.respond .done).accessed s.dev w.agent (0x178000 + 8 * n))) := by
  have direct : Dev.writeMbDb n w s.dev = e := (if_neg (by obtain rfl | rfl := hn <;> decide)).trans he
  exact (exec_mbDoorbell n w s).trans (run_gated_if (by simpa using hn) hp direct)

theorem run_mbUnknownType {s : State} {ty len : Nat} (h : s.dev.mbHas n ty len) (hk : mbKnown n ty = false) (t q : Nat) (l : List Word) :
    exec (.mbUnknownType n t q l) s = .next (s.after (s.dev.mbRespond n 1 [])) := by
  have hty : bits (s.dev.mbWord n 0) 16 8 = ty := h.2.2.2.1
  have hlen : bits (s.dev.mbWord n 0) 32 12 = len := h.2.2.2.2
  have unknown : s.dev.mbUnknown n = s.dev.mbRespond n 1 [] := by
    rw [Dev.mbUnknown, hty, hlen]
    exact (if_pos (by simpa [hk] using hn)).trans (Dev.mbReq_has h _)
  exact (exec_mbUnknownType n t q l s).trans (run_after s _ _ ((if_neg (by obtain rfl | rfl := hn <;> decide)).trans unknown))

end

section
variable (hq : w.fld F.MBX_DB_SEQ = (d.f F.MBX_STAT_LAST_SEQ n + 1) % 65536)
include hq

theorem Dev.mbDoorbell_busy (ho : d.f F.MBX_STAT_OWNER n ≠ 0) : Dev.mbDoorbell n w d = d.mbRefuse n 2 :=
  (if_neg (by simp [hq])).trans (if_pos (Dev.b_eq_true.2 ho))

theorem Dev.mbDoorbell_barred (ho : d.f F.MBX_STAT_OWNER n = 0) (ha : d.mbPermits n w.agent = false) : Dev.mbDoorbell n w d = d.mbRefuse n 3 :=
  (if_neg (by simp [hq])).trans ((if_neg (ne_true_of_eq_false (Dev.b_eq_false.2 ho))).trans (if_pos (by simp [ha])))

theorem Dev.mbDoorbell_taken (ho : d.f F.MBX_STAT_OWNER n = 0) (ha : d.mbPermits n w.agent = true) :
    let e := (d.setI F.MBX_STAT_OWNER n 1).setI F.MBX_STAT_LAST_SEQ n (w.fld F.MBX_DB_SEQ)
    let w0 := e.f F.MBX_AREA_DATA n 0
    Dev.mbDoorbell n w d = (e.mbFill n 0 [w0 - bits w0 44 2 * 2 ^ 44 + agentFn w.agent * 2 ^ 44]).mbTaken n :=
  (if_neg (by simp [hq])).trans ((if_neg (ne_true_of_eq_false (Dev.b_eq_false.2 ho))).trans (if_neg (by simp [ha])))

end

theorem Dev.mbDoorbell_outOfSequence (hq : w.fld F.MBX_DB_SEQ ≠ (d.f F.MBX_STAT_LAST_SEQ n + 1) % 65536) : Dev.mbDoorbell n w d = d.mbRefuse n 1 :=
  if_pos (by simpa using hq)

theorem Dev.mbAck_permitted (hack : w.fld F.MBX_DB_ACK = 1) (ho : d.f F.MBX_STAT_OWNER 1 ≠ 0) (ha : d.mbPermits 1 w.agent = true) :
    Dev.mbAck w d = if w.fld F.MBX_DB_SEQ ≠ d.f F.MBX_STAT_RESP_SEQ 1 then d.mbRefuse 1 1 else d.setI F.MBX_STAT_OWNER 1 0 := by
  have howned : d.mbOwned 1 = true := Dev.b_eq_true.2 ho
  rw [Dev.mbAck, if_neg (by simp [hack, howned]), if_neg (by simp [ha])]
  exact if_congr bne_iff_ne rfl rfl

/-! Notices (R347, R352). -/

theorem Dev.mbNotice_queued {ty : Nat} {body : List Word} {t : List (Nat × List Word)} (ho : d.f F.MBX_STAT_OWNER 1 = 0)
    (hr : d.docentRuns = true) (hon : d.on 1 = true) (hq : d.fw.notices = (ty, body) :: t) :
    d.mbNotice = ({ d with fw := { d.fw with notices := t } } : Dev).mbPost ty (body.map BitVec.toNat) := by
  have free : d.mbOwned 1 = false := Dev.b_eq_false.2 ho
  rw [Dev.mbNotice, if_neg (by simp [free, hr, hon]), hq]

/-- What Docent has to say is queued before the next notice is posted. -/
def Dev.textQueued (d : Dev) : Option (List Byte) → Dev
  | some l => d.notice 0x86 ((mbPack (l.take 4088)).map (BitVec.ofNat 64))
  | none => d

theorem Dev.noticePost_running (hr : d.docentRuns = true) (text : Option (List Byte)) : Dev.noticePost text d = (d.textQueued text).mbNotice := by
  cases text with
  | none => rfl
  | some l => exact congrArg Dev.mbNotice (if_pos hr)

/-! Requests of MB2 (R350). -/

theorem Dev.docentLoad_badTime {ms : Nat} (hms : (if bits (d.mbWord 2 3) 0 10 = 0 then 100 else bits (d.mbWord 2 3) 0 10) = ms)
    (h : ms < 10 ∨ 1000 < ms) : d.docentLoad = d.mbRespond 2 3 [] := by
  have time : (if (bits (d.mbWord 2 3) 0 10 == 0) = true then 100 else bits (d.mbWord 2 3) 0 10) = ms :=
    (if_congr beq_iff_eq rfl rfl).trans hms
  rw [Dev.docentLoad]
  simp only [time]
  exact if_pos (by simpa using h)

theorem Dev.docentLoad_taken {ms : Nat} (hms : (if bits (d.mbWord 2 3) 0 10 = 0 then 100 else bits (d.mbWord 2 3) 0 10) = ms)
    (hlo : 10 ≤ ms) (hhi : ms ≤ 1000) :
    let auto := bit (d.mbWord 2 3) 10
    let l : ImgLoad := { type := 2, addr := d.mbWord 2 1, len := d.mbWord 2 2 }
    let e := (d.set F.MBX_WDOG_WD_MS ms).set F.MBX_FW_STAT_AUTO_LEFT (if auto then 3 else 0)
    let e : Dev := { e with fw := { e.fw with docAddr := l.addr, docLen := l.len, auto := auto, restartDue := false } }
    d.docentLoad = if e.f F.MBX_FW_STAT_DSTATE = 2 ∨ e.f F.MBX_FW_STAT_DSTATE = 3 then
        ({ e with fw := { e.fw with load := some l } } : Dev).set F.MBX_FW_STAT_DSTATE 3
      else e.docentFetch l := by
  intro auto l e0 e
  have time : (if (bits (d.mbWord 2 3) 0 10 == 0) = true then 100 else bits (d.mbWord 2 3) 0 10) = ms :=
    (if_congr beq_iff_eq rfl rfl).trans hms
  rw [Dev.docentLoad]
  simp only [time]
  refine (if_neg (by simp; omega)).trans (if_congr ?_ rfl rfl)
  rw [Bool.or_eq_true, beq_iff_eq, beq_iff_eq]

section
variable {type keyid : Nat} (ht : bits (d.mbWord 2 1) 0 8 = type) (hk : bits (d.mbWord 2 1) 8 2 = keyid)
include ht hk

theorem Dev.svnRaise_unused (hr : d.fw.runs.find? (fun r => r.type == type && r.keyid == keyid && d.imgInUse type) = none) :
    d.svnRaise = d.mbRespond 2 4 [] := by
  rw [Dev.svnRaise, ht, hk]
  dsimp only
  rw [hr]

theorem Dev.svnRaise_inUse {r : ImgRun} (hr : d.fw.runs.find? (fun r => r.type == type && r.keyid == keyid && d.imgInUse type) = some r) :
    let new := bits (d.mbWord 2 1) 16 16
    let f := d.floorOf type keyid
    d.svnRaise = if new ≤ f.1 ∨ r.svn < new then d.mbRespond 2 3 []
      else if 255 ≤ f.2 then d.mbRespond 2 4 []
      else ({ d with fw := { d.fw with floors := d.fw.floors.put (4 * type + keyid) (new, f.2 + 1) } } : Dev).mbRespond 2 0 [new] := by
  intro new f
  rw [Dev.svnRaise, ht, hk]
  dsimp only
  rw [hr]
  exact if_congr (by simp [new, f]) rfl rfl

end

/-! Requests of MB0 (R351). -/

theorem Dev.mbActsFor_iff {f : Nat} : d.mbActsFor f = true ↔ bits (d.mbWord 0 0) 44 2 = f ∨ bits (d.mbWord 0 0) 44 2 = d.f F.MBX_ACL_CTRL_FN := by
  rw [Dev.mbActsFor, Bool.or_eq_true, beq_iff_eq, beq_iff_eq]

/-- ADMIN_SETUP in the order of its checks (log entry 42). -/
theorem Dev.adminSetup_eq :
    let a := fun k => d.mbWord 0 k
    let f := a 1 % 4
    let free := d.f F.HRG_FUNC_STAT_ADMIN_READY f = 0 ∧ d.resetting f = false
    let sizes := 4 ≤ bits (a 1) 8 4 ∧ bits (a 1) 8 4 ≤ 12 ∧ 4 ≤ bits (a 1) 12 4 ∧ bits (a 1) 12 4 ≤ 12
    let places := ∀ k, 2 ≤ k → k ≤ 5 → a k % 64 = 0 ∧ a k < 2 ^ 48
    (¬ d.mbActsFor f = true → d.adminSetup = d.mbRespond 0 5 []) ∧
    (d.mbActsFor f = true → ¬ (free ∧ d.f F.ID_INTEG_FAB_WIRED ≠ 0) → d.adminSetup = d.mbRespond 0 4 []) ∧
    (d.mbActsFor f = true → free → d.f F.ID_INTEG_FAB_WIRED ≠ 0 → ¬ (sizes ∧ places) → d.adminSetup = d.mbRespond 0 3 []) ∧
    (d.mbActsFor f = true → free → d.f F.ID_INTEG_FAB_WIRED ≠ 0 → sizes → places → d.adminSetup = ((d.adminPut f
        { wqBase := a 2, wqHdr := a 3, wqLog := bits (a 1) 8 4, cqBase := a 4, cqHdr := a 5, cqLog := bits (a 1) 12 4 }).setI
          F.HRG_FUNC_STAT_ADMIN_READY f 1).mbRespond 0 0 []) := by
  intro a f free sizes places
  have acts : (!d.mbActsFor f) = true ↔ ¬ d.mbActsFor f = true := by simp
  have wrong : (d.b F.HRG_FUNC_STAT_ADMIN_READY f || d.resetting f || !d.b F.ID_INTEG_FAB_WIRED) = true ↔
      ¬ (free ∧ d.f F.ID_INTEG_FAB_WIRED ≠ 0) := by
    rw [Bool.or_eq_true, Bool.or_eq_true, Dev.b_eq_true, Bool.not_eq_true', Dev.b_eq_false]
    cases h : d.resetting f <;> simp [free, h]
    tauto
  have invalid : (decide (bits (a 1) 8 4 < 4) || decide (bits (a 1) 8 4 > 12) || decide (bits (a 1) 12 4 < 4) || decide (bits (a 1) 12 4 > 12) ||
      [2, 3, 4, 5].any (fun k => a k % 64 != 0 || decide (a k ≥ 2 ^ 48))) = true ↔ ¬ (sizes ∧ places) := by
    have split : places ↔ ∀ k ∈ [2, 3, 4, 5], a k % 64 = 0 ∧ a k < 2 ^ 48 :=
      ⟨fun h k hk => h k (by simp at hk; omega) (by simp at hk; omega), fun h k h2 h5 => h k (by simp; omega)⟩
    rw [split]
    simp [sizes]
    omega
  refine ⟨fun h => if_pos (acts.2 h), fun h h' => (if_neg fun c => acts.1 c h).trans (if_pos (wrong.2 h')),
    fun h hf hw h' => (if_neg fun c => acts.1 c h).trans ((if_neg fun c => wrong.1 c ⟨hf, hw⟩).trans (if_pos (invalid.2 h'))),
    fun h hf hw hs hp => (if_neg fun c => acts.1 c h).trans ((if_neg fun c => wrong.1 c ⟨hf, hw⟩).trans (if_neg fun c => invalid.1 c ⟨hs, hp⟩))⟩

theorem Dev.adminTeardown_read {v : Word} {p : AdminPair} (ha : d.mbActsFor (d.mbWord 0 1 % 4) = true)
    (hp : (d.adminHost (d.mbWord 0 1 % 4) v).hrg.admin.look (d.mbWord 0 1 % 4) = some p) :
    let f := d.mbWord 0 1 % 4
    let e := d.adminHost f v
    Dev.adminTeardown v .done d = if p.head ≠ p.tail ∨ p.busy = true ∨ p.hold ≠ none ∨ p.pi ≠ p.hostIdx then e.mbRespond 0 4 []
      else ((({ e with hrg := { e.hrg with admin := e.hrg.admin.del f } } : Dev).setI F.HRG_FUNC_STAT_ADMIN_READY f 0).level (1024 + f)
          false).mbRespond 0 0 [] := by
  intro f e
  rw [Dev.adminTeardown]
  refine (if_neg (by simp [ha])).trans ?_
  dsimp only
  rw [show (if Rsp.done.ok = true then d.adminHost (d.mbWord 0 1 % 4) v else d) = d.adminHost (d.mbWord 0 1 % 4) v from rfl, hp]
  refine if_congr ?_ rfl rfl
  simp [Option.isSome_iff_ne_none, or_assoc, Rsp.ok]

theorem Dev.termInfo_eq :
    let ps := d.f F.TUS_SEQSEL_PSEQ
    let done := decide (∃ q, d.term.full = some q ∧ (d.term.collect.all (fun c => c.pseq == q)) = true)
    let m := b2n (d.b F.TST_ID_VALID) + (d.listed F.TUS_ALLOC_VALID).countP (fun p => p.1 != 0 && p.2 == 1)
    d.termInfo = d.mbRespond 0 0 [d.stored 0x60000, d.stored 0x60018, ps + b2n done * 2 ^ 8 + m * 2 ^ 9] := by
  intro ps done m
  have complete : done = match d.term.full with
      | some q => (match d.term.collect with | some c => c.pseq == q | none => true)
      | none => false := by
    rw [Bool.eq_iff_iff, decide_eq_true_iff]
    cases d.term.full <;> cases d.term.collect <;> simp
  rw [complete]
  rfl

end

/-- Settles O55: the doorbells, the notices, and each request by the checks on it. WHY of the first rule broken, DOCENT_STOP answered at once,
reserved bits of ACL_SET giving 03h, the order of ADMIN_SETUP's checks and its 04h without a fabric, and the padding of TEXT are log entry 42. -/
theorem mailboxCommands : Obligations.MailboxCommands := by
  refine ⟨fun d n st body => rfl, ?doorbell, ?ack, ?post, fun d ty body => rfl, ?requests⟩
  case doorbell =>
    intro n w s hn hp q next no
    exact ⟨fun h => run_mbDoorbell hn hp (Dev.mbDoorbell_outOfSequence h), fun h ho => run_mbDoorbell hn hp (Dev.mbDoorbell_busy h ho),
      fun h ho ha => run_mbDoorbell hn hp (Dev.mbDoorbell_barred h ho ha), fun h ho ha => run_mbDoorbell hn hp (Dev.mbDoorbell_taken h ho ha)⟩
  case ack =>
    intro w s hp hack ho ha
    have row {e : Dev} (he : Dev.mbAck w s.dev = e) : exec (.mb1Ack w) s = .next (s.after ((e.respond .done).accessed s.dev w.agent 0x178008)) :=
      (exec_mb1Ack w s).trans (run_gated s _ w hp ((if_pos (by decide)).trans he))
    exact ⟨fun h => row ((Dev.mbAck_permitted hack ho ha).trans (if_neg (not_not.2 h))),
      fun h => row ((Dev.mbAck_permitted hack ho ha).trans (if_pos h))⟩
  case post =>
    intro text ty body t s d hr ho hr' hon hq
    exact (exec_mb1NoticePost text s).trans (run_after s _ _ ((Dev.noticePost_running hr text).trans (Dev.mbNotice_queued ho hr' hon hq)))
  case requests =>
    intro n ty len s h a reply
    refine ⟨fun t q l hn hk => run_mbUnknownType hn h hk t q l, ?info, ?patch, ?load, ?stop, ?seq, ?svn, ?acl, ?reset, ?version, ?setup, ?teardown,
      ?mask, ?ping, ?term⟩
    case info =>
      rintro rfl rfl rfl
      exact (exec_curInfo s).trans (run_mbReq h rfl)
    case patch =>
      rintro rfl rfl rfl
      refine ⟨fun hst hpt hl => (exec_curPatch s).trans (run_mbReq h (if_neg (by simp [hst, hpt, hl]))), fun hno => ?_⟩
      exact (exec_curPatch s).trans (run_mbReq h (if_pos (by simpa [or_assoc] using hno)))
    case load =>
      rintro rfl rfl rfl ms auto
      have row {e : Dev} (he : s.dev.docentLoad = e) : exec .docentLoad s = .next (s.after e) := (exec_docentLoad s).trans (run_mbReq h he)
      refine ⟨fun hms => row (Dev.docentLoad_badTime rfl hms), ?_⟩
      intro hlo hhi d0 d
      refine ⟨fun hd => row ((Dev.docentLoad_taken rfl hlo hhi).trans (if_pos hd)), fun h2 h3 => ?_⟩
      exact row ((Dev.docentLoad_taken rfl hlo hhi).trans (if_neg (not_or.2 ⟨h2, h3⟩)))
    case stop =>
      rintro rfl rfl rfl
      exact ⟨fun hr => (exec_docentStop s).trans (run_mbReq h (if_pos hr)),
        fun hr => (exec_docentStop s).trans (run_mbReq h (if_neg (ne_true_of_eq_false hr)))⟩
    case seq =>
      rintro rfl rfl rfl
      exact (exec_seqPatch s).trans (run_mbReq h rfl)
    case svn =>
      rintro rfl rfl rfl type keyid new f
      have row {e : Dev} (he : s.dev.svnRaise = e) : exec .svnRaise s = .next (s.after e) := (exec_svnRaise s).trans (run_mbReq h he)
      refine ⟨fun hr => row (Dev.svnRaise_unused rfl rfl hr), fun r hr => ⟨fun hf hn hc => ?_, fun hno => ?_⟩⟩
      · have above : ¬ (new ≤ f.1 ∨ r.svn < new) := not_or.2 ⟨Nat.not_le.2 hf, Nat.not_lt.2 hn⟩
        exact row ((Dev.svnRaise_inUse rfl rfl hr).trans ((if_neg above).trans (if_neg (Nat.not_le.2 hc))))
      · exact row ((Dev.svnRaise_inUse rfl rfl hr).trans (if_pos hno))
    case acl =>
      rintro rfl rfl rfl
      refine ⟨fun hlt => (exec_aclSet s).trans (run_mbReq h (if_neg ?_)), fun hge => (exec_aclSet s).trans (run_mbReq h (if_pos ?_))⟩
      · simpa [Dev.mbWord] using hlt
      · simpa [Dev.mbWord] using hge
    case reset =>
      rintro rfl rfl rfl
      exact (exec_funcReset s).trans (run_mbReq h rfl)
    case version =>
      rintro rfl rfl rfl
      exact (exec_getVersion s).trans (run_mbReq h rfl)
    case setup =>
      rintro rfl rfl rfl f mine free sizes places
      have row {e : Dev} (he : s.dev.adminSetup = e) : exec .adminSetup s = .next (s.after e) := (exec_adminSetup s).trans (run_mbReq h he)
      have acts : s.dev.mbActsFor f = true ↔ mine := Dev.mbActsFor_iff
      obtain ⟨other, wrong, invalid, taken⟩ := Dev.adminSetup_eq (d := s.dev)
      exact ⟨fun hm => row (other (mt acts.1 hm)), fun hm hf => row (wrong (acts.2 hm) fun c => hf c.1),
        fun hm hw => row (wrong (acts.2 hm) fun c => c.2 hw), fun hm hf hw hb => row (invalid (acts.2 hm) hf hw hb),
        fun hm hf hw hs hp => row (taken (acts.2 hm) hf hw hs hp)⟩
    case teardown =>
      rintro v p rfl rfl rfl f hm d hp
      have row {e : Dev} (he : Dev.adminTeardown v .done s.dev = e) : exec (.adminTeardown v .done) s = .next (s.after e) :=
        (exec_adminTeardown v .done s).trans (run_mbReq h he)
      have read := Dev.adminTeardown_read (Dev.mbActsFor_iff.2 hm) hp
      exact ⟨fun h1 h2 h3 h4 => row (read.trans (if_neg (by simp [h1, h2, h3, h4]))), fun hno => row (read.trans (if_pos hno))⟩
    case mask =>
      rintro rfl rfl rfl
      exact (exec_noticeMask s).trans (run_mbReq h rfl)
    case ping =>
      rintro rfl rfl rfl
      exact (exec_mb0Ping s).trans (run_mbReq h rfl)
    case term =>
      rintro rfl rfl rfl ps done m
      exact (exec_termInfo s).trans (run_mbReq h Dev.termInfo_eq)

end Sys2Proof.Machine
end

section
/-! Curator and Docent (R339 to R342, R350 to R356): boot, images, Docent's start and end, and the key services, an equation per case. -/

namespace Sys2Proof.Machine

section
variable {d : Dev}

/-! Boot (R341, R342). -/

section
variable (hst : d.f F.MBX_BOOT_STAGE = 0) (hon : d.on 1 = true)
include hst hon

theorem Dev.boot_romOk :
    let a := ((d.set F.MBX_BOOT_STAGE 1).raise 1444)
    let e := (a.set F.MBX_BOOT_STAGE 2).raise 1444
    let e := (if a.pwr.boPending then e.raise 1354 else e).set F.TST_SERIAL_SN Config.serial
    let e : Dev := { e with pwr := { e.pwr with boPending := false } }
    let e := (List.range 16).foldl (fun d k => d.setI F.PWR_POND_COEF_PJ k (Config.calCoef k)) e
    let e := (List.range 33).foldl (fun d k => d.setI F.PWR_POND_STATIC_NJ k (Config.calStatic k)) e
    let e := (e.set F.PWR_POND_THERM_T_SOFT Config.calSoft).set F.PWR_POND_THERM_T_HARD Config.calHard
    Dev.boot true d = (((e.set F.MBX_ACL_MB0_FN 1).set F.MBX_ACL_CTRL_FN 0).set F.MBX_BOOT_STAGE 3).raise 1444 :=
  (if_neg (by simp [hst, hon])).trans (if_neg Bool.false_ne_true)

theorem Dev.boot_romBad :
    let e := (((d.set F.MBX_BOOT_STAGE 1).raise 1444).set F.MBX_BOOT_STAGE 7).raise 1444
    Dev.boot false d = if e.f F.MBX_STAT_OWNER 2 ≠ 0 then e.mbRespond 2 4 [] else e :=
  (if_neg (by simp [hst, hon])).trans ((if_pos rfl).trans (if_congr Dev.b_eq_true rfl rfl))

end

/-! Images (R339, R340). -/

/-- The device whose image fetch has ended: no image is loaded, and the vote on PD31 is gone. -/
def Dev.imageFetched (d : Dev) (r : FabReq) (c : Rsp) : Dev :=
  let d := d.answered .image r c
  let e : Dev := { d with pwr := { d.pwr with imageVote := false } }
  { e with fw := { e.fw with load := none } }

section
variable {image : List Byte} {c : Rsp} {r : FabReq} {l : ImgLoad} (ho : d.outstanding .image = some r)
  (hl : (d.answered .image r c).fw.load = some l)
include ho hl

theorem Dev.imgDone_failed (hc : c ≠ .done) : Dev.imgDone image c d = (d.imageFetched r c).imgFailed l 9 := by
  have bad : c.ok = false := Rsp.ok_eq_false.2 hc
  rw [Dev.imgDone, Dev.answer_outstanding ho]
  dsimp only
  rw [hl]
  simp only [bad, Bool.false_eq_true, if_false, Bool.false_and]
  exact if_neg (by decide)

theorem Dev.imgDone_fetched (hc : c = .done) :
    let e := d.imageFetched r c
    let m := image.take r.len
    let g := if imgFits m l.type then e.imgPlace m l.type else e
    Dev.imgDone image c d = if e.imgStatus m l.type = 0 then g.imgAccepted l m else g.imgFailed l (e.imgStatus m l.type) := by
  have good : c.ok = true := Rsp.ok_eq_true.2 hc
  intro e m g
  rw [Dev.imgDone, Dev.answer_outstanding ho]
  dsimp only
  rw [hl]
  simp only [good, if_true, Bool.true_and]
  exact if_congr beq_iff_eq rfl rfl

end

theorem Dev.imgFailed_requested {l : ImgLoad} (ht : l.type ≠ 2) (ha : l.auto = false) (st : Nat) :
    d.imgFailed l st = (d.set F.MBX_BOOT_LAST_ERR st).mbRespond 2 st [] := by
  have other : ¬ (l.type == 2) = true := by simpa using ht
  exact (if_neg (ne_true_of_eq_false ha)).trans (congrArg (fun e : Dev => e.mbRespond 2 st []) (if_neg other))

theorem Dev.imgAccepted_docent {l : ImgLoad} (m : List Byte) (ht : l.type = 2) (ha : l.auto = false) :
    let a := ((d.set F.MBX_DOCENT_VERSION (imgVersion m)).set F.MBX_DOCENT_SVN (imgSvn m)).set F.MBX_DOCENT_DIGEST (imgWord m 3 % 2 ^ 32)
    d.imgAccepted l m = (({ a with fw := { a.fw with
      accepted := true, digest := imgBe m 24 32, restarted := false } } : Dev).imgRuns m 2).mbRespond 2 0 [imgVersion m + imgSvn m * 2 ^ 16] := by
  intro a
  rw [Dev.imgAccepted, ht]
  dsimp only
  rw [ha]
  rfl

/-! Docent's life (R352, R354 to R356). -/

theorem Dev.docentStart_accepted (ha : d.fw.accepted = true) (hst : d.f F.MBX_FW_STAT_DSTATE = 1) (hl : d.fw.load = none) (hon : d.on 1 = true) :
    let a := ((((d.set F.MBX_BOOT_STAGE 6).raise 1444).set F.MBX_FW_STAT_DSTATE 2).raise 1445)
    let e : Dev := { a with fw := { a.fw with
      mask := 0xFFFF, down := false, accepted := false, kickTick := a.clk.ticks, readyTick := a.clk.ticks } }
    let e := e.notice 0x81 [BitVec.ofNat 64 (e.f F.MBX_DOCENT_VERSION + b2n e.fw.restarted * 2 ^ 16)]
    d.docentStart = (List.range 4).foldl Dev.adminBroken e := by
  unfold Dev.docentStart Dev.bootStage
  exact if_neg (by simp [ha, hst, hl, hon])

/-- An error that Docent reports of itself, with no word of its RAM upset. -/
theorem Dev.docentError_reported : Dev.docentError [] d = d.docentDown 4 := by simp [Dev.docentError]

theorem Dev.docentDown_served (hst : d.f F.MBX_FW_STAT_DSTATE = 2 ∨ d.f F.MBX_FW_STAT_DSTATE = 3) (cause : Nat) :
    let b := ((d.docentHalted cause).count F.MBX_FW_STAT_DOWN_COUNT).raise 1446
    let e := if b.fw.auto = true ∧ b.fw.readyTick + 480000 < b.clk.ticks then b.set F.MBX_FW_STAT_AUTO_LEFT 3 else b
    (e.loadWaits = none →
      d.docentDown cause = { e with fw := { e.fw with restartDue := e.fw.auto && e.f F.MBX_FW_STAT_AUTO_LEFT != 0 } }) ∧
    ∀ l, e.loadWaits = some l → d.docentDown cause = e.docentFetch l := by
  have serving : ¬ (d.f F.MBX_FW_STAT_DSTATE != 2 && d.f F.MBX_FW_STAT_DSTATE != 3) = true := by
    obtain h | h := hst <;> simp [h]
  intro b e
  have budget : (if (b.fw.auto && decide (b.clk.ticks > b.fw.readyTick + 480000)) = true then b.set F.MBX_FW_STAT_AUTO_LEFT 3 else b) = e :=
    if_congr (by rw [Bool.and_eq_true, decide_eq_true_iff]) rfl rfl
  rw [Dev.docentDown, if_neg serving]
  dsimp only
  rw [budget]
  exact ⟨fun h => by rw [h], fun l h => by rw [h]⟩

theorem Dev.docentHalt_stopping (hst : d.f F.MBX_FW_STAT_DSTATE = 3) :
    ((d.docentHalted 3).loadWaits = none → d.docentHalt = d.docentHalted 3) ∧
    ∀ l, (d.docentHalted 3).loadWaits = some l → d.docentHalt = (d.docentHalted 3).docentFetch l := by
  rw [Dev.docentHalt, if_neg (by simp [hst])]
  dsimp only
  exact ⟨fun h => by rw [h], fun l h => by rw [h]⟩

/-- Docent's write of a register that it may not write stops it (R337). -/
theorem Dev.gated_protected {off : Nat} {w : RegWr} (ha : w.agent = .docent) (hm : mpuWrite off = true) (hr : d.reach .docent = true)
    (hs : d.asleep = false) (g : Dev → Dev) : d.gated off w g = (d.respond .done).docentDown 2 := by
  rw [Dev.gated, if_neg (by simp [ha, hr]), if_neg (ne_true_of_eq_false hs), if_pos (by simp [ha, hm])]

/-! Keys (R146, R353). -/

theorem Dev.keyNewService_used {slot : Nat} (hs : slot = 1 ∨ slot = 2) (hu : d.keyUsed slot) : Dev.keyNewService slot d = d.raise 1447 := by
  rw [Dev.keyNewService, if_neg (by obtain rfl | rfl := hs <;> decide)]
  dsimp only
  rw [Dev.keyNew_used hu]

theorem Dev.keyNewService_free {slot : Nat} (hs : slot = 1 ∨ slot = 2) (hu : ¬ d.keyUsed slot) :
    let key := Config.freshKey d.fw.draws
    let e := ({ d with fw := { d.fw with draws := d.fw.draws + 1 } } : Dev).loadKey slot key
    Dev.keyNewService slot d = { e with fw := { e.fw with wrapped := keyWrap (d.fw.kek.getD Config.factoryKek) key } } := by
  intro key e
  rw [Dev.keyNewService, if_neg (by obtain rfl | rfl := hs <;> decide)]
  dsimp only
  rw [Dev.keyNew_free hu]
  rfl

section
variable {gen wrapped : Nat}

theorem Dev.keyBcast_sealed (hk : keyUnwrap d.kekNow wrapped = none) : Dev.keyBcast gen wrapped d = d.raise 1447 := by
  rw [Dev.keyBcast, hk, ite_self]

theorem Dev.keyBcast_unwrapped {k : Nat} (hk : keyUnwrap d.kekNow wrapped = some k) : Dev.keyBcast gen wrapped d =
    if gen = d.f F.MBX_BOOT_KEK_GEN then d.loadKey 3 (k % 2 ^ 256) else d.raise 1447 := by
  by_cases h : gen = d.f F.MBX_BOOT_KEK_GEN
  · rw [Dev.keyBcast, if_pos (by simpa using h), if_pos h, hk]
  · rw [Dev.keyBcast, if_neg (by simpa using h), if_neg h]

theorem Dev.kekRotate_sealed (hk : keyUnwrap d.kekNow wrapped = none) : Dev.kekRotate gen wrapped d = d.raise 1447 := by
  rw [Dev.kekRotate, hk, ite_self]

theorem Dev.kekRotate_unwrapped {k : Nat} (hk : keyUnwrap d.kekNow wrapped = some k) : Dev.kekRotate gen wrapped d =
    if gen = (d.f F.MBX_BOOT_KEK_GEN + 1) % 256 then
      ({ d with fw := { d.fw with kek := some (k % 2 ^ 256) } } : Dev).set F.MBX_BOOT_KEK_GEN gen
    else d.raise 1447 := by
  by_cases h : gen = (d.f F.MBX_BOOT_KEK_GEN + 1) % 256
  · rw [Dev.kekRotate, if_pos (by simpa using h), if_pos h, hk]
  · rw [Dev.kekRotate, if_neg (by simpa using h), if_neg h]

end
end

/-- A service that a running Docent asks for. -/
theorem run_service {s : State} (hr : s.dev.docentRuns = true) (hon : s.dev.on 1 = true) {g : Dev → Dev} {e : Dev} (he : g s.dev = e) :
    s.run (fun d => d.service g) = .next (s.after e) :=
  run_after s _ _ ((Dev.service_runs hr hon g).trans he)

/-- Settles O56: boot, the answer to an image fetch, Docent's start and end, and each service. The restarts given back after 60 s, the watchdog
in TICKs and a stop asked for that does not count as a failure are log entry 43, the forbidden access log entry 18, the images log entry 42, fresh
keys and wrapping log entries 3 and 12. -/
theorem firmwareLife : Obligations.FirmwareLife := by
  refine ⟨?boot, ?image, fun m d => rfl, fun d l st ht ha => Dev.imgFailed_requested ht ha st,
    fun d l m ht ha => Dev.imgAccepted_docent m ht ha, ?ready, ?causes, ?inTime, ?forbidden, fun cause d h => Dev.docentDown_served h cause,
    ?halt, ?auto, ?kick, ?new, fun key d => ⟨rfl, rfl, rfl⟩, ?unwrap, ?tst⟩
  case boot =>
    intro s hst hon d e0 e1 e2 e3 e4 e5 e
    exact ⟨(exec_boot true s).trans (run_after s _ _ (Dev.boot_romOk hst hon)),
      fun h => (exec_boot false s).trans (run_after s _ _ ((Dev.boot_romBad hst hon).trans (if_neg (not_not.2 h)))),
      fun h => (exec_boot false s).trans (run_after s _ _ ((Dev.boot_romBad hst hon).trans (if_pos h)))⟩
  case image =>
    intro image c r l s ho d hl e0 e m
    have row {e : Dev} (he : Dev.imgDone image c s.dev = e) := (exec_imageFetchDone image c s).trans (run_after s _ _ he)
    exact ⟨fun hc => row (Dev.imgDone_failed ho hl hc), fun hc => row (Dev.imgDone_fetched ho hl hc)⟩
  case ready =>
    intro s ha hst hl hon
    exact (exec_docentReady s).trans (run_after s _ _ (Dev.docentStart_accepted ha hst hl hon))
  case causes =>
    rintro cause i s (⟨rfl, rfl⟩ | ⟨rfl, rfl, ht⟩ | ⟨rfl, rfl⟩)
    · exact (exec_mpuViolation s).trans (run_after s _ _ rfl)
    · exact (exec_watchdogExpiry s).trans (run_after s _ _ (if_pos (by simp [Dev.wdogOver, ht])))
    · exact (exec_docentErrorReport [] s).trans (run_after s _ _ Dev.docentError_reported)
  case inTime =>
    intro s hpll ht
    exact (exec_watchdogExpiry s).trans (run_after s _ _ (if_neg (by simp [Dev.wdogOver, hpll]; omega)))
  case forbidden =>
    intro off w s ha hb hoff hf hm hr hs
    refine (exec_registerWrite off w s).trans (run_after s _ _ ((Dev.busWrite_offPages hb hoff).trans ?_))
    rw [if_neg (by simp [hf]), Dev.gated_protected ha hm hr hs]
  case halt =>
    intro s hst
    obtain ⟨idle, waits⟩ := Dev.docentHalt_stopping hst
    exact ⟨fun h => (exec_docentHalt s).trans (run_after s _ _ (idle h)), fun l h => (exec_docentHalt s).trans (run_after s _ _ (waits l h))⟩
  case auto =>
    intro s hd hn hl
    exact (exec_autoRestart s).trans (run_after s _ _ (if_neg (by simp [hd, hn, hl])))
  case kick =>
    intro w s hp ha hk
    exact (exec_wdogKick w s).trans (run_gated s _ w hp (if_pos (by simp [ha, hk])))
  case new =>
    intro slot s hr hon hs used
    refine ⟨fun h => (exec_keyNew slot s).trans (run_service hr hon (Dev.keyNewService_used hs h)), ?_⟩
    intro h key d
    exact (exec_keyNew slot s).trans (run_service hr hon (Dev.keyNewService_free hs h))
  case unwrap =>
    intro gen wrapped s hr hon
    generalize hk : keyUnwrap (s.dev.fw.kek.getD Config.factoryKek) wrapped = key
    have bcast {e : Dev} (he : Dev.keyBcast gen wrapped s.dev = e) := (exec_keyBcast gen wrapped s).trans (run_service hr hon he)
    have rotate {e : Dev} (he : Dev.kekRotate gen wrapped s.dev = e) := (exec_kekRotate gen wrapped s).trans (run_service hr hon he)
    cases key with
    | none => exact ⟨bcast (Dev.keyBcast_sealed hk), rotate (Dev.kekRotate_sealed hk)⟩
    | some k => exact ⟨bcast (Dev.keyBcast_unwrapped hk), rotate (Dev.kekRotate_unwrapped hk)⟩
  case tst =>
    intro cmd tid s hr hon hlo hhi htid
    exact (exec_tstWrite cmd tid s).trans (run_service hr hon (by rw [Dev.tstCmd_known hlo hhi, Nat.mod_eq_of_lt htid]))

end Sys2Proof.Machine
end

section
/-! Sealed commands (R385 to R387, R397 to R400): the request in MB2, the gate of class C, and each command on the words of its body. -/

namespace Sys2Proof.Machine

section
variable {d e : Dev} {v : Nat}

/-! The request (R385). -/

/-- MB2 holds a sealed request with the VCMD v, and the Vitrine can answer it. -/
def Dev.sealHas (d : Dev) (v : Nat) : Prop :=
  ∃ len, d.mbHas 2 0x47 len ∧ len ≠ 0 ∧ len % 8 = 0 ∧ d.on 32 = true ∧ d.vit.lost = false ∧ d.f F.MBX_AREA_DATA 2 1 % 256 = v

/-- The words of the request. -/
def Dev.sealWords (d : Dev) : List Word := (List.range 512).map (fun k => BitVec.ofNat 64 (d.mbWord 2 k))

theorem Dev.sealWords_getD {k : Nat} (hk : k < 512) : d.sealWords.getD k 0 = BitVec.ofNat 64 (d.f F.MBX_AREA_DATA 2 k) := by
  rw [Dev.sealWords, List.getD_eq_getElem _ _ (by simpa using hk), List.getElem_map, List.getElem_range]
  rfl

/-- The chain value that ARCHIVE_CLEAR names stands in words 2 to 5. -/
theorem Dev.vitChainArg_sealWords :
    let w := fun k => BitVec.ofNat 64 (d.f F.MBX_AREA_DATA 2 k)
    vitChainArg d.sealWords = ofBe (wordOctets [w 2, w 3, w 4, w 5]) := by
  rw [vitChainArg, Dev.sealWords, ← List.map_drop, ← List.map_take, show ((List.range 512).drop 2).take 4 = [2, 3, 4, 5] by decide +kernel]
  rfl

/-- A sealed request is answered as its command answers it. -/
theorem run_sealedReq {s : State} {p : Nat → Bool} {g : List Word → Dev → VitAns × Dev} {why hi st : Nat} {words : List Word}
    (h : s.dev.sealHas v) (hp : p v = true) (hst : vitStatus why = st)
    (hg : g s.dev.sealWords s.dev = ({ why := why, hi := hi, words := words }, e)) :
    s.run (fun d => d.sealedReq p g) = .next (s.after (e.sealAnswered v st why hi words)) := by
  obtain ⟨len, hmb, hlen, hmod, hon, hlost, hv⟩ := h
  have length : bits (s.dev.mbWord 2 0) 32 12 = len := hmb.2.2.2.2
  have vcmd : s.dev.mbWord 2 1 % 256 = v := hv
  have whole : (if (len == 0 || len % 8 != 0) = true then 8 else len) = len := if_neg (by simp [hlen, hmod])
  refine run_after s _ _ ?_
  rw [Dev.sealedReq, length, vcmd, whole]
  refine (if_neg (by simp [hon, hlost, hp])).trans ((Dev.mbReq_has hmb _).trans ?_)
  dsimp only
  rw [show (List.range 512).map (fun k => BitVec.ofNat 64 (s.dev.mbWord 2 k)) = s.dev.sealWords from rfl, hg, ← hst]
  rfl

theorem run_sealedCmd {s : State} {k : Nat} {g : List Word → Dev → VitAns × Dev} {why hi st : Nat} {words : List Word}
    (h : s.dev.sealHas v) (hk : v = k) (hst : vitStatus why = st)
    (hg : g s.dev.sealWords s.dev = ({ why := why, hi := hi, words := words }, e)) :
    s.run (fun d => d.sealedReq (· == k) g) = .next (s.after (e.sealAnswered v st why hi words)) :=
  run_sealedReq h (beq_iff_eq.2 hk) hst hg

/-! The gate of class C (R387, R398). -/

/-- A command of class C is done: the seal counts it. -/
def Dev.vitCounted (e : Dev) : Dev := { e with vit := { e.vit with sealCmds := e.vit.sealCmds + 1 } }

section
variable {archive : Bool} {g : Dev → VitAns × Dev}

theorem Dev.vitGateC_shut (ho : d.f F.VIT_SEAL_OPEN = 0) : d.vitGateC archive g = ({ why := 6 }, d) :=
  if_pos (by simp [Dev.b_eq_false.2 ho])

section
variable (ho : d.f F.VIT_SEAL_OPEN ≠ 0)
include ho

theorem Dev.vitGateC_logFull (hl : 2032 ≤ d.vit.log.length) : d.vitGateC false g = ({ why := 7 }, d) :=
  (if_neg (by simp [Dev.b_eq_true.2 ho])).trans (if_pos (by simpa using hl))

variable (hl : archive = true ∨ d.vit.log.length < 2032)
include hl

theorem Dev.vitGateC_open : d.vitGateC archive g = if (g d).1.why = 0 then ((g d).1, (g d).2.vitCounted) else g d := by
  have room : ¬ (!archive && decide (d.vit.log.length ≥ 2032)) = true := by
    obtain h | h := hl
    · simp [h]
    · simp [h]
  exact (if_neg (by simp [Dev.b_eq_true.2 ho])).trans ((if_neg room).trans (if_congr beq_iff_eq rfl rfl))

theorem Dev.vitGateC_refused {why : Nat} (hw : why ≠ 0) (hg : g d = ({ why := why }, d)) : d.vitGateC archive g = ({ why := why }, d) := by
  rw [Dev.vitGateC_open ho hl, hg]
  exact if_neg hw

theorem Dev.vitGateC_done {a : VitAns} (hw : a.why = 0) (hg : g d = (a, e)) : d.vitGateC archive g = (a, e.vitCounted) := by
  rw [Dev.vitGateC_open ho hl, hg]
  exact if_pos hw

end
end

/-- The seven commands of class C, with their VCMDs (R386). -/
def ClassC (k : Nat) (i : Instr) : Prop :=
  (k = 1 ∧ i = .bindDs) ∨ (k = 2 ∧ i = .bindUs) ∨ (k = 3 ∧ i = .setInterval) ∨ (k = 4 ∧ i = .setPulse) ∨ (k = 5 ∧ i = .archiveClear) ∨
    (k = 7 ∧ i = .keyRotate) ∨ (k = 6 ∧ ∃ ns, i = .clockCheck ns)

/-- A command of class C passes the gate before anything else. -/
theorem exec_classC {k : Nat} {i : Instr} (h : ClassC k i) (s : State) : ∃ (archive : Bool) (g : List Word → Dev → VitAns × Dev),
    (archive = true → k = 5) ∧ exec i s = s.run (fun d => d.sealedReq (· == k) (fun ws d => d.vitGateC archive (g ws))) := by
  obtain ⟨rfl, rfl⟩ | ⟨rfl, rfl⟩ | ⟨rfl, rfl⟩ | ⟨rfl, rfl⟩ | ⟨rfl, rfl⟩ | ⟨rfl, rfl⟩ | ⟨rfl, ns, rfl⟩ := h
  · exact ⟨false, _, by simp, exec_bindDs s⟩
  · exact ⟨false, _, by simp, exec_bindUs s⟩
  · exact ⟨false, _, by simp, exec_setInterval s⟩
  · exact ⟨false, _, by simp, exec_setPulse s⟩
  · exact ⟨true, _, by simp, exec_archiveClear s⟩
  · exact ⟨false, _, by simp, exec_keyRotate s⟩
  · exact ⟨false, _, by simp, exec_clockCheck ns s⟩

/-! The commands of class C but ARCHIVE_CLEAR, with the seal open and room in the log (R382, R383, R386, R400). -/

section
variable {ws : List Word} {w1 w2 w3 : Word} (ho : d.f F.VIT_SEAL_OPEN ≠ 0) (hl : d.vit.log.length < 2032) (h1 : ws.getD 1 0 = w1)
include ho hl h1

/-- Another slot holds the flow tag now or after the waiting changes (R383). -/
def Dev.tagTaken (d : Dev) (slot ftag : Nat) : Prop := ∃ k ∈ d.vitSlots, k ≠ slot ∧ (d.vitBindAfter k).2.2 = true ∧ (d.vitBindAfter k).1 = ftag

omit ho hl h1 in
theorem Dev.tagTaken_iff {slot ftag : Nat} : d.tagTaken slot ftag ↔
    d.vitSlots.any (fun k => k != slot && (d.vitBindAfter k).2.2 && (d.vitBindAfter k).1 == ftag) = true := by
  simp [Dev.tagTaken, List.any_eq_true, and_assoc]

theorem vitBindDs_taken (hv : bits w1.toNat 48 1 = 1) (ht : d.tagTaken (bits w1.toNat 8 12) (bits w1.toNat 20 16)) :
    vitBindDs ws d = ({ why := 3 }, d) := by
  subst h1
  exact Dev.vitGateC_refused ho (.inr hl) (by decide) (if_pos (Bool.and_eq_true_iff.2 ⟨beq_iff_eq.2 hv, Dev.tagTaken_iff.1 ht⟩))

theorem vitBindDs_binds (h : bits w1.toNat 48 1 ≠ 1 ∨ ¬ d.tagTaken (bits w1.toNat 8 12) (bits w1.toNat 20 16)) :
    let slot := bits w1.toNat 8 12
    let o := d.vitBindAfter slot
    vitBindDs ws d = ({ why := 0 },
      ((d.vitChange (.bindDs slot (bits w1.toNat 20 16) (bits w1.toNat 36 12) (bits w1.toNat 48 1 == 1))).vitLog 3 true w1.toNat
        (o.1 + o.2.1 * 65536 + b2n o.2.2 * 2 ^ 28)).vitCounted) := by
  subst h1
  refine Dev.vitGateC_done ho (.inr hl) rfl (if_neg fun c => ?_)
  obtain ⟨valid, taken⟩ := Bool.and_eq_true_iff.1 c
  exact h.elim (fun h => h (beq_iff_eq.1 valid)) (fun h => h (Dev.tagTaken_iff.2 taken))

theorem vitBindUs_binds :
    let o := d.vitBindUsAfter (bits w1.toNat 8 12)
    vitBindUs ws d = ({ why := 0 },
      ((d.vitChange (.bindUs (bits w1.toNat 8 12) (bits w1.toNat 20 12) (bits w1.toNat 32 1 == 1))).vitLog 4 true w1.toNat
        (o.1 + b2n o.2 * 4096)).vitCounted) := by
  subst h1
  exact Dev.vitGateC_done ho (.inr hl) rfl rfl

theorem vitSetInterval_outOfRange (h : bits w1.toNat 8 6 = 0 ∨ 60 < bits w1.toNat 8 6) : vitSetInterval ws d = ({ why := 2 }, d) := by
  subst h1
  exact Dev.vitGateC_refused ho (.inr hl) (by decide) (if_pos (by simpa [wf] using h))

theorem vitSetInterval_sets (hlo : 1 ≤ bits w1.toNat 8 6) (hhi : bits w1.toNat 8 6 ≤ 60) :
    vitSetInterval ws d = ({ why := 0 }, ((d.vitChange (.setInterval (bits w1.toNat 8 6))).vitLog 5 true (bits w1.toNat 8 6) d.vitLenAfter).vitCounted) := by
  subst h1
  refine Dev.vitGateC_done ho (.inr hl) rfl (if_neg fun c => ?_)
  rw [Bool.or_eq_true, beq_iff_eq, decide_eq_true_iff] at c
  exact c.elim (Nat.pos_iff_ne_zero.1 hlo) (Nat.not_lt.2 hhi)

omit h1 in
theorem vitKeyRotate_rotates :
    let kgen := (d.f F.VIT_ID_KGEN + 1) % 256
    let key := d.vit.keyNo + 1
    let e := d.set F.VIT_ID_KGEN kgen
    let e : Dev := { e with vit := { e.vit with keyNo := key, readSeq := (d.vit.readSeq + 1) % 2 ^ 32 } }
    let words := vitSign d.vit.keyNo (vitHeader d.vit 7 (b2n d.vit.obsValid) 0 d.vit.readSeq d.vit.obsSfc 0 ++ vitIdentWords kgen key)
    vitKeyRotate ws d = ({ why := 0, words := words }, (e.vitLog 9 true kgen (ofLe ((beBytes 32 (vitPub key).1).take 8))).vitCounted) :=
  Dev.vitGateC_done ho (.inr hl) rfl rfl

variable (h2 : ws.getD 2 0 = w2)
include h2

theorem vitSetPulse_outOfRange (h : 9 < bits w1.toNat 8 4 ∨ bits w2.toNat 0 40 < 100000000) : vitSetPulse ws d = ({ why := 2 }, d) := by
  subst h1 h2
  exact Dev.vitGateC_refused ho (.inr hl) (by decide) (if_pos (by simpa [wf] using h))

theorem vitSetPulse_sets (hsrc : bits w1.toNat 8 4 ≤ 9) (hoct : 100000000 ≤ bits w2.toNat 0 40) :
    vitSetPulse ws d = ({ why := 0 },
      ((d.vitChange (.setPulse (bits w1.toNat 8 4) (bits w1.toNat 12 12) (bits w2.toNat 0 40))).vitLog 6 true w1.toNat w2.toNat).vitCounted) := by
  subst h1 h2
  refine Dev.vitGateC_done ho (.inr hl) rfl (if_neg fun c => ?_)
  rw [Bool.or_eq_true, decide_eq_true_iff, decide_eq_true_iff] at c
  exact c.elim (Nat.not_lt.2 hsrc) (Nat.not_lt.2 hoct)

variable (h3 : ws.getD 3 0 = w3)
include h3

omit h1 in
theorem vitClockCheck_compares (ns : Nat) :
    let ref : Int := (bits w2.toNat 0 48 * 1000000000 + bits w3.toNat 0 32 : Nat)
    let diff := sat32 (ref - (d.vit.obsIdeal / 65536 + ns : Nat))
    vitClockCheck ns ws d = ({ why := 0, hi := diff }, (d.vitLog 8 true diff (bits w2.toNat 0 48)).vitCounted) := by
  subst h2 h3
  exact Dev.vitGateC_done ho (.inr hl) rfl rfl

end

/-! ARCHIVE_CLEAR (R398, R399). -/

section
variable {ws : List Word} {w1 : Word} {old new : List Word} (ho : d.f F.VIT_SEAL_OPEN ≠ 0) (h1 : ws.getD 1 0 = w1)
include ho

theorem vitArchive_empty (hlog : d.vit.log = []) : vitArchive ws d = ({ why := 5 }, d) := by
  refine Dev.vitGateC_refused ho (.inl rfl) (by decide) ?_
  dsimp only
  rw [hlog]
  rfl

variable (hnew : d.vit.log.getLast? = some new) (hold : d.vit.log.head? = some old)
include h1 hnew hold

theorem vitArchive_other (h : bits w1.toNat 32 32 ≠ wf new 0 0 32 ∨ vitChainArg ws ≠ d.vit.chain) : vitArchive ws d = ({ why := 5 }, d) := by
  subst h1
  refine Dev.vitGateC_refused ho (.inl rfl) (by decide) ?_
  dsimp only
  rw [hnew, hold]
  exact if_pos (by simpa [wf] using h)

theorem vitArchive_clears (hlast : bits w1.toNat 32 32 = wf new 0 0 32) (hchain : vitChainArg ws = d.vit.chain) :
    let first := wf old 0 0 32
    let last := wf new 0 0 32
    let body := vitHeader d.vit 5 (b2n d.vit.obsValid) 0 d.vit.readSeq d.vit.obsSfc 0 ++
      [pk [(first, 0), (last, 32)], pk [(d.vit.log.length % 4096, 0), (d.vit.ovf, 16)]] ++ be256 d.vit.chain ++ [0, 0, 0, 0, 0]
    let e : Dev := { d with vit := { d.vit with
      readSeq := (d.vit.readSeq + 1) % 2 ^ 32, log := [], ovf := 0, chain := 0, accts := clearFaulted d.vit.accts } }
    vitArchive ws d = ({ why := 0, words := vitSign d.vit.signKey body },
      (e.vitLog 7 true (first + last * 2 ^ 32) (ofLe ((beBytes 32 d.vit.chain).take 8))).vitCounted) := by
  subst h1
  have last : wf ws 1 32 32 = wf new 0 0 32 := hlast
  refine Dev.vitGateC_done ho (.inl rfl) rfl ?_
  dsimp only
  rw [hnew, hold]
  exact if_neg (by simp [last, hchain])

end

/-! Class R (R390, R393, R397, R400). -/

section
variable {ws : List Word} {w1 : Word} (h1 : ws.getD 1 0 = w1)
include h1

theorem vitReadAccount_reads :
    let a := bits w1.toNat 8 12
    let c := d.vitAcct a
    let nds := (d.listed F.VIT_BIND_DS_VALID).countP (fun p => d.f F.VIT_BIND_DS_ACCT p.1 == a)
    let nus := (d.listed F.VIT_BIND_US_VALID).countP (fun p => d.f F.VIT_BIND_US_ACCT p.1 == a)
    let body := vitHeader d.vit 3 (b2n d.vit.obsValid + 8 * b2n c.faulted) a d.vit.readSeq d.vit.obsSfc (bits w1.toNat 32 32) ++
      vitAcctWords c ++ [pk [(nds, 0), (nus, 16), (b2n c.faulted, 29)], 0, 0, 0, 0]
    vitReadAccount ws d = ({ why := 0, words := vitSign d.vit.signKey body }, d.vitReadout) := by
  subst h1
  rfl

theorem vitReadTotals_reads :
    let body := vitHeader d.vit 4 (b2n d.vit.obsValid + 8 * b2n (d.vit.accts.any (fun p => p.2.faulted))) 0 d.vit.readSeq d.vit.obsSfc
        (bits w1.toNat 32 32) ++
      [0, pk [(d.f F.VIT_CFG_LEN, 0), (d.vit.lseq, 32)]] ++ vitTotalWords d.vit.totals ++ [0, 0, 0, 0] ++ [0, 0, 0, 0, 0]
    vitReadTotals ws d = ({ why := 0, words := vitSign d.vit.signKey body }, d.vitReadout) := by
  subst h1
  rfl

theorem vitReadIdent_reads :
    let body := vitHeader d.vit 6 (b2n d.vit.obsValid) 0 d.vit.readSeq d.vit.obsSfc (bits w1.toNat 32 32) ++
      vitIdentWords ((d.f F.VIT_ID_KGEN + 256 - (d.vit.keyNo - d.vit.signKey) % 256) % 256) d.vit.signKey
    vitReadIdent ws d = ({ why := 0, words := vitSign d.vit.signKey body }, d.vitReadout) := by
  subst h1
  rfl

theorem vitReadIntervals_eq :
    let held := d.vit.buffer.dropWhile (fun r => r.seq != bits w1.toNat 32 32)
    let n := bits w1.toNat 8 8
    vitReadIntervals ws d = if n = 0 ∨ 10 < n then ({ why := 2 }, d) else if held = [] then ({ why := 4 }, d)
      else ({ why := 0, words := (held.take n).flatMap (fun r => r.words) }, d) := by
  subst h1
  exact if_congr (by simp [wf]) rfl (if_congr List.isEmpty_iff rfl rfl)

theorem vitReadSnapshot_eq :
    let a := bits w1.toNat 8 12
    let n := bits w1.toNat 20 8
    (n = 0 ∨ 85 < n ∨ 4096 < a + n → vitReadSnapshot ws d = ({ why := 2 }, d)) ∧
    (1 ≤ n → n ≤ 85 → a + n ≤ 4096 →
      (d.vit.snapshot = none → vitReadSnapshot ws d = ({ why := 4 }, d)) ∧
      ∀ q m, d.vit.snapshot = some (q, m) → vitReadSnapshot ws d =
        ({ why := 0, hi := q, words := (List.range n).flatMap (fun i => vitAcctWords (m.getD (a + i) {})) }, d)) := by
  subst h1
  intro a n
  have range : (n == 0 || decide (n > 85) || decide (a + n > 4096)) = true ↔ n = 0 ∨ 85 < n ∨ 4096 < a + n := by simp [or_assoc]
  refine ⟨fun h => if_pos (range.2 h), fun hlo h85 hfit => ?_⟩
  have inRange : ¬ (n = 0 ∨ 85 < n ∨ 4096 < a + n) := by omega
  refine ⟨fun hs => (if_neg (mt range.1 inRange)).trans ?_, fun q m hs => (if_neg (mt range.1 inRange)).trans ?_⟩ <;> rw [hs]
  rfl

theorem vitReadLog_eq :
    let held := d.vit.log.dropWhile (fun e => wf e 0 0 32 != bits w1.toNat 32 32)
    let n := bits w1.toNat 8 8
    vitReadLog ws d = if n = 0 ∨ 85 < n then ({ why := 2 }, d) else if held = [] then ({ why := 4 }, d)
      else ({ why := 0, words := (held.take n).flatten }, d) := by
  subst h1
  exact if_congr (by simp [wf]) rfl (if_congr List.isEmpty_iff rfl rfl)

end

theorem vcmdUnknown_of_not_assigned (hc : ¬ (1 ≤ v ∧ v ≤ 7)) (hr : ¬ (0x20 ≤ v ∧ v ≤ 0x26)) : vcmdUnknown v = true := by
  simp [vcmdUnknown]
  omega

end

/-- Settles O57: each command on the words of its request, class C behind its gate. Changes that wait count as made (log entry 15), READ_IDENT
shows the key in use before the TICK and an open gap record may be freed (log entry 48), the length rule of SEALED is log entry 42, and the
signatures log entry 12. -/
theorem sealedCommands : Obligations.SealedCommands := by
  intro len v s hmb hlen hmod hon hlost hv d w p bad classC counted sig tod head zeros
  have request : s.dev.sealHas v := ⟨len, hmb, hlen, hmod, hon, hlost, hv⟩
  have h1 : s.dev.sealWords.getD 1 0 = w 1 := Dev.sealWords_getD (by decide)
  have h2 : s.dev.sealWords.getD 2 0 = w 2 := Dev.sealWords_getD (by decide)
  have h3 : s.dev.sealWords.getD 3 0 = w 3 := Dev.sealWords_getD (by decide)
  refine ⟨?shut, ?full, ?classC, ?archive, ?account, ?totals, ?ident, ?intervals, ?ack, ?snapshot, ?log, ?unknown⟩
  case shut =>
    rintro k i ⟨hk, hi⟩ ho
    obtain ⟨archive, g, -, row⟩ := exec_classC hi s
    exact row.trans (run_sealedCmd request hk rfl (Dev.vitGateC_shut ho))
  case full =>
    rintro k i ⟨hk, hi⟩ h5 ho hl
    obtain ⟨archive, g, harch, row⟩ := exec_classC hi s
    have counts : archive = false := Bool.eq_false_iff.2 (mt harch h5)
    subst counts
    exact row.trans (run_sealedCmd request hk rfl (Dev.vitGateC_logFull ho hl))
  case classC =>
    intro ho hl
    refine ⟨?bindDs, ?bindUs, ?interval, ?pulse, ?clock, ?key⟩
    case bindDs =>
      intro hk slot o taken
      exact ⟨fun hvalid ht => (exec_bindDs s).trans (run_sealedCmd request hk rfl (vitBindDs_taken ho hl h1 hvalid ht)),
        fun h => (exec_bindDs s).trans (run_sealedCmd request hk rfl (vitBindDs_binds ho hl h1 h))⟩
    case bindUs =>
      intro hk o
      exact (exec_bindUs s).trans (run_sealedCmd request hk rfl (vitBindUs_binds ho hl h1))
    case interval =>
      intro hk
      exact ⟨fun h => (exec_setInterval s).trans (run_sealedCmd request hk rfl (vitSetInterval_outOfRange ho hl h1 h)),
        fun hlo hhi => (exec_setInterval s).trans (run_sealedCmd request hk rfl (vitSetInterval_sets ho hl h1 hlo hhi))⟩
    case pulse =>
      intro hk
      exact ⟨fun h => (exec_setPulse s).trans (run_sealedCmd request hk rfl (vitSetPulse_outOfRange ho hl h1 h2 h)),
        fun hsrc hoct => (exec_setPulse s).trans (run_sealedCmd request hk rfl (vitSetPulse_sets ho hl h1 h2 hsrc hoct))⟩
    case clock =>
      intro hk ns ref diff
      exact (exec_clockCheck ns s).trans (run_sealedCmd request hk rfl (vitClockCheck_compares ho hl h2 h3 ns))
    case key =>
      intro hk kgen key e0 e
      exact (exec_keyRotate s).trans (run_sealedCmd request hk rfl (vitKeyRotate_rotates ho hl))
  case archive =>
    intro hk ho
    refine ⟨fun hlog => (exec_archiveClear s).trans (run_sealedCmd request hk rfl (vitArchive_empty ho hlog)), ?_⟩
    intro old new mid hlog hold first last chain
    have hnew : s.dev.vit.log.getLast? = some new := (congrArg List.getLast? hlog).trans List.getLast?_concat
    have hchain : vitChainArg s.dev.sealWords = chain := Dev.vitChainArg_sealWords
    refine ⟨fun h => (exec_archiveClear s).trans (run_sealedCmd request hk rfl (vitArchive_other ho h1 hnew hold (hchain ▸ h))), ?_⟩
    intro hlast hc body e
    exact (exec_archiveClear s).trans (run_sealedCmd request hk rfl (vitArchive_clears ho h1 hnew hold hlast (hchain.trans hc)))
  case account =>
    intro hk a c nds nus
    exact (exec_readAccount s).trans (run_sealedCmd request hk rfl (vitReadAccount_reads h1))
  case totals =>
    intro hk
    exact (exec_readTotals s).trans (run_sealedCmd request hk rfl (vitReadTotals_reads h1))
  case ident =>
    intro hk
    exact (exec_readIdent s).trans (run_sealedCmd request hk rfl (vitReadIdent_reads h1))
  case intervals =>
    intro hk held n
    have row {why hi st : Nat} {words : List Word} {e : Dev} (hst : vitStatus why = st)
        (h : vitReadIntervals s.dev.sealWords s.dev = ({ why := why, hi := hi, words := words }, e)) :=
      (exec_readIntervals s).trans (run_sealedCmd request hk hst h)
    have inRange (hlo : 1 ≤ n) (hhi : n ≤ 10) : ¬ (n = 0 ∨ 10 < n) := by omega
    refine ⟨fun h => row rfl ((vitReadIntervals_eq h1).trans (if_pos h)), fun hlo hhi hh => ?_, fun hlo hhi hh => ?_⟩
    · exact row rfl ((vitReadIntervals_eq h1).trans ((if_neg (inRange hlo hhi)).trans (if_pos hh)))
    · exact row rfl ((vitReadIntervals_eq h1).trans ((if_neg (inRange hlo hhi)).trans (if_neg hh)))
  case ack =>
    intro hk
    refine (exec_ackIntervals s).trans (run_sealedCmd request hk rfl ?_)
    unfold vitAckIntervals wf
    rewrite [h1]
    rfl
  case snapshot =>
    intro hk a n
    have row {why hi st : Nat} {words : List Word} {e : Dev} (hst : vitStatus why = st)
        (h : vitReadSnapshot s.dev.sealWords s.dev = ({ why := why, hi := hi, words := words }, e)) :=
      (exec_readSnapshot s).trans (run_sealedCmd request hk hst h)
    obtain ⟨outOfRange, inRange⟩ := vitReadSnapshot_eq (d := s.dev) h1
    refine ⟨fun h => row rfl (outOfRange h), fun hlo h85 hfit => ?_⟩
    obtain ⟨none, held⟩ := inRange hlo h85 hfit
    exact ⟨fun hs => row rfl (none hs), fun q m hs => row rfl (held q m hs)⟩
  case log =>
    intro hk held n
    have row {why hi st : Nat} {words : List Word} {e : Dev} (hst : vitStatus why = st)
        (h : vitReadLog s.dev.sealWords s.dev = ({ why := why, hi := hi, words := words }, e)) :=
      (exec_readLog s).trans (run_sealedCmd request hk hst h)
    have inRange (hlo : 1 ≤ n) (hhi : n ≤ 85) : ¬ (n = 0 ∨ 85 < n) := by omega
    refine ⟨fun h => row rfl ((vitReadLog_eq h1).trans (if_pos h)), fun hlo hhi hh => ?_, fun hlo hhi hh => ?_⟩
    · exact row rfl ((vitReadLog_eq h1).trans ((if_neg (inRange hlo hhi)).trans (if_pos hh)))
    · exact row rfl ((vitReadLog_eq h1).trans ((if_neg (inRange hlo hhi)).trans (if_neg hh)))
  case unknown =>
    intro hc hr
    exact (exec_vcmdUnknown s).trans (run_sealedReq request (vcmdUnknown_of_not_assigned hc hr) rfl rfl)

end Sys2Proof.Machine
end

section
/-! The Vitrine's own life (R384, R389, R390, R400, R401): records placed, the seal, the pulse, the return of power and the Off checkpoint. -/

namespace Sys2Proof.Machine

section
variable {d : Dev}

/-! A signed record is placed (R389, R390). -/

section
variable {r : VitRec}

theorem Dev.vitPlace_merges (hw : d.vit.waiting = some (true, r)) :
    let buf := d.vit.buffer.dropLast ++ [{ r with words := vitSign d.vit.signKey r.words }]
    d.vitPlace = (({ d with vit := { d.vit with waiting := none, buffer := buf } } : Dev).raise 1504).level 1510 (buf.length ≥ 3072) := by
  intro buf
  rw [Dev.vitPlace, hw]
  exact congrArg (fun e : Dev => e.level 1510 (buf.length ≥ 3072)) (if_neg (by simp))

theorem Dev.vitPlace_appends (hw : d.vit.waiting = some (false, r)) :
    let buf := d.vit.buffer ++ [{ r with words := vitSign d.vit.signKey r.words }]
    let e := ({ d with vit := { d.vit with waiting := none, buffer := buf } } : Dev).raise 1504
    d.vitPlace = (if r.gap = true then e.raise 1505 else e).level 1510 (buf.length ≥ 3072) := by
  intro buf e
  rw [Dev.vitPlace, hw]
  exact congrArg (fun e : Dev => e.level 1510 (buf.length ≥ 3072)) (if_congr (by simp) rfl rfl)

end

/-! The seal (R384). -/

theorem Dev.vitSealClose_open (h : d.f F.VIT_SEAL_OPEN ≠ 0) (cause : Nat) :
    d.vitSealClose cause =
      ((((d.set F.VIT_SEAL_OPEN 0).set F.VIT_SEAL_LAST_CAUSE cause).set F.VIT_SEAL_REMAIN 0).vitLog 2 false cause d.vit.sealCmds).raise 1506 := by
  have shown : (((d.set F.VIT_SEAL_OPEN 0).set F.VIT_SEAL_LAST_CAUSE cause).set F.VIT_SEAL_REMAIN 0).vit.sealCmds = d.vit.sealCmds := by simp
  rw [Dev.vitSealClose, if_neg (by simp [Dev.b_eq_true.2 h])]
  dsimp only
  rw [shown]

theorem Dev.vitSealClose_shut (h : d.f F.VIT_SEAL_OPEN = 0) (cause : Nat) : d.vitSealClose cause = d :=
  if_pos (by simp [Dev.b_eq_false.2 h])

/-- PRESENCE_n is counted low: a wake, and the pin as it then stands. -/
def Dev.presenceLow (d : Dev) : Dev := { d.wake 5 with pins := { (d.wake 5).pins with presence := false } }

theorem Dev.vitPresent_unwired (h : d.presenceLow.f F.ID_INTEG_PRESENCE_WIRED = 0) : d.vitPresent = d.presenceLow :=
  if_pos (by rw [Bool.not_eq_true']; exact Dev.b_eq_false.2 h)

section
variable (hw : d.presenceLow.f F.ID_INTEG_PRESENCE_WIRED ≠ 0)
include hw

theorem Dev.vitPresent_wired :
    let e := d.presenceLow.set F.VIT_SEAL_PRESENT 1
    let o := (e.set F.VIT_SEAL_OPEN 1).set F.VIT_SEAL_REMAIN 600
    let o : Dev := { o with vit := { o.vit with sealTicks := 4800000, sealCmds := 0 } }
    d.vitPresent = if e.vit.mustRelease = true ∨ e.f F.VIT_SEAL_OPEN ≠ 0 then e else (o.vitLog 1 false 0 0).raise 1506 := by
  have wired : ¬ (!d.presenceLow.b F.ID_INTEG_PRESENCE_WIRED) = true := by simp [Dev.b_eq_true.2 hw]
  exact (if_neg wired).trans (if_congr (by rw [Bool.or_eq_true, Dev.b_eq_true]; exact Iff.rfl) rfl rfl)

end

theorem Dev.vitWindowEnd_open (h : d.f F.VIT_SEAL_OPEN ≠ 0) :
    d.vitWindowEnd = { d.vitSealClose 2 with vit := { (d.vitSealClose 2).vit with mustRelease := true } } :=
  if_neg (by simp [Dev.b_eq_true.2 h])

/-! Power returns (R401, R402). -/

/-- The state as restored with its cause, and the return logged. -/
def Dev.vitBack (d : Dev) (cause ticks count : Nat) (v : VitPart) : Dev :=
  let d : Dev := { d with vit := { v with lost := false, obsSeen := cause != 3 } }
  let d := (d.set F.VIT_PWR_LAST_CAUSE cause).set F.VIT_PWR_NV_COPY v.nvNewest
  (d.vitLog 0x0A false (cause + ticks * 2 ^ 32) count).raise 1508

theorem Dev.vitRestore_lost (hl : d.vit.lost = true) (hon : d.on 32 = true) {cause ticks count : Nat} {v : VitPart}
    (hr : d.vit.restore = (cause, ticks, count, v)) : d.vitRestore = d.vitBack cause ticks count v := by
  rw [Dev.vitRestore, if_neg (by simp [hl, hon]), hr]
  rfl

section
variable {v : VitPart} {c a : VitCk}

theorem VitPart.restore_off (hc : v.nv.getD v.nvNewest none = some c) (ho : c.off = true) : v.restore = (1, 0, c.sfc, v.resume c c.accts) := by
  rw [VitPart.restore, hc]
  exact if_pos ho

theorem VitPart.restore_core (hc : v.nv.getD v.nvNewest none = some c) (ho : c.off = false) (ha : v.aonCk = some a) :
    v.restore = (2, 0, a.sfc, v.resume a c.accts) := by
  rw [VitPart.restore, hc, ha]
  exact if_neg (ne_true_of_eq_false ho)

theorem VitPart.restore_full (hc : v.nv.getD v.nvNewest none = some c) (ho : c.off = false) (ha : v.aonCk = none) :
    v.restore = (3, 0xFFFFFFFF, c.sfc, { v with accts := c.accts, totals := c.totals, ticks := c.ticks, ivl := { power := true } }) := by
  rw [VitPart.restore, hc, ha]
  exact if_neg (ne_true_of_eq_false ho)

theorem VitPart.restore_core_unsaved (hc : v.nv.getD v.nvNewest none = none) (ha : v.aonCk = some a) :
    v.restore = (2, 0, a.sfc, v.resume a []) := by
  rw [VitPart.restore, hc, ha]

theorem VitPart.restore_never (hc : v.nv.getD v.nvNewest none = none) (ha : v.aonCk = none) :
    v.restore = (3, 0xFFFFFFFF, 0, { v with ivl := { power := true } }) := by
  rw [VitPart.restore, hc, ha]

end

/-- The Off checkpoint, once no pulse is in progress (R401, R432, R514). -/
theorem Dev.vitOffCheckpoint_writes (he : d.pwr.entry = .awaitAvs 4) (hp : d.pins.vitPulse = false) (hv : d.pwr.vitVote = true) :
    let e := d.vitPlace
    d.vitOffCheckpoint = { e with vit := { e.vit.writeNv true with lost := true }, pwr := { e.pwr with vitVote := false } } := by
  rw [Dev.vitOffCheckpoint, he]
  exact if_neg (by simp [hp, hv])

end

/-- Settles O58: a record placed, the seal opened and closed, a pulse, the restore by what was saved, and the Off checkpoint. POWER_RETURN after a
core loss with 0 ticks and the AON count, and a waiting record placed before the Off checkpoint, are log entry 48. -/
theorem vitrineLife : Obligations.VitrineLife := by
  refine ⟨?placed, ?opens, ?closes, ?pulse, ?restore, ?off⟩
  case placed =>
    intro r s signed put
    have row {e : Dev} (he : s.dev.vitPlace = e) := (exec_intervalRecordSigned s).trans (run_after s _ _ he)
    refine ⟨fun hw => row (Dev.vitPlace_merges hw), fun hw => ?_⟩
    refine ⟨fun hg => row ((Dev.vitPlace_appends hw).trans ?_), fun hg => row ((Dev.vitPlace_appends hw).trans ?_)⟩
    · rw [if_neg (ne_true_of_eq_false hg)]
    · rw [if_pos hg]
  case opens =>
    intro s d e o0 o
    have row {e : Dev} (he : s.dev.vitPresent = e) := (exec_sealOpen s).trans (run_after s _ _ he)
    refine ⟨fun hw => row (Dev.vitPresent_unwired hw), fun hw h => row ((Dev.vitPresent_wired hw).trans (if_pos h)), fun hw hm ho => ?_⟩
    exact row ((Dev.vitPresent_wired hw).trans (if_neg (not_or.2 ⟨ne_true_of_eq_false hm, not_not.2 ho⟩)))
  case closes =>
    intro s shut d0 d e
    have row {e : Dev} (he : s.dev.vitAbsent = e) := (exec_sealClose s).trans (run_after s _ _ he)
    refine ⟨fun ho => row (Dev.vitSealClose_open ho 1), fun ho => row (Dev.vitSealClose_shut ho 1), fun ho => ?_⟩
    refine (exec_sealWindowEnd s).trans (run_after s _ _ ((Dev.vitWindowEnd_open ho).trans ?_))
    rw [Dev.vitSealClose_open ho]
  case pulse =>
    intro s
    exact ⟨fun hp ho hon => (exec_vitPulseStart s).trans (run_after s _ _ (if_neg (by simp [hp, ho, hon]))),
      (exec_vitPulseEnd s).trans (run_after s _ _ rfl)⟩
  case restore =>
    intro s hl hon v back nv
    have row {cause ticks count : Nat} {v' : VitPart} (hr : v.restore = (cause, ticks, count, v')) :
        exec .vitRestore s = .next (s.after (back cause ticks count v')) :=
      (exec_vitRestore s).trans (run_after s _ _ (Dev.vitRestore_lost hl hon hr))
    exact ⟨fun c hc ho => row (VitPart.restore_off hc ho), fun c a hc ho ha => row (VitPart.restore_core hc ho ha),
      fun c hc ho ha => row (VitPart.restore_full hc ho ha), fun a hc ha => row (VitPart.restore_core_unsaved hc ha),
      fun hc ha => row (VitPart.restore_never hc ha)⟩
  case off =>
    intro s he hp hv
    exact (exec_vitOffCheckpoint s).trans (run_after s _ _ (Dev.vitOffCheckpoint_writes he hp hv))

end Sys2Proof.Machine
end

section
/-! The twin link and the mirror at the sink (R440 to R443, R450 to R460): the transmitter, the receiver, heartbeats, and each record. -/

namespace Sys2Proof.Machine

section
variable {d : Dev}

/-! The transmitter (R441, R443). -/

/-- A block time of the transmitter. -/
def Dev.tlTimed (d : Dev) : Dev := { d with twn := { d.twn with hbBlocks := d.twn.hbBlocks + 1 } }

/-- Out of TRAINING. -/
theorem Dev.tlTimed_trained (hst : 2 ≤ d.tlTimed.f F.TWN_STAT_STATE) : ¬ (d.tlTimed.f F.TWN_STAT_STATE == 1) = true := by
  rw [beq_iff_eq]
  omega

section
variable (hon : d.tlTimed.on 30 = true) (hx : d.tlTimed.xUp 8 = true)
include hon hx

/-- The transmitter has a link to send on. -/
theorem Dev.tlTimed_running (hst : d.tlTimed.f F.TWN_STAT_STATE ≠ 0) :
    ¬ (!d.tlTimed.on 30 || d.tlTimed.f F.TWN_STAT_STATE == 0 || !d.tlTimed.xUp 8) = true := by
  simp [hon, hx, hst]

section
variable (hst : d.tlTimed.f F.TWN_STAT_STATE = 1)
include hst

theorem Dev.tlTx_locking (hl : d.tlTimed.f F.TWN_LINK_STAT_SYMLOCK ≠ 255) :
    let t := d.tlTimed
    d.tlTx = ({ t with twn := { t.twn with sent := some .lock } } : Dev).act 12 1 := by
  exact (if_neg (Dev.tlTimed_running hon hx (by omega))).trans ((if_pos (beq_iff_eq.2 hst)).trans (if_pos (bne_iff_ne.2 hl)))

theorem Dev.tlTx_training (hl : d.tlTimed.f F.TWN_LINK_STAT_SYMLOCK = 255) :
    let t := d.tlTimed
    let e := t.tlSend 1 (1 + 2 * b2n t.twn.sawAlive) []
    d.tlTx = ({ e with twn := { e.twn with sentAck := e.twn.sentAck || t.twn.sawAlive } } : Dev).tryAligned := by
  intro t e
  have seen : e.twn.sawAlive = t.twn.sawAlive := by simp [e, Dev.tlSend]
  rw [← seen]
  exact (if_neg (Dev.tlTimed_running hon hx (by omega))).trans ((if_pos (beq_iff_eq.2 hst)).trans (if_neg (by rw [bne_iff_ne]; exact not_not.2 hl)))

end

section
variable (hst : 2 ≤ d.tlTimed.f F.TWN_STAT_STATE)
include hst

theorem Dev.tlTx_heartbeat (hq : d.tlTimed.twn.bseq % 16 = 0) : d.tlTx = d.tlTimed.tlSend 2 0 d.tlTimed.heartbeat := by
  exact (if_neg (Dev.tlTimed_running hon hx (by omega))).trans ((if_neg (Dev.tlTimed_trained hst)).trans (if_pos (beq_iff_eq.2 hq)))

theorem Dev.tlTx_message (hq : d.tlTimed.twn.bseq % 16 ≠ 0) (hm : d.tlTimed.twn.mbTx ≠ []) :
    let t := d.tlTimed
    d.tlTx = ({ t with twn := { t.twn with mbTx := t.twn.mbTx.drop 500 } } : Dev).tlSend 4 0 (t.twn.mbTx.take 500) := by
  have other : ¬ (d.tlTimed.twn.bseq % 16 == 0) = true := by simpa using hq
  have waits : (!d.tlTimed.twn.mbTx.isEmpty) = true := by simpa using hm
  exact (if_neg (Dev.tlTimed_running hon hx (by omega))).trans ((if_neg (Dev.tlTimed_trained hst)).trans ((if_neg other).trans (if_pos waits)))

theorem Dev.tlTx_mirror (hq : d.tlTimed.twn.bseq % 16 ≠ 0) (hm : d.tlTimed.twn.mbTx = []) :
    let r := Dev.mirTake 64 500 d.tlTimed
    d.tlTx = r.2.tlSend (if r.1 = [] then 0 else 3) 0 r.1 := by
  intro r
  have other : ¬ (d.tlTimed.twn.bseq % 16 == 0) = true := by simpa using hq
  have none : ¬ (!d.tlTimed.twn.mbTx.isEmpty) = true := by simp [hm]
  have kind : (if r.1.isEmpty = true then 0 else 3) = if r.1 = [] then 0 else 3 := if_congr List.isEmpty_iff rfl rfl
  rw [← kind]
  exact (if_neg (Dev.tlTimed_running hon hx (by omega))).trans ((if_neg (Dev.tlTimed_trained hst)).trans ((if_neg other).trans (if_neg none)))

end
end

/-! The receiver (R442, R443). -/

/-! Octets of a block, as its header names them. -/

theorem ofBe_octet {l : List Byte} {n : Nat} (h : n < l.length) : ofBe ((l.drop n).take 1) = (l.getD n 0).toNat := by
  rw [List.getD_eq_getElem _ _ h, List.drop_eq_getElem_cons h, List.take_succ_cons, List.take_zero]
  simp only [ofBe, List.foldl_cons, List.foldl_nil, Nat.zero_mul, Nat.zero_add]

theorem ofBe_octets {l : List Byte} {n : Nat} (h : n + 1 < l.length) :
    ofBe ((l.drop n).take 2) = (l.getD n 0).toNat * 256 + (l.getD (n + 1) 0).toNat := by
  rw [List.getD_eq_getElem _ _ (Nat.lt_of_succ_lt h), List.getD_eq_getElem _ _ h, List.drop_eq_getElem_cons (Nat.lt_of_succ_lt h),
    List.drop_eq_getElem_cons h, List.take_succ_cons, List.take_succ_cons, List.take_zero]
  simp only [ofBe, List.foldl_cons, List.foldl_nil, Nat.zero_mul, Nat.zero_add]

/-- BTYPE and BSEQ of a block (R440). -/
def tlType (l : List Byte) : Nat := (l.getD 1 0).toNat
def tlSeq (l : List Byte) : Nat := (l.getD 2 0).toNat * 256 + (l.getD 3 0).toNat

/-- The header of a received block is valid (R442). -/
def Dev.tlValid (d : Dev) (commas : BitVec 8) (codeOk : Bool) (l : List Byte) : Prop :=
  l.length = 512 ∧ commas.getLsbD 0 = true ∧ l.getD 0 0 = 0xBC ∧ codeOk = true ∧ tlType l ≤ 4 ∧
    (d.twn.rxNext = none ∨ d.twn.rxNext = some (tlSeq l))

/-- The device that goes on from a block with a valid header, or with a header that is not. -/
def Dev.tlFollowed (d : Dev) (l : List Byte) : Dev :=
  { d.act 12 1 with twn := { d.twn with rxNext := some ((tlSeq l + 1) % 65536) } }
def Dev.tlSkipped (d : Dev) : Dev :=
  { d.act 12 1 with twn := { d.twn with rxNext := d.twn.rxNext.map (fun n => (n + 1) % 65536) } }

section
variable {commas : BitVec 8} {codeOk : Bool} {l : List Byte} (hon : d.on 30 = true) (hst : d.f F.TWN_STAT_STATE ≠ 0) (hx : d.xUp 8 = true)
include hon hst hx

theorem Dev.tlRx_locking (hl : d.f F.TWN_LINK_STAT_SYMLOCK ≠ 255) : Dev.tlRx commas codeOk l d = (d.laneStep commas).act 12 1 :=
  (if_neg (by simp [hon, hst, hx])).trans (if_pos (bne_iff_ne.2 hl))

variable (hl : d.f F.TWN_LINK_STAT_SYMLOCK = 255) (hlen : l.length = 512)
include hl hlen

/-- A block on locked lanes, its header taken apart. -/
theorem Dev.tlRx_locked :
    (¬ d.tlValid commas codeOk l → Dev.tlRx commas codeOk l d = d.tlSkipped.tlBad) ∧
    (d.tlValid commas codeOk l → Dev.tlRx commas codeOk l d =
      let good := (d.tlFollowed l).tlGood
      if ofBe (l.drop 508) != crc32Octets ((l.drop 1).take 507) then
        let c := good.count F.TWN_CNT2_BAD_BLOCK
        if tlType l == 3 then { c with twn := { c.twn with rxRec := [] } } else c
      else (good.tlTake (tlType l) (l.getD 4 0).toNat ((l.drop 8).take 500)).tryAligned) := by
  have part : (d.act 12 1).twn = d.twn := by simp
  have whole : l.take 512 = l := List.take_of_length_le (by omega)
  have type : ofBe ((l.drop 1).take 1) = tlType l := ofBe_octet (by omega)
  have seq : ofBe ((l.drop 2).take 2) = tlSeq l := ofBe_octets (by omega)
  have flags : ofBe ((l.drop 4).take 1) = (l.getD 4 0).toNat := ofBe_octet (by omega)
  have head : l.headD 0 = l.getD 0 0 := by cases l <;> rfl
  rw [Dev.tlRx, if_neg (by simp [hon, hst, hx]), if_neg (by simp [hl])]
  unfold Dev.tlFollowed Dev.tlSkipped
  dsimp only
  rw [whole, type, seq, flags, head, part]
  refine ⟨fun hv => if_pos ?_, fun hv => if_neg ?_⟩
  · rw [Bool.not_eq_true', Bool.eq_false_iff]
    intro c
    simp only [Bool.and_eq_true, beq_iff_eq, decide_eq_true_iff] at c
    obtain ⟨⟨⟨⟨⟨-, hcomma⟩, hhead⟩, hcode⟩, htype⟩, hnext⟩ := c
    refine hv ⟨hlen, hcomma, hhead, hcode, htype, ?_⟩
    cases h : d.twn.rxNext with
    | none => exact .inl rfl
    | some n => exact .inr (by simpa [h] using hnext)
  · obtain ⟨-, hcomma, hhead, hcode, htype, hnext⟩ := hv
    rw [hhead]
    obtain h | h := hnext <;> simp [hlen, hcomma, hcode, htype, h]

end

/-! Heartbeats and failover (R450, R457, R459). -/

theorem Dev.heartbeatLost_counts (hen : d.f F.TWN_CTL_EN ≠ 0) (hon : d.on 30 = true) (hb : 128 ≤ d.twn.hbBlocks) :
    let z : Dev := { d with twn := { d.twn with hbBlocks := 0 } }
    let n := (z.countN F.TWN_CNT_HB_MISS 8).set F.TWN_STAT_PEER_VALID 0
    let e := if z.f F.TWN_STAT_PEER_VALID ≠ 0 ∧ n.active = true then n.raise 1542 else n
    d.heartbeatLost = if e.f F.TWN_CTL_HB_TAKEOVER ≠ 0 then e.detect 2 else e := by
  intro z n e
  have lost : n.raiseIf (z.b F.TWN_STAT_PEER_VALID && n.active) 1542 = e :=
    if_congr (by rw [Bool.and_eq_true, Dev.b_eq_true]) rfl rfl
  rw [← lost]
  refine (if_neg ?_).trans (if_congr Dev.b_eq_true rfl rfl)
  simp [Dev.b_eq_true.2 hen, hon]
  omega

/-- What the registers show of the peer after a heartbeat (R450). -/
theorem Dev.heartbeatRx_shows {w0 w1 w2 : Word} (hb : d.twn.hb = some [w0, w1, w2]) :
    let v := w0.toNat
    let a := d.countN F.TWN_CNT_HB_MISS ((d.twn.hbBlocks - 1) / 16)
    let a : Dev := { a with twn := { d.twn with hb := none, hbBlocks := 0, peerState := bits v 5 3 } }
    let a := (((a.set F.TWN_PEER_PEER_SFC (v / 2 ^ 13)).set F.TWN_STAT_PEER_TST (bits v 10 3)).set F.TWN_STAT_PEER_SYNC (bits v 8 2)).set
      F.TWN_STAT_PEER_ROLE (bits v 4 1)
    let a := ((a.set F.TWN_STAT_PEER_DOCENT (bits v 2 1)).set F.TWN_STAT_PEER_VALID 1).set F.TWN_PEER_SN_SN w2.toNat
    let e := ((a.sinkShows (bit v 3) (bits w1.toNat 32 32) (bits v 5 3)).rolesResolve).overlapSeen
    let yields := e.active && e.b F.TWN_CTL_EN && e.f F.TWN_STAT_SWITCH_PHASE == 0 && bit v 4 && bit v 3
    let e : Dev := if yields then { e with twn := { e.twn with yields := true } } else e
    d.heartbeatRx = if (bit v 4 && bits v 8 2 == 0 && e.b F.TWN_CTL_SYNC_TAKEOVER) = true then e.detect 1 else e := by
  intro v a0 a1 a2 a e0 yields e
  rw [Dev.heartbeatRx, hb]
  rfl

section
variable {how : Nat}

/-- A failover is open to this block (R457). -/
def Dev.foOpen (d : Dev) : Prop :=
  d.f F.TWN_STAT_SOURCE = 0 ∧ d.active = false ∧ d.f F.TWN_STAT_FO_ARMED ≠ 0 ∧ d.f F.TWN_STAT_STATE ≠ 4

theorem Dev.foOpen_iff : d.foOpen ↔
    (d.b F.TWN_STAT_SOURCE || d.active || !d.b F.TWN_STAT_FO_ARMED || d.f F.TWN_STAT_STATE == 4) = false := by
  simp only [Dev.foOpen, Bool.or_eq_false_iff, Dev.b_eq_false, Bool.not_eq_false', Dev.b_eq_true, beq_eq_false_iff_ne, and_assoc]

theorem Dev.detect_closed (ho : ¬ d.foOpen) : d.detect how = d := if_pos (by rwa [Dev.foOpen_iff, Bool.not_eq_false] at ho)

theorem Dev.detect_open (ho : d.foOpen) : d.detect how = if d.tst != 4 || d.f F.TDS_SYNC_STAT_STATE != 2 then (d.set F.TWN_STAT_LAST_FO 3).raise 1541
    else { d.set F.TWN_STAT_LAST_FO how with twn := { (d.set F.TWN_STAT_LAST_FO how).twn with detected := true } } :=
  if_neg (ne_true_of_eq_false (Dev.foOpen_iff.1 ho))

end

end
end Sys2Proof.Machine
end

section
/-! The mirror at the sink (R453, R455, R460): the record at the head of the stream is applied by its kind. -/

namespace Sys2Proof.Machine

section
variable {d : Dev} {q : Nat}

/-- Staging set k is the twin agent's open one. -/
def Dev.twinOpen (d : Dev) (k : Nat) : Prop := d.stgState k = 1 ∧ d.f F.STG_STAT_OWNER k = 6

theorem Dev.twinOpen_iff {k : Nat} : d.twinOpen k ↔ (d.stgState k == 1 && d.f F.STG_STAT_OWNER k == 6) = true := by
  simp [Dev.twinOpen]

/-! REG: the mirrored bits are staged. -/

section
variable {off val : Nat} (hm : d.mirHead = some (q, .reg off val))
include hm

theorem Dev.mirReg_unmirrored (hk : mirMask off = 0) : d.mirReg = d.mirPassed q := by
  rw [Dev.mirReg, hm]
  exact if_pos (beq_iff_eq.2 hk)

variable (hk : mirMask off ≠ 0)
include hk

theorem Dev.mirReg_waits (hs : d.twinSet = none) : d.mirReg = d := by
  rw [Dev.mirReg, hm]
  refine (if_neg (by rw [beq_iff_eq]; exact hk)).trans ?_
  rw [hs]

theorem Dev.mirReg_stages {k : Nat} {e : Dev} (hs : d.twinSet = some (k, e)) :
    d.mirReg = if (e.stgSet k).look off = none ∧ stgCap k ≤ (e.stgSet k).length then e.twinArm k
      else (e.stage 6 k off (mirMask off) val).mirPassed q := by
  rw [Dev.mirReg, hm]
  refine (if_neg (by rw [beq_iff_eq]; exact hk)).trans ?_
  rw [hs]
  exact if_congr (by simp) rfl rfl

end

/-! CHANGE_END, TABLE_OP and COMMIT. -/

section
variable (hm : d.mirHead = some (q, .changeEnd))
include hm

theorem Dev.mirChangeEnd_first (h0 : d.twinOpen 0) : d.mirChangeEnd = (d.mirPassed q).twinArm 0 := by
  have found : [0, 1].find? (fun s => d.stgState s == 1 && d.f F.STG_STAT_OWNER s == 6) = some 0 :=
    List.find?_cons_of_pos (Dev.twinOpen_iff.1 h0)
  rw [Dev.mirChangeEnd, hm]
  dsimp only
  rw [found]

section
variable (h0 : ¬ d.twinOpen 0)
include h0

theorem Dev.mirChangeEnd_second (h1 : d.twinOpen 1) : d.mirChangeEnd = (d.mirPassed q).twinArm 1 := by
  have found : [0, 1].find? (fun s => d.stgState s == 1 && d.f F.STG_STAT_OWNER s == 6) = some 1 := by
    simp only [List.find?_cons, Bool.eq_false_iff.2 (mt Dev.twinOpen_iff.2 h0), Dev.twinOpen_iff.1 h1]
  rw [Dev.mirChangeEnd, hm]
  dsimp only
  rw [found]

theorem Dev.mirChangeEnd_none (h1 : ¬ d.twinOpen 1) : d.mirChangeEnd = d.mirPassed q := by
  have found : [0, 1].find? (fun s => d.stgState s == 1 && d.f F.STG_STAT_OWNER s == 6) = none := by
    simp only [List.find?_cons, List.find?_nil, Bool.eq_false_iff.2 (mt Dev.twinOpen_iff.2 h0), Bool.eq_false_iff.2 (mt Dev.twinOpen_iff.2 h1)]
  rw [Dev.mirChangeEnd, hm]
  dsimp only
  rw [found]

end
end

theorem Dev.mirTableOp_executes {cmd dst : Nat} {data : List Nat} (hm : d.mirHead = some (q, .tableOp cmd dst data)) :
    let e := data.zipIdx.foldl (fun d p => d.setI F.CLS_UPD_DATA_DATA p.2 p.1) (d.mirPassed q)
    let r := e.updOp false (cmd % 16) cmd dst
    d.mirTableOp = if r.1 = 0 then r.2 else r.2.mirrorErr := by
  intro e r
  rw [Dev.mirTableOp, hm]
  exact if_congr beq_iff_eq rfl rfl

theorem Dev.mirCommit_takes {a k : Nat} (hm : d.mirHead = some (q, .commit a)) (ha : d.accState = 1)
    (hk : (k = 0 ∧ d.stgState 0 = 0) ∨ (k = 1 ∧ d.stgState 0 ≠ 0 ∧ d.stgState 1 = 0)) :
    d.mirCommit = (((d.mirPassed q).stgOpen k 6).stage 6 k accCurOff 4095 a).twinArm k := by
  have free : (if (d.accState == 1) = true then [0, 1].find? (fun s => d.stgState s == 0) else none) = some k := by
    rw [if_pos (beq_iff_eq.2 ha)]
    obtain ⟨rfl, h0⟩ | ⟨rfl, h0, h1⟩ := hk
    · exact List.find?_cons_of_pos (beq_iff_eq.2 h0)
    · rw [List.find?_cons_of_neg (by simpa using h0)]
      exact List.find?_cons_of_pos (beq_iff_eq.2 h1)
  rw [Dev.mirCommit, hm]
  dsimp only
  rw [free]

/-! BUCKET and STASH, BULK_END, SWAP and ACCESSION. -/

theorem Dev.mirBucket_writes {b i : Nat} {sl : List Nat} (hm : d.mirHead = some (q, .bucket b i sl)) (hon : d.on (bankDomain b) = true) :
    d.mirBucket = ((d.mirPassed q).setSlots (b * 65536 + 8 * i) sl).stashCount := by
  rw [Dev.mirBucket, hm]
  exact if_pos hon

theorem Dev.mirStash_writes {i : Nat} {sl : List Nat} (hm : d.mirHead = some (q, .stash i sl)) (hon : d.on 14 = true) :
    d.mirStash = ((d.mirPassed q).setSlots (stashBase + i / 8 * 8) sl).stashCount := by
  rw [Dev.mirStash, hm]
  exact if_pos hon

theorem Dev.mirBulkEnd_applied (hm : d.mirHead = some (q, .bulkEnd)) (hp : d.twinPending = false) :
    let e := d.mirPassed q
    d.mirBulkEnd = if e.f F.TWN_STAT_STATE = 4 ∧ e.twn.redo = false then e.nowPaired else e := by
  intro e
  rw [Dev.mirBulkEnd, hm]
  refine (if_neg (ne_true_of_eq_false hp)).trans (if_congr ?_ rfl rfl)
  rw [Bool.and_eq_true, beq_iff_eq, Bool.not_eq_true']

theorem Dev.mirSwap_takes (hm : d.mirHead = some (q, .swap)) : d.mirSwap = ((d.mirPassed q).set F.TWN_STAT_SOURCE 1).twinCast := by
  rw [Dev.mirSwap, hm]

theorem Dev.mirAccession_loads {a : Nat} (hm : d.mirHead = some (q, .accession a)) :
    let e := (d.mirPassed q).set F.CLS_ACC_CUR_CUR a
    let e : Dev := { e with twn := { e.twn with redo := false } }
    d.mirAccession = if e.f F.TWN_STAT_STATE = 5 then e.startSync else e := by
  intro e0 e
  rw [Dev.mirAccession, hm]
  exact if_congr beq_iff_eq rfl rfl

end

/-- Settles O60: a block sent by what is due, a block received by its header, the heartbeats and failover, and each record at the sink. What the
rules leave open here is log entry 16. -/
theorem twinLinkAndMirror : Obligations.TwinLinkAndMirror := by
  refine ⟨?sent, ?received, ?heartbeat, ?missed, ?early, ?detection, ?record⟩
  case sent =>
    intro s hon d hx st sends
    have row {e : Dev} (he : s.dev.tlTx = e) : exec .tlBlockTx s = .next (s.after e) := (exec_tlBlockTx s).trans (run_after s _ _ he)
    refine ⟨fun hst hl => row (Dev.tlTx_locking hon hx hst hl), fun hst hl => row (Dev.tlTx_training hon hx hst hl), fun hst => ?_⟩
    exact ⟨fun hq => row (Dev.tlTx_heartbeat hon hx hst hq), fun hq hm => row (Dev.tlTx_message hon hx hst hq hm),
      fun hq hm => row (Dev.tlTx_mirror hon hx hst hq hm)⟩
  case received =>
    intro commas codeOk octets s hon hst hx d ty seq valid a bad n b good crcOk
    have row {e : Dev} (he : Dev.tlRx commas codeOk octets s.dev = e) : exec (.tlBlockRx commas codeOk octets) s = .next (s.after e) :=
      (exec_tlBlockRx commas codeOk octets s).trans (run_after s _ _ he)
    refine ⟨fun hl => row (Dev.tlRx_locking hon hst hx hl), fun hl hlen => ?_⟩
    obtain ⟨invalid, taken⟩ := Dev.tlRx_locked (commas := commas) (codeOk := codeOk) hon hst hx hl hlen
    refine ⟨fun hv ha hn => row ((invalid hv).trans ?_), fun hv h => row ((invalid hv).trans ?_), fun hv hc ht => row ((taken hv).trans ?_),
      fun hv hc ht => row ((taken hv).trans ?_), fun hv hc => row ((taken hv).trans ?_)⟩
    · exact if_pos (Bool.and_eq_true_iff.2 ⟨Dev.b_eq_true.2 ha, beq_iff_eq.2 hn⟩)
    · refine if_neg fun c => ?_
      obtain ⟨ha, hn⟩ := Bool.and_eq_true_iff.1 c
      exact h.elim (Dev.b_eq_true.1 ha) fun h => h (beq_iff_eq.1 hn)
    · exact (if_pos (bne_iff_ne.2 hc)).trans (if_neg (by rw [beq_iff_eq]; exact ht))
    · exact (if_pos (bne_iff_ne.2 hc)).trans (if_pos (beq_iff_eq.2 ht))
    · exact if_neg (by rw [bne_iff_ne]; exact not_not.2 hc)
  case heartbeat =>
    intro w0 w1 w2 s hb v d0 d1 d2 d e0 yields e
    have row {e : Dev} (he : s.dev.heartbeatRx = e) : exec .heartbeatRx s = .next (s.after e) := (exec_heartbeatRx s).trans (run_after s _ _ he)
    refine ⟨fun h4 h8 hen => row ((Dev.heartbeatRx_shows hb).trans (if_pos ?_)), fun h => row ((Dev.heartbeatRx_shows hb).trans (if_neg ?_))⟩
    · exact Bool.and_eq_true_iff.2 ⟨Bool.and_eq_true_iff.2 ⟨h4, beq_iff_eq.2 h8⟩, Dev.b_eq_true.2 hen⟩
    · intro c
      obtain ⟨c, hen⟩ := Bool.and_eq_true_iff.1 c
      obtain ⟨h4, h8⟩ := Bool.and_eq_true_iff.1 c
      exact h.elim (fun h => Bool.noConfusion (h4.symm.trans h)) fun h => h.elim (fun h => h (beq_iff_eq.1 h8)) (Dev.b_eq_true.1 hen)
  case missed =>
    intro s hen hon hb z saw d e
    have row {e : Dev} (he : s.dev.heartbeatLost = e) : exec .heartbeatTimeout s = .next (s.after e) :=
      (exec_heartbeatTimeout s).trans (run_after s _ _ he)
    exact ⟨fun h => row ((Dev.heartbeatLost_counts hen hon hb).trans (if_pos h)),
      fun h => row ((Dev.heartbeatLost_counts hen hon hb).trans (if_neg (not_not.2 h)))⟩
  case early =>
    intro s hb
    exact (exec_heartbeatTimeout s).trans (run_after s _ _ (if_pos (by simp [hb])))
  case detection =>
    intro d how open' ready e
    have able : (d.tst != 4 || d.f F.TDS_SYNC_STAT_STATE != 2) = true ↔ ¬ ready := by
      rw [Bool.or_eq_true, bne_iff_ne, bne_iff_ne]
      exact Decidable.not_and_iff_not_or_not.symm
    exact ⟨Dev.detect_closed, fun ho hr => (Dev.detect_open ho).trans (if_pos (able.2 hr)),
      fun ho hr => (Dev.detect_open ho).trans (if_neg fun c => able.1 c hr)⟩
  case record =>
    intro q m s hm d mine
    refine ⟨?reg, ?change, ?table, ?commit, ?bucket, ?stash, ?bulk, ?swap, ?accession⟩
    case reg =>
      rintro off val rfl
      have row {e : Dev} (he : s.dev.mirReg = e) : exec .mirrorReg s = .next (s.after e) := (exec_mirrorReg s).trans (run_after s _ _ he)
      refine ⟨fun hk => row (Dev.mirReg_unmirrored hm hk), fun hk => ⟨fun hs => row (Dev.mirReg_waits hm hk hs), fun k e hs => ?_⟩⟩
      exact ⟨fun hf => row ((Dev.mirReg_stages hm hk hs).trans (if_pos hf)), fun hf => row ((Dev.mirReg_stages hm hk hs).trans (if_neg hf))⟩
    case change =>
      rintro rfl
      have row {e : Dev} (he : s.dev.mirChangeEnd = e) : exec .mirrorChangeEnd s = .next (s.after e) :=
        (exec_mirrorChangeEnd s).trans (run_after s _ _ he)
      exact ⟨fun h0 => row (Dev.mirChangeEnd_first hm h0), fun h0 h1 => row (Dev.mirChangeEnd_second hm h0 h1),
        fun h0 h1 => row (Dev.mirChangeEnd_none hm h0 h1)⟩
    case table =>
      rintro cmd dst data rfl e r
      have row {e : Dev} (he : s.dev.mirTableOp = e) : exec .mirrorTableOp s = .next (s.after e) := (exec_mirrorTableOp s).trans (run_after s _ _ he)
      exact ⟨fun h => row ((Dev.mirTableOp_executes hm).trans (if_pos h)), fun h => row ((Dev.mirTableOp_executes hm).trans (if_neg h))⟩
    case commit =>
      rintro a k rfl ha hk
      exact (exec_mirrorCommit s).trans (run_after s _ _ (Dev.mirCommit_takes hm ha hk))
    case bucket =>
      rintro b i sl rfl hon
      exact (exec_mirrorBucket s).trans (run_after s _ _ (Dev.mirBucket_writes hm hon))
    case stash =>
      rintro i sl rfl hon
      exact (exec_mirrorStash s).trans (run_after s _ _ (Dev.mirStash_writes hm hon))
    case bulk =>
      rintro rfl hp
      have row {e : Dev} (he : s.dev.mirBulkEnd = e) : exec .mirrorBulkEnd s = .next (s.after e) := (exec_mirrorBulkEnd s).trans (run_after s _ _ he)
      refine ⟨fun h4 hr => row ((Dev.mirBulkEnd_applied hm hp).trans (if_pos ⟨h4, hr⟩)),
        fun h => row ((Dev.mirBulkEnd_applied hm hp).trans (if_neg ?_))⟩
      rintro ⟨h4, hr⟩
      exact h.elim (fun h => h h4) fun h => Bool.noConfusion (hr.symm.trans h)
    case swap =>
      rintro rfl
      exact (exec_mirrorSwap s).trans (run_after s _ _ (Dev.mirSwap_takes hm))
    case accession =>
      rintro a rfl e0 e
      have row {e : Dev} (he : s.dev.mirAccession = e) : exec .mirrorAccession s = .next (s.after e) :=
        (exec_mirrorAccession s).trans (run_after s _ _ he)
      exact ⟨fun h => row ((Dev.mirAccession_loads hm).trans (if_pos h)), fun h => row ((Dev.mirAccession_loads hm).trans (if_neg h))⟩

end Sys2Proof.Machine
end
